-- ==== Sys2Proof/Word.lean ====
section
/-! DEFINITION. The machine word and byte (R7: registers and Filsy registers are 32 bits wide), and their plainest
conversions. -/

namespace Sys2Proof

/-- A register's word. -/
abbrev Word := BitVec 32
/-- A byte of memory, of a record or of a frame. -/
abbrev Byte := BitVec 8

namespace Machine

/-- The `n` low bits of a natural number as a word. -/
abbrev w32 (n : Nat) : Word := BitVec.ofNat 32 n

end Machine
end Sys2Proof
end

