-- ==== Sys2Proof/Machine/CellTypes.lean ====
section
/-! DEFINITION. The analog side's readings (command operands) and its state that is no register (chapters 03 and 04). -/

namespace Sys2Proof.Machine

/-- What the excitation monitor reads in one check of a cell (R77): delivered currents in nA and terminal voltages in µV of sources A
and B, the bridge-voltage source's level in µV and current in nA, whether that source is at its 32 mA limit, and the voltage
sensed between REFP and REFN in µV. -/
structure ExcRead where
  cell : Fin 32
  iaNa : Nat
  vaUv : Int
  ibNa : Nat
  vbUv : Int
  bvUv : Int
  bvNa : Nat
  limit : Bool
  refUv : Int
  deriving DecidableEq, Repr

/-- What a chain has for one sample (R96, R102): for each range, the filter's sum over the window's clocks in that range, blanked ones apart, each
clock's quantity referred to range 0, in pV (charge mode: in aC, from the zero in effect at that clock); the voltage between REFP and REFN in pV
(bridge mode); whether the window holds a clock above 125 % of the range (R118); the last LT in the window at which a terminal of the cell was
outside the common-mode range (R34); and the mains tracker's spectral estimate in mHz (R116; used where the tracker uses its fallback channel). -/
structure SampleRead where
  parts : List Int
  ref : Int
  ovr : Bool
  cm : Option Nat
  mains : Nat
  deriving DecidableEq, Repr

/-- What a chain has at a reset (R105, R106, R109): the quantity that each of the 32 clocks before the blank stands for, oldest first, in pV
(charge mode: in aC from the zero in effect), and the voltage between REFP and REFN in pV. -/
structure ResetRead where
  bits : List Int
  ref : Int
  deriving DecidableEq, Repr

/-- The input at the last clock before the blank. -/
def ResetRead.last (r : ResetRead) : Int := r.bits.getLast?.getD 0

/-- A monitored source (R78, R80): its confirmed classes, the checks in a row that disagree with each class's state, since when
it is switched off, and until when its checks are suspended. -/
structure SrcMon where
  confirmed : List Nat
  runs : List (Nat × Nat)
  off : Option Nat
  quietTo : Nat
  deriving DecidableEq, Repr

/-- A source without faults. -/
def SrcMon.ok : SrcMon := ⟨[], [], none, 0⟩

/-- A lead measurement that runs (R83): the channel, its start L, the phase reached (0 baseline, 1 diverted, 2 joined, 3 integrating,
4 diverted again), the baseline and second readings in nV, the lead source's measured current in nA. -/
structure LeadRun where
  chan : Nat
  at_ : Nat
  phase : Nat
  base : Int
  second : Int
  iNa : Nat
  deriving DecidableEq, Repr

/-- A channel's lead measurements (R84 to R87): the start measurement is still to complete, it waits for another one of the cell,
the end of the last one, the loop values beside the LTs they were measured at, class LEAD confirmed, the last cycle it fell due in under MODE 2. -/
structure LeadSt where
  start : Bool
  waits : Bool
  endLt : Nat
  loops : List (Nat × Nat)
  ovr : Bool
  cycle : Option Word
  deriving DecidableEq, Repr

/-- No lead measurement yet. -/
def LeadSt.none_ : LeadSt := ⟨false, false, 0, [], false, none⟩

/-- The switches of a cell as they stand (R66, R71): the terminals joined to the channels' inputs, the terminals the sources drive and the
reference sense, 15 where nothing is joined (a source then drives its dummy load), and the terminals on RTN and DIS. -/
structure Switches where
  chp : List Nat
  chn : List Nat
  isa : Nat
  isb : Nat
  bv : Nat
  refp : Nat
  refn : Nat
  rtn : Nat
  dis : Nat
  deriving DecidableEq, Repr

/-- Everything open. -/
def Switches.open_ : Switches := ⟨[15, 15, 15, 15], [15, 15, 15, 15], 15, 15, 15, 15, 15, 0, 0⟩

/-- A cell beside its registers: when its configuration was complete (waiting for step 0), running, the start of its step, the phase of
a switching sequence (0 none, 1 commanded open, 2 discharging, 3 discharged, 4 closing) and the channels it discharges, the
switches, the sources' monitors (0 A, 1 B, 2 bridge), lead measurements, the cold-junction sensor's runs, the steps that samples still to come
belong to with their starts, oldest first (R70), and the LTs at which a terminal was outside the common-mode range (R34). -/
structure CellSt where
  configAt : Option Nat
  running : Bool
  stepAt : Nat
  phase : Nat
  disCh : List Nat
  sw : Switches
  mons : List (Nat × SrcMon)
  lead : Option LeadRun
  leads : List (Nat × LeadSt)
  leadFree : Nat
  cjBad : Nat
  cjGood : Nat
  cjFault : Bool
  hist : List (Nat × Nat)
  cm : List Nat
  deriving DecidableEq, Repr

/-- A cell that is not configured. -/
def CellSt.off : CellSt := ⟨none, false, 0, 0, [], Switches.open_, [], none, [], 0, 0, 0, false, [], []⟩

/-- The last up-range (R101, R108): its clock edge, and UPRANGES and UP_SEEN before it. -/
structure UpRange where
  edge : Nat
  count : Nat
  seen : Nat
  deriving DecidableEq, Repr

/-- A channel beside its registers: started, the earliest instant its windows may hold, the next stamp, a sample of the step before that
still leaves with its step, a running blank with the range that follows it and whether a quiet window began it, the clock edges of up-ranges
and blanks, the blanked clocks with what replaces them (R105, in 1/10,912), the charge that each reset took away (R100, R103), the last
up-range, the spans that settle, the end of its last fault, whether the last sample carried OVERRANGE, the burst window (start and samples
left), the last scheduled reset's cycle, the last reset or range change with the one before it, and the rate in use. -/
structure ChanSt where
  on : Bool
  from_ : Nat
  next : Nat
  last : Option (Nat × Nat)
  blankAt : Option Nat
  newRange : Nat
  quiet : Bool
  stitch : List Nat
  filled : List (Nat × Int)
  zeros : List (Nat × Int)
  up : Option UpRange
  settle : List (Nat × Nat)
  faultEnd : Option Nat
  prevOver : Bool
  burst : Option (Nat × Nat)
  schedDone : Option Word
  lastChange : Nat
  changeWas : Nat
  rate : Nat
  deriving DecidableEq, Repr

/-- A channel that is not started. -/
def ChanSt.off : ChanSt := ⟨false, 0, 0, none, none, 0, false, [], [], [], none, [], none, false, none, none, 0, 0, 0⟩

end Sys2Proof.Machine
end

