-- ==== Sys2Proof/Machine/Tab.lean ====
section
/-! DEFINITION. Sparse tables: a list of (key, value) pairs in one canonical form (keys strictly rising, no value equal to
what an unlisted key reads as). Memory, the register file and the per-unit records of State are such tables; equal
tables are equal lists. -/

namespace Sys2Proof.Machine

/-- What the table holds at key `k`; an unlisted key reads as `d k`. -/
def tabGet {α : Type} (d : Nat → α) : List (Nat × α) → Nat → α
  | [], k => d k
  | (j, v) :: t, k => if j = k then v else tabGet d t k

/-- The table without key `k`. -/
def tabDrop {α : Type} (k : Nat) : List (Nat × α) → List (Nat × α)
  | [] => []
  | (j, v) :: t => if j = k then tabDrop k t else (j, v) :: tabDrop k t

/-- Key `k` with value `v` put before the first larger key. -/
def tabInsert {α : Type} (k : Nat) (v : α) : List (Nat × α) → List (Nat × α)
  | [] => [(k, v)]
  | (j, u) :: t => if k < j then (k, v) :: (j, u) :: t else (j, u) :: tabInsert k v t

/-- The table with `v` at key `k`, in canonical form. -/
def tabSet {α : Type} [DecidableEq α] (d : Nat → α) (k : Nat) (v : α) (l : List (Nat × α)) : List (Nat × α) :=
  if v = d k then tabDrop k l else tabInsert k v (tabDrop k l)

/-- Every key of the table is above `k`. -/
def tabAbove {α : Type} (k : Nat) : List (Nat × α) → Bool
  | [] => true
  | (j, _) :: t => Nat.blt k j && tabAbove k t

/-- The canonical form: keys strictly rising, no value that an unlisted key reads as. -/
def tabWf {α : Type} [DecidableEq α] (d : Nat → α) : List (Nat × α) → Bool
  | [] => true
  | (j, v) :: t => tabAbove j t && !decide (v = d j) && tabWf d t

/-- The keys the table lists. -/
def tabKeys {α : Type} (l : List (Nat × α)) : List Nat := l.map (fun c => c.1)

end Sys2Proof.Machine
end

