-- ==== Sys2Proof/Machine/Record.lean ====
section
/-! DEFINITION. Records (R287 to R297): the header, the payloads as bytes, the CRC-32C trailer, SEQ order, and the GAP,
MARK and ABORTED forms. -/

namespace Sys2Proof.Machine

/-- A record without its CRC: header fields of R287 and the payload's bytes. The stamp is a count of nanoseconds. -/
structure Rec where
  ty : Nat
  flags : Byte
  source : Word
  seq : Word
  lt : Nat
  cycle : Word
  payload : List Byte
  deriving DecidableEq, Repr

/-- `n` as `k` little-endian bytes (R8). -/
def leBytes : Nat → Nat → List Byte
  | 0, _ => []
  | k + 1, n => BitVec.ofNat 8 n :: leBytes k (n / 256)

/-- The number that little-endian bytes spell (R8). -/
def leVal : List Byte → Nat
  | [] => 0
  | b :: t => b.toNat + 256 * leVal t

/-- Bytes `i` to `i + k - 1` of a byte string as a number; missing bytes read 0. -/
def leAt (l : List Byte) (i k : Nat) : Nat := leVal ((l.drop i).take k)

/-- LENGTH: 24 header bytes, the payload, 4 CRC bytes (R287). -/
def Rec.length (r : Rec) : Nat := 28 + r.payload.length

/-- The 24 header bytes (R287). -/
def Rec.header (r : Rec) : List Byte :=
  leBytes 1 r.ty ++ [r.flags] ++ leBytes 2 r.length ++ leBytes 4 r.source.toNat ++ leBytes 4 r.seq.toNat
    ++ leBytes 8 r.lt ++ leBytes 4 r.cycle.toNat

/-- One bit step of the reflected CRC-32C (Castagnoli) division. -/
def crcBit (c : Word) : Word := if c.getLsbD 0 then (c >>> 1) ^^^ 0x82F63B78#32 else c >>> 1

/-- CRC-32C register after one more byte. -/
def crcByte (c : Word) (b : Byte) : Word :=
  crcBit (crcBit (crcBit (crcBit (crcBit (crcBit (crcBit (crcBit (c ^^^ b.setWidth 32))))))))

/-- CRC-32C of a byte string. -/
def crc32c (l : List Byte) : Word := ~~~ (l.foldl crcByte 0xFFFFFFFF#32)

/-- The record's CRC, over header and payload (R287). -/
def Rec.crc (r : Rec) : Word := crc32c (r.header ++ r.payload)

/-- The record's bytes: header, payload, CRC over both (R287). -/
def Rec.bytes (r : Rec) : List Byte := r.header ++ r.payload ++ leBytes 4 r.crc.toNat

/-- The record that bytes spell, and whether its CRC holds; none where LENGTH breaks R287 or bytes are missing. -/
def Rec.ofBytes (l : List Byte) : Option (Rec × Bool) :=
  let len := leAt l 2 2
  if 28 ≤ len ∧ len ≤ 4096 ∧ len % 4 = 0 ∧ len ≤ l.length then
    some ({ ty := leAt l 0 1, flags := BitVec.ofNat 8 (leAt l 1 1), source := w32 (leAt l 4 4), seq := w32 (leAt l 8 4),
            lt := leAt l 12 8, cycle := w32 (leAt l 20 4), payload := (l.take (len - 4)).drop 24 },
          decide (crc32c (l.take (len - 4)) = w32 (leAt l (len - 4) 4)))
  else none

/-- `a` is later than `b` (R289): (a − b) mod 2^32 from 1 to 2^31 − 1. -/
def seqLater (a b : Word) : Bool :=
  let d := (a - b).toNat
  decide (1 ≤ d) && decide (d ≤ 0x7FFFFFFF)

/-- Cycle `k` is later than the last one taken, if there was one. -/
def laterCycle (done : Option Word) (k : Word) : Bool :=
  match done with
  | some d => seqLater k d
  | none => true

/-! Record types (R290). -/
abbrev tySamples : Nat := 1
abbrev tyCycle : Nat := 2
abbrev tyVerdict : Nat := 3
abbrev tyCapture : Nat := 4
abbrev tyEvent : Nat := 5
abbrev tyGap : Nat := 6
abbrev tyMark : Nat := 7
abbrev tyLog : Nat := 8
abbrev tyCore : Nat := 9
abbrev tyHealth : Nat := 10

/-- A TYPE that a record may have where it is offered: 1 to 10 (R290). -/
def Rec.typeOk (r : Rec) : Bool := decide (1 ≤ r.ty) && decide (r.ty ≤ 10)

/-! FLAGS bits (R291). -/
abbrev flStitched : Nat := 0
abbrev flSettling : Nat := 1
abbrev flOverrange : Nat := 2
abbrev flExcFault : Nat := 3
abbrev flLate : Nat := 4
abbrev flHoldover : Nat := 5
abbrev flAborted : Nat := 6
abbrev flThrottled : Nat := 7

/-- One flag set in a FLAGS byte: a carrier only ever adds flags (R291). -/
def flagOn (i : Nat) (b : Byte) : Byte := b ||| (1#8 <<< i)

/-- The stream a record belongs to: line address, tile, stream number (SOURCE [31:16]) and TYPE (R288). -/
def streamKey (source : Word) (ty : Nat) : Nat := source.toNat / 65536 * 256 + ty

/-- The stream of a record. -/
def Rec.key (r : Rec) : Nat := streamKey r.source r.ty

/-- SOURCE of a stream (R287): line address, tile field, stream number, generation. -/
def sourceWord (line tile stream gen : Nat) : Word :=
  w32 (line % 32 * 0x8000000 + tile % 8 * 0x1000000 + stream % 256 * 65536 + gen % 65536)

/-- The SOURCE's tile field (R287). -/
def srcTile (w : Word) : Nat := w.toNat / 0x1000000 % 8
/-- The SOURCE's stream number (R287). -/
def srcStream (w : Word) : Nat := w.toNat / 65536 % 256
/-- The SOURCE's line address (R287). -/
def srcLine (w : Word) : Nat := w.toNat / 0x8000000 % 32
/-- The SOURCE's generation (R287). -/
def srcGen (w : Word) : Nat := w.toNat % 65536

/-- The ABORTED form (R293): the header with ABORTED set, no payload. -/
def Rec.aborted (r : Rec) : Rec := { r with flags := flagOn flAborted r.flags, payload := [] }

/-- A GAP record's or MARK record's TYPE (R297). -/
def Rec.isGapMark (r : Rec) : Bool := r.ty == tyGap || r.ty == tyMark

/-- One GAP entry (R294). -/
structure GapEntry where
  source : Word
  stype : Nat
  firstSeq : Word
  count : Nat
  ltFrom : Nat
  ltTo : Nat
  deriving DecidableEq, Repr

/-- The 32 bytes of a GAP entry (R294). -/
def GapEntry.bytes (e : GapEntry) : List Byte :=
  leBytes 4 e.source.toNat ++ leBytes 1 e.stype ++ leBytes 3 0 ++ leBytes 4 e.firstSeq.toNat ++ leBytes 4 e.count
    ++ leBytes 8 e.ltFrom ++ leBytes 8 e.ltTo

/-- A GAP entry read back from its 32 bytes. -/
def GapEntry.ofBytes (l : List Byte) : GapEntry :=
  { source := w32 (leAt l 0 4), stype := leAt l 4 1, firstSeq := w32 (leAt l 8 4), count := leAt l 12 4,
    ltFrom := leAt l 16 8, ltTo := leAt l 24 8 }

/-- A GAP payload: CAUSE, QUEUE, NENT, then the entries (R294). -/
def gapPayload (cause queue : Nat) (es : List GapEntry) : List Byte :=
  leBytes 1 cause ++ leBytes 1 queue ++ leBytes 2 es.length ++ leBytes 4 0 ++ es.flatMap GapEntry.bytes

/-- The `n` entries that follow in a byte string. -/
def gapEntriesFrom : Nat → List Byte → List GapEntry
  | 0, _ => []
  | n + 1, l => GapEntry.ofBytes (l.take 32) :: gapEntriesFrom n (l.drop 32)

/-- The entries of a GAP record (R294). -/
def Rec.gapEntries (r : Rec) : List GapEntry := gapEntriesFrom (leAt r.payload 2 2) (r.payload.drop 8)

/-- A GAP's causes (R294). -/
abbrev causeFull : Nat := 1
abbrev causeReset : Nat := 2
abbrev causeMemory : Nat := 3
abbrev causeLink : Nat := 4
abbrev causeOverrun : Nat := 5
abbrev causeDest : Nat := 6
abbrev causeStore : Nat := 7

/-- A MARK payload (R296): KIND and NEXT_GEN. -/
def markPayload (kind nextGen : Nat) : List Byte := leBytes 1 kind ++ leBytes 1 0 ++ leBytes 2 nextGen ++ leBytes 4 0

/-- MARK kinds (R296). -/
abbrev markGeneration : Nat := 0
abbrev markStop : Nat := 1
abbrev markResume : Nat := 2

/-- Two GAP entries of one stream whose SEQ ranges join become one (R297, R303); otherwise none. -/
def GapEntry.join (a b : GapEntry) : Option GapEntry :=
  if a.source = b.source ∧ a.stype = b.stype ∧ b.firstSeq = a.firstSeq + w32 a.count then
    some { a with count := a.count + b.count, ltFrom := min a.ltFrom b.ltFrom, ltTo := max a.ltTo b.ltTo }
  else none

/-- An entry merged into a list of entries: joined where a range of its stream ends where it begins, else put last. -/
def gapMerge (e : GapEntry) : List GapEntry → List GapEntry
  | [] => [e]
  | x :: t =>
    match x.join e with
    | some y => y :: t
    | none => x :: gapMerge e t

/-- The entry with SOURCE 0xFFFF_FFFF that stands for the streams not listed (R303), grown by one more loss. -/
def gapOthers (x e : GapEntry) : GapEntry :=
  { source := 0xFFFFFFFF#32, stype := 0, firstSeq := 0#32, count := x.count + e.count,
    ltFrom := min x.ltFrom e.ltFrom, ltTo := max x.ltTo e.ltTo }

/-- A lost record's entry merged under the 64-entry limit of an episode (R303): where a 65th entry would be needed, the
64th becomes the one that stands for the rest. -/
def gapAdd (e : GapEntry) (l : List GapEntry) : List GapEntry :=
  let m := gapMerge e l
  if m.length ≤ 64 then m
  else l.take 63 ++ (l.drop 63).map (fun x => gapOthers x e)

/-- The entry that stands for one record. -/
def Rec.lossEntry (r : Rec) : GapEntry :=
  { source := r.source, stype := r.ty, firstSeq := r.seq, count := 1, ltFrom := r.lt, ltTo := r.lt }

/-- The pieces of at most 126 entries in which a longer list of entries is written (R294). -/
def gapPieces : Nat → List GapEntry → List (List GapEntry)
  | 0, _ => []
  | _ + 1, [] => []
  | n + 1, l => l.take 126 :: gapPieces n (l.drop 126)

/-- A pending GAP with the MARK records kept behind it (R297, R303, R308). -/
structure PendGap where
  entries : List GapEntry
  marks : List Rec
  deriving DecidableEq, Repr

/-- A record that cannot be written merged into a pending GAP (R297, R303): a MARK is kept, a GAP's entries are merged,
another record is entered as lost. -/
def PendGap.add (r : Rec) (p : PendGap) : PendGap :=
  if r.ty = tyMark then { p with marks := p.marks ++ [r] }
  else if r.ty = tyGap then { p with entries := r.gapEntries.foldl (fun l e => gapAdd e l) p.entries }
  else { p with entries := gapAdd r.lossEntry p.entries }

/-- The same for a GAP that names every stream: no limit of entries (R294, R304, R366). -/
def PendGap.addAll (r : Rec) (p : PendGap) : PendGap :=
  if r.ty = tyMark then { p with marks := p.marks ++ [r] }
  else if r.ty = tyGap then { p with entries := r.gapEntries.foldl (fun l e => gapMerge e l) p.entries }
  else { p with entries := gapMerge r.lossEntry p.entries }

/-- It holds nothing. -/
def PendGap.isEmpty (p : PendGap) : Bool := p.entries.isEmpty && p.marks.isEmpty

/-- A pending GAP that holds nothing. -/
def PendGap.empty : PendGap := ⟨[], []⟩

/-- The bytes a pending GAP and its MARK records need: one GAP record for each 126 entries (R294), 36 for each MARK. -/
def PendGap.size (p : PendGap) : Nat :=
  36 * ((p.entries.length + 125) / 126) + 32 * p.entries.length + 36 * p.marks.length

end Sys2Proof.Machine
end

