-- ==== Sys2Proof/Machine/Types.lean ====
section
/-! DEFINITION. The pieces of State that are no registers: what the spec gives the queues, the ladles, the memories' codes, the
trouble log, the action table, the outputs, the captures, the encoders, the cycle sources, the timers and the cores. -/

namespace Sys2Proof.Machine

/-! ## Queues and ladles (chapter 10) -/

/-- A queue's consumer (R301, R304): the two copies of how many records it has passed, and the GAP and MARKs for records taken away from it
alone. -/
structure QCons where
  head : Nat
  headDup : Nat
  lost : PendGap
  deriving DecidableEq, Repr

/-- A consumer that has passed nothing. -/
def QCons.start : QCons := ⟨0, 0, PendGap.empty⟩

/-- A queue's reset in progress (R304, R305): its cause, and the entries and MARKs that its GAP will hold. -/
structure QReset where
  cause : Nat
  gap : PendGap
  deriving DecidableEq, Repr

/-- The open SAMPLES record of one channel in TQ t.0 (R292): scan step, rate, burst flag, mode, stamp of the first sample,
the sample words, and whether it has been held at throttle level 1 or 2 (R291). -/
structure OpenSamples where
  step : Nat
  rate : Nat
  burst : Bool
  mode : Nat
  lt : Nat
  words : List Word
  thr : Bool
  deriving DecidableEq, Repr

/-- A run of samples that TQ t.0 could not take (R292): first and last stamp. -/
structure LostRun where
  ltFrom : Nat
  ltTo : Nat
  deriving DecidableEq, Repr

/-- A core's push in progress (R306): the core and the address of the record in its memory. -/
structure PushJob where
  core : Nat
  addr : Nat
  deriving DecidableEq, Repr

/-- A core's pop in progress (R306): the destination and the record being copied. -/
structure PopJob where
  core : Nat
  addr : Nat
  record : Rec
  deriving DecidableEq, Repr

/-- One of the 64 queues (R298 to R306): the complete records held (oldest first), how many records it has ever removed,
the open samples and lost runs of each channel (TQ t.0), its consumers, the pending GAP, the stamp of the last record of
each stream that every holding consumer passed, a reset that runs, a push and a pop that run, and the two copies of
the tail in bytes. -/
structure Queue where
  recs : List Rec
  first : Nat
  opens : List (Nat × OpenSamples)
  runs : List (Nat × LostRun)
  cons : List (Nat × QCons)
  pend : Option PendGap
  passed : List (Nat × Nat)
  resetting : Option QReset
  push : Option PushJob
  pop : Option PopJob
  tail : Nat
  tailDup : Nat
  deriving DecidableEq, Repr

/-- An empty queue. -/
def Queue.empty : Queue := ⟨[], 0, [], [], [], none, [], none, none, none, 0, 0⟩

/-- One ladle (R307, R308, R310): the descriptor served last, the pending GAP of each destination that is no queue, and the
records a triggered run of each descriptor has still to move (no entry: no run), and, for a merged second run, those that were complete
when its request came. -/
structure Ladle where
  last : Nat
  pend : List (Nat × PendGap)
  runs : List (Nat × Nat)
  again : List (Nat × Nat)
  deriving DecidableEq, Repr

/-- A ladle at rest. -/
def Ladle.idle : Ladle := ⟨0, [], [], []⟩

/-! ## Memories' codes (R283 to R285) -/

/-- The errors a 64-byte line holds: its words with a single-bit error, its words the inner code cannot correct (bit 0 to 7 the
data words, bit 8 the check word), and, of a poisoned line, the words not yet rewritten. -/
structure LineErr where
  single : Nat
  double : Nat
  poison : Nat
  deriving DecidableEq, Repr

/-- A line without errors. -/
def LineErr.clean : LineErr := ⟨0, 0, 0⟩

/-- A memory's scrubber: the line it reads next and the corrections of this pass (R284, R286). -/
structure Scrub where
  next : Nat
  corrections : Nat
  deriving DecidableEq, Repr

/-! ## The trouble log (R431, R432) -/

/-- A trouble-log entry (R432). -/
structure LogEntry where
  index : Nat
  lt : Nat
  event : Nat
  mode : Nat
  holdover : Bool
  lost : Bool
  kind : Nat
  gen : Nat
  d0 : Word
  d1 : Word
  d2 : Word
  deriving DecidableEq, Repr

/-- The 32 bytes of an entry (R432). -/
def LogEntry.bytes (e : LogEntry) : List Byte :=
  leBytes 4 e.index ++ leBytes 8 e.lt ++ leBytes 1 e.event ++ leBytes 1 e.mode
    ++ leBytes 1 ((if e.holdover then 1 else 0) + (if e.lost then 2 else 0)) ++ leBytes 1 0
    ++ leBytes 2 e.kind ++ leBytes 2 e.gen ++ leBytes 4 e.d0.toNat ++ leBytes 4 e.d1.toNat ++ leBytes 4 e.d2.toNat

/-- The form in which a lost entry reads (R434). -/
def LogEntry.lostForm (i : Nat) : LogEntry := ⟨i, 0, 0, 0, false, true, 0, 0, 0#32, 0#32, 0#32⟩

/-! ## Timed I/O (chapter 08) -/

/-- A target of an action: an LT, or a cycle and an angle of a cycle source (R165, R231). -/
structure Target where
  cyc : Bool
  lt : Nat
  src : Nat
  cycle : Word
  angle : Word
  deriving DecidableEq, Repr

/-- One of the 512 entries of the action table (R229, R241). `state` is 0 free, 1 waiting, 2 fixed, 3 lane reserve; `est` says that
an estimate stands in `targetLt`; `late` that the entry executes as LATE; `order` is the order of entry. -/
structure ActEntry where
  output : Nat
  level : Bool
  lane : Bool
  state : Nat
  target : Target
  origin : Nat
  from_ : Nat
  reqId : Word
  est : Bool
  targetLt : Nat
  launchLt : Nat
  late : Bool
  order : Nat
  laneNo : Nat
  deriving DecidableEq, Repr

/-- A free entry. -/
def ActEntry.free : ActEntry :=
  ⟨0, false, false, 0, ⟨false, 0, 0, 0#32, 0#32⟩, 0, 0, 0#32, false, 0, 0, false, 0, 0⟩

/-- An edge whose outcome is settled later (R233): a retry of an output that a fault had switched off. -/
structure Retry where
  entry : ActEntry
  edgeLt : Nat
  deriving DecidableEq, Repr

/-- One output beside its register bits: target LT of its last executed edge, the instant its level last changed, switched off by OVERCURRENT,
the retry that waits for its outcome, and the edges launched but not yet at the contact, oldest first, each with its instant there and the
level before it (R232). -/
structure OutSt where
  lastTarget : Option Nat
  lastEdge : Option Nat
  off : Bool
  retry : Option Retry
  flight : List (Nat × Bool)
  deriving DecidableEq, Repr

/-- An output that has had no edge. -/
def OutSt.idle : OutSt := ⟨none, none, false, none, []⟩

/-- An EVENT record in the order of its stamp (R235): the payload's fields, and whether its outcome is settled. -/
structure EvtRec where
  output : Nat
  outcome : Nat
  entry : ActEntry
  lt : Nat
  ready : Bool
  deriving DecidableEq, Repr

/-- One entry of a CAPTURE record (R216), with the stamps dropped just before it and the last stamp kept before those (R214). -/
structure CapEntry where
  stamp : Nat
  pos : Int
  level : Bool
  index : Bool
  reverse : Bool
  rebased : Bool
  holdover : Bool
  lost : Nat
  lostFrom : Nat
  thr : Bool
  deriving DecidableEq, Repr

/-- A capture unit or an encoder's capture side (R212 to R216): started, the filtered level, the capture queue of at most four
stamps, the record being collected with the LT of its first entry, the stamps dropped since the last kept one. -/
structure CapUnit where
  on : Bool
  level : Bool
  fifo : List CapEntry
  entries : List CapEntry
  openLt : Nat
  dropped : Nat
  lastKept : Nat
  deriving DecidableEq, Repr

/-- A capture unit that is off. -/
def CapUnit.off : CapUnit := ⟨false, false, [], [], 0, 0, 0⟩

/-- An encoder's counter (R218 to R221): the quadrature state (A, B), the counted position, an index edge that acts on the next
count, the stamps of the last counts since the start or since STOPPED cleared (newest first), and the last count's LT. -/
structure EncSt where
  a : Bool
  b : Bool
  pos : Int
  index : Bool
  stamps : List Nat
  lastLt : Nat
  deriving DecidableEq, Repr

/-- An encoder at its start. -/
def EncSt.start : EncSt := ⟨false, false, 0, false, [], 0⟩

/-- A point of a cycle source (R184): position, stamp, and whether its anchor shows HOLDOVER (R188). -/
structure Point where
  pos : Int
  lt : Nat
  hold : Bool
  deriving DecidableEq, Repr

/-- A cycle source as the engines see it (R183, R219, R221, R162): its points or anchors (newest first), counts per cycle, mean time
per count in 2^-8 ns, direction, whether it stands or has no index, and the LT since which it has been available. -/
structure Source where
  pts : List Point
  cpc : Nat
  period : Nat
  reverse : Bool
  stopped : Bool
  noIndex : Bool
  since : Nat
  deriving DecidableEq, Repr

/-- A source that has made no point. -/
def Source.start : Source := ⟨[], 1, 0xFFFFFFFF, false, false, true, 0⟩

/-- A tile timer beside its registers (R223 to R226): the period in effect (R225), a period end and a match that have fallen due
and not acted yet, and a truncation to take at the next tick. -/
structure Timer where
  per : Nat
  endDue : Bool
  matchDue : Bool
  trunc : Bool
  startNext : Bool
  stopNext : Bool
  deriving DecidableEq, Repr

/-- A timer at reset. -/
def Timer.reset : Timer := ⟨0, false, false, false, false, false⟩

/-! ## Filsy cores (chapter 09) -/

/-- An entry of the vat core's return stack (R271). -/
inductive RsKind where
  | call
  | event
  | fault
  deriving DecidableEq, Repr

/-- An entry of the vat core's return stack (R271): kind, address, FLAGS image, iterations left. -/
structure RsEntry where
  kind : RsKind
  addr : Word
  flags : Word
  iter : Nat
  deriving DecidableEq, Repr

/-- A posted store (R251): address, width in bytes, data. -/
structure Posted where
  addr : Nat
  width : Nat
  data : Word
  deriving DecidableEq, Repr

/-- A Filsy core (R242 to R248, R251, R264, R271): general registers (unlisted ones 0), PC, the special registers, the return
stack (newest first), the running repeat's iterations left, posted stores (oldest first), and how the core stands. -/
structure Core where
  g : List (Nat × Word)
  pc : Word
  flags : Word
  rc : Word
  evtPc : Word
  evtFlags : Word
  evtIter : Word
  evtCause : Word
  evtAddr : Word
  vecBase : Word
  en0 : Word
  en1 : Word
  en2 : Word
  pend0 : Word
  pend1 : Word
  pend2 : Word
  dspLo : Word
  dspHi : Word
  rs : List RsEntry
  rep : Option Nat
  posted : List Posted
  running : Bool
  halted : Bool
  waiting : Bool
  stalled : Bool
  held : Bool
  deriving DecidableEq, Repr

/-- A core that has not been started; `large` is its profile (R245: PROF is its only non-zero reset bit). -/
def Core.unstarted (large : Bool) : Core :=
  { g := [], pc := 0#32, flags := if large then 0x40000#32 else 0#32, rc := 0#32, evtPc := 0#32, evtFlags := 0#32,
    evtIter := 0#32, evtCause := 0#32, evtAddr := 0#32, vecBase := 0#32, en0 := 0#32, en1 := 0#32, en2 := 0#32,
    pend0 := 0#32, pend1 := 0#32, pend2 := 0#32, dspLo := 0#32, dspHi := 0#32, rs := [], rep := none, posted := [],
    running := false, halted := false, waiting := false, stalled := false, held := false }

end Sys2Proof.Machine
end

