-- ==== Sys2Proof/Machine/HerdTypes.lean ====
section
/-! DEFINITION. The Herd link's frames and the link's state that is no register (chapter 06). -/

namespace Sys2Proof.Machine

/-- One ROLL entry of a beacon (R157, R160). -/
structure RollEntry where
  token : Word
  status : Byte
  deriving DecidableEq, Repr

/-- One model slot of a beacon (R162). `fresh` says that its publisher wrote it in this circulation, which the beacon source can tell (R163). -/
structure Model where
  owner : Nat
  ownerSrc : Nat
  valid : Bool
  reverse : Bool
  stopped : Bool
  holdover : Bool
  noIndex : Bool
  cycle : Word
  count : Nat
  cpc : Nat
  anchorLt : Nat
  period : Nat
  fresh : Bool
  deriving DecidableEq, Repr

/-- An empty model slot. -/
def Model.empty : Model := ⟨0, 0, false, false, false, false, false, 0#32, 0, 1, 0, 0xFFFFFFFF, false⟩

/-- A beacon's payload (R157): `roll` has the 8 entries and `models` the 4 slots of group BNUM mod 4. -/
structure Beacon where
  leaderLt : Nat
  path : Nat
  bnum : Word
  lineHoldover : Bool
  srcAddr : Nat
  srcRole : Nat
  roster : Word
  present : Word
  roll : List RollEntry
  models : List Model
  deriving DecidableEq, Repr

/-- A PULSE's payload (R154); link stamps in 2^-8 ns. -/
structure Pulse where
  txStamp : Nat
  rxStamp : Nat
  pnum : Word
  addr : Nat
  portB : Bool
  role : Nat
  up : Bool
  wrapped : Bool
  conflict : Bool
  deriving DecidableEq, Repr

/-- A CAL's payload (R153); pair delay in 2^-8 ns. -/
structure Cal where
  addr : Nat
  portB : Bool
  role : Nat
  step : Nat
  delay : Nat
  deriving DecidableEq, Repr

/-- One entry of an ACTION frame (R165). -/
structure ActReq where
  reqId : Word
  output : Byte
  op : Byte
  owner : Nat
  ownerSrc : Nat
  t0 : Word
  t1 : Word
  deriving DecidableEq, Repr

/-- The frame types' payloads (R150); a RECORD carries the record's own CRC as it arrives (R287). -/
inductive Body where
  | beacon (b : Beacon)
  | form (maxLt : Nat) (present : Word) (addr role : Nat)
  | pulse (p : Pulse)
  | cal (c : Cal)
  | claim (takeBnum : Word)
  | action (entries : List ActReq)
  | ack (entries : List (Word × Nat))
  | record (r : Rec) (crc : Word)
  deriving DecidableEq, Repr

/-! ## Payloads as bytes (R8, R149, R153 to R157, R162, R165, R167, R178, R179): little-endian, reserved bytes 0 -/

/-- The SENDER byte of CAL and PULSE (R153). -/
def senderByte (addr : Nat) (portB : Bool) (role : Nat) : Nat := addr % 32 + 32 * portB.toNat + 64 * (role % 4)

/-- The SOURCE byte of BEACON and FORM (R157, R179). -/
def sourceByte (addr role : Nat) : Nat := addr % 32 + 32 * (role % 4)

/-- The 8 bytes of a ROLL entry (R157). -/
def RollEntry.bytes (e : RollEntry) : List Byte := leBytes 4 e.token.toNat ++ [e.status] ++ leBytes 3 0

/-- The 32 bytes of a model slot (R162). -/
def Model.bytes (m : Model) : List Byte :=
  leBytes 1 (m.owner % 32 + 32 * (m.ownerSrc % 4) + 128 * m.valid.toNat)
    ++ leBytes 1 (m.reverse.toNat + 2 * m.stopped.toNat + 4 * m.holdover.toNat + 8 * m.noIndex.toNat) ++ leBytes 2 0
    ++ leBytes 4 m.cycle.toNat ++ leBytes 4 (m.count % 0x100000) ++ leBytes 4 (m.cpc % 0x200000) ++ leBytes 8 m.anchorLt
    ++ leBytes 4 m.period ++ leBytes 4 0

/-- The 224 bytes of a beacon's payload (R157). -/
def Beacon.bytes (b : Beacon) : List Byte :=
  leBytes 8 b.leaderLt ++ leBytes 4 b.path ++ leBytes 4 b.bnum.toNat ++ leBytes 1 b.lineHoldover.toNat ++ leBytes 1 (sourceByte b.srcAddr b.srcRole)
    ++ leBytes 2 0 ++ leBytes 4 b.roster.toNat ++ leBytes 4 b.present.toNat ++ leBytes 4 0
    ++ (List.range 8).flatMap (fun i => (b.roll.getD i ⟨0#32, 0#8⟩).bytes) ++ (List.range 4).flatMap (fun i => (b.models.getD i Model.empty).bytes)

/-- The 24 bytes of a PULSE's payload (R154). -/
def Pulse.bytes (p : Pulse) : List Byte :=
  leBytes 8 p.txStamp ++ leBytes 8 p.rxStamp ++ leBytes 4 p.pnum.toNat ++ leBytes 1 (senderByte p.addr p.portB p.role)
    ++ leBytes 1 (p.up.toNat + 2 * p.wrapped.toNat + 4 * p.conflict.toNat) ++ leBytes 2 0

/-- The 8 bytes of a CAL's payload (R153). -/
def Cal.bytes (c : Cal) : List Byte := leBytes 1 (senderByte c.addr c.portB c.role) ++ leBytes 1 c.step ++ leBytes 2 0 ++ leBytes 4 c.delay

/-- The 16 bytes of an ACTION entry (R165). -/
def ActReq.bytes (r : ActReq) : List Byte :=
  leBytes 4 r.reqId.toNat ++ [r.output, r.op] ++ leBytes 1 (r.owner % 32 + 32 * (r.ownerSrc % 4)) ++ leBytes 1 0 ++ leBytes 4 r.t0.toNat
    ++ leBytes 4 r.t1.toNat

/-- A body's payload bytes. -/
def Body.bytes : Body → List Byte
  | .beacon b => b.bytes
  | .form m p a r => leBytes 8 m ++ leBytes 4 p.toNat ++ leBytes 1 (sourceByte a r) ++ leBytes 3 0
  | .pulse p => p.bytes
  | .cal c => c.bytes
  | .claim n => leBytes 4 n.toNat
  | .action es => leBytes 1 es.length ++ leBytes 3 0 ++ es.flatMap ActReq.bytes
  | .ack es => leBytes 1 es.length ++ leBytes 3 0 ++ es.flatMap (fun e => leBytes 4 e.1.toNat ++ leBytes 1 e.2 ++ leBytes 3 0)
  | .record r crc => r.header ++ r.payload ++ leBytes 4 crc.toNat

/-- LENGTH of a body (R150): its payload's bytes. -/
def Body.length : Body → Nat
  | .beacon _ => 224
  | .form _ _ _ _ => 16
  | .pulse _ => 24
  | .cal _ => 8
  | .claim _ => 4
  | .action es => 4 + 16 * es.length
  | .ack es => 4 + 8 * es.length
  | .record r _ => r.length

/-- The FTYPE of a body (R150). -/
def Body.ftype : Body → Nat
  | .beacon _ => 0x01
  | .form _ _ _ _ => 0x02
  | .pulse _ => 0x03
  | .cal _ => 0x04
  | .claim _ => 0x05
  | .action _ => 0x10
  | .ack _ => 0x11
  | .record _ _ => 0x20

/-- The CLASS of a body (R150). -/
def Body.cls : Body → Nat
  | .beacon _ => 0
  | .form _ _ _ _ => 0
  | .pulse _ => 0
  | .cal _ => 0
  | .claim _ => 0
  | .action _ => 1
  | .ack _ => 1
  | .record r _ => if r.ty = tyVerdict then 2 else 3

/-- The body has a number of entries that R150 allows: an ACTION has 1 to 8, so has the ACK that answers it (R165, R167). -/
def Body.countOk : Body → Bool
  | .action es => decide (1 ≤ es.length) && decide (es.length ≤ 8)
  | .ack es => decide (1 ≤ es.length) && decide (es.length ≤ 8)
  | .record r _ => decide (r.length ≤ 4096)
  | _ => true

/-- A Herd frame (R149): FTYPE, CLASS and LENGTH as its header carries them, the other header fields, the payload and the CRC-32C. -/
structure Frame where
  ftype : Nat
  cls : Nat
  origin : Nat
  dest : Nat
  bcast : Bool
  wrapped : Bool
  hops : Nat
  length : Nat
  fseq : Word
  body : Body
  crc : Word
  deriving DecidableEq, Repr

/-- The 12 header bytes (R149). -/
def Frame.header (f : Frame) : List Byte :=
  leBytes 1 f.ftype ++ leBytes 1 (f.cls % 4 + 4 * f.wrapped.toNat) ++ leBytes 1 (f.origin % 32) ++ leBytes 1 (f.dest % 32 + 128 * f.bcast.toNat)
    ++ leBytes 1 f.hops ++ leBytes 1 0 ++ leBytes 2 f.length ++ leBytes 4 f.fseq.toNat

/-- The CRC-32C over header and payload (R149). -/
def Frame.crcOf (f : Frame) : Word := crc32c (f.header ++ f.body.bytes)

/-- The frame with the CRC of its header and payload as they are now (R149, R158). -/
def Frame.seal (f : Frame) : Frame := { f with crc := f.crcOf }

/-- A frame formed here (R149, R150): its header says what its body is. -/
def Frame.form (origin dest : Nat) (bcast : Bool) (fseq : Word) (body : Body) : Frame :=
  Frame.seal { ftype := body.ftype, cls := body.cls, origin := origin, dest := dest, bcast := bcast, wrapped := false, hops := 0,
               length := body.length, fseq := fseq, body := body, crc := 0#32 }

/-- The frame's bytes between SOF and EOF (R149): header, payload, CRC stored little-endian. -/
def Frame.bytes (f : Frame) : List Byte := f.header ++ f.body.bytes ++ leBytes 4 f.crc.toNat

/-- FTYPE, CLASS and LENGTH match the payload (R150). -/
def Frame.formOk (f : Frame) : Bool :=
  f.ftype == f.body.ftype && f.cls == f.body.cls && f.length == f.body.length && f.body.countOk

/-- The CRC holds (R149). -/
def Frame.crcOk (f : Frame) : Bool := f.crc == f.crcOf

/-- How an arriving copy ended (R149, R152): with EOF; with EOF, but damaged on the way so that its CRC fails; with ABORT; or with an FTYPE that is
none of R150's, which no `Frame` can spell. -/
inductive CopyEnd where
  | good
  | badCrc
  | abort
  | badForm
  deriving DecidableEq, Repr

/-- A copy as its receiver finds it (R149, R150): one that ended with EOF is good only with a CRC that holds and a header that matches. -/
def Frame.seen (f : Frame) (how : CopyEnd) : CopyEnd :=
  match how with
  | .good => if !f.crcOk then .badCrc else if !f.formOk then .badForm else .good
  | _ => how

/-! ## Symbols (R148) -/

/-- A symbol on a port: a data byte, or one of the control symbols of R148; the idle ordered set is K28.5, D16.2. -/
inductive Symbol where
  | data (b : Byte)
  | comma
  | sof
  | eof
  | abort
  | suspend
  | resume
  deriving DecidableEq, Repr

/-- The idle ordered set (R148): COMMA, then D16.2, the byte 0x50. -/
def idleSet : List Symbol := [.comma, .data 0x50#8]

/-- The symbols of a frame that nothing suspends (R148, R149): SOF, its bytes, EOF or ABORT, and one idle set before the next frame. -/
def Frame.symbols (f : Frame) (how : CopyEnd) : List Symbol :=
  [.sof] ++ f.bytes.map Symbol.data ++ [if how = .good then .eof else .abort] ++ idleSet

/-- How long a frame occupies a port, in ns (R148, R149, R157: a beacon is 242 symbols): SOF, 12 bytes, LENGTH bytes, 4 bytes and the end at 8 ns a
symbol. -/
def Frame.ns (f : Frame) : Nat := (18 + f.body.length) * 8

/-- The least time between the end of a frame and the start of the next: one idle set (R148). -/
abbrev idleNs : Nat := 16

/-- Periods of the 5,000 MHz oscillator in one ns of a port's bit times, which a walk does not touch (R123, R129). -/
abbrev vcoNs : Nat := 5

/-- A frame that waits for a port or is being sent (R151): how its copy ends, and, in periods of the oscillator, from which a port's bit times come (R123, R129),
the instant from which it may leave and, while it is suspended, what is still to send. -/
structure TxFrame where
  frame : Frame
  how : CopyEnd
  from_ : Nat
  left : Nat
  deriving DecidableEq, Repr

/-- A port's sending side (R151): frames waiting in the order received or formed, the frame in transmission and the ones it suspends (newest first), and the
instant, in periods of the oscillator, at which the one in transmission ends. -/
structure PortTx where
  waiting : List TxFrame
  sending : List TxFrame
  until_ : Nat
  deriving DecidableEq, Repr

/-- A port that sends idle only. -/
def PortTx.idle : PortTx := ⟨[], [], 0⟩

/-- No frame of classes 1 to 3 waits or is being sent (R385). -/
def PortTx.empty (x : PortTx) : Bool := (x.waiting ++ x.sending).all (fun f => f.frame.body.cls == 0)

/-- A Herd port beside its registers (R153 to R156): consecutive good PULSE frames, PULSE instants missed in a row, the stamps of the
running round trip (own PULSE leaving, peer's PULSE arriving, in 2^-8 ns), the last round trips (newest first), pair
calibration done and its two pair delays, the peer reports UP, an own PULSE that reported UP has left since the port reached it (R156), CAL frames in
progress, and the sending side. -/
structure PortSt where
  good : Nat
  missed : Nat
  txStamp : Nat
  rxStamp : Nat
  peerTx : Nat
  ownPrev : Nat
  rts : List Int
  calDone : Bool
  delayAB : Nat
  delayBA : Nat
  peerUp : Bool
  lastPulse : Nat
  calStep : Nat
  calAt : Nat
  saidUp : Bool
  tx : PortTx
  deriving DecidableEq, Repr

/-- A port at its start. -/
def PortSt.start : PortSt := ⟨0, 0, 0, 0, 0, 0, [], false, 0, 0, false, 0, 0, 0, false, .idle⟩

/-- A beacon source heard (R159): address, role, LT of its last good copy and the port it came on (true: B). -/
structure Heard where
  addr : Nat
  role : Nat
  lt : Nat
  portB : Bool
  deriving DecidableEq, Repr

/-- What a module holds for an origin (R166, R172, R173): the last FSEQ accepted per class and the stored results, newest first. -/
structure OriginSt where
  fseqs : List (Nat × Nat)
  results : List (Word × Nat)
  deriving DecidableEq, Repr

/-- What is held for an origin not heard of. -/
def OriginSt.fresh : OriginSt := ⟨[], []⟩

/-- An own action request that waits for its answer (R167, R168): the entry, its destination, the core slot that made it (9: none), the
batch it leaves with (R207: the entries of one verdict to one address), retries used, and the frame it last left in with the LT
of leaving (none: waits to leave). -/
structure PendReq where
  req : ActReq
  dest : Nat
  slot : Nat
  batch : Nat
  tries : Nat
  sent : Option (Word × Nat)
  deriving DecidableEq, Repr

/-- An ACTION frame that counts among the 16 unanswered ones (R168): FSEQ, the LT it left at and the requests it carried. -/
structure OutFrame where
  fseq : Word
  lt : Nat
  reqIds : List Word
  deriving DecidableEq, Repr

/-- A reject-unless-cleared lane beside its registers (R169, R170): the cycles cleared, the last cycle decided, whether its output is held at
REJ_LEVEL for want of a source, and the decision instant that was next to come when the source went away. -/
structure Lane where
  clears : List Word
  done : Option Word
  held : Bool
  due : Option Nat
  deriving DecidableEq, Repr

/-- A lane at its start. -/
def Lane.start : Lane := ⟨[], none, false, none⟩

/-- The Herd link's state beside its registers: FSEQ of each class, the next REQ_ID and batch, the ports, the beacon sources heard and the
chosen one, the reference port, the last beacon, the beacons returned per group, listening and forming since when, the origins'
memories, own requests and frames, the last SEQ and stamp of each received stream, the lanes, the aligned beacons
counted for a CLAIM, TAKE_BNUM, the error still to walk (in 2^-8 ns) with the LT it was found at, the last BNUM sent, when an anchor
last arrived per subscription, the addresses last heard as deputies, the BNUMs followed last (newest first, R159), the port-time counter of the
retention state (R371), and the frames that a standalone module has received and ignored (R147). -/
structure HerdSt where
  fseq : List (Nat × Nat)
  reqNext : Nat
  batchNext : Nat
  walkErr : Int
  walkFrom : Nat
  portA : PortSt
  portB : PortSt
  heard : List Heard
  chosen : Option Nat
  refPortB : Bool
  portMiss : Nat
  lastGood : Nat
  lastBnum : Option Word
  missedNow : Nat
  returned : List (Nat × Beacon)
  listenFrom : Option Nat
  formFrom : Option Nat
  formMax : Nat
  origins : List (Nat × OriginSt)
  reqs : List PendReq
  frames : List OutFrame
  streams : List (Nat × (Nat × Nat))
  lanes : List (Nat × Lane)
  aligned : Nat
  takeBnum : Option Word
  sentBnum : Option Word
  anchorAt : List (Nat × Nat)
  deputies : List Nat
  followed : List Word
  portLt : Nat
  ignored : Nat
  deriving DecidableEq, Repr

/-- The Herd link at the release of the logic resets (R173). -/
def HerdSt.start : HerdSt :=
  { fseq := [], reqNext := 0, batchNext := 0, walkErr := 0, walkFrom := 0, portA := .start, portB := .start, heard := [], chosen := none, refPortB := false, portMiss := 0,
    lastGood := 0, lastBnum := none, missedNow := 0, returned := [], listenFrom := none, formFrom := none, formMax := 0,
    origins := [], reqs := [], frames := [], streams := [], lanes := [], aligned := 0, takeBnum := none,
    sentBnum := none, anchorAt := [], deputies := [], followed := [], portLt := 0, ignored := 0 }

/-- What of the Herd link's state outlasts its domain's off state: the counts of R173, the requests that wait, the walk and the last beacon's arrival, which line
time needs (R134); the lanes belong to HUB. -/
def HerdSt.off (h : HerdSt) : HerdSt :=
  { HerdSt.start with fseq := h.fseq, reqNext := h.reqNext, batchNext := h.batchNext, walkErr := h.walkErr, walkFrom := h.walkFrom, reqs := h.reqs,
                      frames := h.frames, lanes := h.lanes, lastGood := h.lastGood, ignored := h.ignored }

end Sys2Proof.Machine
end

