-- ==== Sys2Proof/Syntax.lean ====
section
/-! DEFINITION. The commands of the block: one constructor per row of spec/opcode_table.json. -/

namespace Sys2Proof

open Machine

/-- A level change at a capture input's contact (R212): the input, the new level, and how long the level has held, in ns. A
level that has held for the filter length is accepted; a shorter one is a glitch. -/
structure CapChange where
  input : Fin 36
  level : Bool
  held : Nat
  deriving DecidableEq, Repr

/-- The upset a scrub read finds beside the errors already in the line (R283): bit 0 to 7 the data words, bit 8 the check word;
words with a single-bit error, and words the inner code cannot correct. -/
structure LineUpset where
  single : Fin 512
  double : Fin 512
  deriving DecidableEq, Repr

/-- One thing the baseline scrub pass finds (R379): the memory, the line and the upset. -/
structure BaselineFind where
  m : Fin 19
  line : Fin 262144
  upset : LineUpset
  deriving DecidableEq, Repr

/-- An upset that has come to a line of a memory since it was last read (R283). -/
structure StoreUpset where
  line : Fin 262144
  upset : LineUpset
  deriving DecidableEq, Repr

/-- What a scrub read finds (R283, R284): the upset in the line it reads, and those that have come to other lines of the same memory, which later reads find. -/
structure ScrubFind where
  here : LineUpset
  others : List StoreUpset
  deriving DecidableEq, Repr

/-- An upset of one copy of a pointer of a ladle's source queue (R304): none, the ladle's own head, the tail, the core port's head or the churn engine's. -/
inductive PtrUpset where
  | none
  | head
  | tail
  | port
  | churn
  deriving DecidableEq, Repr

/-- What a received Ethernet frame shows beside its message (R342, R343): its length, a VLAN tag, a right FCS; of an IPv4 packet, whether it has options (a source
route among them), is a fragment, or goes to a multicast address. -/
structure HostFrame where
  bytes : Nat
  tagged : Bool
  fcs : Bool
  options : Bool
  fragment : Bool
  multicast : Bool
  deriving DecidableEq, Repr

/-- What an IPv4 packet that is no record transport carries (R343): an echo request, another ICMP type, TCP, or another protocol. -/
inductive IpKind where
  | echoRequest
  | otherIcmp
  | tcp
  | other
  deriving DecidableEq, Repr

/-- A received IPv4 packet that is no record transport (R343): what it carries, its source address, and of an ICMP message the identifier with the sequence number
and the data. -/
structure IpPacket where
  kind : IpKind
  ip : Nat
  idSeq : Word
  data : List Byte
  deriving DecidableEq, Repr

/-- What a received UDP datagram shows beside its body (R343, R345): its frame, destination port and whether its checksum is right; source IPv4 address, UDP port
and MAC, SESSION, and whether MAGIC, VER, MTYPE, BODY_LEN and CRC are right. -/
structure Dgram where
  frame : HostFrame
  toPort : Nat
  sum : Bool
  ip : Nat
  port : Nat
  mac : Nat
  session : Word
  good : Bool
  deriving DecidableEq, Repr

/-- A received ARP packet (R343, R344): its frame, request or reply, the sender's address and MAC, the target address. -/
structure ArpPacket where
  frame : HostFrame
  request : Bool
  senderIp : Nat
  senderMac : Nat
  targetIp : Nat
  deriving DecidableEq, Repr

/-- What a REQUEST shows beside its REQ_ID (R360): its CODE, and whether a reserved field is not 0. -/
structure ReqForm where
  code : Byte
  resv : Bool
  deriving DecidableEq, Repr

/-- An entry of an ACK (R356): a batch and its leading slices received. -/
structure AckEntry where
  bseq : Word
  ok : Nat
  deriving DecidableEq, Repr

/-- One constructor per row of the opcode table: Filsy instructions as core `c` issues them (their encoding's fields, R253),
then the part's other commands and events with their operands. `w` is the core that writes. -/
inductive Instr where
  /-- ADD (R256): Filsy instruction: D becomes A + B, with flags NZCV. -/
  | add (c : Fin 9) (d a b : BitVec 4) (k : BitVec 8)
  /-- ADC (R256): Filsy instruction: D becomes A + B + C, with flags NZCV. -/
  | adc (c : Fin 9) (d a b : BitVec 4) (k : BitVec 8)
  /-- SUB (R256): Filsy instruction: D becomes A − B, with flags NZCV. -/
  | sub (c : Fin 9) (d a b : BitVec 4) (k : BitVec 8)
  /-- SBC (R256): Filsy instruction: D becomes A − B − (1 − C), with flags NZCV. -/
  | sbc (c : Fin 9) (d a b : BitVec 4) (k : BitVec 8)
  /-- ADDS (R256): Filsy saturating add; sets SAT when the result is clamped. -/
  | adds (c : Fin 9) (d a b : BitVec 4) (k : BitVec 8)
  /-- SUBS (R256): Filsy saturating subtract; sets SAT when the result is clamped. -/
  | subs (c : Fin 9) (d a b : BitVec 4) (k : BitVec 8)
  /-- NEG (R256): Filsy negate: D becomes 0 − A. -/
  | neg (c : Fin 9) (d a b : BitVec 4) (k : BitVec 8)
  /-- NEGS (R256): Filsy saturating negate. -/
  | negs (c : Fin 9) (d a b : BitVec 4) (k : BitVec 8)
  /-- AND (R256): Filsy bitwise AND of A and B. -/
  | andI (c : Fin 9) (d a b : BitVec 4) (k : BitVec 8)
  /-- OR (R256): Filsy bitwise OR of A and B. -/
  | orI (c : Fin 9) (d a b : BitVec 4) (k : BitVec 8)
  /-- XOR (R256): Filsy bitwise XOR of A and B. -/
  | xor (c : Fin 9) (d a b : BitVec 4) (k : BitVec 8)
  /-- ANDN (R256): Filsy A AND NOT B. -/
  | andn (c : Fin 9) (d a b : BitVec 4) (k : BitVec 8)
  /-- MIN (R256): Filsy signed lesser of A and B. -/
  | minI (c : Fin 9) (d a b : BitVec 4) (k : BitVec 8)
  /-- MAX (R256): Filsy signed greater of A and B. -/
  | maxI (c : Fin 9) (d a b : BitVec 4) (k : BitVec 8)
  /-- MINU (R256): Filsy unsigned lesser of A and B. -/
  | minu (c : Fin 9) (d a b : BitVec 4) (k : BitVec 8)
  /-- MAXU (R256): Filsy unsigned greater of A and B. -/
  | maxu (c : Fin 9) (d a b : BitVec 4) (k : BitVec 8)
  /-- ABS (R256): Filsy absolute value of A, V set only for 0x8000_0000. -/
  | abs (c : Fin 9) (d a b : BitVec 4) (k : BitVec 8)
  /-- ABSS (R256): Filsy saturating absolute value. -/
  | abss (c : Fin 9) (d a b : BitVec 4) (k : BitVec 8)
  /-- SEXTB (R256): Filsy sign-extend byte A[7:0]. -/
  | sextb (c : Fin 9) (d a b : BitVec 4) (k : BitVec 8)
  /-- SEXTH (R256): Filsy sign-extend halfword A[15:0]. -/
  | sexth (c : Fin 9) (d a b : BitVec 4) (k : BitVec 8)
  /-- CLZ (R256): Filsy count leading zeros of A. -/
  | clz (c : Fin 9) (d a b : BitVec 4) (k : BitVec 8)
  /-- POPC (R256): Filsy count of set bits of A. -/
  | popc (c : Fin 9) (d a b : BitVec 4) (k : BitVec 8)
  /-- SEL (R256): Filsy select A if condition K[3:0] holds, else B. -/
  | sel (c : Fin 9) (d a b : BitVec 4) (k : BitVec 8)
  /-- ADDI (R257): Filsy add sign-extended immediate. -/
  | addi (c : Fin 9) (d a : BitVec 4) (imm : BitVec 18)
  /-- SUBI (R257): Filsy subtract sign-extended immediate. -/
  | subi (c : Fin 9) (d a : BitVec 4) (imm : BitVec 18)
  /-- ANDI (R257): Filsy AND with zero-extended immediate. -/
  | andi (c : Fin 9) (d a : BitVec 4) (imm : BitVec 18)
  /-- ORI (R257): Filsy OR with zero-extended immediate. -/
  | ori (c : Fin 9) (d a : BitVec 4) (imm : BitVec 18)
  /-- XORI (R257): Filsy XOR with zero-extended immediate. -/
  | xori (c : Fin 9) (d a : BitVec 4) (imm : BitVec 18)
  /-- LUI (R257): Filsy load upper immediate: D becomes IMM22 × 1,024. -/
  | lui (c : Fin 9) (d : BitVec 4) (imm : BitVec 22)
  /-- SHL (R258): Filsy logical shift left by register or K. -/
  | shl (c : Fin 9) (d a b : BitVec 4) (k : BitVec 8) (byK : Bool)
  /-- SHR (R258): Filsy logical shift right by register or K. -/
  | shr (c : Fin 9) (d a b : BitVec 4) (k : BitVec 8) (byK : Bool)
  /-- SAR (R258): Filsy arithmetic shift right by register or K. -/
  | sar (c : Fin 9) (d a b : BitVec 4) (k : BitVec 8) (byK : Bool)
  /-- ROR (R258): Filsy rotate right by n mod 32. -/
  | ror (c : Fin 9) (d a b : BitVec 4) (k : BitVec 8) (byK : Bool)
  /-- ROL (R258): Filsy rotate left by n mod 32. -/
  | rol (c : Fin 9) (d a b : BitVec 4) (k : BitVec 8) (byK : Bool)
  /-- SHLS (R258): Filsy saturating shift left. -/
  | shls (c : Fin 9) (d a b : BitVec 4) (k : BitVec 8) (byK : Bool)
  /-- MUL (R259): Filsy low 32 bits of A × B. -/
  | mul (c : Fin 9) (d a b : BitVec 4) (k : BitVec 8)
  /-- MULH (R259): Filsy high 32 bits of signed A × B. -/
  | mulh (c : Fin 9) (d a b : BitVec 4) (k : BitVec 8)
  /-- MULHU (R259): Filsy high 32 bits of unsigned A × B. -/
  | mulhu (c : Fin 9) (d a b : BitVec 4) (k : BitVec 8)
  /-- MAC (R259): Filsy multiply-accumulate, low 32 bits. -/
  | mac (c : Fin 9) (d a b : BitVec 4) (k : BitVec 8)
  /-- MACS (R259): Filsy signed saturating multiply-accumulate. -/
  | macs (c : Fin 9) (d a b : BitVec 4) (k : BitVec 8)
  /-- MULQ (R259): Filsy rounded fixed-point multiply shifted by K, clamped. -/
  | mulq (c : Fin 9) (d a b : BitVec 4) (k : BitVec 8)
  /-- MACQ (R259): Filsy rounded fixed-point multiply-accumulate, clamped. -/
  | macq (c : Fin 9) (d a b : BitVec 4) (k : BitVec 8)
  /-- DOTQ (R259): Filsy fixed-point dot-product step from memory with post-increment of A and B. -/
  | dotq (c : Fin 9) (d a b : BitVec 4) (k : BitVec 8)
  /-- DIV (R259): Filsy signed division, truncating toward zero. -/
  | divI (c : Fin 9) (d a b : BitVec 4) (k : BitVec 8)
  /-- DIVU (R259): Filsy unsigned division. -/
  | divu (c : Fin 9) (d a b : BitVec 4) (k : BitVec 8)
  /-- REM (R259): Filsy signed remainder. -/
  | rem (c : Fin 9) (d a b : BitVec 4) (k : BitVec 8)
  /-- REMU (R259): Filsy unsigned remainder. -/
  | remu (c : Fin 9) (d a b : BitVec 4) (k : BitVec 8)
  /-- LDW (R261): Filsy load word. -/
  | ldw (c : Fin 9) (d a : BitVec 4) (imm : BitVec 18)
  /-- LDH (R261): Filsy load halfword, sign-extended. -/
  | ldh (c : Fin 9) (d a : BitVec 4) (imm : BitVec 18)
  /-- LDHU (R261): Filsy load halfword, zero-extended. -/
  | ldhu (c : Fin 9) (d a : BitVec 4) (imm : BitVec 18)
  /-- LDB (R261): Filsy load byte, sign-extended. -/
  | ldb (c : Fin 9) (d a : BitVec 4) (imm : BitVec 18)
  /-- LDBU (R261): Filsy load byte, zero-extended. -/
  | ldbu (c : Fin 9) (d a : BitVec 4) (imm : BitVec 18)
  /-- STW (R261): Filsy store word. -/
  | stw (c : Fin 9) (d a : BitVec 4) (imm : BitVec 18)
  /-- STH (R261): Filsy store halfword. -/
  | sth (c : Fin 9) (d a : BitVec 4) (imm : BitVec 18)
  /-- STB (R261): Filsy store byte. -/
  | stb (c : Fin 9) (d a : BitVec 4) (imm : BitVec 18)
  /-- LDWP (R261): Filsy load word with post-increment of A. -/
  | ldwp (c : Fin 9) (d a : BitVec 4) (imm : BitVec 18)
  /-- STWP (R261): Filsy store word with post-increment of A. -/
  | stwp (c : Fin 9) (d a : BitVec 4) (imm : BitVec 18)
  /-- LDHP (R261): Filsy load halfword with post-increment of A. -/
  | ldhp (c : Fin 9) (d a : BitVec 4) (imm : BitVec 18)
  /-- STHP (R261): Filsy store halfword with post-increment of A. -/
  | sthp (c : Fin 9) (d a : BitVec 4) (imm : BitVec 18)
  /-- PUSH (R261): Filsy large-profile push of A on the data stack, checked against DSP_LO. -/
  | push (c : Fin 9) (d a b : BitVec 4) (k : BitVec 8)
  /-- POP (R261): Filsy large-profile pop from the data stack, checked against DSP_HI. -/
  | pop (c : Fin 9) (d a b : BitVec 4) (k : BitVec 8)
  /-- B (R262): Filsy conditional branch to PC + 4 × OFF22. -/
  | b (c : Fin 9) (cond : BitVec 4) (off : BitVec 22)
  /-- CALL (R262): Filsy call: link in G14 or a CALL entry pushed on the return stack. -/
  | call (c : Fin 9) (cond : BitVec 4) (off : BitVec 22)
  /-- JR (R262): Filsy jump to the address in A. -/
  | jr (c : Fin 9) (d a b : BitVec 4) (k : BitVec 8)
  /-- CALLR (R262): Filsy call to the address in A. -/
  | callr (c : Fin 9) (d a b : BitVec 4) (k : BitVec 8)
  /-- RET (R262): Filsy return via G14 or a popped CALL entry. -/
  | ret (c : Fin 9) (d a b : BitVec 4) (k : BitVec 8)
  /-- RPTI (R264): Filsy prefix repeating the next instruction IMM22 times. -/
  | rpti (c : Fin 9) (d : BitVec 4) (imm : BitVec 22)
  /-- RPTR (R264): Filsy prefix repeating the next instruction RC times. -/
  | rptr (c : Fin 9) (rest : BitVec 26)
  /-- NOP (R263): Filsy no operation. -/
  | nop (c : Fin 9) (d a b : BitVec 4) (k : BitVec 8)
  /-- MFS (R263): Filsy move from special register K to D. -/
  | mfs (c : Fin 9) (d a b : BitVec 4) (k : BitVec 8)
  /-- MTS (R263): Filsy move A to special register K. -/
  | mts (c : Fin 9) (d a b : BitVec 4) (k : BitVec 8)
  /-- ERET (R271): Filsy return from an event or fault entry, restoring PC, FLAGS and any repeat. -/
  | eret (c : Fin 9) (d a b : BitVec 4) (k : BitVec 8)
  /-- WAIT (R275): Filsy stop of issue until an enabled source is pending. -/
  | wait (c : Fin 9) (d a b : BitVec 4) (k : BitVec 8)
  /-- BRK (R263): Filsy breakpoint: fault BREAK with K in DETAIL. -/
  | brk (c : Fin 9) (d a b : BitVec 4) (k : BitVec 8)
  /-- EI (R263): Filsy enable events: IE becomes 1. -/
  | ei (c : Fin 9) (d a b : BitVec 4) (k : BitVec 8)
  /-- DI (R263): Filsy disable events: IE becomes 0. -/
  | di (c : Fin 9) (d a b : BitVec 4) (k : BitVec 8)
  /-- FENCE (R251): Filsy wait until every posted store has completed. -/
  | fence (c : Fin 9) (d a b : BitVec 4) (k : BitVec 8)
  /-- EVENT_ENTRY (R271): At an allowed boundary with IE 1 and an enabled source pending, the core enters its event entry for the lowest source. -/
  | eventEntry (c : Fin 9)
  /-- WAIT_END (R275): A core in WAIT resumes or takes an event when an enabled source becomes pending. -/
  | waitEnd (c : Fin 9)
  /-- POSTED_STORE_DONE (R251): A posted store completes, freeing a post slot and releasing waiting loads or FENCE. -/
  | postedStoreDone (c : Fin 9) (n : Fin 4)
  /-- REGISTER_WRITE (R11): A write to a register with no row of its own takes effect or is ignored by its access type. -/
  | registerWrite (c : Fin 9) (addr value : Word)
  /-- SUPPLY_VALID (R379): The supply stays above 17.0 V for 1 ms and bring-up starts. -/
  | supplyValid
  /-- AON_RAIL_GOOD (R379): The AON rail is good; AON reset is released and the resonator enabled. -/
  | aonRailGood
  /-- RESONATOR_OSCILLATING (R379): The resonator oscillates; AON, supply link and service port start and the rails are switched on. -/
  | resonatorOscillating
  /-- RAILS_GOOD (R379): STATUS shows every rail good, ending the regulator step. -/
  | railsGood
  /-- RESONATOR_STABLE (R379): The resonator amplitude has settled for 16 ms and the PLL is started. -/
  | resonatorStable
  /-- PLL_LOCK (R124): The PLL locks and the clock domains start. -/
  | pllLock
  /-- MEMORY_REPAIR_LOADED (R379): Repair is loaded from fuses into every memory. -/
  | memoryRepairLoaded
  /-- MEMORY_INIT_DONE (R284): Every memory has been written with zeros and valid codes. -/
  | memoryInitDone
  /-- SCRUB_BASELINE_DONE (R379): The baseline read pass of every memory ends, recording corrections and uncorrectable lines. -/
  | scrubBaselineDone (found : List BaselineFind)
  /-- LOGIC_RELEASE (R379): Logic resets are released, the LT counter starts, Herd ports train and the host link negotiates. -/
  | logicRelease
  /-- KEY_LOAD_ENTRY (R327): At V + 48 ms KEY_LOAD is entered and the key domain and KEY_VCC come on. -/
  | keyLoadEntry (present : Bool)
  /-- BRINGUP_FAIL (R380): A bring-up step misses its deadline and bring-up is retried or abandoned after three tries. -/
  | bringupFail
  /-- BRINGUP_RETRY (R380): 1 s after rails were switched off, bring-up restarts at the regulator step. -/
  | bringupRetry
  /-- AON_RAIL_CYCLE (R380): The power stage, having had no frame within 100 ms, cycles the AON rail every 1 s. -/
  | aonRailCycle
  /-- WARM_RESET (R381): A warm reset reruns the oscillator, memory and logic steps keeping rails and AON. -/
  | warmReset
  /-- PLL_LOCK_LOST (R126): Loss of PLL lock raises event 40 and enters FAULT_HOLD. -/
  | pllLockLost
  /-- PLL_RELOCK_TIMEOUT (R405): The PLL has not relocked within 1 s of FAULT_HOLD and a warm reset starts. -/
  | pllRelockTimeout
  /-- HOLD_TIMEOUT (R405): HOLD_S seconds after FAULT_HOLD entry a warm reset starts. -/
  | holdTimeout
  /-- REF_MEASURE (R125): Every 100 ms a follower measures its resonator against the recovered clock into LT_RES_PPB. -/
  | refMeasure (ppb : Int)
  /-- WALK_END (R129): A walk removes the remaining error; HOLDOVER may be left. -/
  | walkEnd
  /-- BEACON_LISTEN_END (R128): After 2 ms without beacons a leader or deputy begins forming the line. -/
  | beaconListenEnd
  /-- FORM_SEND (R179): A forming module sends a FORM frame every 10,000 ns. -/
  | formSend
  /-- FORMING_END (R128): After 1 ms of forming the module steps to the greatest reported LT and starts normal beacons. -/
  | formingEnd
  /-- BEACON_SEND (R157): The beacon source sends a beacon at every LT multiple of 10,000 ns. -/
  | beaconSend (frac : Nat)
  /-- BEACON_RX (R159): A beacon copy arrives; the module follows the first good copy, updates PATH, roll-call and models and forwards it. -/
  | beaconRx (portB : Bool) (f : Frame) (how : CopyEnd) (frac : Fin 256) (resid : Nat)
  /-- BEACON_LOSS (R134): Three missed beacon frames (30 µs) put a follower into HOLDOVER on its resonator. -/
  | beaconLoss
  /-- CLAIM_RX (R178): A deputy receives a CLAIM and stops beaconing before TAKE_BNUM. -/
  | claimRx (portB : Bool) (f : Frame) (how : CopyEnd)
  /-- FORM_RX (R179): A FORM frame arrives; the module raises MAX_LT, sets PRESENT and forwards, or the former takes the result. -/
  | formRx (portB : Bool) (f : Frame) (how : CopyEnd)
  /-- DEPUTY_TAKEOVER (R177): A deputy without a good copy for its wait starts beaconing with LINE_HOLDOVER. -/
  | deputyTakeover
  /-- PORT_ALIGNED (R153): A port's receiver locks and aligns to COMMA and enters CALIBRATING. -/
  | portAligned (portB : Bool)
  /-- PORT_NO_SIGNAL (R153): A training port with no signal for 100 µs enters NO_SIGNAL. -/
  | portNoSignal (portB : Bool)
  /-- PORT_CROSSED (R153): The line monitor finds another transmitter on the port's own pair: CROSSED. -/
  | portCrossed (portB : Bool)
  /-- CAL_RX (R153): A CAL frame arrives for pair calibration, or reveals WRONG_PORT. -/
  | calRx (portB : Bool) (f : Frame) (how : CopyEnd) (stamp : Nat)
  /-- CAL_TURNAROUND (R153): The B end answers a CAL on the same pair 2,000 ns after its last symbol. -/
  | calTurnaround (portB : Bool)
  /-- PULSE_SEND (R154): Each port sends a PULSE at each LT of 10,000 n + 5,000 ns. -/
  | pulseSend (portB : Bool) (frac : Fin 256)
  /-- PULSE_RX (R155): A PULSE arrives; the port forms a round trip and updates its link delay, or goes UP after three good ones. -/
  | pulseRx (portB : Bool) (f : Frame) (how : CopyEnd) (frac : Fin 256)
  /-- PORT_DOWN (R174): Three missed PULSE instants or a round-trip jump send the port to TRAINING and wrap it. -/
  | portDown (portB : Bool)
  /-- ACTION_RX (R166): An ACTION frame arrives; each entry is answered and an ACK sent. -/
  | actionRx (portB : Bool) (f : Frame) (how : CopyEnd)
  /-- HERD_ACK_RX (R167): An ACK frame arrives and settles the origin's unanswered entries. -/
  | herdAckRx (portB : Bool) (f : Frame) (how : CopyEnd)
  /-- ACTION_RETRY (R167): ACK_TO_US passes without an answer; the entry is sent again or declared lost. -/
  | actionRetry (req : Word)
  /-- RECORD_RX (R172): A RECORD frame arrives and is accepted into a receive queue by FSEQ, with a GAP for SEQ jumps. -/
  | recordRx (portB : Bool) (f : Frame) (how : CopyEnd)
  /-- SUBSCRIPTION_EXPIRY (R164): No anchor for 500 µs makes a shared cycle source unavailable. -/
  | subscriptionExpiry (n : Fin 4)
  /-- LANE_DECISION (R169): At a lane's decision instant it arms a reject pulse unless a CLEAR was entered. -/
  | laneDecision (n : Fin 16)
  /-- MOD_CLOCK_UPRANGE (R101): The stage output crosses 90 % and the channel moves up one range at the next clock edge. -/
  | modClockUprange (k : Fin 128)
  /-- SCHEDULED_RESET (R105): A scheduled reset falls due at its angle and the charge amplifier resets with a blank. -/
  | scheduledReset (k : Fin 128) (cycle : Word) (r : ResetRead)
  /-- CH_CMD_RESET (R105): A core writes CHk_CMD.RESET and the channel resets within 160 ns. -/
  | chCmdReset (w : Fin 9) (k : Fin 128) (r : ResetRead)
  /-- QUIET_WINDOW_END (R107): Under AR_MODE 2 a full quiet window resets the channel to the next lower range. -/
  | quietWindowEnd (k : Fin 128) (since : Nat) (r : ResetRead)
  /-- BLANK_END (R105): The two blanked clocks of a reset end and the range chosen by R106 applies. -/
  | blankEnd (k : Fin 128)
  /-- SAMPLE_EMIT (R110): A decimation chain emits a stamped, flagged sample into TQ t.0. -/
  | sampleEmit (k : Fin 128) (r : SampleRead)
  /-- MAINS_SENSE_EDGE (R116): A rising edge on MAINS_SENSE is stamped for the mains tracker. -/
  | mainsSenseEdge
  /-- MAINS_SOURCE_FALLBACK (R116): 200 ms without MAINS_SENSE edges switches the tracker to its fallback channel. -/
  | mainsSourceFallback (t : Fin 8)
  /-- MAINS_LOCK (R116): The estimate stays within ±0.005 Hz for 1 s and the tracker locks. -/
  | mainsLock (t : Fin 8) (mHz : Nat)
  /-- MAINS_UNLOCK (R116): Both sources fail or the estimate leaves range; notches hold and the mains event is raised. -/
  | mainsUnlock (t : Fin 8) (peak : Bool)
  /-- SCAN_START (R69): Step 0 and the channel chains start at the first 5,120 ns grid point after configuration. -/
  | scanStart (c : Fin 32)
  /-- SCAN_STEP_BOUNDARY (R70): A step's dwell ends and the cell begins the next step's break-before-make sequence. -/
  | scanStepBoundary (c : Fin 32)
  /-- DISCHARGE_START (R71): 20 ns after the boundary old switches are open and changed inputs are shorted to DIS. -/
  | dischargeStart (c : Fin 32) (rs : List ResetRead)
  /-- DISCHARGE_END (R71): After D the discharge switches open. -/
  | dischargeEnd (c : Fin 32)
  /-- NEW_SWITCHES_CLOSE (R71): The new switches close and sources join their new terminals. -/
  | newSwitchesClose (c : Fin 32)
  /-- SWITCHING_SEQUENCE_END (R71): The new switches are closed and the switching sequence ends. -/
  | switchingSequenceEnd (c : Fin 32)
  /-- EXC_CHECK (R77): Every 10,240 ns the monitor checks each source against the fault classes. -/
  | excCheck (rs : List ExcRead)
  /-- SOURCE_RETRY (R80): RETRY_S seconds after switch-off the source returns at its step's setting. -/
  | sourceRetry (c : Fin 32) (n : Fin 3)
  /-- LEAD_MEASUREMENT_START (R85): A lead measurement falls due and starts its baseline, or waits or is missed. -/
  | leadMeasurementStart (c : Fin 32) (n : Fin 4) (cycle : Word)
  /-- LEAD_BASELINE_END (R83): The baseline ends and the lead source is diverted to its dummy load. -/
  | leadBaselineEnd (c : Fin 32) (nv : Int)
  /-- LEAD_SOURCE_JOIN (R83): The lead source is joined to LEAD_T. -/
  | leadSourceJoin (c : Fin 32)
  /-- LEAD_INTEGRATION_START (R83): The monitor starts integrating LEAD_T with the lead current on. -/
  | leadIntegrationStart (c : Fin 32)
  /-- LEAD_INTEGRATION_END (R83): Integration ends and the lead source is diverted. -/
  | leadIntegrationEnd (c : Fin 32) (nv : Int) (cm : Option Nat)
  /-- LEAD_MEASUREMENT_END (R84): The lead source returns; the new loop value takes effect and LEAD may be confirmed. -/
  | leadMeasurementEnd (c : Fin 32)
  /-- CJ_UPDATE (R89): Every 10,240,000 ns the cold-junction reading is updated and CJ may be confirmed. -/
  | cjUpdate (c : Fin 32) (r : Option Int)
  /-- CAPTURE_EDGE (R212): A filtered edge at a capture input is stamped and queued. -/
  | captureEdge (changes : List CapChange)
  /-- CAPTURE_RECORD_CLOSE (R215): CLOSE_US after its first entry a capture record closes and is delivered. -/
  | captureRecordClose (u : Fin 40)
  /-- ENCODER_STOPPED (R221): STOP_MS without a count sets STOPPED. -/
  | encoderStopped (e : Fin 4)
  /-- POINT_ARRIVAL (R184): A point or anchor reaches the churn engine; waiting samples are placed and action estimates are redone. -/
  | pointArrival (t : Fin 8) (src : Fin 8)
  /-- FOLD_WAIT_EXPIRY (R185): WAIT_US passes without a later point and the sample is not folded. -/
  | foldWaitExpiry (t : Fin 8) (n : Fin 16)
  /-- CLOSE_WAIT_EXPIRY (R190): CLOSE_WAIT runs out and unclosed streams close k with TIMEOUT. -/
  | closeWaitExpiry (t : Fin 8) (g : Fin 4)
  /-- MAX_CYCLE_TIMEOUT (R190): A cycle that did not end by MAX_CYCLE_MS closes every stream with TIMEOUT. -/
  | maxCycleTimeout (t : Fin 8) (g : Fin 4)
  /-- CYCLE_SOURCE_LOSS (R190): A group's source becomes unavailable; open records close with SRC_LOST and teaching restarts. -/
  | cycleSourceLoss (t : Fin 8) (g : Fin 4)
  /-- JUDGEMENT_END (R201): A judgement finishes; the VERDICT enters TQ t.2 and rules, teaching and drift act. -/
  | judgementEnd (t : Fin 8)
  /-- TEACH (R202): A core writes CHURNt_GRPg_CMD.TEACH and teaching starts afresh. -/
  | teach (w : Fin 9) (t : Fin 8) (g : Fin 4)
  /-- TEACH_END (R203): A core writes TEACH_END and teaching stops without writing entries. -/
  | teachEnd (w : Fin 9) (t : Fin 8) (g : Fin 4)
  /-- ENV_ENTRY_WRITE (R198): A core writes an envelope entry word, committed as a pair or refused. -/
  | envEntryWrite (w : Fin 9) (t : Fin 8) (e : Fin 3072) (high : Bool) (value : Word)
  /-- TIMER_START (R224): A 1 written to TTt_n_CMD.START starts the timer. -/
  | timerStart (w : Fin 9) (t : Fin 8) (n : Fin 4)
  /-- TIMER_STOP (R224): A 1 written to TTt_n_CMD.STOP stops the timer. -/
  | timerStop (w : Fin 9) (t : Fin 8) (n : Fin 4)
  /-- TIMER_CLEAR (R224): A 1 written to TTt_n_CMD.CLEAR sets the count to 0. -/
  | timerClear (w : Fin 9) (t : Fin 8) (n : Fin 4)
  /-- TIMER_PER_WRITE (R225): A write to TTt_n_PER loads the shadow, applied at the period end or at once. -/
  | timerPerWrite (w : Fin 9) (t : Fin 8) (n : Fin 4) (value : Word)
  /-- TIMER_CMP_WRITE (R226): A write to TTt_n_CMP sets the compare from the next tick. -/
  | timerCmpWrite (w : Fin 9) (t : Fin 8) (n : Fin 4) (value : Word)
  /-- TIMER_PERIOD_END (R223): The count passes P − 1; routes act and a one-shot stops. -/
  | timerPeriodEnd (t : Fin 8) (n : Fin 4)
  /-- TIMER_MATCH (R226): The count reaches CMP and the match routes act. -/
  | timerMatch (t : Fin 8) (n : Fin 4)
  /-- ACT_ENTER_GO (R230): A core writes its slot CTL with GO to submit an action entry. -/
  | actEnterGo (w slot : Fin 9) (ctl : Word)
  /-- ENTRY_FIX (R232): 2,000 ns before launch a cycle-angle entry's estimate becomes final. -/
  | entryFix (a : Fin 512)
  /-- LAUNCH (R232): At the launch instant the output command changes so the edge meets its target. -/
  | launch (a : Fin 512)
  /-- RETRY_OUTCOME_SETTLE (R233): 100 µs after a retry edge its outcome is settled as OUTPUT_FAULT or ON_TIME. -/
  | retryOutcomeSettle (n : Fin 24)
  /-- OUTPUT_OVERCURRENT (R237): An OUT output at its 1.2 A limit for 100 µs is switched off and reported. -/
  | outputOvercurrent (n : Fin 24)
  /-- OUTPUT_READBACK_CHECK (R237): After an edge or every 1 ms the contact level is compared with the command. -/
  | outputReadbackCheck (n : Fin 24) (level : Bool)
  /-- OUT_SUPPLY_LOW (R40): OUT_24V falls below 16 V; outputs cannot energise and NO_SUPPLY is reported. -/
  | outSupplyLow
  /-- OUT_SUPPLY_RETURN (R237): OUT_24V at or above 16 V for 1 ms clears NO_SUPPLY and outputs follow their commands. -/
  | outSupplyReturn
  /-- SCRUB_LINE (R284): The scrubber reads a line and corrects, rebuilds or reports it. -/
  | scrubLine (m : Fin 19) (upset : ScrubFind)
  /-- QUEUE_RESET_END (R304): Within 1,000 ns the reset ends and producers resume. -/
  | queueResetEnd (q : Fin 64)
  /-- PENDING_GAP_WRITE (R303): The queue has room again and writes its pending GAP and kept MARKs. -/
  | pendingGapWrite (q : Fin 64)
  /-- QUEUE_PUSH (R306): A core writes PUSH and the queue copies, completes and admits or refuses the record. -/
  | queuePush (w : Fin 9) (q : Fin 64) (addr : Word)
  /-- QUEUE_PUSH_DONE (R306): The push copy completes and PUSH_RES gets its result. -/
  | queuePushDone (q : Fin 64)
  /-- QUEUE_POP (R306): A core writes POP and the queue starts copying the next record to it. -/
  | queuePop (w : Fin 9) (q : Fin 64) (addr : Word)
  /-- QUEUE_POP_DONE (R306): The pop copy completes and POP_RES gets its result. -/
  | queuePopDone (q : Fin 64)
  /-- LADLE_RECORD_MOVE (R307): A ladle finishes moving one whole record from source to destination. -/
  | ladleRecordMove (l : Fin 40) (d : Fin 4) (upset : PtrUpset)
  /-- LADLE_RUN (R310): A write to a ladle CMD bit requests a triggered run of that descriptor. -/
  | ladleRun (w : Fin 9) (l : Fin 40) (d : Fin 4)
  /-- LADLE_RUN_END (R310): A triggered run has moved its records and raises DONE_SEEN. -/
  | ladleRunEnd (l : Fin 40) (d : Fin 4)
  /-- LADLE_GAP_WRITE (R308): A destination has room again and the ladle writes its pending GAP and MARKs. -/
  | ladleGapWrite (l : Fin 40) (dest : Nat)
  /-- RING_POINTER_WRITE (R309): The owning side writes RING_WR or RING_RD, advancing the ring. -/
  | ringPointerWrite (w : Fin 9) (l : Fin 40) (d : Fin 4) (read : Bool) (value : Word)
  /-- KEY_INSERT (R325): KEY_PRESENT_N low for 50 ms counts as insertion and may start staging. -/
  | keyInsert
  /-- KEY_REMOVE (R325): KEY_PRESENT_N high for 1 ms counts as removal. -/
  | keyRemove
  /-- KEY_READ_START (R327): 5 ms after KEY_LOAD entry the lines are checked and block 0 read starts. -/
  | keyReadStart (scl sda : Bool)
  /-- KEY_BLOCK_READ_END (R317): A block's read transfer ends; CRCs are checked on the fly. -/
  | keyBlockReadEnd (bytes : List Byte)
  /-- KEY_READ_FAIL (R328): A block read fails and is retried or the load is refused. -/
  | keyReadFail (got : List Byte)
  /-- SIGNATURE_CHECK_END (R324): The signature check ends against COM_TRUST_KEY. -/
  | signatureCheckEnd
  /-- KEY_CHECKS_END (R329): Layout and refusal checks end; the image is refused or accepted. -/
  | keyChecksEnd
  /-- KEY_COMMIT_END (R327): Registers, memories, code and store are written and KEY_VCC goes off. -/
  | keyCommitEnd
  /-- CORES_START (R248): Cores and cells start after a load and event 57 is raised. -/
  | coresStart
  /-- STAGE (R325): The vat core writes KEY_CMD.STAGE to stage the inserted key. -/
  | stage (w : Fin 9)
  /-- KEY_POWER_CYCLE (R338): The vat core writes KEY_CMD.POWER_CYCLE to cycle KEY_VCC. -/
  | keyPowerCycle (w : Fin 9)
  /-- KEY_CMD_CHANGEOVER (R410): The vat core writes KEY_CMD.CHANGEOVER to change over to the staged image. -/
  | keyCmdChangeover (w : Fin 9)
  /-- KEY_PORT_HANG (R338): The key port finds a line stuck low and declares HUNG. -/
  | keyPortHang (cause : Fin 3) (got : List Byte)
  /-- TW_GO (R332): The vat core writes TWp_CTL.GO and the port runs its descriptor list. -/
  | twGo (w : Fin 9) (p : Fin 8) (ctl : Word)
  /-- TW_POWER_CYCLE (R335): The vat core writes TWp_CTL.POWER_CYCLE and a supply cycle starts. -/
  | twPowerCycle (w : Fin 9) (p : Fin 8) (ctl : Word)
  /-- TW_TRANSFER_END (R333): A two-wire transfer ends with a result and the list continues or ends. -/
  | twTransferEnd (p : Fin 8) (result : Fin 5) (n : Fin 257) (data : List Byte)
  /-- TW_STRETCH_TIMEOUT (R333): A target holds SCL low past STRETCH_MS and the transfer ends TIMEOUT. -/
  | twStretchTimeout (p : Fin 8) (n : Fin 257)
  /-- TW_IDLE_CHECK (R334): Every 1 ms the idle port samples its lines and may declare HUNG. -/
  | twIdleCheck (p : Fin 8) (scl sda : Bool)
  /-- TW_SUPPLY_TRIP (R334): TWp_SUP trips at 150 mA and the port is HUNG with cause TRIP. -/
  | twSupplyTrip (p : Fin 9)
  /-- TW_CYCLE_SUPPLY_ON (R335): 20 ms into a cycle the supply and pull-ups come back on. -/
  | twCycleSupplyOn (p : Fin 9)
  /-- TW_CYCLE_SAMPLE (R335): After STARTUP_MS the lines are sampled and the cycle succeeds or fails. -/
  | twCycleSample (p : Fin 9) (scl sda : Bool)
  /-- TW_PORT_START (R337): A configured port with SUP_EN powers up and becomes IDLE or HUNG after STARTUP_MS. -/
  | twPortStart (p : Fin 8) (scl sda : Bool)
  /-- LINK_UP (R344): The Ethernet link comes up and a gratuitous ARP is sent. -/
  | linkUp (gig : Bool)
  /-- LINK_DOWN (R358): The Ethernet link goes down, leaving session and store as they are. -/
  | linkDown
  /-- ARP_RX (R344): An ARP packet is answered, cached or detected as an address conflict. -/
  | arpRx (p : ArpPacket)
  /-- ARP_DEFEND (R344): The module defends its address with a gratuitous ARP at most every 10 s. -/
  | arpDefend
  /-- ADDR_CONFLICT_CLEAR (R344): 60 s without a further claim clears ADDR_CONFLICT. -/
  | addrConflictClear
  /-- ARP_CACHE_TIMEOUT (R343): An ARP cache entry is refreshed after 20 s or dropped after 60 s unused. -/
  | arpCacheTimeout (n : Fin 8)
  /-- ECHO_REQUEST (R343): An ICMP echo request is answered within the rate limit. -/
  | echoRequest (f : HostFrame) (x : IpPacket)
  /-- OPEN (R347): A host's OPEN creates, resumes or is refused a session and gets OPEN_REPLY. -/
  | openSession (dg : Dgram) (window : Nat) (raw : Bool) (prev : Word)
  /-- HOST_ACK (R356): A host ACK frees acknowledged batches and sets WINDOW. -/
  | hostAck (dg : Dgram) (cum : Word) (window : Nat) (entries : List AckEntry)
  /-- CLOSE (R347): A CLOSE from the session's host ends the session. -/
  | closeSession (dg : Dgram)
  /-- LOG_READ (R360): Host request returning up to 40 trouble-log entries. -/
  | logRead (dg : Dgram) (req arg0 arg1 : Word) (resv : Bool)
  /-- HEALTH (R360): Host request returning the last HEALTH record. -/
  | health (dg : Dgram) (req : Word) (form : ReqForm)
  /-- RELOAD (R360): Host request starting a reload. -/
  | reload (dg : Dgram) (req : Word) (resv : Bool)
  /-- HOST_REQ_CHANGEOVER (R360): Host request starting a changeover. -/
  | hostReqChangeover (dg : Dgram) (req : Word) (resv : Bool)
  /-- HEARTBEAT (R350): Every 100,000,000 ns of LT a HEARTBEAT is sent. -/
  | heartbeat
  /-- SESSION_IDLE (R347): SESSION_S without a valid datagram moves the session to IDLE. -/
  | sessionIdle
  /-- BATCH_CLOSE (R353): BATCH_TIME after its first record a batch closes. -/
  | batchClose (raw : Bool)
  /-- DATA_SEND (R355): While the window allows, a closed batch's slices leave as DATA messages. -/
  | dataSend
  /-- RETRANSMIT (R357): RTO_MS without acknowledgement resends a batch from its first missing slice. -/
  | retransmit
  /-- PARK_EXPIRY (R359): PARK_MS passes and the parked VERDICT enters the store. -/
  | parkExpiry
  /-- HOST_CMD_WAKE (R364): The vat core writes HOST_CMD.WAKE and a wake attempt starts. -/
  | hostCmdWake (w : Fin 9)
  /-- HOST_CMD_CLOSE (R366): The vat core writes HOST_CMD.CLOSE and the session ends with REASON 3. -/
  | hostCmdClose (w : Fin 9)
  /-- MAGIC_PACKET_REPEAT (R363): 100 ms and 200 ms after an attempt the magic packets are sent again. -/
  | magicPacketRepeat
  /-- HOST_WAKE_RELEASE (R363): After PIN_MS × 10 ms HOST_WAKE is released. -/
  | hostWakeRelease
  /-- WAKE_REPEAT (R364): Every REPEAT_S seconds without a session the wake attempt repeats. -/
  | wakeRepeat
  /-- PWR_GO (R382): The vat core writes PWR_CMD.GO and the requested domain states are carried out. -/
  | pwrGo (w : Fin 9)
  /-- DOMAIN_RAISED (R383): A raised domain reaches on and starts as from retention or off. -/
  | domainRaised (n : Fin 20)
  /-- DOMAIN_AGREE (R385): An asked domain's conditions hold at an AON tick and it agrees. -/
  | domainAgree
  /-- DOMAIN_STOP (R384): 3 AON ticks after agreement the domain stops and the next is asked. -/
  | domainStop
  /-- AGREE_TIMEOUT (R385): AGREE_MS passes without agreement and the entry is refused NOT_DRAINED. -/
  | agreeTimeout
  /-- WAKE_SOURCE_FIRE (R389): An enabled wake source fires while HUB is in retention or off. -/
  | wakeSourceFire (src : Fin 10) (unit : Fin 24)
  /-- WAKE_TAKEN (R390): At the next AON tick the wake is taken and the PLL enabled. -/
  | wakeTaken
  /-- TIME_RESTART (R137): At the fourth AON tick after wake TIME starts with the rebuilt LT. -/
  | timeRestart
  /-- HUB_WAKE_ON (R390): HUB is on and the vat core resumes with event 36 pending. -/
  | hubWakeOn
  /-- SUPPLY_LINK_POLL (R376): Every 20 µs a POLL frame is exchanged awaiting an acknowledgement. -/
  | supplyLinkPoll
  /-- SUPPLY_LINK_ACK (R376): A valid acknowledgement arrives and completes the request. -/
  | supplyLinkAck (frame : Word)
  /-- SUPPLY_LINK_TIMEOUT (R376): 200 µs without an acknowledgement resends the request or declares a link fault. -/
  | supplyLinkTimeout
  /-- STATUS_POLL (R377): Every 1 ms the controller reads STATUS and acts on its flags. -/
  | statusPoll
  /-- RAIL_READ (R377): Every 100 ms input voltage and power are read. -/
  | railRead
  /-- STAGE_WATCHDOG (R377): 20 ms without a valid request makes the power stage switch off VEXC, TWp_SUP and KEY_VCC. -/
  | stageWatchdog
  /-- SAG_THRESHOLD (R393): VCORE crosses a sag threshold and the throttle level rises. -/
  | sagThreshold (deep : Bool)
  /-- THROTTLE_RELEASE (R393): 50 µs above the release level lowers the throttle level. -/
  | throttleRelease (toOne : Bool)
  /-- THROTTLE_BACKLOG (R393): The throttle stays above level 0 for 2 ms and event 38 is raised. -/
  | throttleBacklog
  /-- VCORE_LOW (R394): VCORE below 0.66 V for 1 µs puts the module in FAULT_HOLD. -/
  | vcoreLow
  /-- WATCH_ON (R398): The vat core writes MOD_CMD.WATCH_ON and the WATCH condition is set. -/
  | watchOn (w : Fin 9)
  /-- WATCH_OFF (R398): The vat core writes MOD_CMD.WATCH_OFF and the WATCH condition clears. -/
  | watchOff (w : Fin 9)
  /-- AUTO_WATCH_EXPIRY (R398): WATCH_SRC unavailable or stopped for WATCH_S seconds sets WATCH. -/
  | autoWatchExpiry
  /-- WATCH_ENTRY_RETRY (R402): Every 1 s while WATCH holds a refused lowering is asked again. -/
  | watchEntryRetry
  /-- RELOAD_START (R408): An accepted image starts a reload: KEY_LOAD, flush, tiles forced off. -/
  | reloadStart
  /-- RELOAD_DRAIN_END (R408): Queues are drained and GENERATION MARKs written. -/
  | reloadDrainEnd
  /-- RELOAD_APPLY (R408): The staged bank is applied and the generation increases. -/
  | reloadApply
  /-- CHANGEOVER_ACCEPT (R411): A changeover is accepted and the vat core stops for the hub switch. -/
  | changeoverAccept
  /-- HUB_SWITCH_END (R411): The hub switch ends at H; the generation changes and hub streams write MARKs. -/
  | hubSwitchEnd
  /-- TILE_RELOAD_START (R412): A tile's turn comes and it stops for reload. -/
  | tileReloadStart (t : Fin 8)
  /-- TILE_RELOAD_DRAIN_END (R412): The tile's queues have drained or are dropped at 500 ms. -/
  | tileReloadDrainEnd (t : Fin 8)
  /-- TILE_RELOAD_APPLY (R412): The tile's memory is zeroed and its new sections applied. -/
  | tileReloadApply (t : Fin 8)
  /-- TILE_RELOAD_END (R412): The tile starts and the next tile's turn or the end of CHANGEOVER follows. -/
  | tileReloadEnd (t : Fin 8)
  /-- TILE_RESTART_DRAIN_END (R425): The tile's queues have drained and STOP MARKs are written. -/
  | tileRestartDrainEnd (t : Fin 8)
  /-- TILE_RESTART_APPLY (R425): Tile memory is zeroed and sections applied from the store. -/
  | tileRestartApply (t : Fin 8) (ups : List StoreUpset)
  /-- TILE_BACK (R425): The tile starts again with RESUME MARKs. -/
  | tileBack (t : Fin 8)
  /-- LOG_SEL_WRITE (R434): The vat core writes LOG_SEL to select an entry for LOG_DATA. -/
  | logSelWrite (w : Fin 9) (index : Word)
  /-- LOG_USER_WRITE (R436): The vat core writes LOG_USER_CMD.WRITE to add a USER entry. -/
  | logUserWrite (w : Fin 9)
  /-- FLT_SNAP (R437): The vat core writes FLT_SNAP to start writing a HEALTH head. -/
  | fltSnap (w : Fin 9) (addr : Word)
  /-- SNAP_DONE (R437): The HEALTH head is written and SNAP_BUSY clears. -/
  | snapDone
  /-- SVC_WRITE_TRANSFER (R443): A service-port write transfer sets the pointer and writes bytes. -/
  | svcWriteTransfer (enable : Bool) (bytes : List Byte)
  /-- SVC_READ_TRANSFER (R445): A service-port read transfer copies the page and returns bytes. -/
  | svcReadTransfer (enable : Bool) (n : Nat)
  /-- SVC_SCL_STUCK (R447): SCL held low 25 ms makes the port release SDA and end the transfer. -/
  | svcSclStuck
  /-- SVC_TAKE (R454): Service command TAKE sets the SERVICE condition. -/
  | svcTake
  /-- SVC_RELEASE (R454): Service command RELEASE ends a take or COMMISSION. -/
  | svcRelease
  /-- SVC_ALIVE (R454): Service command ALIVE extends the take by TAKE_S. -/
  | svcAlive
  /-- SVC_COMMISSION (R453): Service command COMMISSION enters COMMISSION. -/
  | svcCommission (enable : Bool)
  /-- SVC_WARM_RESET (R455): Service command WARM_RESET starts a warm reset with cause SERVICE. -/
  | svcWarmReset
  /-- TAKE_EXPIRY (R454): TAKE_S seconds after the last TAKE or ALIVE the take ends. -/
  | takeExpiry
  /-- COMMISSION_END (R406): COMMISSION ends and a warm reset follows if a field was written. -/
  | commissionEnd (enable : Bool)
  /-- COMMISSION_GO (R459): GO on page 5 checks and starts a fuse burn of a commissioning field. -/
  | commissionGo (enable : Bool)
  /-- TRIM_GO (R461): GO on page 6 checks and starts a fuse burn of a calibration trim. -/
  | trimGo (enable : Bool)
  /-- BURN_END (R459): A fuse burn ends and is verified as DONE or BURN_FAIL. -/
  | burnEnd (verified : Bool)
  /-- SVC_KICK (R462): The vat core writes SVC_KICK to keep HEALTHY_N held. -/
  | svcKick (w : Fin 9)
  /-- KICK_TIMEOUT (R462): KICK_MS without a kick releases HEALTHY_N. -/
  | kickTimeout
  /-- HEALTHY_HOLD_END (R462): 10 ms after a release HEALTHY_N may be held low again. -/
  | healthyHoldEnd
  /-- FACTORY_FIXTURE_TAKE (R398): A factory fixture takes the module and the FACTORY_TEST condition is set. -/
  | factoryFixtureTake
  /-- SIGNAL_LOST (R153): A Herd port in WRONG_PORT loses its received signal and returns to TRAINING. -/
  | signalLost (portB : Bool)
  /-- UNANSWERED_FRAME_EXPIRY (R168): 2 × ACK_TO_US after an ACTION frame left without an ACK, it stops counting among the origin's 16 unanswered frames and a waiting request may leave. -/
  | unansweredFrameExpiry (fseq : Word)
  deriving DecidableEq, Repr

end Sys2Proof
end

