-- ==== Sys2Proof/WellFormed.lean ====
section
/-! DEFINITION. Which commands are well formed: Filsy instructions whose words R253 to R263 allow, and Herd frames whose fields fit. -/

namespace Sys2Proof

open Machine

/-- K and B are 0: an A-format instruction with fewer than two source registers and no use of K (R253, R256). -/
def plainOne (b : BitVec 4) (k : BitVec 8) : Bool := b == 0#4 && k == 0#8

/-- A shift's two forms (R258): by register, with K 0, or by K, with B 0. -/
def shiftForm (b : BitVec 4) (k : BitVec 8) (byK : Bool) : Bool := if byK then b == 0#4 else k == 0#8

/-- K of the fixed-point instructions is at most 31 (R259). -/
def fixedK (k : BitVec 8) : Bool := Nat.ble k.toNat 31

/-- The word of a Filsy instruction breaks no rule of its own (R253, R255 to R263); other commands are no words. -/
def Instr.encodingOk : Instr → Bool
  | .add _ _ _ _ k => k == 0#8
  | .adc _ _ _ _ k => k == 0#8
  | .sub _ _ _ _ k => k == 0#8
  | .sbc _ _ _ _ k => k == 0#8
  | .adds _ _ _ _ k => k == 0#8
  | .subs _ _ _ _ k => k == 0#8
  | .neg _ _ _ rb k => plainOne rb k
  | .negs _ _ _ rb k => plainOne rb k
  | .andI _ _ _ _ k => k == 0#8
  | .orI _ _ _ _ k => k == 0#8
  | .xor _ _ _ _ k => k == 0#8
  | .andn _ _ _ _ k => k == 0#8
  | .minI _ _ _ _ k => k == 0#8
  | .maxI _ _ _ _ k => k == 0#8
  | .minu _ _ _ _ k => k == 0#8
  | .maxu _ _ _ _ k => k == 0#8
  | .abs _ _ _ rb k => plainOne rb k
  | .abss _ _ _ rb k => plainOne rb k
  | .sextb _ _ _ rb k => plainOne rb k
  | .sexth _ _ _ rb k => plainOne rb k
  | .clz _ _ _ rb k => plainOne rb k
  | .popc _ _ _ rb k => plainOne rb k
  | .sel _ _ _ _ k => Nat.blt k.toNat 15
  | .addi _ _ _ _ => true
  | .subi _ _ _ _ => true
  | .andi _ _ _ _ => true
  | .ori _ _ _ _ => true
  | .xori _ _ _ _ => true
  | .lui _ _ _ => true
  | .shl _ _ _ rb k byK => shiftForm rb k byK
  | .shr _ _ _ rb k byK => shiftForm rb k byK
  | .sar _ _ _ rb k byK => shiftForm rb k byK
  | .ror _ _ _ rb k byK => shiftForm rb k byK
  | .rol _ _ _ rb k byK => shiftForm rb k byK
  | .shls _ _ _ rb k byK => shiftForm rb k byK
  | .mul _ _ _ _ k => k == 0#8
  | .mulh _ _ _ _ k => k == 0#8
  | .mulhu _ _ _ _ k => k == 0#8
  | .mac _ _ _ _ k => k == 0#8
  | .macs _ _ _ _ k => k == 0#8
  | .mulq _ _ _ _ k => fixedK k
  | .macq _ _ _ _ k => fixedK k
  | .dotq _ d a rb k => fixedK k && d != a && d != rb && a != rb
  | .divI _ _ _ _ k => k == 0#8
  | .divu _ _ _ _ k => k == 0#8
  | .rem _ _ _ _ k => k == 0#8
  | .remu _ _ _ _ k => k == 0#8
  | .ldw _ _ _ _ => true
  | .ldh _ _ _ _ => true
  | .ldhu _ _ _ _ => true
  | .ldb _ _ _ _ => true
  | .ldbu _ _ _ _ => true
  | .stw _ _ _ _ => true
  | .sth _ _ _ _ => true
  | .stb _ _ _ _ => true
  | .ldwp _ d a _ => d != a
  | .stwp _ _ _ _ => true
  | .ldhp _ d a _ => d != a
  | .sthp _ _ _ _ => true
  | .push _ d _ rb k => d == 0#4 && plainOne rb k
  | .pop _ d a rb k => d != 13#4 && a == 0#4 && plainOne rb k
  | .b _ cond _ => cond != 15#4
  | .call _ cond _ => cond == 0#4
  | .jr _ _ _ rb k => plainOne rb k
  | .callr _ _ _ rb k => plainOne rb k
  | .ret _ _ a rb k => a == 0#4 && plainOne rb k
  | .rpti _ d _ => d == 0#4
  | .rptr _ rest => rest == 0#26
  | .nop _ _ _ rb k => plainOne rb k
  | .mfs _ _ _ rb _ => rb == 0#4
  | .mts _ _ _ rb _ => rb == 0#4
  | .eret _ _ _ rb k => plainOne rb k
  | .wait _ _ _ rb k => plainOne rb k
  | .brk _ _ _ rb _ => rb == 0#4
  | .ei _ _ _ rb k => plainOne rb k
  | .di _ _ _ rb k => plainOne rb k
  | .fence _ _ _ rb k => plainOne rb k
  | _ => true

/-- The addresses of a Herd frame lie on the line, and a beacon carries its 8 ROLL entries and 4 model slots (R149, R157). -/
def Machine.Frame.ok (f : Frame) : Bool :=
  Nat.blt f.origin 32 && Nat.blt f.dest 32
    && (match f.body with
      | .beacon b => b.roll.length == 8 && b.models.length == 4 && Nat.blt b.srcAddr 32
      | .action l => Nat.ble 1 l.length && Nat.ble l.length 8
      | _ => true)

/-- The frame a command carries has fields that fit. -/
def Instr.frameOk : Instr → Bool
  | .beaconRx _ f _ _ _ => f.ok
  | .claimRx _ f _ => f.ok
  | .formRx _ f _ => f.ok
  | .calRx _ f _ _ => f.ok
  | .pulseRx _ f _ _ => f.ok
  | .actionRx _ f _ => f.ok
  | .herdAckRx _ f _ => f.ok
  | .recordRx _ f _ => f.ok
  | _ => true

/-- A request's CODE belongs to its row (R360): HEALTH takes its own CODE and those that no row has. -/
def Instr.requestOk : Instr → Bool
  | .health _ _ x => x.code != 1#8 && x.code != 3#8 && x.code != 4#8
  | _ => true

/-- A command is well formed. -/
def Instr.wf (i : Instr) : Bool := i.encodingOk && i.frameOk && i.requestOk

end Sys2Proof
end

