-- ==== Sys2Proof/Decode.lean ====
section
/-! DEFINITION. The Filsy encodings (R253, R254): the instruction a word spells and the word of an instruction. The opcode table of this block gives its
rows no bits, so no word spells a row. -/

namespace Sys2Proof

open Machine

/-- The command that a word spells by the opcode table's bits: the table gives none. -/
def decodeTableWord (_nbits _w : Nat) : Option Instr := none

/-- D of a word (R253). -/
def fieldD (w : Nat) : BitVec 4 := BitVec.ofNat 4 (w / 4194304)
/-- A of a word. -/
def fieldA (w : Nat) : BitVec 4 := BitVec.ofNat 4 (w / 262144)
/-- B of a word. -/
def fieldB (w : Nat) : BitVec 4 := BitVec.ofNat 4 (w / 16384)
/-- K of a word. -/
def fieldK (w : Nat) : BitVec 8 := BitVec.ofNat 8 (w / 64)
/-- IMM18 of a word. -/
def fieldI (w : Nat) : BitVec 18 := BitVec.ofNat 18 w
/-- IMM22 or OFF22 of a word. -/
def fieldU (w : Nat) : BitVec 22 := BitVec.ofNat 22 w

/-- A constructor of format A. -/
abbrev FormA := Fin 9 → BitVec 4 → BitVec 4 → BitVec 4 → BitVec 8 → Instr

/-- The fields of format A read from a word. -/
def readA (f : FormA) (c : Fin 9) (w : Nat) : Option Instr := some (f c (fieldD w) (fieldA w) (fieldB w) (fieldK w))

/-- The fields of format I read from a word. -/
def readI (f : Fin 9 → BitVec 4 → BitVec 4 → BitVec 18 → Instr) (c : Fin 9) (w : Nat) : Option Instr :=
  some (f c (fieldD w) (fieldA w) (fieldI w))

/-- The fields of a shift read from a word (R258): FN bit 3 says that K is the amount. -/
def readS (f : Fin 9 → BitVec 4 → BitVec 4 → BitVec 4 → BitVec 8 → Bool → Instr) (c : Fin 9) (w : Nat) : Option Instr :=
  some (f c (fieldD w) (fieldA w) (fieldB w) (fieldK w) (w / 8 % 2 == 1))

/-- OP 0x00 (R256). -/
def decodeInt (c : Fin 9) (w : Nat) : Option Instr :=
  match w % 64 with
  | 0 => readA .add c w
  | 1 => readA .adc c w
  | 2 => readA .sub c w
  | 3 => readA .sbc c w
  | 4 => readA .adds c w
  | 5 => readA .subs c w
  | 6 => readA .neg c w
  | 7 => readA .negs c w
  | 8 => readA .andI c w
  | 9 => readA .orI c w
  | 10 => readA .xor c w
  | 11 => readA .andn c w
  | 16 => readA .minI c w
  | 17 => readA .maxI c w
  | 18 => readA .minu c w
  | 19 => readA .maxu c w
  | 20 => readA .abs c w
  | 21 => readA .abss c w
  | 22 => readA .sextb c w
  | 23 => readA .sexth c w
  | 24 => readA .clz c w
  | 25 => readA .popc c w
  | 26 => readA .sel c w
  | _ => none

/-- OP 0x01 (R259). -/
def decodeMul (c : Fin 9) (w : Nat) : Option Instr :=
  match w % 64 with
  | 0 => readA .mul c w
  | 1 => readA .mulh c w
  | 2 => readA .mulhu c w
  | 3 => readA .mac c w
  | 4 => readA .macs c w
  | 5 => readA .mulq c w
  | 6 => readA .macq c w
  | 7 => readA .dotq c w
  | 8 => readA .divI c w
  | 9 => readA .divu c w
  | 10 => readA .rem c w
  | 11 => readA .remu c w
  | _ => none

/-- OP 0x02 (R258). -/
def decodeShift (c : Fin 9) (w : Nat) : Option Instr :=
  match w % 64 with
  | 0 => readS .shl c w
  | 1 => readS .shr c w
  | 2 => readS .sar c w
  | 3 => readS .ror c w
  | 4 => readS .rol c w
  | 5 => readS .shls c w
  | 8 => readS .shl c w
  | 9 => readS .shr c w
  | 10 => readS .sar c w
  | 11 => readS .ror c w
  | 12 => readS .rol c w
  | 13 => readS .shls c w
  | _ => none

/-- OP 0x03 (R263). -/
def decodeSystem (c : Fin 9) (w : Nat) : Option Instr :=
  match w % 64 with
  | 0 => readA .nop c w
  | 1 => readA .mfs c w
  | 2 => readA .mts c w
  | 3 => readA .eret c w
  | 4 => readA .wait c w
  | 5 => readA .brk c w
  | 6 => readA .ei c w
  | 7 => readA .di c w
  | 8 => readA .fence c w
  | _ => none

/-- OP 0x22 (R262). -/
def decodeJump (c : Fin 9) (w : Nat) : Option Instr :=
  match w % 64 with
  | 0 => readA .jr c w
  | 1 => readA .callr c w
  | 2 => readA .ret c w
  | _ => none

/-- OP 0x1C and 0x1D, PUSH and POP (R261): FN must be 0. -/
def decodeStack (f : FormA) (c : Fin 9) (w : Nat) : Option Instr := if w % 64 = 0 then readA f c w else none

/-- The instruction that a word spells for core `c` (R253, R254); none for an unassigned OP or FN. Whether the fields keep the instruction's own rules
is `Instr.encodingOk`. -/
def decodeFilsy (c : Fin 9) (word : Word) : Option Instr :=
  let w := word.toNat
  match w / 67108864 with
  | 0x00 => decodeInt c w
  | 0x01 => decodeMul c w
  | 0x02 => decodeShift c w
  | 0x03 => decodeSystem c w
  | 0x08 => readI .addi c w
  | 0x09 => readI .subi c w
  | 0x0A => readI .andi c w
  | 0x0B => readI .ori c w
  | 0x0C => readI .xori c w
  | 0x0D => some (.lui c (fieldD w) (fieldU w))
  | 0x10 => readI .ldw c w
  | 0x11 => readI .ldh c w
  | 0x12 => readI .ldhu c w
  | 0x13 => readI .ldb c w
  | 0x14 => readI .ldbu c w
  | 0x15 => readI .stw c w
  | 0x16 => readI .sth c w
  | 0x17 => readI .stb c w
  | 0x18 => readI .ldwp c w
  | 0x19 => readI .stwp c w
  | 0x1A => readI .ldhp c w
  | 0x1B => readI .sthp c w
  | 0x1C => decodeStack .push c w
  | 0x1D => decodeStack .pop c w
  | 0x20 => some (.b c (fieldD w) (fieldU w))
  | 0x21 => some (.call c (fieldD w) (fieldU w))
  | 0x22 => decodeJump c w
  | 0x23 => some (.rpti c (fieldD w) (fieldU w))
  | 0x24 => some (.rptr c (BitVec.ofNat 26 w))
  | _ => none

/-- The word of format A (R253). -/
def packA (op fn : Nat) (d a b : BitVec 4) (k : BitVec 8) : Word :=
  BitVec.ofNat 32 (op * 67108864 + d.toNat * 4194304 + a.toNat * 262144 + b.toNat * 16384 + k.toNat * 64 + fn)

/-- The word of format I. -/
def packI (op : Nat) (d a : BitVec 4) (i : BitVec 18) : Word :=
  BitVec.ofNat 32 (op * 67108864 + d.toNat * 4194304 + a.toNat * 262144 + i.toNat)

/-- The word of formats U and J. -/
def packU (op : Nat) (d : BitVec 4) (i : BitVec 22) : Word := BitVec.ofNat 32 (op * 67108864 + d.toNat * 4194304 + i.toNat)

/-- The word of a shift (R258). -/
def packS (fn : Nat) (d a b : BitVec 4) (k : BitVec 8) (byK : Bool) : Word := packA 0x02 (if byK then fn + 8 else fn) d a b k

/-- The word of a Filsy instruction (R253, R254); other commands have none. -/
def encodeFilsy : Instr → Option Word
  | .add _ d a b k => some (packA 0x00 0 d a b k)
  | .adc _ d a b k => some (packA 0x00 1 d a b k)
  | .sub _ d a b k => some (packA 0x00 2 d a b k)
  | .sbc _ d a b k => some (packA 0x00 3 d a b k)
  | .adds _ d a b k => some (packA 0x00 4 d a b k)
  | .subs _ d a b k => some (packA 0x00 5 d a b k)
  | .neg _ d a b k => some (packA 0x00 6 d a b k)
  | .negs _ d a b k => some (packA 0x00 7 d a b k)
  | .andI _ d a b k => some (packA 0x00 8 d a b k)
  | .orI _ d a b k => some (packA 0x00 9 d a b k)
  | .xor _ d a b k => some (packA 0x00 10 d a b k)
  | .andn _ d a b k => some (packA 0x00 11 d a b k)
  | .minI _ d a b k => some (packA 0x00 16 d a b k)
  | .maxI _ d a b k => some (packA 0x00 17 d a b k)
  | .minu _ d a b k => some (packA 0x00 18 d a b k)
  | .maxu _ d a b k => some (packA 0x00 19 d a b k)
  | .abs _ d a b k => some (packA 0x00 20 d a b k)
  | .abss _ d a b k => some (packA 0x00 21 d a b k)
  | .sextb _ d a b k => some (packA 0x00 22 d a b k)
  | .sexth _ d a b k => some (packA 0x00 23 d a b k)
  | .clz _ d a b k => some (packA 0x00 24 d a b k)
  | .popc _ d a b k => some (packA 0x00 25 d a b k)
  | .sel _ d a b k => some (packA 0x00 26 d a b k)
  | .mul _ d a b k => some (packA 0x01 0 d a b k)
  | .mulh _ d a b k => some (packA 0x01 1 d a b k)
  | .mulhu _ d a b k => some (packA 0x01 2 d a b k)
  | .mac _ d a b k => some (packA 0x01 3 d a b k)
  | .macs _ d a b k => some (packA 0x01 4 d a b k)
  | .mulq _ d a b k => some (packA 0x01 5 d a b k)
  | .macq _ d a b k => some (packA 0x01 6 d a b k)
  | .dotq _ d a b k => some (packA 0x01 7 d a b k)
  | .divI _ d a b k => some (packA 0x01 8 d a b k)
  | .divu _ d a b k => some (packA 0x01 9 d a b k)
  | .rem _ d a b k => some (packA 0x01 10 d a b k)
  | .remu _ d a b k => some (packA 0x01 11 d a b k)
  | .nop _ d a b k => some (packA 0x03 0 d a b k)
  | .mfs _ d a b k => some (packA 0x03 1 d a b k)
  | .mts _ d a b k => some (packA 0x03 2 d a b k)
  | .eret _ d a b k => some (packA 0x03 3 d a b k)
  | .wait _ d a b k => some (packA 0x03 4 d a b k)
  | .brk _ d a b k => some (packA 0x03 5 d a b k)
  | .ei _ d a b k => some (packA 0x03 6 d a b k)
  | .di _ d a b k => some (packA 0x03 7 d a b k)
  | .fence _ d a b k => some (packA 0x03 8 d a b k)
  | .jr _ d a b k => some (packA 0x22 0 d a b k)
  | .callr _ d a b k => some (packA 0x22 1 d a b k)
  | .ret _ d a b k => some (packA 0x22 2 d a b k)
  | .shl _ d a b k byK => some (packS 0 d a b k byK)
  | .shr _ d a b k byK => some (packS 1 d a b k byK)
  | .sar _ d a b k byK => some (packS 2 d a b k byK)
  | .ror _ d a b k byK => some (packS 3 d a b k byK)
  | .rol _ d a b k byK => some (packS 4 d a b k byK)
  | .shls _ d a b k byK => some (packS 5 d a b k byK)
  | .addi _ d a i => some (packI 0x08 d a i)
  | .subi _ d a i => some (packI 0x09 d a i)
  | .andi _ d a i => some (packI 0x0A d a i)
  | .ori _ d a i => some (packI 0x0B d a i)
  | .xori _ d a i => some (packI 0x0C d a i)
  | .ldw _ d a i => some (packI 0x10 d a i)
  | .ldh _ d a i => some (packI 0x11 d a i)
  | .ldhu _ d a i => some (packI 0x12 d a i)
  | .ldb _ d a i => some (packI 0x13 d a i)
  | .ldbu _ d a i => some (packI 0x14 d a i)
  | .stw _ d a i => some (packI 0x15 d a i)
  | .sth _ d a i => some (packI 0x16 d a i)
  | .stb _ d a i => some (packI 0x17 d a i)
  | .ldwp _ d a i => some (packI 0x18 d a i)
  | .stwp _ d a i => some (packI 0x19 d a i)
  | .ldhp _ d a i => some (packI 0x1A d a i)
  | .sthp _ d a i => some (packI 0x1B d a i)
  | .lui _ d i => some (packU 0x0D d i)
  | .push _ d a b k => some (packA 0x1C 0 d a b k)
  | .pop _ d a b k => some (packA 0x1D 0 d a b k)
  | .b _ cond off => some (packU 0x20 cond off)
  | .call _ cond off => some (packU 0x21 cond off)
  | .rpti _ d i => some (packU 0x23 d i)
  | .rptr _ rest => some (BitVec.ofNat 32 (0x24 * 67108864 + rest.toNat))
  | _ => none

/-- The core that a Filsy instruction names. -/
def Instr.filsyCore : Instr → Option (Fin 9)
  | .add c _ _ _ _ => some c
  | .adc c _ _ _ _ => some c
  | .sub c _ _ _ _ => some c
  | .sbc c _ _ _ _ => some c
  | .adds c _ _ _ _ => some c
  | .subs c _ _ _ _ => some c
  | .neg c _ _ _ _ => some c
  | .negs c _ _ _ _ => some c
  | .andI c _ _ _ _ => some c
  | .orI c _ _ _ _ => some c
  | .xor c _ _ _ _ => some c
  | .andn c _ _ _ _ => some c
  | .minI c _ _ _ _ => some c
  | .maxI c _ _ _ _ => some c
  | .minu c _ _ _ _ => some c
  | .maxu c _ _ _ _ => some c
  | .abs c _ _ _ _ => some c
  | .abss c _ _ _ _ => some c
  | .sextb c _ _ _ _ => some c
  | .sexth c _ _ _ _ => some c
  | .clz c _ _ _ _ => some c
  | .popc c _ _ _ _ => some c
  | .sel c _ _ _ _ => some c
  | .mul c _ _ _ _ => some c
  | .mulh c _ _ _ _ => some c
  | .mulhu c _ _ _ _ => some c
  | .mac c _ _ _ _ => some c
  | .macs c _ _ _ _ => some c
  | .mulq c _ _ _ _ => some c
  | .macq c _ _ _ _ => some c
  | .dotq c _ _ _ _ => some c
  | .divI c _ _ _ _ => some c
  | .divu c _ _ _ _ => some c
  | .rem c _ _ _ _ => some c
  | .remu c _ _ _ _ => some c
  | .nop c _ _ _ _ => some c
  | .mfs c _ _ _ _ => some c
  | .mts c _ _ _ _ => some c
  | .eret c _ _ _ _ => some c
  | .wait c _ _ _ _ => some c
  | .brk c _ _ _ _ => some c
  | .ei c _ _ _ _ => some c
  | .di c _ _ _ _ => some c
  | .fence c _ _ _ _ => some c
  | .jr c _ _ _ _ => some c
  | .callr c _ _ _ _ => some c
  | .ret c _ _ _ _ => some c
  | .shl c _ _ _ _ _ => some c
  | .shr c _ _ _ _ _ => some c
  | .sar c _ _ _ _ _ => some c
  | .ror c _ _ _ _ _ => some c
  | .rol c _ _ _ _ _ => some c
  | .shls c _ _ _ _ _ => some c
  | .addi c _ _ _ => some c
  | .subi c _ _ _ => some c
  | .andi c _ _ _ => some c
  | .ori c _ _ _ => some c
  | .xori c _ _ _ => some c
  | .ldw c _ _ _ => some c
  | .ldh c _ _ _ => some c
  | .ldhu c _ _ _ => some c
  | .ldb c _ _ _ => some c
  | .ldbu c _ _ _ => some c
  | .stw c _ _ _ => some c
  | .sth c _ _ _ => some c
  | .stb c _ _ _ => some c
  | .ldwp c _ _ _ => some c
  | .stwp c _ _ _ => some c
  | .ldhp c _ _ _ => some c
  | .sthp c _ _ _ => some c
  | .lui c _ _ => some c
  | .push c _ _ _ _ => some c
  | .pop c _ _ _ _ => some c
  | .b c _ _ => some c
  | .call c _ _ => some c
  | .rpti c _ _ => some c
  | .rptr c _ => some c
  | _ => none

/-- The instruction belongs to the core's profile (R243, R247): PUSH and POP need the large one, MFS and MTS a special register that it has, and
that MTS may write. -/
def Instr.onProfile (present writable : Nat → Bool) (large : Bool) : Instr → Bool
  | .push _ _ _ _ _ => large
  | .pop _ _ _ _ _ => large
  | .mfs _ _ _ _ k => present k.toNat
  | .mts _ _ _ _ k => writable k.toNat
  | _ => true

/-- A prefix may stand before the instruction (R265): those of OP 0x00 to 0x02, 0x08 to 0x0D and 0x10 to 0x1B, MFS and MTS. -/
def repeatableWord (word : Word) : Bool :=
  let op := word.toNat / 67108864
  let fn := word.toNat % 64
  Nat.ble op 2 || (Nat.ble 8 op && Nat.ble op 0x0D) || (Nat.ble 0x10 op && Nat.ble op 0x1B) || (op == 3 && (fn == 1 || fn == 2))

end Sys2Proof
end

