-- ==== Sys2Proof/Config.lean ====
section
/-! DEFINITION. What one module fixes (factory trims) and the values the spec leaves open. Each is an opaque constant: nothing can be
proved of its value, so every claim holds whatever it is. -/

namespace Sys2Proof.Config

/-- A free 32-bit value: the `n`-th value the module draws where the spec states none (true random source of R347 and R351, and
other open values). UNVERIFIED: the spec gives no value; see notes/assumptions. -/
opaque freeWord : Nat → Word

/-- A free value below 2^32 − 1: the `n`-th draw of the true random source where the value 0 is drawn again (R347, R351); the value is one
more. -/
opaque freeBelow : Nat → Fin 4294967295

/-- Factory-trimmed input delay of capture input `i` in ns (R212: nominally 1,150 ns for IN and 9 ns for DIN). -/
opaque dIn : Nat → Nat

/-- Factory-trimmed driver delay of output `n` in ns (R232: about 3,000 ns for OUT and 24 ns for FOUT). -/
opaque outDly : Nat → Nat

/-- Where a rounding to nearest meets a tie, whether the value goes up (R96: the spec says no more than "to nearest"). -/
opaque tieUp : Int → Bool

/-- Whether channel `k`'s input has been quiet for part of a quiet window at LT `t` (R107). DESIGN CHOICE: the input between samples is no state
of the block. -/
opaque quietRuns : Nat → Nat → Bool

/-- The EMF in pV of a type B thermocouple at a cold-junction temperature below 0 °C, in 1/128 °C (R97). IEC 60584-1, which the spec names, gives
none there. -/
opaque emfBBelow : Int → Int

/-- The filter's step response (R112): the weight, in 2^-30, of the clocks at an offset of `d` clocks or more from a sample's stamp, at a rate code,
with notches at the given places (in 2^-17 mHz) of width code `bw`. The spec gives the filter's response and no coefficients. -/
opaque filterStep : (rate : Nat) → (notches : List Nat) → (bw : Nat) → (d : Int) → Int

/-- The factory-trimmed resistance of cell `c`'s return switch in mΩ (R66, R82). -/
opaque returnSwitch : Nat → Nat

/-- The factory value (slot 0) of the calibration trims of kinds 1 to 5 and 7, by TRIM_ID (R461). -/
opaque factoryTrim : Nat → Word

/-- Whether rail `r` (3 VSER, 4 VANA, 5 VEXC) feeds domain `n` (R375). The spec switches these rails by the domains that use them and does not
say which use which. -/
opaque railUses : Nat → Nat → Bool

/-- How many frames of class 2 or 3 a port's buffer holds beyond the one that every buffer holds (R171). The spec gives the size of the class 1 buffer
alone. -/
opaque portBuffer : Nat → Nat

/-- The module's serial number, which is its Herd TOKEN (R160, R449). -/
opaque serial : Word

/-- The module's MAC address, first transmitted octet in bits [7:0] (R342, R449). -/
opaque mac : BitVec 48

/-- HW_ISSUE and AON_ISSUE of the identity page (R449). -/
opaque issues : BitVec 16

/-- BUILT of the identity page (R449). -/
opaque built : Word

/-- How long the jack's yellow lamp shows a frame, in ns (R44): the spec gives no time. -/
opaque lampNs : Nat

end Sys2Proof.Config
end

