-- ==== Sys2Proof/Machine/Emf.lean ====
section
/-! DEFINITION. The EMF of the thermocouple types of IEC 60584-1 (R97), as polynomials of the temperature in °C that answer mV. PRESUMED: the spec names
the standard, and the coefficients are those the standard publishes; see notes/assumptions. -/

namespace Sys2Proof.Machine

/-! A coefficient is a pair of its twelve digits and the exponent of ten they are divided by, beyond the twelve of the digits. -/

/-- Type J. -/
def emfJ : List (Int × Nat) :=
  [(0, 1), (503811878150, 1), (304758369300, 4), (-856810657200, 7), (132281952950, 9), (-170529583370, 12), (209480906970, 15),
   (-125383953360, 18), (156317256970, 22)]

/-- Type K below 0 °C. -/
def emfKLow : List (Int × Nat) :=
  [(0, 1), (394501280250, 1), (236223735980, 4), (-328589067840, 6), (-499048287770, 8), (-675090591730, 10), (-574103274280, 12),
   (-310888728940, 14), (-104516093650, 16), (-198892668780, 19), (-163226974860, 22)]

/-- Type K from 0 °C on, without its exponential term. -/
def emfKHigh : List (Int × Nat) :=
  [(-176004136860, 1), (389212049750, 1), (185587700320, 4), (-994575928740, 7), (318409457190, 9), (-560728448890, 12), (560750590590, 15),
   (-320207200030, 18), (971511471520, 22), (-121047212750, 25)]

/-- Type T below 0 °C. -/
def emfTLow : List (Int × Nat) :=
  [(0, 1), (387481063640, 1), (441944343470, 4), (118443231050, 6), (200329735540, 7), (901380195590, 9), (226511565930, 10),
   (360711542050, 12), (384939398830, 14), (282135219250, 16), (142515947790, 18), (487686622860, 21), (107955392700, 23),
   (139450270620, 26), (797951539270, 30)]

/-- Type T from 0 °C on. -/
def emfTHigh : List (Int × Nat) :=
  [(0, 1), (387481063640, 1), (332922278800, 4), (206182434040, 6), (-218822568460, 8), (109968809280, 10), (-308157587720, 13),
   (454791352900, 16), (-275129016730, 19)]

/-- Type E below 0 °C. -/
def emfELow : List (Int × Nat) :=
  [(0, 1), (586655087080, 1), (454109771240, 4), (-779980486860, 6), (-258001608430, 7), (-594525830570, 9), (-932140586670, 11),
   (-102876055340, 12), (-803701236210, 15), (-439794973910, 17), (-164147763550, 19), (-396736195160, 22), (-558273287210, 25),
   (-346578420130, 28)]

/-- Type E from 0 °C on. -/
def emfEHigh : List (Int × Nat) :=
  [(0, 1), (586655087100, 1), (450322755820, 4), (289084072120, 7), (-330568966520, 9), (650244032700, 12), (-191974955040, 15),
   (-125366004970, 17), (214892175690, 20), (-143880417820, 23), (359608994810, 27)]

/-- Type N below 0 °C. -/
def emfNLow : List (Int × Nat) :=
  [(0, 1), (261591059620, 1), (109574842280, 4), (-938411115540, 7), (-464120397590, 10), (-263033577160, 11), (-226534380030, 13),
   (-760893007910, 16), (-934196678350, 19)]

/-- Type N from 0 °C on. -/
def emfNHigh : List (Int × Nat) :=
  [(0, 1), (259293946010, 1), (157101418800, 4), (438256272370, 7), (-252611697940, 9), (643118193390, 12), (-100634715190, 14),
   (997453389920, 18), (-608632456070, 21), (208492293390, 24), (-306821961510, 28)]

/-- Type R. -/
def emfR : List (Int × Nat) :=
  [(0, 1), (528961729765, 2), (139166589782, 4), (-238855693017, 7), (356916001063, 10), (-462347666298, 13), (500777441034, 16),
   (-373105886191, 19), (157716482367, 22), (-281038625251, 26)]

/-- Type S. -/
def emfS : List (Int × Nat) :=
  [(0, 1), (540313308631, 2), (125934289740, 4), (-232477968689, 7), (322028823036, 10), (-331465196389, 13), (255744251786, 16),
   (-125068871393, 19), (271443176145, 23)]

/-- Type B, from 0 °C on. -/
def emfB : List (Int × Nat) :=
  [(0, 1), (-246508183460, 3), (590404211710, 5), (-132579316360, 8), (156682919010, 11), (-169445292400, 14), (629903470940, 18)]

/-- A polynomial at `t` ÷ 128 °C, in units of 10^-42 ÷ 128^14 mV; `n` counts the coefficients still allowed. -/
def emfSum (t : Int) : List (Int × Nat) → Nat → Int → Int
  | (m, x) :: l, n + 1, p => m * 10 ^ (30 - x) * p * 128 ^ n + emfSum t l n (p * t)
  | _, _, _ => 0

/-- The sum of `k` terms of the exponential series of `yn` ÷ `yd`, from the term of order `n` on. -/
def expSum (yn : Int) (yd : Nat) (term : Int) (n : Nat) : Nat → Int
  | 0 => 0
  | k + 1 => term + expSum yn yd (term * yn / (yd * (n + 1) : Nat)) (n + 1) k

/-- Type K's exponential term 0.1185976 × exp(−0.0001183432 × (t − 126.9686)²) at `t` ÷ 128 °C, in units of 10^-42 mV. -/
def emfKExp (t : Int) : Int :=
  let d := t * 10000 - 162519808
  1185976 * expSum (-1183432 * d * d) (10 ^ 10 * 1280000 ^ 2) (10 ^ 42) 0 60 / 10 ^ 7

/-- The denominator of an EMF in pV. -/
def emfDen : Nat := 10 ^ 33 * 128 ^ 14

/-- The EMF of type `ty` (1 J, 2 K, 3 T, 4 E, 5 N, 6 R, 7 S, 8 B) at `t` ÷ 128 °C against a 0 °C junction, in pV ÷ `emfDen` (R97). The standard gives
type B no EMF below 0 °C: there it is a free value. -/
def emfNum (ty : Nat) (t : Int) : Int :=
  let p (l : List (Int × Nat)) : Int := emfSum t l 15 1
  match ty with
  | 1 => p emfJ
  | 2 => if t < 0 then p emfKLow else p emfKHigh + emfKExp t * 128 ^ 14
  | 3 => if t < 0 then p emfTLow else p emfTHigh
  | 4 => if t < 0 then p emfELow else p emfEHigh
  | 5 => if t < 0 then p emfNLow else p emfNHigh
  | 6 => p emfR
  | 7 => p emfS
  | 8 => if t < 0 then Config.emfBBelow t * emfDen else p emfB
  | _ => 0

end Sys2Proof.Machine
end

