-- ==== Sys2Proof/Machine/ChurnTypes.lean ====
section
/-! DEFINITION. The churn engine's state that is no register (chapter 07): waiting samples, open and closed cycle records, groups,
and a judgement that runs. -/

namespace Sys2Proof.Machine

/-- An exact position: `num` over `den` counts (R184 interpolates without rounding; only the angle is truncated). -/
structure Pos where
  num : Int
  den : Nat
  deriving DecidableEq, Repr

/-- A sample that waits for a later point (R185): its stamp, its 32-bit sample word (R292), the LT at which it left the chain, and
whether it is one that TQ t.0 could not take (R292: never folded, its cycle carries GAP_IN). -/
structure WaitSample where
  lt : Nat
  word : Word
  left : Nat
  lost : Bool
  deriving DecidableEq, Repr

/-- One bin's accumulator (R188, R189, R194): exact sum, extremes with the 2^-24-cycle angle of the earliest sample that gave
them, samples added, samples placed, marks. -/
structure BinAcc where
  sum : Int
  min : Int
  max : Int
  minAt : Nat
  maxAt : Nat
  added : Nat
  placed : Nat
  stitched : Bool
  overrange : Bool
  exc : Bool
  settling : Bool
  holdover : Bool
  deriving DecidableEq, Repr

/-- A bin in which no sample was placed. -/
def BinAcc.empty : BinAcc := ⟨0, 0, 0, 0, 0, 0, 0, false, false, false, false, false⟩

/-- A stream's cycle record, open or closed (R190 to R192): the channel, the 64-bit cycle number, its bins, the LT of its start and,
once closed normally, of its end, the highest position placed, its CFLAGS, whether its cycle spans a step of line time (R130), UNFOLDED and
ADDED. -/
structure CycRec where
  chan : Nat
  cycle : Int
  bins : List (Nat × BinAcc)
  startLt : Nat
  endLt : Option Nat
  high : Option Pos
  gapIn : Bool
  still : Bool
  reversed : Bool
  timeout : Bool
  srcLost : Bool
  hold : Bool
  unfolded : Nat
  added : Nat
  deriving DecidableEq, Repr

/-- A record of which no sample has been placed. -/
def CycRec.fresh (chan : Nat) (cycle : Int) (startLt : Nat) : CycRec :=
  ⟨chan, cycle, [], startLt, none, none, false, false, false, false, false, false, 0, 0⟩

/-- A cycle of a group that some stream has closed (R190): the records closed so far, the LT of the first close, and whether a stream that has
no record of it has closed it with TIMEOUT or SRC_LOST. -/
structure CycWait where
  cycle : Int
  recs : List CycRec
  firstLt : Nat
  bad : Bool
  deriving DecidableEq, Repr

/-- A cycle the group has closed and that waits to be judged, or is being judged (R201); `stale` where a teach has started afresh since it
closed, so that it does not count toward that teach (R202, R203). -/
structure Closed where
  cycle : Int
  recs : List CycRec
  incomplete : Bool
  stamp : Nat
  flags : Byte
  stale : Bool
  deriving DecidableEq, Repr

/-- A fold group (R187, R190, R202 to R204, R206): the first cycle that may be folded (none: its start conditions do not hold), whether
it folds, each stream's next cycle that may still be folded and open record, the cycles with samples TQ t.0 could not take, closed
cycles that wait for streams, closed cycles that wait for judgement, teaching, the drift run, clamp report, the bounds held at their limits (2e lower, 2e + 1 upper), SKIPS
due after a teach, TEACH_AT_START still to act, the last verdict's cycle and the last JUDGED one, and the source's CPC
and OWNER when last seen, and the cycle in progress at the last step of line time (R130). -/
structure GroupSt where
  startAt : Option Int
  folding : Bool
  nextOk : List (Nat × Int)
  opens : List (Nat × CycRec)
  gaps : List (Nat × Int)
  waits : List CycWait
  closed : List Closed
  lastClosed : Option Int
  teaching : Bool
  teachDone : Nat
  armTeach : Bool
  driftRun : Nat
  clampTold : Bool
  held : List Nat
  skipsDue : Bool
  lastVerdict : Option Int
  prevJudged : Option Int
  srcCpc : Nat
  srcOwner : Nat
  stepIn : Option Int
  deriving DecidableEq, Repr

/-- A group at rest. -/
def GroupSt.rest : GroupSt :=
  { startAt := none, folding := false, nextOk := [], opens := [], gaps := [], waits := [], closed := [], lastClosed := none,
    teaching := false, teachDone := 0, armTeach := false, driftRun := 0, clampTold := false, held := [], skipsDue := false,
    lastVerdict := none, prevJudged := none, srcCpc := 0, srcOwner := 0, stepIn := none }

/-- A judgement that runs (R201): the group and the LT at which it ends. -/
structure Judge where
  group : Nat
  until_ : Nat
  deriving DecidableEq, Repr

/-- A tile's churn engine beside its registers: whether it runs, the points that have reached it from each source (newest first), the samples
each stream holds back (oldest first), the groups, the order in which closed cycles wait to be judged, the judgement that runs,
the rules' histories (newest verdict first), the low words held for a table write and the commits that wait for a
judgement to end. -/
structure ChurnSt where
  on : Bool
  pts : List (Nat × List Point)
  waiting : List (Nat × List WaitSample)
  groups : List (Nat × GroupSt)
  order : List Nat
  judge : Option Judge
  hist : List (Nat × List Bool)
  lowHeld : List (Nat × Option Word)
  commits : List (Nat × BitVec 64)
  deriving DecidableEq, Repr

/-- A churn engine at rest. -/
def ChurnSt.rest : ChurnSt := ⟨false, [], [], [], [], none, [], [], []⟩

end Sys2Proof.Machine
end

