-- ==== Sys2Proof/Machine/HostTypes.lean ====
section
/-! DEFINITION. State of the host link (chapter 12) and of the service port and the fuses (chapter 16) that is no register. -/

namespace Sys2Proof.Machine

/-- An entry of the ARP cache (R343): address, MAC, when it was last refreshed and last used. -/
structure ArpEnt where
  ip : Nat
  mac : Nat
  fresh : Nat
  used : Nat
  deriving DecidableEq, Repr

/-- A closed batch (R353 to R357): number, area (true RAW), records, the next slice to leave, the leading slices the host holds, whether
it is outstanding, whether it is being resent, the instants at which its slices left, in slice order, and whether a session's opening found it held (R349). -/
structure Batch where
  bseq : Word
  raw : Bool
  recs : List Rec
  next : Nat
  ok : Nat
  out : Bool
  resent : Bool
  left : List Nat
  first : Bool
  deriving DecidableEq, Repr

/-- A parked VERDICT, or a MARK of its stream behind it (R359): the record, since when, and the hub ladle that brought it. -/
structure Parked where
  record : Rec
  since : Nat
  ladle : Nat
  desc : Nat
  deriving DecidableEq, Repr

/-- What the CTRL area has admitted of a CYCLE stream (R359): the cycle of the last whole or ABORTED record, and the latest LT_TO of a GAP
that names it. -/
structure CycSeen where
  cycle : Option Word
  gapTo : Nat
  deriving DecidableEq, Repr

/-- The host link beside its registers: records not yet in a batch and the instant the first of them entered, per area; batches; parked
VERDICTs; CYCLE streams seen, the LT_TO of GAPs that name all streams, and each VERDICT stream's last cycle entered; RAW wanted; the last
sessions; the host's MAC; its last valid datagram; the last answers; instants of the last requests and echo answers; the ARP cache;
the last claim and defence of the address; wake attempts (a WAKE command that still holds, the running attempt's start and packets sent,
the last attempt, HOST_WAKE since); drops; the last HEALTH record; the instant of the jack's last frame (R44); and the SPEED that stood when the PLL lost
its lock. -/
structure HostSt where
  ctrl : List Rec
  ctrlAt : Nat
  raw : List Rec
  rawAt : Nat
  batches : List Batch
  parks : List Parked
  cyc : List (Nat × CycSeen)
  gapAll : Nat
  done : List (Nat × Word)
  rawWanted : Bool
  sessions : List Word
  mac : Nat
  lastRx : Nat
  answers : List (Word × Nat × Nat)
  reqAt : List Nat
  echoAt : List Nat
  arp : List ArpEnt
  claimAt : Nat
  defendAt : Option Nat
  wakeCmd : Bool
  attempt : Option Nat
  packets : Nat
  lastWake : Nat
  pinAt : Option Nat
  drops : Nat
  health : Option Rec
  act : Option Nat
  speedWas : Nat
  deriving DecidableEq, Repr

/-- The host link at bring-up. -/
def HostSt.start : HostSt :=
  { ctrl := [], ctrlAt := 0, raw := [], rawAt := 0, batches := [], parks := [], cyc := [], gapAll := 0, done := [], rawWanted := false,
    sessions := [], mac := 0, lastRx := 0, answers := [], reqAt := [], echoAt := [], arp := [], claimAt := 0, defendAt := none,
    wakeCmd := false, attempt := none, packets := 0, lastWake := 0, pinAt := none, drops := 0, health := none, act := none, speedWas := 0 }

/-- A burn that runs (R459, R461): a commissioning field (SEL) or a trim (TRIM_ID), and its new value's bytes. -/
structure Burn where
  trim : Bool
  id : Nat
  value : List Byte
  deriving DecidableEq, Repr

/-- The service port and the fuses: PAGE and pointer (R444), the RW positions of pages 3 to 6, the RESULT of the last command, field write
and trim write, the slots burned per field and per trim (oldest first; none: a slot whose CRC does not verify), a burn that runs, the end
of a take, fields or trims written in this COMMISSION, a COMMISSION that ends when its burn ends, the last kick, the last release of
HEALTHY_N, the states of the tiles' domains before COMMISSION forced them off (R406), and a PAGE to select when the burn that runs ends (R460). -/
structure SvcSt where
  page : Nat
  ptr : Nat
  logIndex : Nat
  cmdResult : Nat
  takeS : Nat
  sel : Nat
  value : List (Nat × Byte)
  crc : Byte
  fieldResult : Nat
  trimId : Nat
  trimValue : Nat
  trimCrc : Byte
  trimResult : Nat
  fields : List (Nat × List (Option (List Byte)))
  trims : List (Nat × List (Option Nat))
  burn : Option Burn
  takeEnd : Option Nat
  written : Bool
  ending : Bool
  kickAt : Option Nat
  releaseAt : Option Nat
  saved : List (Nat × Nat)
  pageDue : Option Nat
  deriving DecidableEq, Repr

/-- The service port at AON's start. -/
def SvcSt.start : SvcSt :=
  { page := 0, ptr := 0, logIndex := 0, cmdResult := 0, takeS := 5, sel := 0, value := [], crc := 0#8, fieldResult := 0, trimId := 0,
    trimValue := 0, trimCrc := 0#8, trimResult := 0, fields := [], trims := [], burn := none, takeEnd := none, written := false,
    ending := false, kickAt := none, releaseAt := none, saved := [], pageDue := none }

end Sys2Proof.Machine
end

