-- ==== Sys2Proof/Machine/Regs.lean ====
section
/-! DEFINITION. The register map: for every register the spec names, its address, its fields and its reset word.
Written from the register tables of the chapters (R93, R121, R122, R142, R182, R211, R241, R312 to R314, R340, R341, R368,
R396, R416, R440, R441, R464, R465) and the address map (R279 to R281). `R.X i` is the address of register X of unit i,
`F.X_Y i` is field Y of it. A register is named by its address everywhere else in the model. -/

namespace Sys2Proof.Machine

/-- A register field: the register's address, the field's lowest bit and its width. -/
structure Fld where
  addr : Nat
  lo : Nat
  width : Nat
  deriving DecidableEq, Repr

/-- Base of cell `c`'s registers (R3, R280, R93). -/
def cellBase (c : Nat) : Nat := 0x40000000 + c / 4 * 0x100000 + c % 4 * 0x400
/-- Base of channel `k`'s registers (R3, R280, R121). -/
def chBase (k : Nat) : Nat := 0x40001000 + k / 16 * 0x100000 + k % 16 * 0x100
/-- Base of the mains tracker of tile `t` (R122). -/
def mainsBase (t : Nat) : Nat := 0x40002000 + t * 0x100000
/-- Base of the churn engine of tile `t` (R211). -/
def churnBase (t : Nat) : Nat := 0x40003000 + t * 0x100000
/-- Base of timer `n` of tile `t` (R241). -/
def ttBase (t n : Nat) : Nat := 0x40004000 + t * 0x100000 + n * 0x20
/-- Base of the queue of flat number `q` (R298, R312). -/
def qBase (q : Nat) : Nat :=
  if q < 48 then 0x40005000 + q / 6 * 0x100000 + q % 6 * 0x40 else 0x50000000 + (q - 48) * 0x40
/-- Base of ladle `l`: tile ladle j of tile t is 4t + j, hub ladle j is 32 + j (R313). -/
def ladBase (l : Nat) : Nat :=
  if l < 32 then 0x40006000 + l / 4 * 0x100000 + l % 4 * 0x100 else 0x50010000 + (l - 32) * 0x100
/-- Base of two-wire port `p` (R341). -/
def twBase (p : Nat) : Nat := 0x50080000 + p * 0x400

namespace R

abbrev CELL_CFG (c : Nat) : Nat := cellBase c
abbrev CELL_ISRC (c : Nat) : Nat := cellBase c + 0x4
abbrev CELL_EXC_TOL (c : Nat) : Nat := cellBase c + 0x8
abbrev CELL_EXC_LIM (c : Nat) : Nat := cellBase c + 0xC
abbrev CELL_USE (c : Nat) : Nat := cellBase c + 0x10
abbrev CELL_CJ (c : Nat) : Nat := cellBase c + 0x14
abbrev CELL_EXC_STAT (c : Nat) : Nat := cellBase c + 0x18
abbrev CELL_EXC_EVT (c : Nat) : Nat := cellBase c + 0x1C
abbrev CELL_EXC_CNT (c : Nat) : Nat := cellBase c + 0x20
abbrev CELL_ISA_MEAS (c : Nat) : Nat := cellBase c + 0x24
abbrev CELL_ISB_MEAS (c : Nat) : Nat := cellBase c + 0x28
abbrev CELL_BV_MEAS (c : Nat) : Nat := cellBase c + 0x2C
abbrev CELL_HEAD (c : Nat) : Nat := cellBase c + 0x30
abbrev CELL_STEP_ROUTE (c s : Nat) : Nat := cellBase c + 0x100 + 0x10 * s
abbrev CELL_STEP_EXC (c s : Nat) : Nat := cellBase c + 0x104 + 0x10 * s
abbrev CELL_STEP_MASK (c s : Nat) : Nat := cellBase c + 0x108 + 0x10 * s
abbrev CELL_STEP_DWELL (c s : Nat) : Nat := cellBase c + 0x10C + 0x10 * s
abbrev CELL_LEAD_CFG (c i : Nat) : Nat := cellBase c + 0x200 + 0x20 * i
abbrev CELL_LEAD_SCHED (c i : Nat) : Nat := cellBase c + 0x204 + 0x20 * i
abbrev CELL_LEAD_ANGLE (c i : Nat) : Nat := cellBase c + 0x208 + 0x20 * i
abbrev CELL_LEAD_MAX (c i : Nat) : Nat := cellBase c + 0x20C + 0x20 * i
abbrev CELL_LEAD_RES (c i : Nat) : Nat := cellBase c + 0x210 + 0x20 * i
abbrev CELL_LEAD_STAT (c i : Nat) : Nat := cellBase c + 0x214 + 0x20 * i
abbrev CH_MODE (k : Nat) : Nat := chBase k
abbrev CH_AR (k : Nat) : Nat := chBase k + 0x4
abbrev CH_RST_SCHED (k : Nat) : Nat := chBase k + 0x8
abbrev CH_CMD (k : Nat) : Nat := chBase k + 0xC
abbrev CH_STAT (k : Nat) : Nat := chBase k + 0x10
abbrev CH_CNT (k : Nat) : Nat := chBase k + 0x14
abbrev CH_CNT2 (k : Nat) : Nat := chBase k + 0x18
abbrev CH_RST_LT (k : Nat) : Nat := chBase k + 0x1C
abbrev CH_RST_LT_HI (k : Nat) : Nat := chBase k + 0x20
abbrev CH_RESET_LAST (k : Nat) : Nat := chBase k + 0x24
abbrev CH_SETTLE_NS (k : Nat) : Nat := chBase k + 0x28
abbrev CH_SETTLE_NS_HI (k : Nat) : Nat := chBase k + 0x2C
abbrev CH_LATENCY_NS (k : Nat) : Nat := chBase k + 0x30
abbrev CH_LATENCY_NS_HI (k : Nat) : Nat := chBase k + 0x34
abbrev CH_RATIO (k r : Nat) : Nat := chBase k + 0x38 + 0x4 * r
abbrev CH_LAST (k : Nat) : Nat := chBase k + 0x48
abbrev MAINS_CFG (t : Nat) : Nat := mainsBase t
abbrev MAINS_STAT (t : Nat) : Nat := mainsBase t + 0x4
abbrev MAINS_FREQ (t : Nat) : Nat := mainsBase t + 0x8
abbrev LT_LO : Nat := 0x70000000
abbrev LT_HI : Nat := 0x70000004
abbrev LT_CLK_STAT : Nat := 0x70000008
abbrev LT_CFG : Nat := 0x7000000C
abbrev LT_STAT : Nat := 0x70000010
abbrev LT_EVT : Nat := 0x70000014
abbrev LT_ERR : Nat := 0x70000018
abbrev LT_CNT : Nat := 0x7000001C
abbrev LT_HOLD_IN_LO : Nat := 0x70000020
abbrev LT_HOLD_IN_HI : Nat := 0x70000024
abbrev LT_SLEEP_IN_LO : Nat := 0x70000028
abbrev LT_SLEEP_IN_HI : Nat := 0x7000002C
abbrev LT_SLEEP_OUT_LO : Nat := 0x70000030
abbrev LT_SLEEP_OUT_HI : Nat := 0x70000034
abbrev LT_SLEEP_TICKS_LO : Nat := 0x70000038
abbrev LT_SLEEP_TICKS_HI : Nat := 0x7000003C
abbrev LT_STEP_LO : Nat := 0x70000040
abbrev LT_STEP_HI : Nat := 0x70000044
abbrev LT_RES_PPB : Nat := 0x70000048
abbrev LT_TILE_RET_IN_LO (t : Nat) : Nat := 0x70000080 + 0x10 * t
abbrev LT_TILE_RET_IN_HI (t : Nat) : Nat := 0x70000084 + 0x10 * t
abbrev LT_TILE_RET_OUT_LO (t : Nat) : Nat := 0x70000088 + 0x10 * t
abbrev LT_TILE_RET_OUT_HI (t : Nat) : Nat := 0x7000008C + 0x10 * t
abbrev HERD_CFG : Nat := 0x50030000
abbrev HERD_STAT : Nat := 0x50030004
abbrev HERD_EVT : Nat := 0x50030008
abbrev HERD_PORT (x : Nat) : Nat := 0x5003000C + 0x4 * x
abbrev HERD_DLY (x : Nat) : Nat := 0x50030014 + 0x4 * x
abbrev HERD_ASYM (x : Nat) : Nat := 0x5003001C + 0x4 * x
abbrev HERD_ROSTER : Nat := 0x50030024
abbrev HERD_PATH : Nat := 0x50030028
abbrev HERD_BNUM : Nat := 0x5003002C
abbrev HERD_CNT0 : Nat := 0x50030030
abbrev HERD_CNT1 : Nat := 0x50030034
abbrev HERD_CNT2 : Nat := 0x50030038
abbrev HERD_CNT3 : Nat := 0x5003003C
abbrev HERD_PUB (e : Nat) : Nat := 0x50030100 + 0x8 * e
abbrev HERD_SUB_CFG (s : Nat) : Nat := 0x50030140 + 0x8 * s
abbrev HERD_SUB_AGE (s : Nat) : Nat := 0x50030144 + 0x8 * s
abbrev HERD_RUC_CFG (n : Nat) : Nat := 0x50030200 + 0x10 * n
abbrev HERD_RUC_ON (n : Nat) : Nat := 0x50030204 + 0x10 * n
abbrev HERD_RUC_OFF (n : Nat) : Nat := 0x50030208 + 0x10 * n
abbrev HERD_RUC_CNT (n : Nat) : Nat := 0x5003020C + 0x10 * n
abbrev CHURN_STAT (t : Nat) : Nat := churnBase t
abbrev CHURN_EVT (t : Nat) : Nat := churnBase t + 0x4
abbrev CHURN_CNT0 (t : Nat) : Nat := churnBase t + 0x8
abbrev CHURN_CNT1 (t : Nat) : Nat := churnBase t + 0xC
abbrev CHURN_STR (t i : Nat) : Nat := churnBase t + 0x40 + 0x4 * i
abbrev CHURN_GRP_CFG (t g : Nat) : Nat := churnBase t + 0x100 + 0x20 * g
abbrev CHURN_GRP_TIME (t g : Nat) : Nat := churnBase t + 0x104 + 0x20 * g
abbrev CHURN_GRP_TEACH (t g : Nat) : Nat := churnBase t + 0x108 + 0x20 * g
abbrev CHURN_GRP_DRIFT (t g : Nat) : Nat := churnBase t + 0x10C + 0x20 * g
abbrev CHURN_GRP_CMD (t g : Nat) : Nat := churnBase t + 0x110 + 0x20 * g
abbrev CHURN_GRP_STAT (t g : Nat) : Nat := churnBase t + 0x114 + 0x20 * g
abbrev CHURN_GRP_CNT0 (t g : Nat) : Nat := churnBase t + 0x118 + 0x20 * g
abbrev CHURN_GRP_CNT1 (t g : Nat) : Nat := churnBase t + 0x11C + 0x20 * g
abbrev CHURN_FEAT_CFG (t f : Nat) : Nat := churnBase t + 0x200 + 0x8 * f
abbrev CHURN_FEAT_LEVEL (t f : Nat) : Nat := churnBase t + 0x204 + 0x8 * f
abbrev CHURN_RULE_COND (t r : Nat) : Nat := churnBase t + 0x400 + 0x10 * r
abbrev CHURN_RULE_MASK (t r : Nat) : Nat := churnBase t + 0x404 + 0x10 * r
abbrev CHURN_RULE_TARGET (t r : Nat) : Nat := churnBase t + 0x408 + 0x10 * r
abbrev CHURN_RULE_ANGLES (t r : Nat) : Nat := churnBase t + 0x40C + 0x10 * r
abbrev CHURN_RULE_CNT (t r : Nat) : Nat := churnBase t + 0x800 + 0x4 * r
abbrev ACT_CFG : Nat := 0x70000100
abbrev ACT_STAT : Nat := 0x70000104
abbrev ACT_EVT : Nat := 0x70000108
abbrev ACT_CNT0 : Nat := 0x7000010C
abbrev ACT_CNT1 : Nat := 0x70000110
abbrev ACT_ENTER_CTL (s : Nat) : Nat := 0x70000140 + 0x10 * s
abbrev ACT_ENTER_TGT_LO (s : Nat) : Nat := 0x70000144 + 0x10 * s
abbrev ACT_ENTER_TGT_HI (s : Nat) : Nat := 0x70000148 + 0x10 * s
abbrev ACT_ENTER_RES (s : Nat) : Nat := 0x7000014C + 0x10 * s
abbrev OUT_LEVEL : Nat := 0x70000200
abbrev OUT_PIN : Nat := 0x70000204
abbrev OUT_FAULT : Nat := 0x70000208
abbrev OUT_EVT : Nat := 0x7000020C
abbrev OUT_CNT : Nat := 0x70000210
abbrev OUT_SENSE : Nat := 0x70000214
abbrev OUT_DLY (n : Nat) : Nat := 0x70000280 + 0x4 * n
abbrev CAP_CFG : Nat := 0x70000300
abbrev CAP_EVT : Nat := 0x70000304
abbrev CAP_IN_CFG (i : Nat) : Nat := 0x70000400 + 0x10 * i
abbrev CAP_IN_STAT (i : Nat) : Nat := 0x70000404 + 0x10 * i
abbrev CAP_IN_CNT (i : Nat) : Nat := 0x70000408 + 0x10 * i
abbrev CAP_ENC_CFG (e : Nat) : Nat := 0x70000700 + 0x40 * e
abbrev CAP_ENC_CPC (e : Nat) : Nat := 0x70000704 + 0x40 * e
abbrev CAP_ENC_INDEX (e : Nat) : Nat := 0x70000708 + 0x40 * e
abbrev CAP_ENC_STAT (e : Nat) : Nat := 0x7000070C + 0x40 * e
abbrev CAP_ENC_POS_LO (e : Nat) : Nat := 0x70000710 + 0x40 * e
abbrev CAP_ENC_POS_HI (e : Nat) : Nat := 0x70000714 + 0x40 * e
abbrev CAP_ENC_LAST_LO (e : Nat) : Nat := 0x70000718 + 0x40 * e
abbrev CAP_ENC_LAST_HI (e : Nat) : Nat := 0x7000071C + 0x40 * e
abbrev CAP_ENC_PERIOD (e : Nat) : Nat := 0x70000720 + 0x40 * e
abbrev CAP_ENC_CNT (e : Nat) : Nat := 0x70000724 + 0x40 * e
abbrev ACT_E_W0 (a : Nat) : Nat := 0x70001000 + 0x20 * a
abbrev ACT_E_W1 (a : Nat) : Nat := 0x70001004 + 0x20 * a
abbrev ACT_E_W2 (a : Nat) : Nat := 0x70001008 + 0x20 * a
abbrev ACT_E_W3 (a : Nat) : Nat := 0x7000100C + 0x20 * a
abbrev ACT_E_W4 (a : Nat) : Nat := 0x70001010 + 0x20 * a
abbrev ACT_E_W5 (a : Nat) : Nat := 0x70001014 + 0x20 * a
abbrev ACT_E_W6 (a : Nat) : Nat := 0x70001018 + 0x20 * a
abbrev ACT_E_W7 (a : Nat) : Nat := 0x7000101C + 0x20 * a
abbrev TT_CFG (t n : Nat) : Nat := ttBase t n
abbrev TT_PER (t n : Nat) : Nat := ttBase t n + 0x4
abbrev TT_CMP (t n : Nat) : Nat := ttBase t n + 0x8
abbrev TT_CNT (t n : Nat) : Nat := ttBase t n + 0xC
abbrev TT_CMD (t n : Nat) : Nat := ttBase t n + 0x10
abbrev TT_STAT (t n : Nat) : Nat := ttBase t n + 0x14
abbrev TT_ROUTE (t n : Nat) : Nat := ttBase t n + 0x18
abbrev TT_BURST (t n : Nat) : Nat := ttBase t n + 0x1C
abbrev Q_CFG (q : Nat) : Nat := qBase q
abbrev Q_AUX (q : Nat) : Nat := qBase q + 0x4
abbrev Q_BASE (q : Nat) : Nat := qBase q + 0x8
abbrev Q_SIZE (q : Nat) : Nat := qBase q + 0xC
abbrev Q_STAT (q : Nat) : Nat := qBase q + 0x10
abbrev Q_EVT (q : Nat) : Nat := qBase q + 0x14
abbrev Q_CNT0 (q : Nat) : Nat := qBase q + 0x18
abbrev Q_CNT1 (q : Nat) : Nat := qBase q + 0x1C
abbrev Q_TAIL (q : Nat) : Nat := qBase q + 0x20
abbrev Q_HEAD (q : Nat) : Nat := qBase q + 0x24
abbrev Q_PUSH (q : Nat) : Nat := qBase q + 0x28
abbrev Q_PUSH_RES (q : Nat) : Nat := qBase q + 0x2C
abbrev Q_POP (q : Nat) : Nat := qBase q + 0x30
abbrev Q_POP_RES (q : Nat) : Nat := qBase q + 0x34
abbrev LAD_STAT (l : Nat) : Nat := ladBase l
abbrev LAD_EVT (l : Nat) : Nat := ladBase l + 0x4
abbrev LAD_CNT0 (l : Nat) : Nat := ladBase l + 0x8
abbrev LAD_CNT1 (l : Nat) : Nat := ladBase l + 0xC
abbrev LAD_CMD (l : Nat) : Nat := ladBase l + 0x10
abbrev LAD_D_CTL (l d : Nat) : Nat := ladBase l + 0x20 + 0x20 * d
abbrev LAD_D_FILTER (l d : Nat) : Nat := ladBase l + 0x24 + 0x20 * d
abbrev LAD_D_RING_BASE (l d : Nat) : Nat := ladBase l + 0x28 + 0x20 * d
abbrev LAD_D_RING_SIZE (l d : Nat) : Nat := ladBase l + 0x2C + 0x20 * d
abbrev LAD_D_RING_WR (l d : Nat) : Nat := ladBase l + 0x30 + 0x20 * d
abbrev LAD_D_RING_RD (l d : Nat) : Nat := ladBase l + 0x34 + 0x20 * d
abbrev LAD_D_TARGET (l d : Nat) : Nat := ladBase l + 0x38 + 0x20 * d
abbrev LAD_D_CNT (l d : Nat) : Nat := ladBase l + 0x3C + 0x20 * d
abbrev MEM_CFG : Nat := 0x50020000
abbrev MEM_EVT : Nat := 0x50020004
abbrev MEMM_STAT (m : Nat) : Nat := 0x50020100 + 0x20 * m
abbrev MEMM_CNT (m : Nat) : Nat := 0x50020104 + 0x20 * m
abbrev MEMM_UE (m : Nat) : Nat := 0x50020108 + 0x20 * m
abbrev MEMM_UE_ADDR (m : Nat) : Nat := 0x5002010C + 0x20 * m
abbrev MEMM_UE_LT_LO (m : Nat) : Nat := 0x50020110 + 0x20 * m
abbrev MEMM_UE_LT_HI (m : Nat) : Nat := 0x50020114 + 0x20 * m
abbrev KEY_CFG : Nat := 0x50070000
abbrev KEY_STAT : Nat := 0x50070004
abbrev KEY_EVT : Nat := 0x50070008
abbrev KEY_CMD : Nat := 0x5007000C
abbrev KEY_RESULT : Nat := 0x50070010
abbrev KEY_RESULT_ADDR : Nat := 0x50070014
abbrev KEY_GEN : Nat := 0x50070018
abbrev KEY_IMAGE : Nat := 0x5007001C
abbrev KEY_HDR_CRC : Nat := 0x50070020
abbrev KEY_STAGED_CRC : Nat := 0x50070024
abbrev KEY_STORE : Nat := 0x50070028
abbrev KEY_CNT : Nat := 0x5007002C
abbrev KEY_LOAD_LT_LO : Nat := 0x50070030
abbrev KEY_LOAD_LT_HI : Nat := 0x50070034
abbrev KEY_NAME (w : Nat) : Nat := 0x50070040 + 0x4 * w
abbrev KEY_VER : Nat := 0x50070050
abbrev TW_CFG (p : Nat) : Nat := twBase p
abbrev TW_CTL (p : Nat) : Nat := twBase p + 0x4
abbrev TW_STAT (p : Nat) : Nat := twBase p + 0x8
abbrev TW_EVT (p : Nat) : Nat := twBase p + 0xC
abbrev TW_CNT0 (p : Nat) : Nat := twBase p + 0x10
abbrev TW_CNT1 (p : Nat) : Nat := twBase p + 0x14
abbrev TW_HANG_LT_LO (p : Nat) : Nat := twBase p + 0x18
abbrev TW_HANG_LT_HI (p : Nat) : Nat := twBase p + 0x1C
abbrev TW_XFER (p x : Nat) : Nat := twBase p + 0x40 + 0x8 * x
abbrev TW_XFER_RES (p x : Nat) : Nat := twBase p + 0x44 + 0x8 * x
abbrev TW_BUF (p w : Nat) : Nat := twBase p + 0x100 + 0x4 * w
abbrev HOST_CFG : Nat := 0x50040000
abbrev HOST_BATCH : Nat := 0x50040004
abbrev HOST_STORE_BASE : Nat := 0x50040008
abbrev HOST_STORE_SIZE : Nat := 0x5004000C
abbrev HOST_PAIR : Nat := 0x50040010
abbrev HOST_WAKE_CFG : Nat := 0x50040014
abbrev HOST_WAKE_MAC_LO : Nat := 0x50040018
abbrev HOST_WAKE_MAC_HI : Nat := 0x5004001C
abbrev HOST_STAT : Nat := 0x50040020
abbrev HOST_EVT : Nat := 0x50040024
abbrev HOST_CMD : Nat := 0x50040028
abbrev HOST_MAC_LO : Nat := 0x5004002C
abbrev HOST_MAC_HI : Nat := 0x50040030
abbrev HOST_IP : Nat := 0x50040034
abbrev HOST_MASK : Nat := 0x50040038
abbrev HOST_GW : Nat := 0x5004003C
abbrev HOST_PEER_IP : Nat := 0x50040040
abbrev HOST_PEER : Nat := 0x50040044
abbrev HOST_SESSION : Nat := 0x50040048
abbrev HOST_BOOT_ID : Nat := 0x5004004C
abbrev HOST_NEXT_BSEQ : Nat := 0x50040050
abbrev HOST_CUM_BSEQ : Nat := 0x50040054
abbrev HOST_CTRL_FILL : Nat := 0x50040058
abbrev HOST_RAW_FILL : Nat := 0x5004005C
abbrev HOST_CNT0 : Nat := 0x50040060
abbrev HOST_CNT1 : Nat := 0x50040064
abbrev HOST_CNT2 : Nat := 0x50040068
abbrev HOST_CNT3 : Nat := 0x5004006C
abbrev PWR_REQ_T : Nat := 0x50050000
abbrev PWR_REQ_H : Nat := 0x50050004
abbrev PWR_CMD : Nat := 0x50050008
abbrev PWR_STAT : Nat := 0x5005000C
abbrev PWR_STATE_T : Nat := 0x50050010
abbrev PWR_STATE_H : Nat := 0x50050014
abbrev PWR_EVT : Nat := 0x50050018
abbrev PWR_CFG : Nat := 0x5005001C
abbrev PWR_REFUSE_COUNT : Nat := 0x50050020
abbrev PWR_REFUSER : Nat := 0x50050024
abbrev PWR_LAST_WAKE : Nat := 0x50050028
abbrev PWR_WAKE_EN : Nat := 0x5005002C
abbrev PWR_WAKE_ON : Nat := 0x50050030
abbrev PWR_WAKE_IN : Nat := 0x50050034
abbrev PWR_WAKE_INEDGE : Nat := 0x50050038
abbrev PWR_WAKE_TICKS_LO : Nat := 0x50050040
abbrev PWR_WAKE_TICKS_HI : Nat := 0x50050044
abbrev PWR_TILE_REFUSE (t : Nat) : Nat := 0x50050080 + 0x4 * t
abbrev PWR_SUPPLY : Nat := 0x50050048
abbrev PWR_STAGE : Nat := 0x5005004C
abbrev PWR_LINK_CNT : Nat := 0x50050050
abbrev PWR_THR_CNT : Nat := 0x50050054
abbrev PWR_THR_US1 : Nat := 0x50050058
abbrev PWR_THR_US2 : Nat := 0x5005005C
abbrev PWR_BOOT : Nat := 0x50050060
abbrev MOD_STATUS : Nat := 0x500B0000
abbrev MOD_CFG : Nat := 0x500B0004
abbrev MOD_CMD : Nat := 0x500B0008
abbrev MOD_WATCH : Nat := 0x500B000C
abbrev MOD_TILE : Nat := 0x500B0010
abbrev MOD_CO : Nat := 0x500B0014
abbrev MOD_ENTER_LT_LO : Nat := 0x500B0018
abbrev MOD_ENTER_LT_HI : Nat := 0x500B001C
abbrev MOD_CNT : Nat := 0x500B0020
abbrev LOG_CFG : Nat := 0x50060000
abbrev LOG_STAT : Nat := 0x50060004
abbrev LOG_NEXT : Nat := 0x50060008
abbrev LOG_OLDEST : Nat := 0x5006000C
abbrev LOG_OVERWRITES : Nat := 0x50060010
abbrev LOG_SEL : Nat := 0x50060014
abbrev LOG_SEL_RES : Nat := 0x50060018
abbrev LOG_DATA (w : Nat) : Nat := 0x50060020 + 0x4 * w
abbrev LOG_USER_D (w : Nat) : Nat := 0x50060040 + 0x4 * w
abbrev LOG_USER_CMD : Nat := 0x5006004C
abbrev LOG_EVT : Nat := 0x50060050
abbrev EVT_SEEN_LO : Nat := 0x500B0100
abbrev EVT_SEEN_HI : Nat := 0x500B0104
abbrev FLT_STAT : Nat := 0x500B0108
abbrev FLT_SNAP : Nat := 0x500B010C
abbrev FLT_WARM : Nat := 0x500B0110
abbrev FLT_TILE (t : Nat) : Nat := 0x500B0120 + 0x4 * t
abbrev EVT_CNT (n : Nat) : Nat := 0x500B0200 + 0x4 * n
abbrev SVC_CFG : Nat := 0x50090000
abbrev SVC_STAT : Nat := 0x50090004
abbrev SVC_EVT : Nat := 0x50090008
abbrev SVC_KICK : Nat := 0x5009000C
abbrev SVC_CNT : Nat := 0x50090010
abbrev COM_ID : Nat := 0x500A0000
abbrev COM_HOST_IP : Nat := 0x500A0004
abbrev COM_HOST_MASK : Nat := 0x500A0008
abbrev COM_HOST_GW : Nat := 0x500A000C
abbrev COM_TRUST_KEY (w : Nat) : Nat := 0x500A0010 + 0x4 * w
abbrev COM_OUT_SENSE : Nat := 0x500A0030
abbrev COM_USED : Nat := 0x500A0034

end R

namespace F

abbrev CELL_CFG_LAST_STEP (c : Nat) : Fld := ⟨(R.CELL_CFG c), 0, 4⟩
abbrev CELL_CFG_BV_LEVEL (c : Nat) : Fld := ⟨(R.CELL_CFG c), 4, 2⟩
abbrev CELL_CFG_DIS_LEN (c : Nat) : Fld := ⟨(R.CELL_CFG c), 8, 13⟩
abbrev CELL_CFG_FAULT_OFF (c : Nat) : Fld := ⟨(R.CELL_CFG c), 24, 1⟩
abbrev CELL_ISRC_ISA_CODE (c : Nat) : Fld := ⟨(R.CELL_ISRC c), 0, 12⟩
abbrev CELL_ISRC_ISB_CODE (c : Nat) : Fld := ⟨(R.CELL_ISRC c), 16, 12⟩
abbrev CELL_EXC_TOL_TOL (c : Nat) : Fld := ⟨(R.CELL_EXC_TOL c), 0, 8⟩
abbrev CELL_EXC_TOL_DEBOUNCE (c : Nat) : Fld := ⟨(R.CELL_EXC_TOL c), 8, 4⟩
abbrev CELL_EXC_TOL_RETRY_S (c : Nat) : Fld := ⟨(R.CELL_EXC_TOL c), 12, 8⟩
abbrev CELL_EXC_TOL_HEAD_MIN (c : Nat) : Fld := ⟨(R.CELL_EXC_TOL c), 20, 8⟩
abbrev CELL_EXC_LIM_BV_EXPECT (c : Nat) : Fld := ⟨(R.CELL_EXC_LIM c), 0, 16⟩
abbrev CELL_EXC_LIM_SHORT_MV (c : Nat) : Fld := ⟨(R.CELL_EXC_LIM c), 16, 8⟩
abbrev CELL_USE_USE (c i : Nat) : Fld := ⟨(R.CELL_USE c), 4 * i, 4⟩
abbrev CELL_CJ_CJ_TEMP (c : Nat) : Fld := ⟨(R.CELL_CJ c), 0, 16⟩
abbrev CELL_CJ_CJ_VALID (c : Nat) : Fld := ⟨(R.CELL_CJ c), 16, 1⟩
abbrev CELL_EXC_STAT_ISA_CLASS (c : Nat) : Fld := ⟨(R.CELL_EXC_STAT c), 0, 4⟩
abbrev CELL_EXC_STAT_ISB_CLASS (c : Nat) : Fld := ⟨(R.CELL_EXC_STAT c), 4, 4⟩
abbrev CELL_EXC_STAT_BV_CLASS (c : Nat) : Fld := ⟨(R.CELL_EXC_STAT c), 8, 4⟩
abbrev CELL_EXC_STAT_CJ_CLASS (c : Nat) : Fld := ⟨(R.CELL_EXC_STAT c), 12, 4⟩
abbrev CELL_EXC_STAT_LEAD_BUSY (c : Nat) : Fld := ⟨(R.CELL_EXC_STAT c), 16, 4⟩
abbrev CELL_EXC_STAT_STEP_NOW (c : Nat) : Fld := ⟨(R.CELL_EXC_STAT c), 20, 4⟩
abbrev CELL_EXC_EVT_CLASS_SEEN (c : Nat) : Fld := ⟨(R.CELL_EXC_EVT c), 1, 10⟩
abbrev CELL_EXC_EVT_ISA_SEEN (c : Nat) : Fld := ⟨(R.CELL_EXC_EVT c), 16, 1⟩
abbrev CELL_EXC_EVT_ISB_SEEN (c : Nat) : Fld := ⟨(R.CELL_EXC_EVT c), 17, 1⟩
abbrev CELL_EXC_EVT_BV_SEEN (c : Nat) : Fld := ⟨(R.CELL_EXC_EVT c), 18, 1⟩
abbrev CELL_EXC_EVT_CJ_SEEN (c : Nat) : Fld := ⟨(R.CELL_EXC_EVT c), 19, 1⟩
abbrev CELL_EXC_EVT_LEAD_SEEN (c : Nat) : Fld := ⟨(R.CELL_EXC_EVT c), 20, 4⟩
abbrev CELL_EXC_CNT_CONFIRMED (c : Nat) : Fld := ⟨(R.CELL_EXC_CNT c), 0, 16⟩
abbrev CELL_EXC_CNT_RETRIES (c : Nat) : Fld := ⟨(R.CELL_EXC_CNT c), 16, 16⟩
abbrev CELL_ISA_MEAS_I_NA (c : Nat) : Fld := ⟨(R.CELL_ISA_MEAS c), 0, 22⟩
abbrev CELL_ISB_MEAS_I_NA (c : Nat) : Fld := ⟨(R.CELL_ISB_MEAS c), 0, 22⟩
abbrev CELL_BV_MEAS_BV_UV100 (c : Nat) : Fld := ⟨(R.CELL_BV_MEAS c), 0, 16⟩
abbrev CELL_BV_MEAS_BV_UA (c : Nat) : Fld := ⟨(R.CELL_BV_MEAS c), 16, 16⟩
abbrev CELL_HEAD_HEAD_A (c : Nat) : Fld := ⟨(R.CELL_HEAD c), 0, 16⟩
abbrev CELL_HEAD_HEAD_B (c : Nat) : Fld := ⟨(R.CELL_HEAD c), 16, 16⟩
abbrev CELL_STEP_ROUTE_CHP (c s i : Nat) : Fld := ⟨(R.CELL_STEP_ROUTE c s), 8 * i, 4⟩
abbrev CELL_STEP_ROUTE_CHN (c s i : Nat) : Fld := ⟨(R.CELL_STEP_ROUTE c s), 8 * i + 4, 4⟩
abbrev CELL_STEP_EXC_ISA_T (c s : Nat) : Fld := ⟨(R.CELL_STEP_EXC c s), 0, 4⟩
abbrev CELL_STEP_EXC_ISB_T (c s : Nat) : Fld := ⟨(R.CELL_STEP_EXC c s), 4, 4⟩
abbrev CELL_STEP_EXC_BV_T (c s : Nat) : Fld := ⟨(R.CELL_STEP_EXC c s), 8, 4⟩
abbrev CELL_STEP_EXC_REFP_T (c s : Nat) : Fld := ⟨(R.CELL_STEP_EXC c s), 12, 4⟩
abbrev CELL_STEP_EXC_REFN_T (c s : Nat) : Fld := ⟨(R.CELL_STEP_EXC c s), 16, 4⟩
abbrev CELL_STEP_MASK_RTN_MASK (c s : Nat) : Fld := ⟨(R.CELL_STEP_MASK c s), 0, 10⟩
abbrev CELL_STEP_MASK_DIS_MASK (c s : Nat) : Fld := ⟨(R.CELL_STEP_MASK c s), 16, 10⟩
abbrev CELL_STEP_DWELL_COUNT (c s : Nat) : Fld := ⟨(R.CELL_STEP_DWELL c s), 0, 16⟩
abbrev CELL_STEP_DWELL_EXP (c s : Nat) : Fld := ⟨(R.CELL_STEP_DWELL c s), 16, 4⟩
abbrev CELL_STEP_DWELL_SETTLE_MASK (c s : Nat) : Fld := ⟨(R.CELL_STEP_DWELL c s), 20, 4⟩
abbrev CELL_LEAD_CFG_WIRING (c i : Nat) : Fld := ⟨(R.CELL_LEAD_CFG c i), 0, 3⟩
abbrev CELL_LEAD_CFG_SOURCE (c i : Nat) : Fld := ⟨(R.CELL_LEAD_CFG c i), 3, 1⟩
abbrev CELL_LEAD_CFG_LEAD_T (c i : Nat) : Fld := ⟨(R.CELL_LEAD_CFG c i), 4, 4⟩
abbrev CELL_LEAD_CFG_LEAD_CODE (c i : Nat) : Fld := ⟨(R.CELL_LEAD_CFG c i), 8, 12⟩
abbrev CELL_LEAD_CFG_AFFECT (c i : Nat) : Fld := ⟨(R.CELL_LEAD_CFG c i), 20, 4⟩
abbrev CELL_LEAD_SCHED_MODE (c i : Nat) : Fld := ⟨(R.CELL_LEAD_SCHED c i), 0, 2⟩
abbrev CELL_LEAD_SCHED_PERIOD_S (c i : Nat) : Fld := ⟨(R.CELL_LEAD_SCHED c i), 2, 12⟩
abbrev CELL_LEAD_SCHED_SRC (c i : Nat) : Fld := ⟨(R.CELL_LEAD_SCHED c i), 14, 3⟩
abbrev CELL_LEAD_ANGLE_ANGLE (c i : Nat) : Fld := ⟨(R.CELL_LEAD_ANGLE c i), 0, 16⟩
abbrev CELL_LEAD_ANGLE_EVERY (c i : Nat) : Fld := ⟨(R.CELL_LEAD_ANGLE c i), 16, 16⟩
abbrev CELL_LEAD_MAX_MAX_MOHM (c i : Nat) : Fld := ⟨(R.CELL_LEAD_MAX c i), 0, 24⟩
abbrev CELL_LEAD_RES_LOOP_MOHM (c i : Nat) : Fld := ⟨(R.CELL_LEAD_RES c i), 0, 24⟩
abbrev CELL_LEAD_STAT_DONE (c i : Nat) : Fld := ⟨(R.CELL_LEAD_STAT c i), 0, 8⟩
abbrev CELL_LEAD_STAT_VALID (c i : Nat) : Fld := ⟨(R.CELL_LEAD_STAT c i), 8, 1⟩
abbrev CELL_LEAD_STAT_ABORTED (c i : Nat) : Fld := ⟨(R.CELL_LEAD_STAT c i), 9, 1⟩
abbrev CELL_LEAD_STAT_MISSED (c i : Nat) : Fld := ⟨(R.CELL_LEAD_STAT c i), 10, 1⟩
abbrev CELL_LEAD_STAT_OVER_MAX (c i : Nat) : Fld := ⟨(R.CELL_LEAD_STAT c i), 11, 1⟩
abbrev CELL_LEAD_STAT_MISSED_CNT (c i : Nat) : Fld := ⟨(R.CELL_LEAD_STAT c i), 16, 16⟩
abbrev CH_MODE_MODE (k : Nat) : Fld := ⟨(R.CH_MODE k), 0, 3⟩
abbrev CH_MODE_TC_TYPE (k : Nat) : Fld := ⟨(R.CH_MODE k), 4, 4⟩
abbrev CH_MODE_HOME_RANGE (k : Nat) : Fld := ⟨(R.CH_MODE k), 8, 3⟩
abbrev CH_MODE_MIN_RANGE (k : Nat) : Fld := ⟨(R.CH_MODE k), 11, 3⟩
abbrev CH_MODE_MAX_RANGE (k : Nat) : Fld := ⟨(R.CH_MODE k), 14, 3⟩
abbrev CH_MODE_AR_MODE (k : Nat) : Fld := ⟨(R.CH_MODE k), 17, 2⟩
abbrev CH_MODE_RATE (k : Nat) : Fld := ⟨(R.CH_MODE k), 19, 5⟩
abbrev CH_MODE_NOTCH (k : Nat) : Fld := ⟨(R.CH_MODE k), 24, 2⟩
abbrev CH_MODE_NOTCH_BW (k : Nat) : Fld := ⟨(R.CH_MODE k), 26, 1⟩
abbrev CH_MODE_NOTCH_H (k : Nat) : Fld := ⟨(R.CH_MODE k), 27, 3⟩
abbrev CH_AR_QUIET_MS (k : Nat) : Fld := ⟨(R.CH_AR k), 0, 8⟩
abbrev CH_RST_SCHED_EN (k : Nat) : Fld := ⟨(R.CH_RST_SCHED k), 0, 1⟩
abbrev CH_RST_SCHED_SRC (k : Nat) : Fld := ⟨(R.CH_RST_SCHED k), 1, 3⟩
abbrev CH_RST_SCHED_EVERY (k : Nat) : Fld := ⟨(R.CH_RST_SCHED k), 4, 12⟩
abbrev CH_RST_SCHED_ANGLE (k : Nat) : Fld := ⟨(R.CH_RST_SCHED k), 16, 16⟩
abbrev CH_CMD_RESET (k : Nat) : Fld := ⟨(R.CH_CMD k), 0, 1⟩
abbrev CH_STAT_RANGE_NOW (k : Nat) : Fld := ⟨(R.CH_STAT k), 0, 3⟩
abbrev CH_STAT_BLANKING (k : Nat) : Fld := ⟨(R.CH_STAT k), 3, 1⟩
abbrev CH_STAT_QUIET_RUN (k : Nat) : Fld := ⟨(R.CH_STAT k), 4, 1⟩
abbrev CH_STAT_READY (k : Nat) : Fld := ⟨(R.CH_STAT k), 5, 1⟩
abbrev CH_STAT_UP_SEEN (k : Nat) : Fld := ⟨(R.CH_STAT k), 8, 1⟩
abbrev CH_STAT_OVER_SEEN (k : Nat) : Fld := ⟨(R.CH_STAT k), 9, 1⟩
abbrev CH_STAT_RESET_SEEN (k : Nat) : Fld := ⟨(R.CH_STAT k), 10, 1⟩
abbrev CH_STAT_DOWN_SEEN (k : Nat) : Fld := ⟨(R.CH_STAT k), 11, 1⟩
abbrev CH_STAT_RST_MISSED_SEEN (k : Nat) : Fld := ⟨(R.CH_STAT k), 12, 1⟩
abbrev CH_CNT_UPRANGES (k : Nat) : Fld := ⟨(R.CH_CNT k), 0, 16⟩
abbrev CH_CNT_OVERRANGES (k : Nat) : Fld := ⟨(R.CH_CNT k), 16, 16⟩
abbrev CH_CNT2_RESETS (k : Nat) : Fld := ⟨(R.CH_CNT2 k), 0, 16⟩
abbrev CH_CNT2_RST_MISSED (k : Nat) : Fld := ⟨(R.CH_CNT2 k), 16, 16⟩
abbrev CH_RST_LT (k : Nat) : Fld := ⟨(R.CH_RST_LT k), 0, 32⟩
abbrev CH_RST_LT_HI (k : Nat) : Fld := ⟨(R.CH_RST_LT_HI k), 0, 32⟩
abbrev CH_RESET_LAST_VALUE (k : Nat) : Fld := ⟨(R.CH_RESET_LAST k), 0, 24⟩
abbrev CH_RESET_LAST_RANGE_BEFORE (k : Nat) : Fld := ⟨(R.CH_RESET_LAST k), 24, 3⟩
abbrev CH_SETTLE_NS (k : Nat) : Fld := ⟨(R.CH_SETTLE_NS k), 0, 32⟩
abbrev CH_SETTLE_NS_HI (k : Nat) : Fld := ⟨(R.CH_SETTLE_NS_HI k), 0, 32⟩
abbrev CH_LATENCY_NS (k : Nat) : Fld := ⟨(R.CH_LATENCY_NS k), 0, 32⟩
abbrev CH_LATENCY_NS_HI (k : Nat) : Fld := ⟨(R.CH_LATENCY_NS_HI k), 0, 32⟩
abbrev CH_RATIO (k r : Nat) : Fld := ⟨(R.CH_RATIO k r), 0, 32⟩
abbrev CH_LAST_VALUE (k : Nat) : Fld := ⟨(R.CH_LAST k), 0, 24⟩
abbrev CH_LAST_STITCHED (k : Nat) : Fld := ⟨(R.CH_LAST k), 24, 1⟩
abbrev CH_LAST_SETTLING (k : Nat) : Fld := ⟨(R.CH_LAST k), 25, 1⟩
abbrev CH_LAST_OVERRANGE (k : Nat) : Fld := ⟨(R.CH_LAST k), 26, 1⟩
abbrev CH_LAST_EXC_FAULT (k : Nat) : Fld := ⟨(R.CH_LAST k), 27, 1⟩
abbrev MAINS_CFG_START_HZ (t : Nat) : Fld := ⟨(R.MAINS_CFG t), 0, 1⟩
abbrev MAINS_CFG_SRC_CH (t : Nat) : Fld := ⟨(R.MAINS_CFG t), 4, 4⟩
abbrev MAINS_CFG_SRC_CH_EN (t : Nat) : Fld := ⟨(R.MAINS_CFG t), 8, 1⟩
abbrev MAINS_STAT_LOCKED (t : Nat) : Fld := ⟨(R.MAINS_STAT t), 0, 1⟩
abbrev MAINS_STAT_USING_CH (t : Nat) : Fld := ⟨(R.MAINS_STAT t), 1, 1⟩
abbrev MAINS_STAT_LOCK_SEEN (t : Nat) : Fld := ⟨(R.MAINS_STAT t), 8, 1⟩
abbrev MAINS_STAT_LOST_SEEN (t : Nat) : Fld := ⟨(R.MAINS_STAT t), 9, 1⟩
abbrev MAINS_FREQ_FREQ_MILLIHZ (t : Nat) : Fld := ⟨(R.MAINS_FREQ t), 0, 17⟩
abbrev LT_LO : Fld := ⟨R.LT_LO, 0, 32⟩
abbrev LT_HI : Fld := ⟨R.LT_HI, 0, 32⟩
abbrev LT_CLK_STAT_PLL_LOCK : Fld := ⟨R.LT_CLK_STAT, 0, 1⟩
abbrev LT_CLK_STAT_REF_SRC : Fld := ⟨R.LT_CLK_STAT, 1, 2⟩
abbrev LT_CLK_STAT_THROTTLE : Fld := ⟨R.LT_CLK_STAT, 3, 2⟩
abbrev LT_CFG_STEP_EN : Fld := ⟨R.LT_CFG, 0, 1⟩
abbrev LT_CFG_STEP_MIN_US : Fld := ⟨R.LT_CFG, 16, 16⟩
abbrev LT_STAT_FOLLOWING : Fld := ⟨R.LT_STAT, 0, 1⟩
abbrev LT_STAT_HOLDOVER : Fld := ⟨R.LT_STAT, 1, 1⟩
abbrev LT_STAT_WALKING : Fld := ⟨R.LT_STAT, 2, 1⟩
abbrev LT_STAT_LINE_HOLDOVER : Fld := ⟨R.LT_STAT, 3, 1⟩
abbrev LT_STAT_EPOCH_CONFLICT : Fld := ⟨R.LT_STAT, 4, 1⟩
abbrev LT_STAT_LEADING : Fld := ⟨R.LT_STAT, 5, 1⟩
abbrev LT_EVT_LOCK_LOST_SEEN : Fld := ⟨R.LT_EVT, 0, 1⟩
abbrev LT_EVT_HOLD_IN_SEEN : Fld := ⟨R.LT_EVT, 1, 1⟩
abbrev LT_EVT_HOLD_OUT_SEEN : Fld := ⟨R.LT_EVT, 2, 1⟩
abbrev LT_EVT_STEP_SEEN : Fld := ⟨R.LT_EVT, 3, 1⟩
abbrev LT_EVT_CONFLICT_SEEN : Fld := ⟨R.LT_EVT, 4, 1⟩
abbrev LT_EVT_REF_SWITCH_SEEN : Fld := ⟨R.LT_EVT, 5, 1⟩
abbrev LT_EVT_WAKE_SEEN : Fld := ⟨R.LT_EVT, 6, 1⟩
abbrev LT_ERR_E_NS : Fld := ⟨R.LT_ERR, 0, 32⟩
abbrev LT_CNT_STEPS : Fld := ⟨R.LT_CNT, 0, 16⟩
abbrev LT_CNT_HOLDOVERS : Fld := ⟨R.LT_CNT, 16, 16⟩
abbrev LT_HOLD_IN_LO : Fld := ⟨R.LT_HOLD_IN_LO, 0, 32⟩
abbrev LT_HOLD_IN_HI : Fld := ⟨R.LT_HOLD_IN_HI, 0, 32⟩
abbrev LT_SLEEP_IN_LO : Fld := ⟨R.LT_SLEEP_IN_LO, 0, 32⟩
abbrev LT_SLEEP_IN_HI : Fld := ⟨R.LT_SLEEP_IN_HI, 0, 32⟩
abbrev LT_SLEEP_OUT_LO : Fld := ⟨R.LT_SLEEP_OUT_LO, 0, 32⟩
abbrev LT_SLEEP_OUT_HI : Fld := ⟨R.LT_SLEEP_OUT_HI, 0, 32⟩
abbrev LT_SLEEP_TICKS_LO : Fld := ⟨R.LT_SLEEP_TICKS_LO, 0, 32⟩
abbrev LT_SLEEP_TICKS_HI : Fld := ⟨R.LT_SLEEP_TICKS_HI, 0, 32⟩
abbrev LT_STEP_LO : Fld := ⟨R.LT_STEP_LO, 0, 32⟩
abbrev LT_STEP_HI : Fld := ⟨R.LT_STEP_HI, 0, 32⟩
abbrev LT_RES_PPB_RATIO : Fld := ⟨R.LT_RES_PPB, 0, 32⟩
abbrev LT_TILE_RET_IN_LO (t : Nat) : Fld := ⟨(R.LT_TILE_RET_IN_LO t), 0, 32⟩
abbrev LT_TILE_RET_IN_HI (t : Nat) : Fld := ⟨(R.LT_TILE_RET_IN_HI t), 0, 32⟩
abbrev LT_TILE_RET_OUT_LO (t : Nat) : Fld := ⟨(R.LT_TILE_RET_OUT_LO t), 0, 32⟩
abbrev LT_TILE_RET_OUT_HI (t : Nat) : Fld := ⟨(R.LT_TILE_RET_OUT_HI t), 0, 32⟩
abbrev HERD_CFG_ACK_TO_US : Fld := ⟨R.HERD_CFG, 0, 10⟩
abbrev HERD_CFG_RETRIES : Fld := ⟨R.HERD_CFG, 10, 2⟩
abbrev HERD_CFG_RXQ_VERDICT : Fld := ⟨R.HERD_CFG, 12, 4⟩
abbrev HERD_CFG_RXQ_BULK : Fld := ⟨R.HERD_CFG, 16, 4⟩
abbrev HERD_STAT_ROLE : Fld := ⟨R.HERD_STAT, 0, 2⟩
abbrev HERD_STAT_BEACONING : Fld := ⟨R.HERD_STAT, 2, 1⟩
abbrev HERD_STAT_FORMING : Fld := ⟨R.HERD_STAT, 3, 1⟩
abbrev HERD_STAT_SOURCE_ADDR : Fld := ⟨R.HERD_STAT, 4, 5⟩
abbrev HERD_STAT_SOURCE_OK : Fld := ⟨R.HERD_STAT, 9, 1⟩
abbrev HERD_STAT_ADDR_CONFLICT : Fld := ⟨R.HERD_STAT, 10, 1⟩
abbrev HERD_STAT_ROLE_CONFLICT : Fld := ⟨R.HERD_STAT, 11, 1⟩
abbrev HERD_STAT_WRAP_A : Fld := ⟨R.HERD_STAT, 12, 1⟩
abbrev HERD_STAT_WRAP_B : Fld := ⟨R.HERD_STAT, 13, 1⟩
abbrev HERD_EVT_PORTA_SEEN : Fld := ⟨R.HERD_EVT, 0, 1⟩
abbrev HERD_EVT_PORTB_SEEN : Fld := ⟨R.HERD_EVT, 1, 1⟩
abbrev HERD_EVT_WRAP_SEEN : Fld := ⟨R.HERD_EVT, 2, 1⟩
abbrev HERD_EVT_SOURCE_SEEN : Fld := ⟨R.HERD_EVT, 3, 1⟩
abbrev HERD_EVT_BEACON_SEEN : Fld := ⟨R.HERD_EVT, 4, 1⟩
abbrev HERD_EVT_ACT_LOST_SEEN : Fld := ⟨R.HERD_EVT, 5, 1⟩
abbrev HERD_EVT_ACT_REFUSED_SEEN : Fld := ⟨R.HERD_EVT, 6, 1⟩
abbrev HERD_EVT_ROSTER_SEEN : Fld := ⟨R.HERD_EVT, 7, 1⟩
abbrev HERD_EVT_CONFLICT_SEEN : Fld := ⟨R.HERD_EVT, 8, 1⟩
abbrev HERD_EVT_FRAME_ERR_SEEN : Fld := ⟨R.HERD_EVT, 9, 1⟩
abbrev HERD_PORT_STATE (x : Nat) : Fld := ⟨(R.HERD_PORT x), 0, 3⟩
abbrev HERD_PORT_WRAPPED (x : Nat) : Fld := ⟨(R.HERD_PORT x), 3, 1⟩
abbrev HERD_PORT_PEER_ADDR (x : Nat) : Fld := ⟨(R.HERD_PORT x), 4, 5⟩
abbrev HERD_PORT_PEER_VALID (x : Nat) : Fld := ⟨(R.HERD_PORT x), 9, 1⟩
abbrev HERD_DLY_DELAY (x : Nat) : Fld := ⟨(R.HERD_DLY x), 0, 32⟩
abbrev HERD_ASYM_ASYM (x : Nat) : Fld := ⟨(R.HERD_ASYM x), 0, 32⟩
abbrev HERD_ROSTER_ROSTER : Fld := ⟨R.HERD_ROSTER, 0, 32⟩
abbrev HERD_PATH_PATH : Fld := ⟨R.HERD_PATH, 0, 32⟩
abbrev HERD_BNUM_BNUM : Fld := ⟨R.HERD_BNUM, 0, 32⟩
abbrev HERD_CNT0_BEACON_MISSED : Fld := ⟨R.HERD_CNT0, 0, 16⟩
abbrev HERD_CNT0_CRC_ERR : Fld := ⟨R.HERD_CNT0, 16, 16⟩
abbrev HERD_CNT1_ACT_RETRY : Fld := ⟨R.HERD_CNT1, 0, 16⟩
abbrev HERD_CNT1_ACT_LOST : Fld := ⟨R.HERD_CNT1, 16, 16⟩
abbrev HERD_CNT2_FWD_DROP : Fld := ⟨R.HERD_CNT2, 0, 16⟩
abbrev HERD_CNT2_HOPS_DROP : Fld := ⟨R.HERD_CNT2, 16, 16⟩
abbrev HERD_CNT3_WRAPS : Fld := ⟨R.HERD_CNT3, 0, 16⟩
abbrev HERD_CNT3_TAKEOVERS : Fld := ⟨R.HERD_CNT3, 16, 16⟩
abbrev HERD_PUB_EN (e : Nat) : Fld := ⟨(R.HERD_PUB e), 0, 1⟩
abbrev HERD_PUB_SLOT (e : Nat) : Fld := ⟨(R.HERD_PUB e), 1, 4⟩
abbrev HERD_PUB_SLOT_CONFLICT (e : Nat) : Fld := ⟨(R.HERD_PUB e), 5, 1⟩
abbrev HERD_SUB_CFG_EN (s : Nat) : Fld := ⟨(R.HERD_SUB_CFG s), 0, 1⟩
abbrev HERD_SUB_CFG_OWNER (s : Nat) : Fld := ⟨(R.HERD_SUB_CFG s), 1, 5⟩
abbrev HERD_SUB_CFG_OWNER_SRC (s : Nat) : Fld := ⟨(R.HERD_SUB_CFG s), 6, 2⟩
abbrev HERD_SUB_CFG_AVAILABLE (s : Nat) : Fld := ⟨(R.HERD_SUB_CFG s), 8, 1⟩
abbrev HERD_SUB_AGE_AGE_NS (s : Nat) : Fld := ⟨(R.HERD_SUB_AGE s), 0, 32⟩
abbrev HERD_RUC_CFG_EN (n : Nat) : Fld := ⟨(R.HERD_RUC_CFG n), 0, 1⟩
abbrev HERD_RUC_CFG_OUTPUT (n : Nat) : Fld := ⟨(R.HERD_RUC_CFG n), 1, 5⟩
abbrev HERD_RUC_CFG_REJ_LEVEL (n : Nat) : Fld := ⟨(R.HERD_RUC_CFG n), 6, 1⟩
abbrev HERD_RUC_CFG_SRC (n : Nat) : Fld := ⟨(R.HERD_RUC_CFG n), 8, 3⟩
abbrev HERD_RUC_CFG_CLEARER (n : Nat) : Fld := ⟨(R.HERD_RUC_CFG n), 11, 5⟩
abbrev HERD_RUC_CFG_GUARD_US (n : Nat) : Fld := ⟨(R.HERD_RUC_CFG n), 16, 8⟩
abbrev HERD_RUC_ON_ANGLE (n : Nat) : Fld := ⟨(R.HERD_RUC_ON n), 0, 32⟩
abbrev HERD_RUC_OFF_ANGLE (n : Nat) : Fld := ⟨(R.HERD_RUC_OFF n), 0, 32⟩
abbrev HERD_RUC_CNT_REJECTS (n : Nat) : Fld := ⟨(R.HERD_RUC_CNT n), 0, 16⟩
abbrev HERD_RUC_CNT_LATE_CLEARS (n : Nat) : Fld := ⟨(R.HERD_RUC_CNT n), 16, 16⟩
abbrev CHURN_STAT_FOLDING (t : Nat) : Fld := ⟨(R.CHURN_STAT t), 0, 4⟩
abbrev CHURN_STAT_TEACHING (t : Nat) : Fld := ⟨(R.CHURN_STAT t), 4, 4⟩
abbrev CHURN_STAT_BUSY (t : Nat) : Fld := ⟨(R.CHURN_STAT t), 8, 1⟩
abbrev CHURN_EVT_FAIL_SEEN (t : Nat) : Fld := ⟨(R.CHURN_EVT t), 0, 4⟩
abbrev CHURN_EVT_TEACH_DONE_SEEN (t : Nat) : Fld := ⟨(R.CHURN_EVT t), 4, 4⟩
abbrev CHURN_EVT_TEACH_RESTART_SEEN (t : Nat) : Fld := ⟨(R.CHURN_EVT t), 8, 4⟩
abbrev CHURN_EVT_CLAMP_SEEN (t : Nat) : Fld := ⟨(R.CHURN_EVT t), 12, 4⟩
abbrev CHURN_EVT_INCOMPLETE_SEEN (t : Nat) : Fld := ⟨(R.CHURN_EVT t), 16, 4⟩
abbrev CHURN_EVT_SKIPPED_SEEN (t : Nat) : Fld := ⟨(R.CHURN_EVT t), 20, 4⟩
abbrev CHURN_EVT_WRITE_REFUSED_SEEN (t : Nat) : Fld := ⟨(R.CHURN_EVT t), 24, 1⟩
abbrev CHURN_EVT_RULE_EVENT_SEEN (t : Nat) : Fld := ⟨(R.CHURN_EVT t), 25, 1⟩
abbrev CHURN_CNT0_LATE_SAMPLES (t : Nat) : Fld := ⟨(R.CHURN_CNT0 t), 0, 16⟩
abbrev CHURN_CNT0_STILL_SAMPLES (t : Nat) : Fld := ⟨(R.CHURN_CNT0 t), 16, 16⟩
abbrev CHURN_CNT1_BACK_SAMPLES (t : Nat) : Fld := ⟨(R.CHURN_CNT1 t), 0, 16⟩
abbrev CHURN_CNT1_ENV_WRITE_REFUSED (t : Nat) : Fld := ⟨(R.CHURN_CNT1 t), 16, 16⟩
abbrev CHURN_STR_FOLD_EN (t i : Nat) : Fld := ⟨(R.CHURN_STR t i), 0, 1⟩
abbrev CHURN_STR_GROUP (t i : Nat) : Fld := ⟨(R.CHURN_STR t i), 1, 2⟩
abbrev CHURN_STR_FOLD_STEP (t i : Nat) : Fld := ⟨(R.CHURN_STR t i), 3, 5⟩
abbrev CHURN_STR_SHIFT (t i : Nat) : Fld := ⟨(R.CHURN_STR t i), 8, 4⟩
abbrev CHURN_GRP_CFG_EN (t g : Nat) : Fld := ⟨(R.CHURN_GRP_CFG t g), 0, 1⟩
abbrev CHURN_GRP_CFG_SRC (t g : Nat) : Fld := ⟨(R.CHURN_GRP_CFG t g), 1, 3⟩
abbrev CHURN_GRP_CFG_BINS (t g : Nat) : Fld := ⟨(R.CHURN_GRP_CFG t g), 4, 3⟩
abbrev CHURN_GRP_CFG_FAULT_CODE (t g : Nat) : Fld := ⟨(R.CHURN_GRP_CFG t g), 7, 5⟩
abbrev CHURN_GRP_CFG_ENV_WRITE (t g : Nat) : Fld := ⟨(R.CHURN_GRP_CFG t g), 12, 1⟩
abbrev CHURN_GRP_CFG_TEACH_AT_START (t g : Nat) : Fld := ⟨(R.CHURN_GRP_CFG t g), 13, 1⟩
abbrev CHURN_GRP_CFG_DRIFT_EN (t g : Nat) : Fld := ⟨(R.CHURN_GRP_CFG t g), 14, 1⟩
abbrev CHURN_GRP_CFG_TEACH_CMD_EN (t g : Nat) : Fld := ⟨(R.CHURN_GRP_CFG t g), 15, 1⟩
abbrev CHURN_GRP_CFG_MAX_CYCLE_MS (t g : Nat) : Fld := ⟨(R.CHURN_GRP_CFG t g), 16, 16⟩
abbrev CHURN_GRP_TIME_WAIT_US (t g : Nat) : Fld := ⟨(R.CHURN_GRP_TIME t g), 0, 16⟩
abbrev CHURN_GRP_TIME_CLOSE_WAIT (t g : Nat) : Fld := ⟨(R.CHURN_GRP_TIME t g), 16, 16⟩
abbrev CHURN_GRP_TEACH_TEACH_LEN (t g : Nat) : Fld := ⟨(R.CHURN_GRP_TEACH t g), 0, 13⟩
abbrev CHURN_GRP_TEACH_MARGIN_PCT (t g : Nat) : Fld := ⟨(R.CHURN_GRP_TEACH t g), 16, 8⟩
abbrev CHURN_GRP_TEACH_MARGIN_LSB (t g : Nat) : Fld := ⟨(R.CHURN_GRP_TEACH t g), 24, 8⟩
abbrev CHURN_GRP_DRIFT_DRIFT_STEP (t g : Nat) : Fld := ⟨(R.CHURN_GRP_DRIFT t g), 0, 8⟩
abbrev CHURN_GRP_DRIFT_DRIFT_EVERY (t g : Nat) : Fld := ⟨(R.CHURN_GRP_DRIFT t g), 8, 8⟩
abbrev CHURN_GRP_DRIFT_DRIFT_MAX (t g : Nat) : Fld := ⟨(R.CHURN_GRP_DRIFT t g), 16, 16⟩
abbrev CHURN_GRP_CMD_TEACH (t g : Nat) : Fld := ⟨(R.CHURN_GRP_CMD t g), 0, 1⟩
abbrev CHURN_GRP_CMD_TEACH_END (t g : Nat) : Fld := ⟨(R.CHURN_GRP_CMD t g), 1, 1⟩
abbrev CHURN_GRP_STAT_STATE (t g : Nat) : Fld := ⟨(R.CHURN_GRP_STAT t g), 0, 2⟩
abbrev CHURN_GRP_STAT_SRC_AVAIL (t g : Nat) : Fld := ⟨(R.CHURN_GRP_STAT t g), 2, 1⟩
abbrev CHURN_GRP_STAT_CLAMPED (t g : Nat) : Fld := ⟨(R.CHURN_GRP_STAT t g), 3, 1⟩
abbrev CHURN_GRP_STAT_TEACH_DONE (t g : Nat) : Fld := ⟨(R.CHURN_GRP_STAT t g), 4, 13⟩
abbrev CHURN_GRP_CNT0_JUDGED (t g : Nat) : Fld := ⟨(R.CHURN_GRP_CNT0 t g), 0, 16⟩
abbrev CHURN_GRP_CNT0_FAILED (t g : Nat) : Fld := ⟨(R.CHURN_GRP_CNT0 t g), 16, 16⟩
abbrev CHURN_GRP_CNT1_INCOMPLETE (t g : Nat) : Fld := ⟨(R.CHURN_GRP_CNT1 t g), 0, 16⟩
abbrev CHURN_GRP_CNT1_SKIPPED (t g : Nat) : Fld := ⟨(R.CHURN_GRP_CNT1 t g), 16, 8⟩
abbrev CHURN_GRP_CNT1_TEACH_RESTARTS (t g : Nat) : Fld := ⟨(R.CHURN_GRP_CNT1 t g), 24, 8⟩
abbrev CHURN_FEAT_CFG_KIND (t f : Nat) : Fld := ⟨(R.CHURN_FEAT_CFG t f), 0, 4⟩
abbrev CHURN_FEAT_CFG_STREAM (t f : Nat) : Fld := ⟨(R.CHURN_FEAT_CFG t f), 4, 4⟩
abbrev CHURN_FEAT_CFG_FIRST (t f : Nat) : Fld := ⟨(R.CHURN_FEAT_CFG t f), 8, 10⟩
abbrev CHURN_FEAT_CFG_LAST (t f : Nat) : Fld := ⟨(R.CHURN_FEAT_CFG t f), 18, 10⟩
abbrev CHURN_FEAT_CFG_SHIFT (t f : Nat) : Fld := ⟨(R.CHURN_FEAT_CFG t f), 28, 4⟩
abbrev CHURN_FEAT_LEVEL_LEVEL (t f : Nat) : Fld := ⟨(R.CHURN_FEAT_LEVEL t f), 0, 24⟩
abbrev CHURN_FEAT_LEVEL_HYST (t f : Nat) : Fld := ⟨(R.CHURN_FEAT_LEVEL t f), 24, 8⟩
abbrev CHURN_RULE_COND_EN (t r : Nat) : Fld := ⟨(R.CHURN_RULE_COND t r), 0, 1⟩
abbrev CHURN_RULE_COND_GROUP (t r : Nat) : Fld := ⟨(R.CHURN_RULE_COND t r), 1, 2⟩
abbrev CHURN_RULE_COND_WHEN (t r : Nat) : Fld := ⟨(R.CHURN_RULE_COND t r), 3, 2⟩
abbrev CHURN_RULE_COND_N (t r : Nat) : Fld := ⟨(R.CHURN_RULE_COND t r), 5, 4⟩
abbrev CHURN_RULE_COND_M (t r : Nat) : Fld := ⟨(R.CHURN_RULE_COND t r), 9, 4⟩
abbrev CHURN_RULE_COND_STOP (t r : Nat) : Fld := ⟨(R.CHURN_RULE_COND t r), 13, 1⟩
abbrev CHURN_RULE_COND_OP (t r : Nat) : Fld := ⟨(R.CHURN_RULE_COND t r), 14, 3⟩
abbrev CHURN_RULE_MASK_MASK (t r : Nat) : Fld := ⟨(R.CHURN_RULE_MASK t r), 1, 31⟩
abbrev CHURN_RULE_TARGET_ADDR (t r : Nat) : Fld := ⟨(R.CHURN_RULE_TARGET t r), 0, 5⟩
abbrev CHURN_RULE_TARGET_OUTPUT (t r : Nat) : Fld := ⟨(R.CHURN_RULE_TARGET t r), 5, 5⟩
abbrev CHURN_RULE_TARGET_LEVEL (t r : Nat) : Fld := ⟨(R.CHURN_RULE_TARGET t r), 10, 1⟩
abbrev CHURN_RULE_TARGET_SRC (t r : Nat) : Fld := ⟨(R.CHURN_RULE_TARGET t r), 11, 3⟩
abbrev CHURN_RULE_TARGET_DELAY (t r : Nat) : Fld := ⟨(R.CHURN_RULE_TARGET t r), 14, 8⟩
abbrev CHURN_RULE_TARGET_SELF (t r : Nat) : Fld := ⟨(R.CHURN_RULE_TARGET t r), 22, 1⟩
abbrev CHURN_RULE_ANGLES_ON (t r : Nat) : Fld := ⟨(R.CHURN_RULE_ANGLES t r), 0, 16⟩
abbrev CHURN_RULE_ANGLES_OFF (t r : Nat) : Fld := ⟨(R.CHURN_RULE_ANGLES t r), 16, 16⟩
abbrev CHURN_RULE_CNT_FIRED (t r : Nat) : Fld := ⟨(R.CHURN_RULE_CNT t r), 0, 16⟩
abbrev ACT_CFG_EVQ : Fld := ⟨R.ACT_CFG, 0, 4⟩
abbrev ACT_CFG_REC_EN : Fld := ⟨R.ACT_CFG, 4, 1⟩
abbrev ACT_CFG_REC_ALL : Fld := ⟨R.ACT_CFG, 5, 1⟩
abbrev ACT_STAT_USED : Fld := ⟨R.ACT_STAT, 0, 10⟩
abbrev ACT_STAT_PEAK : Fld := ⟨R.ACT_STAT, 10, 10⟩
abbrev ACT_EVT_LATE_SEEN : Fld := ⟨R.ACT_EVT, 0, 1⟩
abbrev ACT_EVT_DISCARD_SEEN : Fld := ⟨R.ACT_EVT, 1, 1⟩
abbrev ACT_EVT_FULL_SEEN : Fld := ⟨R.ACT_EVT, 2, 1⟩
abbrev ACT_CNT0_LATE : Fld := ⟨R.ACT_CNT0, 0, 16⟩
abbrev ACT_CNT0_SUPERSEDED : Fld := ⟨R.ACT_CNT0, 16, 16⟩
abbrev ACT_CNT1_DISCARDED : Fld := ⟨R.ACT_CNT1, 0, 16⟩
abbrev ACT_CNT1_TABLE_FULL : Fld := ⟨R.ACT_CNT1, 16, 16⟩
abbrev ACT_ENTER_CTL_OUTPUT (s : Nat) : Fld := ⟨(R.ACT_ENTER_CTL s), 0, 5⟩
abbrev ACT_ENTER_CTL_LEVEL (s : Nat) : Fld := ⟨(R.ACT_ENTER_CTL s), 5, 1⟩
abbrev ACT_ENTER_CTL_KIND (s : Nat) : Fld := ⟨(R.ACT_ENTER_CTL s), 6, 2⟩
abbrev ACT_ENTER_CTL_SRC (s : Nat) : Fld := ⟨(R.ACT_ENTER_CTL s), 8, 3⟩
abbrev ACT_ENTER_CTL_ADDR (s : Nat) : Fld := ⟨(R.ACT_ENTER_CTL s), 11, 5⟩
abbrev ACT_ENTER_CTL_SELF (s : Nat) : Fld := ⟨(R.ACT_ENTER_CTL s), 16, 1⟩
abbrev ACT_ENTER_CTL_GO (s : Nat) : Fld := ⟨(R.ACT_ENTER_CTL s), 31, 1⟩
abbrev ACT_ENTER_TGT_LO (s : Nat) : Fld := ⟨(R.ACT_ENTER_TGT_LO s), 0, 32⟩
abbrev ACT_ENTER_TGT_HI (s : Nat) : Fld := ⟨(R.ACT_ENTER_TGT_HI s), 0, 32⟩
abbrev ACT_ENTER_RES_RESULT (s : Nat) : Fld := ⟨(R.ACT_ENTER_RES s), 0, 8⟩
abbrev ACT_ENTER_RES_BUSY (s : Nat) : Fld := ⟨(R.ACT_ENTER_RES s), 8, 1⟩
abbrev OUT_LEVEL_LEVEL : Fld := ⟨R.OUT_LEVEL, 0, 24⟩
abbrev OUT_PIN_PIN : Fld := ⟨R.OUT_PIN, 0, 24⟩
abbrev OUT_FAULT_FAULT : Fld := ⟨R.OUT_FAULT, 0, 24⟩
abbrev OUT_FAULT_NO_SUPPLY : Fld := ⟨R.OUT_FAULT, 24, 1⟩
abbrev OUT_EVT_OVERCURRENT_SEEN : Fld := ⟨R.OUT_EVT, 0, 1⟩
abbrev OUT_EVT_READBACK_SEEN : Fld := ⟨R.OUT_EVT, 1, 1⟩
abbrev OUT_EVT_NO_SUPPLY_SEEN : Fld := ⟨R.OUT_EVT, 2, 1⟩
abbrev OUT_CNT_SHORT_PULSES : Fld := ⟨R.OUT_CNT, 0, 16⟩
abbrev OUT_CNT_FAULTS : Fld := ⟨R.OUT_CNT, 16, 16⟩
abbrev OUT_SENSE_SENSE : Fld := ⟨R.OUT_SENSE, 0, 24⟩
abbrev OUT_DLY_DLY_NS (n : Nat) : Fld := ⟨(R.OUT_DLY n), 0, 16⟩
abbrev CAP_CFG_HUBQ : Fld := ⟨R.CAP_CFG, 0, 4⟩
abbrev CAP_CFG_CLOSE_US : Fld := ⟨R.CAP_CFG, 4, 8⟩
abbrev CAP_EVT_OVERRUN_SEEN : Fld := ⟨R.CAP_EVT, 0, 1⟩
abbrev CAP_IN_CFG_EDGE (i : Nat) : Fld := ⟨(R.CAP_IN_CFG i), 0, 2⟩
abbrev CAP_IN_CFG_FILT (i : Nat) : Fld := ⟨(R.CAP_IN_CFG i), 2, 8⟩
abbrev CAP_IN_CFG_CABLE_NS (i : Nat) : Fld := ⟨(R.CAP_IN_CFG i), 10, 10⟩
abbrev CAP_IN_CFG_TILES (i : Nat) : Fld := ⟨(R.CAP_IN_CFG i), 20, 8⟩
abbrev CAP_IN_CFG_HUB_EN (i : Nat) : Fld := ⟨(R.CAP_IN_CFG i), 28, 1⟩
abbrev CAP_IN_STAT_LEVEL (i : Nat) : Fld := ⟨(R.CAP_IN_STAT i), 0, 1⟩
abbrev CAP_IN_STAT_OVERRUN_SEEN (i : Nat) : Fld := ⟨(R.CAP_IN_STAT i), 1, 1⟩
abbrev CAP_IN_CNT_EDGES (i : Nat) : Fld := ⟨(R.CAP_IN_CNT i), 0, 16⟩
abbrev CAP_IN_CNT_OVERRUNS (i : Nat) : Fld := ⟨(R.CAP_IN_CNT i), 16, 8⟩
abbrev CAP_IN_CNT_GLITCHES (i : Nat) : Fld := ⟨(R.CAP_IN_CNT i), 24, 8⟩
abbrev CAP_ENC_CFG_MODE (e : Nat) : Fld := ⟨(R.CAP_ENC_CFG e), 0, 3⟩
abbrev CAP_ENC_CFG_DIR_INV (e : Nat) : Fld := ⟨(R.CAP_ENC_CFG e), 3, 1⟩
abbrev CAP_ENC_CFG_GATE (e : Nat) : Fld := ⟨(R.CAP_ENC_CFG e), 4, 1⟩
abbrev CAP_ENC_CFG_INDEX_MODE (e : Nat) : Fld := ⟨(R.CAP_ENC_CFG e), 5, 1⟩
abbrev CAP_ENC_CFG_STOP_MS (e : Nat) : Fld := ⟨(R.CAP_ENC_CFG e), 6, 8⟩
abbrev CAP_ENC_CFG_TILES (e : Nat) : Fld := ⟨(R.CAP_ENC_CFG e), 14, 8⟩
abbrev CAP_ENC_CFG_HUB_EN (e : Nat) : Fld := ⟨(R.CAP_ENC_CFG e), 22, 1⟩
abbrev CAP_ENC_CPC_CPC (e : Nat) : Fld := ⟨(R.CAP_ENC_CPC e), 0, 21⟩
abbrev CAP_ENC_INDEX_INDEX_OFFSET (e : Nat) : Fld := ⟨(R.CAP_ENC_INDEX e), 0, 20⟩
abbrev CAP_ENC_INDEX_INDEX_TOL (e : Nat) : Fld := ⟨(R.CAP_ENC_INDEX e), 20, 12⟩
abbrev CAP_ENC_STAT_COUNTING (e : Nat) : Fld := ⟨(R.CAP_ENC_STAT e), 0, 1⟩
abbrev CAP_ENC_STAT_NO_INDEX (e : Nat) : Fld := ⟨(R.CAP_ENC_STAT e), 1, 1⟩
abbrev CAP_ENC_STAT_REVERSE (e : Nat) : Fld := ⟨(R.CAP_ENC_STAT e), 2, 1⟩
abbrev CAP_ENC_STAT_STOPPED (e : Nat) : Fld := ⟨(R.CAP_ENC_STAT e), 3, 1⟩
abbrev CAP_ENC_STAT_QUAD_SEEN (e : Nat) : Fld := ⟨(R.CAP_ENC_STAT e), 4, 1⟩
abbrev CAP_ENC_STAT_INDEX_FAULT_SEEN (e : Nat) : Fld := ⟨(R.CAP_ENC_STAT e), 5, 1⟩
abbrev CAP_ENC_STAT_REBASE_SEEN (e : Nat) : Fld := ⟨(R.CAP_ENC_STAT e), 6, 1⟩
abbrev CAP_ENC_STAT_INDEX_ERR (e : Nat) : Fld := ⟨(R.CAP_ENC_STAT e), 16, 16⟩
abbrev CAP_ENC_POS_LO (e : Nat) : Fld := ⟨(R.CAP_ENC_POS_LO e), 0, 32⟩
abbrev CAP_ENC_POS_HI (e : Nat) : Fld := ⟨(R.CAP_ENC_POS_HI e), 0, 32⟩
abbrev CAP_ENC_LAST_LO (e : Nat) : Fld := ⟨(R.CAP_ENC_LAST_LO e), 0, 32⟩
abbrev CAP_ENC_LAST_HI (e : Nat) : Fld := ⟨(R.CAP_ENC_LAST_HI e), 0, 32⟩
abbrev CAP_ENC_PERIOD_PERIOD (e : Nat) : Fld := ⟨(R.CAP_ENC_PERIOD e), 0, 32⟩
abbrev CAP_ENC_CNT_QUAD_ERR (e : Nat) : Fld := ⟨(R.CAP_ENC_CNT e), 0, 16⟩
abbrev CAP_ENC_CNT_INDEX_FAULTS (e : Nat) : Fld := ⟨(R.CAP_ENC_CNT e), 16, 16⟩
abbrev ACT_E_W0_OUTPUT (a : Nat) : Fld := ⟨(R.ACT_E_W0 a), 0, 5⟩
abbrev ACT_E_W0_LEVEL (a : Nat) : Fld := ⟨(R.ACT_E_W0 a), 5, 1⟩
abbrev ACT_E_W0_KIND (a : Nat) : Fld := ⟨(R.ACT_E_W0 a), 6, 1⟩
abbrev ACT_E_W0_LANE (a : Nat) : Fld := ⟨(R.ACT_E_W0 a), 7, 1⟩
abbrev ACT_E_W0_STATE (a : Nat) : Fld := ⟨(R.ACT_E_W0 a), 8, 2⟩
abbrev ACT_E_W0_SRC (a : Nat) : Fld := ⟨(R.ACT_E_W0 a), 10, 3⟩
abbrev ACT_E_W0_ORIGIN (a : Nat) : Fld := ⟨(R.ACT_E_W0 a), 13, 5⟩
abbrev ACT_E_W0_FROM (a : Nat) : Fld := ⟨(R.ACT_E_W0 a), 18, 2⟩
abbrev ACT_E_W1 (a : Nat) : Fld := ⟨(R.ACT_E_W1 a), 0, 32⟩
abbrev ACT_E_W2 (a : Nat) : Fld := ⟨(R.ACT_E_W2 a), 0, 32⟩
abbrev ACT_E_W3 (a : Nat) : Fld := ⟨(R.ACT_E_W3 a), 0, 32⟩
abbrev ACT_E_W4 (a : Nat) : Fld := ⟨(R.ACT_E_W4 a), 0, 32⟩
abbrev ACT_E_W5 (a : Nat) : Fld := ⟨(R.ACT_E_W5 a), 0, 32⟩
abbrev ACT_E_W6 (a : Nat) : Fld := ⟨(R.ACT_E_W6 a), 0, 32⟩
abbrev ACT_E_W7 (a : Nat) : Fld := ⟨(R.ACT_E_W7 a), 0, 32⟩
abbrev TT_CFG_AUTO_START (t n : Nat) : Fld := ⟨(R.TT_CFG t n), 0, 1⟩
abbrev TT_CFG_ONE_SHOT (t n : Nat) : Fld := ⟨(R.TT_CFG t n), 1, 1⟩
abbrev TT_CFG_PER_MODE (t n : Nat) : Fld := ⟨(R.TT_CFG t n), 2, 1⟩
abbrev TT_PER_PER (t n : Nat) : Fld := ⟨(R.TT_PER t n), 0, 32⟩
abbrev TT_CMP_CMP (t n : Nat) : Fld := ⟨(R.TT_CMP t n), 0, 32⟩
abbrev TT_CNT_COUNT (t n : Nat) : Fld := ⟨(R.TT_CNT t n), 0, 32⟩
abbrev TT_CMD_START (t n : Nat) : Fld := ⟨(R.TT_CMD t n), 0, 1⟩
abbrev TT_CMD_STOP (t n : Nat) : Fld := ⟨(R.TT_CMD t n), 1, 1⟩
abbrev TT_CMD_CLEAR (t n : Nat) : Fld := ⟨(R.TT_CMD t n), 2, 1⟩
abbrev TT_STAT_RUNNING (t n : Nat) : Fld := ⟨(R.TT_STAT t n), 0, 1⟩
abbrev TT_STAT_MATCH_SEEN (t n : Nat) : Fld := ⟨(R.TT_STAT t n), 1, 1⟩
abbrev TT_STAT_END_SEEN (t n : Nat) : Fld := ⟨(R.TT_STAT t n), 2, 1⟩
abbrev TT_STAT_PER_TRUNC (t n : Nat) : Fld := ⟨(R.TT_STAT t n), 3, 1⟩
abbrev TT_STAT_CMP_MISSED_NOW (t n : Nat) : Fld := ⟨(R.TT_STAT t n), 4, 1⟩
abbrev TT_STAT_CMP_UNREACH (t n : Nat) : Fld := ⟨(R.TT_STAT t n), 5, 1⟩
abbrev TT_STAT_FROZEN (t n : Nat) : Fld := ⟨(R.TT_STAT t n), 6, 1⟩
abbrev TT_ROUTE_M_EVT (t n : Nat) : Fld := ⟨(R.TT_ROUTE t n), 0, 1⟩
abbrev TT_ROUTE_E_EVT (t n : Nat) : Fld := ⟨(R.TT_ROUTE t n), 16, 1⟩
abbrev TT_ROUTE_M_BURST (t n : Nat) : Fld := ⟨(R.TT_ROUTE t n), 1, 1⟩
abbrev TT_ROUTE_E_BURST (t n : Nat) : Fld := ⟨(R.TT_ROUTE t n), 17, 1⟩
abbrev TT_ROUTE_M_LREQ (t n : Nat) : Fld := ⟨(R.TT_ROUTE t n), 2, 4⟩
abbrev TT_ROUTE_E_LREQ (t n : Nat) : Fld := ⟨(R.TT_ROUTE t n), 18, 4⟩
abbrev TT_ROUTE_M_TSTART (t n : Nat) : Fld := ⟨(R.TT_ROUTE t n), 6, 4⟩
abbrev TT_ROUTE_E_TSTART (t n : Nat) : Fld := ⟨(R.TT_ROUTE t n), 22, 4⟩
abbrev TT_ROUTE_M_TSTOP (t n : Nat) : Fld := ⟨(R.TT_ROUTE t n), 10, 4⟩
abbrev TT_ROUTE_E_TSTOP (t n : Nat) : Fld := ⟨(R.TT_ROUTE t n), 26, 4⟩
abbrev TT_BURST_CH_MASK (t n : Nat) : Fld := ⟨(R.TT_BURST t n), 0, 16⟩
abbrev TT_BURST_LEN (t n : Nat) : Fld := ⟨(R.TT_BURST t n), 16, 16⟩
abbrev Q_CFG_CT_BYTES (q : Nat) : Fld := ⟨(R.Q_CFG q), 0, 13⟩
abbrev Q_CFG_EVT_N (q : Nat) : Fld := ⟨(R.Q_CFG q), 16, 8⟩
abbrev Q_CFG_CORE_EN (q : Nat) : Fld := ⟨(R.Q_CFG q), 24, 1⟩
abbrev Q_CFG_CORE_HOLD (q : Nat) : Fld := ⟨(R.Q_CFG q), 25, 1⟩
abbrev Q_AUX_LEVEL (q : Nat) : Fld := ⟨(R.Q_AUX q), 0, 16⟩
abbrev Q_BASE_BASE (q : Nat) : Fld := ⟨(R.Q_BASE q), 0, 32⟩
abbrev Q_SIZE_SIZE (q : Nat) : Fld := ⟨(R.Q_SIZE q), 0, 21⟩
abbrev Q_STAT_USED (q : Nat) : Fld := ⟨(R.Q_STAT q), 0, 21⟩
abbrev Q_STAT_RECORDS (q : Nat) : Fld := ⟨(R.Q_STAT q), 21, 11⟩
abbrev Q_EVT_RESET_SEEN (q : Nat) : Fld := ⟨(R.Q_EVT q), 0, 1⟩
abbrev Q_EVT_DROP_SEEN (q : Nat) : Fld := ⟨(R.Q_EVT q), 1, 1⟩
abbrev Q_EVT_ABORT_SEEN (q : Nat) : Fld := ⟨(R.Q_EVT q), 2, 1⟩
abbrev Q_EVT_REFUSED_SEEN (q : Nat) : Fld := ⟨(R.Q_EVT q), 3, 1⟩
abbrev Q_EVT_CRC_SEEN (q : Nat) : Fld := ⟨(R.Q_EVT q), 4, 1⟩
abbrev Q_EVT_STREAMS_SEEN (q : Nat) : Fld := ⟨(R.Q_EVT q), 5, 1⟩
abbrev Q_EVT_THRESH_SEEN (q : Nat) : Fld := ⟨(R.Q_EVT q), 6, 1⟩
abbrev Q_EVT_ROOM_SEEN (q : Nat) : Fld := ⟨(R.Q_EVT q), 7, 1⟩
abbrev Q_CNT0_DROPPED (q : Nat) : Fld := ⟨(R.Q_CNT0 q), 0, 16⟩
abbrev Q_CNT0_RESETS (q : Nat) : Fld := ⟨(R.Q_CNT0 q), 16, 16⟩
abbrev Q_CNT1_ABORTED (q : Nat) : Fld := ⟨(R.Q_CNT1 q), 0, 16⟩
abbrev Q_CNT1_REFUSED (q : Nat) : Fld := ⟨(R.Q_CNT1 q), 16, 8⟩
abbrev Q_CNT1_CRC_ERR (q : Nat) : Fld := ⟨(R.Q_CNT1 q), 24, 8⟩
abbrev Q_TAIL_TAIL (q : Nat) : Fld := ⟨(R.Q_TAIL q), 0, 18⟩
abbrev Q_HEAD_HEAD (q : Nat) : Fld := ⟨(R.Q_HEAD q), 0, 18⟩
abbrev Q_PUSH_ADDR (q : Nat) : Fld := ⟨(R.Q_PUSH q), 0, 32⟩
abbrev Q_PUSH_RES_BUSY (q : Nat) : Fld := ⟨(R.Q_PUSH_RES q), 0, 1⟩
abbrev Q_PUSH_RES_RESULT (q : Nat) : Fld := ⟨(R.Q_PUSH_RES q), 1, 3⟩
abbrev Q_PUSH_RES_SEQ (q : Nat) : Fld := ⟨(R.Q_PUSH_RES q), 16, 16⟩
abbrev Q_POP_ADDR (q : Nat) : Fld := ⟨(R.Q_POP q), 0, 32⟩
abbrev Q_POP_RES_BUSY (q : Nat) : Fld := ⟨(R.Q_POP_RES q), 0, 1⟩
abbrev Q_POP_RES_RESULT (q : Nat) : Fld := ⟨(R.Q_POP_RES q), 1, 2⟩
abbrev Q_POP_RES_LENGTH (q : Nat) : Fld := ⟨(R.Q_POP_RES q), 16, 13⟩
abbrev LAD_STAT_ACTIVE (l : Nat) : Fld := ⟨(R.LAD_STAT l), 0, 4⟩
abbrev LAD_STAT_PENDING (l : Nat) : Fld := ⟨(R.LAD_STAT l), 4, 4⟩
abbrev LAD_EVT_DONE_SEEN (l : Nat) : Fld := ⟨(R.LAD_EVT l), 0, 1⟩
abbrev LAD_EVT_RING_SEEN (l : Nat) : Fld := ⟨(R.LAD_EVT l), 1, 1⟩
abbrev LAD_EVT_DROP_SEEN (l : Nat) : Fld := ⟨(R.LAD_EVT l), 2, 1⟩
abbrev LAD_EVT_ERR_SEEN (l : Nat) : Fld := ⟨(R.LAD_EVT l), 3, 1⟩
abbrev LAD_CNT0_MOVED (l : Nat) : Fld := ⟨(R.LAD_CNT0 l), 0, 32⟩
abbrev LAD_CNT1_DROPPED (l : Nat) : Fld := ⟨(R.LAD_CNT1 l), 0, 16⟩
abbrev LAD_CNT1_ABORTED (l : Nat) : Fld := ⟨(R.LAD_CNT1 l), 16, 16⟩
abbrev LAD_CMD_RUN (l : Nat) : Fld := ⟨(R.LAD_CMD l), 0, 4⟩
abbrev LAD_D_CTL_EN (l d : Nat) : Fld := ⟨(R.LAD_D_CTL l d), 0, 1⟩
abbrev LAD_D_CTL_SRC (l d : Nat) : Fld := ⟨(R.LAD_D_CTL l d), 1, 2⟩
abbrev LAD_D_CTL_DST (l d : Nat) : Fld := ⟨(R.LAD_D_CTL l d), 3, 2⟩
abbrev LAD_D_CTL_SRC_Q (l d : Nat) : Fld := ⟨(R.LAD_D_CTL l d), 5, 6⟩
abbrev LAD_D_CTL_DST_Q (l d : Nat) : Fld := ⟨(R.LAD_D_CTL l d), 11, 6⟩
abbrev LAD_D_CTL_HOLD (l d : Nat) : Fld := ⟨(R.LAD_D_CTL l d), 17, 1⟩
abbrev LAD_D_CTL_TRIGGERED (l d : Nat) : Fld := ⟨(R.LAD_D_CTL l d), 18, 1⟩
abbrev LAD_D_FILTER_TYPES (l d : Nat) : Fld := ⟨(R.LAD_D_FILTER l d), 1, 10⟩
abbrev LAD_D_FILTER_BURST_SAMPLES (l d : Nat) : Fld := ⟨(R.LAD_D_FILTER l d), 11, 1⟩
abbrev LAD_D_FILTER_CH_MASK (l d : Nat) : Fld := ⟨(R.LAD_D_FILTER l d), 16, 16⟩
abbrev LAD_D_RING_BASE_BASE (l d : Nat) : Fld := ⟨(R.LAD_D_RING_BASE l d), 0, 32⟩
abbrev LAD_D_RING_SIZE_SIZE (l d : Nat) : Fld := ⟨(R.LAD_D_RING_SIZE l d), 0, 25⟩
abbrev LAD_D_RING_WR_WR (l d : Nat) : Fld := ⟨(R.LAD_D_RING_WR l d), 0, 24⟩
abbrev LAD_D_RING_RD_RD (l d : Nat) : Fld := ⟨(R.LAD_D_RING_RD l d), 0, 24⟩
abbrev LAD_D_TARGET_DEST (l d : Nat) : Fld := ⟨(R.LAD_D_TARGET l d), 0, 5⟩
abbrev LAD_D_TARGET_BCAST (l d : Nat) : Fld := ⟨(R.LAD_D_TARGET l d), 5, 1⟩
abbrev LAD_D_TARGET_RING_EVT (l d : Nat) : Fld := ⟨(R.LAD_D_TARGET l d), 16, 16⟩
abbrev LAD_D_CNT_MOVED (l d : Nat) : Fld := ⟨(R.LAD_D_CNT l d), 0, 32⟩
abbrev MEM_CFG_RATE_LIMIT : Fld := ⟨R.MEM_CFG, 0, 16⟩
abbrev MEM_EVT_SEEN : Fld := ⟨R.MEM_EVT, 0, 8⟩
abbrev MEMM_STAT_SCRUBBING (m : Nat) : Fld := ⟨(R.MEMM_STAT m), 0, 1⟩
abbrev MEMM_STAT_POISONED (m : Nat) : Fld := ⟨(R.MEMM_STAT m), 1, 1⟩
abbrev MEMM_STAT_PASSES (m : Nat) : Fld := ⟨(R.MEMM_STAT m), 16, 16⟩
abbrev MEMM_CNT_CORRECTED (m : Nat) : Fld := ⟨(R.MEMM_CNT m), 0, 16⟩
abbrev MEMM_CNT_REBUILT (m : Nat) : Fld := ⟨(R.MEMM_CNT m), 16, 16⟩
abbrev MEMM_UE_UNCORRECTABLE (m : Nat) : Fld := ⟨(R.MEMM_UE m), 0, 16⟩
abbrev MEMM_UE_ADDR_ADDR (m : Nat) : Fld := ⟨(R.MEMM_UE_ADDR m), 0, 32⟩
abbrev MEMM_UE_LT_LO (m : Nat) : Fld := ⟨(R.MEMM_UE_LT_LO m), 0, 32⟩
abbrev MEMM_UE_LT_HI (m : Nat) : Fld := ⟨(R.MEMM_UE_LT_HI m), 0, 32⟩
abbrev KEY_CFG_ON_INSERT : Fld := ⟨R.KEY_CFG, 0, 2⟩
abbrev KEY_CFG_AUTO_CYCLE : Fld := ⟨R.KEY_CFG, 2, 1⟩
abbrev KEY_STAT_PRESENT : Fld := ⟨R.KEY_STAT, 0, 1⟩
abbrev KEY_STAT_STATE : Fld := ⟨R.KEY_STAT, 1, 3⟩
abbrev KEY_STAT_BANK : Fld := ⟨R.KEY_STAT, 4, 1⟩
abbrev KEY_STAT_ATTEMPTS : Fld := ⟨R.KEY_STAT, 5, 2⟩
abbrev KEY_STAT_SCL : Fld := ⟨R.KEY_STAT, 7, 1⟩
abbrev KEY_STAT_SDA : Fld := ⟨R.KEY_STAT, 8, 1⟩
abbrev KEY_EVT_INSERT_SEEN : Fld := ⟨R.KEY_EVT, 0, 1⟩
abbrev KEY_EVT_REMOVE_SEEN : Fld := ⟨R.KEY_EVT, 1, 1⟩
abbrev KEY_EVT_LOAD_SEEN : Fld := ⟨R.KEY_EVT, 2, 1⟩
abbrev KEY_EVT_REFUSED_SEEN : Fld := ⟨R.KEY_EVT, 3, 1⟩
abbrev KEY_EVT_HUNG_SEEN : Fld := ⟨R.KEY_EVT, 4, 1⟩
abbrev KEY_EVT_RETRY_SEEN : Fld := ⟨R.KEY_EVT, 5, 1⟩
abbrev KEY_CMD_STAGE : Fld := ⟨R.KEY_CMD, 0, 1⟩
abbrev KEY_CMD_POWER_CYCLE : Fld := ⟨R.KEY_CMD, 1, 1⟩
abbrev KEY_CMD_CHANGEOVER : Fld := ⟨R.KEY_CMD, 2, 1⟩
abbrev KEY_RESULT_CODE : Fld := ⟨R.KEY_RESULT, 0, 8⟩
abbrev KEY_RESULT_SECTION : Fld := ⟨R.KEY_RESULT, 8, 8⟩
abbrev KEY_RESULT_STAGING : Fld := ⟨R.KEY_RESULT, 16, 1⟩
abbrev KEY_RESULT_ADDR_ADDR : Fld := ⟨R.KEY_RESULT_ADDR, 0, 32⟩
abbrev KEY_GEN_GEN : Fld := ⟨R.KEY_GEN, 0, 16⟩
abbrev KEY_IMAGE_IMAGE_LEN : Fld := ⟨R.KEY_IMAGE, 0, 20⟩
abbrev KEY_IMAGE_NSECT : Fld := ⟨R.KEY_IMAGE, 20, 7⟩
abbrev KEY_IMAGE_SIGNED : Fld := ⟨R.KEY_IMAGE, 27, 1⟩
abbrev KEY_IMAGE_TRUSTED : Fld := ⟨R.KEY_IMAGE, 28, 1⟩
abbrev KEY_HDR_CRC : Fld := ⟨R.KEY_HDR_CRC, 0, 32⟩
abbrev KEY_STAGED_CRC : Fld := ⟨R.KEY_STAGED_CRC, 0, 32⟩
abbrev KEY_STORE_BASE : Fld := ⟨R.KEY_STORE, 0, 32⟩
abbrev KEY_CNT_LOADS : Fld := ⟨R.KEY_CNT, 0, 8⟩
abbrev KEY_CNT_REFUSALS : Fld := ⟨R.KEY_CNT, 8, 8⟩
abbrev KEY_CNT_HANGS : Fld := ⟨R.KEY_CNT, 16, 8⟩
abbrev KEY_CNT_CYCLES : Fld := ⟨R.KEY_CNT, 24, 8⟩
abbrev KEY_LOAD_LT_LO : Fld := ⟨R.KEY_LOAD_LT_LO, 0, 32⟩
abbrev KEY_LOAD_LT_HI : Fld := ⟨R.KEY_LOAD_LT_HI, 0, 32⟩
abbrev KEY_NAME (w : Nat) : Fld := ⟨(R.KEY_NAME w), 0, 32⟩
abbrev KEY_VER : Fld := ⟨R.KEY_VER, 0, 32⟩
abbrev TW_CFG_RATE (p : Nat) : Fld := ⟨(R.TW_CFG p), 0, 2⟩
abbrev TW_CFG_SUP_V (p : Nat) : Fld := ⟨(R.TW_CFG p), 2, 1⟩
abbrev TW_CFG_SUP_EN (p : Nat) : Fld := ⟨(R.TW_CFG p), 3, 1⟩
abbrev TW_CFG_PULLUP (p : Nat) : Fld := ⟨(R.TW_CFG p), 4, 1⟩
abbrev TW_CFG_AUTO_CYCLE (p : Nat) : Fld := ⟨(R.TW_CFG p), 5, 1⟩
abbrev TW_CFG_STARTUP_MS (p : Nat) : Fld := ⟨(R.TW_CFG p), 6, 8⟩
abbrev TW_CFG_STRETCH_MS (p : Nat) : Fld := ⟨(R.TW_CFG p), 14, 8⟩
abbrev TW_CTL_LAST (p : Nat) : Fld := ⟨(R.TW_CTL p), 0, 4⟩
abbrev TW_CTL_CONT (p : Nat) : Fld := ⟨(R.TW_CTL p), 4, 1⟩
abbrev TW_CTL_GO (p : Nat) : Fld := ⟨(R.TW_CTL p), 5, 1⟩
abbrev TW_CTL_POWER_CYCLE (p : Nat) : Fld := ⟨(R.TW_CTL p), 6, 1⟩
abbrev TW_STAT_STATE (p : Nat) : Fld := ⟨(R.TW_STAT p), 0, 3⟩
abbrev TW_STAT_SCL (p : Nat) : Fld := ⟨(R.TW_STAT p), 3, 1⟩
abbrev TW_STAT_SDA (p : Nat) : Fld := ⟨(R.TW_STAT p), 4, 1⟩
abbrev TW_STAT_CAUSE (p : Nat) : Fld := ⟨(R.TW_STAT p), 5, 2⟩
abbrev TW_STAT_ATTEMPTS (p : Nat) : Fld := ⟨(R.TW_STAT p), 7, 2⟩
abbrev TW_STAT_AUTO_SPENT (p : Nat) : Fld := ⟨(R.TW_STAT p), 9, 1⟩
abbrev TW_STAT_CUR (p : Nat) : Fld := ⟨(R.TW_STAT p), 10, 4⟩
abbrev TW_EVT_DONE_SEEN (p : Nat) : Fld := ⟨(R.TW_EVT p), 0, 1⟩
abbrev TW_EVT_ERR_SEEN (p : Nat) : Fld := ⟨(R.TW_EVT p), 1, 1⟩
abbrev TW_EVT_HUNG_SEEN (p : Nat) : Fld := ⟨(R.TW_EVT p), 2, 1⟩
abbrev TW_EVT_TRIP_SEEN (p : Nat) : Fld := ⟨(R.TW_EVT p), 3, 1⟩
abbrev TW_EVT_CYCLE_OK_SEEN (p : Nat) : Fld := ⟨(R.TW_EVT p), 4, 1⟩
abbrev TW_EVT_CYCLE_FAIL_SEEN (p : Nat) : Fld := ⟨(R.TW_EVT p), 5, 1⟩
abbrev TW_CNT0_TRANSFERS (p : Nat) : Fld := ⟨(R.TW_CNT0 p), 0, 16⟩
abbrev TW_CNT0_ERRORS (p : Nat) : Fld := ⟨(R.TW_CNT0 p), 16, 16⟩
abbrev TW_CNT1_HANGS (p : Nat) : Fld := ⟨(R.TW_CNT1 p), 0, 8⟩
abbrev TW_CNT1_CYCLES (p : Nat) : Fld := ⟨(R.TW_CNT1 p), 8, 8⟩
abbrev TW_CNT1_REFUSED (p : Nat) : Fld := ⟨(R.TW_CNT1 p), 16, 8⟩
abbrev TW_HANG_LT_LO (p : Nat) : Fld := ⟨(R.TW_HANG_LT_LO p), 0, 32⟩
abbrev TW_HANG_LT_HI (p : Nat) : Fld := ⟨(R.TW_HANG_LT_HI p), 0, 32⟩
abbrev TW_XFER_ADDR (p x : Nat) : Fld := ⟨(R.TW_XFER p x), 0, 7⟩
abbrev TW_XFER_WLEN (p x : Nat) : Fld := ⟨(R.TW_XFER p x), 8, 8⟩
abbrev TW_XFER_RLEN (p x : Nat) : Fld := ⟨(R.TW_XFER p x), 16, 8⟩
abbrev TW_XFER_BOFF (p x : Nat) : Fld := ⟨(R.TW_XFER p x), 24, 8⟩
abbrev TW_XFER_RES_RESULT (p x : Nat) : Fld := ⟨(R.TW_XFER_RES p x), 0, 4⟩
abbrev TW_XFER_RES_BYTES (p x : Nat) : Fld := ⟨(R.TW_XFER_RES p x), 4, 8⟩
abbrev TW_BUF (p w : Nat) : Fld := ⟨(R.TW_BUF p w), 0, 32⟩
abbrev HOST_CFG_RTO_MS : Fld := ⟨R.HOST_CFG, 0, 8⟩
abbrev HOST_CFG_SESSION_S : Fld := ⟨R.HOST_CFG, 8, 6⟩
abbrev HOST_CFG_HB_BCAST : Fld := ⟨R.HOST_CFG, 14, 1⟩
abbrev HOST_CFG_PARK_MS : Fld := ⟨R.HOST_CFG, 16, 8⟩
abbrev HOST_BATCH_BATCH_MAX : Fld := ⟨R.HOST_BATCH, 0, 15⟩
abbrev HOST_BATCH_BATCH_TIME : Fld := ⟨R.HOST_BATCH, 16, 14⟩
abbrev HOST_STORE_BASE_BASE : Fld := ⟨R.HOST_STORE_BASE, 0, 32⟩
abbrev HOST_STORE_SIZE_CTRL_SIZE : Fld := ⟨R.HOST_STORE_SIZE, 0, 9⟩
abbrev HOST_STORE_SIZE_RAW_SIZE : Fld := ⟨R.HOST_STORE_SIZE, 16, 9⟩
abbrev HOST_PAIR_PAIR : Fld := ⟨R.HOST_PAIR, 0, 32⟩
abbrev HOST_WAKE_CFG_FILL_PCT : Fld := ⟨R.HOST_WAKE_CFG, 0, 7⟩
abbrev HOST_WAKE_CFG_PACKET_EN : Fld := ⟨R.HOST_WAKE_CFG, 7, 1⟩
abbrev HOST_WAKE_CFG_PIN_EN : Fld := ⟨R.HOST_WAKE_CFG, 8, 1⟩
abbrev HOST_WAKE_CFG_PIN_MS : Fld := ⟨R.HOST_WAKE_CFG, 16, 8⟩
abbrev HOST_WAKE_CFG_REPEAT_S : Fld := ⟨R.HOST_WAKE_CFG, 24, 8⟩
abbrev HOST_WAKE_MAC_LO : Fld := ⟨R.HOST_WAKE_MAC_LO, 0, 32⟩
abbrev HOST_WAKE_MAC_HI : Fld := ⟨R.HOST_WAKE_MAC_HI, 0, 16⟩
abbrev HOST_STAT_SPEED : Fld := ⟨R.HOST_STAT, 0, 2⟩
abbrev HOST_STAT_ADDR_OK : Fld := ⟨R.HOST_STAT, 2, 1⟩
abbrev HOST_STAT_ADDR_CONFLICT : Fld := ⟨R.HOST_STAT, 3, 1⟩
abbrev HOST_STAT_SESSION : Fld := ⟨R.HOST_STAT, 4, 2⟩
abbrev HOST_STAT_WAKING : Fld := ⟨R.HOST_STAT, 6, 1⟩
abbrev HOST_STAT_WAKE_PIN : Fld := ⟨R.HOST_STAT, 7, 1⟩
abbrev HOST_STAT_PARKED : Fld := ⟨R.HOST_STAT, 8, 7⟩
abbrev HOST_STAT_OUTSTANDING : Fld := ⟨R.HOST_STAT, 16, 7⟩
abbrev HOST_EVT_LINK_SEEN : Fld := ⟨R.HOST_EVT, 0, 1⟩
abbrev HOST_EVT_SESSION_SEEN : Fld := ⟨R.HOST_EVT, 1, 1⟩
abbrev HOST_EVT_REQUEST_SEEN : Fld := ⟨R.HOST_EVT, 2, 1⟩
abbrev HOST_EVT_RETX_SEEN : Fld := ⟨R.HOST_EVT, 3, 1⟩
abbrev HOST_EVT_DROP_SEEN : Fld := ⟨R.HOST_EVT, 4, 1⟩
abbrev HOST_EVT_WAKE_SEEN : Fld := ⟨R.HOST_EVT, 5, 1⟩
abbrev HOST_EVT_BAD_SEEN : Fld := ⟨R.HOST_EVT, 6, 1⟩
abbrev HOST_EVT_CONFLICT_SEEN : Fld := ⟨R.HOST_EVT, 7, 1⟩
abbrev HOST_CMD_WAKE : Fld := ⟨R.HOST_CMD, 0, 1⟩
abbrev HOST_CMD_CLOSE : Fld := ⟨R.HOST_CMD, 1, 1⟩
abbrev HOST_MAC_LO : Fld := ⟨R.HOST_MAC_LO, 0, 32⟩
abbrev HOST_MAC_HI : Fld := ⟨R.HOST_MAC_HI, 0, 16⟩
abbrev HOST_IP : Fld := ⟨R.HOST_IP, 0, 32⟩
abbrev HOST_MASK : Fld := ⟨R.HOST_MASK, 0, 32⟩
abbrev HOST_GW : Fld := ⟨R.HOST_GW, 0, 32⟩
abbrev HOST_PEER_IP_ADDR : Fld := ⟨R.HOST_PEER_IP, 0, 32⟩
abbrev HOST_PEER_PORT : Fld := ⟨R.HOST_PEER, 0, 16⟩
abbrev HOST_PEER_WINDOW : Fld := ⟨R.HOST_PEER, 16, 7⟩
abbrev HOST_SESSION_SESSION : Fld := ⟨R.HOST_SESSION, 0, 32⟩
abbrev HOST_BOOT_ID_BOOT_ID : Fld := ⟨R.HOST_BOOT_ID, 0, 32⟩
abbrev HOST_NEXT_BSEQ : Fld := ⟨R.HOST_NEXT_BSEQ, 0, 32⟩
abbrev HOST_CUM_BSEQ : Fld := ⟨R.HOST_CUM_BSEQ, 0, 32⟩
abbrev HOST_CTRL_FILL : Fld := ⟨R.HOST_CTRL_FILL, 0, 32⟩
abbrev HOST_RAW_FILL : Fld := ⟨R.HOST_RAW_FILL, 0, 32⟩
abbrev HOST_CNT0_RETX : Fld := ⟨R.HOST_CNT0, 0, 16⟩
abbrev HOST_CNT0_BAD_DGRAM : Fld := ⟨R.HOST_CNT0, 16, 16⟩
abbrev HOST_CNT1_SESSIONS : Fld := ⟨R.HOST_CNT1, 0, 16⟩
abbrev HOST_CNT1_REQUESTS : Fld := ⟨R.HOST_CNT1, 16, 16⟩
abbrev HOST_CNT2_PARK_EXPIRED : Fld := ⟨R.HOST_CNT2, 0, 16⟩
abbrev HOST_CNT2_LATE_CYCLE_DROPS : Fld := ⟨R.HOST_CNT2, 16, 16⟩
abbrev HOST_CNT3_WAKE_ATTEMPTS : Fld := ⟨R.HOST_CNT3, 0, 16⟩
abbrev HOST_CNT3_NO_MAC : Fld := ⟨R.HOST_CNT3, 16, 16⟩
abbrev PWR_REQ_T : Fld := ⟨R.PWR_REQ_T, 0, 32⟩
abbrev PWR_REQ_H : Fld := ⟨R.PWR_REQ_H, 0, 8⟩
abbrev PWR_CMD_GO : Fld := ⟨R.PWR_CMD, 0, 1⟩
abbrev PWR_STAT_BUSY : Fld := ⟨R.PWR_STAT, 0, 1⟩
abbrev PWR_STAT_PHASE : Fld := ⟨R.PWR_STAT, 1, 2⟩
abbrev PWR_STAT_ASKED : Fld := ⟨R.PWR_STAT, 3, 5⟩
abbrev PWR_STAT_RESULT : Fld := ⟨R.PWR_STAT, 8, 2⟩
abbrev PWR_STATE_T : Fld := ⟨R.PWR_STATE_T, 0, 32⟩
abbrev PWR_STATE_H : Fld := ⟨R.PWR_STATE_H, 0, 8⟩
abbrev PWR_EVT_DONE_SEEN : Fld := ⟨R.PWR_EVT, 0, 1⟩
abbrev PWR_EVT_LINK_FAULT_SEEN : Fld := ⟨R.PWR_EVT, 1, 1⟩
abbrev PWR_EVT_REFUSED_SEEN : Fld := ⟨R.PWR_EVT, 2, 1⟩
abbrev PWR_EVT_SUPPLY_SEEN : Fld := ⟨R.PWR_EVT, 3, 1⟩
abbrev PWR_EVT_WAKE_SEEN : Fld := ⟨R.PWR_EVT, 4, 1⟩
abbrev PWR_EVT_THROTTLE_SEEN : Fld := ⟨R.PWR_EVT, 5, 1⟩
abbrev PWR_EVT_BACKLOG_SEEN : Fld := ⟨R.PWR_EVT, 6, 1⟩
abbrev PWR_EVT_POWER_SEEN : Fld := ⟨R.PWR_EVT, 7, 1⟩
abbrev PWR_CFG_AGREE_MS : Fld := ⟨R.PWR_CFG, 0, 8⟩
abbrev PWR_REFUSE_COUNT_REFUSALS : Fld := ⟨R.PWR_REFUSE_COUNT, 0, 16⟩
abbrev PWR_REFUSE_COUNT_ENTRIES : Fld := ⟨R.PWR_REFUSE_COUNT, 16, 16⟩
abbrev PWR_REFUSER_DOMAIN : Fld := ⟨R.PWR_REFUSER, 0, 5⟩
abbrev PWR_REFUSER_REASON : Fld := ⟨R.PWR_REFUSER, 5, 4⟩
abbrev PWR_LAST_WAKE_SOURCE : Fld := ⟨R.PWR_LAST_WAKE, 0, 4⟩
abbrev PWR_LAST_WAKE_UNIT : Fld := ⟨R.PWR_LAST_WAKE, 4, 5⟩
abbrev PWR_LAST_WAKE_WAKES : Fld := ⟨R.PWR_LAST_WAKE, 16, 16⟩
abbrev PWR_WAKE_EN_EN : Fld := ⟨R.PWR_WAKE_EN, 0, 10⟩
abbrev PWR_WAKE_ON_HUB : Fld := ⟨R.PWR_WAKE_ON, 0, 1⟩
abbrev PWR_WAKE_ON_ON : Fld := ⟨R.PWR_WAKE_ON, 1, 19⟩
abbrev PWR_WAKE_IN_IN : Fld := ⟨R.PWR_WAKE_IN, 0, 24⟩
abbrev PWR_WAKE_INEDGE_EDGE : Fld := ⟨R.PWR_WAKE_INEDGE, 0, 24⟩
abbrev PWR_WAKE_TICKS_LO : Fld := ⟨R.PWR_WAKE_TICKS_LO, 0, 32⟩
abbrev PWR_WAKE_TICKS_HI : Fld := ⟨R.PWR_WAKE_TICKS_HI, 0, 16⟩
abbrev PWR_TILE_REFUSE_REFUSALS (t : Nat) : Fld := ⟨(R.PWR_TILE_REFUSE t), 0, 16⟩
abbrev PWR_TILE_REFUSE_REASON (t : Nat) : Fld := ⟨(R.PWR_TILE_REFUSE t), 16, 4⟩
abbrev PWR_TILE_REFUSE_PART (t : Nat) : Fld := ⟨(R.PWR_TILE_REFUSE t), 20, 3⟩
abbrev PWR_SUPPLY_VIN : Fld := ⟨R.PWR_SUPPLY, 0, 12⟩
abbrev PWR_SUPPLY_PIN : Fld := ⟨R.PWR_SUPPLY, 12, 16⟩
abbrev PWR_STAGE_FLAGS : Fld := ⟨R.PWR_STAGE, 0, 6⟩
abbrev PWR_STAGE_LINK_OK : Fld := ⟨R.PWR_STAGE, 6, 1⟩
abbrev PWR_STAGE_TEMP : Fld := ⟨R.PWR_STAGE, 8, 8⟩
abbrev PWR_LINK_CNT_RETRIES : Fld := ⟨R.PWR_LINK_CNT, 0, 16⟩
abbrev PWR_LINK_CNT_FAULTS : Fld := ⟨R.PWR_LINK_CNT, 16, 16⟩
abbrev PWR_THR_CNT_ENTRIES1 : Fld := ⟨R.PWR_THR_CNT, 0, 16⟩
abbrev PWR_THR_CNT_ENTRIES2 : Fld := ⟨R.PWR_THR_CNT, 16, 16⟩
abbrev PWR_THR_US1_US : Fld := ⟨R.PWR_THR_US1, 0, 32⟩
abbrev PWR_THR_US2_US : Fld := ⟨R.PWR_THR_US2, 0, 32⟩
abbrev PWR_BOOT_STEP : Fld := ⟨R.PWR_BOOT, 0, 3⟩
abbrev PWR_BOOT_TRIES : Fld := ⟨R.PWR_BOOT, 3, 2⟩
abbrev PWR_BOOT_FAILED : Fld := ⟨R.PWR_BOOT, 5, 3⟩
abbrev MOD_STATUS_MODE : Fld := ⟨R.MOD_STATUS, 0, 4⟩
abbrev MOD_STATUS_RECIPE : Fld := ⟨R.MOD_STATUS, 4, 1⟩
abbrev MOD_STATUS_FLAGS : Fld := ⟨R.MOD_STATUS, 18, 10⟩
abbrev MOD_CFG_AUTO_WATCH : Fld := ⟨R.MOD_CFG, 0, 1⟩
abbrev MOD_CFG_WATCH_SRC : Fld := ⟨R.MOD_CFG, 1, 3⟩
abbrev MOD_CFG_WATCH_S : Fld := ⟨R.MOD_CFG, 4, 8⟩
abbrev MOD_CFG_HOLD_S : Fld := ⟨R.MOD_CFG, 12, 8⟩
abbrev MOD_CMD_WATCH_ON : Fld := ⟨R.MOD_CMD, 0, 1⟩
abbrev MOD_CMD_WATCH_OFF : Fld := ⟨R.MOD_CMD, 1, 1⟩
abbrev MOD_WATCH_MEASURE : Fld := ⟨R.MOD_WATCH, 0, 8⟩
abbrev MOD_WATCH_LOW_OFF : Fld := ⟨R.MOD_WATCH, 8, 8⟩
abbrev MOD_WATCH_RATE_MIN : Fld := ⟨R.MOD_WATCH, 16, 5⟩
abbrev MOD_TILE_STATE (t : Nat) : Fld := ⟨R.MOD_TILE, 2 * t, 2⟩
abbrev MOD_TILE_KEEP : Fld := ⟨R.MOD_TILE, 16, 8⟩
abbrev MOD_CO_ACTIVE : Fld := ⟨R.MOD_CO, 0, 1⟩
abbrev MOD_CO_HUB_DONE : Fld := ⟨R.MOD_CO, 1, 1⟩
abbrev MOD_CO_TILE : Fld := ⟨R.MOD_CO, 2, 3⟩
abbrev MOD_CO_TODO : Fld := ⟨R.MOD_CO, 5, 8⟩
abbrev MOD_CO_DONE : Fld := ⟨R.MOD_CO, 13, 8⟩
abbrev MOD_ENTER_LT_LO : Fld := ⟨R.MOD_ENTER_LT_LO, 0, 32⟩
abbrev MOD_ENTER_LT_HI : Fld := ⟨R.MOD_ENTER_LT_HI, 0, 32⟩
abbrev MOD_CNT_CHANGEOVERS : Fld := ⟨R.MOD_CNT, 0, 16⟩
abbrev MOD_CNT_FAULT_HOLDS : Fld := ⟨R.MOD_CNT, 16, 16⟩
abbrev LOG_CFG_REC_EN : Fld := ⟨R.LOG_CFG, 0, 1⟩
abbrev LOG_CFG_HUBQ : Fld := ⟨R.LOG_CFG, 1, 4⟩
abbrev LOG_STAT_HELD : Fld := ⟨R.LOG_STAT, 0, 12⟩
abbrev LOG_STAT_WRAPPED : Fld := ⟨R.LOG_STAT, 12, 1⟩
abbrev LOG_STAT_USER_DROPPED : Fld := ⟨R.LOG_STAT, 16, 16⟩
abbrev LOG_NEXT_INDEX : Fld := ⟨R.LOG_NEXT, 0, 32⟩
abbrev LOG_OLDEST_INDEX : Fld := ⟨R.LOG_OLDEST, 0, 32⟩
abbrev LOG_OVERWRITES_COUNT : Fld := ⟨R.LOG_OVERWRITES, 0, 32⟩
abbrev LOG_SEL_INDEX : Fld := ⟨R.LOG_SEL, 0, 32⟩
abbrev LOG_SEL_RES_HELD : Fld := ⟨R.LOG_SEL_RES, 0, 1⟩
abbrev LOG_SEL_RES_LOST : Fld := ⟨R.LOG_SEL_RES, 1, 1⟩
abbrev LOG_DATA (w : Nat) : Fld := ⟨(R.LOG_DATA w), 0, 32⟩
abbrev LOG_USER_D (w : Nat) : Fld := ⟨(R.LOG_USER_D w), 0, 32⟩
abbrev LOG_USER_CMD_WRITE : Fld := ⟨R.LOG_USER_CMD, 0, 1⟩
abbrev LOG_EVT_WRAP_SEEN : Fld := ⟨R.LOG_EVT, 0, 1⟩
abbrev LOG_EVT_LOST_SEEN : Fld := ⟨R.LOG_EVT, 1, 1⟩
abbrev EVT_SEEN_LO_SEEN : Fld := ⟨R.EVT_SEEN_LO, 0, 32⟩
abbrev EVT_SEEN_HI_SEEN : Fld := ⟨R.EVT_SEEN_HI, 0, 32⟩
abbrev FLT_STAT_RESTART_CAUSE : Fld := ⟨R.FLT_STAT, 0, 3⟩
abbrev FLT_STAT_HOLD_CAUSE : Fld := ⟨R.FLT_STAT, 3, 4⟩
abbrev FLT_STAT_SNAP_BUSY : Fld := ⟨R.FLT_STAT, 7, 1⟩
abbrev FLT_SNAP_ADDR : Fld := ⟨R.FLT_SNAP, 0, 32⟩
abbrev FLT_WARM_SERVICE : Fld := ⟨R.FLT_WARM, 0, 8⟩
abbrev FLT_WARM_HOLD_TIMEOUT : Fld := ⟨R.FLT_WARM, 8, 8⟩
abbrev FLT_WARM_PLL_NO_RELOCK : Fld := ⟨R.FLT_WARM, 16, 8⟩
abbrev FLT_WARM_COMMISSION : Fld := ⟨R.FLT_WARM, 24, 8⟩
abbrev FLT_TILE_RESTARTS (t : Nat) : Fld := ⟨(R.FLT_TILE t), 0, 8⟩
abbrev FLT_TILE_LAST_CAUSE (t : Nat) : Fld := ⟨(R.FLT_TILE t), 8, 3⟩
abbrev FLT_TILE_WINDOW (t : Nat) : Fld := ⟨(R.FLT_TILE t), 11, 2⟩
abbrev EVT_CNT_RAISED (n : Nat) : Fld := ⟨(R.EVT_CNT n), 0, 16⟩
abbrev SVC_CFG_DEGRADED_OK : Fld := ⟨R.SVC_CFG, 0, 1⟩
abbrev SVC_CFG_CHANGEOVER_OK : Fld := ⟨R.SVC_CFG, 1, 1⟩
abbrev SVC_CFG_WATCH_OK : Fld := ⟨R.SVC_CFG, 2, 1⟩
abbrev SVC_CFG_KICK_MS : Fld := ⟨R.SVC_CFG, 8, 16⟩
abbrev SVC_STAT_HEALTHY : Fld := ⟨R.SVC_STAT, 0, 1⟩
abbrev SVC_STAT_TAKEN : Fld := ⟨R.SVC_STAT, 1, 1⟩
abbrev SVC_STAT_ENABLE : Fld := ⟨R.SVC_STAT, 2, 1⟩
abbrev SVC_STAT_BURNING : Fld := ⟨R.SVC_STAT, 3, 1⟩
abbrev SVC_STAT_PAGE : Fld := ⟨R.SVC_STAT, 4, 3⟩
abbrev SVC_EVT_TAKE_SEEN : Fld := ⟨R.SVC_EVT, 0, 1⟩
abbrev SVC_EVT_COMMISSION_SEEN : Fld := ⟨R.SVC_EVT, 1, 1⟩
abbrev SVC_EVT_RESET_REQ_SEEN : Fld := ⟨R.SVC_EVT, 2, 1⟩
abbrev SVC_EVT_WRITE_SEEN : Fld := ⟨R.SVC_EVT, 3, 1⟩
abbrev SVC_EVT_RELEASE_SEEN : Fld := ⟨R.SVC_EVT, 4, 1⟩
abbrev SVC_KICK_KICK : Fld := ⟨R.SVC_KICK, 0, 1⟩
abbrev SVC_CNT_TRANSFERS : Fld := ⟨R.SVC_CNT, 0, 16⟩
abbrev SVC_CNT_BAD_CMD : Fld := ⟨R.SVC_CNT, 16, 8⟩
abbrev SVC_CNT_RELEASES : Fld := ⟨R.SVC_CNT, 24, 8⟩
abbrev COM_ID_LINE_ADDR : Fld := ⟨R.COM_ID, 0, 5⟩
abbrev COM_ID_HERD_ROLE : Fld := ⟨R.COM_ID, 5, 2⟩
abbrev COM_HOST_IP : Fld := ⟨R.COM_HOST_IP, 0, 32⟩
abbrev COM_HOST_MASK : Fld := ⟨R.COM_HOST_MASK, 0, 32⟩
abbrev COM_HOST_GW : Fld := ⟨R.COM_HOST_GW, 0, 32⟩
abbrev COM_TRUST_KEY (w : Nat) : Fld := ⟨(R.COM_TRUST_KEY w), 0, 32⟩
abbrev COM_OUT_SENSE_OUT_SENSE : Fld := ⟨R.COM_OUT_SENSE, 0, 24⟩
abbrev COM_USED_USED (w : Nat) : Fld := ⟨R.COM_USED, 4 * w, 4⟩
abbrev COM_USED_IP_SET : Fld := ⟨R.COM_USED, 20, 1⟩
abbrev COM_USED_TRUST_SET : Fld := ⟨R.COM_USED, 21, 1⟩

end F

/-- One row of the register table: where its instances lie (base, then (count, stride) of each index, the widest stride
first), which bits read back, which of them a write clears with 1, which a write sets, which only the key loader
writes, which are commands (write only), and the reset word. -/
structure RegRow where
  base : Nat
  dims : List (Nat × Nat)
  impl : Nat
  w1c : Nat
  rw : Nat
  lk : Nat
  wo : Nat
  reset : Nat
  deriving DecidableEq, Repr

/-- `d` is the offset of an instance of a register with these index dimensions. -/
def inDims : Nat → List (Nat × Nat) → Bool
  | d, [] => d == 0
  | d, (n, st) :: t => Nat.blt (d / st) n && inDims (d % st) t

/-- Row `r` describes the register at address `a`. -/
def RegRow.covers (r : RegRow) (a : Nat) : Bool := Nat.ble r.base a && inDims (a - r.base) r.dims

/-- The registers of this block (`cell`), one row each. -/
def cellRows : List RegRow := [
  ⟨0x40000000, [(8, 0x100000), (4, 0x400)], 0x11FFF3F, 0x0, 0x0, 0x11FFF3F, 0x0, 0x3200⟩, -- CELL_CFG
  ⟨0x40000004, [(8, 0x100000), (4, 0x400)], 0xFFF0FFF, 0x0, 0x0, 0xFFF0FFF, 0x0, 0x0⟩, -- CELL_ISRC
  ⟨0x40000008, [(8, 0x100000), (4, 0x400)], 0xFFFFFFF, 0x0, 0x0, 0xFFFFFFF, 0x0, 0x140010A⟩, -- CELL_EXC_TOL
  ⟨0x4000000C, [(8, 0x100000), (4, 0x400)], 0xFFFFFF, 0x0, 0x0, 0xFFFFFF, 0x0, 0x0⟩, -- CELL_EXC_LIM
  ⟨0x40000010, [(8, 0x100000), (4, 0x400)], 0xFFFF, 0x0, 0x0, 0xFFFF, 0x0, 0x0⟩, -- CELL_USE
  ⟨0x40000014, [(8, 0x100000), (4, 0x400)], 0x1FFFF, 0x0, 0x0, 0x0, 0x0, 0x0⟩, -- CELL_CJ
  ⟨0x40000018, [(8, 0x100000), (4, 0x400)], 0xFFFFFF, 0x0, 0x0, 0x0, 0x0, 0x0⟩, -- CELL_EXC_STAT
  ⟨0x4000001C, [(8, 0x100000), (4, 0x400)], 0xFF07FE, 0xFF07FE, 0x0, 0x0, 0x0, 0x0⟩, -- CELL_EXC_EVT
  ⟨0x40000020, [(8, 0x100000), (4, 0x400)], 0xFFFFFFFF, 0x0, 0x0, 0x0, 0x0, 0x0⟩, -- CELL_EXC_CNT
  ⟨0x40000024, [(8, 0x100000), (4, 0x400)], 0x3FFFFF, 0x0, 0x0, 0x0, 0x0, 0x0⟩, -- CELL_ISA_MEAS
  ⟨0x40000028, [(8, 0x100000), (4, 0x400)], 0x3FFFFF, 0x0, 0x0, 0x0, 0x0, 0x0⟩, -- CELL_ISB_MEAS
  ⟨0x4000002C, [(8, 0x100000), (4, 0x400)], 0xFFFFFFFF, 0x0, 0x0, 0x0, 0x0, 0x0⟩, -- CELL_BV_MEAS
  ⟨0x40000030, [(8, 0x100000), (4, 0x400)], 0xFFFFFFFF, 0x0, 0x0, 0x0, 0x0, 0x0⟩, -- CELL_HEAD
  ⟨0x40000100, [(8, 0x100000), (4, 0x400), (16, 0x10)], 0xFFFFFFFF, 0x0, 0x0, 0xFFFFFFFF, 0x0, 0xFFFFFFFF⟩, -- CELL_STEP_ROUTE
  ⟨0x40000104, [(8, 0x100000), (4, 0x400), (16, 0x10)], 0xFFFFF, 0x0, 0x0, 0xFFFFF, 0x0, 0xFFFFF⟩, -- CELL_STEP_EXC
  ⟨0x40000108, [(8, 0x100000), (4, 0x400), (16, 0x10)], 0x3FF03FF, 0x0, 0x0, 0x3FF03FF, 0x0, 0x0⟩, -- CELL_STEP_MASK
  ⟨0x4000010C, [(8, 0x100000), (4, 0x400), (16, 0x10)], 0xFFFFFF, 0x0, 0x0, 0xFFFFFF, 0x0, 0x0⟩, -- CELL_STEP_DWELL
  ⟨0x40000200, [(8, 0x100000), (4, 0x400), (4, 0x20)], 0xFFFFFF, 0x0, 0x0, 0xFFFFFF, 0x0, 0xF0⟩, -- CELL_LEAD_CFG
  ⟨0x40000204, [(8, 0x100000), (4, 0x400), (4, 0x20)], 0x1FFFF, 0x0, 0x0, 0x1FFFF, 0x0, 0x0⟩, -- CELL_LEAD_SCHED
  ⟨0x40000208, [(8, 0x100000), (4, 0x400), (4, 0x20)], 0xFFFFFFFF, 0x0, 0x0, 0xFFFFFFFF, 0x0, 0x10000⟩, -- CELL_LEAD_ANGLE
  ⟨0x4000020C, [(8, 0x100000), (4, 0x400), (4, 0x20)], 0xFFFFFF, 0x0, 0x0, 0xFFFFFF, 0x0, 0x0⟩, -- CELL_LEAD_MAX
  ⟨0x40000210, [(8, 0x100000), (4, 0x400), (4, 0x20)], 0xFFFFFF, 0x0, 0x0, 0x0, 0x0, 0x0⟩, -- CELL_LEAD_RES
  ⟨0x40000214, [(8, 0x100000), (4, 0x400), (4, 0x20)], 0xFFFF0FFF, 0x0, 0x0, 0x0, 0x0, 0x0⟩ -- CELL_LEAD_STAT
]

/-- The registers of this block (`ch`), one row each. -/
def chRows : List RegRow := [
  ⟨0x40001000, [(8, 0x100000), (16, 0x100)], 0x3FFFFFF7, 0x0, 0x0, 0x3FFFFFF7, 0x0, 0x0⟩, -- CH_MODE
  ⟨0x40001004, [(8, 0x100000), (16, 0x100)], 0xFF, 0x0, 0x0, 0xFF, 0x0, 0x0⟩, -- CH_AR
  ⟨0x40001008, [(8, 0x100000), (16, 0x100)], 0xFFFFFFFF, 0x0, 0x0, 0xFFFFFFFF, 0x0, 0x0⟩, -- CH_RST_SCHED
  ⟨0x4000100C, [(8, 0x100000), (16, 0x100)], 0x0, 0x0, 0x0, 0x0, 0x1, 0x0⟩, -- CH_CMD
  ⟨0x40001010, [(8, 0x100000), (16, 0x100)], 0x1F3F, 0x1F00, 0x0, 0x0, 0x0, 0x0⟩, -- CH_STAT
  ⟨0x40001014, [(8, 0x100000), (16, 0x100)], 0xFFFFFFFF, 0x0, 0x0, 0x0, 0x0, 0x0⟩, -- CH_CNT
  ⟨0x40001018, [(8, 0x100000), (16, 0x100)], 0xFFFFFFFF, 0x0, 0x0, 0x0, 0x0, 0x0⟩, -- CH_CNT2
  ⟨0x4000101C, [(8, 0x100000), (16, 0x100)], 0xFFFFFFFF, 0x0, 0x0, 0x0, 0x0, 0x0⟩, -- CH_RST_LT
  ⟨0x40001020, [(8, 0x100000), (16, 0x100)], 0xFFFFFFFF, 0x0, 0x0, 0x0, 0x0, 0x0⟩, -- CH_RST_LT_HI
  ⟨0x40001024, [(8, 0x100000), (16, 0x100)], 0x7FFFFFF, 0x0, 0x0, 0x0, 0x0, 0x0⟩, -- CH_RESET_LAST
  ⟨0x40001028, [(8, 0x100000), (16, 0x100)], 0xFFFFFFFF, 0x0, 0x0, 0x0, 0x0, 0x0⟩, -- CH_SETTLE_NS
  ⟨0x4000102C, [(8, 0x100000), (16, 0x100)], 0xFFFFFFFF, 0x0, 0x0, 0x0, 0x0, 0x0⟩, -- CH_SETTLE_NS_HI
  ⟨0x40001030, [(8, 0x100000), (16, 0x100)], 0xFFFFFFFF, 0x0, 0x0, 0x0, 0x0, 0x0⟩, -- CH_LATENCY_NS
  ⟨0x40001034, [(8, 0x100000), (16, 0x100)], 0xFFFFFFFF, 0x0, 0x0, 0x0, 0x0, 0x0⟩, -- CH_LATENCY_NS_HI
  ⟨0x40001038, [(8, 0x100000), (16, 0x100), (4, 0x4)], 0xFFFFFFFF, 0x0, 0x0, 0x0, 0x0, 0x0⟩, -- CH_RATIO
  ⟨0x40001048, [(8, 0x100000), (16, 0x100)], 0xFFFFFFF, 0x0, 0x0, 0x0, 0x0, 0x0⟩ -- CH_LAST
]

/-- The registers of this block (`mains`), one row each. -/
def mainsRows : List RegRow := [
  ⟨0x40002000, [(8, 0x100000)], 0x1F1, 0x0, 0x0, 0x1F1, 0x0, 0x0⟩, -- MAINS_CFG
  ⟨0x40002004, [(8, 0x100000)], 0x303, 0x300, 0x0, 0x0, 0x0, 0x0⟩, -- MAINS_STAT
  ⟨0x40002008, [(8, 0x100000)], 0x1FFFF, 0x0, 0x0, 0x0, 0x0, 0xC350⟩ -- MAINS_FREQ
]

/-- The registers of this block (`tio`), one row each. -/
def tioRows : List RegRow := [
  ⟨0x70000000, [], 0xFFFFFFFF, 0x0, 0x0, 0x0, 0x0, 0x0⟩, -- LT_LO
  ⟨0x70000004, [], 0xFFFFFFFF, 0x0, 0x0, 0x0, 0x0, 0x0⟩, -- LT_HI
  ⟨0x70000008, [], 0x1F, 0x0, 0x0, 0x0, 0x0, 0x0⟩, -- LT_CLK_STAT
  ⟨0x7000000C, [], 0xFFFF0001, 0x0, 0x0, 0xFFFF0001, 0x0, 0x3E80000⟩, -- LT_CFG
  ⟨0x70000010, [], 0x3F, 0x0, 0x0, 0x0, 0x0, 0x0⟩, -- LT_STAT
  ⟨0x70000014, [], 0x7F, 0x7F, 0x0, 0x0, 0x0, 0x0⟩, -- LT_EVT
  ⟨0x70000018, [], 0xFFFFFFFF, 0x0, 0x0, 0x0, 0x0, 0x0⟩, -- LT_ERR
  ⟨0x7000001C, [], 0xFFFFFFFF, 0x0, 0x0, 0x0, 0x0, 0x0⟩, -- LT_CNT
  ⟨0x70000020, [], 0xFFFFFFFF, 0x0, 0x0, 0x0, 0x0, 0x0⟩, -- LT_HOLD_IN_LO
  ⟨0x70000024, [], 0xFFFFFFFF, 0x0, 0x0, 0x0, 0x0, 0x0⟩, -- LT_HOLD_IN_HI
  ⟨0x70000028, [], 0xFFFFFFFF, 0x0, 0x0, 0x0, 0x0, 0x0⟩, -- LT_SLEEP_IN_LO
  ⟨0x7000002C, [], 0xFFFFFFFF, 0x0, 0x0, 0x0, 0x0, 0x0⟩, -- LT_SLEEP_IN_HI
  ⟨0x70000030, [], 0xFFFFFFFF, 0x0, 0x0, 0x0, 0x0, 0x0⟩, -- LT_SLEEP_OUT_LO
  ⟨0x70000034, [], 0xFFFFFFFF, 0x0, 0x0, 0x0, 0x0, 0x0⟩, -- LT_SLEEP_OUT_HI
  ⟨0x70000038, [], 0xFFFFFFFF, 0x0, 0x0, 0x0, 0x0, 0x0⟩, -- LT_SLEEP_TICKS_LO
  ⟨0x7000003C, [], 0xFFFFFFFF, 0x0, 0x0, 0x0, 0x0, 0x0⟩, -- LT_SLEEP_TICKS_HI
  ⟨0x70000040, [], 0xFFFFFFFF, 0x0, 0x0, 0x0, 0x0, 0x0⟩, -- LT_STEP_LO
  ⟨0x70000044, [], 0xFFFFFFFF, 0x0, 0x0, 0x0, 0x0, 0x0⟩, -- LT_STEP_HI
  ⟨0x70000048, [], 0xFFFFFFFF, 0x0, 0x0, 0x0, 0x0, 0x0⟩, -- LT_RES_PPB
  ⟨0x70000080, [(8, 0x10)], 0xFFFFFFFF, 0x0, 0x0, 0x0, 0x0, 0x0⟩, -- LT_TILE_RET_IN_LO
  ⟨0x70000084, [(8, 0x10)], 0xFFFFFFFF, 0x0, 0x0, 0x0, 0x0, 0x0⟩, -- LT_TILE_RET_IN_HI
  ⟨0x70000088, [(8, 0x10)], 0xFFFFFFFF, 0x0, 0x0, 0x0, 0x0, 0x0⟩, -- LT_TILE_RET_OUT_LO
  ⟨0x7000008C, [(8, 0x10)], 0xFFFFFFFF, 0x0, 0x0, 0x0, 0x0, 0x0⟩, -- LT_TILE_RET_OUT_HI
  ⟨0x70000100, [], 0x3F, 0x0, 0x0, 0x3F, 0x0, 0x0⟩, -- ACT_CFG
  ⟨0x70000104, [], 0xFFFFF, 0x0, 0x0, 0x0, 0x0, 0x0⟩, -- ACT_STAT
  ⟨0x70000108, [], 0x7, 0x7, 0x0, 0x0, 0x0, 0x0⟩, -- ACT_EVT
  ⟨0x7000010C, [], 0xFFFFFFFF, 0x0, 0x0, 0x0, 0x0, 0x0⟩, -- ACT_CNT0
  ⟨0x70000110, [], 0xFFFFFFFF, 0x0, 0x0, 0x0, 0x0, 0x0⟩, -- ACT_CNT1
  ⟨0x70000140, [(9, 0x10)], 0x1FFFF, 0x0, 0x1FFFF, 0x0, 0x80000000, 0x0⟩, -- ACT_ENTER_CTL
  ⟨0x70000144, [(9, 0x10)], 0xFFFFFFFF, 0x0, 0xFFFFFFFF, 0x0, 0x0, 0x0⟩, -- ACT_ENTER_TGT_LO
  ⟨0x70000148, [(9, 0x10)], 0xFFFFFFFF, 0x0, 0xFFFFFFFF, 0x0, 0x0, 0x0⟩, -- ACT_ENTER_TGT_HI
  ⟨0x7000014C, [(9, 0x10)], 0x1FF, 0x0, 0x0, 0x0, 0x0, 0x0⟩, -- ACT_ENTER_RES
  ⟨0x70000200, [], 0xFFFFFF, 0x0, 0x0, 0x0, 0x0, 0x0⟩, -- OUT_LEVEL
  ⟨0x70000204, [], 0xFFFFFF, 0x0, 0x0, 0x0, 0x0, 0x0⟩, -- OUT_PIN
  ⟨0x70000208, [], 0x1FFFFFF, 0x0, 0x0, 0x0, 0x0, 0x0⟩, -- OUT_FAULT
  ⟨0x7000020C, [], 0x7, 0x7, 0x0, 0x0, 0x0, 0x0⟩, -- OUT_EVT
  ⟨0x70000210, [], 0xFFFFFFFF, 0x0, 0x0, 0x0, 0x0, 0x0⟩, -- OUT_CNT
  ⟨0x70000214, [], 0xFFFFFF, 0x0, 0x0, 0x0, 0x0, 0x0⟩, -- OUT_SENSE
  ⟨0x70000280, [(24, 0x4)], 0xFFFF, 0x0, 0x0, 0x0, 0x0, 0x0⟩, -- OUT_DLY
  ⟨0x70000300, [], 0xFFF, 0x0, 0x0, 0xFFF, 0x0, 0xA0⟩, -- CAP_CFG
  ⟨0x70000304, [], 0x1, 0x1, 0x0, 0x0, 0x0, 0x0⟩, -- CAP_EVT
  ⟨0x70000400, [(36, 0x10)], 0x1FFFFFFF, 0x0, 0x0, 0x1FFFFFFF, 0x0, 0x8⟩, -- CAP_IN_CFG
  ⟨0x70000404, [(36, 0x10)], 0x3, 0x2, 0x0, 0x0, 0x0, 0x0⟩, -- CAP_IN_STAT
  ⟨0x70000408, [(36, 0x10)], 0xFFFFFFFF, 0x0, 0x0, 0x0, 0x0, 0x0⟩, -- CAP_IN_CNT
  ⟨0x70000700, [(4, 0x40)], 0x7FFFFF, 0x0, 0x0, 0x7FFFFF, 0x0, 0xC80⟩, -- CAP_ENC_CFG
  ⟨0x70000704, [(4, 0x40)], 0x1FFFFF, 0x0, 0x0, 0x1FFFFF, 0x0, 0x1⟩, -- CAP_ENC_CPC
  ⟨0x70000708, [(4, 0x40)], 0xFFFFFFFF, 0x0, 0x0, 0xFFFFFFFF, 0x0, 0x0⟩, -- CAP_ENC_INDEX
  ⟨0x7000070C, [(4, 0x40)], 0xFFFF007F, 0x70, 0x0, 0x0, 0x0, 0x2⟩, -- CAP_ENC_STAT
  ⟨0x70000710, [(4, 0x40)], 0xFFFFFFFF, 0x0, 0x0, 0x0, 0x0, 0x0⟩, -- CAP_ENC_POS_LO
  ⟨0x70000714, [(4, 0x40)], 0xFFFFFFFF, 0x0, 0x0, 0x0, 0x0, 0x0⟩, -- CAP_ENC_POS_HI
  ⟨0x70000718, [(4, 0x40)], 0xFFFFFFFF, 0x0, 0x0, 0x0, 0x0, 0x0⟩, -- CAP_ENC_LAST_LO
  ⟨0x7000071C, [(4, 0x40)], 0xFFFFFFFF, 0x0, 0x0, 0x0, 0x0, 0x0⟩, -- CAP_ENC_LAST_HI
  ⟨0x70000720, [(4, 0x40)], 0xFFFFFFFF, 0x0, 0x0, 0x0, 0x0, 0xFFFFFFFF⟩, -- CAP_ENC_PERIOD
  ⟨0x70000724, [(4, 0x40)], 0xFFFFFFFF, 0x0, 0x0, 0x0, 0x0, 0x0⟩, -- CAP_ENC_CNT
  ⟨0x70001000, [(512, 0x20)], 0xFFFFF, 0x0, 0x0, 0x0, 0x0, 0x0⟩, -- ACT_E_W0
  ⟨0x70001004, [(512, 0x20)], 0xFFFFFFFF, 0x0, 0x0, 0x0, 0x0, 0x0⟩, -- ACT_E_W1
  ⟨0x70001008, [(512, 0x20)], 0xFFFFFFFF, 0x0, 0x0, 0x0, 0x0, 0x0⟩, -- ACT_E_W2
  ⟨0x7000100C, [(512, 0x20)], 0xFFFFFFFF, 0x0, 0x0, 0x0, 0x0, 0x0⟩, -- ACT_E_W3
  ⟨0x70001010, [(512, 0x20)], 0xFFFFFFFF, 0x0, 0x0, 0x0, 0x0, 0x0⟩, -- ACT_E_W4
  ⟨0x70001014, [(512, 0x20)], 0xFFFFFFFF, 0x0, 0x0, 0x0, 0x0, 0x0⟩, -- ACT_E_W5
  ⟨0x70001018, [(512, 0x20)], 0xFFFFFFFF, 0x0, 0x0, 0x0, 0x0, 0x0⟩, -- ACT_E_W6
  ⟨0x7000101C, [(512, 0x20)], 0xFFFFFFFF, 0x0, 0x0, 0x0, 0x0, 0x0⟩ -- ACT_E_W7
]

/-- The registers of this block (`herd`), one row each. -/
def herdRows : List RegRow := [
  ⟨0x50030000, [], 0xFFFFF, 0x0, 0x0, 0xFFFFF, 0x0, 0xCC8⟩, -- HERD_CFG
  ⟨0x50030004, [], 0x3FFF, 0x0, 0x0, 0x0, 0x0, 0x3000⟩, -- HERD_STAT
  ⟨0x50030008, [], 0x3FF, 0x3FF, 0x0, 0x0, 0x0, 0x0⟩, -- HERD_EVT
  ⟨0x5003000C, [(2, 0x4)], 0x3FF, 0x0, 0x0, 0x0, 0x0, 0x8⟩, -- HERD_PORT
  ⟨0x50030014, [(2, 0x4)], 0xFFFFFFFF, 0x0, 0x0, 0x0, 0x0, 0x0⟩, -- HERD_DLY
  ⟨0x5003001C, [(2, 0x4)], 0xFFFFFFFF, 0x0, 0x0, 0x0, 0x0, 0x0⟩, -- HERD_ASYM
  ⟨0x50030024, [], 0xFFFFFFFF, 0x0, 0x0, 0x0, 0x0, 0x0⟩, -- HERD_ROSTER
  ⟨0x50030028, [], 0xFFFFFFFF, 0x0, 0x0, 0x0, 0x0, 0x0⟩, -- HERD_PATH
  ⟨0x5003002C, [], 0xFFFFFFFF, 0x0, 0x0, 0x0, 0x0, 0x0⟩, -- HERD_BNUM
  ⟨0x50030030, [], 0xFFFFFFFF, 0x0, 0x0, 0x0, 0x0, 0x0⟩, -- HERD_CNT0
  ⟨0x50030034, [], 0xFFFFFFFF, 0x0, 0x0, 0x0, 0x0, 0x0⟩, -- HERD_CNT1
  ⟨0x50030038, [], 0xFFFFFFFF, 0x0, 0x0, 0x0, 0x0, 0x0⟩, -- HERD_CNT2
  ⟨0x5003003C, [], 0xFFFFFFFF, 0x0, 0x0, 0x0, 0x0, 0x0⟩, -- HERD_CNT3
  ⟨0x50030100, [(4, 0x8)], 0x3F, 0x0, 0x0, 0x1F, 0x0, 0x0⟩, -- HERD_PUB
  ⟨0x50030140, [(4, 0x8)], 0x1FF, 0x0, 0x0, 0xFF, 0x0, 0x0⟩, -- HERD_SUB_CFG
  ⟨0x50030144, [(4, 0x8)], 0xFFFFFFFF, 0x0, 0x0, 0x0, 0x0, 0x0⟩, -- HERD_SUB_AGE
  ⟨0x50030200, [(16, 0x10)], 0xFFFF7F, 0x0, 0x0, 0xFFFF7F, 0x0, 0x140000⟩, -- HERD_RUC_CFG
  ⟨0x50030204, [(16, 0x10)], 0xFFFFFFFF, 0x0, 0x0, 0xFFFFFFFF, 0x0, 0x0⟩, -- HERD_RUC_ON
  ⟨0x50030208, [(16, 0x10)], 0xFFFFFFFF, 0x0, 0x0, 0xFFFFFFFF, 0x0, 0x0⟩, -- HERD_RUC_OFF
  ⟨0x5003020C, [(16, 0x10)], 0xFFFFFFFF, 0x0, 0x0, 0x0, 0x0, 0x0⟩ -- HERD_RUC_CNT
]

/-- The registers of this block (`churn`), one row each. -/
def churnRows : List RegRow := [
  ⟨0x40003000, [(8, 0x100000)], 0x1FF, 0x0, 0x0, 0x0, 0x0, 0x0⟩, -- CHURN_STAT
  ⟨0x40003004, [(8, 0x100000)], 0x3FFFFFF, 0x3FFFFFF, 0x0, 0x0, 0x0, 0x0⟩, -- CHURN_EVT
  ⟨0x40003008, [(8, 0x100000)], 0xFFFFFFFF, 0x0, 0x0, 0x0, 0x0, 0x0⟩, -- CHURN_CNT0
  ⟨0x4000300C, [(8, 0x100000)], 0xFFFFFFFF, 0x0, 0x0, 0x0, 0x0, 0x0⟩, -- CHURN_CNT1
  ⟨0x40003040, [(8, 0x100000), (16, 0x4)], 0xFFF, 0x0, 0x0, 0xFFF, 0x0, 0x8F8⟩, -- CHURN_STR
  ⟨0x40003100, [(8, 0x100000), (4, 0x20)], 0xFFFFFFFF, 0x0, 0x0, 0xFFFFFFFF, 0x0, 0x3E80000⟩, -- CHURN_GRP_CFG
  ⟨0x40003104, [(8, 0x100000), (4, 0x20)], 0xFFFFFFFF, 0x0, 0x0, 0xFFFFFFFF, 0x0, 0xA01F4⟩, -- CHURN_GRP_TIME
  ⟨0x40003108, [(8, 0x100000), (4, 0x20)], 0xFFFF1FFF, 0x0, 0x0, 0xFFFF1FFF, 0x0, 0x100⟩, -- CHURN_GRP_TEACH
  ⟨0x4000310C, [(8, 0x100000), (4, 0x20)], 0xFFFFFFFF, 0x0, 0x0, 0xFFFFFFFF, 0x0, 0x101⟩, -- CHURN_GRP_DRIFT
  ⟨0x40003110, [(8, 0x100000), (4, 0x20)], 0x0, 0x0, 0x0, 0x0, 0x3, 0x0⟩, -- CHURN_GRP_CMD
  ⟨0x40003114, [(8, 0x100000), (4, 0x20)], 0x1FFFF, 0x0, 0x0, 0x0, 0x0, 0x0⟩, -- CHURN_GRP_STAT
  ⟨0x40003118, [(8, 0x100000), (4, 0x20)], 0xFFFFFFFF, 0x0, 0x0, 0x0, 0x0, 0x0⟩, -- CHURN_GRP_CNT0
  ⟨0x4000311C, [(8, 0x100000), (4, 0x20)], 0xFFFFFFFF, 0x0, 0x0, 0x0, 0x0, 0x0⟩, -- CHURN_GRP_CNT1
  ⟨0x40003200, [(8, 0x100000), (64, 0x8)], 0xFFFFFFFF, 0x0, 0x0, 0xFFFFFFFF, 0x0, 0x0⟩, -- CHURN_FEAT_CFG
  ⟨0x40003204, [(8, 0x100000), (64, 0x8)], 0xFFFFFFFF, 0x0, 0x0, 0xFFFFFFFF, 0x0, 0x0⟩, -- CHURN_FEAT_LEVEL
  ⟨0x40003400, [(8, 0x100000), (64, 0x10)], 0x1FFFF, 0x0, 0x0, 0x1FFFF, 0x0, 0x220⟩, -- CHURN_RULE_COND
  ⟨0x40003404, [(8, 0x100000), (64, 0x10)], 0xFFFFFFFE, 0x0, 0x0, 0xFFFFFFFE, 0x0, 0x0⟩, -- CHURN_RULE_MASK
  ⟨0x40003408, [(8, 0x100000), (64, 0x10)], 0x7FFFFF, 0x0, 0x0, 0x7FFFFF, 0x0, 0x0⟩, -- CHURN_RULE_TARGET
  ⟨0x4000340C, [(8, 0x100000), (64, 0x10)], 0xFFFFFFFF, 0x0, 0x0, 0xFFFFFFFF, 0x0, 0x0⟩, -- CHURN_RULE_ANGLES
  ⟨0x40003800, [(8, 0x100000), (64, 0x4)], 0xFFFF, 0x0, 0x0, 0x0, 0x0, 0x0⟩ -- CHURN_RULE_CNT
]

/-- The registers of this block (`tt`), one row each. -/
def ttRows : List RegRow := [
  ⟨0x40004000, [(8, 0x100000), (4, 0x20)], 0x7, 0x0, 0x0, 0x7, 0x0, 0x0⟩, -- TT_CFG
  ⟨0x40004004, [(8, 0x100000), (4, 0x20)], 0xFFFFFFFF, 0x0, 0xFFFFFFFF, 0x0, 0x0, 0x0⟩, -- TT_PER
  ⟨0x40004008, [(8, 0x100000), (4, 0x20)], 0xFFFFFFFF, 0x0, 0xFFFFFFFF, 0x0, 0x0, 0x0⟩, -- TT_CMP
  ⟨0x4000400C, [(8, 0x100000), (4, 0x20)], 0xFFFFFFFF, 0x0, 0x0, 0x0, 0x0, 0x0⟩, -- TT_CNT
  ⟨0x40004010, [(8, 0x100000), (4, 0x20)], 0x0, 0x0, 0x0, 0x0, 0x7, 0x0⟩, -- TT_CMD
  ⟨0x40004014, [(8, 0x100000), (4, 0x20)], 0x7F, 0x5E, 0x0, 0x0, 0x0, 0x0⟩, -- TT_STAT
  ⟨0x40004018, [(8, 0x100000), (4, 0x20)], 0x3FFF3FFF, 0x0, 0x0, 0x3FFF3FFF, 0x0, 0x0⟩, -- TT_ROUTE
  ⟨0x4000401C, [(8, 0x100000), (4, 0x20)], 0xFFFFFFFF, 0x0, 0x0, 0xFFFFFFFF, 0x0, 0x0⟩ -- TT_BURST
]

/-- The registers of this block (`tq`), one row each. -/
def tqRows : List RegRow := [
  ⟨0x40005000, [(8, 0x100000), (6, 0x40)], 0x3FF1FFF, 0x0, 0x0, 0x3FF1FFF, 0x0, 0x10000⟩, -- Q_CFG
  ⟨0x40005004, [(8, 0x100000)], 0xFFFF, 0x0, 0x0, 0xFFFF, 0x0, 0x40⟩, -- Q_AUX of TQ t.0
  ⟨0x40005044, [(8, 0x100000), (5, 0x40)], 0xFFFF, 0x0, 0x0, 0xFFFF, 0x0, 0x0⟩, -- Q_AUX of TQ t.1 to t.5
  ⟨0x40005008, [(8, 0x100000), (6, 0x40)], 0xFFFFFFFF, 0x0, 0x0, 0x0, 0x0, 0x0⟩, -- Q_BASE
  ⟨0x4000500C, [(8, 0x100000)], 0x1FFFFF, 0x0, 0x0, 0x0, 0x0, 0x10000⟩, -- Q_SIZE of TQ t.0
  ⟨0x4000504C, [(8, 0x100000)], 0x1FFFFF, 0x0, 0x0, 0x0, 0x0, 0x20000⟩, -- Q_SIZE of TQ t.1
  ⟨0x4000508C, [(8, 0x100000), (4, 0x40)], 0x1FFFFF, 0x0, 0x0, 0x0, 0x0, 0x4000⟩, -- Q_SIZE of TQ t.2 to t.5
  ⟨0x40005010, [(8, 0x100000), (6, 0x40)], 0xFFFFFFFF, 0x0, 0x0, 0x0, 0x0, 0x0⟩, -- Q_STAT
  ⟨0x40005014, [(8, 0x100000), (6, 0x40)], 0xFF, 0xFF, 0x0, 0x0, 0x0, 0x0⟩, -- Q_EVT
  ⟨0x40005018, [(8, 0x100000), (6, 0x40)], 0xFFFFFFFF, 0x0, 0x0, 0x0, 0x0, 0x0⟩, -- Q_CNT0
  ⟨0x4000501C, [(8, 0x100000), (6, 0x40)], 0xFFFFFFFF, 0x0, 0x0, 0x0, 0x0, 0x0⟩, -- Q_CNT1
  ⟨0x40005020, [(8, 0x100000), (6, 0x40)], 0x3FFFF, 0x0, 0x0, 0x0, 0x0, 0x0⟩, -- Q_TAIL
  ⟨0x40005024, [(8, 0x100000), (6, 0x40)], 0x3FFFF, 0x0, 0x0, 0x0, 0x0, 0x0⟩, -- Q_HEAD
  ⟨0x40005028, [(8, 0x100000), (6, 0x40)], 0x0, 0x0, 0x0, 0x0, 0xFFFFFFFF, 0x0⟩, -- Q_PUSH
  ⟨0x4000502C, [(8, 0x100000), (6, 0x40)], 0xFFFF000F, 0x0, 0x0, 0x0, 0x0, 0x0⟩, -- Q_PUSH_RES
  ⟨0x40005030, [(8, 0x100000), (6, 0x40)], 0x0, 0x0, 0x0, 0x0, 0xFFFFFFFF, 0x0⟩, -- Q_POP
  ⟨0x40005034, [(8, 0x100000), (6, 0x40)], 0x1FFF0007, 0x0, 0x0, 0x0, 0x0, 0x0⟩ -- Q_POP_RES
]

/-- The registers of this block (`hq`), one row each. -/
def hqRows : List RegRow := [
  ⟨0x50000000, [(16, 0x40)], 0x3FF1FFF, 0x0, 0x0, 0x3FF1FFF, 0x0, 0x10000⟩, -- Q_CFG
  ⟨0x50000004, [(16, 0x40)], 0xFFFF, 0x0, 0x0, 0xFFFF, 0x0, 0x0⟩, -- Q_AUX
  ⟨0x50000008, [(16, 0x40)], 0xFFFFFFFF, 0x0, 0x0, 0xFFFFFFFF, 0x0, 0x0⟩, -- Q_BASE
  ⟨0x5000000C, [(16, 0x40)], 0x1FFFFF, 0x0, 0x0, 0x1FFFFF, 0x0, 0x0⟩, -- Q_SIZE
  ⟨0x50000010, [(16, 0x40)], 0xFFFFFFFF, 0x0, 0x0, 0x0, 0x0, 0x0⟩, -- Q_STAT
  ⟨0x50000014, [(16, 0x40)], 0xFF, 0xFF, 0x0, 0x0, 0x0, 0x0⟩, -- Q_EVT
  ⟨0x50000018, [(16, 0x40)], 0xFFFFFFFF, 0x0, 0x0, 0x0, 0x0, 0x0⟩, -- Q_CNT0
  ⟨0x5000001C, [(16, 0x40)], 0xFFFFFFFF, 0x0, 0x0, 0x0, 0x0, 0x0⟩, -- Q_CNT1
  ⟨0x50000020, [(16, 0x40)], 0x3FFFF, 0x0, 0x0, 0x0, 0x0, 0x0⟩, -- Q_TAIL
  ⟨0x50000024, [(16, 0x40)], 0x3FFFF, 0x0, 0x0, 0x0, 0x0, 0x0⟩, -- Q_HEAD
  ⟨0x50000028, [(16, 0x40)], 0x0, 0x0, 0x0, 0x0, 0xFFFFFFFF, 0x0⟩, -- Q_PUSH
  ⟨0x5000002C, [(16, 0x40)], 0xFFFF000F, 0x0, 0x0, 0x0, 0x0, 0x0⟩, -- Q_PUSH_RES
  ⟨0x50000030, [(16, 0x40)], 0x0, 0x0, 0x0, 0x0, 0xFFFFFFFF, 0x0⟩, -- Q_POP
  ⟨0x50000034, [(16, 0x40)], 0x1FFF0007, 0x0, 0x0, 0x0, 0x0, 0x0⟩ -- Q_POP_RES
]

/-- The registers of this block (`lad`), one row each. -/
def ladRows : List RegRow := [
  ⟨0x40006000, [(8, 0x100000), (4, 0x100)], 0xFF, 0x0, 0x0, 0x0, 0x0, 0x0⟩, -- LAD_STAT
  ⟨0x40006004, [(8, 0x100000), (4, 0x100)], 0xF, 0xF, 0x0, 0x0, 0x0, 0x0⟩, -- LAD_EVT
  ⟨0x40006008, [(8, 0x100000), (4, 0x100)], 0xFFFFFFFF, 0x0, 0x0, 0x0, 0x0, 0x0⟩, -- LAD_CNT0
  ⟨0x4000600C, [(8, 0x100000), (4, 0x100)], 0xFFFFFFFF, 0x0, 0x0, 0x0, 0x0, 0x0⟩, -- LAD_CNT1
  ⟨0x40006010, [(8, 0x100000), (4, 0x100)], 0x0, 0x0, 0x0, 0x0, 0xF, 0x0⟩, -- LAD_CMD
  ⟨0x40006020, [(8, 0x100000), (4, 0x100), (4, 0x20)], 0x7FFFF, 0x0, 0x0, 0x7FFFF, 0x0, 0x0⟩, -- LAD_D_CTL
  ⟨0x40006024, [(8, 0x100000), (4, 0x100), (4, 0x20)], 0xFFFF0FFE, 0x0, 0x0, 0xFFFF0FFE, 0x0, 0x0⟩, -- LAD_D_FILTER
  ⟨0x40006028, [(8, 0x100000), (4, 0x100), (4, 0x20)], 0xFFFFFFFF, 0x0, 0x0, 0xFFFFFFFF, 0x0, 0x0⟩, -- LAD_D_RING_BASE
  ⟨0x4000602C, [(8, 0x100000), (4, 0x100), (4, 0x20)], 0x1FFFFFF, 0x0, 0x0, 0x1FFFFFF, 0x0, 0x0⟩, -- LAD_D_RING_SIZE
  ⟨0x40006030, [(8, 0x100000), (4, 0x100), (4, 0x20)], 0xFFFFFF, 0x0, 0xFFFFFF, 0x0, 0x0, 0x0⟩, -- LAD_D_RING_WR
  ⟨0x40006034, [(8, 0x100000), (4, 0x100), (4, 0x20)], 0xFFFFFF, 0x0, 0xFFFFFF, 0x0, 0x0, 0x0⟩, -- LAD_D_RING_RD
  ⟨0x40006038, [(8, 0x100000), (4, 0x100), (4, 0x20)], 0xFFFF003F, 0x0, 0x0, 0xFFFF003F, 0x0, 0x0⟩, -- LAD_D_TARGET
  ⟨0x4000603C, [(8, 0x100000), (4, 0x100), (4, 0x20)], 0xFFFFFFFF, 0x0, 0x0, 0x0, 0x0, 0x0⟩ -- LAD_D_CNT
]

/-- The registers of this block (`hlad`), one row each. -/
def hladRows : List RegRow := [
  ⟨0x50010000, [(8, 0x100)], 0xFF, 0x0, 0x0, 0x0, 0x0, 0x0⟩, -- LAD_STAT
  ⟨0x50010004, [(8, 0x100)], 0xF, 0xF, 0x0, 0x0, 0x0, 0x0⟩, -- LAD_EVT
  ⟨0x50010008, [(8, 0x100)], 0xFFFFFFFF, 0x0, 0x0, 0x0, 0x0, 0x0⟩, -- LAD_CNT0
  ⟨0x5001000C, [(8, 0x100)], 0xFFFFFFFF, 0x0, 0x0, 0x0, 0x0, 0x0⟩, -- LAD_CNT1
  ⟨0x50010010, [(8, 0x100)], 0x0, 0x0, 0x0, 0x0, 0xF, 0x0⟩, -- LAD_CMD
  ⟨0x50010020, [(8, 0x100), (4, 0x20)], 0x7FFFF, 0x0, 0x0, 0x7FFFF, 0x0, 0x0⟩, -- LAD_D_CTL
  ⟨0x50010024, [(8, 0x100), (4, 0x20)], 0xFFFF0FFE, 0x0, 0x0, 0xFFFF0FFE, 0x0, 0x0⟩, -- LAD_D_FILTER
  ⟨0x50010028, [(8, 0x100), (4, 0x20)], 0xFFFFFFFF, 0x0, 0x0, 0xFFFFFFFF, 0x0, 0x0⟩, -- LAD_D_RING_BASE
  ⟨0x5001002C, [(8, 0x100), (4, 0x20)], 0x1FFFFFF, 0x0, 0x0, 0x1FFFFFF, 0x0, 0x0⟩, -- LAD_D_RING_SIZE
  ⟨0x50010030, [(8, 0x100), (4, 0x20)], 0xFFFFFF, 0x0, 0xFFFFFF, 0x0, 0x0, 0x0⟩, -- LAD_D_RING_WR
  ⟨0x50010034, [(8, 0x100), (4, 0x20)], 0xFFFFFF, 0x0, 0xFFFFFF, 0x0, 0x0, 0x0⟩, -- LAD_D_RING_RD
  ⟨0x50010038, [(8, 0x100), (4, 0x20)], 0xFFFF003F, 0x0, 0x0, 0xFFFF003F, 0x0, 0x0⟩, -- LAD_D_TARGET
  ⟨0x5001003C, [(8, 0x100), (4, 0x20)], 0xFFFFFFFF, 0x0, 0x0, 0x0, 0x0, 0x0⟩ -- LAD_D_CNT
]

/-- The registers of this block (`mem`), one row each. -/
def memRows : List RegRow := [
  ⟨0x50020000, [], 0xFFFF, 0x0, 0x0, 0xFFFF, 0x0, 0x10⟩, -- MEM_CFG
  ⟨0x50020004, [], 0xFF, 0xFF, 0x0, 0x0, 0x0, 0x0⟩, -- MEM_EVT
  ⟨0x50020100, [(19, 0x20)], 0xFFFF0003, 0x0, 0x0, 0x0, 0x0, 0x0⟩, -- MEMM_STAT
  ⟨0x50020104, [(19, 0x20)], 0xFFFFFFFF, 0x0, 0x0, 0x0, 0x0, 0x0⟩, -- MEMM_CNT
  ⟨0x50020108, [(19, 0x20)], 0xFFFF, 0x0, 0x0, 0x0, 0x0, 0x0⟩, -- MEMM_UE
  ⟨0x5002010C, [(19, 0x20)], 0xFFFFFFFF, 0x0, 0x0, 0x0, 0x0, 0x0⟩, -- MEMM_UE_ADDR
  ⟨0x50020110, [(19, 0x20)], 0xFFFFFFFF, 0x0, 0x0, 0x0, 0x0, 0x0⟩, -- MEMM_UE_LT_LO
  ⟨0x50020114, [(19, 0x20)], 0xFFFFFFFF, 0x0, 0x0, 0x0, 0x0, 0x0⟩ -- MEMM_UE_LT_HI
]

/-- The registers of this block (`key`), one row each. -/
def keyRows : List RegRow := [
  ⟨0x50070000, [], 0x7, 0x0, 0x0, 0x7, 0x0, 0x4⟩, -- KEY_CFG
  ⟨0x50070004, [], 0x1FF, 0x0, 0x0, 0x0, 0x0, 0x0⟩, -- KEY_STAT
  ⟨0x50070008, [], 0x3F, 0x3F, 0x0, 0x0, 0x0, 0x0⟩, -- KEY_EVT
  ⟨0x5007000C, [], 0x0, 0x0, 0x0, 0x0, 0x7, 0x0⟩, -- KEY_CMD
  ⟨0x50070010, [], 0x1FFFF, 0x0, 0x0, 0x0, 0x0, 0xFF00⟩, -- KEY_RESULT
  ⟨0x50070014, [], 0xFFFFFFFF, 0x0, 0x0, 0x0, 0x0, 0x0⟩, -- KEY_RESULT_ADDR
  ⟨0x50070018, [], 0xFFFF, 0x0, 0x0, 0x0, 0x0, 0x0⟩, -- KEY_GEN
  ⟨0x5007001C, [], 0x1FFFFFFF, 0x0, 0x0, 0x0, 0x0, 0x0⟩, -- KEY_IMAGE
  ⟨0x50070020, [], 0xFFFFFFFF, 0x0, 0x0, 0x0, 0x0, 0x0⟩, -- KEY_HDR_CRC
  ⟨0x50070024, [], 0xFFFFFFFF, 0x0, 0x0, 0x0, 0x0, 0x0⟩, -- KEY_STAGED_CRC
  ⟨0x50070028, [], 0xFFFFFFFF, 0x0, 0x0, 0x0, 0x0, 0x0⟩, -- KEY_STORE
  ⟨0x5007002C, [], 0xFFFFFFFF, 0x0, 0x0, 0x0, 0x0, 0x0⟩, -- KEY_CNT
  ⟨0x50070030, [], 0xFFFFFFFF, 0x0, 0x0, 0x0, 0x0, 0x0⟩, -- KEY_LOAD_LT_LO
  ⟨0x50070034, [], 0xFFFFFFFF, 0x0, 0x0, 0x0, 0x0, 0x0⟩, -- KEY_LOAD_LT_HI
  ⟨0x50070040, [(4, 0x4)], 0xFFFFFFFF, 0x0, 0x0, 0x0, 0x0, 0x0⟩, -- KEY_NAME
  ⟨0x50070050, [], 0xFFFFFFFF, 0x0, 0x0, 0x0, 0x0, 0x0⟩ -- KEY_VER
]

/-- The registers of this block (`tw`), one row each. -/
def twRows : List RegRow := [
  ⟨0x50080000, [(8, 0x400)], 0x3FFFFF, 0x0, 0x0, 0x3FFFFF, 0x0, 0x28280⟩, -- TW_CFG
  ⟨0x50080004, [(8, 0x400)], 0x1F, 0x0, 0x1F, 0x0, 0x60, 0x0⟩, -- TW_CTL
  ⟨0x50080008, [(8, 0x400)], 0x3FFF, 0x0, 0x0, 0x0, 0x0, 0x0⟩, -- TW_STAT
  ⟨0x5008000C, [(8, 0x400)], 0x3F, 0x3F, 0x0, 0x0, 0x0, 0x0⟩, -- TW_EVT
  ⟨0x50080010, [(8, 0x400)], 0xFFFFFFFF, 0x0, 0x0, 0x0, 0x0, 0x0⟩, -- TW_CNT0
  ⟨0x50080014, [(8, 0x400)], 0xFFFFFF, 0x0, 0x0, 0x0, 0x0, 0x0⟩, -- TW_CNT1
  ⟨0x50080018, [(8, 0x400)], 0xFFFFFFFF, 0x0, 0x0, 0x0, 0x0, 0x0⟩, -- TW_HANG_LT_LO
  ⟨0x5008001C, [(8, 0x400)], 0xFFFFFFFF, 0x0, 0x0, 0x0, 0x0, 0x0⟩, -- TW_HANG_LT_HI
  ⟨0x50080040, [(8, 0x400), (16, 0x8)], 0xFFFFFF7F, 0x0, 0xFFFFFF7F, 0x0, 0x0, 0x0⟩, -- TW_XFER
  ⟨0x50080044, [(8, 0x400), (16, 0x8)], 0xFFF, 0x0, 0x0, 0x0, 0x0, 0x9⟩, -- TW_XFER_RES
  ⟨0x50080100, [(8, 0x400), (64, 0x4)], 0xFFFFFFFF, 0x0, 0xFFFFFFFF, 0x0, 0x0, 0x0⟩ -- TW_BUF
]

/-- The registers of this block (`host`), one row each. -/
def hostRows : List RegRow := [
  ⟨0x50040000, [], 0xFF7FFF, 0x0, 0x0, 0xFF7FFF, 0x0, 0x14430A⟩, -- HOST_CFG
  ⟨0x50040004, [], 0x3FFF7FFF, 0x0, 0x0, 0x3FFF7FFF, 0x0, 0xA2000⟩, -- HOST_BATCH
  ⟨0x50040008, [], 0xFFFFFFFF, 0x0, 0x0, 0xFFFFFFFF, 0x0, 0x0⟩, -- HOST_STORE_BASE
  ⟨0x5004000C, [], 0x1FF01FF, 0x0, 0x0, 0x1FF01FF, 0x0, 0x0⟩, -- HOST_STORE_SIZE
  ⟨0x50040010, [], 0xFFFFFFFF, 0x0, 0x0, 0xFFFFFFFF, 0x0, 0x0⟩, -- HOST_PAIR
  ⟨0x50040014, [], 0xFFFF01FF, 0x0, 0x0, 0xFFFF01FF, 0x0, 0x3C000000⟩, -- HOST_WAKE_CFG
  ⟨0x50040018, [], 0xFFFFFFFF, 0x0, 0x0, 0xFFFFFFFF, 0x0, 0x0⟩, -- HOST_WAKE_MAC_LO
  ⟨0x5004001C, [], 0xFFFF, 0x0, 0x0, 0xFFFF, 0x0, 0x0⟩, -- HOST_WAKE_MAC_HI
  ⟨0x50040020, [], 0x7F7FFF, 0x0, 0x0, 0x0, 0x0, 0x0⟩, -- HOST_STAT
  ⟨0x50040024, [], 0xFF, 0xFF, 0x0, 0x0, 0x0, 0x0⟩, -- HOST_EVT
  ⟨0x50040028, [], 0x0, 0x0, 0x0, 0x0, 0x3, 0x0⟩, -- HOST_CMD
  ⟨0x5004002C, [], 0xFFFFFFFF, 0x0, 0x0, 0x0, 0x0, 0x0⟩, -- HOST_MAC_LO
  ⟨0x50040030, [], 0xFFFF, 0x0, 0x0, 0x0, 0x0, 0x0⟩, -- HOST_MAC_HI
  ⟨0x50040034, [], 0xFFFFFFFF, 0x0, 0x0, 0x0, 0x0, 0x0⟩, -- HOST_IP
  ⟨0x50040038, [], 0xFFFFFFFF, 0x0, 0x0, 0x0, 0x0, 0x0⟩, -- HOST_MASK
  ⟨0x5004003C, [], 0xFFFFFFFF, 0x0, 0x0, 0x0, 0x0, 0x0⟩, -- HOST_GW
  ⟨0x50040040, [], 0xFFFFFFFF, 0x0, 0x0, 0x0, 0x0, 0x0⟩, -- HOST_PEER_IP
  ⟨0x50040044, [], 0x7FFFFF, 0x0, 0x0, 0x0, 0x0, 0x0⟩, -- HOST_PEER
  ⟨0x50040048, [], 0xFFFFFFFF, 0x0, 0x0, 0x0, 0x0, 0x0⟩, -- HOST_SESSION
  ⟨0x5004004C, [], 0xFFFFFFFF, 0x0, 0x0, 0x0, 0x0, 0x0⟩, -- HOST_BOOT_ID
  ⟨0x50040050, [], 0xFFFFFFFF, 0x0, 0x0, 0x0, 0x0, 0x0⟩, -- HOST_NEXT_BSEQ
  ⟨0x50040054, [], 0xFFFFFFFF, 0x0, 0x0, 0x0, 0x0, 0x0⟩, -- HOST_CUM_BSEQ
  ⟨0x50040058, [], 0xFFFFFFFF, 0x0, 0x0, 0x0, 0x0, 0x0⟩, -- HOST_CTRL_FILL
  ⟨0x5004005C, [], 0xFFFFFFFF, 0x0, 0x0, 0x0, 0x0, 0x0⟩, -- HOST_RAW_FILL
  ⟨0x50040060, [], 0xFFFFFFFF, 0x0, 0x0, 0x0, 0x0, 0x0⟩, -- HOST_CNT0
  ⟨0x50040064, [], 0xFFFFFFFF, 0x0, 0x0, 0x0, 0x0, 0x0⟩, -- HOST_CNT1
  ⟨0x50040068, [], 0xFFFFFFFF, 0x0, 0x0, 0x0, 0x0, 0x0⟩, -- HOST_CNT2
  ⟨0x5004006C, [], 0xFFFFFFFF, 0x0, 0x0, 0x0, 0x0, 0x0⟩ -- HOST_CNT3
]

/-- The registers of this block (`pwr`), one row each. -/
def pwrRows : List RegRow := [
  ⟨0x50050000, [], 0xFFFFFFFF, 0x0, 0xFFFFFFFF, 0x0, 0x0, 0x0⟩, -- PWR_REQ_T
  ⟨0x50050004, [], 0xFF, 0x0, 0xFF, 0x0, 0x0, 0x0⟩, -- PWR_REQ_H
  ⟨0x50050008, [], 0x0, 0x0, 0x0, 0x0, 0x1, 0x0⟩, -- PWR_CMD
  ⟨0x5005000C, [], 0x3FF, 0x0, 0x0, 0x0, 0x0, 0x0⟩, -- PWR_STAT
  ⟨0x50050010, [], 0xFFFFFFFF, 0x0, 0x0, 0x0, 0x0, 0x0⟩, -- PWR_STATE_T
  ⟨0x50050014, [], 0xFF, 0x0, 0x0, 0x0, 0x0, 0x0⟩, -- PWR_STATE_H
  ⟨0x50050018, [], 0xFF, 0xFF, 0x0, 0x0, 0x0, 0x0⟩, -- PWR_EVT
  ⟨0x5005001C, [], 0xFF, 0x0, 0x0, 0xFF, 0x0, 0xA⟩, -- PWR_CFG
  ⟨0x50050020, [], 0xFFFFFFFF, 0x0, 0x0, 0x0, 0x0, 0x0⟩, -- PWR_REFUSE_COUNT
  ⟨0x50050024, [], 0x1FF, 0x0, 0x0, 0x0, 0x0, 0x0⟩, -- PWR_REFUSER
  ⟨0x50050028, [], 0xFFFF01FF, 0x0, 0x0, 0x0, 0x0, 0x0⟩, -- PWR_LAST_WAKE
  ⟨0x5005002C, [], 0x3FF, 0x0, 0x3FF, 0x0, 0x0, 0x0⟩, -- PWR_WAKE_EN
  ⟨0x50050030, [], 0xFFFFF, 0x0, 0xFFFFE, 0x0, 0x0, 0x1⟩, -- PWR_WAKE_ON
  ⟨0x50050034, [], 0xFFFFFF, 0x0, 0xFFFFFF, 0x0, 0x0, 0x0⟩, -- PWR_WAKE_IN
  ⟨0x50050038, [], 0xFFFFFF, 0x0, 0xFFFFFF, 0x0, 0x0, 0x0⟩, -- PWR_WAKE_INEDGE
  ⟨0x50050040, [], 0xFFFFFFFF, 0x0, 0xFFFFFFFF, 0x0, 0x0, 0x0⟩, -- PWR_WAKE_TICKS_LO
  ⟨0x50050044, [], 0xFFFF, 0x0, 0xFFFF, 0x0, 0x0, 0x0⟩, -- PWR_WAKE_TICKS_HI
  ⟨0x50050080, [(8, 0x4)], 0x7FFFFF, 0x0, 0x0, 0x0, 0x0, 0x0⟩, -- PWR_TILE_REFUSE
  ⟨0x50050048, [], 0xFFFFFFF, 0x0, 0x0, 0x0, 0x0, 0x0⟩, -- PWR_SUPPLY
  ⟨0x5005004C, [], 0xFF7F, 0x0, 0x0, 0x0, 0x0, 0x0⟩, -- PWR_STAGE
  ⟨0x50050050, [], 0xFFFFFFFF, 0x0, 0x0, 0x0, 0x0, 0x0⟩, -- PWR_LINK_CNT
  ⟨0x50050054, [], 0xFFFFFFFF, 0x0, 0x0, 0x0, 0x0, 0x0⟩, -- PWR_THR_CNT
  ⟨0x50050058, [], 0xFFFFFFFF, 0x0, 0x0, 0x0, 0x0, 0x0⟩, -- PWR_THR_US1
  ⟨0x5005005C, [], 0xFFFFFFFF, 0x0, 0x0, 0x0, 0x0, 0x0⟩, -- PWR_THR_US2
  ⟨0x50050060, [], 0xFF, 0x0, 0x0, 0x0, 0x0, 0x0⟩ -- PWR_BOOT
]

/-- The registers of this block (`mod`), one row each. -/
def modRows : List RegRow := [
  ⟨0x500B0000, [], 0xFFC001F, 0x0, 0x0, 0x0, 0x0, 0x1⟩, -- MOD_STATUS
  ⟨0x500B0004, [], 0xFFFFF, 0x0, 0x0, 0xFFFFF, 0x0, 0x3C0⟩, -- MOD_CFG
  ⟨0x500B0008, [], 0x0, 0x0, 0x0, 0x0, 0x3, 0x0⟩, -- MOD_CMD
  ⟨0x500B000C, [], 0x1FFFFF, 0x0, 0x0, 0x1FFFFF, 0x0, 0x0⟩, -- MOD_WATCH
  ⟨0x500B0010, [], 0xFFFFFF, 0x0, 0x0, 0x0, 0x0, 0x0⟩, -- MOD_TILE
  ⟨0x500B0014, [], 0x1FFFFF, 0x0, 0x0, 0x0, 0x0, 0x0⟩, -- MOD_CO
  ⟨0x500B0018, [], 0xFFFFFFFF, 0x0, 0x0, 0x0, 0x0, 0x0⟩, -- MOD_ENTER_LT_LO
  ⟨0x500B001C, [], 0xFFFFFFFF, 0x0, 0x0, 0x0, 0x0, 0x0⟩, -- MOD_ENTER_LT_HI
  ⟨0x500B0020, [], 0xFFFFFFFF, 0x0, 0x0, 0x0, 0x0, 0x0⟩, -- MOD_CNT
  ⟨0x500B0100, [], 0xFFFFFFFF, 0xFFFFFFFF, 0x0, 0x0, 0x0, 0x0⟩, -- EVT_SEEN_LO
  ⟨0x500B0104, [], 0xFFFFFFFF, 0xFFFFFFFF, 0x0, 0x0, 0x0, 0x0⟩, -- EVT_SEEN_HI
  ⟨0x500B0108, [], 0xFF, 0x0, 0x0, 0x0, 0x0, 0x0⟩, -- FLT_STAT
  ⟨0x500B010C, [], 0x0, 0x0, 0x0, 0x0, 0xFFFFFFFF, 0x0⟩, -- FLT_SNAP
  ⟨0x500B0110, [], 0xFFFFFFFF, 0x0, 0x0, 0x0, 0x0, 0x0⟩, -- FLT_WARM
  ⟨0x500B0120, [(8, 0x4)], 0x1FFF, 0x0, 0x0, 0x0, 0x0, 0x0⟩, -- FLT_TILE
  ⟨0x500B0200, [(64, 0x4)], 0xFFFF, 0x0, 0x0, 0x0, 0x0, 0x0⟩ -- EVT_CNT
]

/-- The registers of this block (`log`), one row each. -/
def logRows : List RegRow := [
  ⟨0x50060000, [], 0x1F, 0x0, 0x0, 0x1F, 0x0, 0x10⟩, -- LOG_CFG
  ⟨0x50060004, [], 0xFFFF1FFF, 0x0, 0x0, 0x0, 0x0, 0x0⟩, -- LOG_STAT
  ⟨0x50060008, [], 0xFFFFFFFF, 0x0, 0x0, 0x0, 0x0, 0x0⟩, -- LOG_NEXT
  ⟨0x5006000C, [], 0xFFFFFFFF, 0x0, 0x0, 0x0, 0x0, 0x0⟩, -- LOG_OLDEST
  ⟨0x50060010, [], 0xFFFFFFFF, 0x0, 0x0, 0x0, 0x0, 0x0⟩, -- LOG_OVERWRITES
  ⟨0x50060014, [], 0xFFFFFFFF, 0x0, 0xFFFFFFFF, 0x0, 0x0, 0x0⟩, -- LOG_SEL
  ⟨0x50060018, [], 0x3, 0x0, 0x0, 0x0, 0x0, 0x0⟩, -- LOG_SEL_RES
  ⟨0x50060020, [(8, 0x4)], 0xFFFFFFFF, 0x0, 0x0, 0x0, 0x0, 0x0⟩, -- LOG_DATA
  ⟨0x50060040, [(3, 0x4)], 0xFFFFFFFF, 0x0, 0xFFFFFFFF, 0x0, 0x0, 0x0⟩, -- LOG_USER_D
  ⟨0x5006004C, [], 0x0, 0x0, 0x0, 0x0, 0x1, 0x0⟩, -- LOG_USER_CMD
  ⟨0x50060050, [], 0x3, 0x3, 0x0, 0x0, 0x0, 0x0⟩ -- LOG_EVT
]

/-- The registers of this block (`svc`), one row each. -/
def svcRows : List RegRow := [
  ⟨0x50090000, [], 0xFFFF07, 0x0, 0x0, 0xFFFF07, 0x0, 0x6⟩, -- SVC_CFG
  ⟨0x50090004, [], 0x7F, 0x0, 0x0, 0x0, 0x0, 0x0⟩, -- SVC_STAT
  ⟨0x50090008, [], 0x1F, 0x1F, 0x0, 0x0, 0x0, 0x0⟩, -- SVC_EVT
  ⟨0x5009000C, [], 0x0, 0x0, 0x0, 0x0, 0x1, 0x0⟩, -- SVC_KICK
  ⟨0x50090010, [], 0xFFFFFFFF, 0x0, 0x0, 0x0, 0x0, 0x0⟩ -- SVC_CNT
]

/-- The registers of this block (`com`), one row each. -/
def comRows : List RegRow := [
  ⟨0x500A0000, [], 0x7F, 0x0, 0x0, 0x0, 0x0, 0x0⟩, -- COM_ID
  ⟨0x500A0004, [], 0xFFFFFFFF, 0x0, 0x0, 0x0, 0x0, 0x0⟩, -- COM_HOST_IP
  ⟨0x500A0008, [], 0xFFFFFFFF, 0x0, 0x0, 0x0, 0x0, 0x0⟩, -- COM_HOST_MASK
  ⟨0x500A000C, [], 0xFFFFFFFF, 0x0, 0x0, 0x0, 0x0, 0x0⟩, -- COM_HOST_GW
  ⟨0x500A0010, [(8, 0x4)], 0xFFFFFFFF, 0x0, 0x0, 0x0, 0x0, 0x0⟩, -- COM_TRUST_KEY
  ⟨0x500A0030, [], 0xFFFFFF, 0x0, 0x0, 0x0, 0x0, 0x0⟩, -- COM_OUT_SENSE
  ⟨0x500A0034, [], 0x3FFFFF, 0x0, 0x0, 0x0, 0x0, 0x0⟩ -- COM_USED
]

/-- The block of registers the address lies in (R279 to R281). -/
def rowsFor (a : Nat) : List RegRow :=
  if a < 0x40000000 then []
  else if a < 0x40800000 then
    match a % 0x100000 / 0x1000 with
    | 0 => cellRows | 1 => chRows | 2 => mainsRows | 3 => churnRows | 4 => ttRows | 5 => tqRows | 6 => ladRows | _ => []
  else if a < 0x50000000 then []
  else if a < 0x50010000 then hqRows
  else if a < 0x50020000 then hladRows
  else if a < 0x50030000 then memRows
  else if a < 0x50040000 then herdRows
  else if a < 0x50050000 then hostRows
  else if a < 0x50060000 then pwrRows
  else if a < 0x50070000 then logRows
  else if a < 0x50080000 then keyRows
  else if a < 0x50090000 then twRows
  else if a < 0x500A0000 then svcRows
  else if a < 0x500B0000 then comRows
  else if a < 0x500C0000 then modRows
  else if a < 0x70000000 then []
  else if a < 0x70010000 then tioRows
  else []

/-- The row of the register at address `a`, if one lies there. -/
def regRow (a : Nat) : Option RegRow := (rowsFor a).find? (fun r => r.covers a)

/-- The reset word of the register at `a` (R13); 0 where no register lies (R12). -/
def regReset (a : Nat) : Word :=
  match regRow a with
  | some r => BitVec.ofNat 32 r.reset
  | none => 0

/-- The bits of the register at `a` that read back as written or held (R9): reserved bits and commands read 0. -/
def regImpl (a : Nat) : Word :=
  match regRow a with
  | some r => BitVec.ofNat 32 r.impl
  | none => 0

end Sys2Proof.Machine
end

