-- ==== Sys2Proof/Machine/SysTypes.lean ====
section
/-! DEFINITION. State of the system's slow parts that is no register: tile restarts and reloads, the key port, reload and changeover, the two-wire
ports, power entries, the supply link, throttle, WATCH and bring-up (chapters 11 and 13 to 15). -/

namespace Sys2Proof.Machine

/-- A tile that restarts or is reloaded (R412, R425): phase 0 none, 1 restart draining, 2 restart waits for its sections, 3 restart waits
to start, 4 reload draining, 5 reload waits for its sections, 6 reload waits to start; the instant X or Q, the LTs of the restarts of the
60 s window, and a reload's apply step that has failed once (R414). -/
structure TileRun where
  phase : Nat
  at_ : Nat
  starts : List Nat
  failed : Bool
  deriving DecidableEq, Repr

/-- A tile that neither restarts nor is reloaded. -/
def TileRun.rest : TileRun := ⟨0, 0, [], false⟩

/-- The key port and the load (R325 to R338): job 0 none, 1 KEY_VCC on and waiting to read, 2 reading a block, 3 waiting for the signature
check, 4 for the checks' end, 5 for the commit's end, 6 for the cores' start; whether it stages, what is wanted of a staged image
(0 as ON_INSERT says, 1 changeover, 2 reload, 3 nothing), when the job's step began, the bytes read, the block read now, its failed
reads, a header and the sections read twice, the signature's outcome; the staged image's length; KEY_VCC; a supply cycle's start and
whether it was automatic; a hang that stopped a read; an insertion that waits for CHANGEOVER to clear; a tile whose restart wants sections of the key, with
their numbers (R330): of such a read `img` holds zeros where nothing is read. -/
structure KeySt where
  job : Nat
  staging : Bool
  want : Nat
  at_ : Nat
  img : List Byte
  block : Nat
  tries : Nat
  hdrTwice : Bool
  secTwice : List Nat
  trusted : Bool
  staged : Option Nat
  vcc : Bool
  cycle : Option (Nat × Bool)
  hung : Bool
  waits : Bool
  tile : Option Nat
  sects : List Nat
  deriving DecidableEq, Repr

/-- The key port before bring-up. -/
def KeySt.start : KeySt :=
  { job := 0, staging := false, want := 0, at_ := 0, img := [], block := 0, tries := 0, hdrTwice := false, secTwice := [], trusted := false,
    staged := none, vcc := false, cycle := none, hung := false, waits := false, tile := none, sects := [] }

/-- A reload or changeover (R408, R411): phase 0 none, 1 accepted reload that waits to begin, 2 reload drains, 3 reload waits for its apply
step, 4 changeover accepted, the hub switch runs, 5 changeover's tile reloads, 6 reload applied, waits for the cores' start, 7 changeover
asked for; the instant A or C; the new image; the old image's tiles with sections; the hub queues that are drained before they move (R411). -/
structure CoSt where
  phase : Nat
  at_ : Nat
  img : List Byte
  oldTiles : List Nat
  moved : List Nat
  deriving DecidableEq, Repr

/-- No reload and no changeover. -/
def CoSt.rest : CoSt := ⟨0, 0, [], [], []⟩

/-- A two-wire port beside its registers (R332 to R337): its supply, the instant its supply or a supply-cycle attempt began (R335, R337),
whether the cycle is automatic, whether its supply is on again, a start that waits for its sample, and the bus-low spell. -/
structure TwSt where
  supply : Bool
  at_ : Nat
  auto : Bool
  supplyBack : Bool
  starting : Bool
  deriving DecidableEq, Repr

/-- A port that is off. -/
def TwSt.off : TwSt := ⟨false, 0, false, false, false⟩

/-- A request on the supply link that waits for its acknowledgement (R374, R376): OP, TARGET, ARG, SEQ, the instant it was sent, its
retries. -/
structure LinkReq where
  op : Nat
  target : Nat
  arg : Nat
  seq : Nat
  at_ : Nat
  tries : Nat
  deriving DecidableEq, Repr

/-- The supply link: the next SEQ, the request that waits and those that follow it, the rails switched on, the last readings of the input
power, the instant of the last request. -/
structure LinkSt where
  seq : Nat
  req : Option LinkReq
  queue : List (Nat × Nat × Nat)
  rails : List Nat
  pins : List Nat
  lastAt : Nat
  deriving DecidableEq, Repr

/-- The supply link before its first request. -/
def LinkSt.start : LinkSt := ⟨0, none, [], [], [], 0⟩

/-- Power requests (R382 to R390): what the running request is for (0 none, 1 GO, 2 WATCH), the domains still to lower with their new
states (the first is asked), when it was asked and when it agreed, the domains stopped with their states before (newest first), raises
still to come with their new states, KEY_PRESENT at HUB's entry, the wake sources that have fired (source, unit), a wake taken (its W)
and HUB back on, the domains WATCH has lowered with their states before, and, while a refused entry is rolled back, the domain that refused, the reason and
the part. -/
structure PwrSt where
  run : Nat
  asks : List (Nat × Nat)
  askedAt : Nat
  agreedAt : Option Nat
  stopped : List (Nat × Nat)
  raising : List (Nat × Nat)
  keyAt : Bool
  fired : List (Nat × Nat)
  wakeAt : Option Nat
  wakeStage : Nat
  lowered : List (Nat × Nat)
  refused : Option (Nat × Nat × Nat)
  deriving DecidableEq, Repr

/-- No request. -/
def PwrSt.rest : PwrSt := ⟨0, [], 0, none, [], [], false, [], none, 0, [], none⟩

/-- The throttle (R393): when the level left 0, its peak since, when the present level began, whether event 38 has been raised, and the time spent at
levels 1 and 2 (R396), in ns. -/
structure ThrSt where
  since : Option Nat
  peak : Nat
  levelAt : Nat
  told : Bool
  ns1 : Nat
  ns2 : Nat
  deriving DecidableEq, Repr

/-- The throttle at level 0. -/
def ThrSt.rest : ThrSt := ⟨none, 0, 0, false, 0, 0⟩

/-- WATCH (R398, R402): set by the vat core, set by AUTO_WATCH, since when the source has been away, and when a refused entry was. -/
structure WatchSt where
  byVat : Bool
  byAuto : Bool
  away : Option Nat
  retryAt : Option Nat
  deriving DecidableEq, Repr

/-- WATCH not asked for. -/
def WatchSt.rest : WatchSt := ⟨false, false, none, none⟩

/-- Bring-up (R379, R380): stage 0 no supply, 1 supply valid, 2 AON rail good, 3 resonator oscillating, 4 rails good, 5 resonator stable, 6 PLL
locked, 7 repair loaded, 8 memories written, 9 baseline done, 10 logic released, 11 KEY_LOAD entered, 12 failed and waiting to retry, 13
given up; the tiles whose baseline failed; a warm reset in progress; the cause of a warm reset that is to start; when lock was lost; when
FAULT_HOLD began. -/
structure BootSt where
  stage : Nat
  badTiles : List Nat
  warm : Bool
  want : Option Nat
  lostAt : Option Nat
  holdAt : Option Nat
  deriving DecidableEq, Repr

/-- No supply. -/
def BootSt.start : BootSt := ⟨0, [], false, none, none, none⟩

/-- A stream's places (R296): the queues a core's stream was pushed into, or the destinations of a ladle's GAP stream, and the stamp of
the last record pushed (R306). -/
structure Route where
  dests : List Nat
  lt : Nat
  deriving DecidableEq, Repr

end Sys2Proof.Machine
end

