-- ==== Sys2Proof/Machine/State.lean ====
section
/-! DEFINITION. The block's state as plain data, its reset, and the reasons a step can stop. -/

namespace Sys2Proof.Machine

/-- Why the machine stops. The spec gives every command an effect, so no meaning raises one. -/
inductive Fault where
  /-- Raised by nothing; kept so that the outcome has a fault form. Safe. -/
  | unused
  deriving DecidableEq, Repr

/-- Why a command is refused. -/
inductive Refusal where
  /-- Raised by an arm of `exec` whose command has no meaning yet. Safe. -/
  | notModelled (mnemonic : String)
  deriving DecidableEq, Repr

/-- What the module sends to the outside. -/
inductive Emission where
  /-- A Herd frame leaves a port (`portB` true: port B) at an LT and ends as `how` says. -/
  | frame (portB : Bool) (lt : Nat) (f : Frame) (how : CopyEnd)
  /-- The frame that a port sends pauses at an LT for a frame of a higher class (R148, R151). -/
  | suspend (portB : Bool) (lt : Nat)
  /-- The paused frame goes on with its next byte (R148, R151). -/
  | resume (portB : Bool) (lt : Nat)
  /-- A UDP datagram leaves for an IPv4 address and port, with the transport message's bytes (R345). -/
  | udp (ip port : Nat) (payload : List Byte)
  /-- An ARP packet leaves (R343, R344): its kind (0 request, 1 reply, 2 gratuitous) and the address it is for. -/
  | arp (kind : Nat) (ip mac : Nat)
  /-- An ICMP echo answer leaves (R343), with the request's identifier and sequence number and its data. -/
  | echo (ip : Nat) (idSeq : Word) (data : List Byte)
  /-- A magic packet leaves in both its forms (R363). -/
  | magic (mac : Nat)
  /-- A supply-link frame leaves (R374). -/
  | supply (frame : Word)
  /-- A two-wire transfer begins at a port (R332): address, bytes written, bytes to read. -/
  | twoWire (port addr : Nat) (write : List Byte) (read : Nat)
  /-- The key port begins to read a block (R315, R317): its 7-bit address, the pointer, and the bytes wanted, or none where the header, which is yet to arrive,
  says how many. -/
  | keyRead (addr pointer : Nat) (bytes : Option Nat)
  /-- The service port returns bytes (R443). -/
  | service (bytes : List Byte)
  /-- An output's contact changes to a level at an LT (R232). -/
  | edge (output : Nat) (level : Bool) (lt : Nat)
  deriving DecidableEq, Repr

/-- The commissioning fields in use, and the calibration trims in use that are not those of the factory, by TRIM_ID (R456, R461, R465). -/
structure Com where
  lineAddr : Nat
  role : Nat
  sense : Nat
  trims : List (Nat × Word)
  deriving DecidableEq, Repr

/-- The block's state. `vco` counts the 200 periods of the 5,000 MHz oscillator that go into each period of REF, through a sleep as well, when
the PLL stands still and REF does not (R123, R124), `tileAt` is how many TILE clocks the timers have counted of it, and `sleepNs` the time slept in 2^-40 ns (R136). `regs` holds every register by address, `mem` the bytes of hub memory (at their address) and of tile t's
memory (at 0x2000_0000 + t × 0x8_0000 + address). -/
structure State where
  booting : Bool
  regs : List (Nat × Word)
  mem : List Host.Cell
  lines : List (Nat × LineErr)
  scrubs : List (Nat × Scrub)
  lt : Nat
  vco : Nat
  tileAt : Nat
  time : Bool
  uncertain : Bool
  spans : List (Nat × Nat)
  spanFrom : Option Nat
  ticks : Option Nat
  sleepNs : Nat
  com : Com
  queues : List (Nat × Queue)
  ladles : List (Nat × Ladle)
  seqs : List (Nat × Nat)
  log : List (Nat × Option LogEntry)
  logUnsent : List LogEntry
  userLts : List Nat
  acts : List (Nat × ActEntry)
  actOrder : Nat
  outs : List (Nat × OutSt)
  evts : List EvtRec
  caps : List (Nat × CapUnit)
  encs : List (Nat × EncSt)
  srcs : List (Nat × Source)
  timers : List (Nat × Timer)
  herd : HerdSt
  churn : List (Nat × ChurnSt)
  env : List (Nat × BitVec 64)
  cores : List (Nat × Core)
  cells : List (Nat × CellSt)
  chans : List (Nat × ChanSt)
  moduleAt : Option Nat
  mainsMoved : List (Nat × Nat)
  mainsRun : List (Nat × List (Nat × Nat))
  mainsEdges : List Nat
  tiles : List (Nat × TileRun)
  stopped : List Nat
  routes : List (Nat × Route)
  key : KeySt
  co : CoSt
  tws : List (Nat × TwSt)
  link : LinkSt
  pwr : PwrSt
  thr : ThrSt
  watch : WatchSt
  boot : BootSt
  host : HostSt
  svc : SvcSt
  freeCtr : Nat
  out : List Emission
  pending : List Instr
  deriving DecidableEq, Repr

/-- The block at power-on, before the supply is valid (R379, R397: POWER_UP from supply valid on, shown by the reset value of MOD_STATUS): every
register at its reset value, memories empty, line time stopped, the log empty, commissioning fields unwritten (R456), no command waiting. -/
def State.reset : State :=
  { booting := true, regs := [], mem := [], lines := [], scrubs := [], lt := 0, vco := 0, tileAt := 0, time := false, uncertain := false, spans := [],
    spanFrom := none, ticks := none, sleepNs := 0, com := ⟨0, 3, 0, []⟩, queues := [], ladles := [], seqs := [], log := [], logUnsent := [], userLts := [],
    acts := [], actOrder := 0, outs := [], evts := [], caps := [], encs := [], srcs := [], timers := [], herd := HerdSt.start,
    churn := [], env := [], cores := [], cells := [], chans := [], moduleAt := none, mainsMoved := [], mainsRun := [], mainsEdges := [], tiles := [], stopped := [],
    routes := [], key := KeySt.start, co := CoSt.rest, tws := [], link := LinkSt.start, pwr := PwrSt.rest, thr := ThrSt.rest,
    watch := WatchSt.rest, boot := BootSt.start, host := HostSt.start, svc := SvcSt.start, freeCtr := 0, out := [], pending := [] }

end Sys2Proof.Machine
end

