-- ==== Sys2Proof/Machine/Ops.lean ====
section
/-! DEFINITION. The named operations over registers, memory bytes, cores, module events, streams' SEQ and free values. Every read and write of
a register or of a byte of memory goes through these. -/

namespace Sys2Proof.Machine

/-! ## Registers and fields (R7, R9, R13) -/

/-- The word held by the register at address `a`. -/
def State.rd (s : State) (a : Nat) : Word := tabGet regReset s.regs a

/-- The state with word `v` in the register at address `a`. -/
def State.wr (s : State) (a : Nat) (v : Word) : State := { s with regs := tabSet regReset a v s.regs }

/-- The field of a word. -/
def Fld.ofWord (f : Fld) (w : Word) : Nat := w.toNat / 2 ^ f.lo % 2 ^ f.width

/-- The word with the field set to `n`, taken modulo the field's width; the other bits stay. -/
def Fld.into (f : Fld) (w : Word) (n : Nat) : Word :=
  w32 (w.toNat - f.ofWord w * 2 ^ f.lo + n % 2 ^ f.width * 2 ^ f.lo)

/-- The value of a field. -/
def State.get (s : State) (f : Fld) : Nat := f.ofWord (s.rd f.addr)

/-- The state with a field set. -/
def State.put (s : State) (f : Fld) (n : Nat) : State := s.wr f.addr (f.into (s.rd f.addr) n)

/-- The greatest value of a field. -/
def Fld.max (f : Fld) : Nat := 2 ^ f.width - 1

/-- A field read as a condition. -/
def State.isSet (s : State) (f : Fld) : Bool := s.get f != 0

/-- A field set from a condition. -/
def State.putB (s : State) (f : Fld) (b : Bool) : State := s.put f (if b then 1 else 0)

/-- Bit `i` of a field set (W1C bits and masks; set wins, R10). -/
def State.setBit (s : State) (f : Fld) (i : Nat) : State := s.put f (s.get f ||| 2 ^ i)

/-- Bit `i` of a field cleared. -/
def State.clearBit (s : State) (f : Fld) (i : Nat) : State :=
  s.put f (if (s.get f).testBit i then s.get f - 2 ^ i else s.get f)

/-- Bit `i` of a field. -/
def State.bit (s : State) (f : Fld) (i : Nat) : Bool := (s.get f).testBit i

/-- A saturating counter counts `n` (the registers' counters saturate at their maximum). -/
def State.incSat (s : State) (f : Fld) (n : Nat := 1) : State := s.put f (min (s.get f + n) f.max)

/-- A counter that counts modulo its width. -/
def State.incWrap (s : State) (f : Fld) (n : Nat := 1) : State := s.put f (s.get f + n)

/-- A signed field's value. -/
def State.getInt (s : State) (f : Fld) : Int :=
  if s.get f < 2 ^ (f.width - 1) then (s.get f : Int) else (s.get f : Int) - (2 ^ f.width : Nat)

/-- A signed value in a field of its width, saturating at ±(2^(width−1) − 1). -/
def State.putInt (s : State) (f : Fld) (i : Int) : State :=
  let m : Int := (2 ^ (f.width - 1) : Nat) - 1
  let j := if i > m then m else if i < -m then -m else i
  s.put f ((j % (2 ^ f.width : Nat)).toNat)

/-- A 64-bit count in a pair of registers, low word at `a`, high word at `a + 4` (R15). -/
def State.putPair (s : State) (a n : Nat) : State := (s.wr a (w32 n)).wr (a + 4) (w32 (n / 0x100000000))

/-- The 64-bit count of a pair of registers. -/
def State.getPair (s : State) (a : Nat) : Nat := (s.rd a).toNat + 0x100000000 * (s.rd (a + 4)).toNat

/-! ## Memory bytes (R282) -/

/-- Where the bytes of tile `t`'s memory lie in `mem`. The cores' view of them starts at 0 (R279). -/
def tileMem (t : Nat) : Nat := 0x20000000 + t * 0x80000

/-- What a byte of memory that nothing has written reads as: every memory is written with zeros at bring-up (R284). -/
def memDefault (_ : Nat) : Byte := 0#8

/-- The memory's canonical form. -/
abbrev Memory.wf (m : List Host.Cell) : Bool := tabWf memDefault m

/-- One byte of memory. -/
def State.byte (s : State) (a : Nat) : Byte := tabGet memDefault s.mem a

/-- The state with one byte of memory written. -/
def State.setByte (s : State) (a : Nat) (b : Byte) : State := { s with mem := tabSet memDefault a b s.mem }

/-- Memory with only the addresses that `keep` holds for. -/
def State.memCut (s : State) (keep : Nat → Bool) : State := { s with mem := s.mem.filter (fun c => keep c.1) }

/-- `n` bytes of memory from `a` on. -/
def State.bytes (s : State) (a : Nat) : Nat → List Byte
  | 0 => []
  | n + 1 => s.byte a :: State.bytes s (a + 1) n

/-- Bytes written from `a` on. -/
def State.setBytes (s : State) (a : Nat) : List Byte → State
  | [] => s
  | b :: t => State.setBytes (s.setByte a b) (a + 1) t

/-- A little-endian number of `n` bytes (R249). -/
def State.loadLe (s : State) (a n : Nat) : Nat := leVal (s.bytes a n)

/-- A little-endian number stored in `n` bytes (R249). -/
def State.storeLe (s : State) (a n v : Nat) : State := s.setBytes a (leBytes n v)

/-! ## Cores and their pending sources (R247, R270) -/

/-- The vat core's number; 0 to 7 are the pail cores of the tiles (R247 CORE_ID). -/
abbrev vat : Nat := 8

/-- A core that no listed entry describes: not started. -/
def coreDefault (k : Nat) : Core := Core.unstarted (k == vat)

/-- Core `k`. -/
def State.core (s : State) (k : Nat) : Core := tabGet coreDefault s.cores k

/-- The state with core `k` set. -/
def State.setCore (s : State) (k : Nat) (c : Core) : State := { s with cores := tabSet coreDefault k c s.cores }

/-- A core with the pending bit of source `n` set (R270). -/
def Core.pend (c : Core) (n : Nat) : Core :=
  if n < 32 then { c with pend0 := c.pend0 ||| (1#32 <<< n) }
  else if n < 64 then { c with pend1 := c.pend1 ||| (1#32 <<< (n - 32)) }
  else { c with pend2 := c.pend2 ||| 1#32 }

/-- A core has a source both pending and enabled (R270, R275). -/
def Core.ready (c : Core) : Bool :=
  (c.pend0 &&& c.en0) != 0#32 || (c.pend1 &&& c.en1) != 0#32 || (c.pend2 &&& c.en2) != 0#32

/-! ## Module events and tile-local sources (R269, R438) -/

/-- Module event `n` is raised: its SEEN bit, its counter, the vat core's pending bit (R438). -/
def State.raise (s : State) (n : Nat) : State :=
  let s := if n < 32 then s.setBit F.EVT_SEEN_LO_SEEN n else s.setBit F.EVT_SEEN_HI_SEEN (n - 32)
  let s := s.incSat (F.EVT_CNT_RAISED n)
  s.setCore vat ((s.core vat).pend n)

/-- Tile-local source `n` of tile `t` is raised: the pail core's pending bit (R269, R270). -/
def State.raiseTile (s : State) (t n : Nat) : State := s.setCore t ((s.core t).pend n)

/-! ## Identity, generation, throttle, records' time -/

/-- The module's line address (R3). -/
def State.line (s : State) : Nat := s.com.lineAddr

/-- The recipe generation (R326). -/
def State.gen (s : State) : Nat := s.get F.KEY_GEN_GEN

/-- The throttle level (R139). -/
def State.throttle (s : State) : Nat := s.get F.LT_CLK_STAT_THROTTLE

/-- The division factor of a throttled clock (R139). -/
def State.division (s : State) : Nat := if s.throttle = 0 then 1 else if s.throttle = 1 then 2 else 4

/-- The factory value of a trim (R461). -/
def trimFactory (id : Nat) : Word :=
  if id / 4096 = 8 then w32 (Config.outDly (id % 4096))
  else if id / 4096 = 6 then w32 (Config.returnSwitch (id % 4096))
  else Config.factoryTrim id

/-- A trim in use (R461): the one taken at bring-up, else the factory's. -/
def State.trim (s : State) (id : Nat) : Word :=
  match s.com.trims.find? (fun x => x.1 == id) with
  | some x => x.2
  | none => trimFactory id

/-- OUT_DLY of output `n` in ns (R232, R461). -/
def State.outDly (s : State) (n : Nat) : Nat := (s.trim (0x8000 + n)).toNat

/-- The resistance of cell `c`'s return switch in mΩ (R66, R461). -/
def State.returnSwitch (s : State) (c : Nat) : Nat := (s.trim (0x6000 + c)).toNat

/-- The module's role: 0 member, 1 deputy, 2 leader, 3 standalone (R182). -/
def State.role (s : State) : Nat := s.com.role

/-- Stamps now carry HOLDOVER (R132): a time-uncertain span on a module that is not standalone. -/
def State.holdoverNow (s : State) : Bool :=
  s.role != 3 && (s.uncertain || s.isSet F.LT_STAT_HOLDOVER || s.isSet F.LT_STAT_LINE_HOLDOVER)

/-- LT `t` lies in a time-uncertain span (R132); a standalone module has none. -/
def State.uncertainAt (s : State) (t : Nat) : Bool :=
  s.role != 3 && ((match s.spanFrom with | some a => decide (a ≤ t) | none => false)
    || s.spans.any (fun p => decide (p.1 ≤ t) && decide (t < p.2)))

/-- The FLAGS of a record that the module stamps `t`: HOLDOVER where `t` lies in a time-uncertain span (R132, R291). -/
def State.stampFlags (s : State) (t : Nat) : Byte := if s.uncertainAt t then flagOn flHoldover 0#8 else 0#8

/-! ## SEQ of streams (R289) -/

/-- The next SEQ of a stream. -/
def State.nextSeq (s : State) (key : Nat) : Nat := tabGet (fun _ => 0) s.seqs key

/-- The stream's next SEQ is taken. -/
def State.takeSeq (s : State) (key : Nat) : State :=
  { s with seqs := tabSet (fun _ => 0) key (s.nextSeq key + 1) s.seqs }

/-- The generation before `g` (R326). -/
def prevGen (g : Nat) : Nat := if g ≤ 1 then 65535 else g - 1

/-- The generation that records of a stream carry (R287, R411): during a changeover a tile that has not yet been reloaded carries the old
one. -/
def State.genOf (s : State) (tile stream : Nat) : Nat :=
  let phase := (tabGet (fun _ => TileRun.rest) s.tiles tile).phase
  if s.co.phase = 5 ∧ stream < 0x40 ∧ s.bit F.MOD_CO_TODO tile = true ∧ phase ≠ 5 ∧ phase ≠ 6 then prevGen s.gen else s.gen

/-- SOURCE of one of the module's own streams (R287, R288). -/
def State.source (s : State) (tile stream : Nat) : Word := sourceWord s.line tile stream (s.genOf tile stream)

/-! ## Free values -/

/-- The next free 32-bit value. -/
def State.free (s : State) : Word := Config.freeWord s.freeCtr

/-- The next free value that is not 0 (R347, R351). -/
def State.freeNonZero (s : State) : Word := w32 ((Config.freeBelow s.freeCtr).val + 1)

/-- The free value is used up. -/
def State.freeNext (s : State) : State := { s with freeCtr := s.freeCtr + 1 }

/-! ## Power domains (R369) and the operating mode (R399) -/

/-- Domain numbers (R369); TILEt is 4 + t, AFEt is 12 + t. -/
abbrev domHub : Nat := 0
abbrev domHerd : Nat := 1
abbrev domHost : Nat := 2
abbrev domKey : Nat := 3
abbrev domTile (t : Nat) : Nat := 4 + t
abbrev domAfe (t : Nat) : Nat := 12 + t

/-- Domain states: 0 off, 1 retention, 2 on (R396). -/
abbrev domOff : Nat := 0
abbrev domRet : Nat := 1
abbrev domOn : Nat := 2

/-- The field of PWR_STATE that shows domain `n`. -/
def domFld (n : Nat) : Fld :=
  if n < 4 then ⟨R.PWR_STATE_H, 2 * n, 2⟩ else if n < 12 then ⟨R.PWR_STATE_T, 2 * (n - 4), 2⟩ else ⟨R.PWR_STATE_T, 2 * (n - 12) + 16, 2⟩

/-- The state of domain `n`. -/
def State.dom (s : State) (n : Nat) : Nat := s.get (domFld n)

/-- Domain `n` is on. -/
def State.domIsOn (s : State) (n : Nat) : Bool := s.dom n == domOn

/-- Domain `n` has been asked, has agreed and has not stopped yet: it takes no new work (R384). -/
def State.domAgreed (s : State) (n : Nat) : Bool := s.pwr.agreedAt.isSome && s.pwr.asks.head?.any (fun a => a.1 == n)

/-- The domain that holds core `k` (R369). -/
def State.coreDom (_ : State) (k : Nat) : Nat := if k < 8 then domTile k else domHub

/-- The time that one AON tick of the sleep count stands for, in 2^-40 ns (R136): 32,000 ns where HERD in retention keeps recovering REF, else corrected by
LT_RES_PPB, since the resonator makes it. -/
def State.aonNs (s : State) : Nat :=
  if s.dom domHerd = domRet && s.get F.LT_CLK_STAT_REF_SRC != 0 then 32000 * 2 ^ 40
  else (32000000000000 * 2 ^ 40 / (1000000000 + s.getInt F.LT_RES_PPB_RATIO)).toNat

/-- The time that the AON ticks counted so far stand for, in ns (R136). -/
def State.slept (s : State) : Nat := s.sleepNs / 2 ^ 40

/-- The LT an entry of the trouble log takes: line time, or, while the AON controller carries it through a sleep or a warm reset,
LT_E plus the time slept (R136, R432). -/
def State.logLt (s : State) : Nat :=
  match s.ticks with
  | some _ => s.getPair R.LT_SLEEP_IN_LO + s.slept
  | none => s.lt

/-- The time spent at throttle level `n` up to now, in ns (R396). -/
def State.throttleNs (s : State) (n : Nat) : Nat :=
  (if n = 1 then s.thr.ns1 else s.thr.ns2) + (if s.throttle = n then s.lt - s.thr.levelAt else 0)

/-- Mode codes (R399). -/
abbrev mOff : Nat := 0
abbrev mPowerUp : Nat := 1
abbrev mKeyLoad : Nat := 2
abbrev mCommission : Nat := 3
abbrev mRun : Nat := 4
abbrev mWatch : Nat := 5
abbrev mChangeover : Nat := 6
abbrev mHoldover : Nat := 7
abbrev mDegraded : Nat := 8
abbrev mFaultHold : Nat := 9
abbrev mService : Nat := 10
abbrev mFactory : Nat := 11

/-- The current mode's code (R399). -/
def State.mode (s : State) : Nat := s.get F.MOD_STATUS_MODE

/-- The condition of mode `c` holds (MOD_STATUS.FLAGS: bit 16 + c of the register, R416). -/
def State.cond (s : State) (c : Nat) : Bool := s.bit F.MOD_STATUS_FLAGS (c - 2)

/-! ## Emissions -/

/-- Something leaves the module. -/
def State.emit (s : State) (e : Emission) : State := { s with out := s.out ++ [e] }

end Sys2Proof.Machine
end

