-- ==== Sys2Proof/Machine/Groups.lean ====
section
/-! DEFINITION. The churn engine's state (chapter 07) and what a GAP record in TQ t.0 does to a group's open records (R190). -/

namespace Sys2Proof.Machine

/-! ## The engine's state -/

/-- Tile `t`'s churn engine beside its registers. -/
def State.eng (s : State) (t : Nat) : ChurnSt := tabGet (fun _ => ChurnSt.rest) s.churn t

/-- The state with tile `t`'s engine set. -/
def State.setEng (s : State) (t : Nat) (x : ChurnSt) : State := { s with churn := tabSet (fun _ => ChurnSt.rest) t x s.churn }

/-- Group `g` of tile `t`. -/
def State.grp (s : State) (t g : Nat) : GroupSt := tabGet (fun _ => GroupSt.rest) (s.eng t).groups g

/-- The state with a group set. -/
def State.setGrp (s : State) (t g : Nat) (x : GroupSt) : State :=
  let c := s.eng t
  s.setEng t { c with groups := tabSet (fun _ => GroupSt.rest) g x c.groups }

/-- Stream `i`'s open record. -/
def GroupSt.openOf (x : GroupSt) (i : Nat) : Option CycRec := (x.opens.find? (fun o => o.1 == i)).map (fun o => o.2)

/-- Stream `i`'s open record replaced. -/
def GroupSt.setOpen (x : GroupSt) (i : Nat) (r : CycRec) : GroupSt := { x with opens := tabInsert i r (tabDrop i x.opens) }

/-- The latest forward crossing of position `p` (2^-32 counts) between consecutive points, newest first: its LT (R184, R231). -/
def crossing (p : Int) : List Point → Option Nat
  | b :: a :: t =>
    if a.pos * 0x100000000 < p && p ≤ b.pos * 0x100000000 then
      some (a.lt + ((p - a.pos * 0x100000000) * ((b.lt : Int) - a.lt) / ((b.pos - a.pos) * 0x100000000)).toNat)
    else crossing p (a :: t)
  | _ => none

/-- A record of channel `i` whose cycle, from its start to its end as far as that is known, a GAP's range touches carries GAP_IN (R190). -/
def CycRec.gapTouch (i : Nat) (e : GapEntry) (r : CycRec) : CycRec :=
  if r.chan == i && decide (r.startLt ≤ e.ltTo) && (match r.endLt with | some l => decide (e.ltFrom < l) | none => true) then { r with gapIn := true } else r

/-- GAP_IN of an open record of channel `i` whose cycle ends where it is said to (R190). -/
def CycRec.gapTouchAt (r : CycRec) (i : Nat) (e : GapEntry) (end_ : Option Nat) : Bool := (CycRec.gapTouch i e { r with endLt := end_ }).gapIn

/-- A GAP record in TQ t.0 covers a stream's samples (R190): the stream's records of cycles that the group has not closed and that it touches
carry GAP_IN, and so will those that its samples which still wait for a point come into. -/
def State.gapCovers (s : State) (t : Nat) (es : List GapEntry) : State :=
  es.foldl (fun (s : State) e =>
    if e.stype = tySamples then
      let i := srcStream e.source
      let g := s.get (F.CHURN_STR_GROUP t i)
      let x := s.grp t g
      let x : GroupSt := { x with waits := x.waits.map (fun (w : CycWait) => { w with recs := w.recs.map (CycRec.gapTouch i e) }) }
      let pts := tabGet (fun _ => []) (s.eng t).pts (s.get (F.CHURN_GRP_CFG_SRC t g))
      let x := match x.openOf i with
        | some r => x.setOpen i { r with gapIn := (r.gapTouchAt i e (crossing ((r.cycle + 1) * (max x.srcCpc 1 : Nat) * 0x100000000) pts)) }
        | none => x
      let s := s.setGrp t g x
      let c := s.eng t
      let l := (tabGet (fun _ => []) c.waiting i).flatMap (fun w =>
        if !w.lost && decide (e.ltFrom ≤ w.lt) && decide (w.lt ≤ e.ltTo) then [{ w with lost := true }, w] else [w])
      s.setEng t { c with waiting := tabSet (fun _ => []) i l c.waiting }
    else s) s

end Sys2Proof.Machine
end

