-- ==== Sys2Proof/Machine/Queues.lean ====
section
/-! DEFINITION. Queue operations (R298 to R306): consumers, room, offering a record, pending GAPs, reading and passing records, and the reset. -/

namespace Sys2Proof.Machine

/-- The queue of flat number `q` (R298). -/
def State.queue (s : State) (q : Nat) : Queue := tabGet (fun _ => Queue.empty) s.queues q

/-- The state with queue `q` set. -/
def State.setQueue (s : State) (q : Nat) (x : Queue) : State := { s with queues := tabSet (fun _ => Queue.empty) q x s.queues }

/-- The storage of queue `q` in bytes (R299, R300). -/
def State.qSize (s : State) (q : Nat) : Nat := s.get (F.Q_SIZE_SIZE q)

/-- The last 4 KB of every queue hold only GAP and MARK records (R297). -/
abbrev qReserve : Nat := 4096

/-- Bytes a queue holds: its complete records and the open SAMPLES records (R292). -/
def Queue.used (x : Queue) : Nat :=
  (x.recs.map Rec.length).sum + (x.opens.map (fun o => 36 + 4 * o.2.words.length)).sum

/-- Records that have ever been committed. -/
def Queue.total (x : Queue) : Nat := x.first + x.recs.length

/-- A consumer's place. -/
def Queue.consOf (x : Queue) (id : Nat) : QCons := tabGet (fun _ => QCons.start) x.cons id

/-- A consumer's place set. -/
def Queue.setCons (x : Queue) (id : Nat) (c : QCons) : Queue := { x with cons := tabSet (fun _ => QCons.start) id c x.cons }

/-- A consumer's place moved on to `n`, both copies by the same step (R304). -/
def QCons.to (c : QCons) (n : Nat) : QCons := { c with head := n, headDup := c.headDup + (n - c.head) }

/-- The two copies of a consumer's head agree (R304). -/
def QCons.agrees (c : QCons) : Bool := c.head == c.headDup

/-- The churn engine's and the core port's consumer numbers; a ladle descriptor's is `ladleCons`. -/
abbrev consChurn : Nat := 0
abbrev consCore : Nat := 1
/-- Descriptor `d` of ladle `l` as a consumer. -/
def ladleCons (l d : Nat) : Nat := 2 + 4 * l + d

/-- The ladles whose descriptors may name queue `q` as their source (R307). -/
def ladlesFor (q : Nat) : List Nat :=
  if q < 48 then [q / 6 * 4, q / 6 * 4 + 1, q / 6 * 4 + 2, q / 6 * 4 + 3] else [32, 33, 34, 35, 36, 37, 38, 39]

/-- Descriptor `d` of ladle `l` reads queue `q`. -/
def State.descReads (s : State) (q l d : Nat) : Bool :=
  s.isSet (F.LAD_D_CTL_EN l d) && s.get (F.LAD_D_CTL_SRC l d) == 0 && s.get (F.LAD_D_CTL_SRC_Q l d) == q

/-- The consumers of queue `q`, each with whether it holds (R301). -/
def State.consumers (s : State) (q : Nat) : List (Nat × Bool) :=
  (if q < 48 && (q % 6 == 0 || q % 6 == 3) then [(consChurn, true)] else [])
  ++ (if s.isSet (F.Q_CFG_CORE_EN q) then [(consCore, s.isSet (F.Q_CFG_CORE_HOLD q))] else [])
  ++ (ladlesFor q).flatMap (fun l => ([0, 1, 2, 3].filter (fun d => s.descReads q l d)).map
      (fun d => (ladleCons l d, s.isSet (F.LAD_D_CTL_HOLD l d))))

/-- How far every holding consumer has passed; with none, everything. -/
def Queue.holdHead (cs : List (Nat × Bool)) (x : Queue) : Nat :=
  (cs.filter (fun c => c.2)).foldl (fun m c => min m (x.consOf c.1).head) x.total

/-- How far every consumer has passed; with none, everything. -/
def Queue.allHead (cs : List (Nat × Bool)) (x : Queue) : Nat := cs.foldl (fun m c => min m (x.consOf c.1).head) x.total

/-- The oldest record taken away (R301, R303): a consumer that has not read it gets it in its own GAP. -/
def Queue.dropOldest (cs : List (Nat × Bool)) (x : Queue) : Queue :=
  match x.recs with
  | [] => x
  | r :: t =>
    let y := cs.foldl (fun (y : Queue) c =>
      let k := y.consOf c.1
      if k.head ≤ x.first then
        y.setCons c.1 { k.to (x.first + 1) with lost := k.lost.add r }
      else y) x
    { y with recs := t, first := x.first + 1 }

/-- Records that every consumer has passed leave the queue. -/
def Queue.compact (cs : List (Nat × Bool)) : Nat → Queue → Queue
  | 0, x => x
  | n + 1, x => if x.first < x.allHead cs && !x.recs.isEmpty then Queue.compact cs n (x.dropOldest cs) else x

/-- Records that every holding consumer has passed are taken away until at most `limit` bytes are held (R301). -/
def Queue.evict (cs : List (Nat × Bool)) (limit : Nat) : Nat → Queue → Queue
  | 0, x => x
  | n + 1, x =>
    if x.used ≤ limit then x
    else if x.first < x.holdHead cs && !x.recs.isEmpty then Queue.evict cs limit n (x.dropOldest cs) else x

/-- The streams whose records the queue holds (R299). -/
def Queue.streams (x : Queue) : List Nat := (x.recs.map Rec.key).eraseDups

/-- Event 24 + group of the queue's group (R298). -/
def State.raiseQueue (s : State) (q : Nat) : State := s.raise (24 + q / 8)

/-- The GAP stream of queue `q` (R288): 0x38 + n of the tile, or 0xF0 + n of the hub. -/
def State.qGapSource (s : State) (q : Nat) : Word :=
  if q < 48 then s.source (q / 6) (0x38 + q % 6) else s.source 7 (0xF0 + (q - 48))

/-- A GAP record of stream `src` written now (R294, R295). -/
def State.gapRec (s : State) (src : Word) (cause queue : Nat) (es : List GapEntry) : Rec :=
  { ty := tyGap, flags := s.stampFlags s.lt, source := src, seq := w32 (s.nextSeq (streamKey src tyGap)), lt := s.lt, cycle := 0#32,
    payload := gapPayload cause queue es }

/-- A record with THROTTLED added while the throttle level is 1 or 2 (R141, R291). -/
def State.carried (s : State) (r : Rec) : Rec :=
  if s.throttle = 0 then r else { r with flags := flagOn flThrottled r.flags }

/-- A record put behind the last one; both tail copies advance (R304). -/
def Queue.append (r : Rec) (size : Nat) (x : Queue) : Queue :=
  { x with recs := x.recs ++ [r], tail := (x.tail + r.length) % max size 1, tailDup := (x.tailDup + r.length) % max size 1 }

/-- What a commit tells the core port (R269, R298, R312): the consumer threshold, and for TQ t.5 that it holds a record. -/
def State.qThreshold (s : State) (q : Nat) : State :=
  if s.isSet (F.Q_CFG_CORE_EN q) then
    let x := s.queue q
    let n := x.total - max x.first (x.consOf consCore).head
    let s := if n = s.get (F.Q_CFG_EVT_N q) then s.put (F.Q_EVT_THRESH_SEEN q) 1 else s
    if q < 48 then
      if q % 6 = 5 then s.raiseTile (q / 6) 13
      else if n = s.get (F.Q_CFG_EVT_N q) then
        if q % 6 = 1 then s.raiseTile (q / 6) 10
        else if q % 6 = 2 then s.raiseTile (q / 6) 11
        else if q % 6 = 3 then s.raiseTile (q / 6) 12
        else s
      else s
    else if n = s.get (F.Q_CFG_EVT_N q) then s.raiseQueue q else s
  else s

/-- A record committed to a queue that has room for it. -/
def State.qCommit (s : State) (q : Nat) (r : Rec) : State :=
  let cs := s.consumers q
  let x := (s.queue q).append (s.carried r) (s.qSize q)
  let x := if q < 48 && (q % 6 == 0 || q % 6 == 3) then x.setCons consChurn ((x.consOf consChurn).to x.total) else x
  let x := { x with passed := if cs.all (fun c => !c.2 || c.1 == consChurn)
                              then tabSet (fun _ => 0) r.key r.lt x.passed else x.passed }
  (s.setQueue q (x.compact cs x.recs.length)).qThreshold q

/-- GAP records for these entries committed to the queue in its GAP stream, each taking the next SEQ (R289, R294). -/
def State.qWriteGaps (s : State) (q cause : Nat) : List (List GapEntry) → State
  | [] => s
  | es :: t =>
    let r := s.gapRec (s.qGapSource q) cause q es
    let s := (s.takeSeq r.key).qCommit q r
    State.qWriteGaps (if q < 48 && q % 6 == 0 then s.gapCovers (q / 6) es else s) q cause t

/-- MARK records committed in their order. -/
def State.qWriteMarks (s : State) (q : Nat) : List Rec → State
  | [] => s
  | r :: t => State.qWriteMarks (s.qCommit q r) q t

/-- The pending GAP and its kept MARK records written: the GAP first, the MARK records after it (R303). -/
def State.qWritePend (s : State) (q : Nat) (p : PendGap) : State :=
  let s := s.setQueue q { s.queue q with pend := none }
  let s := s.qWriteGaps q causeFull (gapPieces (p.entries.length + 1) p.entries)
  s.qWriteMarks q p.marks

/-- A record would make the queue hold records of more than 64 streams at once (R303). -/
def Queue.tooMany (x : Queue) (r : Rec) : Bool := !x.streams.contains r.key && x.streams.length ≥ 64

/-- The room event when storage becomes free (R269, R298, R312): raised when the free space reaches LEVEL × 64 bytes. -/
def State.qRoom (s : State) (q before : Nat) : State :=
  let lvl := s.get (F.Q_AUX_LEVEL q) * 64
  let now := s.qSize q - (s.queue q).used
  if before < lvl && lvl ≤ now then
    if q < 48 then
      if q % 6 = 4 then (s.put (F.Q_EVT_ROOM_SEEN q) 1).raiseTile (q / 6) 14 else s
    else (s.put (F.Q_EVT_ROOM_SEEN q) 1).raiseQueue q
  else s

/-- Ladle `l`: tile ladle j of tile t is 4t + j, hub ladle j is 32 + j. -/
def State.ladle (s : State) (l : Nat) : Ladle := tabGet (fun _ => Ladle.idle) s.ladles l
/-- The state with ladle `l` set. -/
def State.setLadle (s : State) (l : Nat) (x : Ladle) : State := { s with ladles := tabSet (fun _ => Ladle.idle) l x s.ladles }

/-- What a consumer reads before the record at its head: one GAP for what was taken away from it alone, and the MARKs (R297, R303). -/
def QCons.own (c : QCons) : Nat := (if c.lost.entries.isEmpty then 0 else 1) + c.lost.marks.length

/-- Triggered runs of descriptor `d` once records were taken away from it alone (R301, R310): of the `n` records left in a run those taken away are
moved no more, and the GAP and MARKs in their place are. `old` and `new` are the descriptor's places before and after. -/
def Ladle.evicted (x : Ladle) (d : Nat) (old new : QCons) : Ladle :=
  match x.runs.find? (fun r => r.1 == d) with
  | none => x
  | some (_, n) =>
    let gone := new.head - old.head
    let inRun := n - old.own
    let x := { x with runs := tabInsert d (if n ≤ old.own then n else new.own + (inRun - gone)) (tabDrop d x.runs) }
    match x.again.find? (fun r => r.1 == d) with
    | none => x
    | some (_, m) => { x with again := tabInsert d (m - (gone - inRun)) (tabDrop d x.again) }

/-- The runs of the descriptors that read queue `q`, once `old` has become the queue as it stands (R310). -/
def State.evictRuns (s : State) (q : Nat) (old : Queue) : State :=
  (ladlesFor q).foldl (fun s l => [0, 1, 2, 3].foldl (fun s d =>
    if s.descReads q l d then s.setLadle l ((s.ladle l).evicted d (old.consOf (ladleCons l d)) ((s.queue q).consOf (ladleCons l d))) else s) s) s

/-- Non-holding readers' records are taken away until `need` more bytes fit below `limit` (R301); the room event where that frees enough. -/
def State.qMakeRoom (s : State) (q need limit : Nat) : State :=
  let x := s.queue q
  if x.used + need ≤ limit then s
  else ((s.setQueue q (x.evict (s.consumers q) (limit - need) x.recs.length)).evictRuns q x).qRoom q (s.qSize q - x.used)

/-- Record `r` fits into queue `q` as it stands: outside the reserve, or anywhere for a GAP or MARK record (R297, R303). -/
def State.qFits (s : State) (q : Nat) (r : Rec) : Bool :=
  let x := s.queue q
  decide (x.used + r.length + (if r.isGapMark then 0 else qReserve) ≤ s.qSize q)
    && (r.isGapMark || !x.tooMany r) && x.pend.isNone && x.resetting.isNone

/-- One more record of a queue's content entered in the reset GAP (R304): each stream one entry, from its oldest held SEQ to its last
committed one; MARK records are kept, GAP records' entries merged. -/
def resetAdd (passed : List (Nat × Nat)) (p : PendGap) (r : Rec) : PendGap :=
  if r.isGapMark then p.addAll r
  else
    match p.entries.find? (fun e => e.source = r.source && e.stype == r.ty) with
    | some _ =>
      { p with entries := p.entries.map (fun e =>
          if e.source = r.source ∧ e.stype = r.ty then
            { e with count := (r.seq - e.firstSeq).toNat + 1, ltTo := max e.ltTo r.lt } else e) }
    | none =>
      { p with entries := p.entries ++ [{ source := r.source, stype := r.ty, firstSeq := r.seq, count := 1,
                                          ltFrom := tabGet (fun _ => r.lt) passed r.key, ltTo := r.lt }] }

/-- A record that is dropped (R303, R304): during a reset into the reset's GAP; else into the pending GAP, where the first of an episode sets
DROP_SEEN and raises the group's event. -/
def State.qDrop (s : State) (q : Nat) (r : Rec) : State :=
  let x := s.queue q
  match x.resetting with
  | some z =>
    let s' := s.setQueue q { x with resetting := some { z with gap := resetAdd x.passed z.gap r } }
    if r.isGapMark then s' else s'.incSat (F.Q_CNT0_DROPPED q)
  | none =>
    let p := x.pend.getD PendGap.empty
    let s' := s.setQueue q { x with pend := some (p.add r) }
    if r.isGapMark then s'
    else
      let s' := s'.incSat (F.Q_CNT0_DROPPED q)
      let s' := if x.tooMany r then s'.put (F.Q_EVT_STREAMS_SEEN q) 1 else s'
      if x.pend.isNone then (s'.put (F.Q_EVT_DROP_SEEN q) 1).raiseQueue q else s'

/-- The streams a queue holds once its pending GAP and MARKs are written (R303). -/
def State.qStreamsWith (s : State) (q : Nat) (p : PendGap) : List Nat :=
  ((s.queue q).streams ++ (if p.entries.isEmpty then [] else [streamKey (s.qGapSource q) tyGap]) ++ p.marks.map Rec.key).eraseDups

/-- The pending GAP is written where it fits, when record `r` is offered and fits behind it, outside the reserve and within 64 streams
(R303); answers whether it was written, so that the record is admitted directly behind it. -/
def State.qFlushFor (s : State) (q : Nat) (r : Rec) : State × Bool :=
  match (s.queue q).pend with
  | none => (s, false)
  | some p =>
    let need := p.size + r.length
    let s := (s.qMakeRoom q need (s.qSize q)).qMakeRoom q r.length (s.qSize q - (if r.isGapMark then 0 else qReserve))
    let x := s.queue q
    let l := s.qStreamsWith q p
    if x.used + need ≤ s.qSize q && x.used + r.length + (if r.isGapMark then 0 else qReserve) ≤ s.qSize q && x.resetting.isNone
        && (r.isGapMark || l.contains r.key || l.length < 64)
    then (s.qWritePend q p, true) else (s, false)

/-- A record offered to a queue (R290, R302, R303): refused where no record has its TYPE; admitted behind a pending GAP that fits with it,
or where it fits; dropped into the pending GAP otherwise. A hub queue that drains before it moves takes nothing (R411). -/
def State.qAdmit (s : State) (q : Nat) (r : Rec) : State :=
  if r.typeOk then
    if s.co.moved.contains q then s.qDrop q r
    else
    let (s, behind) := s.qFlushFor q r
    if behind then s.qCommit q r
    else
      let s := s.qMakeRoom q r.length (s.qSize q - (if r.isGapMark then 0 else qReserve))
      if s.qFits q r then s.qCommit q r else s.qDrop q r
  else s

/-- The record that consumer `id` reads next: a GAP, then the MARKs, for what was taken away from it alone, else the record at its head
(R297, R301, R303), with THROTTLED where the queue holds it at throttle level 1 or 2 (R141). -/
def State.qNext (s : State) (q id : Nat) : Option Rec :=
  let x := s.queue q
  let c := x.consOf id
  (if c.lost.entries.isEmpty then
    match c.lost.marks with
    | m :: _ => some m
    | [] => x.recs[c.head - x.first]?
  else some (s.gapRec (s.qGapSource q) causeFull q c.lost.entries)).map s.carried

/-- The record at consumer `id`'s head is passed (R301, R304): every holding consumer has now passed it where `id` holds and was the last. -/
def State.qPassHead (s : State) (q id : Nat) : State :=
  let x := s.queue q
  let c := x.consOf id
  let n := max c.head x.first
  match x.recs[c.head - x.first]? with
  | none => s
  | some r =>
    let cs := s.consumers q
    let y := x.setCons id (c.to (n + 1))
    let y := if x.holdHead cs ≤ n && decide (n < y.holdHead cs) then { y with passed := tabSet (fun _ => 0) r.key r.lt y.passed } else y
    (s.setQueue q (y.compact cs y.recs.length)).qRoom q (s.qSize q - x.used)

/-- Consumer `id` has read what `qNext` gave and passes it. -/
def State.qPass (s : State) (q id : Nat) : State :=
  let x := s.queue q
  let c := x.consOf id
  if c.lost.entries.isEmpty then
    match c.lost.marks with
    | _ :: t => s.setQueue q (x.setCons id { c with lost := ⟨[], t⟩ })
    | [] => s.qPassHead q id
  else (s.setQueue q (x.setCons id { c with lost := { c.lost with entries := [] } })).takeSeq (streamKey (s.qGapSource q) tyGap)

/-- The header of the SAMPLES record that channel `i` of tile `t` has open (R292), with the SEQ it takes. -/
def State.openHeader (s : State) (t i : Nat) (o : OpenSamples) : Rec :=
  let src := s.source t i
  { ty := tySamples, flags := 0#8, source := src, seq := w32 (s.nextSeq (streamKey src tySamples)), lt := o.lt, cycle := 0#32,
    payload := [] }

/-- The open SAMPLES records of a queue at a reset: each takes its SEQ and is entered in the GAP (R305). -/
def State.resetOpens (s : State) (q : Nat) : List (Nat × OpenSamples) → PendGap → State × PendGap
  | [], p => (s, p)
  | (i, o) :: t, p =>
    let r := s.openHeader (q / 6) i o
    State.resetOpens (s.takeSeq r.key) q t (resetAdd (s.queue q).passed p r)

/-- The GAP a reset writes (R304, R305): a reset's own already in progress, the content, the open records, and the pending GAP merged. -/
def State.resetGap (s : State) (q : Nat) : State × PendGap :=
  let x := s.queue q
  let p := x.recs.foldl (resetAdd x.passed) (match x.resetting with | some z => z.gap | none => PendGap.empty)
  let (s, p) := s.resetOpens q x.opens p
  let d := x.pend.getD PendGap.empty
  (s, ⟨d.entries.foldl (fun l e => gapMerge e l) p.entries, p.marks ++ d.marks⟩)

/-- A queue's state at a reset's end of content: pointers empty, consumers at the end (R304); a consumer's own GAP and MARKs, for what was taken away
from it before (R297, R303), stay ahead of what follows. -/
def Queue.emptied (cs : List (Nat × Bool)) (x : Queue) : Queue :=
  { x with recs := [], first := x.total, opens := [],
           cons := cs.foldl (fun l c => tabSet (fun _ => QCons.start) c.1 ⟨x.total, x.total, (x.consOf c.1).lost⟩ l) [],
           pend := none, resetting := none, push := none, pop := none, tail := 0, tailDup := 0 }

/-- A core's push and pop that run at a reset (R305): RESULT RESET and RESULT ABORTED. -/
def State.resetPorts (s : State) (q : Nat) : State :=
  let x := s.queue q
  let s := if x.push.isSome then (s.put (F.Q_PUSH_RES_BUSY q) 0).put (F.Q_PUSH_RES_RESULT q) 5 else s
  if x.pop.isSome then (s.put (F.Q_POP_RES_BUSY q) 0).put (F.Q_POP_RES_RESULT q) 2 else s

/-- A queue begins to reset (R304): its content goes into the reset's GAP, and producers' records with it until the reset ends. A second cause
during a reset only makes the CAUSE MEMORY (R305). -/
def State.qReset (s : State) (q cause : Nat) : State :=
  match (s.queue q).resetting with
  | some z => if cause = causeMemory then s.setQueue q { s.queue q with resetting := some { z with cause := causeMemory } } else s
  | none =>
    let before := s.qSize q - (s.queue q).used
    let s := s.resetPorts q
    let (s, p) := s.resetGap q
    (s.setQueue q { (s.queue q).emptied (s.consumers q) with resetting := some ⟨cause, p⟩ }).qRoom q before

/-- Both copies of the queue's tail, and of the churn engine's head where it reads the queue, agree (R304). -/
def Queue.agrees (x : Queue) : Bool := x.tail == x.tailDup && (x.consOf consChurn).agrees

/-- The copies of a queue's pointers compared as they are updated (R304): on a mismatch it resets. -/
def State.qCompare (s : State) (q : Nat) : State := if (s.queue q).agrees then s else s.qReset q causeReset

/-- The pending GAP written because the free space outside the reserve has reached 4,096 bytes (R303). -/
def State.qFlushFree (s : State) (q : Nat) : State :=
  match (s.queue q).pend with
  | none => s
  | some p =>
    let s := (s.qMakeRoom q (4096 + qReserve) (s.qSize q)).qMakeRoom q p.size (s.qSize q)
    let x := s.queue q
    if x.used + 4096 + qReserve ≤ s.qSize q && x.used + p.size ≤ s.qSize q && x.resetting.isNone then (s.qWritePend q p).qCompare q else s

/-- A record offered to a queue (R303), whose pointers' copies are compared once it is there (R304). -/
def State.qOffer (s : State) (q : Nat) (r : Rec) : State := (s.qAdmit q r).qCompare q

/-- The end of a reset but for its trouble-log entry (R304): the GAP, then the MARKs, first in the empty queue; RESET_SEEN, RESETS, the
group's event. -/
def State.qResetWrite (s : State) (q : Nat) (z : QReset) : State :=
  let s := s.setQueue q { s.queue q with resetting := none }
  let s := s.qWriteGaps q z.cause (gapPieces (z.gap.entries.length + 1) z.gap.entries)
  let s := s.qWriteMarks q z.gap.marks
  ((s.put (F.Q_EVT_RESET_SEEN q) 1).incSat (F.Q_CNT0_RESETS q)).raiseQueue q

/-- A record of one of the module's own streams takes its SEQ and is offered to one queue (R289). -/
def State.offerNew (s : State) (q : Nat) (r : Rec) : State :=
  let r := { r with seq := w32 (s.nextSeq r.key) }
  (s.takeSeq r.key).qOffer q r

/-- A record offered to several queues under one SEQ (R289). -/
def State.offerAll (s : State) (qs : List Nat) (r : Rec) : State :=
  let r := { r with seq := w32 (s.nextSeq r.key) }
  qs.foldl (fun s q => s.qOffer q r) (s.takeSeq r.key)

end Sys2Proof.Machine
end

