-- ==== Sys2Proof/Machine/Log.lean ====
section
/-! DEFINITION. The trouble log (R431 to R436) and the queue reset that writes to it. -/

namespace Sys2Proof.Machine

/-- Kinds of trouble-log entries (R433). -/
abbrev kBoot : Nat := 1
abbrev kMode : Nat := 2
abbrev kFaultHold : Nat := 3
abbrev kWarmReset : Nat := 4
abbrev kTileOut : Nat := 5
abbrev kTileBack : Nat := 6
abbrev kCoreHalt : Nat := 7
abbrev kExc : Nat := 8
abbrev kTeach : Nat := 9
abbrev kLtStep : Nat := 10
abbrev kHerdLink : Nat := 11
abbrev kAction : Nat := 12
abbrev kEncoder : Nat := 13
abbrev kActFlush : Nat := 14
abbrev kOutFault : Nat := 15
abbrev kMemUe : Nat := 16
abbrev kQueueReset : Nat := 17
abbrev kKey : Nat := 18
abbrev kTwoWire : Nat := 19
abbrev kHost : Nat := 20
abbrev kSupply : Nat := 21
abbrev kBootFail : Nat := 22
abbrev kPowerRefuse : Nat := 23
abbrev kThrottle : Nat := 24
abbrev kCommission : Nat := 25
abbrev kCalibration : Nat := 26
abbrev kUser : Nat := 27
abbrev kStoreLost : Nat := 28

/-- EVENT of an entry that no module event goes with (R432). -/
abbrev noEvent : Nat := 0xFF

/-- The entry in slot `i mod 2,048`, if entry `i` is held (R431, R434). -/
def State.logEntry (s : State) (i : Nat) : Option LogEntry :=
  match tabGet (fun _ => none) s.log (i % 2048) with
  | some e => if e.index = i % 0x100000000 then some e else none
  | none => none

/-- The LOG record of an entry (R435), without its SEQ. -/
def State.logRec (s : State) (e : LogEntry) : Rec :=
    { ty := tyLog, flags := if e.holdover then flagOn flHoldover 0#8 else 0#8, source := s.source 7 0x80, seq := 0#32, lt := e.lt,
      cycle := 0#32, payload := e.bytes }

/-- The LOG record of an entry offered to LOG_CFG.HUBQ (R435). -/
def State.logRecord (s : State) (e : LogEntry) : State := s.offerNew (48 + s.get F.LOG_CFG_HUBQ) (s.logRec e)

/-- An entry overwritten before its LOG record could leave (R435): the record takes its SEQ and goes into the queue's GAP. -/
def State.logGone (s : State) (e : LogEntry) : State :=
  let r := s.logRec e
  (s.takeSeq r.key).qDrop (48 + s.get F.LOG_CFG_HUBQ) { r with seq := w32 (s.nextSeq r.key) }

/-- An entry leaves as a LOG record where REC_EN is 1: at once while HUB is on and its queue stands, later otherwise (R435); behind a reload's GENERATION
MARKs it waits for the new generation (R408, R418). -/
def State.logOut (s : State) (e : LogEntry) : State :=
  if s.isSet F.LOG_CFG_REC_EN then
    if s.domIsOn domHub && s.co.phase != 3 && s.qSize (48 + s.get F.LOG_CFG_HUBQ) != 0 then s.logRecord e else { s with logUnsent := s.logUnsent ++ [e] }
  else s

/-- HUB is on again (R435): the waiting entries leave in INDEX order. -/
def State.logLeave (s : State) : State :=
  s.logUnsent.foldl (fun s e => match s.logEntry e.index with | some x => s.logRecord x | none => s.logGone e) { s with logUnsent := [] }

/-- A trouble-log entry is written at the next INDEX (R431, R432). -/
def State.logWrite (s : State) (kind event : Nat) (d0 d1 d2 : Word) : State :=
  let i := s.get F.LOG_NEXT_INDEX
  let e : LogEntry := { index := i, lt := s.logLt, event := event, mode := s.mode,
                        holdover := s.holdoverNow, lost := false, kind := kind, gen := s.gen,
                        d0 := d0, d1 := d1, d2 := d2 }
  let full := decide (s.get F.LOG_STAT_HELD = 2048)
  let s := { s with log := tabSet (fun _ => none) (i % 2048) (some e) s.log }
  let s := s.incWrap F.LOG_NEXT_INDEX
  let s := if full then
      (((s.incSat F.LOG_OVERWRITES_COUNT).put F.LOG_STAT_WRAPPED 1).put F.LOG_EVT_WRAP_SEEN 1).incWrap F.LOG_OLDEST_INDEX
    else s.incSat F.LOG_STAT_HELD
  s.logOut e

/-- A queue's reset ends (R304): what `qResetWrite` does, with the trouble-log entry that names its cause and its GAP entries. -/
def State.qResetEnd (s : State) (q : Nat) : State :=
  match (s.queue q).resetting with
  | none => s
  | some z => (s.qResetWrite q z).logWrite kQueueReset (24 + q / 8) (w32 (q + z.cause * 256)) (w32 z.gap.entries.length) 0#32

end Sys2Proof.Machine
end

