-- ==== Sys2Proof/Machine/LadleRuns.lean ====
section
/-! DEFINITION. Ladles' sources and rings (R307, R309) and their triggered runs (R310). -/

namespace Sys2Proof.Machine

/-- Where the byte at address `a` of ladle `l`'s view lies: an address below 0x8_0000 is in its tile's memory (R309). -/
def ladMem (l a : Nat) : Nat := if l < 32 ∧ a < 0x80000 then tileMem (l / 4) + a else a

/-- Descriptor `d` reads a ring. -/
def State.ringSource (s : State) (l d : Nat) : Bool := s.get (F.LAD_D_CTL_SRC l d) == 1

/-- The ladle's event (R269, R298, R309, R310): tile-local source 15, or event 24 + the group of the descriptor's source queue; a hub ladle's
source ring is in no group. -/
def State.ladleEvent (s : State) (l d : Nat) : State :=
  if l < 32 then s.raiseTile (l / 4) 15 else if s.ringSource l d then s else s.raiseQueue (s.get (F.LAD_D_CTL_SRC_Q l d))

/-- Descriptor `d` writes a ring. -/
def State.ringDest (s : State) (l d : Nat) : Bool := s.get (F.LAD_D_CTL_DST l d) == 1

/-- The offset of the record that stands at ring offset `o` (R309): past a padding word, or past the ring's end, it is at 0. -/
def State.ringAt (s : State) (l d o : Nat) : Nat :=
  if o ≥ s.get (F.LAD_D_RING_SIZE_SIZE l d) ∨ s.loadLe (ladMem l (s.get (F.LAD_D_RING_BASE_BASE l d) + o)) 4 = 0 then 0 else o

/-- LENGTH of the record at ring offset `o`. -/
def State.ringLen (s : State) (l d o : Nat) : Nat := s.loadLe (ladMem l (s.get (F.LAD_D_RING_BASE_BASE l d) + o) + 2) 2

/-- A LENGTH that R287 allows. -/
def lengthOk (n : Nat) : Bool := decide (28 ≤ n) && decide (n ≤ 4096) && n % 4 == 0

/-- The offset behind a record of `n` bytes at `o`. -/
def State.ringNext (s : State) (l d o n : Nat) : Nat := if o + n ≥ s.get (F.LAD_D_RING_SIZE_SIZE l d) then 0 else o + n

/-- The records between ring offset `o` and RING_WR. -/
def State.ringCount (s : State) (l d o : Nat) : Nat → Nat
  | 0 => 0
  | n + 1 =>
    if o = s.get (F.LAD_D_RING_WR_WR l d) then 0
    else
      let p := s.ringAt l d o
      let len := s.ringLen l d p
      if p = s.get (F.LAD_D_RING_WR_WR l d) then 0
      else if lengthOk len then 1 + State.ringCount s l d (s.ringNext l d p len) n else 1

/-- The complete records that descriptor `d` has still to take from its source (a GAP of its own and its MARKs count too). -/
def State.srcCount (s : State) (l d : Nat) : Nat :=
  if s.ringSource l d then s.ringCount l d (s.get (F.LAD_D_RING_RD_RD l d)) (s.get (F.LAD_D_RING_SIZE_SIZE l d) / 28 + 1)
  else
    let x := s.queue (s.get (F.LAD_D_CTL_SRC_Q l d))
    let c := x.consOf (ladleCons l d)
    x.total - max x.first c.head + c.own

/-- The records a running triggered run has still to move. -/
def State.runLeft (s : State) (l d : Nat) : Option Nat := ((s.ladle l).runs.find? (fun r => r.1 == d)).map (fun r => r.2)

/-- A triggered run of descriptor `d` with `n` records to move. -/
def State.setRunLeft (s : State) (l d n : Nat) : State :=
  let x := s.ladle l
  s.setLadle l { x with runs := tabInsert d n (tabDrop d x.runs) }

/-- A request for a triggered run (R310): it moves the records that are complete in the source now; during a run it is merged into a second
one, which moves those that are complete now and that the run does not move. -/
def State.ladleRequest (s : State) (l d : Nat) : State :=
  if s.isSet (F.LAD_D_CTL_EN l d) && s.isSet (F.LAD_D_CTL_TRIGGERED l d) then
    match s.runLeft l d with
    | some n =>
      let s := s.setBit (F.LAD_STAT_PENDING l) d
      let x := s.ladle l
      s.setLadle l { x with again := tabInsert d (s.srcCount l d - n) (tabDrop d x.again) }
    | none => s.setRunLeft l d (s.srcCount l d)
  else s

/-- The merged second run of descriptor `d` follows at once (R310). -/
def State.runAgain (s : State) (l d : Nat) : State :=
  if s.bit (F.LAD_STAT_PENDING l) d then
    let x := s.ladle l
    let n := ((x.again.find? (fun r => r.1 == d)).map (fun r => r.2)).getD 0
    let s := s.clearBit (F.LAD_STAT_PENDING l) d
    (s.setLadle l { x with again := tabDrop d x.again }).setRunLeft l d n
  else s

/-- The source queue of descriptor `d` is being reset (R304). -/
def State.srcResets (s : State) (l d : Nat) : Bool :=
  !s.ringSource l d && (s.queue (s.get (F.LAD_D_CTL_SRC_Q l d))).resetting.isSome

/-- The runs on queue `q` at its reset's end (R310): what is left is the reset GAP and the MARK records behind it; a merged second run finds
nothing more. -/
def State.resetRuns (s : State) (q : Nat) : State :=
  (ladlesFor q).foldl (fun s l => [0, 1, 2, 3].foldl (fun s d =>
    if s.descReads q l d && (s.runLeft l d).isSome then
      let s := s.setRunLeft l d (((s.queue q).consOf (ladleCons l d)).own + (s.queue q).recs.length)
      s.setLadle l { s.ladle l with again := tabDrop d (s.ladle l).again }
    else s) s) s

/-- A queue's reset ends, with the triggered runs on it (R304, R305, R310). -/
def State.qResetDone (s : State) (q : Nat) : State :=
  if (s.queue q).resetting.isSome then (s.qResetEnd q).resetRuns q else s

end Sys2Proof.Machine
end

