-- ==== Sys2Proof/Machine/Actions.lean ====
section
/-! DEFINITION. Cycle sources and estimates (R183, R184, R219, R231), the action table (R229 to R236), the outputs (R237), and
reject-unless-cleared lanes' CLEARs (R169, R170). -/

namespace Sys2Proof.Machine

/-! ## Cycle sources -/

/-- Cycle source `n` as the engines see it: a local encoder's figures come from its registers (R221), a shared source's from its
anchors (R162). -/
def State.src (s : State) (n : Nat) : Source :=
  let x := tabGet (fun _ => Source.start) s.srcs n
  if n < 4 then
    { x with cpc := s.get (F.CAP_ENC_CPC_CPC n), period := s.get (F.CAP_ENC_PERIOD_PERIOD n),
             reverse := s.isSet (F.CAP_ENC_STAT_REVERSE n), stopped := s.isSet (F.CAP_ENC_STAT_STOPPED n),
             noIndex := s.isSet (F.CAP_ENC_STAT_NO_INDEX n) }
  else x

/-- The state with source `n`'s record set. -/
def State.setSrc (s : State) (n : Nat) (x : Source) : State := { s with srcs := tabSet (fun _ => Source.start) n x s.srcs }

/-- Source `n` is available to lanes, entries and schedules: a counting encoder that has seen its index, or an available
subscription (R183, R164). -/
def State.srcAvail (s : State) (n : Nat) : Bool :=
  if n < 4 then s.isSet (F.CAP_ENC_STAT_COUNTING n) && !s.isSet (F.CAP_ENC_STAT_NO_INDEX n)
  else s.isSet (F.HERD_SUB_CFG_EN (n - 4)) && s.isSet (F.HERD_SUB_CFG_AVAILABLE (n - 4))

/-- A 32-bit cycle number extended to the cycle nearest position `near` (R219). -/
def extendCycle (cpc : Nat) (near : Int) (c : Word) : Int :=
  let k := near / (max cpc 1 : Nat)
  let d := ((c.toNat : Int) - k) % 0x100000000
  if d < 0x80000000 then k + d else k + d - 0x100000000

/-- The target position p* of a cycle and an angle, in units of 2^-32 of a count (R231). -/
def targetPos (x : Source) (c angle : Word) : Int :=
  let near := match x.pts with
    | [] => 0
    | p :: _ => p.pos
  (extendCycle x.cpc near c * 0x100000000 + angle.toNat) * x.cpc

/-- The estimate of the LT at which the source reaches `p` (R231): none while it shows STOPPED or REVERSE, has no period, or has made
no point. -/
def Source.estimate (x : Source) (p : Int) : Option Nat :=
  if x.stopped || x.reverse || x.period == 0xFFFFFFFF then none
  else
    match x.pts with
    | [] => none
    | q :: _ =>
      match crossing p x.pts with
      | some t => some t
      | none => some ((q.lt : Int) + (p - q.pos * 0x100000000) * x.period / 0x10000000000).toNat

/-! ## The table -/

/-- Entry `a` of the action table. -/
def State.act (s : State) (a : Nat) : ActEntry := tabGet (fun _ => ActEntry.free) s.acts a

/-- The state with entry `a` set. -/
def State.setAct (s : State) (a : Nat) (e : ActEntry) : State := { s with acts := tabSet (fun _ => ActEntry.free) a e s.acts }

/-- Output `n` beside its register bits. -/
def State.outSt (s : State) (n : Nat) : OutSt := tabGet (fun _ => OutSt.idle) s.outs n

/-- The state with output `n` set. -/
def State.setOut (s : State) (n : Nat) (o : OutSt) : State := { s with outs := tabSet (fun _ => OutSt.idle) n o s.outs }

/-- The first free entry from `a` on, looking at `n` entries (R229). -/
def State.freeFrom (s : State) (a : Nat) : Nat → Option Nat
  | 0 => none
  | n + 1 => if (s.act a).state = 0 then some a else State.freeFrom s (a + 1) n

/-- The first free entry of the 512. -/
def State.freeEntry (s : State) : Option Nat := s.freeFrom 0 512

/-- The modes in which the action table runs (R236). -/
def State.tableRuns (s : State) : Bool :=
  s.mode == mRun || s.mode == mWatch || s.mode == mHoldover || s.mode == mDegraded || s.mode == mChangeover

/-- The module takes no action: its mode inhibits actions, or it is in EPOCH_CONFLICT (R166, R236). -/
def State.inhibited (s : State) : Bool := !s.tableRuns || s.isSet F.LT_STAT_EPOCH_CONFLICT

/-- Output `n` belongs to an enabled lane (R166, R170). -/
def State.laneOf (s : State) (n : Nat) : Option Nat :=
  (List.range 16).find? (fun i => s.isSet (F.HERD_RUC_CFG_EN i) && s.get (F.HERD_RUC_CFG_OUTPUT i) == n)

/-- OUT_24V is missing (R40, R237). -/
def State.noSupply (s : State) : Bool := s.isSet F.OUT_FAULT_NO_SUPPLY

/-- The level of output `n` as launched edges have brought it to the contact (R232): that before the first edge still on its way, else as
commanded. -/
def State.landed (s : State) (n : Nat) : Bool :=
  match (s.outSt n).flight.find? (fun p => decide (s.lt < p.1)) with
  | some p => p.2
  | none => s.bit F.OUT_LEVEL_LEVEL n

/-- The level at output `n`'s contact: de-energised in reset, while OVERCURRENT has switched it off, and, for OUT0 to OUT15, while OUT_24V is missing
(R56, R237). -/
def State.contact (s : State) (n : Nat) : Bool :=
  s.landed n && !(s.outSt n).off && !(n < 16 && s.noSupply) && !s.booting

/-- OUT_PIN follows the contacts of outputs 0 to `n - 1`. -/
def State.pins (s : State) : Nat → State
  | 0 => s
  | n + 1 =>
    let s := State.pins s n
    if s.contact n then s.setBit F.OUT_PIN_PIN n else s.clearBit F.OUT_PIN_PIN n

/-- The contacts after a change of commands or of supply. -/
def State.drive (s : State) : State := s.pins 24

/-- Edges on their way reach their contacts (R232). -/
def State.landEdges (s : State) : State :=
  if s.outs.any (fun c => c.2.flight.any (fun p => decide (p.1 ≤ s.lt))) then
    ((List.range 24).foldl (fun s n =>
      s.setOut n { s.outSt n with flight := (s.outSt n).flight.filter (fun p => decide (s.lt < p.1)) }) s).drive
  else s

/-- The command of output `n` set to a level. -/
def State.command (s : State) (n : Nat) (level : Bool) : State :=
  (if level then s.setBit F.OUT_LEVEL_LEVEL n else s.clearBit F.OUT_LEVEL_LEVEL n).drive

/-- Outcomes of a settled entry (R235). -/
abbrev ocOnTime : Nat := 0
abbrev ocLate : Nat := 1
abbrev ocSuperseded : Nat := 2
abbrev ocSrcLost : Nat := 3
abbrev ocInhibited : Nat := 4
abbrev ocNoSupply : Nat := 5
abbrev ocOutputFault : Nat := 6
abbrev ocFlushed : Nat := 7

/-- The payload of an EVENT record (R235). -/
def EvtRec.payload (e : EvtRec) : List Byte :=
  leBytes 1 e.output ++ leBytes 1 e.outcome
    ++ leBytes 1 ((if e.entry.level then 1 else 0) + (if e.entry.target.cyc then 2 else 0) + (if e.entry.lane then 4 else 0))
    ++ leBytes 1 e.entry.origin ++ leBytes 4 e.entry.reqId.toNat ++ leBytes 8 e.entry.targetLt

/-- The EVENT record leaves into ACT_CFG.EVQ (R235). -/
def State.eventRecord (s : State) (e : EvtRec) : State :=
  s.offerNew (48 + s.get F.ACT_CFG_EVQ)
    { ty := tyEvent, flags := (if e.outcome = ocLate then flagOn flLate 0#8 else 0#8) ||| s.stampFlags e.lt, source := s.source 7 0x60, seq := 0#32,
      lt := e.lt, cycle := 0#32, payload := e.payload }

/-- EVENT records whose stamp has come and whose outcome is settled leave in stamp order (R235). -/
def State.evtFlush (s : State) : List EvtRec → State
  | [] => { s with evts := [] }
  | e :: t => if e.ready && e.lt ≤ s.lt then State.evtFlush (s.eventRecord e) t else { s with evts := e :: t }

/-- A record put in stamp order, then by output number (R233, R235). -/
def evtInsert (e : EvtRec) : List EvtRec → List EvtRec
  | [] => [e]
  | x :: t => if e.lt < x.lt ∨ (e.lt = x.lt ∧ e.output < x.output) then e :: x :: t else x :: evtInsert e t

/-- A settled entry's EVENT record, where ACT_CFG asks for one (R235). -/
def State.evtPut (s : State) (e : ActEntry) (outcome lt : Nat) (ready : Bool) : State :=
  if s.isSet F.ACT_CFG_REC_EN && (!ready || outcome != ocOnTime || s.isSet F.ACT_CFG_REC_ALL) then
    let l := evtInsert ⟨e.output, outcome, e, lt, ready⟩ s.evts
    s.evtFlush l
  else s

/-- Counters, flags and events of a settled entry (R233, R239, R241). -/
def State.settleCount (s : State) (outcome : Nat) : State :=
  if outcome = ocOnTime ∨ outcome = ocOutputFault then s
  else if outcome = ocLate then ((s.incSat F.ACT_CNT0_LATE).put F.ACT_EVT_LATE_SEEN 1).raise 44
  else if outcome = ocSuperseded then ((s.incSat F.ACT_CNT0_SUPERSEDED).put F.ACT_EVT_DISCARD_SEEN 1).raise 45
  else ((s.incSat F.ACT_CNT1_DISCARDED).put F.ACT_EVT_DISCARD_SEEN 1).raise 45

/-- Lane `n` holds fewer than its two reserve entries (R169). -/
def State.laneShort (s : State) (n : Nat) : Bool :=
  s.isSet (F.HERD_RUC_CFG_EN n) && decide ((s.acts.filter (fun c => c.2.state == 3 && c.2.laneNo == n)).length < 2)

/-- Entry `a` is freed; a lane's entry goes back to its reserve (R229, R236). -/
def State.freeAct (s : State) (a : Nat) : State :=
  let e := s.act a
  if e.lane && s.laneShort e.laneNo then s.setAct a { ActEntry.free with state := 3, lane := true, from_ := 3, output := e.output, laneNo := e.laneNo }
  else s.setAct a ActEntry.free

/-- Entry `a` is settled with an outcome at an instant. -/
def State.settle (s : State) (a outcome lt : Nat) : State :=
  let e := s.act a
  ((s.freeAct a).settleCount outcome).evtPut e outcome lt true

/-- The other entries of entry `a`'s output with its target LT, fixed or at most 2,000 ns before their launch (R232, R233). -/
def State.sameTarget (s : State) (a : Nat) : List (Nat × ActEntry) :=
  let e := s.act a
  s.acts.filter (fun c => c.1 != a && (c.2.state == 2 || (c.2.state == 1 && c.2.est && decide (c.2.launchLt ≤ s.lt + 2000)))
    && c.2.output == e.output && c.2.targetLt == e.targetLt)

/-- An edge of output `n` executes (R232, R234, R237): the command, the emission at the contact, SHORT_PULSES, and its fault bit, which a
retry keeps until its outcome is settled. -/
def State.edge (s : State) (n : Nat) (level : Bool) (target : Nat) : State :=
  let o := s.outSt n
  let at_ := s.lt + s.outDly n
  let was := s.bit F.OUT_LEVEL_LEVEL n
  let changes := was != level || (o.off && level)
  let short := changes && match o.lastEdge with
    | some t => decide (at_ - t < (if n < 16 then 20000 else 20))
    | none => false
  let s := if short then s.incSat F.OUT_CNT_SHORT_PULSES else s
  let s := s.setOut n { o with lastTarget := some target, lastEdge := if changes then some at_ else o.lastEdge, off := o.off && !level,
                               flight := o.flight ++ [(at_, was)] }
  let s := if o.off && level then s else s.clearBit F.OUT_FAULT_FAULT n
  (s.command n level).emit (.edge n level at_)

/-- Entry `a` falls due and executes or is discarded (R232 to R234, R237, R40); of the entries with its target LT the one entered last
executes. -/
def State.execute (s : State) (a : Nat) (late : Bool) : State :=
  let e := s.act a
  let o := s.outSt e.output
  let older := match o.lastTarget with
    | some t => decide (e.targetLt < t)
    | none => false
  if (s.sameTarget a).any (fun c => decide (e.order < c.2.order)) || (late && older) then s.settle a ocSuperseded s.lt
  else if s.inhibited then s.settle a ocInhibited s.lt
  else if e.output < 16 && s.noSupply then s.settle a ocNoSupply s.lt
  else
    let oc := if late then ocLate else ocOnTime
    let at_ := s.lt + s.outDly e.output
    let s' := (s.sameTarget a).foldl (fun s c => s.settle c.1 ocSuperseded s.lt) s
    let s' := s'.edge e.output e.level e.targetLt
    let s' := if e.lane && (e.level == s.isSet (F.HERD_RUC_CFG_REJ_LEVEL e.laneNo)) then s'.incSat (F.HERD_RUC_CNT_REJECTS e.laneNo) else s'
    if o.off && e.level then
      let s' := s'.setOut e.output { s'.outSt e.output with retry := some ⟨{ e with late := late }, at_⟩ }
      (s'.freeAct a).evtPut e oc at_ false
    else s'.settle a oc at_

/-- Table indexes put in order of target LT, then of output. -/
def State.byTarget (s : State) (a : Nat) : List Nat → List Nat
  | [] => [a]
  | b :: l =>
    if (s.act a).targetLt < (s.act b).targetLt ∨ ((s.act a).targetLt = (s.act b).targetLt ∧ (s.act a).output < (s.act b).output) then a :: b :: l
    else b :: State.byTarget s a l

/-- Entries executed LATE, in the order of their targets (R130, R233). -/
def State.executeLate (s : State) (l : List Nat) : State :=
  (l.foldr s.byTarget []).foldl (fun s a => if (s.act a).state = 0 ∨ (s.act a).state = 3 then s else s.execute a true) s

/-- A new estimate of entry `a`'s target LT (R231, R232). -/
def State.estimateAct (s : State) (a : Nat) : State :=
  let e := s.act a
  let x := s.src e.target.src
  match x.estimate (targetPos x e.target.cycle e.target.angle) with
  | none => s.setAct a { e with est := false }
  | some t => s.setAct a { e with est := true, targetLt := t, launchLt := t - s.outDly e.output }

/-- Entry `a` is estimated, and its launch instant is at or before the present LT. -/
def State.actDue (s : State) (a : Nat) : Bool := (s.act a).est && decide ((s.act a).launchLt ≤ s.lt)

/-- A new estimate of entry `a`; at or before the present LT it executes LATE (R233). -/
def State.estimate (s : State) (a : Nat) : State :=
  let s := s.estimateAct a
  if s.actDue a then s.execute a true else s

/-- The entries that wait on source `n`. -/
def State.waitingOn (s : State) (n : Nat) : List Nat :=
  (s.acts.filter (fun c => c.2.state == 1 && c.2.target.cyc && c.2.target.src == n)).map (fun c => c.1)

/-- Every waiting entry of source `n` is estimated again, at a new point or anchor (R231). -/
def State.reestimate (s : State) (n : Nat) : State :=
  let s := (s.waitingOn n).foldl State.estimateAct s
  s.executeLate ((s.waitingOn n).filter s.actDue)

/-- Source `n` becomes unavailable: its entries that are not fixed are discarded (R233). -/
def State.srcLost (s : State) (n : Nat) : State :=
  (s.waitingOn n).foldl (fun s a => s.settle a ocSrcLost s.lt) s

/-- Result codes of an action entry (R166, R167). -/
abbrev rsEntered : Nat := 0
abbrev rsLate : Nat := 1
abbrev rsFull : Nat := 2
abbrev rsNoSource : Nat := 3
abbrev rsBadOutput : Nat := 4
abbrev rsBadRequest : Nat := 5
abbrev rsTooLate : Nat := 6
abbrev rsOutOfWindow : Nat := 7
abbrev rsNotArmed : Nat := 8
abbrev rsInhibited : Nat := 9
abbrev rsConflict : Nat := 10
abbrev rsStale : Nat := 11
abbrev rsLost : Nat := 12

/-- A request for an own output (R229): output, level, target, requester, which of the four places it comes from, REQ_ID. -/
structure ActAsk where
  output : Nat
  level : Bool
  target : Target
  origin : Nat
  from_ : Nat
  reqId : Word
  deriving DecidableEq, Repr

/-- Whether an asked entry's launch instant is already past at entry (R233). -/
def State.askLate (s : State) (r : ActAsk) : Bool :=
  if r.target.cyc then
    let x := s.src r.target.src
    match x.estimate (targetPos x r.target.cycle r.target.angle) with
    | some t => decide (t - s.outDly r.output ≤ s.lt)
    | none => false
  else decide (r.target.lt - s.outDly r.output ≤ s.lt)

/-- The result an asked entry gets (R166, R229, R231). -/
def State.askResult (s : State) (r : ActAsk) : Nat :=
  if s.inhibited then rsInhibited
  else if r.output > 23 || ((s.laneOf r.output).isSome && r.from_ != 3) then rsBadOutput
  else if r.target.cyc && (r.target.src > 7 || !s.srcAvail r.target.src) then rsNoSource
  else if s.freeEntry.isNone then rsFull
  else if s.askLate r then rsLate else rsEntered

/-- An entry placed at `a` (R229, R231): an LT target is fixed at once, a cycle-angle target is estimated. -/
def State.placeAct (s : State) (a : Nat) (r : ActAsk) (lane : Bool) (laneNo : Nat) : State :=
  let e : ActEntry := { output := r.output, level := r.level, lane := lane, state := if r.target.cyc then 1 else 2, target := r.target,
                        origin := r.origin, from_ := r.from_, reqId := r.reqId, est := !r.target.cyc,
                        targetLt := if r.target.cyc then 0 else r.target.lt,
                        launchLt := if r.target.cyc then 0 else r.target.lt - s.outDly r.output,
                        late := false, order := s.actOrder, laneNo := laneNo }
  let s := { s.setAct a e with actOrder := s.actOrder + 1 }
  let s := s.put F.ACT_STAT_PEAK (max (s.get F.ACT_STAT_PEAK) s.acts.length)
  if r.target.cyc then s.estimate a
  else if e.launchLt ≤ s.lt then s.execute a true else s

/-- An entry asked of the own table takes effect: placed, or refused with no effect but TABLE_FULL's count and event (R229, R239). -/
def State.askOwn (s : State) (r : ActAsk) : State :=
  let res := s.askResult r
  if res = rsFull then ((s.incSat F.ACT_CNT1_TABLE_FULL).put F.ACT_EVT_FULL_SEEN 1).raise 45
  else if res = rsEntered ∨ res = rsLate then
    match s.freeEntry with
    | some a => s.placeAct a r false 0
    | none => s
  else s

/-- The flush of R236 at mode `m`: every entry that holds a target is discarded as FLUSHED; lane reserves stay; one trouble-log entry says how
many, if any. -/
def State.flushAs (s : State) (m : Nat) : State :=
  let l := (s.acts.filter (fun c => c.2.state == 1 || c.2.state == 2)).map (fun c => c.1)
  let s := l.foldl (fun s a => s.settle a ocFlushed s.lt) s
  if l.isEmpty then s else s.logWrite kActFlush 45 (w32 l.length) (w32 m) 0#32

/-- The flush of R236 in the current mode. -/
def State.flushActs (s : State) : State := s.flushAs s.mode

/-- The commands of all outputs set to one pattern of 24 bits, at once. -/
def State.commandAll (s : State) (levels : Nat) : State :=
  let s := (List.range 24).foldl (fun s n => s.setOut n { s.outSt n with flight := [] }) s
  (s.put F.OUT_LEVEL_LEVEL levels).drive

/-! ## Lanes (R169, R170) -/

/-- Lane `n` beside its registers. -/
def State.lane (s : State) (n : Nat) : Lane := tabGet (fun _ => Lane.start) s.herd.lanes n

/-- The state with lane `n` set. -/
def State.setLane (s : State) (n : Nat) (l : Lane) : State :=
  { s with herd := { s.herd with lanes := tabSet (fun _ => Lane.start) n l s.herd.lanes } }

/-- The decision instant of cycle `c` of lane `n` is still to come (R169); without an estimate, while the position is still ahead. -/
def State.laneAhead (s : State) (n : Nat) (c : Word) : Bool :=
  let x := s.src (s.get (F.HERD_RUC_CFG_SRC n))
  let p := targetPos x c (s.rd (R.HERD_RUC_ON n))
  match x.estimate p with
  | some t => decide (s.lt < t - s.get (F.HERD_RUC_CFG_GUARD_US n) * 1000)
  | none => match x.pts with
    | [] => true
    | q :: _ => decide (q.pos * 0x100000000 < p)

/-- The first cycle from `c` on whose decision instant is still to come. -/
def State.laneSeek (s : State) (n : Nat) (c : Word) : Nat → Word
  | 0 => c
  | k + 1 => if s.laneAhead n c then c else State.laneSeek s n (c + 1#32) k

/-- The lane's present cycle: the one whose decision instant is the next to come, from the newest point of its source (R169). -/
def State.laneCycle (s : State) (n : Nat) : Word :=
  let x := s.src (s.get (F.HERD_RUC_CFG_SRC n))
  let k : Int := match x.pts with
    | [] => 0
    | q :: _ => q.pos / (max x.cpc 1 : Nat)
  s.laneSeek n (BitVec.ofInt 32 (k - 1)) 64

/-- The lane a CLEAR is for (R166 NOT_ARMED, R169): enabled, with this output, source and clearer. -/
def State.clearLane (s : State) (output src clearer : Nat) : Option Nat :=
  (List.range 16).find? (fun n => s.isSet (F.HERD_RUC_CFG_EN n) && s.get (F.HERD_RUC_CFG_OUTPUT n) == output
    && s.get (F.HERD_RUC_CFG_SRC n) == src && s.get (F.HERD_RUC_CFG_CLEARER n) == clearer)

/-- The result a CLEAR gets (R166, R169). -/
def State.clearResult (s : State) (output src clearer : Nat) (c : Word) : Nat :=
  if s.inhibited then rsInhibited
  else match s.clearLane output src clearer with
    | none => rsNotArmed
    | some n =>
      if !s.srcAvail src then rsNoSource
      else
        let d := (c - s.laneCycle n).toNat
        if d ≤ 63 then rsEntered else if d ≤ 0x7FFFFFFF then rsOutOfWindow else rsTooLate

/-- A CLEAR takes effect: an ENTERED one is kept for its cycle, a TOO_LATE one is counted (R169, R170). -/
def State.clearAct (s : State) (output src clearer : Nat) (c : Word) : State :=
  match s.clearLane output src clearer with
  | none => s
  | some n =>
    let res := s.clearResult output src clearer c
    if res = rsEntered then
      let l := s.lane n
      s.setLane n { l with clears := if l.clears.contains c then l.clears else l.clears ++ [c] }
    else if res = rsTooLate then s.incSat (F.HERD_RUC_CNT_LATE_CLEARS n)
    else s

/-- A reserve entry of lane `n`, or, when both are armed, a free entry. -/
def State.laneSlot (s : State) (n : Nat) : Option Nat :=
  match s.acts.find? (fun c => c.2.state == 3 && c.2.laneNo == n) with
  | some c => some c.1
  | none => s.freeEntry

/-- One entry of lane `n`'s pulse placed (R169). -/
def State.laneArm (s : State) (n : Nat) (level : Bool) (c angle : Word) : State :=
  match s.laneSlot n with
  | none => s
  | some a =>
    s.placeAct a { output := s.get (F.HERD_RUC_CFG_OUTPUT n), level := level,
                   target := ⟨true, 0, s.get (F.HERD_RUC_CFG_SRC n), c, angle⟩, origin := s.line, from_ := 3, reqId := 0#32 } true n

/-- The decision instant of the lane's next cycle by its source's last estimate (R169): the cycle after the last one decided, else the present one. -/
def State.laneInstant (s : State) (n : Nat) : Option Nat :=
  let x := s.src (s.get (F.HERD_RUC_CFG_SRC n))
  let c := match (s.lane n).done with
    | some d => d + 1#32
    | none => s.laneCycle n
  (x.estimate (targetPos x c (s.rd (R.HERD_RUC_ON n)))).map (fun t => t - s.get (F.HERD_RUC_CFG_GUARD_US n) * 1000)

/-- A decision instant that never comes. -/
abbrev laneNever : Nat := 2 ^ 64

/-- Lane `n` notes the decision instant that was to come when its source went away (R170); what it has decided counts no longer once the source is back. -/
def State.laneWait (s : State) (n : Nat) : State := s.setLane n { s.lane n with due := s.laneInstant n, done := none }

/-- Lane `n`'s output held at REJ_LEVEL for want of its source (R170); a mode that inhibits actions keeps its own rule. -/
def State.laneHold (s : State) (n : Nat) : State :=
  let s := s.setLane n { s.lane n with held := true, done := none, due := none }
  if s.tableRuns then
    s.edge (s.get (F.HERD_RUC_CFG_OUTPUT n)) (s.isSet (F.HERD_RUC_CFG_REJ_LEVEL n)) s.lt
  else s

/-- An entry of the table reserved for lane `n`, where one is free. -/
def State.laneReserve (s : State) (n : Nat) : State :=
  match s.freeEntry with
  | some a => s.setAct a { ActEntry.free with state := 3, lane := true, from_ := 3, output := s.get (F.HERD_RUC_CFG_OUTPUT n), laneNo := n }
  | none => s

/-- Lane `n` takes its two reserve entries and starts (R169, R170): with its source unavailable its output is held at REJ_LEVEL. -/
def State.laneStart (s : State) (n : Nat) : State :=
  let s := ((s.laneReserve n).laneReserve n).setLane n Lane.start
  let s := s.put F.ACT_STAT_PEAK (max (s.get F.ACT_STAT_PEAK) s.acts.length)
  if s.srcAvail (s.get (F.HERD_RUC_CFG_SRC n)) then s else s.laneHold n

end Sys2Proof.Machine
end

