-- ==== Sys2Proof/Machine/Modes.lean ====
section
/-! DEFINITION. The operating mode (R397 to R399): conditions, precedence, the change of mode with its trouble-log entry and its output and
action-table rules (R236). -/

namespace Sys2Proof.Machine

/-- The conditions from the highest precedence down (R397). -/
def modeOrder : List Nat :=
  [mFaultHold, mFactory, mService, mCommission, mKeyLoad, mChangeover, mHoldover, mDegraded, mWatch, mRun]

/-- The mode the conditions give (R397); with none, the mode stays. -/
def State.modeDue (s : State) : Nat :=
  if s.booting then mPowerUp else (modeOrder.find? (fun c => s.cond c)).getD s.mode

/-- What a mode's entry does to the outputs and the action table (R236). -/
def State.modeOutputs (s : State) (m : Nat) : State :=
  if m = mKeyLoad ∨ m = mFactory ∨ m = mService ∨ m = mFaultHold then s.flushActs.commandAll s.com.sense
  else if m = mCommission ∨ m = mPowerUp then s.flushActs.commandAll 0
  else s

/-- The current mode follows the conditions (R398): a change writes MOD_ENTER_LT, the new mode's rules apply, and a trouble-log entry, behind that of a flush,
says so (R431). -/
def State.modeSettle (s : State) : State :=
  let new := s.modeDue
  let old := s.mode
  if new = old then s
  else
    let s := ((s.put F.MOD_STATUS_MODE new).putPair R.MOD_ENTER_LT_LO s.logLt).modeOutputs new
    s.logWrite kMode noEvent (w32 (old + 16 * new)) (s.rd R.MOD_STATUS) 0#32

/-- Every condition for holding HEALTHY_N low holds (R462). -/
def State.healthyMay (s : State) : Bool :=
  let m := s.mode
  let k := s.get F.SVC_CFG_KICK_MS
  s.isSet F.MOD_STATUS_RECIPE
    && (m == mRun || m == mHoldover || (m == mWatch && s.isSet F.SVC_CFG_WATCH_OK) || (m == mChangeover && s.isSet F.SVC_CFG_CHANGEOVER_OK)
        || (m == mDegraded && s.isSet F.SVC_CFG_DEGRADED_OK))
    && !s.isSet F.SVC_STAT_TAKEN && !s.cond mFaultHold && !s.cond mFactory && !s.cond mService && !s.cond mCommission
    && (k == 0 || (match s.svc.kickAt with | some a => decide (s.logLt ≤ a + k * 1000000) | none => false))
    && !(s.get F.PWR_STAGE_FLAGS).testBit 5 && !(s.get F.PWR_STAGE_FLAGS).testBit 2

/-- HEALTHY_N follows its conditions (R462): a release stands for at least 10 ms. -/
def State.healthySettle (s : State) : State :=
  let held := s.isSet F.SVC_STAT_HEALTHY
  if s.healthyMay then
    let free := match s.svc.releaseAt with | some a => decide (a + 10000000 ≤ s.logLt) | none => true
    if !held && free then s.put F.SVC_STAT_HEALTHY 1 else s
  else if held then
    { ((s.put F.SVC_STAT_HEALTHY 0).put F.SVC_EVT_RELEASE_SEEN 1).incSat F.SVC_CNT_RELEASES with svc := { s.svc with releaseAt := some s.logLt } }
  else s

/-- The condition of mode `c` set or cleared (R398, R416). -/
def State.setCond (s : State) (c : Nat) (b : Bool) : State :=
  (if b then s.setBit F.MOD_STATUS_FLAGS (c - 2) else s.clearBit F.MOD_STATUS_FLAGS (c - 2)).modeSettle.healthySettle

/-- The RUN condition and RECIPE: a generation runs (R398, R416). -/
def State.setRun (s : State) (b : Bool) : State := (s.putB F.MOD_STATUS_RECIPE b).setCond mRun b

/-- The service state of tile `t`: 0 no sections, 1 in service, 2 out of service, 3 reloading (R416). -/
def State.tileState (s : State) (t : Nat) : Nat := s.get (F.MOD_TILE_STATE t)

/-- The service state of tile `t` set; DEGRADED holds while a tile with sections is out of service (R398). -/
def State.setTile (s : State) (t st : Nat) : State :=
  let s := s.put (F.MOD_TILE_STATE t) st
  s.setCond mDegraded ((List.range 8).any (fun u => s.tileState u == 2))

/-- HOLDOVER entered or left (R134, R398, R142): the status bit, its event, the mode's condition. -/
def State.setHoldover (s : State) (b : Bool) : State :=
  if s.isSet F.LT_STAT_HOLDOVER = b then s
  else
    let s := (s.putB F.LT_STAT_HOLDOVER b).raise 41
    let s := if b then ((s.put F.LT_EVT_HOLD_IN_SEEN 1).incSat F.LT_CNT_HOLDOVERS) else s.put F.LT_EVT_HOLD_OUT_SEEN 1
    s.setCond mHoldover b

end Sys2Proof.Machine
end

