-- ==== Sys2Proof/Machine/HerdSend.lean ====
section
/-! DEFINITION. What a module originates on the Herd link (R144, R147, R149, R165 to R168): frames, the own requests and the 16 unanswered
ACTION frames. -/

namespace Sys2Proof.Machine

/-- Port states (R182). -/
abbrev pOff : Nat := 0
abbrev pNoSignal : Nat := 1
abbrev pCrossed : Nat := 2
abbrev pWrong : Nat := 3
abbrev pTraining : Nat := 4
abbrev pCalibrating : Nat := 5
abbrev pUp : Nat := 6

/-- The STATE field of a port. -/
def portState (portB : Bool) : Fld := F.HERD_PORT_STATE portB.toNat
/-- The WRAPPED field of a port. -/
def portWrap (portB : Bool) : Fld := F.HERD_PORT_WRAPPED portB.toNat
/-- HERD_STAT's copy of a port's WRAPPED. -/
def statWrap (portB : Bool) : Fld := if portB then F.HERD_STAT_WRAP_B else F.HERD_STAT_WRAP_A

/-- The port is wrapped. -/
def State.wrapped (s : State) (portB : Bool) : Bool := s.isSet (portWrap portB)

/-- Module events 8 to 15 with their bit of HERD_EVT (R181, R182). -/
def State.raiseHerd (s : State) (seen : Fld) (n : Nat) : State := (s.put seen 1).raise n

/-- A frame error counted (R181). -/
def State.frameErr (s : State) : State := s.raiseHerd F.HERD_EVT_FRAME_ERR_SEEN 15

/-! ## The ports' sending side (R151, R168, R171) -/

/-- A port beside its registers. -/
def State.port (s : State) (portB : Bool) : PortSt := if portB then s.herd.portB else s.herd.portA
/-- The state with a port set. -/
def State.setPort (s : State) (portB : Bool) (p : PortSt) : State :=
  { s with herd := if portB then { s.herd with portB := p } else { s.herd with portA := p } }

/-- The time that the Herd ports count by: line time, or the port-time counter while HERD is in retention (R371). -/
def State.portNow (s : State) : Nat := if s.dom domHerd = domRet then s.herd.portLt else s.lt

/-- The next waiting frame that may leave a port before what it sends now (R151): of the lowest class below that of the frame in transmission, in the order
received or formed; a class 0 frame whose instant has not come lets the others of its class pass. -/
def PortTx.next (x : PortTx) (now : Nat) (sending : List TxFrame) : Option TxFrame :=
  let below : Nat := match sending with
    | [] => 4
    | f :: _ => f.frame.body.cls
  [0, 1, 2, 3].findSome? (fun c =>
    if below ≤ c then none
    else
      let l := x.waiting.filter (fun f => f.frame.body.cls == c)
      if c = 0 then l.find? (fun f => decide (f.from_ ≤ now)) else l.head?.filter (fun f => decide (f.from_ ≤ now)))

/-- A port's sending side at this instant (R129, R148, R151): a frame that has ended gives way to the next one or to the frame it had suspended; a frame of a lower
class suspends the one in transmission. -/
def State.txStep (s : State) (portB : Bool) : State :=
  let p := s.port portB
  let x := p.tx
  let now := s.vco
  let ended := !x.sending.isEmpty && decide (x.until_ ≤ now)
  let sending := if ended then x.sending.drop 1 else x.sending
  match x.next now sending with
  | some f =>
    let held := if ended then sending else match sending with
      | [] => []
      | g :: t => { g with left := x.until_ - now } :: t
    let s := if !ended && !sending.isEmpty then s.emit (.suspend portB s.portNow) else s
    (s.setPort portB { p with tx := ⟨x.waiting.erase f, f :: held, now + vcoNs * (f.frame.ns + idleNs)⟩ }).emit (.frame portB s.portNow f.frame f.how)
  | none =>
    if ended then
      match sending with
      | [] => s.setPort portB { p with tx := { x with sending := [] } }
      | g :: t => (s.setPort portB { p with tx := { x with sending := g :: t, until_ := now + g.left } }).emit (.resume portB s.portNow)
    else s

/-- Both ports' sending sides. -/
def State.txTick (s : State) : State :=
  let go (portB : Bool) (s : State) : State := if (s.port portB).tx = .idle then s else s.txStep portB
  go true (go false s)

/-- How many frames of a class a port's buffer holds (R168: 1,024 of class 1; R171). -/
def portRoom (cls : Nat) : Nat := if cls = 1 then 1024 else Config.portBuffer cls + 1

/-- A frame is put to a port (R151, R171): it leaves at once where it may, or waits; with the buffer of its class full it is dropped and counted in
FWD_DROP. Link-local and other class 0 frames always find room. -/
def State.txPut (s : State) (portB : Bool) (f : TxFrame) : State :=
  let p := s.port portB
  let c := f.frame.body.cls
  if c != 0 && decide (portRoom c ≤ (p.tx.waiting.filter (fun g => g.frame.body.cls == c)).length) then
    (s.incSat F.HERD_CNT2_FWD_DROP).frameErr
  else (s.setPort portB { p with tx := { p.tx with waiting := p.tx.waiting ++ [f] } }).txStep portB

/-- A ring frame is put to a port, or to the other port with WRAPPED set where that port is wrapped (R144), to leave from an instant on; with both wrapped there
is no ring to leave on. -/
def State.sendOn (s : State) (portB : Bool) (f : Frame) (how : CopyEnd) (from_ : Nat) : State :=
  if !s.wrapped portB then s.txPut portB ⟨f.seal, how, from_, 0⟩
  else if !s.wrapped (!portB) then s.txPut (!portB) ⟨({ f with wrapped := true } : Frame).seal, how, from_, 0⟩
  else s

/-- The module originates frames: a ring role, HERD on (R147). -/
def State.originates (s : State) : Bool := s.role != 3 && s.domIsOn domHerd

/-- FSEQ of the next own frame of a class (R149, R173). -/
def State.fseqOf (s : State) (cls : Nat) : Nat := tabGet (fun _ => 0) s.herd.fseq cls

/-- A new own frame leaves (R144, R149): it takes the next FSEQ of its class. -/
def State.herdSend (s : State) (dest : Nat) (bcast : Bool) (body : Body) : State :=
  if s.originates then
    let c := body.cls
    let n := s.fseqOf c
    let f := Frame.form s.line dest bcast (w32 n) body
    let s := { s with herd := { s.herd with fseq := tabSet (fun _ => 0) c (n + 1) s.herd.fseq } }
    s.sendOn false f .good s.vco
  else s

/-- The requests still waiting to leave. -/
def State.unsent (s : State) : List PendReq := s.herd.reqs.filter (fun r => r.sent.isNone)

/-- One more ACTION frame leaves where one may: the waiting requests of one batch to one address, at most 8 (R165, R168). -/
def State.sendOne (s : State) : State :=
  match s.unsent with
  | [] => s
  | r :: t =>
    if s.herd.frames.length < 16 && s.originates && !s.domAgreed domHerd && !s.isSet F.HERD_STAT_ADDR_CONFLICT then
      let l := (r :: t.filter (fun q => q.batch == r.batch && q.dest == r.dest)).take 8
      let fs := w32 (s.fseqOf 1)
      let ids := l.map (fun q => q.req.reqId)
      let s := s.herdSend r.dest false (.action (l.map (fun q => q.req)))
      { s with herd := { s.herd with
          frames := s.herd.frames ++ [⟨fs, s.lt, ids⟩]
          reqs := s.herd.reqs.map (fun q => if ids.contains q.req.reqId && q.sent.isNone then { q with sent := some (fs, s.lt) } else q) } }
    else s

/-- Waiting requests leave while they may (R168). -/
def State.sendReqs (s : State) : Nat → State
  | 0 => s
  | n + 1 => State.sendReqs s.sendOne n

/-- One new own request takes the next REQ_ID (R165) and waits to leave. -/
def State.askOne (s : State) (dest slot batch : Nat) (r : ActReq) : State :=
  let n := s.herd.reqNext
  let p : PendReq := { req := { r with reqId := w32 n }, dest := dest, slot := slot, batch := batch, tries := 0, sent := none }
  { s with herd := { s.herd with reqNext := n + 1, reqs := s.herd.reqs ++ [p] } }

/-- New own requests to one address (R165): each takes the next REQ_ID, and they leave as one batch. -/
def State.askHerd (s : State) (dest slot : Nat) (l : List ActReq) : State :=
  let b := s.herd.batchNext
  let s := { s with herd := { s.herd with batchNext := b + 1 } }
  let s := l.foldl (fun s r => s.askOne dest slot b r) s
  s.sendReqs l.length

/-- SRC byte of an ACTION entry's cycle source (R165, R207): a local source by the own address, a shared one by its owner. -/
def State.ownerOf (s : State) (src : Nat) : Nat × Nat :=
  if src < 4 then (s.line, src) else (s.get (F.HERD_SUB_CFG_OWNER (src - 4)), s.get (F.HERD_SUB_CFG_OWNER_SRC (src - 4)))

end Sys2Proof.Machine
end

