-- ==== Sys2Proof/Machine/Fold.lean ====
section
/-! DEFINITION. The churn engine's folding (R183 to R193): positions, bins, the start and close of cycles, CYCLE records. -/

namespace Sys2Proof.Machine

/-- The group's cycle source (R183). -/
def State.grpSrc (s : State) (t g : Nat) : Nat := s.get (F.CHURN_GRP_CFG_SRC t g)

/-- Cycle source `n` is available to tile `t`'s groups (R183): a local encoder's counted edges must also be routed to TQ t.3. -/
def State.srcAvailTo (s : State) (t n : Nat) : Bool := s.srcAvail n && (n ≥ 4 || s.bit (F.CAP_ENC_CFG_TILES n) t)

/-- The source as the engine has it: the points that have arrived (R184). -/
def State.srcView (s : State) (t n : Nat) : Source := { s.src n with pts := tabGet (fun _ => []) (s.eng t).pts n }

/-- The folded streams of a group (R186). -/
def State.foldedIn (s : State) (t g : Nat) : List Nat :=
  (List.range 16).filter (fun i => s.isSet (F.CHURN_STR_FOLD_EN t i) && s.get (F.CHURN_STR_GROUP t i) == g)

/-- Bins per cycle of a group (R211: 64 for code 0, doubling). -/
def State.binsOf (s : State) (t g : Nat) : Nat := 64 * 2 ^ s.get (F.CHURN_GRP_CFG_BINS t g)

/-- A counted-edge source's counts per cycle, at least 1. -/
def Source.cpc1 (x : Source) : Nat := max x.cpc 1

/-! ## Positions (R184) -/

/-- The position at LT `t` and whether a point it rests on shows HOLDOVER: none where the points do not reach `t` on both sides. -/
def posAt (t : Nat) : List Point → Option (Pos × Bool)
  | [] => none
  | [b] => if b.lt = t then some (⟨b.pos, 1⟩, b.hold) else none
  | b :: a :: l =>
    if b.lt = t then some (⟨b.pos, 1⟩, b.hold)
    else if a.lt < t ∧ t < b.lt then
      some (⟨a.pos * ((b.lt : Int) - a.lt) + (b.pos - a.pos) * ((t : Int) - a.lt), b.lt - a.lt⟩, a.hold || b.hold)
    else posAt t (a :: l)

/-- The source holds a point stamped at or after `t` (R185). -/
def pointAfter (t : Nat) (l : List Point) : Bool := l.any (fun p => t ≤ p.lt)

/-- The cycle a position lies in (R184). -/
def Pos.cycle (p : Pos) (cpc : Nat) : Int := p.num / ((p.den * cpc : Nat) : Int)

/-- The angle of a position in units of 2^-32 of a cycle, truncated (R184). -/
def Pos.angle (p : Pos) (cpc : Nat) : Nat :=
  ((p.num - p.cycle cpc * (p.den * cpc : Nat)) * 0x100000000 / ((p.den * cpc : Nat) : Int)).toNat

/-- Position `p` is not above position `q`. -/
def Pos.le (p q : Pos) : Bool := decide (p.num * q.den ≤ q.num * p.den)

/-- The LT at which the source reached the start of cycle `k` (R191), by R184. -/
def startOf (x : Source) (k : Int) : Option Nat := crossing (k * x.cpc1 * 0x100000000) x.pts

/-! ## Bins (R188, R189) -/

/-- A sample word's code (R292), signed. -/
def wordCode (w : Word) : Int := (w.setWidth 24).toInt

/-- A sample added to its bin (R188, R189, R194): excluded ones are placed and marked only. -/
def BinAcc.add (b : BinAcc) (w : Word) (angle : Nat) (hold : Bool) : BinAcc :=
  let v := wordCode w
  let settle := w.getLsbD 25
  let exc := w.getLsbD 27
  let b := { b with placed := b.placed + 1, settling := b.settling || settle, exc := b.exc || exc }
  if settle || exc then b
  else
    let a := angle / 256
    let b := { b with stitched := b.stitched || w.getLsbD 24, overrange := b.overrange || w.getLsbD 26,
                      holdover := b.holdover || w.getLsbD 28 || hold }
    if b.added = 0 then { b with sum := v, min := v, max := v, minAt := a, maxAt := a, added := 1 }
    else { b with sum := b.sum + v, added := b.added + 1,
                  min := if v < b.min then v else b.min, minAt := if v < b.min then a else b.minAt,
                  max := if v > b.max then v else b.max, maxAt := if v > b.max then a else b.maxAt }

/-- A quotient rounded to nearest, halves away from zero (R189). -/
def roundDiv (n : Int) (d : Nat) : Int :=
  if n ≥ 0 then (2 * n + d) / ((2 * d : Nat) : Int) else -((2 * -n + d) / ((2 * d : Nat) : Int))

/-- A bin as comparison and records see it (R189): STATE 0 SAMPLED, 1 FILLED, 2 EXCLUDED, 3 EMPTY. -/
structure BinView where
  state : Nat
  mean : Int
  min : Int
  max : Int
  acc : BinAcc
  deriving DecidableEq, Repr

/-- A bin with samples, as a view. -/
def BinAcc.view (b : BinAcc) : BinView :=
  if b.added > 0 then ⟨0, roundDiv b.sum b.added, b.min, b.max, b⟩ else ⟨2, 0, 0, 0, b⟩

/-- Linear interpolation by bin index, rounded to nearest (R189). -/
def binLerp (v1 v2 : Int) (b1 b2 b : Nat) : Int := roundDiv (v1 * (b2 - b1 : Nat) + (v2 - v1) * (b - b1 : Nat)) (b2 - b1)

/-- Bin `b` of a record (R189): a bin in which nothing was placed is FILLED between two SAMPLED bins with no EXCLUDED one between. -/
def CycRec.bin (r : CycRec) (b : Nat) : BinView :=
  let a := tabGet (fun _ => BinAcc.empty) r.bins b
  if a.placed > 0 then a.view
  else
    match (r.bins.filter (fun c => c.1 < b)).getLast?, r.bins.find? (fun c => b < c.1) with
    | some p, some n =>
      if p.2.added > 0 ∧ n.2.added > 0 then
        let u := p.2.view
        let v := n.2.view
        ⟨1, binLerp u.mean v.mean p.1 n.1 b, binLerp u.min v.min p.1 n.1 b, binLerp u.max v.max p.1 n.1 b, a⟩
      else ⟨3, 0, 0, 0, a⟩
    | _, _ => ⟨3, 0, 0, 0, a⟩

/-- The compared bins of a range: SAMPLED and FILLED ones (R189). -/
def CycRec.compared (r : CycRec) (first last : Nat) : List (Nat × BinView) :=
  ((List.range (last + 1 - first)).map (fun j => (first + j, r.bin (first + j)))).filter (fun b => b.2.state ≤ 1)

/-! ## CYCLE records (R191 to R193) -/

/-- The FLAGS byte of a cycle record: the OR of its bins' markings (R191), and HOLDOVER where a step fell in its cycle (R130). -/
def CycRec.flags (r : CycRec) : Byte :=
  r.bins.foldl (fun f b =>
    let f := if b.2.stitched then flagOn flStitched f else f
    let f := if b.2.settling then flagOn flSettling f else f
    let f := if b.2.overrange then flagOn flOverrange f else f
    let f := if b.2.exc then flagOn flExcFault f else f
    if b.2.holdover then flagOn flHoldover f else f) (if r.hold then flagOn flHoldover 0#8 else 0#8)

/-- A 24-bit two's-complement value's bytes. -/
def bytes24 (i : Int) : List Byte := leBytes 3 (i % 0x1000000).toNat

/-- The 12 bytes of a bin (R193). -/
def BinView.bytes (v : BinView) : List Byte :=
  let a := v.acc
  let marks := (if a.stitched then 0x1000 else 0) + (if a.overrange then 0x2000 else 0) + (if a.exc then 0x4000 else 0)
    + (if a.settling then 0x8000 else 0)
  bytes24 v.mean ++ bytes24 v.min ++ bytes24 v.max ++ leBytes 2 (Nat.min a.added 1023 + v.state * 0x400 + marks)
    ++ leBytes 1 (if a.holdover then 1 else 0)

/-- CFLAGS (R192). -/
def CycRec.cflags (r : CycRec) (incomplete : Bool) : Nat :=
  (if incomplete then 1 else 0) + (if r.gapIn then 2 else 0) + (if r.still then 4 else 0) + (if r.reversed then 8 else 0)
    + (if r.timeout then 16 else 0) + (if r.srcLost then 32 else 0)

/-- Segment `j` of a cycle record's payload (R191, R192). -/
def CycRec.segment (r : CycRec) (g src bins : Nat) (incomplete : Bool) (j : Nat) : List Byte :=
  let n := min bins 256
  let segs := bins / n
  leBytes 1 (r.chan + g * 16) ++ leBytes 1 (j + (segs - 1) * 4) ++ leBytes 2 bins ++ leBytes 2 (j * n) ++ leBytes 2 n
    ++ leBytes 1 src ++ leBytes 1 (r.cflags incomplete) ++ leBytes 2 (min r.unfolded 0xFFFF) ++ leBytes 4 r.added
    ++ leBytes 4 (match r.endLt with | some e => e - r.startLt | none => 0xFFFFFFFF) ++ leBytes 4 0
    ++ (List.range n).flatMap (fun i => (r.bin (j * n + i)).bytes)

/-- A cycle record written into TQ t.1, segment by segment (R191); one whose stamp lies in a time-uncertain span carries HOLDOVER (R132). -/
def State.writeCycle (s : State) (t g : Nat) (incomplete : Bool) (r : CycRec) : State :=
  let bins := s.binsOf t g
  (List.range (bins / min bins 256)).foldl (fun s j =>
    s.offerNew (6 * t + 1)
      { ty := tyCycle, flags := r.flags ||| s.stampFlags r.startLt, source := s.source t (0x10 + r.chan), seq := 0#32, lt := r.startLt,
        cycle := BitVec.ofInt 32 r.cycle, payload := r.segment g (s.grpSrc t g) bins incomplete j }) s

/-! ## Closing streams and groups (R190) -/

/-- A closed record entered among the cycles that wait for streams, in cycle order. -/
def waitAdd (r : CycRec) (lt : Nat) : List CycWait → List CycWait
  | [] => [⟨r.cycle, [r], lt, false⟩]
  | w :: t =>
    if w.cycle = r.cycle then { w with recs := w.recs ++ [r] } :: t
    else if r.cycle < w.cycle then ⟨r.cycle, [r], lt, false⟩ :: w :: t
    else w :: waitAdd r lt t

/-- The first cycle stream `i` may still fold. -/
def GroupSt.next (x : GroupSt) (i : Nat) : Int := tabGet (fun _ => 0) x.nextOk i

/-- Stream `i`'s first foldable cycle set. -/
def GroupSt.setNext (x : GroupSt) (i : Nat) (k : Int) : GroupSt := { x with nextOk := tabSet (fun _ => 0) i k x.nextOk }

/-- Stream `i`'s open record closed as it stands. -/
def GroupSt.closeOpen (x : GroupSt) (i : Nat) (r : CycRec) (lt : Nat) : GroupSt :=
  { x with opens := tabDrop i x.opens, waits := waitAdd r lt x.waits }

/-- The TIME a judgement of a group keeps the engine busy (R201), in ns at the present throttle level. -/
def State.judgeNs (s : State) (entries bins feats : Nat) : Nat := (400 + 4 * (entries + (bins + 3) / 4 + feats)) * s.division

end Sys2Proof.Machine
end

