-- ==== Sys2Proof/Machine/Churn.lean ====
section
/-! DEFINITION. The churn engine's features, envelopes, verdicts, teaching, drift, rules (R194 to R208), and what samples, points and
happenings do to it (R185, R187, R190, R203, R209). -/

namespace Sys2Proof.Machine

/-! ## Envelope entries (R196) -/

/-- Bits `lo` to `lo + n - 1` of an entry. -/
def envBits (w : BitVec 64) (lo n : Nat) : Nat := w.toNat / 2 ^ lo % 2 ^ n

/-- A signed 16-bit number. -/
def int16 (n : Nat) : Int := if n % 65536 < 32768 then ((n % 65536 : Nat) : Int) else ((n % 65536 : Nat) : Int) - 65536

/-- A signed 32-bit number. -/
def int32 (n : Nat) : Int := (BitVec.ofNat 32 n).toInt

abbrev envLower (w : BitVec 64) : Int := int16 (envBits w 0 16)
abbrev envUpper (w : BitVec 64) : Int := int16 (envBits w 16 16)
abbrev envFirst (w : BitVec 64) : Nat := envBits w 32 10
abbrev envLast (w : BitVec 64) : Nat := envBits w 42 10
abbrev envFeat (w : BitVec 64) : Nat := envBits w 32 6
abbrev envStream (w : BitVec 64) : Nat := envBits w 52 4
abbrev envStat (w : BitVec 64) : Nat := envBits w 56 2
abbrev envIsFeat (w : BitVec 64) : Bool := envBits w 58 1 == 1
abbrev envCode (w : BitVec 64) : Nat := envBits w 59 5

/-- Entry `e` of tile `t`. -/
def State.envGet (s : State) (t e : Nat) : BitVec 64 := tabGet (fun _ => 0#64) s.env (t * 3072 + e)

/-- The state with an entry set. -/
def State.envSet (s : State) (t e : Nat) (w : BitVec 64) : State :=
  { s with env := tabSet (fun _ => 0#64) (t * 3072 + e) w s.env }

/-- An entry with new bounds. -/
def envBounds (w : BitVec 64) (lower upper : Int) : BitVec 64 :=
  BitVec.ofNat 64 (w.toNat / 0x100000000 * 0x100000000 + (upper % 65536).toNat * 65536 + (lower % 65536).toNat)

/-- The group of an entry (R196, R198): that of the folded stream, or of the feature, it names. -/
def State.envGroup (s : State) (t : Nat) (w : BitVec 64) : Option Nat :=
  let ofStream (i : Nat) : Option Nat :=
    if s.isSet (F.CHURN_STR_FOLD_EN t i) then some (s.get (F.CHURN_STR_GROUP t i)) else none
  if envIsFeat w then
    if s.isSet (F.CHURN_FEAT_CFG_KIND t (envFeat w)) then ofStream (s.get (F.CHURN_FEAT_CFG_STREAM t (envFeat w))) else none
  else ofStream (envStream w)

/-- The enabled entries of a group, in increasing index. -/
def State.entriesOf (s : State) (t g : Nat) : List (Nat × BitVec 64) :=
  (s.env.filter (fun c => c.1 / 3072 == t && envCode c.2 != 0 && s.envGroup t c.2 == some g)).map (fun c => (c.1 % 3072, c.2))

/-- The features of a group, in increasing number (R194). -/
def State.featsOf (s : State) (t g : Nat) : List Nat :=
  (List.range 64).filter (fun f => s.isSet (F.CHURN_FEAT_CFG_KIND t f)
    && s.isSet (F.CHURN_STR_FOLD_EN t (s.get (F.CHURN_FEAT_CFG_STREAM t f)))
    && s.get (F.CHURN_STR_GROUP t (s.get (F.CHURN_FEAT_CFG_STREAM t f))) == g)

/-! ## Features (R194, R195) -/

/-- NONE: no crossing found (R195). -/
abbrev featNone : Int := -2147483648
/-- UNJUDGED: the range cannot be computed (R195). -/
abbrev featUnjudged : Int := -2147483647

/-- The centre of bin `b` in units of 2^-24 of a cycle. -/
def binCentre (bins b : Nat) : Nat := (2 * b + 1) * 0x1000000 / (2 * bins)

/-- The angle at which a bin gave its extreme: that of its sample, or its centre where it is FILLED (R194). -/
def extremeAt (bins : Nat) (top : Bool) (b : Nat × BinView) : Nat :=
  if b.2.state = 1 then binCentre bins b.1 else if top then b.2.acc.maxAt else b.2.acc.minAt

/-- The least number of a list. -/
def leastOf (d : Nat) : List Nat → Nat
  | [] => d
  | x :: t => t.foldl min x

/-- The greatest MAX or the least MIN of the compared bins. -/
def extremeOf (top : Bool) : List (Nat × BinView) → Int
  | [] => 0
  | b :: t => t.foldl (fun m c => if top then max m c.2.max else min m c.2.min) (if top then b.2.max else b.2.min)

/-- The interpolated angle of a crossing at LEVEL, limited to the two bins' centres (R195). -/
def crossAngle (bins : Nat) (level : Int) (a b : Nat × BinView) : Nat :=
  let c1 : Int := (binCentre bins a.1 : Nat)
  let c2 : Int := (binCentre bins b.1 : Nat)
  let d := b.2.mean - a.2.mean
  let x := if d = 0 then c2 else c1 + ((level - a.2.mean) * (c2 - c1)).fdiv d
  (max c1 (min c2 x)).toNat

/-- The crossings of the compared bins in order, each with whether it rises (R195); `high` is the present state, `p` the compared bin
before. -/
def crossings (bins : Nat) (level h : Int) : Bool → Nat × BinView → List (Nat × BinView) → List (Bool × Nat)
  | _, _, [] => []
  | high, p, b :: t =>
    if !high && b.2.mean ≥ level + h then (true, crossAngle bins level p b) :: crossings bins level h true b t
    else if high && b.2.mean < level - h then (false, crossAngle bins level p b) :: crossings bins level h false b t
    else crossings bins level h high b t

/-- All crossings of a range of compared bins: the first bin gives the first state (R195). -/
def crossingsOf (bins : Nat) (level h : Int) : List (Nat × BinView) → List (Bool × Nat)
  | [] => []
  | b :: t => crossings bins level h (decide (b.2.mean ≥ level)) b t

/-- Where the DIFF history of feature `f` lies in tile memory (R205): after the bins of the DIFF features before it. -/
def State.diffAddr (s : State) (t f : Nat) : Nat :=
  tileMem t + 0x7C000 + 4 * (((List.range f).filter (fun j => s.get (F.CHURN_FEAT_CFG_KIND t j) == 10)).map
    (fun j => s.get (F.CHURN_FEAT_CFG_LAST t j) + 1 - s.get (F.CHURN_FEAT_CFG_FIRST t j))).sum

/-- A DIFF history word of a bin that was not compared; no MEAN has this value. -/
abbrev diffNone : Nat := 0x80000000

/-- The DIFF sum over the bins compared in both cycles (R194). -/
def State.diffSum (s : State) (t f : Nat) (bs : List (Nat × BinView)) : Int :=
  bs.foldl (fun n b =>
    let w := s.loadLe (s.diffAddr t f + 4 * (b.1 - s.get (F.CHURN_FEAT_CFG_FIRST t f))) 4
    if w = diffNone then n else n + (b.2.mean - int32 w).natAbs) 0

/-- A value clamped to AREA's limits (R194). -/
def clampArea (i : Int) : Int := if i > 2147483647 then 2147483647 else if i < -2147483646 then -2147483646 else i

/-- Feature `f` of a closed cycle of group `g` (R194, R195). -/
def State.feature (s : State) (t g : Nat) (c : Closed) (f : Nat) : Int :=
  let bins := s.binsOf t g
  let chan := s.get (F.CHURN_FEAT_CFG_STREAM t f)
  let bs := match c.recs.find? (fun r => r.chan == chan) with
    | some r => r.compared (s.get (F.CHURN_FEAT_CFG_FIRST t f)) (s.get (F.CHURN_FEAT_CFG_LAST t f))
    | none => []
  let xs := crossingsOf bins (s.getInt (F.CHURN_FEAT_LEVEL_LEVEL t f)) (s.get (F.CHURN_FEAT_LEVEL_HYST t f) * 256) bs
  let area := (bs.map (fun b => b.2.mean)).sum
  let firstOf (rise : Bool) : Int := match xs.find? (fun x => x.1 == rise) with
    | some x => (x.2 : Nat)
    | none => featNone
  if bs.isEmpty then featUnjudged
  else match s.get (F.CHURN_FEAT_CFG_KIND t f) with
    | 1 => extremeOf true bs
    | 2 => (leastOf 0 ((bs.filter (fun b => b.2.max == extremeOf true bs)).map (extremeAt bins true)) : Nat)
    | 3 => extremeOf false bs
    | 4 => (leastOf 0 ((bs.filter (fun b => b.2.min == extremeOf false bs)).map (extremeAt bins false)) : Nat)
    | 5 => clampArea area
    | 6 => roundDiv area bs.length
    | 7 => firstOf true
    | 8 => firstOf false
    | 9 => (xs.length : Nat)
    | 10 =>
      if (s.grp t g).prevJudged = some (c.cycle - 1) then min (s.diffSum t f bs) 2147483647 else featUnjudged
    | _ => featUnjudged

/-- The DIFF history after a cycle (R205): each DIFF bin's MEAN. -/
def State.diffKeep (s : State) (t g : Nat) (c : Closed) : State :=
  ((s.featsOf t g).filter (fun f => s.get (F.CHURN_FEAT_CFG_KIND t f) == 10)).foldl (fun s f =>
    let first := s.get (F.CHURN_FEAT_CFG_FIRST t f)
    let n := s.get (F.CHURN_FEAT_CFG_LAST t f) + 1 - first
    let rec? := c.recs.find? (fun r => r.chan == s.get (F.CHURN_FEAT_CFG_STREAM t f))
    (List.range n).foldl (fun s j =>
      let w := match rec? with
        | some r => let v := r.bin (first + j)
                    if v.state ≤ 1 then (v.mean % 0x100000000).toNat else diffNone
        | none => diffNone
      s.storeLe (s.diffAddr t f + 4 * j) 4 w) s) s

/-! ## Checking entries (R197) -/

/-- S of an entry (R196). -/
def State.envShift (s : State) (t : Nat) (w : BitVec 64) : Nat :=
  if envIsFeat w then s.get (F.CHURN_FEAT_CFG_SHIFT t (envFeat w)) else s.get (F.CHURN_STR_SHIFT t (envStream w))

/-- A value passes a bound pair (R197). -/
def boundsPass (lower upper : Int) (sh : Nat) (v : Int) : Bool :=
  let p : Int := (2 ^ sh : Nat)
  decide (lower * p ≤ v) && decide (v ≤ upper * p + p - 1)

/-- A bin passes a bin entry by its STAT (R197). -/
def binPass (w : BitVec 64) (sh : Nat) (v : BinView) : Bool :=
  let p : Int := (2 ^ sh : Nat)
  match envStat w with
  | 0 => boundsPass (envLower w) (envUpper w) sh v.mean
  | 1 => boundsPass (envLower w) (envUpper w) sh v.min
  | 2 => boundsPass (envLower w) (envUpper w) sh v.max
  | _ => decide (v.min ≥ envLower w * p) && decide (v.max ≤ envUpper w * p + p - 1)

/-- The compared bins of a bin entry. -/
def Closed.binsFor (c : Closed) (w : BitVec 64) : List (Nat × BinView) :=
  match c.recs.find? (fun r => r.chan == envStream w) with
  | some r => r.compared (envFirst w) (envLast w)
  | none => []

/-- What a check of an entry finds (R197): skipped, or failed with the first failing bin of a bin entry. -/
structure EnvCheck where
  skipped : Bool
  failed : Bool
  at_ : Nat
  deriving DecidableEq, Repr

/-- An entry checked against a closed cycle and its features. -/
def State.envCheck (s : State) (t : Nat) (c : Closed) (feats : List (Nat × Int)) (w : BitVec 64) : EnvCheck :=
  let sh := s.envShift t w
  if envIsFeat w then
    match feats.find? (fun f => f.1 == envFeat w) with
    | some f =>
      if f.2 = featUnjudged then ⟨true, false, 0⟩
      else if f.2 = featNone then ⟨false, true, 0⟩
      else ⟨false, !boundsPass (envLower w) (envUpper w) sh f.2, 0⟩
    | none => ⟨true, false, 0⟩
  else
    let bs := c.binsFor w
    match bs.find? (fun b => !binPass w sh b.2) with
    | some b => ⟨false, true, b.1 + envStream w * 1024⟩
    | none => ⟨bs.isEmpty, false, 0⟩

/-! ## Teaching and drift (R202 to R205) -/

/-- The least and greatest value an entry sees in a cycle (R202); none where it sees none. -/
def envSeen (c : Closed) (feats : List (Nat × Int)) (w : BitVec 64) : Option (Int × Int) :=
  if envIsFeat w then
    match feats.find? (fun f => f.1 == envFeat w) with
    | some f => if f.2 = featUnjudged ∨ f.2 = featNone then none else some (f.2, f.2)
    | none => none
  else
    match c.binsFor w with
    | [] => none
    | bs =>
      let pick (lo : Bool) (v : BinView) : Int := match envStat w with
        | 0 => v.mean
        | 1 => v.min
        | 2 => v.max
        | _ => if lo then v.min else v.max
      let los := bs.map (fun b => pick true b.2)
      let his := bs.map (fun b => pick false b.2)
      some (los.foldl min (los.headD 0), his.foldl max (his.headD 0))

/-- Where entry `e`'s accumulators lie (R205). -/
def accAddr (t e : Nat) : Nat := tileMem t + 0x76000 + 8 * e
/-- Where entry `e`'s anchors lie (R205). -/
def anchorAddr (t e : Nat) : Nat := tileMem t + 0x70000 + 8 * e

/-- The accumulators of a group's entries emptied: lo above hi says that nothing has been observed. -/
def State.accClear (s : State) (t g : Nat) : State :=
  (s.entriesOf t g).foldl (fun s e => (s.storeLe (accAddr t e.1) 4 0x7FFFFFFF).storeLe (accAddr t e.1 + 4) 4 0x80000000) s

/-- An entry's lo and hi so far. -/
def State.accGet (s : State) (t e : Nat) : Int × Int := (int32 (s.loadLe (accAddr t e) 4), int32 (s.loadLe (accAddr t e + 4) 4))

/-- A cycle's observations entered in the accumulators (R202, R204). -/
def State.accTake (s : State) (t g : Nat) (c : Closed) (feats : List (Nat × Int)) : State :=
  (s.entriesOf t g).foldl (fun s e =>
    match envSeen c feats e.2 with
    | none => s
    | some (lo, hi) =>
      let a := s.accGet t e.1
      (s.storeLe (accAddr t e.1) 4 (min a.1 lo % 0x100000000).toNat).storeLe (accAddr t e.1 + 4) 4
        (max a.2 hi % 0x100000000).toNat) s

/-- The bounds that lo and hi give (R202); the part of the spread is cut to an integer (DEDUCED, assumption 157). -/
def State.taught (s : State) (t g : Nat) (w : BitVec 64) (lo hi : Int) : Int × Int :=
  let p : Int := (2 ^ s.envShift t w : Nat)
  let m := s.get (F.CHURN_GRP_TEACH_MARGIN_LSB t g) * p + (hi - lo) * s.get (F.CHURN_GRP_TEACH_MARGIN_PCT t g) / 100
  (max (-32768) (min 32767 ((lo - m) / p)), max (-32768) (min 32767 ((hi + m) / p)))

/-- An entry's anchors written (R202, R204, R205). -/
def State.setAnchor (s : State) (t e : Nat) (lower upper : Int) : State :=
  (s.storeLe (anchorAddr t e) 2 (lower % 65536).toNat).storeLe (anchorAddr t e + 2) 2 (upper % 65536).toNat

/-- A happening of the churn engine for the pail core (R269). -/
def State.churnEvent (s : State) (t : Nat) : State := s.raiseTile t 8

/-- The rule histories of a group cleared (R206). -/
def State.clearHist (s : State) (t g : Nat) : State :=
  let c := s.eng t
  s.setEng t { c with hist := c.hist.filter (fun h => s.get (F.CHURN_RULE_COND_GROUP t h.1) != g) }

/-- The group's registers follow its state (R211). -/
def State.grpShow (s : State) (t g : Nat) : State :=
  let x := s.grp t g
  let s := s.put (F.CHURN_GRP_STAT_STATE t g) (if !x.folding then 0 else if x.teaching then 1 else 2)
  let s := s.putB (F.CHURN_GRP_STAT_SRC_AVAIL t g) (s.isSet (F.CHURN_GRP_CFG_EN t g) && s.srcAvailTo t (s.grpSrc t g))
  let s := (s.put (F.CHURN_GRP_STAT_TEACH_DONE t g) x.teachDone).putB (F.CHURN_GRP_STAT_CLAMPED t g) (!x.held.isEmpty)
  let s := if x.folding then s.setBit (F.CHURN_STAT_FOLDING t) g else s.clearBit (F.CHURN_STAT_FOLDING t) g
  let s := if x.teaching then s.setBit (F.CHURN_STAT_TEACHING t) g else s.clearBit (F.CHURN_STAT_TEACHING t) g
  s.putB (F.CHURN_STAT_BUSY t) (s.eng t).judge.isSome

/-- Teaching starts afresh (R202): nothing collected, the rule histories cleared; cycles closed before do not count. -/
def State.teachStart (s : State) (t g : Nat) : State :=
  let x := s.grp t g
  let s := s.setGrp t g { x with teaching := true, teachDone := 0, clampTold := false, driftRun := 0,
                                 closed := x.closed.map (fun c => { c with stale := true }) }
  ((s.accClear t g).clearHist t g).grpShow t g

/-- Teaching restarts from zero because the source changed (R203). -/
def State.teachRestart (s : State) (t g : Nat) : State :=
  if (s.grp t g).teaching then
    let done := (s.grp t g).teachDone
    let s := s.teachStart t g
    let s := (s.incSat (F.CHURN_GRP_CNT1_TEACH_RESTARTS t g)).setBit (F.CHURN_EVT_TEACH_RESTART_SEEN t) g
    (((s.churnEvent t).raise t).logWrite kTeach t (w32 (t + 8 * g)) (w32 done) 0#32)
  else s

/-- A teach completes (R202): every entry of the group is written at once, with its anchors. -/
def State.teachComplete (s : State) (t g : Nat) : State :=
  let es := s.entriesOf t g
  let missing := es.any (fun e => decide ((s.accGet t e.1).1 > (s.accGet t e.1).2))
  let s := es.foldl (fun s e =>
    let a := s.accGet t e.1
    let b := if a.1 > a.2 then ((-32768 : Int), (32767 : Int)) else s.taught t g e.2 a.1 a.2
    (s.envSet t e.1 (envBounds e.2 b.1 b.2)).setAnchor t e.1 b.1 b.2) s
  let s := s.setGrp t g { s.grp t g with teaching := false, teachDone := 0, clampTold := false, held := [], skipsDue := missing }
  ((s.setBit (F.CHURN_EVT_TEACH_DONE_SEEN t) g).churnEvent t).grpShow t g

/-- One bound's move toward its target (R204): at most `step`, never past `anchor` ± `lim`; with whether it stands at that limit. -/
def driftBound (now target anchor : Int) (step lim : Nat) : Int × Bool :=
  let want := if target > now then min target (now + step) else max target (now - step)
  let got := max (anchor - lim) (min (anchor + lim) want)
  (got, decide (got = anchor + lim) || decide (got = anchor - lim))

/-- The bounds held at their limits with one entry's two bounds set. -/
def setHeld (e : Nat) (lo hi : Bool) (l : List Nat) : List Nat :=
  l.filter (fun i => i / 2 != e) ++ (if lo then [2 * e] else []) ++ (if hi then [2 * e + 1] else [])

/-- The end of a drift run (R204): each entry with an observation moves; says whether a bound moved, which bounds are held at their limits,
and the first entry with one that was not held before. -/
def State.driftMove (s : State) (t g : Nat) : State × Bool × List Nat × Option Nat :=
  let step := s.get (F.CHURN_GRP_DRIFT_DRIFT_STEP t g)
  let lim := s.get (F.CHURN_GRP_DRIFT_DRIFT_MAX t g)
  (s.entriesOf t g).foldl (fun (r : State × Bool × List Nat × Option Nat) e =>
    let s := r.1
    let a := s.accGet t e.1
    if a.1 > a.2 then r
    else
      let b := s.taught t g e.2 a.1 a.2
      let lo := driftBound (envLower e.2) b.1 (int16 (s.loadLe (anchorAddr t e.1) 2)) step lim
      let hi := driftBound (envUpper e.2) b.2 (int16 (s.loadLe (anchorAddr t e.1 + 2) 2)) step lim
      if lo.1 > hi.1 then r
      else
        let w := envBounds e.2 lo.1 hi.1
        let new := (lo.2 && !r.2.2.1.contains (2 * e.1)) || (hi.2 && !r.2.2.1.contains (2 * e.1 + 1))
        (s.envSet t e.1 w, r.2.1 || w != e.2, setHeld e.1 lo.2 hi.2 r.2.2.1, if new && r.2.2.2.isNone then some e.1 else r.2.2.2))
    (s, false, (s.grp t g).held, none)

/-- Drift after a passing cycle (R204): the run's count, at its end the move, CLAMPED, and the first clamp's report. -/
def State.drift (s : State) (t g : Nat) (c : Closed) (feats : List (Nat × Int)) : State × Bool :=
  let x := s.grp t g
  let s := if x.driftRun = 0 then s.accClear t g else s
  let s := s.accTake t g c feats
  let n := x.driftRun + 1
  if n < s.get (F.CHURN_GRP_DRIFT_DRIFT_EVERY t g) then (s.setGrp t g { s.grp t g with driftRun := n }, false)
  else
    let (s, moved, held, told) := s.driftMove t g
    let s := s.setGrp t g { s.grp t g with driftRun := 0, held := held }
    let s := s.putB (F.CHURN_GRP_STAT_CLAMPED t g) (!held.isEmpty)
    match told with
    | none => (s, moved)
    | some e =>
      if (s.grp t g).clampTold then (s, moved)
      else
        let s := s.setGrp t g { s.grp t g with clampTold := true }
        let s := (s.setBit (F.CHURN_EVT_CLAMP_SEEN t) g).churnEvent t
        ((s.raise t).logWrite kTeach t (w32 (t + 8 * g + 32)) (w32 e) 0#32, moved)

/-! ## Rules (R206, R207) -/

/-- A rule matches a verdict (R206). -/
def ruleMatch (when_ mask status codes : Nat) : Bool :=
  match when_ with
  | 0 => status == 0 && (codes &&& mask) != 0
  | 1 => status == 0 && (codes &&& mask) == 0
  | 2 => status != 0
  | _ => true

/-- One entry asked by a rule: to the own table or lanes, or collected for its address (R207). -/
def State.ruleAsk (s : State) (t r : Nat) (kind : Nat) (level : Bool) (cycle : Int) (angle : Nat)
    (l : List (Nat × ActReq)) : State × List (Nat × ActReq) :=
  let src := s.get (F.CHURN_RULE_TARGET_SRC t r)
  let out := s.get (F.CHURN_RULE_TARGET_OUTPUT t r)
  let dest := s.get (F.CHURN_RULE_TARGET_ADDR t r)
  let c := BitVec.ofInt 32 cycle
  if s.isSet (F.CHURN_RULE_TARGET_SELF t r) || dest == s.line then
    if kind = 2 then (s.clearAct out src s.line c, l)
    else (s.askOwn { output := out, level := level, target := ⟨true, 0, src, c, w32 (angle * 65536)⟩, origin := s.line,
                     from_ := 0, reqId := 0#32 }, l)
  else
    let o := s.ownerOf src
    (s, l ++ [(dest, { reqId := 0#32, output := BitVec.ofNat 8 out, op := BitVec.ofNat 8 (level.toNat + 2 * kind), owner := o.1,
                       ownerSrc := o.2, t0 := c, t1 := w32 (angle * 65536) })])

/-- What rule `r` with operation `op` does on the verdict of cycle `k` (R207). -/
def State.ruleDo (s : State) (t r op : Nat) (k : Int) (l : List (Nat × ActReq)) : State × List (Nat × ActReq) :=
  let c := k + s.get (F.CHURN_RULE_TARGET_DELAY t r)
  let on := s.get (F.CHURN_RULE_ANGLES_ON t r)
  let off := s.get (F.CHURN_RULE_ANGLES_OFF t r)
  let level := s.isSet (F.CHURN_RULE_TARGET_LEVEL t r)
  match op with
  | 1 =>
    let a := s.ruleAsk t r 0 level c on l
    a.1.ruleAsk t r 0 (!level) (if off > on then c else c + 1) off a.2
  | 2 => s.ruleAsk t r 0 level c on l
  | 3 => s.ruleAsk t r 2 false c 0 l
  | 4 => ((s.raiseTile t 9).put (F.CHURN_EVT_RULE_EVENT_SEEN t) 1, l)
  | _ => (s, l)

/-- A rule fires on the verdict of cycle `k` (R207). -/
def State.ruleFire (s : State) (t r : Nat) (k : Int) (l : List (Nat × ActReq)) : State × List (Nat × ActReq) :=
  (s.incSat (F.CHURN_RULE_CNT_FIRED t r)).ruleDo t r (s.get (F.CHURN_RULE_COND_OP t r)) k l

/-- One rule of the list on a verdict (R206), with whether a rule with STOP has fired and the entries collected so far. -/
def State.ruleStep (s : State) (t r : Nat) (k : Int) (skip status codes : Nat) (stop : Bool) (l : List (Nat × ActReq)) :
    State × Bool × List (Nat × ActReq) :=
  let hit := ruleMatch (s.get (F.CHURN_RULE_COND_WHEN t r)) (s.get (F.CHURN_RULE_MASK_MASK t r) * 2) status codes
  let h := (hit :: (List.replicate (min skip 8) false ++ tabGet (fun _ => []) (s.eng t).hist r)).take 8
  let c := s.eng t
  let s := s.setEng t { c with hist := tabSet (fun _ => []) r h c.hist }
  let n := ((h.take (s.get (F.CHURN_RULE_COND_M t r))).filter (fun b => b)).length
  let x := s.ruleFire t r k l
  if hit && !stop && n ≥ s.get (F.CHURN_RULE_COND_N t r) then (x.1, x.1.isSet (F.CHURN_RULE_COND_STOP t r), x.2) else (s, stop, l)

/-- The rule list on a verdict (R206): each rule of the group records its match; one fires where at least N of its last M match and no
rule with STOP has fired. `skip` cycles of the group since the last verdict had none. -/
def State.rules (s : State) (t g : Nat) (k : Int) (skip status codes : Nat) : State :=
  let rs := (List.range 64).filter (fun r => s.isSet (F.CHURN_RULE_COND_EN t r) && s.get (F.CHURN_RULE_COND_GROUP t r) == g)
  let res := rs.foldl (fun (a : State × Bool × List (Nat × ActReq)) r => a.1.ruleStep t r k skip status codes a.2.1 a.2.2) (s, false, [])
  (res.2.2.map (fun q => q.1)).eraseDups.foldl (fun s a =>
    s.askHerd a 9 ((res.2.2.filter (fun q => q.1 == a)).map (fun q => q.2))) res.1

/-! ## Verdicts (R199 to R201) -/

/-- STATUS values (R199). -/
abbrev vJudged : Nat := 0
abbrev vTeaching : Nat := 1
abbrev vIncomplete : Nat := 2
abbrev vSkipped : Nat := 3

/-- A stream of the cycle carried an EXC_FAULT sample. -/
def Closed.faulted (c : Closed) : Bool := c.recs.any (fun r => r.bins.any (fun b => b.2.exc))

/-- The lowest set bit of a code mask, 0 when none (R199). -/
def lowestCode (m : Nat) : Nat := ((List.range 32).find? (fun c => m.testBit c)).getD 0

/-- What the checks of a cycle give (R199, R200). -/
structure Verdict where
  mask : Nat
  firstFail : Nat
  fails : Nat
  skipped : Nat
  failAt : Nat
  deriving DecidableEq, Repr

/-- The entries of a group checked in increasing index (R199). -/
def State.checkAll (s : State) (t g : Nat) (c : Closed) (feats : List (Nat × Int)) : Verdict :=
  (s.entriesOf t g).foldl (fun v e =>
    let k := s.envCheck t c feats e.2
    if k.skipped then { v with skipped := v.skipped + 1 }
    else if k.failed then
      { v with mask := v.mask ||| 2 ^ envCode e.2, fails := v.fails + 1,
               firstFail := if v.fails = 0 then e.1 else v.firstFail, failAt := if v.fails = 0 then k.at_ else v.failAt }
    else v) ⟨0, 0xFFFF, 0, 0, 0⟩

/-- Counters and events of a verdict (R211). -/
def State.verdictCount (s : State) (t g status code : Nat) : State :=
  let s := if status = vJudged then s.incSat (F.CHURN_GRP_CNT0_JUDGED t g) else s
  let s := if code ≠ 0 then (s.incSat (F.CHURN_GRP_CNT0_FAILED t g)).setBit (F.CHURN_EVT_FAIL_SEEN t) g else s
  let s := if status = vIncomplete then (s.incSat (F.CHURN_GRP_CNT1_INCOMPLETE t g)).setBit (F.CHURN_EVT_INCOMPLETE_SEEN t) g else s
  if status = vSkipped then (s.incSat (F.CHURN_GRP_CNT1_SKIPPED t g)).setBit (F.CHURN_EVT_SKIPPED_SEEN t) g else s

/-- The teach after a verdict with STATUS TEACHING (R202): a cycle without EXC_FAULT that the group closed
since the teach started counts; the last one completes it. -/
def State.teachTake (s : State) (t g : Nat) (c : Closed) (feats : List (Nat × Int)) : State :=
  if c.faulted || c.stale then s
  else
    let s := s.accTake t g c feats
    let n := (s.grp t g).teachDone + 1
    let s := s.setGrp t g { s.grp t g with teachDone := n }
    if n ≥ s.get (F.CHURN_GRP_TEACH_TEACH_LEN t g) then s.teachComplete t g else s

/-- The cycles between the group's latest verdict and that of cycle `k` that have none and await none (R206). -/
def GroupSt.withoutVerdict (x : GroupSt) (k : Int) : Nat :=
  match x.lastVerdict with
  | some j => (k - j - 1).toNat - (x.closed.filter (fun c => decide (j < c.cycle) && decide (c.cycle < k))).length
  | none => 0

/-- The group after the verdict of cycle `k` (R195, R206): its latest verdict, and, where it was JUDGED, the cycle that DIFF looks back to. -/
def GroupSt.judged (x : GroupSt) (k : Int) (judged : Bool) : GroupSt :=
  { x with lastVerdict := some (match x.lastVerdict with | some j => max j k | none => k),
           prevJudged := if judged then some k else x.prevJudged }

/-- The verdict of a closed cycle is formed: checks, teaching or drift, the VERDICT record into TQ t.2, counters, rules
(R199 to R208). -/
def State.verdict (s : State) (t g : Nat) (c : Closed) (status : Nat) : State :=
  let feats := (s.featsOf t g).map (fun f => (f, s.feature t g c f))
  let v : Verdict := if status = vJudged then s.checkAll t g c feats else ⟨0, 0xFFFF, 0, 0, 0⟩
  let fc := s.get (F.CHURN_GRP_CFG_FAULT_CODE t g)
  let mask := if fc ≠ 0 && c.faulted && status ≤ vTeaching then v.mask ||| 2 ^ fc else v.mask
  let code := lowestCode mask
  let skips := v.skipped > 0 || (status == vJudged && (s.grp t g).skipsDue)
  let s := if status = vJudged then s.setGrp t g { s.grp t g with skipsDue := false } else s
  let (s, moved) :=
    if status = vTeaching then (s.teachTake t g c feats, false)
    else if status = vJudged && mask == 0 && s.isSet (F.CHURN_GRP_CFG_DRIFT_EN t g) then s.drift t g c feats
    else (s, false)
  let x := s.grp t g
  let vflags := (if c.faulted then 1 else 0) + (if skips then 2 else 0) + (if moved then 4 else 0)
    + (if s.isSet (F.CHURN_GRP_STAT_CLAMPED t g) then 8 else 0)
  let left := if x.teaching then s.get (F.CHURN_GRP_TEACH_TEACH_LEN t g) - x.teachDone else 0
  let payload := leBytes 1 g ++ leBytes 1 status ++ leBytes 1 code ++ leBytes 1 vflags ++ leBytes 4 mask ++ leBytes 2 v.firstFail
    ++ leBytes 2 v.fails ++ leBytes 2 v.skipped ++ leBytes 2 left ++ leBytes 4 v.failAt ++ leBytes 1 feats.length ++ leBytes 3 0
    ++ feats.flatMap (fun f => leBytes 4 (f.2 % 0x100000000).toNat)
  let s := s.offerNew (6 * t + 2)
    { ty := tyVerdict, flags := c.flags ||| s.stampFlags c.stamp, source := s.source t (0x20 + g), seq := 0#32, lt := c.stamp,
      cycle := BitVec.ofInt 32 c.cycle, payload := payload }
  let s := s.verdictCount t g status code
  let s := s.rules t g c.cycle (x.withoutVerdict c.cycle) status mask
  let s := if status = vJudged then s.diffKeep t g c else s
  (s.setGrp t g ((s.grp t g).judged c.cycle (status == vJudged))).grpShow t g

/-- The engine takes the next closed cycle to judge, when it is free (R201). -/
def State.judgeNext (s : State) (t : Nat) : State :=
  let c := s.eng t
  match c.judge, c.order with
  | none, g :: l =>
    let es := s.entriesOf t g
    let b := ((es.filter (fun e => !envIsFeat e.2)).map (fun e => envLast e.2 + 1 - envFirst e.2)).sum
    let f := ((s.featsOf t g).map (fun f => s.get (F.CHURN_FEAT_CFG_LAST t f) + 1 - s.get (F.CHURN_FEAT_CFG_FIRST t f))).sum
    (s.setEng t { c with order := l, judge := some ⟨g, s.lt + s.judgeNs es.length b f⟩ }).put (F.CHURN_STAT_BUSY t) 1
  | _, _ => s

/-- The engine is judging a cycle of group `g`. -/
def State.judging (s : State) (t g : Nat) : Bool :=
  match (s.eng t).judge with
  | some j => j.group == g
  | none => false

/-- A third waiting cycle makes the group's oldest waiting one SKIPPED (R201); one that R190 makes INCOMPLETE keeps that STATUS. -/
def State.skipOldest (s : State) (t g : Nat) : State :=
  let x := s.grp t g
  let busy := s.judging t g
  let waiting := if busy then x.closed.drop 1 else x.closed
  match waiting with
  | c :: rest =>
    if rest.length ≥ 2 then
      let s := s.setGrp t g { x with closed := (if busy then x.closed.take 1 else []) ++ rest }
      let e := s.eng t
      let s := s.setEng t { e with order := e.order.erase g }
      s.verdict t g c (if c.incomplete then vIncomplete else vSkipped)
    else s
  | [] => s

/-- The group closes the earliest waiting cycle (R190, R191), INCOMPLETE also where a stream has lost samples of it: its CYCLE records leave stream by stream, and it waits to be judged. -/
def State.groupClose (s : State) (t g : Nat) : State :=
  let x := s.grp t g
  match x.waits with
  | [] => s
  | w :: ws =>
    let order := (List.range 16).filterMap (fun i => w.recs.find? (fun r => r.chan == i))
    let bad := w.bad || order.any (fun r => r.timeout || r.srcLost || r.gapIn) || x.gaps.any (fun y => y.2 == w.cycle)
    let c : Closed := { cycle := w.cycle, recs := order, incomplete := bad,
                        stamp := match order with
                          | r :: _ => r.startLt
                          | [] => 0
                        flags := order.foldl (fun f r => f ||| r.flags) 0#8, stale := false }
    let s := s.setGrp t g { x with waits := ws, closed := x.closed ++ [c], lastClosed := some w.cycle, gaps := x.gaps.filter (fun y => decide (w.cycle < y.2)) }
    let s := order.foldl (fun s r => s.writeCycle t g bad r) s
    let e := s.eng t
    let s := s.setEng t { e with order := e.order ++ [g] }
    (s.judgeNext t).skipOldest t g

/-- Every folded stream of the group has closed cycle `k`. -/
def State.allClosed (s : State) (t g : Nat) (k : Int) : Bool := (s.foldedIn t g).all (fun i => decide (k < (s.grp t g).next i))

/-- The group closes every earliest cycle that all its streams have closed (R190). -/
def State.closeReady (s : State) (t g : Nat) : Nat → State
  | 0 => s
  | n + 1 =>
    match (s.grp t g).waits with
    | w :: _ => if s.allClosed t g w.cycle then State.closeReady (s.groupClose t g) t g n else s
    | [] => s

/-- A waiting cycle up to `k` that stream `i`, which may still fold cycles from `from_` on, has no record of: the stream closes it without one
(R190). -/
def CycWait.closeBare (i : Nat) (from_ k : Int) (w : CycWait) : CycWait :=
  if from_ ≤ w.cycle ∧ w.cycle ≤ k ∧ w.recs.all (fun r => r.chan != i) then { w with bad := true } else w

/-- The streams that have not closed cycles up to `k` close those that wait without a record of their own (R190). -/
def GroupSt.closeBares (x : GroupSt) (froms : List (Nat × Int)) (k : Int) : GroupSt :=
  { x with waits := x.waits.map (fun w => froms.foldl (fun w f => w.closeBare f.1 f.2 k) w) }

/-- Every stream of the group that has not closed cycle `k`, or an earlier one, closes it with TIMEOUT, or, where `lost` holds and its
record is of cycle `k`, with SRC_LOST (R190); the group then closes. -/
def State.closeUpTo (s : State) (t g : Nat) (k : Int) (lost : Bool) : State :=
  let froms := (s.foldedIn t g).map (fun i => (i, (s.grp t g).next i))
  let s := (s.foldedIn t g).foldl (fun s i =>
    let x := s.grp t g
    if x.next i ≤ k then
      let x := match x.openOf i with
        | some r =>
          if r.cycle ≤ k then
            x.closeOpen i (if lost && r.cycle == k then { r with srcLost := true } else { r with timeout := true }) s.lt
          else x
        | none => x
      s.setGrp t g (x.setNext i (k + 1))
    else s) s
  let s := s.setGrp t g ((s.grp t g).closeBares froms k)
  s.closeReady t g ((s.grp t g).waits.length)

/-! ## Samples and points (R185, R187) -/

/-- The group starts folding (R187): rule histories cleared, the teach of TEACH_AT_START where it is due (R202). -/
def State.groupStart (s : State) (t g : Nat) (k : Int) : State :=
  let x := s.grp t g
  let x := { x with folding := true, opens := [], waits := [], gaps := [], lastVerdict := none, prevJudged := none, stepIn := none }
  let x := (s.foldedIn t g).foldl (fun x i => x.setNext i k) x
  let arm := x.armTeach
  let s := (s.setGrp t g { x with armTeach := false, clampTold := false }).clearHist t g
  (if arm then s.teachStart t g else s).grpShow t g

/-- A group's start conditions (R187): running, enabled, source available, every folded stream emitting. -/
def State.startReady (s : State) (t g : Nat) : Bool :=
  (s.eng t).on && s.isSet (F.CHURN_GRP_CFG_EN t g) && s.srcAvailTo t (s.grpSrc t g)
    && (s.foldedIn t g).all (fun i => s.isSet (F.CH_STAT_READY (16 * t + i)))

/-- The owner and local source a shared source's slot names (for R203). -/
def State.srcOwner (s : State) (n : Nat) : Nat := (s.ownerOf n).1 * 4 + (s.ownerOf n).2

/-- The group's start, when its conditions hold and the newest point has passed the first cycle start after them (R187). -/
def State.tryStart (s : State) (t g : Nat) : State :=
  let n := s.grpSrc t g
  let v := s.srcView t n
  match v.pts with
  | [] => s
  | p :: _ =>
    let x := s.grp t g
    let s := if x.startAt.isNone && s.startReady t g then
        s.setGrp t g { x with startAt := some (p.pos / (v.cpc1 : Int) + 1), srcCpc := v.cpc, srcOwner := s.srcOwner n }
      else s
    match (s.grp t g).startAt with
    | none => s
    | some k => if !(s.grp t g).folding && k * v.cpc1 ≤ p.pos then s.groupStart t g k else s

/-- A sample placed into its stream's record of cycle `k` (R185, R188, R190): the record before closes, a first sample opens a new one. -/
def State.placeSample (s : State) (t g i : Nat) (v : Source) (w : WaitSample) (p : Pos) (hold : Bool) : State :=
  let k := p.cycle v.cpc1
  let x := s.grp t g
  let fresh := { CycRec.fresh i k ((startOf v k).getD w.lt) with gapIn := x.gaps.contains (i, k), hold := x.stepIn == some k }
  let x := match x.openOf i with
    | some r => if r.cycle < k then x.closeOpen i { r with endLt := startOf v (r.cycle + 1) } s.lt else x
    | none => x
  let r := (x.openOf i).getD fresh
  let a := p.angle v.cpc1
  let b := a * s.binsOf t g / 0x100000000
  let acc := (tabGet (fun _ => BinAcc.empty) r.bins b).add w.word a hold
  let out := w.word.getLsbD 25 || w.word.getLsbD 27
  let r := { r with bins := tabSet (fun _ => BinAcc.empty) b acc r.bins, high := some p, added := if out then r.added else r.added + 1 }
  let x := (x.setOpen i r).setNext i k
  (s.setGrp t g x).closeReady t g (x.waits.length)

/-- Stream `i` has lost a sample of cycle `k` (R190, R292): its record of the cycle carries GAP_IN, and the cycle will be INCOMPLETE. -/
def GroupSt.lose (x : GroupSt) (i : Nat) (k : Int) : GroupSt :=
  let mark (r : CycRec) : CycRec := if r.chan == i && r.cycle == k then { r with gapIn := true } else r
  { x with opens := x.opens.map (fun o => (o.1, mark o.2)), waits := x.waits.map (fun w => { w with recs := w.recs.map mark }),
           gaps := if x.gaps.contains (i, k) || (match x.lastClosed with | some j => decide (k ≤ j) | none => false) then x.gaps else x.gaps ++ [(i, k)] }

/-- A sample of stream `i` in cycle `k` is not folded (R192): UNFOLDED of its record of that cycle, if the group has not closed it. -/
def GroupSt.unfold (x : GroupSt) (i : Nat) (k : Int) : GroupSt :=
  let mark (r : CycRec) : CycRec := if r.chan == i && r.cycle == k then { r with unfolded := r.unfolded + 1 } else r
  { x with opens := x.opens.map (fun o => (o.1, mark o.2)), waits := x.waits.map (fun w => { w with recs := w.recs.map mark }) }

/-- A located sample of stream `i` is folded, or counted as back or late (R185, R190). -/
def State.foldSample (s : State) (t g i : Nat) (v : Source) (w : WaitSample) (p : Pos) (hold : Bool) : State :=
  let x := s.grp t g
  let k := p.cycle v.cpc1
  if !x.folding || decide (k < x.startAt.getD k) then s
  else if w.lost then s.setGrp t g (x.lose i k)
  else
    match x.openOf i with
    | some r =>
      if (match r.high with | some h => p.le h | none => false) then
        (s.incSat (F.CHURN_CNT1_BACK_SAMPLES t)).setGrp t g ((x.setOpen i { r with reversed := true }).unfold i k)
      else s.placeSample t g i v w p hold
    | none => if k < x.next i then (s.incSat (F.CHURN_CNT0_LATE_SAMPLES t)).setGrp t g (x.unfold i k) else s.placeSample t g i v w p hold

/-- A sample that no point can place (R185): counted, and the stream's record in progress carries STILL. -/
def State.stillSample (s : State) (t g i : Nat) (w : WaitSample) : State :=
  if w.lost then s
  else
    let s := s.incSat (F.CHURN_CNT0_STILL_SAMPLES t)
    let x := s.grp t g
    match x.openOf i with
    | some r => s.setGrp t g (x.setOpen i { r with still := true, unfolded := r.unfolded + 1 })
    | none => s

/-- The samples a stream holds back. -/
def State.waitingOf (s : State) (t i : Nat) : List WaitSample := tabGet (fun _ => []) (s.eng t).waiting i

/-- The samples a stream holds back, set. -/
def State.setWaiting (s : State) (t i : Nat) (l : List WaitSample) : State :=
  let c := s.eng t
  s.setEng t { c with waiting := tabSet (fun _ => []) i l c.waiting }

/-- A stream's waiting samples are placed or set aside, oldest first, until one must wait (R185). -/
def State.drainStream (s : State) (t g i : Nat) : Nat → State
  | 0 => s
  | n + 1 =>
    match s.waitingOf t i with
    | [] => s
    | w :: l =>
      let src := s.grpSrc t g
      let v := s.srcView t src
      let stands := src ≥ 4 && v.stopped
      if (!s.srcAvailTo t src && !stands) || (s.grp t g).startAt.isNone then State.drainStream (s.setWaiting t i l) t g i n
      else if pointAfter w.lt v.pts then
        let s := s.setWaiting t i l
        let s := match posAt w.lt v.pts with
          | some (p, h) => s.foldSample t g i v w p h
          | none => s
        State.drainStream s t g i n
      else if stands then State.drainStream ((s.setWaiting t i l).stillSample t g i w) t g i n
      else s

/-- All streams of a group drained. -/
def State.drainGroup (s : State) (t g : Nat) : State :=
  (s.foldedIn t g).foldl (fun s i => s.drainStream t g i ((s.waitingOf t i).length)) s

/-- A sample that has left its chain reaches the engine (R185, R186); `lost` where TQ t.0 could not take it. -/
def State.sampleArrive (s : State) (t i step lt : Nat) (word : Word) (lost : Bool) : State :=
  let g := s.get (F.CHURN_STR_GROUP t i)
  let fs := s.get (F.CHURN_STR_FOLD_STEP t i)
  if (s.eng t).on && s.isSet (F.CHURN_STR_FOLD_EN t i) && s.isSet (F.CHURN_GRP_CFG_EN t g) && (fs == 31 || fs == step) then
    let s := s.tryStart t g
    let l := s.waitingOf t i ++ [⟨lt, word, s.lt, lost⟩]
    ((s.setWaiting t i l).drainStream t g i l.length).grpShow t g
  else s

/-- Cycle `k` of a group has not ended within MAX_CYCLE_MS (R190), as the points show, or, with none stamped late enough, WAIT_US after
the deadline. -/
def State.overLong (s : State) (t g : Nat) (v : Source) (k : Int) : Bool :=
  match startOf v k with
  | none => false
  | some st =>
    let l := st + s.get (F.CHURN_GRP_CFG_MAX_CYCLE_MS t g) * 1000000
    if pointAfter l v.pts then
      match posAt l v.pts with
      | some (p, _) => decide (p.num < (k + 1) * v.cpc1 * p.den)
      | none => false
    else decide (l + s.get (F.CHURN_GRP_TIME_WAIT_US t g) * 1000 ≤ s.lt)

/-- The cycles of a group that may be over-long: those with an open record, and the one the newest point lies in. -/
def State.openCycles (s : State) (t g : Nat) (v : Source) : List Int :=
  (s.grp t g).opens.map (fun o => o.2.cycle) ++ (match v.pts with
    | p :: _ => [p.pos / (v.cpc1 : Int)]
    | [] => [])

/-- MAX_CYCLE_MS enforced (R190): the latest over-long cycle, and with it the earlier ones, closes with TIMEOUT. -/
def State.maxCycle (s : State) (t g : Nat) : State :=
  let v := s.srcView t (s.grpSrc t g)
  let ks := ((s.openCycles t g v).filter (fun k => !s.allClosed t g k && s.overLong t g v k))
  match ks with
  | [] => s
  | k :: t' => if (s.grp t g).folding then s.closeUpTo t g (t'.foldl max k) false else s

/-- Among the `m` newest points (newest first) and the one before them, a cycle number that does not follow the one before (R203). -/
def cycleJumps (cpc : Nat) : Nat → List Point → Bool
  | m + 1, b :: a :: l =>
    let d := b.pos / (cpc : Int) - a.pos / (cpc : Int)
    (d != 0 && d != 1) || cycleJumps cpc m (a :: l)
  | _, _ => false

/-- The changes of a cycle source that restart teaching as `m` new points arrive (R203): CPC, OWNER, and a cycle number that does not follow. -/
def State.srcChanged (s : State) (t g m : Nat) : Bool :=
  let n := s.grpSrc t g
  let v := s.srcView t n
  let x := s.grp t g
  x.startAt.isSome && (v.cpc != x.srcCpc || s.srcOwner n != x.srcOwner || cycleJumps v.cpc1 m v.pts)

/-- Points of source `n` have reached tile `t`'s engine (R184): they are taken, and each group on the source goes on. Every kept stamp reaches
it, also one whose CAPTURE record TQ t.3 drops (DESIGN CHOICE, assumption 110). -/
def State.pointsReach (s : State) (t n : Nat) : State :=
  let c := s.eng t
  let seen := match tabGet (fun _ => []) c.pts n with
    | p :: _ => p.lt
    | [] => 0
  let m := ((s.src n).pts.filter (fun p => decide (seen < p.lt))).length
  let s := s.setEng t { c with pts := tabSet (fun _ => []) n (s.src n).pts c.pts }
  ((List.range 4).filter (fun g => s.isSet (F.CHURN_GRP_CFG_EN t g) && s.grpSrc t g == n)).foldl (fun s g =>
    let ch := s.srcChanged t g m
    let s := if ch then s.teachRestart t g else s
    let x := s.grp t g
    let s := if x.startAt.isSome then s.setGrp t g { x with srcCpc := (s.src n).cpc, srcOwner := s.srcOwner n } else s
    (((s.tryStart t g).maxCycle t g).drainGroup t g).grpShow t g) s

/-- A group loses its source (R185, R190, R203): samples that wait on a shared source that stands are placed or counted; open records close with
SRC_LOST, waiting cycles close, teaching restarts; the group starts again as R187 states. -/
def State.groupLost (s : State) (t g : Nat) : State :=
  let s := s.drainGroup t g
  let x := s.grp t g
  let s := match x.opens.map (fun o => o.2.cycle) ++ x.waits.map (fun w => w.cycle) with
    | k :: l => s.closeUpTo t g (l.foldl max k) true
    | [] => s
  let s := (s.foldedIn t g).foldl (fun s i => s.setWaiting t i []) s
  let x := s.grp t g
  ((s.setGrp t g { x with startAt := none, folding := false, nextOk := [], gaps := [] }).teachRestart t g).grpShow t g

/-- A channel's chain restarts (R190: R70 route change, R91, R130 step, R403): its open record closes with SRC_LOST. -/
def State.chanRestart (s : State) (t i : Nat) : State :=
  let g := s.get (F.CHURN_STR_GROUP t i)
  if (s.eng t).on && s.isSet (F.CHURN_STR_FOLD_EN t i) then
    let x := s.grp t g
    match x.openOf i with
    | some r =>
      let x := (x.closeOpen i { r with srcLost := true } s.lt).setNext i (r.cycle + 1)
      (s.setGrp t g x).closeReady t g x.waits.length
    | none => s
  else s

/-- Line time steps (R130): the cycle in progress of each group that folds is recorded with HOLDOVER. -/
def State.churnStep (s : State) (t : Nat) : State :=
  (List.range 4).foldl (fun s g =>
    let x := s.grp t g
    if x.folding then
      let v := s.srcView t (s.grpSrc t g)
      s.setGrp t g { x with opens := x.opens.map (fun o => (o.1, { o.2 with hold := true })),
                            stepIn := v.pts.head?.map (fun p => p.pos / (v.cpc1 : Int)) }
    else s) s

/-! ## Start and stop of the engine (R209) -/

/-- The engine starts with its tile (R187, R202): groups start afresh; with `teach`, TEACH_AT_START applies to the first start. -/
def State.churnStart (s : State) (t : Nat) (teach : Bool) : State :=
  let c := s.eng t
  let s := s.setEng t { ChurnSt.rest with on := true, pts := c.pts, lowHeld := c.lowHeld }
  (List.range 4).foldl (fun s g =>
    let a := teach && s.isSet (F.CHURN_GRP_CFG_TEACH_AT_START t g)
    (s.setGrp t g { GroupSt.rest with armTeach := a }).grpShow t g) s

/-- The engine stops with its tile: open and waiting cycles are discarded without records (R209). -/
def State.churnStop (s : State) (t : Nat) : State :=
  let s := s.setEng t ChurnSt.rest
  (List.range 4).foldl (fun s g => s.grpShow t g) s

/-- The engine stops for retention (R209): open and waiting cycles are discarded; teaching and drift stand. -/
def State.churnPause (s : State) (t : Nat) : State :=
  let c := s.eng t
  let s := s.setEng t { c with on := false, waiting := [], order := [], judge := none }
  (List.range 4).foldl (fun s g =>
    let x := s.grp t g
    (s.setGrp t g { x with startAt := none, folding := false, nextOk := [], opens := [], gaps := [], waits := [], closed := [] }).grpShow t g) s

/-- The engine goes on after retention (R202: no teach begins). -/
def State.churnResume (s : State) (t : Nat) : State := s.setEng t { s.eng t with on := true }

/-! ## Table writes (R198) -/

/-- A side of a commit allows it (R198): no group, or a group open to writes that is neither teaching nor drifting. -/
def State.envMay (s : State) (t : Nat) (g : Option Nat) : Bool :=
  match g with
  | none => true
  | some g => s.isSet (F.CHURN_GRP_CFG_ENV_WRITE t g) && !(s.grp t g).teaching && !s.isSet (F.CHURN_GRP_CFG_DRIFT_EN t g)

/-- A commit to the table: at once, or, during a judgement of either group, when that ends (R198). -/
def State.envCommit (s : State) (t e : Nat) (w : BitVec 64) : State :=
  let busy (g : Option Nat) : Bool := match g with
    | some g => s.judging t g
    | none => false
  if busy (s.envGroup t (s.envGet t e)) || busy (s.envGroup t w) then
    let c := s.eng t
    s.setEng t { c with commits := c.commits ++ [(e, w)] }
  else s.envSet t e w

/-- A write the rule does not allow (R198). -/
def State.envRefuse (s : State) (t : Nat) : State :=
  ((s.incSat (F.CHURN_CNT1_ENV_WRITE_REFUSED t)).put (F.CHURN_EVT_WRITE_REFUSED_SEEN t) 1).churnEvent t

/-- Core `w` writes a word of entry `e` (R198): the low word is held, the high word commits the pair. -/
def State.envWrite (s : State) (w t e : Nat) (high : Bool) (v : Word) : State :=
  let old := s.envGet t e
  if !(w == t || w == vat) || !s.envMay t (s.envGroup t old) then s.envRefuse t
  else if !high then
    let c := s.eng t
    s.setEng t { c with lowHeld := tabSet (fun _ => none) e (some v) c.lowHeld }
  else
    let c := s.eng t
    let low := (tabGet (fun _ => none) c.lowHeld e).getD (old.setWidth 32)
    let new : BitVec 64 := (v ++ low)
    let s := s.setEng t { c with lowHeld := tabSet (fun _ => none) e none c.lowHeld }
    if s.envMay t (s.envGroup t new) then s.envCommit t e new else s.envRefuse t

end Sys2Proof.Machine
end

