-- ==== Sys2Proof/Machine/ChurnCmds.lean ====
section
/-! DEFINITION. The churn engine's commands (chapter 07). -/

namespace Sys2Proof.Machine

open Host

/-- What every meaning of this model answers: a next state. -/
abbrev Out := Host.Outcome State Fault Refusal

/-- POINT_ARRIVAL (R184, R231): the source's points reach the tile's engine, and waiting entries of the source are estimated again. -/
def execPointArrival (t src : Fin 8) (s : State) : Out :=
  .next ((if (s.eng t).on then s.pointsReach t src else s).reestimate src)

/-- The oldest waiting sample of a stream has waited WAIT_US without a point (R185). -/
def State.foldExpired (s : State) (t g i : Nat) : Bool :=
  match s.waitingOf t i with
  | w :: _ => decide (w.left + s.get (F.CHURN_GRP_TIME_WAIT_US t g) * 1000 ≤ s.lt)
      && !pointAfter w.lt (s.srcView t (s.grpSrc t g)).pts
  | [] => false

/-- FOLD_WAIT_EXPIRY (R185): the waiting sample is not folded; those behind it are looked at. -/
def execFoldWaitExpiry (t : Fin 8) (i : Fin 16) (s : State) : Out :=
  let g := s.get (F.CHURN_STR_GROUP t i)
  if s.foldExpired t g i then
    match s.waitingOf t i with
    | w :: l => .next ((((s.setWaiting t i l).stillSample t g i w).drainStream t g i l.length).grpShow t g)
    | [] => .next s
  else .next s

/-- CLOSE_WAIT_EXPIRY (R190): CLOSE_WAIT × 100 µs after the first stream closed the earliest waiting cycle, the others close it. -/
def execCloseWaitExpiry (t : Fin 8) (g : Fin 4) (s : State) : Out :=
  match (s.grp t g).waits with
  | w :: _ =>
    if w.firstLt + s.get (F.CHURN_GRP_TIME_CLOSE_WAIT t g) * 100000 ≤ s.lt then .next ((s.closeUpTo t g w.cycle false).grpShow t g)
    else .next s
  | [] => .next s

/-- MAX_CYCLE_TIMEOUT (R190): a cycle that has not ended in time closes with TIMEOUT. -/
def execMaxCycleTimeout (t : Fin 8) (g : Fin 4) (s : State) : Out :=
  .next ((s.maxCycle t g).grpShow t g)

/-- CYCLE_SOURCE_LOSS (R190, R203, R211): the group's source has become unavailable; GRP_STAT shows it. -/
def execCycleSourceLoss (t : Fin 8) (g : Fin 4) (s : State) : Out :=
  if (s.grp t g).startAt.isSome && !s.srcAvailTo t (s.grpSrc t g) then .next (s.groupLost t g)
  else .next (s.grpShow t g)

/-- The judgement of group `g`'s oldest closed cycle ends (R199, R201): STATUS, the verdict, the table commits that waited, the next one. -/
def State.judgeEnd (s : State) (t g : Nat) : State :=
  let x := s.grp t g
  match x.closed with
  | [] => (s.setEng t { s.eng t with judge := none }).judgeNext t
  | c :: l =>
    let status := if c.incomplete then vIncomplete else if x.teaching then vTeaching else vJudged
    let s := (s.setGrp t g { x with closed := l }).verdict t g c status
    let e := s.eng t
    let s := s.setEng t { e with judge := none, commits := [] }
    let s := e.commits.foldl (fun s k => s.envSet t k.1 k.2) s
    (s.judgeNext t).grpShow t g

/-- JUDGEMENT_END (R201). -/
def execJudgementEnd (t : Fin 8) (s : State) : Out :=
  match (s.eng t).judge with
  | some j => if j.until_ ≤ s.lt then .next (s.judgeEnd t j.group) else .next s
  | none => .next s

/-- A core may write this tile's engine commands: the tile's pail core and the vat core (R198, R202, R211). -/
def tileWriter (w t : Nat) : Bool := w == t || w == vat

/-- TEACH written (R202). -/
def State.cmdTeach (s : State) (w t g : Nat) : State :=
  if tileWriter w t && s.isSet (F.CHURN_GRP_CFG_TEACH_CMD_EN t g) && s.isSet (F.CHURN_GRP_CFG_EN t g) then s.teachStart t g else s

/-- TEACH_END written (R203): teaching stops, the entries keep their bounds. -/
def State.cmdTeachEnd (s : State) (w t g : Nat) : State :=
  if tileWriter w t && (s.grp t g).teaching then
    (s.setGrp t g { s.grp t g with teaching := false, teachDone := 0 }).grpShow t g
  else s

/-- TEACH (R202). -/
def execTeach (w : Fin 9) (t : Fin 8) (g : Fin 4) (s : State) : Out := .next (s.cmdTeach w t g)

/-- TEACH_END (R203). -/
def execTeachEnd (w : Fin 9) (t : Fin 8) (g : Fin 4) (s : State) : Out := .next (s.cmdTeachEnd w t g)

/-- ENV_ENTRY_WRITE (R198). -/
def execEnvEntryWrite (w : Fin 9) (t : Fin 8) (e : Fin 3072) (high : Bool) (value : Word) (s : State) : Out :=
  .next (s.envWrite w t e high value)

end Sys2Proof.Machine
end

