-- ==== Sys2Proof/Machine/Samples.lean ====
section
/-! DEFINITION. Samples into TQ t.0 (R292): open records, runs of samples that find no room, and the churn engine's cut-through read. -/

namespace Sys2Proof.Machine

/-- FLAGS of a SAMPLES record: the OR of its samples' flags (R118, R292). -/
def samplesFlags (ws : List Word) : Byte :=
  let any (i : Nat) : Bool := ws.any (fun w => w.getLsbD i)
  let f := if any 24 then flagOn flStitched 0#8 else 0#8
  let f := if any 25 then flagOn flSettling f else f
  let f := if any 26 then flagOn flOverrange f else f
  let f := if any 27 then flagOn flExcFault f else f
  if any 28 then flagOn flHoldover f else f

/-- The payload of a SAMPLES record (R292). -/
def OpenSamples.payload (i : Nat) (o : OpenSamples) : List Byte :=
  leBytes 1 (i + o.step * 16) ++ leBytes 1 (o.rate + (if o.burst then 128 else 0)) ++ leBytes 2 o.words.length ++ leBytes 1 o.mode
    ++ leBytes 3 0 ++ o.words.flatMap (fun w => leBytes 4 w.toNat)

/-- The sample period of a rate code in ns (R110). -/
def periodNs (rate : Nat) : Nat := 5120 * 2 ^ rate

/-- TQ t.0. -/
abbrev tq0 (t : Nat) : Nat := 6 * t

/-- The channel's open record. -/
def State.openSamples (s : State) (t i : Nat) : Option OpenSamples :=
  ((s.queue (tq0 t)).opens.find? (fun o => o.1 == i)).map (fun o => o.2)

/-- The channel's open record closes (R292): it takes its SEQ and its place in the queue's order. -/
def State.closeSamples (s : State) (t i : Nat) : State :=
  match s.openSamples t i with
  | none => s
  | some o =>
    let r := { s.openHeader t i o with flags := if o.thr then flagOn flThrottled (samplesFlags o.words) else samplesFlags o.words, payload := o.payload i }
    let x := s.queue (tq0 t)
    (((s.setQueue (tq0 t) { x with opens := tabDrop i x.opens }).takeSeq r.key).qCommit (tq0 t) r).qCompare (tq0 t)

/-- The channel's run of unwritten samples. -/
def State.lostRun (s : State) (t i : Nat) : Option LostRun :=
  ((s.queue (tq0 t)).runs.find? (fun o => o.1 == i)).map (fun o => o.2)

/-- A run of unwritten samples ends (R292): it counts as one SAMPLES record, takes its SEQ, and is entered in the pending GAP, or in the GAP of a
reset that runs (R304). -/
def State.endRun (s : State) (t i : Nat) : State :=
  match s.lostRun t i with
  | none => s
  | some r =>
    let src := s.source t i
    let key := streamKey src tySamples
    let e : GapEntry := { source := src, stype := tySamples, firstSeq := w32 (s.nextSeq key), count := 1, ltFrom := r.ltFrom, ltTo := r.ltTo }
    let x := { s.queue (tq0 t) with runs := tabDrop i (s.queue (tq0 t)).runs }
    let s' := (s.takeSeq key).incSat (F.Q_CNT0_DROPPED (tq0 t))
    match x.resetting with
    | some z => s'.setQueue (tq0 t) { x with resetting := some { z with gap := { z.gap with entries := gapMerge e z.gap.entries } } }
    | none =>
      let p := x.pend.getD PendGap.empty
      let s' := s'.setQueue (tq0 t) { x with pend := some { p with entries := gapAdd e p.entries } }
      if x.pend.isNone then (s'.put (F.Q_EVT_DROP_SEEN (tq0 t)) 1).raiseQueue (tq0 t) else s'

/-- TQ t.0 can take `need` more bytes outside the reserve, and a pending GAP of `gap` bytes ahead of them (R297, R301, R303). -/
def State.sampleRoom (s : State) (t gap need : Nat) : Bool :=
  let x := s.queue (tq0 t)
  decide (x.used + gap + need ≤ s.qSize (tq0 t)) && decide (x.used + need + qReserve ≤ s.qSize (tq0 t)) && x.resetting.isNone

/-- The bytes the pending GAP of TQ t.0 needs, with the channel's lost run entered. -/
def State.sampleGap (s : State) (t i : Nat) : Nat :=
  let p := (s.queue (tq0 t)).pend.getD PendGap.empty
  if (s.lostRun t i).isSome then p.size + 68 else if p.entries.isEmpty && p.marks.isEmpty then 0 else p.size

/-- The pending GAP of TQ t.0 written, if any. -/
def State.sampleFlush (s : State) (t : Nat) : State :=
  match (s.queue (tq0 t)).pend with
  | some p => s.qWritePend (tq0 t) p
  | none => s

/-- A sample goes on in the channel's open record: the next period, the same step, rate, mode and burst state, room in the record. -/
def State.continues (s : State) (t i lt step rate mode : Nat) (burst : Bool) : Bool :=
  match s.openSamples t i with
  | some o => decide (lt = o.lt + o.words.length * periodNs o.rate) && o.step == step && o.rate == rate && o.mode == mode
      && o.burst == burst && decide (o.words.length < s.get (F.Q_AUX_LEVEL (tq0 t)))
  | none => false

/-- The throttle has lasted beyond the 2 ms for which the queues absorb its backlog (R141, R209, R393). -/
def State.backlogged (s : State) : Bool := s.throttle != 0 && s.thr.told

/-- A sample leaves its chain (R292): it is written into TQ t.0, or, where that has no room, joins the channel's run of lost samples; the
churn engine takes it at once. Whether a sample that leaves while the throttle has lasted beyond 2 ms meets a backlog, and so becomes GAP (R141, R209), depends on
how far the engine has fallen behind, which the spec does not say: a free value (DESIGN CHOICE, assumption 147). -/
def State.samplePut (s : State) (t i lt step rate mode : Nat) (burst : Bool) (word : Word) : State :=
  let late := s.backlogged && s.free.getLsbD 0
  let s := if s.backlogged then s.freeNext else s
  let s := if s.continues t i lt step rate mode burst then s else s.closeSamples t i
  let need := if s.continues t i lt step rate mode burst then 4 else 40
  let gap := s.sampleGap t i
  let s := (s.qMakeRoom (tq0 t) (gap + need) (s.qSize (tq0 t))).qMakeRoom (tq0 t) need (s.qSize (tq0 t) - qReserve)
  let fits := s.sampleRoom t gap need && !late
  let s := if fits then ((s.endRun t i).sampleFlush t).qCompare (tq0 t) else s
  if fits && (s.queue (tq0 t)).resetting.isNone then
    let o := (s.openSamples t i).getD ⟨step, rate, burst, mode, lt, [], false⟩
    let x := s.queue (tq0 t)
    let o := { o with words := o.words ++ [word], thr := o.thr || s.throttle != 0 }
    let s := s.setQueue (tq0 t) { x with opens := tabInsert i o (tabDrop i x.opens) }
    let s := if o.words.length ≥ s.get (F.Q_AUX_LEVEL (tq0 t)) then s.closeSamples t i else s
    s.sampleArrive t i step lt word false
  else
    let s := s.closeSamples t i
    let x := s.queue (tq0 t)
    let r : LostRun := match s.lostRun t i with
      | some r => ⟨r.ltFrom, lt⟩
      | none => ⟨lt, lt⟩
    (s.setQueue (tq0 t) { x with runs := tabInsert i r (tabDrop i x.runs) }).sampleArrive t i step lt word true

/-- The channel stops (R292): its open record closes and its run of lost samples ends. -/
def State.samplesStop (s : State) (t i : Nat) : State := (s.closeSamples t i).endRun t i

end Sys2Proof.Machine
end

