-- ==== Sys2Proof/Machine/Channels.lean ====
section
/-! DEFINITION. Channels (chapter 04): the chain's timing, ranges and resets, the sample's value and flags. -/

namespace Sys2Proof.Machine

/-! ## State -/

/-- Cell `c` beside its registers. -/
def State.cell (s : State) (c : Nat) : CellSt := tabGet (fun _ => CellSt.off) s.cells c
/-- The state with cell `c` set. -/
def State.setCell (s : State) (c : Nat) (x : CellSt) : State := { s with cells := tabSet (fun _ => CellSt.off) c x s.cells }
/-- Channel `k` beside its registers. -/
def State.chan (s : State) (k : Nat) : ChanSt := tabGet (fun _ => ChanSt.off) s.chans k
/-- The state with channel `k` set. -/
def State.setChan (s : State) (k : Nat) (x : ChanSt) : State := { s with chans := tabSet (fun _ => ChanSt.off) k x s.chans }
/-- A source's monitor. -/
def CellSt.mon (x : CellSt) (n : Nat) : SrcMon := tabGet (fun _ => SrcMon.ok) x.mons n
/-- A source's monitor set. -/
def CellSt.setMon (x : CellSt) (n : Nat) (m : SrcMon) : CellSt := { x with mons := tabSet (fun _ => SrcMon.ok) n m x.mons }
/-- A channel's lead measurements. -/
def CellSt.leadOf (x : CellSt) (i : Nat) : LeadSt := tabGet (fun _ => LeadSt.none_) x.leads i
/-- A channel's lead measurements set. -/
def CellSt.setLead (x : CellSt) (i : Nat) (l : LeadSt) : CellSt := { x with leads := tabSet (fun _ => LeadSt.none_) i l x.leads }

/-! ## Timing of the chain (R110, R115, R117) -/

/-- The least multiple of `p` at or above `n`. -/
def ceilTo (p n : Nat) : Nat := (n + p - 1) / p * p

/-- The chain's latency of rate code `n`: 2,720 × M ns with M = 32 × 2^n (R110). -/
def latencyNs (n : Nat) : Nat := 2720 * (32 * 2 ^ n)

/-- H, the half-width of a sample's window (R110). -/
def halfNs (n : Nat) : Nat := 2720 * (32 * 2 ^ n) - 200

/-- The notches' settle time T_N (R115); 0 without notches. -/
def State.notchNs (s : State) (k : Nat) : Nat :=
  if s.get (F.CH_MODE_NOTCH k) = 0 then 0 else if s.get (F.CH_MODE_NOTCH_BW k) = 0 then 1000000000 else 300000000

/-- The frequency in mHz that channel `k`'s notches follow (R114, R116): 50 Hz, 60 Hz, or that of its tile's tracker. -/
def State.notchMhz (s : State) (k : Nat) : Nat :=
  match s.get (F.CH_MODE_NOTCH k) with
  | 1 => 50000
  | 2 => 60000
  | _ => s.get (F.MAINS_FREQ_FREQ_MILLIHZ (k / 16))

/-- Where the notch of a harmonic at `hf` lies at an output rate `fs` (R114): at it below 0.50 × fs, at its alias below 0.60 × fs, nowhere above. -/
def notchPlace (fs hf : Nat) : Option Nat := if hf * 2 < fs then some hf else if hf * 5 < fs * 3 then some (fs - hf) else none

/-- The places of channel `k`'s notches at rate code `n`, in 2^-17 mHz (R114): of the harmonics 1 to NOTCH_H. -/
def State.notchPlaces (s : State) (k n : Nat) : List Nat :=
  if s.get (F.CH_MODE_NOTCH k) = 0 then []
  else (List.range (s.get (F.CH_MODE_NOTCH_H k))).filterMap
    (fun h => notchPlace (195312500 * 2 ^ (17 - n)) ((h + 1) * s.notchMhz k * 2 ^ 17))

/-- The rate a channel runs at (R403): in WATCH, on a measured tile, at least RATE_MIN, the mains tracker's source channel apart. -/
def State.rateOf (s : State) (k : Nat) : Nat :=
  let r := s.get (F.CH_MODE_RATE k)
  let t := k / 16
  if s.cond mWatch && s.bit F.MOD_WATCH_MEASURE t
      && !(s.isSet (F.MAINS_CFG_SRC_CH_EN t) && s.get (F.MAINS_CFG_SRC_CH t) == k % 16) then
    max r (s.get F.MOD_WATCH_RATE_MIN)
  else r

/-- CHk_SETTLE_NS and CHk_LATENCY_NS show the filter in use (R110, R117, R403). -/
def State.showFilter (s : State) (k : Nat) : State :=
  let n := s.rateOf k
  (s.putPair (R.CH_SETTLE_NS k) (2 * halfNs n + s.notchNs k)).putPair (R.CH_LATENCY_NS k) (latencyNs n)

/-- The chain starts afresh: its windows may hold nothing before `from_` (R70, R113). -/
def State.chainFrom (s : State) (k from_ : Nat) : State :=
  let n := s.rateOf k
  s.setChan k { s.chan k with from_ := from_, next := ceilTo (periodNs n) (from_ + halfNs n), rate := n }

/-! ## The sample's value (R96 to R98) -/

/-- FS of a voltage range in pV (R95: 39.0625 mV, each range a factor 4 wider). -/
def fsVolt (r : Nat) : Nat := 39062500000 * 4 ^ r
/-- FS of a charge range in aC (R95: 100 pC, each range a factor 4 wider). -/
def fsCharge (r : Nat) : Nat := 100000000 * 4 ^ r

/-- A quotient rounded to nearest (R96); a tie goes as the open choice says. -/
def roundNear (num : Int) (den : Nat) : Int :=
  let q := num / (den : Int)
  let r := 2 * (num - q * den)
  if r < den then q else if r > den then q + 1 else if Config.tieUp q then q + 1 else q

/-- The loop values of `l`, oldest first, without those that no window beginning at or after `from_` uses. -/
def dropLoops (from_ : Nat) : List (Nat × Nat) → List (Nat × Nat)
  | [] => []
  | a :: l => match l with
    | [] => [a]
    | b :: _ => if b.1 < from_ then dropLoops from_ l else a :: l

/-- The loop value a sample's lead term uses (R84): that of the last measurement that ended before its window begins. -/
def State.loopFor (s : State) (k begin_ : Nat) : Nat :=
  match dropLoops begin_ ((s.cell (k / 4)).leadOf (k % 4)).loops with
  | [] => 0
  | a :: _ => a.2

/-- The set current of source A or B in nA (R73: code × 0.5 µA). -/
def State.setNa (s : State) (c n : Nat) : Nat :=
  (if n = 0 then s.get (F.CELL_ISRC_ISA_CODE c) else s.get (F.CELL_ISRC_ISB_CODE c)) * 500

/-- The measured current of source A or B in nA (R75). -/
def State.measNa (s : State) (c n : Nat) : Nat :=
  if n = 0 then s.get (F.CELL_ISA_MEAS_I_NA c) else s.get (F.CELL_ISB_MEAS_I_NA c)

/-- The current source that excites channel `k` (R98): 0 A, 1 B, none where its use bits name neither. -/
def State.excSource (s : State) (k : Nat) : Option Nat :=
  let u := s.get (F.CELL_USE_USE (k / 4) (k % 4))
  if u.testBit 0 then some 0 else if u.testBit 1 then some 1 else none

/-- The measured current in nA of the source that excites channel `k` (R75, R82). -/
def State.excNa (s : State) (k : Nat) : Nat :=
  match s.excSource k with
  | some n => s.measNa (k / 4) n
  | none => 0

/-- The nominal bridge level in µV (R73): 0 where the source is off. -/
def State.bvNominal (s : State) (c : Nat) : Nat :=
  match s.get (F.CELL_CFG_BV_LEVEL c) with
  | 1 => 2500000
  | 2 => 5000000
  | _ => 0

/-- What WIRING 1 subtracts from the channel's reading in pV, doubled (R82): Ia × LEADi_RES ÷ 2, of a window that begins at `begin_`. DESIGN
CHOICE, assumption 113: a charge reading has no voltage to subtract it from. -/
def State.leadTerm (s : State) (k begin_ : Nat) : Nat :=
  if s.get (F.CELL_LEAD_CFG_WIRING (k / 4) (k % 4)) = 1 ∧ s.get (F.CH_MODE_MODE k) ≠ 2 then s.excNa k * s.loopFor k begin_ else 0

/-- The code as an exact quotient (R94 to R98): numerator and denominator of code = x ÷ FS(MAX_RANGE) × 8,388,608 of the channel's mode, where x is
`num` ÷ `den` and `ref` the reference. The window begins at `begin_`. -/
def State.codeRatio (s : State) (k begin_ : Nat) (ref num : Int) (den : Nat) : Int × Int :=
  let m := s.get (F.CH_MODE_MAX_RANGE k)
  let c := k / 4
  let x := 2 * num - (s.leadTerm k begin_ * den : Nat)
  let fs : Int := (2 * den * fsVolt m : Nat)
  match s.get (F.CH_MODE_MODE k) with
  | 2 => (num * 8388608, (den * fsCharge m : Nat))
  | 3 =>
    let ty := s.get (F.CH_MODE_TC_TYPE k)
    if ty = 0 then (x * 8388608, fs)
    else ((x * emfDen + 2 * den * emfNum ty (s.getInt (F.CELL_CJ_CJ_TEMP c))) * 8388608, fs * emfDen)
  | 4 => (x * s.setNa c ((s.excSource k).getD 0) * 8388608, fs * s.excNa k)
  | 5 => (x * s.bvNominal c * 1000000 * 8388608, ref * fs)
  | _ => (x * 8388608, fs)

/-- A quotient rounded to nearest (R96); where its denominator, the measured current or reference, is 0 the spec states no result, and the value
is free. -/
def State.ratioCode (s : State) (q : Int × Int) : Int :=
  if q.2 = 0 then (s.free.setWidth 24).toInt
  else if q.2 < 0 then roundNear (-q.1) q.2.natAbs else roundNear q.1 q.2.natAbs

/-- The free value that `ratioCode` took is used up. -/
def State.ratioFree (s : State) (q : Int × Int) : State := if q.2 = 0 then s.freeNext else s

/-! ## The filter over range changes and resets (R100, R102, R103, R105) -/

/-- The weight, in 2^-30, of the clocks at or after an instant `d` ns from a sample's stamp (R103, R110): all of them before the window, none after
it. -/
def State.stepWeight (s : State) (k : Nat) (d : Int) : Int :=
  let n := (s.chan k).rate
  if d ≤ -(halfNs n : Int) then 2 ^ 30 else if (halfNs n : Int) < d then 0
  else Config.filterStep n (s.notchPlaces k n) (s.get (F.CH_MODE_NOTCH_BW k)) (d / 80)

/-- The gain of range `r` to range 0 in 2^-112 (R102): the product of RATIO1 to RATIOr. -/
def State.gainOf (s : State) (k r : Nat) : Nat :=
  ((List.range r).map (fun i => (s.trim (0x1000 + 4 * k + i)).toNat)).prod * 2 ^ (28 * (4 - r))

/-- The denominator of a sample's quantity. -/
def quantDen : Nat := 2 ^ 112 * 10912

/-- The quantity of the sample stamped `t` over `quantDen` (R102, R103, R105): the clocks weighted by the gain of their range, the blanked clocks
replaced, and each re-zeroing step removed, so that the sample measures from the zero in effect at its stamp. -/
def State.quantity (s : State) (k t : Nat) (parts : List Int) : Int :=
  let x := s.chan k
  let w (e : Nat) : Int := s.stepWeight k ((e : Int) - t)
  ((List.range 5).map (fun r => parts.getD r 0 * s.gainOf k r * 10912)).sum
    + (x.filled.map (fun p => (w p.1 - w (p.1 + 80)) * p.2 * 2 ^ 82)).sum
    + (x.zeros.map (fun p => (if t < p.1 then p.2 * w p.1 else -p.2 * (2 ^ 30 - w p.1)) * 2 ^ 82 * 10912)).sum

/-- The line through the values of the clocks before a blank, read `n` clocks after the last one, in 1/10,912 (R105). DESIGN CHOICE, assumption
114: of the lines through 32 values, the one of least squares. -/
def extrapolate (bits : List Int) (n : Nat) : Int :=
  let b := bits.drop (bits.length - 32)
  341 * b.sum + (31 + 2 * n : Nat) * ((b.zipIdx).map (fun p => (2 * (p.2 : Int) - 31) * p.1)).sum

/-! ## Resets and ranges (R101, R105 to R109) -/

/-- The input's level in pV is at most 20 % of FS(r) (R95, R106). -/
def within20 (v : Int) (r : Nat) : Bool := decide (v.natAbs * 5 ≤ fsVolt r)

/-- LOW at a reset (R106). -/
def State.lowRange (s : State) (k : Nat) : Nat :=
  if s.get (F.CH_MODE_AR_MODE k) = 2 then s.get (F.CH_MODE_MIN_RANGE k) else s.get (F.CH_MODE_HOME_RANGE k)

/-- The level that R106 tests: 0 in charge mode, else the input at the last clock before the blank. -/
def State.resetLevel (s : State) (k : Nat) (r : ResetRead) : Int := if s.get (F.CH_MODE_MODE k) = 2 then 0 else r.last

/-- The range a reset leads to (R106): the lowest from LOW up to the range in effect that holds the input; the range in effect where none
does. -/
def State.resetRange (s : State) (k : Nat) (r : ResetRead) : Nat :=
  let now := s.get (F.CH_STAT_RANGE_NOW k)
  let v := s.resetLevel k r
  ((List.range 5).find? (fun n => decide (s.lowRange k ≤ n) && decide (n ≤ now) && within20 v n)).getD now

/-- The range after a reset at which a quiet window ends too (R108): one below R106's, where R107's condition holds of it. -/
def State.quietRange (s : State) (k : Nat) (r : ResetRead) : Nat :=
  let n := s.resetRange k r
  if s.get (F.CH_MODE_MIN_RANGE k) < n && within20 (s.resetLevel k r) (n - 1) then n - 1 else n

/-- A code clamped to 24 bits (R96). -/
def clampCode (i : Int) : Int := if i > 8388607 then 8388607 else if i < -8388608 then -8388608 else i

/-- A 24-bit code as a field's value. -/
def codeField (i : Int) : Nat := (clampCode i % 0x1000000).toNat

/-- A reset begins (R105, R109): two clocks from the first clock edge at or after now are blanked and replaced; `code` is the input's code at the last
clock before them. In charge mode it re-zeroes the channel (R100), and the replaced clocks count from the new zero. -/
def State.beginReset (s : State) (k : Nat) (code : Int) (r : ResetRead) (before dst : Nat) (quiet : Bool) : State :=
  let e := ceilTo 80 s.lt
  let q := if s.get (F.CH_MODE_MODE k) = 2 then r.last else 0
  let s := s.putPair (R.CH_RST_LT k) e
  let s := (s.put (F.CH_RESET_LAST_VALUE k) (codeField code)).put (F.CH_RESET_LAST_RANGE_BEFORE k) before
  let s := ((s.put (F.CH_STAT_RESET_SEEN k) 1).incSat (F.CH_CNT2_RESETS k)).put (F.CH_STAT_BLANKING k) 1
  let x := s.chan k
  s.setChan k { x with blankAt := some e, newRange := dst, quiet := quiet, stitch := x.stitch ++ [e, e + 80], lastChange := e, changeWas := x.lastChange,
                       filled := x.filled ++ [(e, extrapolate r.bits 1 - q * 10912), (e + 80, extrapolate r.bits 2 - q * 10912)],
                       zeros := if q = 0 then x.zeros else x.zeros ++ [(e, q)] }

/-- An up-range on the clock edge of a reset is not made (R108). -/
def State.upUndo (s : State) (k : Nat) : State :=
  let x := s.chan k
  match x.up with
  | some u =>
    if u.edge = ceilTo 80 s.lt then
      let s := (s.put (F.CH_STAT_RANGE_NOW k) (s.get (F.CH_STAT_RANGE_NOW k) - 1)).put (F.CH_CNT_UPRANGES k) u.count
      (s.put (F.CH_STAT_UP_SEEN k) (u.seen &&& s.get (F.CH_STAT_UP_SEEN k))).setChan k { x with up := none }
    else s
  | none => s

/-- A reset of a running channel (R105, R106, R109): of the range in effect to that of `dst`. -/
def State.resetNow (s : State) (k : Nat) (r : ResetRead) (dst : State → Nat) (quiet : Bool) : State :=
  let s := s.upUndo k
  let q := s.codeRatio k s.lt r.ref r.last 1
  (s.ratioFree q).beginReset k (s.ratioCode q) r (s.get (F.CH_STAT_RANGE_NOW k)) (dst s) quiet

/-- The channel's input is being discharged, or about to be, by a switching sequence that changes its route (R108). -/
def State.inDischarge (s : State) (k : Nat) : Bool :=
  let x := s.cell (k / 4)
  x.phase != 0 && x.disCh.contains (k % 4)

/-- A reset of any cause but the channel's start (R105, R108): merged into a running blank or a discharge, else begun. -/
def State.chanReset (s : State) (k : Nat) (r : ResetRead) : State :=
  if !(s.chan k).on || s.isSet (F.CH_STAT_BLANKING k) || s.inDischarge k then s
  else s.resetNow k r (fun s => s.resetRange k r) false

/-- A scheduled reset (R105, R108): on the clock of a quiet window's end it is that window's reset, to R106's range and one below it. -/
def State.schedReset (s : State) (k : Nat) (r : ResetRead) : State :=
  let x := s.chan k
  if x.on && s.isSet (F.CH_STAT_BLANKING k) && x.quiet && x.blankAt == some (ceilTo 80 s.lt) then
    s.setChan k { x with newRange := s.quietRange k r }
  else s.chanReset k r

/-- A channel starts (R91, R105, R109, R113): the start reset, HOME_RANGE, the chain from the end of the reset. DESIGN CHOICE, assumption 153: the start reset
leads to HOME_RANGE under AR_MODE 2 too, and R106 is not applied to it. -/
def State.chanStart (s : State) (k : Nat) : State :=
  if s.get (F.CH_MODE_MODE k) = 0 then s
  else
    let home := s.get (F.CH_MODE_HOME_RANGE k)
    let b := (s.chan k).burst
    let s := s.setChan k { ChanSt.off with on := true, burst := b }
    let s := (s.put (F.CH_STAT_RANGE_NOW k) home).put (F.CH_STAT_READY k) 0
    let s := s.beginReset k 0 ⟨[], 0⟩ home home false
    (s.chainFrom k (ceilTo 80 s.lt + 160)).showFilter k

/-- A channel stops (R91, R292): its record closes, the churn record of its stream with SRC_LOST. -/
def State.chanStop (s : State) (k : Nat) : State :=
  if (s.chan k).on then
    let s := s.samplesStop (k / 16) (k % 16)
    let s := s.setChan k ChanSt.off
    let s := (s.put (F.CH_STAT_READY k) 0).put (F.CH_STAT_BLANKING k) 0
    s.chanRestart (k / 16) (k % 16)
  else s

/-- Of cell `c`'s lead measurements under MODE 2 of cycle source `n`, no cycle counts as taken any more (R85). -/
def State.leadAnew (s : State) (n c : Nat) : State :=
  [0, 1, 2, 3].foldl (fun s i =>
    if s.get (F.CELL_LEAD_SCHED_MODE c i) == 2 && s.get (F.CELL_LEAD_SCHED_SRC c i) == n then
      s.setCell c ((s.cell c).setLead i { (s.cell c).leadOf i with cycle := none })
    else s) s

/-- The cycle source of enabled scheduled resets has become unavailable (R105): one miss for each, and no cycle counts as done any more. -/
def State.schedMissed (s : State) (n : Nat) : State :=
  let s := (List.range 32).foldl (fun s c => s.leadAnew n c) s
  (List.range 128).foldl (fun s k =>
    if (s.chan k).on && s.isSet (F.CH_RST_SCHED_EN k) && s.get (F.CH_RST_SCHED_SRC k) == n then
      let s := s.setChan k { s.chan k with schedDone := none }
      (s.put (F.CH_STAT_RST_MISSED_SEEN k) 1).incSat (F.CH_CNT2_RST_MISSED k)
    else s) s

/-! ## The sample's flags (R79, R103, R117, R118, R132) -/

/-- Channel `k` is faulted now (R79, R87, R89): a confirmed class on a source it uses, the cold junction it uses, or its lead loop. -/
def State.chanFault (s : State) (k : Nat) : Bool :=
  let x := s.cell (k / 4)
  let u := s.get (F.CELL_USE_USE (k / 4) (k % 4))
  (List.range 3).any (fun n => u.testBit n && (!(x.mon n).confirmed.isEmpty || (x.mon n).off.isSome))
    || (u.testBit 3 && x.cjFault) || (x.leadOf (k % 4)).ovr

/-- The code of the sample stamped `t` as a quotient. -/
def State.sampleRatio (s : State) (k t : Nat) (r : SampleRead) : Int × Int :=
  s.codeRatio k (t - halfNs (s.chan k).rate) r.ref (s.quantity k t r.parts) quantDen

/-- The cell's terminals were outside the common-mode range at an instant of a window (R34). -/
def State.outOfMode (s : State) (k b e : Nat) : Bool := (s.cell (k / 4)).cm.any (fun a => decide (b ≤ a) && decide (a ≤ e))

/-- A sample's word (R292) with its flags. -/
def State.sampleWord (s : State) (k t : Nat) (r : SampleRead) : Word :=
  let x := s.chan k
  let h := halfNs x.rate
  let b := t - h
  let e := t + h
  let code := s.ratioCode (s.sampleRatio k t r)
  let clamped := decide (clampCode code ≠ code)
  let stitched := x.stitch.any (fun c => decide (b ≤ c) && decide (c ≤ e))
  let settling := x.settle.any (fun p => decide (b - s.notchNs k ≤ p.2) && decide (p.1 ≤ e))
  let fault := s.chanFault k || (match x.faultEnd with | some c => decide (b ≤ c) | none => false)
  w32 (codeField code + (if stitched then 0x1000000 else 0) + (if settling then 0x2000000 else 0)
    + (if r.ovr || clamped || s.outOfMode k b e then 0x4000000 else 0) + (if fault then 0x8000000 else 0)
    + (if s.uncertainAt t then 0x10000000 else 0))

/-- CHk_LAST, the overrange counters and the channel event (R118, R121). -/
def State.sampleNote (s : State) (k : Nat) (w : Word) : State :=
  let ovr := w.getLsbD 26
  let first := ovr && !(s.chan k).prevOver
  let s := s.wr (R.CH_LAST k) (w &&& 0xFFFFFFF#32)
  let s := (s.put (F.CH_STAT_READY k) 1).setChan k { s.chan k with prevOver := ovr }
  let s := if ovr then (s.incSat (F.CH_CNT_OVERRANGES k)).put (F.CH_STAT_OVER_SEEN k) 1 else s
  if first then s.raiseTile (k / 16) 6 else s

/-- The burst window at a sample stamped `t` (R228): whether the sample lies in it, and what is left of it. -/
def burstAt (t : Nat) (b : Option (Nat × Nat)) : Bool × Option (Nat × Nat) :=
  match b with
  | some (from_, n + 1) => if from_ ≤ t then (true, if n = 0 then none else some (from_, n)) else (false, b)
  | _ => (false, none)

/-- The start of the oldest window still to come of cell `c`'s running channels. -/
def State.cellOldest (s : State) (c : Nat) : Nat :=
  (((List.range 4).filter (fun i => (s.chan (4 * c + i)).on)).map (fun i =>
    let x := s.chan (4 * c + i)
    (match x.last with
      | some p => min p.1 x.next
      | none => x.next) - halfNs x.rate)).foldl min s.lt

/-- A common-mode excursion that a sample's window holds is the cell's (R34). -/
def State.modeNote (s : State) (c : Nat) (a : Option Nat) : State :=
  match a with
  | some t => if (s.cell c).cm.contains t then s else s.setCell c { s.cell c with cm := (s.cell c).cm ++ [t] }
  | none => s

/-- The excursions that no window to come holds are forgotten. -/
def State.modeDrop (s : State) (c : Nat) : State :=
  s.setCell c { s.cell c with cm := (s.cell c).cm.filter (fun t => decide (s.cellOldest c ≤ t)) }

/-- The scan step in which the sample stamped `t` of a channel of cell `c` was taken (R70); the step before the first one noted is the one in
effect. -/
def State.stepOf (s : State) (c t : Nat) : Nat :=
  match ((s.cell c).hist.filter (fun p => decide (p.1 ≤ t))).getLast? with
  | some p => p.2
  | none => s.get (F.CELL_EXC_STAT_STEP_NOW c)

/-- The sample stamped `t` of step `step` leaves the chain with reading `r` (R96 to R118, R292). -/
def State.emitSample (s : State) (k t step : Nat) (r : SampleRead) : State :=
  let s := s.modeNote (k / 4) r.cm
  let x := s.chan k
  let w := s.sampleWord k t r
  let s := s.ratioFree (s.sampleRatio k t r)
  let (burst, left) := burstAt t x.burst
  let b := t - halfNs x.rate
  let s := s.setChan k { x with burst := left, stitch := x.stitch.filter (fun c => decide (b ≤ c)),
                                filled := x.filled.filter (fun p => decide (b ≤ p.1)), zeros := x.zeros.filter (fun p => decide (b ≤ p.1)) }
  ((s.modeDrop (k / 4)).sampleNote k w).samplePut (k / 16) (k % 16) t step x.rate (s.get (F.CH_MODE_MODE k)) burst w

end Sys2Proof.Machine
end

