-- ==== Sys2Proof/Machine/Cells.lean ====
section
/-! DEFINITION. Cells (chapter 03): scan steps and break-before-make, the excitation monitor, lead measurements, the cold junction, and how cells
stop and start. -/

namespace Sys2Proof.Machine

/-! ## Steps (R68 to R71) -/

/-- The switches of scan step `n` of cell `c` (R68). -/
def State.stepSwitches (s : State) (c n : Nat) : Switches :=
  { chp := [0, 1, 2, 3].map (fun i => s.get (F.CELL_STEP_ROUTE_CHP c n i)), chn := [0, 1, 2, 3].map (fun i => s.get (F.CELL_STEP_ROUTE_CHN c n i)),
    isa := s.get (F.CELL_STEP_EXC_ISA_T c n), isb := s.get (F.CELL_STEP_EXC_ISB_T c n), bv := s.get (F.CELL_STEP_EXC_BV_T c n),
    refp := s.get (F.CELL_STEP_EXC_REFP_T c n), refn := s.get (F.CELL_STEP_EXC_REFN_T c n),
    rtn := s.get (F.CELL_STEP_MASK_RTN_MASK c n), dis := s.get (F.CELL_STEP_MASK_DIS_MASK c n) }

/-- What stays of the old switches when everything the new step does not keep is open (R71). -/
def Switches.keep (a b : Switches) : Switches :=
  let k (x y : Nat) : Nat := if x = y then x else 15
  { chp := List.zipWith k a.chp b.chp, chn := List.zipWith k a.chn b.chn, isa := k a.isa b.isa, isb := k a.isb b.isb, bv := k a.bv b.bv,
    refp := k a.refp b.refp, refn := k a.refn b.refn, rtn := a.rtn &&& b.rtn, dis := a.dis &&& b.dis }

/-- Input `i`'s route differs between two steps (R70). -/
def Switches.routeDiffers (a b : Switches) (i : Nat) : Bool := a.chp[i]? != b.chp[i]? || a.chn[i]? != b.chn[i]?

/-- A source's terminal (0 A, 1 B, 2 bridge). -/
def Switches.source (a : Switches) (n : Nat) : Nat := if n = 0 then a.isa else if n = 1 then a.isb else a.bv

/-- A source's terminal set. -/
def Switches.setSource (a : Switches) (n t : Nat) : Switches :=
  if n = 0 then { a with isa := t } else if n = 1 then { a with isb := t } else { a with bv := t }

/-- The excitation or reference sense differs between two steps (R70). -/
def Switches.excDiffers (a b : Switches) : Bool :=
  a.isa != b.isa || a.isb != b.isb || a.bv != b.bv || a.refp != b.refp || a.refn != b.refn

/-- The length of step `n` in ns (R69). -/
def State.dwellNs (s : State) (c n : Nat) : Nat :=
  s.get (F.CELL_STEP_DWELL_COUNT c n) * 2 ^ s.get (F.CELL_STEP_DWELL_EXP c n) * 5120

/-- The step in effect. -/
def State.stepNow (s : State) (c : Nat) : Nat := s.get (F.CELL_EXC_STAT_STEP_NOW c)

/-- The step after the one in effect (R68). -/
def State.stepNext (s : State) (c : Nat) : Nat := if s.stepNow c < s.get (F.CELL_CFG_LAST_STEP c) then s.stepNow c + 1 else 0

/-- D, the discharge length in ns (R71). -/
def State.disNs (s : State) (c : Nat) : Nat := s.get (F.CELL_CFG_DIS_LEN c) * 10

/-- Where the next step changes a channel's route, the LT at which the present step ends (R70: windows must end before it). -/
def State.windowLimit (s : State) (k : Nat) : Option Nat :=
  let c := k / 4
  if s.get (F.CELL_CFG_LAST_STEP c) = 0 then none
  else if (s.stepSwitches c (s.stepNow c)).routeDiffers (s.stepSwitches c (s.stepNext c)) (k % 4) then
    some ((s.cell c).stepAt + s.dwellNs c (s.stepNow c))
  else none

/-- The lead source of a running measurement: its switches are not the step's (R86). -/
def State.leadSource (s : State) (c : Nat) : Option Nat :=
  match (s.cell c).lead with
  | some l => some (if s.isSet (F.CELL_LEAD_CFG_SOURCE c l.chan) then 0 else 1)
  | none => none

/-- A running measurement holds its lead source at a boundary at `at_` (R86): the boundary falls inside it. DESIGN CHOICE, assumption 149: one at the very
instant L is not inside, so the source goes with the step. -/
def State.leadHolds (s : State) (c at_ : Nat) : Bool :=
  match (s.cell c).lead with
  | some l => decide (l.at_ < at_) || l.phase != 0
  | none => false

/-- The new switches of a boundary at `at_`, with the lead source left where a measurement around it has it (R86), and each switched-off source where it is
routed (R80). -/
def State.withLead (s : State) (c at_ : Nat) (new : Switches) : Switches :=
  let x := s.cell c
  let stays (n : Nat) : Bool := (s.leadHolds c at_ && s.leadSource c == some n) || (x.mon n).off.isSome
  [0, 1, 2].foldl (fun w n => if stays n then w.setSource n (x.sw.source n) else w) new

/-- Where source `n` of cell `c` goes when it is released to its step now (R71, R80, R86): its step's terminal; while the switches of a sequence are open only
where it is on it, else its dummy load until they close. -/
def State.sourceGoes (s : State) (c n : Nat) : Switches :=
  let x := s.cell c
  let t := (s.stepSwitches c (s.stepNow c)).source n
  x.sw.setSource n (if x.phase = 0 ∨ x.phase = 4 ∨ x.sw.source n = t then t else 15)

/-- A route-changed channel at a boundary at `at_` (R70): its chain is reset; a sample whose window was over by then still leaves, with the step it was taken
in. DESIGN CHOICE, assumption 115: CHk_STAT.READY stays as it is until the next sample (R113). -/
def State.boundaryChan (s : State) (k at_ from_ : Nat) : State :=
  let x := s.chan k
  if x.on then
    let h := halfNs x.rate
    let s := s.setChan k { x with last := if x.next + h ≤ at_ then some (x.next, s.stepOf (k / 4) x.next) else none }
    (s.chainFrom k from_).chanRestart (k / 16) (k % 16)
  else s

/-- A step boundary (R70 to R72): the switches the new step does not keep are commanded open. -/
def State.boundary (s : State) (c : Nat) : State :=
  let x := s.cell c
  let old := s.stepNow c
  let new := s.stepNext c
  let a := s.stepSwitches c old
  let b := s.stepSwitches c new
  let at_ := x.stepAt + s.dwellNs c old
  let end_ := at_ + s.disNs c + 60
  let changed := [0, 1, 2, 3].filter (fun i => a.routeDiffers b i)
  let x := { x with stepAt := at_, phase := 1, disCh := changed, sw := x.sw.keep (s.withLead c at_ b),
                    hist := dropLoops (s.cellOldest c) x.hist ++ [(at_, new)] }
  let x := [0, 1, 2].foldl (fun x n =>
    if a.source n != b.source n then x.setMon n { x.mon n with runs := [], quietTo := end_ + 10240 } else x) x
  let s := (s.setCell c x).put (F.CELL_EXC_STAT_STEP_NOW c) new
  let s := changed.foldl (fun s i => s.boundaryChan (4 * c + i) at_ end_) s
  if a.excDiffers b then
    ([0, 1, 2, 3].filter (fun i => !changed.contains i && s.bit (F.CELL_STEP_DWELL_SETTLE_MASK c new) i)).foldl (fun s i =>
      let y := s.chan (4 * c + i)
      s.setChan (4 * c + i) { y with settle := y.settle ++ [(at_, end_)] }) s
  else s

/-! ## Cells stop and start (R91, R92) -/

/-- The channels of cell `c`. -/
def chansOf (c : Nat) : List Nat := [4 * c, 4 * c + 1, 4 * c + 2, 4 * c + 3]

/-- A cell stops being configured (R91): routes open, sources off, DIS released, its channels stop. DESIGN CHOICE, assumption 116: confirmed classes
end with it, the cold junction's among them, without the clearing event and log entry of R81, and a source that was OFF is on at the next start. -/
def State.cellStop (s : State) (c : Nat) : State :=
  let s := ((chansOf c).foldl State.chanStop s).setCell c CellSt.off
  let s := (s.put (F.CELL_CJ_CJ_VALID c) 0).put (F.CELL_EXC_STAT_CJ_CLASS c) 0
  let s := (s.put (F.CELL_EXC_STAT_ISA_CLASS c) 0).put (F.CELL_EXC_STAT_ISB_CLASS c) 0
  ((s.put (F.CELL_EXC_STAT_BV_CLASS c) 0).put (F.CELL_EXC_STAT_LEAD_BUSY c) 0).put (F.CELL_EXC_STAT_STEP_NOW c) 0

/-- A cell's configuration is complete (R69): it waits for step 0. -/
def State.cellConfigure (s : State) (c : Nat) : State :=
  let s := (chansOf c).foldl State.showFilter s
  s.setCell c { s.cell c with configAt := some s.lt, running := false }

/-- A cell restarts on a new grid (R130): as a cell starting again. -/
def State.cellRestart (s : State) (c : Nat) : State :=
  if (s.cell c).running || (s.cell c).configAt.isSome then (s.cellStop c).cellConfigure c else s

/-- The cells of tile `t`. -/
def cellsOf (t : Nat) : List Nat := [4 * t, 4 * t + 1, 4 * t + 2, 4 * t + 3]

/-- Step 0 starts (R69, R91, R85): the switches of step 0, the channels, and the start measurements due. -/
def State.scanStart (s : State) (c : Nat) : State :=
  let x := s.cell c
  let ms := [0, 1, 2, 3].filter (fun i => s.isSet (F.CELL_LEAD_CFG_WIRING c i))
  let x := { x with configAt := none, running := true, stepAt := s.lt, phase := 0, disCh := [], sw := s.stepSwitches c 0, mons := [], hist := [(s.lt, 0)] }
  let x := ms.foldl (fun x i => x.setLead i { LeadSt.none_ with start := true }) x
  let s := (s.setCell c x).put (F.CELL_EXC_STAT_STEP_NOW c) 0
  let s := ms.foldl (fun s i => s.put (F.CELL_LEAD_STAT_VALID c i) 0) s
  (chansOf c).foldl State.chanStart s

/-! ## The excitation monitor (R77 to R81) -/

/-- Classes (R77). -/
abbrev xDeviation : Nat := 1
abbrev xHeadroom : Nat := 2
abbrev xOpen : Nat := 3
abbrev xShort : Nat := 4
abbrev xOverload : Nat := 5
abbrev xModule : Nat := 6
abbrev xSense : Nat := 7
abbrev xCj : Nat := 8
abbrev xLead : Nat := 9
abbrev xOff : Nat := 10

/-- The EXC_STAT field of a source. -/
def classFld (c n : Nat) : Fld :=
  if n = 0 then F.CELL_EXC_STAT_ISA_CLASS c else if n = 1 then F.CELL_EXC_STAT_ISB_CLASS c else F.CELL_EXC_STAT_BV_CLASS c

/-- The class shown for a source (R78): the first of the list. -/
def SrcMon.shown (m : SrcMon) : Nat :=
  if m.off.isSome then xOff
  else ([xShort, xOverload, xOpen, xModule, xHeadroom, xSense, xDeviation].find? (fun k => m.confirmed.contains k)).getD 0

/-- A confirmation or clearing is reported (R81): the tile-local event, module event t, the trouble log; a confirmation also its bits and
count. `what`: 0 A, 1 B, 2 bridge, 3 sensor or lead. -/
def State.excReport (s : State) (c what cls : Nat) (confirm : Bool) (chan : Nat) : State :=
  let t := c / 4
  let s := if confirm then
      let s := (s.setBit (F.CELL_EXC_EVT_CLASS_SEEN c) (cls - 1)).incSat (F.CELL_EXC_CNT_CONFIRMED c)
      if what = 0 then s.put (F.CELL_EXC_EVT_ISA_SEEN c) 1
      else if what = 1 then s.put (F.CELL_EXC_EVT_ISB_SEEN c) 1
      else if what = 2 then s.put (F.CELL_EXC_EVT_BV_SEEN c) 1
      else if cls = xCj then s.put (F.CELL_EXC_EVT_CJ_SEEN c) 1
      else s.setBit (F.CELL_EXC_EVT_LEAD_SEEN c) chan
    else s
  ((s.raiseTile t 5).raise t).logWrite kExc t
    (w32 (c + what * 32 + cls * 128 + (if confirm then 2048 else 0) + (if cls = xLead then chan * 4096 else 0)))
    (w32 s.lt) (w32 (s.lt / 0x100000000))

/-- The channels that were faulted before and are not now: their last fault ended at this check (R79). DESIGN CHOICE, assumption 123: EXC_FAULT of LEAD
and of CJ ends as R79 says of a source's class. -/
def State.faultEnds (s : State) (before : List Nat) : State :=
  (before.filter (fun k => !s.chanFault k)).foldl (fun s k => s.setChan k { s.chan k with faultEnd := some s.lt }) s

/-- The faulted channels of cell `c`. -/
def State.faulted (s : State) (c : Nat) : List Nat := (chansOf c).filter s.chanFault

/-- The current in nA that source A or B is set to now: LEAD_CODE while it is the diverted or joined lead source (R83), else its code. -/
def State.codeNa (s : State) (c n : Nat) : Nat :=
  match (s.cell c).lead with
  | some l =>
    if l.phase ≠ 0 ∧ s.leadSource c = some n then s.get (F.CELL_LEAD_CFG_LEAD_CODE c l.chan) * 500 else s.setNa c n
  | none => s.setNa c n

/-- The classes that hold of source A or B in a check (R77). -/
def State.holdsCurrent (s : State) (c n : Nat) (na : Nat) (uv : Int) : List Nat :=
  let set := s.codeNa c n
  let tol := s.get (F.CELL_EXC_TOL_TOL c)
  let short := s.get (F.CELL_EXC_LIM_SHORT_MV c)
  (if ((na : Int) - set).natAbs * 1000 > tol * set then [xDeviation] else [])
  ++ (if 10000000 - uv < s.get (F.CELL_EXC_TOL_HEAD_MIN c) * 10000 then [xHeadroom] else [])
  ++ (if uv ≥ 10000000 ∧ na * 2 < set then [xOpen] else [])
  ++ (if short ≠ 0 ∧ uv < short * 1000 then [xShort] else [])

/-- The sum of the measured bridge currents of all running cells in µA (R77). -/
def State.bridgeSum (s : State) : Nat :=
  (((List.range 32).filter (fun c => (s.cell c).running)).map (fun c => s.get (F.CELL_BV_MEAS_BV_UA c))).sum

/-- The bridge current differs from BV_EXPECT by more than TOL. -/
def State.bvOff (s : State) (c ua : Nat) : Bool :=
  let e := s.get (F.CELL_EXC_LIM_BV_EXPECT c)
  decide (((ua : Int) - e).natAbs * 1000 > s.get (F.CELL_EXC_TOL_TOL c) * e)

/-- The six-wire sense check (R88). -/
def State.senseFails (s : State) (c : Nat) (r : ExcRead) : Bool :=
  [0, 1, 2, 3].any (fun i => s.get (F.CELL_LEAD_CFG_WIRING c i) == 3 && s.isSet (F.CELL_LEAD_STAT_VALID c i)
    && decide ((r.refUv * 1000000 - (r.bvUv * 1000000 - (r.bvNa * s.get (F.CELL_LEAD_RES_LOOP_MOHM c i) : Nat))).natAbs * 1000
        > s.get (F.CELL_EXC_TOL_TOL c) * s.bvNominal c * 1000000))

/-- The classes that hold of the bridge-voltage source in a check (R77, R88), MODULE_LIMIT apart (R80). DESIGN CHOICE, assumption 117: currents are
compared in whole µA, and the level is held where it is not below 90 % of nominal. -/
def State.holdsBridge (s : State) (c : Nat) (r : ExcRead) : List Nat :=
  let nom := s.bvNominal c
  let e := s.get (F.CELL_EXC_LIM_BV_EXPECT c)
  let ua := r.bvNa / 1000
  let low := decide (r.bvUv * 10 < nom * 9)
  (if (r.bvUv - nom).natAbs * 1000 > s.get (F.CELL_EXC_TOL_TOL c) * nom ∨ (e ≠ 0 ∧ s.bvOff c ua) then [xDeviation] else [])
  ++ (if e ≥ 1000 ∧ ua * 20 < e then [xOpen] else [])
  ++ (if r.limit ∧ low then [xShort] else [])
  ++ (if r.bvNa > 30000000 ∧ !low then [xOverload] else [])
  ++ (if s.senseFails c r then [xSense] else [])

/-- One class of one source after a check (R78): its run of disagreeing checks grows or ends; at DEBOUNCE its state flips. DESIGN CHOICE, assumption
118: DEBOUNCE 0 acts as 1, and 9 to 15 are used as they are, since no rule refuses them. -/
def SrcMon.step (m : SrcMon) (cls : Nat) (holds : Bool) (debounce : Nat) : SrcMon × Bool :=
  let now := m.confirmed.contains cls
  let run := tabGet (fun _ => 0) m.runs cls
  let put (n : Nat) : SrcMon := { m with runs := tabSet (fun _ => 0) cls n m.runs }
  if holds = now then (put 0, false)
  else if run + 1 ≥ debounce then
    ({ put 0 with confirmed := if now then m.confirmed.erase cls else m.confirmed ++ [cls] }, true)
  else (put (run + 1), false)

/-- A source is switched off (R80): its class reads OFF. DESIGN CHOICE, assumption 119: it sets CLASS_SEEN bit 10, and is no confirmation of its own
(R81). -/
def State.srcOff (s : State) (c n : Nat) : State :=
  let x := s.cell c
  let s := s.setCell c (x.setMon n { x.mon n with off := some s.lt })
  (s.setBit (F.CELL_EXC_EVT_CLASS_SEEN c) (xOff - 1)).put (classFld c n) xOff

/-- The classes a lead measurement of the cell pauses (R83). -/
def leadPauses (cls : Nat) : Bool := cls == xDeviation || cls == xSense || cls == xModule

/-- A lead measurement is aborted (R86): the lead source returns at once, the old values stand. -/
def State.leadAbort (s : State) (c : Nat) : State :=
  let x := s.cell c
  match x.lead with
  | none => s
  | some l =>
    let sw := s.sourceGoes c ((s.leadSource c).getD 0)
    let s := s.setCell c ({ x with lead := none, sw := sw, leadFree := s.lt }.setLead l.chan { x.leadOf l.chan with endLt := s.lt })
    let s := (s.put (F.CELL_LEAD_STAT_ABORTED c l.chan) 1).clearBit (F.CELL_EXC_STAT_LEAD_BUSY c) l.chan
    (chansOf c).foldl (fun s k =>
      let y := s.chan k
      s.setChan k { y with settle := y.settle.map (fun p => if p.1 = l.at_ + 1024000 then (p.1, min p.2 s.lt) else p) }) s

/-- A running lead measurement that a class confirmed on source `n` aborts (R86): it is the lead source, or excites the channel. -/
def State.leadHit (s : State) (c n : Nat) : Bool :=
  match (s.cell c).lead with
  | some l => s.leadSource c == some n || (s.get (F.CELL_USE_USE c l.chan)).testBit n
  | none => false

/-- One class of one source checked (R78, R80, R81, R86). -/
def State.excClass (s : State) (c n : Nat) (holds : List Nat) (cls : Nat) : State :=
  let x := s.cell c
  if x.lead.isSome && leadPauses cls then s
  else
    let (m, flipped) := (x.mon n).step cls (holds.contains cls) (s.get (F.CELL_EXC_TOL_DEBOUNCE c))
    let s := s.setCell c (x.setMon n m)
    if flipped then
      let on := m.confirmed.contains cls
      let s := (s.put (classFld c n) m.shown).excReport c n cls on 0
      if on then
        let s := if s.leadHit c n then s.leadAbort c else s
        if s.isSet (F.CELL_CFG_FAULT_OFF c) then s.srcOff c n else s
      else s
    else s

/-- The bridge-voltage source of cell `c` delivers: its cell runs, it has a level, and it is not switched off. -/
def State.bridgeRuns (s : State) (c : Nat) : Bool := (s.cell c).running && s.bvNominal c != 0 && ((s.cell c).mon 2).off.isNone

/-- The bridge-voltage source of cell `c` carries a load that the recipe did not declare (R80). -/
def State.undeclared (s : State) (c : Nat) : Bool :=
  let ua := s.get (F.CELL_BV_MEAS_BV_UA c)
  s.get (F.CELL_EXC_LIM_BV_EXPECT c) == 0 || (s.bvOff c ua && decide (ua > s.get (F.CELL_EXC_LIM_BV_EXPECT c)))

/-- MODULE_LIMIT confirmed on the bridge-voltage source of cell `c` (R80): it is switched off. -/
def State.moduleForce (s : State) (c : Nat) : State :=
  let x := s.cell c
  let m := x.mon 2
  if s.bridgeRuns c then
    let before := s.faulted c
    let s := s.setCell c (x.setMon 2 { m with confirmed := m.confirmed ++ [xModule] })
    let s := s.excReport c 2 xModule true 0
    ((if s.leadHit c 2 then s.leadAbort c else s).srcOff c 2).faultEnds before
  else s

/-- The run of checks of cell `c` that found the sum too high (R77, R78), and whether it has reached its DEBOUNCE; a lead measurement of the cell
pauses it (R83), and a source that is not checked has none (R72). -/
def State.moduleRun (s : State) (c : Nat) (high : Bool) : State × Bool :=
  let x := s.cell c
  let m := x.mon 2
  if s.bridgeRuns c && decide (m.quietTo ≤ s.lt) && x.lead.isNone then
    let run := if high then tabGet (fun _ => 0) m.runs xModule + 1 else 0
    (s.setCell c (x.setMon 2 { m with runs := tabSet (fun _ => 0) xModule run m.runs }),
      high && decide (max (s.get (F.CELL_EXC_TOL_DEBOUNCE c)) 1 ≤ run))
  else (s, false)

/-- The runs of the cells 0 to `n - 1`, and whether one of them confirms MODULE_LIMIT. -/
def State.moduleRuns (s : State) (high : Bool) : Nat → State × Bool
  | 0 => (s, false)
  | n + 1 =>
    let (s, a) := State.moduleRuns s high n
    let (s, b) := s.moduleRun n high
    (s, a || b)

/-- MODULE_LIMIT in a check (R80): once confirmed, every undeclared bridge-voltage source is switched off; where the sum is still too high at the
next check, every one. -/
def State.moduleCheck (s : State) : State :=
  let high := decide (s.bridgeSum > 400000)
  if high && s.moduleAt == some (s.lt - 10240) then (List.range 32).foldl State.moduleForce { s with moduleAt := none }
  else
    let (s, hit) := s.moduleRuns high 32
    if hit then (List.range 32).foldl (fun s c => if s.undeclared c then s.moduleForce c else s) { s with moduleAt := some s.lt }
    else s

/-- A source is checked (R72, R77, R80): it has a code or level, it is not switched off, its checks are not suspended. -/
def State.checked (s : State) (c n : Nat) : Bool :=
  let m := (s.cell c).mon n
  (if n = 2 then s.bvNominal c != 0 else s.codeNa c n != 0) && m.off.isNone && decide (m.quietTo ≤ s.lt)

/-- The measured values of a check (R93). DESIGN CHOICE, assumption 120: those of a source that is not checked are read too. -/
def State.excMeasure (s : State) (r : ExcRead) : State :=
  let c := r.cell.val
  let s := (s.put (F.CELL_ISA_MEAS_I_NA c) (min r.iaNa 0x3FFFFF)).put (F.CELL_ISB_MEAS_I_NA c) (min r.ibNa 0x3FFFFF)
  let s := (s.put (F.CELL_BV_MEAS_BV_UV100 c) (min (r.bvUv / 100).toNat 0xFFFF)).put (F.CELL_BV_MEAS_BV_UA c) (min (r.bvNa / 1000) 0xFFFF)
  let head (uv : Int) : Nat := min ((10000000 - uv) / 1000).toNat 0xFFFF
  (s.put (F.CELL_HEAD_HEAD_A c) (head r.vaUv)).put (F.CELL_HEAD_HEAD_B c) (head r.vbUv)

/-- One cell checked (R77, R78). -/
def State.excCell (s : State) (r : ExcRead) : State :=
  let c := r.cell.val
  if (s.cell c).running then
    let before := s.faulted c
    let one (s : State) (n : Nat) (classes holds : List Nat) : State :=
      if s.checked c n then classes.foldl (fun s k => s.excClass c n holds k) s else s
    let s := one s 0 [xShort, xOpen, xHeadroom, xDeviation] (s.holdsCurrent c 0 r.iaNa r.vaUv)
    let s := one s 1 [xShort, xOpen, xHeadroom, xDeviation] (s.holdsCurrent c 1 r.ibNa r.vbUv)
    let s := one s 2 [xShort, xOverload, xOpen, xSense, xDeviation] (s.holdsBridge c r)
    s.faultEnds before
  else s

/-- One check of the cells read (R77): all readings are taken, then the classes are tested. -/
def State.excCheck (s : State) (rs : List ExcRead) : State :=
  let s := (rs.filter (fun r => (s.cell r.cell).running)).foldl State.excMeasure s
  rs.foldl State.excCell s.moduleCheck

/-- A switched-off source returns at its step's setting (R80). DESIGN CHOICE, assumption 121: its confirmed classes are dropped at once, without the
clearing event, log entry or debounce of R81, and its switch takes its step's terminal at once, or where a running sequence closes its switches. -/
def State.srcBack (s : State) (c n : Nat) : State :=
  let before := s.faulted c
  let x := s.cell c
  let x := x.setMon n { SrcMon.ok with quietTo := (x.mon n).quietTo }
  let x := if s.leadSource c = some n then x else { x with sw := s.sourceGoes c n }
  let s := s.setCell c x
  ((s.put (classFld c n) 0).incSat (F.CELL_EXC_CNT_RETRIES c)).faultEnds before

/-! ## Lead measurements (R82 to R88) -/

/-- The measurement of channel `i` is due in an order of its schedule (R85): the start measurement, its period, or a cycle after the last one taken since the
source has been available. DESIGN CHOICE, assumption 150: PERIOD_S 0 makes it due at once and values above 3,600 stand, since no rule refuses them. -/
def State.leadDue (s : State) (c i : Nat) (cycle : Word) : Bool :=
  let l := (s.cell c).leadOf i
  l.start || l.waits || (match s.get (F.CELL_LEAD_SCHED_MODE c i) with
    | 1 => decide (l.endLt + s.get (F.CELL_LEAD_SCHED_PERIOD_S c i) * 1000000000 ≤ s.lt)
    | 2 => cycle.toNat % max (s.get (F.CELL_LEAD_ANGLE_EVERY c i)) 1 == 0
        && laterCycle (if l.endLt < (s.src (s.get (F.CELL_LEAD_SCHED_SRC c i))).since then none else l.cycle) cycle
    | _ => false)

/-- Under MODE 2, the angle of the cycle has come (R85); without its source the instant cannot be worked out. -/
def State.leadAngleCome (s : State) (c i : Nat) (cycle : Word) : Bool :=
  let l := (s.cell c).leadOf i
  if l.start || l.waits || s.get (F.CELL_LEAD_SCHED_MODE c i) != 2 || !s.srcAvail (s.get (F.CELL_LEAD_SCHED_SRC c i)) then true
  else
    let x := s.src (s.get (F.CELL_LEAD_SCHED_SRC c i))
    match x.estimate (targetPos x cycle (w32 (s.get (F.CELL_LEAD_ANGLE_ANGLE c i) * 65536))) with
    | some t => decide (t ≤ s.lt) && decide (x.since ≤ t) && (l.cycle.isSome || decide (l.endLt ≤ t))
    | none => false

/-- The measurement cannot run (R86): its lead source is switched off, or under MODE 2 its cycle source is not available. -/
def State.leadBlocked (s : State) (c i : Nat) : Bool :=
  let n := if s.isSet (F.CELL_LEAD_CFG_SOURCE c i) then 0 else 1
  (((s.cell c).mon n).off.isSome)
    || (!((s.cell c).leadOf i).start && s.get (F.CELL_LEAD_SCHED_MODE c i) == 2 && !s.srcAvail (s.get (F.CELL_LEAD_SCHED_SRC c i)))

/-- A measurement falls due (R85, R86): it waits behind another one of the cell, is missed, or starts its baseline. DESIGN CHOICE, assumption 151: a start
measurement that cannot run stays due, and is missed again at each command for it until it can. -/
def State.leadStart (s : State) (c i : Nat) (cycle : Word) : State :=
  let x := s.cell c
  let l := x.leadOf i
  let l := if l.start || l.waits then l else { l with cycle := some cycle }
  if x.lead.isSome then s.setCell c (x.setLead i { l with waits := true })
  else if s.leadBlocked c i then
    let s := s.setCell c (x.setLead i { l with waits := false, endLt := if l.start then l.endLt else s.lt })
    (s.put (F.CELL_LEAD_STAT_MISSED c i) 1).incSat (F.CELL_LEAD_STAT_MISSED_CNT c i)
  else
    let s := s.setCell c { x.setLead i { l with waits := false } with lead := some ⟨i, s.lt, 0, 0, 0, 0⟩ }
    (s.put (F.CELL_LEAD_STAT_MISSED c i) 0).setBit (F.CELL_EXC_STAT_LEAD_BUSY c) i

/-- A step of the running measurement whose offset from L has come. -/
def State.leadStep (s : State) (c phase offset : Nat) : Option LeadRun :=
  match (s.cell c).lead with
  | some l => if l.phase = phase ∧ l.at_ + offset ≤ s.lt then some l else none
  | none => none

/-- The running measurement goes on, its source on a terminal (15: its dummy load). -/
def State.leadGo (s : State) (c : Nat) (l : LeadRun) (terminal : Nat) : State :=
  let x := s.cell c
  s.setCell c { x with lead := some l, sw := x.sw.setSource ((s.leadSource c).getD 0) terminal }

/-- The loop that two readings give in mΩ (R82, R83): the change of voltage over the measured current, less the return switch for WIRING 1,
2 and 4. With no measured current the spec states no result, and the value is free. -/
def State.loopOf (s : State) (c : Nat) (l : LeadRun) : Int :=
  let w := s.get (F.CELL_LEAD_CFG_WIRING c l.chan)
  let raw : Int := if l.iNa = 0 then (s.free.toNat : Int) else (l.second - l.base) * 1000 / (l.iNa : Int)
  if w = 3 then raw else raw - s.returnSwitch c

/-- A measurement completes (R84, R87): the new loop value, LEAD confirmed or cleared, the next one may run. DESIGN CHOICE, assumption 122: the loop is
rounded down to whole mΩ and kept within 0 to 0xFFFFFF (R82), and SENSE is tested at the checks that follow, not at this instant (R88). -/
def State.leadEnd (s : State) (c : Nat) (l : LeadRun) : State :=
  let before := s.faulted c
  let i := l.chan
  let x := s.cell c
  let n := (s.leadSource c).getD 0
  let ls := x.leadOf i
  let loop := (max 0 (min 0xFFFFFF (s.loopOf c l))).toNat
  let s := if l.iNa = 0 then s.freeNext else s
  let max_ := s.get (F.CELL_LEAD_MAX_MAX_MOHM c i)
  let ovr := max_ != 0 && decide (loop > max_)
  let sw := s.sourceGoes c n
  let y := s.chan (4 * c + i)
  let old := dropLoops (if y.on then min y.next ((y.last.map (fun p => p.1)).getD y.next) - halfNs y.rate else s.lt) ls.loops
  let s := s.setCell c ({ x with lead := none, sw := sw, leadFree := s.lt }.setLead i
    { ls with start := false, endLt := s.lt, loops := old ++ [(s.lt, loop)], ovr := ovr })
  let s := (s.put (F.CELL_LEAD_RES_LOOP_MOHM c i) loop).clearBit (F.CELL_EXC_STAT_LEAD_BUSY c) i
  let s := (s.incWrap (F.CELL_LEAD_STAT_DONE c i)).put (F.CELL_LEAD_STAT_VALID c i) 1
  let s := (s.put (F.CELL_LEAD_STAT_ABORTED c i) 0).putB (F.CELL_LEAD_STAT_OVER_MAX c i) ovr
  let s := if ls.start then
      s.setChan (4 * c + i) { y with next := max y.next (ceilTo (periodNs y.rate) (s.lt + 1 + halfNs y.rate)) }
    else s
  let s := if ovr != ls.ovr then s.excReport c 3 xLead ovr i else s
  s.faultEnds before

/-- The span of a measurement flags its channel and the channels of AFFECT (R83). -/
def State.leadSettle (s : State) (c : Nat) (l : LeadRun) : State :=
  ([0, 1, 2, 3].filter (fun i => i == l.chan || s.bit (F.CELL_LEAD_CFG_AFFECT c l.chan) i)).foldl (fun s i =>
    let y := s.chan (4 * c + i)
    s.setChan (4 * c + i) { y with settle := y.settle ++ [(l.at_ + 1024000, l.at_ + 2252840)] }) s

/-! ## Cold junction (R89) -/

/-- A cold-junction update (R89): `r` in 1/128 °C, none where the sensor does not answer. DESIGN CHOICE, assumption 152: CJ_TEMP takes every good reading at
once, also one that comes while CJ_VALID is 0, and keeps its value at a bad one (R97). -/
def State.cjUpdate (s : State) (c : Nat) (r : Option Int) : State :=
  let x := s.cell c
  let before := s.faulted c
  let good := match r with
    | some v => decide (-5120 ≤ v) && decide (v ≤ 12800)
    | none => false
  if good then
    let s := s.put (F.CELL_CJ_CJ_TEMP c) ((r.getD 0) % 65536).toNat
    let n := x.cjGood + 1
    if x.cjFault then
      if n ≥ 3 then
        let s := s.setCell c { x with cjBad := 0, cjGood := 0, cjFault := false }
        let s := (s.put (F.CELL_CJ_CJ_VALID c) 1).put (F.CELL_EXC_STAT_CJ_CLASS c) 0
        (s.excReport c 3 xCj false 0).faultEnds before
      else s.setCell c { x with cjBad := 0, cjGood := n }
    else (s.setCell c { x with cjBad := 0, cjGood := 0 }).put (F.CELL_CJ_CJ_VALID c) 1
  else
    let n := x.cjBad + 1
    if n ≥ 3 ∧ !x.cjFault then
      let s := s.setCell c { x with cjBad := 0, cjGood := 0, cjFault := true }
      let s := (s.put (F.CELL_CJ_CJ_VALID c) 0).put (F.CELL_EXC_STAT_CJ_CLASS c) xCj
      s.excReport c 3 xCj true 0
    else s.setCell c { x with cjBad := n, cjGood := 0 }

end Sys2Proof.Machine
end

