-- ==== Sys2Proof/Machine/CellCmds.lean ====
section
/-! DEFINITION. The commands of chapter 03: scan steps, the excitation monitor, lead measurements and the cold junction. -/

namespace Sys2Proof.Machine

/-- SCAN_START (R69): step 0 begins at the first multiple of 5,120 ns after the configuration is complete. -/
def execScanStart (c : Fin 32) (s : State) : Out :=
  match (s.cell c).configAt with
  | some a => if s.lt % 5120 = 0 ∧ a < s.lt then .next (s.scanStart c) else .next s
  | none => .next s

/-- SCAN_STEP_BOUNDARY (R69, R70): the step's dwell is over. DESIGN CHOICE, assumption 124: a boundary that falls due inside the switching sequence of
the one before it waits for that sequence's end (R71). -/
def execScanStepBoundary (c : Fin 32) (s : State) : Out :=
  let x := s.cell c
  if x.running ∧ x.phase = 0 ∧ s.get (F.CELL_CFG_LAST_STEP c) ≠ 0 ∧ x.stepAt + s.dwellNs c (s.stepNow c) ≤ s.lt then .next (s.boundary c)
  else .next s

/-- The switching sequence of cell `c` stands at `phase`, and the instant of its next action, `offset` after the boundary, has come. -/
def State.seqAt (s : State) (c phase offset : Nat) : Bool :=
  let x := s.cell c
  x.running && x.phase == phase && decide (x.stepAt + offset ≤ s.lt)

/-- The switching sequence goes on to `phase`. -/
def State.seqTo (s : State) (c phase : Nat) : State := s.setCell c { s.cell c with phase := phase }

/-- The amplifier of a discharged channel is reset (R70, R105, R108). -/
def State.dischargeReset (s : State) (k : Nat) (r : ResetRead) : State :=
  if !(s.chan k).on || s.isSet (F.CH_STAT_BLANKING k) then s else s.resetNow k r (fun s => s.resetRange k r) false

/-- DISCHARGE_START (R70, R71): at +20 ns the old switches are open; the changed inputs are shorted and their amplifiers reset. `rs`: what
each channel's chain has at its reset. -/
def execDischargeStart (c : Fin 32) (rs : List ResetRead) (s : State) : Out :=
  if s.seqAt c 1 20 then
    .next (((s.cell c).disCh.foldl (fun s i => s.dischargeReset (4 * c.val + i) (rs.getD i ⟨[], 0⟩)) s).seqTo c 2)
  else .next s

/-- DISCHARGE_END (R71). -/
def execDischargeEnd (c : Fin 32) (s : State) : Out := if s.seqAt c 2 (s.disNs c + 20) then .next (s.seqTo c 3) else .next s

/-- NEW_SWITCHES_CLOSE (R71, R86): the new step's switches close; a lead measurement around the boundary keeps its source where it is. -/
def execNewSwitchesClose (c : Fin 32) (s : State) : Out :=
  if s.seqAt c 3 (s.disNs c + 40) then
    .next (s.setCell c { s.cell c with sw := s.withLead c (s.cell c).stepAt (s.stepSwitches c (s.stepNow c)), phase := 4 })
  else .next s

/-- SWITCHING_SEQUENCE_END (R71). -/
def execSwitchingSequenceEnd (c : Fin 32) (s : State) : Out :=
  if s.seqAt c 4 (s.disNs c + 60) then .next (s.setCell c { s.cell c with phase := 0, disCh := [] }) else .next s

/-- EXC_CHECK (R77): the monitor checks the running cells on every multiple of 10,240 ns. -/
def execExcCheck (rs : List ExcRead) (s : State) : Out := if s.lt % 10240 = 0 then .next (s.excCheck rs) else .next s

/-- SOURCE_RETRY (R80): RETRY_S seconds after its switch-off the source returns. -/
def execSourceRetry (c : Fin 32) (n : Fin 3) (s : State) : Out :=
  let r := s.get (F.CELL_EXC_TOL_RETRY_S c)
  match ((s.cell c).mon n).off with
  | some a => if r ≠ 0 ∧ a + r * 1000000000 ≤ s.lt then .next (s.srcBack c n) else .next s
  | none => .next s

/-- Channel `j`'s measurement is due and could run now (R85, R86); under MODE 2 of another cycle source its cycle is not known here. -/
def State.leadReady (s : State) (c j i : Nat) (cycle : Word) : Bool :=
  s.isSet (F.CELL_LEAD_CFG_WIRING c j) && !s.leadBlocked c j && s.leadDue c j cycle && s.leadAngleCome c j cycle
    && (((s.cell c).leadOf j).start || ((s.cell c).leadOf j).waits || s.get (F.CELL_LEAD_SCHED_MODE c j) != 2
      || s.get (F.CELL_LEAD_SCHED_SRC c j) == s.get (F.CELL_LEAD_SCHED_SRC c i))

/-- Measurements due at one time, and those that wait, run in order of channel number, at the first grid point after the running one ended
(R86). -/
def State.leadTurn (s : State) (c i : Nat) (cycle : Word) : Bool :=
  let x := s.cell c
  x.lead.isSome || (decide (x.leadFree < s.lt) && ((List.range i).all (fun j => !s.leadReady c j i cycle)))

/-- LEAD_MEASUREMENT_START (R83, R85, R86). -/
def execLeadMeasurementStart (c : Fin 32) (i : Fin 4) (cycle : Word) (s : State) : Out :=
  if (s.cell c).running ∧ s.lt % 5120 = 0 ∧ s.get (F.CELL_LEAD_CFG_WIRING c i) ≠ 0 ∧ s.leadDue c i cycle ∧ s.leadAngleCome c i cycle
      ∧ s.leadTurn c i cycle ∧ (s.cell c).lead.all (fun l => l.chan != i.val) then .next (s.leadStart c i cycle)
  else .next s

/-- LEAD_BASELINE_END (R83): `nv` is the baseline reading. -/
def execLeadBaselineEnd (c : Fin 32) (nv : Int) (s : State) : Out :=
  match s.leadStep c 0 1024000 with
  | some l => .next ((s.leadGo c { l with phase := 1, base := nv } 15).leadSettle c l)
  | none => .next s

/-- LEAD_SOURCE_JOIN (R83). -/
def execLeadSourceJoin (c : Fin 32) (s : State) : Out :=
  match s.leadStep c 1 1024040 with
  | some l => .next (s.leadGo c { l with phase := 2 } (s.get (F.CELL_LEAD_CFG_LEAD_T c l.chan)))
  | none => .next s

/-- LEAD_INTEGRATION_START (R83). -/
def execLeadIntegrationStart (c : Fin 32) (s : State) : Out :=
  match s.leadStep c 2 1228800 with
  | some l => .next (s.leadGo c { l with phase := 3 } (s.get (F.CELL_LEAD_CFG_LEAD_T c l.chan)))
  | none => .next s

/-- LEAD_INTEGRATION_END (R34, R75, R83): `nv` is the second reading; the lead source's current is that measured at the last check; `cm` is the last LT of the
measurement at which a terminal of the cell was outside the common-mode range. -/
def execLeadIntegrationEnd (c : Fin 32) (nv : Int) (cm : Option Nat) (s : State) : Out :=
  match s.leadStep c 3 2252800 with
  | some l =>
    let s := s.modeNote c (cm.filter (fun t => decide (l.at_ ≤ t) && decide (t ≤ s.lt)))
    .next (s.leadGo c { l with phase := 4, second := nv, iNa := s.measNa c ((s.leadSource c).getD 0) } 15)
  | none => .next s

/-- LEAD_MEASUREMENT_END (R84, R87). -/
def execLeadMeasurementEnd (c : Fin 32) (s : State) : Out :=
  match s.leadStep c 4 2252840 with
  | some l => .next (s.leadEnd c l)
  | none => .next s

/-- CJ_UPDATE (R89): every 10,240,000 ns; `r` in 1/128 °C, none where the sensor does not answer. -/
def execCjUpdate (c : Fin 32) (r : Option Int) (s : State) : Out :=
  if (s.cell c).running ∧ s.lt % 10240000 = 0 then .next (s.cjUpdate c r) else .next s

end Sys2Proof.Machine
end

