-- ==== Sys2Proof/Machine/ChannelCmds.lean ====
section
/-! DEFINITION. The commands of chapter 04: ranges, resets, samples and the mains trackers. -/

namespace Sys2Proof.Machine

/-- MOD_CLOCK_UPRANGE (R101, R108): the channel moves up one range at the next clock edge, one range on an edge. DESIGN CHOICE, assumption 154: a crossing
that is found on a clock edge moves the range on that edge. -/
def execModClockUprange (k : Fin 128) (s : State) : Out :=
  let r := s.get (F.CH_STAT_RANGE_NOW k)
  let m := s.get (F.CH_MODE_AR_MODE k)
  if (s.chan k).on ∧ (m = 1 ∨ m = 2) ∧ r < s.get (F.CH_MODE_MAX_RANGE k) ∧ !s.isSet (F.CH_STAT_BLANKING k)
      ∧ !(s.chan k).stitch.contains (ceilTo 80 s.lt) then
    let e := ceilTo 80 s.lt
    let s := s.setChan k { s.chan k with stitch := (s.chan k).stitch ++ [e], lastChange := e,
                                         up := some ⟨e, s.get (F.CH_CNT_UPRANGES k), s.get (F.CH_STAT_UP_SEEN k)⟩ }
    let s := (s.put (F.CH_STAT_RANGE_NOW k) (r + 1)).put (F.CH_STAT_UP_SEEN k) 1
    .next (s.incSat (F.CH_CNT_UPRANGES k))
  else .next s

/-- The angle of cycle `cycle`, later than the last one taken, has come for channel `k`'s scheduled reset, since its chain started and its source became
available (R105). -/
def State.schedDue (s : State) (k : Nat) (cycle : Word) : Bool :=
  let n := s.get (F.CH_RST_SCHED_SRC k)
  let x := s.src n
  s.isSet (F.CH_RST_SCHED_EN k) && s.srcAvail n && cycle.toNat % max (s.get (F.CH_RST_SCHED_EVERY k)) 1 == 0
    && laterCycle (s.chan k).schedDone cycle
    && (match x.estimate (targetPos x cycle (w32 (s.get (F.CH_RST_SCHED_ANGLE k) * 65536))) with
        | some t => decide (t ≤ s.lt) && decide (x.since ≤ t) && decide ((s.chan k).from_ ≤ t)
        | none => false)

/-- SCHEDULED_RESET (R105, R106, R108, R109). -/
def execScheduledReset (k : Fin 128) (cycle : Word) (r : ResetRead) (s : State) : Out :=
  if s.schedDue k cycle then
    .next ((s.setChan k { s.chan k with schedDone := some cycle }).schedReset k r)
  else .next s

/-- CHk_CMD.RESET written by a core (R105, R108): only the tile's pail core and the vat core act. -/
def State.cmdChReset (s : State) (w k : Nat) (r : ResetRead) : State := if tileWriter w (k / 16) then s.chanReset k r else s

/-- CH_CMD_RESET (R105). -/
def execChCmdReset (w : Fin 9) (k : Fin 128) (r : ResetRead) (s : State) : Out := .next (s.cmdChReset w k r)

/-- QUIET_WINDOW_END (R107, R108): the input has been quiet since `since`; on the clock of a reset of another cause the range steps down one more, once. -/
def execQuietWindowEnd (k : Fin 128) (since : Nat) (r : ResetRead) (s : State) : Out :=
  let x := s.chan k
  let low := s.get (F.CH_MODE_MIN_RANGE k)
  let full := decide (since + s.get (F.CH_AR_QUIET_MS k) * 1000000 ≤ s.lt)
  if !x.on || s.get (F.CH_MODE_AR_MODE k) != 2 || s.get (F.CH_STAT_RANGE_NOW k) ≤ low then .next s
  else if s.isSet (F.CH_STAT_BLANKING k) then
    if x.blankAt = some (ceilTo 80 s.lt) ∧ !x.quiet ∧ x.changeWas ≤ since ∧ low < x.newRange ∧ full ∧ within20 (s.resetLevel k r) (x.newRange - 1) then
      .next (s.setChan k { x with newRange := x.newRange - 1, quiet := true })
    else .next s
  else if x.lastChange ≤ since ∧ full ∧ !s.inDischarge k then .next (s.resetNow k r (fun s => s.get (F.CH_STAT_RANGE_NOW k) - 1) true)
  else .next s

/-- BLANK_END (R105, R106): after two clocks the chosen range applies. -/
def execBlankEnd (k : Fin 128) (s : State) : Out :=
  let x := s.chan k
  match x.blankAt with
  | some e =>
    if e + 160 ≤ s.lt then
      let r := s.get (F.CH_STAT_RANGE_NOW k)
      let s := (s.setChan k { x with blankAt := none }).put (F.CH_STAT_BLANKING k) 0
      let s := s.put (F.CH_STAT_RANGE_NOW k) x.newRange
      .next (if x.newRange < r then s.put (F.CH_STAT_DOWN_SEEN k) 1 else s)
    else .next s
  | none => .next s

/-! ## Mains trackers (R116) -/

/-- Rising edges lie on MAINS_SENSE within the last 200 ms. -/
def State.mainsSense (s : State) : Bool :=
  match s.mainsEdges.getLast? with
  | some e => decide (s.lt ≤ e + 200000000)
  | none => false

/-- The frequency in mHz that the last 16 periods on MAINS_SENSE give (R116). -/
def State.mainsPeriod (s : State) : Option Nat :=
  match s.mainsEdges.head?, s.mainsEdges.getLast? with
  | some a, some b => if s.mainsEdges.length = 17 ∧ a < b then some (roundNear 16000000000000 (b - a)).toNat else none
  | _, _ => none

/-- The estimates of tile `t`'s tracker, oldest first, each with its LT: those of the last second, and the last one before it (R116). -/
def State.mainsLog (s : State) (t : Nat) : List (Nat × Nat) := tabGet (fun _ => []) s.mainsRun t

/-- The estimates of tile `t`'s tracker set. -/
def State.setMainsLog (s : State) (t : Nat) (l : List (Nat × Nat)) : State := { s with mainsRun := tabSet (fun _ => []) t l s.mainsRun }

/-- A new estimate of tile `t`'s tracker. -/
def State.mainsNote (s : State) (t mHz : Nat) : State := s.setMainsLog t (dropLoops (s.lt - 1000000000) (s.mainsLog t ++ [(s.lt, mHz)]))

/-- The last estimate of tile `t`'s tracker. -/
def State.mainsEstimate (s : State) (t : Nat) : Option Nat := (s.mainsLog t).getLast?.map (fun p => p.2)

/-- The estimates have stayed within ±0.005 Hz for 1 s (R116). -/
def mainsSteady (lt : Nat) (l : List (Nat × Nat)) : Bool :=
  (match l.head? with
    | some p => decide (p.1 + 1000000000 ≤ lt)
    | none => false) && l.all (fun p => l.all (fun q => decide (p.2 ≤ q.2 + 10)))

/-- The fallback channel may be used and runs. -/
def State.mainsChan (s : State) (t : Nat) : Bool :=
  s.isSet (F.MAINS_CFG_SRC_CH_EN t) && (s.chan (16 * t + s.get (F.MAINS_CFG_SRC_CH t))).on

/-- Tile `t`'s tracker has a source it can use (R116): edges on MAINS_SENSE, or its running fallback channel. -/
def State.mainsUsable (s : State) (t : Nat) : Bool := if s.isSet (F.MAINS_STAT_USING_CH t) then s.mainsChan t else s.mainsSense

/-- A locked tracker moves the notches toward its estimate at a sample, by at most 10 mHz per 100 ms (R116). -/
def State.mainsTrack (s : State) (t : Nat) : State :=
  match s.mainsEstimate t with
  | some f =>
    let last := tabGet (fun _ => 0) s.mainsMoved t
    let now := s.get (F.MAINS_FREQ_FREQ_MILLIHZ t)
    if s.isSet (F.MAINS_STAT_LOCKED t) && decide (last + 100000000 ≤ s.lt) && decide (45000 ≤ f) && decide (f ≤ 65000) && f != now then
      let new := if now < f then min f (now + 10) else max f (now - 10)
      { s.put (F.MAINS_FREQ_FREQ_MILLIHZ t) new with mainsMoved := tabSet (fun _ => 0) t s.lt s.mainsMoved }
    else s
  | none => s

/-- A sample of channel `k` with spectral estimate `mHz` reaches its tile's tracker (R116), which uses it where it is the fallback channel. -/
def State.mainsSample (s : State) (k mHz : Nat) : State :=
  let t := k / 16
  let s := if s.isSet (F.MAINS_STAT_USING_CH t) && s.get (F.MAINS_CFG_SRC_CH t) == k % 16 then s.mainsNote t mHz else s
  s.mainsTrack t

/-- Tile `t`'s tracker uses its fallback channel (`ch`) or MAINS_SENSE from now on: its estimates start anew. -/
def State.mainsUse (s : State) (t : Nat) (ch : Bool) : State :=
  if s.isSet (F.MAINS_STAT_USING_CH t) = ch then s else (s.putB (F.MAINS_STAT_USING_CH t) ch).setMainsLog t []

/-- MAINS_SENSE_EDGE (R116): the stamp of a rising edge; trackers on their fallback channel return to MAINS_SENSE, and each takes the estimate. -/
def execMainsSenseEdge (s : State) : Out :=
  let l := s.mainsEdges ++ [s.lt]
  let s := { s with mainsEdges := l.drop (l.length - 17) }
  .next ((List.range 8).foldl (fun s t =>
    let s := s.mainsUse t false
    match s.mainsPeriod with
    | some f => s.mainsNote t f
    | none => s) s)

/-- MAINS_SOURCE_FALLBACK (R116): without edges for 200 ms the fallback channel is used, where it may be. -/
def execMainsSourceFallback (t : Fin 8) (s : State) : Out :=
  if !s.mainsSense && s.isSet (F.MAINS_CFG_SRC_CH_EN t) then .next (s.mainsUse t true) else .next s

/-- Tile `t`'s tracker sees the spectral peak `mHz` of its fallback channel now (R116). -/
def State.mainsSee (s : State) (t mHz : Nat) : State := if s.isSet (F.MAINS_STAT_USING_CH t) then s.mainsNote t mHz else s

/-- Tile `t`'s tracker locks where its estimate has stayed within ±0.005 Hz for 1 s (R116). -/
def State.mainsLock (s : State) (t : Nat) : State :=
  match s.mainsEstimate t with
  | some f =>
    if !s.isSet (F.MAINS_STAT_LOCKED t) && decide (45000 ≤ f) && decide (f ≤ 65000) && s.mainsUsable t && mainsSteady s.lt (s.mainsLog t) then
      let s := ((s.put (F.MAINS_STAT_LOCKED t) 1).put (F.MAINS_STAT_LOCK_SEEN t) 1).put (F.MAINS_FREQ_FREQ_MILLIHZ t) f
      { s with mainsMoved := tabSet (fun _ => 0) t s.lt s.mainsMoved }
    else s
  | none => s

/-- MAINS_LOCK (R116): `mHz` is the spectral peak that the fallback channel shows now, which counts where it is the source. -/
def execMainsLock (t : Fin 8) (mHz : Nat) (s : State) : Out := .next ((s.mainsSee t mHz).mainsLock t)

/-- The last estimate of tile `t`'s tracker lies outside 45 to 65 Hz. -/
def State.mainsOut (s : State) (t : Nat) : Bool :=
  match s.mainsEstimate t with
  | some f => decide (f < 45000) || decide (65000 < f)
  | none => false

/-- MAINS_UNLOCK (R116): both sources fail, or the estimate has left 45 to 65 Hz; the notches hold. The fallback channel fails too where its spectrum shows no
peak from 45 to 65 Hz (`peak` false). -/
def execMainsUnlock (t : Fin 8) (peak : Bool) (s : State) : Out :=
  if s.isSet (F.MAINS_STAT_LOCKED t) && (s.mainsOut t || (!s.mainsSense && !(s.mainsChan t && peak))) then
    .next (((s.put (F.MAINS_STAT_LOCKED t) 0).put (F.MAINS_STAT_LOST_SEEN t) 1).raiseTile t 7)
  else .next s

/-! ## Samples -/

/-- A channel with a start measurement emits nothing before it completes (R85, R86). -/
def State.awaitsLead (s : State) (k : Nat) : Bool :=
  s.isSet (F.CELL_LEAD_CFG_WIRING (k / 4) (k % 4)) && ((s.cell (k / 4)).leadOf (k % 4)).start

/-- The whole window of the next sample lies before the boundary that changes the channel's route (R70). -/
def State.windowOk (s : State) (k t : Nat) : Bool :=
  match s.windowLimit k with
  | some l => decide (t + halfNs (s.chan k).rate ≤ l)
  | none => true

/-- SAMPLE_EMIT (R110, R113, R292): the sample whose latency is over leaves the chain with reading `r`. -/
def execSampleEmit (k : Fin 128) (r : SampleRead) (s : State) : Out :=
  let x := s.chan k
  match x.last with
  | some (t, step) =>
    if x.on ∧ t + latencyNs x.rate ≤ s.lt then .next ((s.setChan k { x with last := none }).emitSample k t step r) else .next s
  | none =>
    if x.on ∧ x.next + latencyNs x.rate ≤ s.lt ∧ !s.awaitsLead k ∧ s.windowOk k x.next then
      let s := s.mainsSample k r.mains
      .next ((s.setChan k { x with next := x.next + periodNs x.rate }).emitSample k x.next (s.stepOf (k / 4) x.next) r)
    else .next s

end Sys2Proof.Machine
end

