-- ==== Sys2Proof/Machine/Image.lean ====
section
/-! DEFINITION. A key image as bytes (R318 to R323): header, section table, register runs, code and data sections, and the layout checks that
need no register. -/

namespace Sys2Proof.Machine

/-- Bytes `i` to `i + n - 1` of an image. -/
def cut (img : List Byte) (i n : Nat) : List Byte := (img.drop i).take n

/-! ## Header (R318) -/

def imgLen (img : List Byte) : Nat := leAt img 8 4
def imgNsect (img : List Byte) : Nat := leAt img 12 2
def imgSigned (img : List Byte) : Bool := leAt img 14 2 % 2 == 1
def imgStore (img : List Byte) : Nat := leAt img 16 4
def imgSig (img : List Byte) : Nat := leAt img 20 4
def imgHdrCrc (img : List Byte) : Word := w32 (leAt img 124 4)

/-- HDR_CRC covers bytes 0 to 123. -/
def headerCrcOk (img : List Byte) : Bool := crc32c (img.take 124) == imgHdrCrc img

/-- The header's fields meet R318; the offset of the first that does not. -/
def headerBad (img : List Byte) : Option Nat :=
  let n := imgLen img
  let st := imgStore img
  if leAt img 0 4 ≠ 0x4B524A47 then some 0
  else if leAt img 4 2 ≠ 1 then some 4
  else if leAt img 6 2 ≠ 0x128 then some 6
  else if n % 4 ≠ 0 ∨ n < 256 ∨ n > 524288 then some 8
  else if imgNsect img < 1 ∨ imgNsect img > 64 then some 12
  else if st % 0x100000 ≠ 0 ∨ st < 0x10000000 ∨ st > 0x10F00000 then some 16
  else if imgSig img ≠ (if imgSigned img then n - 96 else 0) then some 20
  else none

/-- Blocks that an image of this length fills (R315). -/
def imgBlocks (n : Nat) : Nat := (n + 65535) / 65536

/-! ## Sections (R319) -/

abbrev kHubRegs : Nat := 1
abbrev kTileRegs : Nat := 2
abbrev kPailCode : Nat := 3
abbrev kVatCode : Nat := 4
abbrev kHubData : Nat := 5
abbrev kTileData : Nat := 6

/-- A section table entry with its number. -/
structure Sect where
  num : Nat
  kind : Nat
  unit : Nat
  keep : Bool
  off : Nat
  len : Nat
  crc : Word
  deriving DecidableEq, Repr

/-- Entry `i` of the section table. -/
def sectAt (img : List Byte) (i : Nat) : Sect :=
  let o := 128 + 16 * i
  { num := i, kind := leAt img o 1, unit := leAt img (o + 1) 1, keep := leAt img (o + 2) 2 % 2 == 1, off := leAt img (o + 4) 4,
    len := leAt img (o + 8) 4, crc := w32 (leAt img (o + 12) 4) }

/-- The section table. -/
def sections (img : List Byte) : List Sect := (List.range (imgNsect img)).map (sectAt img)

/-- The sections of a kind for a unit. -/
def sectsOf (img : List Byte) (kind unit : Nat) : List Sect := (sections img).filter (fun x => x.kind == kind && x.unit == unit)

/-- A section's bytes. -/
def Sect.bytes (x : Sect) (img : List Byte) : List Byte := cut img x.off x.len

/-- SCRC holds. -/
def Sect.crcOk (x : Sect) (img : List Byte) : Bool := crc32c (x.bytes img) == x.crc

/-- PLACE of a code or data section and the bytes it places (R321). -/
def Sect.place (x : Sect) (img : List Byte) : Nat := leAt (x.bytes img) 0 4
def Sect.content (x : Sect) (img : List Byte) : List Byte := (x.bytes img).drop 4

/-- `n` words at `a`, `a + 4` and so on. -/
def runWords (a : Nat) : Nat → List Byte → List (Nat × Word)
  | 0, _ => []
  | n + 1, l => (a, w32 (leVal (l.take 4))) :: runWords (a + 4) n (l.drop 4)

/-- The words of a register section (R320); none where its runs do not end exactly at its end. -/
def runsFrom : Nat → List Byte → Option (List (Nat × Word))
  | _, [] => some []
  | 0, _ => none
  | n + 1, l =>
    let a := leAt l 0 4
    let c := leAt l 4 4
    if l.length < 8 ∨ c < 1 ∨ c > 65535 ∨ l.length < 8 + 4 * c then none
    else match runsFrom n (l.drop (8 + 4 * c)) with
      | some t => some (runWords a c (l.drop 8) ++ t)
      | none => none

/-- The words a register section writes, in order. -/
def Sect.runs (x : Sect) (img : List Byte) : Option (List (Nat × Word)) := runsFrom x.len (x.bytes img)
/-- The same, nothing where the runs are broken. -/
def Sect.words (x : Sect) (img : List Byte) : List (Nat × Word) := (x.runs img).getD []

/-- Tile `t` has sections (R322). -/
def hasTile (img : List Byte) (t : Nat) : Bool := !(sectsOf img kTileRegs t).isEmpty

/-- Tile `t` carries KEEP (R319). -/
def keepTile (img : List Byte) (t : Nat) : Bool := (sectsOf img kTileRegs t).any (fun x => x.keep)

/-! ## Layout (R319 to R322), but for what the registers place -/

/-- Two ranges (start, length) meet. -/
def meets (a b : Nat × Nat) : Bool := decide (a.1 < b.1 + b.2) && decide (b.1 < a.1 + a.2) && a.2 != 0 && b.2 != 0

/-- Two of these ranges meet. -/
def anyMeet : List (Nat × Nat) → Bool
  | [] => false
  | a :: t => t.any (meets a) || anyMeet t

/-- One section alone breaks the layout. -/
def Sect.bad (x : Sect) (img : List Byte) : Bool :=
  let tile := x.kind == kTileRegs || x.kind == kPailCode || x.kind == kTileData
  let regs := x.kind == kHubRegs || x.kind == kTileRegs
  let p := x.place img
  let n := x.len - 4
  x.kind < 1 || x.kind > 6 || (if tile then decide (x.unit > 7) else x.unit != 0xFF) || (x.keep && x.kind != kTileRegs)
    || x.off % 4 != 0 || x.len % 4 != 0 || x.len < 4
    || decide (x.off + x.len > (if imgSigned img then imgSig img else imgLen img)) || decide (x.off < 128 + 16 * imgNsect img)
    || (regs && (x.runs img).isNone)
    || (x.kind == kPailCode && (p != 0 || decide (p + n > 0x70000)))
    || (x.kind == kTileData && (decide (p + n > 0x70000)
          || (sectsOf img kPailCode x.unit).any (fun c => meets (p, n) (c.place img, c.len - 4)) || !hasTile img x.unit))
    || (x.kind == kVatCode && (p % 256 != 0 || p < 0x10000000 || decide (p + n > 0x11000000)))
    || (x.kind == kHubData && (p < 0x10000000 || decide (p + n > 0x11000000)))

/-- The sections as a whole break the layout: the table, overlaps, counts. -/
def layoutBad (img : List Byte) : Bool :=
  let ss := sections img
  decide (128 + 16 * imgNsect img > (if imgSigned img then imgSig img else imgLen img))
    || anyMeet (ss.map (fun x => (x.off, x.len)))
    || (ss.filter (fun x => x.kind == kHubRegs)).length != 1 || (ss.filter (fun x => x.kind == kVatCode)).length != 1
    || (List.range 8).any (fun t => decide ((sectsOf img kTileRegs t).length > 1) || decide ((sectsOf img kPailCode t).length > 1)
          || (sectsOf img kTileRegs t).length != (sectsOf img kPailCode t).length)

/-- The ranges of hub memory that the image's sections and the store take (R322). -/
def hubPlaces (img : List Byte) : List (Nat × Nat) :=
  (imgStore img, 0x100000) :: ((sections img).filter (fun x => x.kind == kVatCode || x.kind == kHubData)).map (fun x => (x.place img, x.len - 4))

/-- The first of these ranges that meets one before it: what it is labelled with (R322, R329). -/
def firstMeet (seen : List (Nat × Nat)) : List ((Nat × Nat) × Nat × Nat) → Option (Nat × Nat)
  | [] => none
  | x :: t => if seen.any (meets x.1) then some x.2 else firstMeet (x.1 :: seen) t

/-- Two images' sections of a kind and unit are the same, by LENGTH and SCRC (R331). -/
def sameSects (a b : List Byte) (kind unit : Nat) : Bool :=
  (sectsOf a kind unit).map (fun x => (x.len, x.crc)) == (sectsOf b kind unit).map (fun x => (x.len, x.crc))

/-- Two images are the same (R325): HDR_CRC and every SCRC equal. -/
def sameImage (a b : List Byte) : Bool :=
  imgHdrCrc a == imgHdrCrc b && (sections a).map (fun x => x.crc) == (sections b).map (fun x => x.crc)

end Sys2Proof.Machine
end

