-- ==== Sys2Proof/Machine/Crypto.lean ====
section
/-! DEFINITION. The SHA-2 digests and the Ed25519 check that R324 names (FIPS 180-4, RFC 8032; PRESUMED, assumption 125). -/

namespace Sys2Proof.Machine

/-! ## SHA-2 -/

/-- A number that no smaller one from 2 on divides. -/
def isPrime (n : Nat) : Bool := decide (2 ≤ n) && (List.range n).all (fun d => decide (d < 2) || n % d != 0)

/-- The first `n` primes, up to 80 of them. -/
def primes (n : Nat) : List Nat := ((List.range 410).filter isPrime).take n

/-- The largest number whose `k`-th power is at most `x`, found from bit `b - 1` down. -/
def rootFrom (k x : Nat) : Nat → Nat → Nat
  | 0, r => r
  | b + 1, r => rootFrom k x b (if (r + 2 ^ b) ^ k ≤ x then r + 2 ^ b else r)

/-- The first `w` bits of the fraction of the `k`-th root of `p`. -/
def rootFraction (w k p : Nat) : BitVec w := BitVec.ofNat w (rootFrom k (p * 2 ^ (k * w)) (w + 5) 0)

/-- A digest of the SHA-2 family with words of `w` bits: rounds, and the amounts of its four sums; the last of a message sum is a shift. -/
structure Sha (w : Nat) where
  rounds : Nat
  sumA : Nat × Nat × Nat
  sumE : Nat × Nat × Nat
  msg15 : Nat × Nat × Nat
  msg2 : Nat × Nat × Nat
  deriving DecidableEq, Repr

/-- SHA-256. -/
def sha256Form : Sha 32 := ⟨64, (2, 13, 22), (6, 11, 25), (7, 18, 3), (17, 19, 10)⟩
/-- SHA-512. -/
def sha512Form : Sha 64 := ⟨80, (28, 34, 39), (14, 18, 41), (1, 8, 7), (19, 61, 6)⟩

/-- The eight working words. -/
structure ShaWords (w : Nat) where
  a : BitVec w
  b : BitVec w
  c : BitVec w
  d : BitVec w
  e : BitVec w
  f : BitVec w
  g : BitVec w
  h : BitVec w
  deriving DecidableEq, Repr

/-- Word by word sums. -/
def shaAdd {w : Nat} (x y : ShaWords w) : ShaWords w :=
  ⟨x.a + y.a, x.b + y.b, x.c + y.c, x.d + y.d, x.e + y.e, x.f + y.f, x.g + y.g, x.h + y.h⟩

/-- The sum of three rotations. -/
def rotSum {w : Nat} (r : Nat × Nat × Nat) (x : BitVec w) : BitVec w := x.rotateRight r.1 ^^^ x.rotateRight r.2.1 ^^^ x.rotateRight r.2.2
/-- The sum of two rotations and a shift. -/
def msgSum {w : Nat} (r : Nat × Nat × Nat) (x : BitVec w) : BitVec w := x.rotateRight r.1 ^^^ x.rotateRight r.2.1 ^^^ x >>> r.2.2

/-- One round with the constant and message word `kw`. -/
def shaRound {w : Nat} (c : Sha w) (x : ShaWords w) (kw : BitVec w × BitVec w) : ShaWords w :=
  let t1 := x.h + rotSum c.sumE x.e + ((x.e &&& x.f) ^^^ (~~~x.e &&& x.g)) + kw.1 + kw.2
  let t2 := rotSum c.sumA x.a + ((x.a &&& x.b) ^^^ (x.a &&& x.c) ^^^ (x.b &&& x.c))
  ⟨t1 + t2, x.a, x.b, x.c, x.d + t1, x.e, x.f, x.g⟩

/-- `n` further message words in front of those there are, newest first. -/
def shaSchedule {w : Nat} (c : Sha w) : Nat → List (BitVec w) → List (BitVec w)
  | 0, l => l
  | n + 1, l =>
    shaSchedule c n ((msgSum c.msg2 (l.getD 1 0) + l.getD 6 0 + msgSum c.msg15 (l.getD 14 0) + l.getD 15 0) :: l)

/-- A big-endian number. -/
def beVal (l : List Byte) : Nat := l.foldl (fun n b => 256 * n + b.toNat) 0

/-- The bytes of a big-endian number of `n` bytes. -/
def beBytes (n x : Nat) : List Byte := (leBytes n x).reverse

/-- A message with its padding: a 1 bit, zeros, its length in bits. -/
def shaPad (w : Nat) (l : List Byte) : List Byte :=
  let block := 2 * w
  l ++ [0x80#8] ++ List.replicate ((2 * block - (l.length + 1 + w / 4) % block) % block) 0#8 ++ beBytes (w / 4) (8 * l.length)

/-- The digest of `n` blocks that go on from `x`. -/
def shaBlocks {w : Nat} (c : Sha w) (ks : List (BitVec w)) : Nat → List Byte → ShaWords w → ShaWords w
  | 0, _, x => x
  | n + 1, l, x =>
    let m := (List.range 16).map (fun i => BitVec.ofNat w (beVal (cut l (w / 8 * i) (w / 8))))
    let ws := (shaSchedule c (c.rounds - 16) m.reverse).reverse
    shaBlocks c ks n (l.drop (2 * w)) (shaAdd x ((ks.zip ws).foldl (shaRound c) x))

/-- The digest of a message. -/
def sha {w : Nat} (c : Sha w) (l : List Byte) : List Byte :=
  let r (i : Nat) : BitVec w := rootFraction w 2 ((primes 8).getD i 0)
  let p := shaPad w l
  let x := shaBlocks c ((primes c.rounds).map (rootFraction w 3)) (p.length / (2 * w)) p ⟨r 0, r 1, r 2, r 3, r 4, r 5, r 6, r 7⟩
  [x.a, x.b, x.c, x.d, x.e, x.f, x.g, x.h].flatMap (fun v => beBytes (w / 8) v.toNat)

/-- SHA-256 (R324). -/
def sha256 (l : List Byte) : List Byte := sha sha256Form l
/-- SHA-512 (R327). -/
def sha512 (l : List Byte) : List Byte := sha sha512Form l

/-! ## Ed25519 -/

/-- The field's prime. -/
abbrev edP : Nat := 2 ^ 255 - 19
/-- The base point's order. -/
abbrev edL : Nat := 2 ^ 252 + 27742317777372353535851937790883648493

/-- The `e`-th power in the field, for `e` below 2 ^ `n`. -/
def edPow (b e : Nat) : Nat → Nat
  | 0 => 1
  | n + 1 =>
    let h := edPow b (e / 2) n
    if e % 2 = 1 then h * h % edP * b % edP else h * h % edP

/-- The inverse in the field. -/
def edInv (x : Nat) : Nat := edPow x (edP - 2) 255
/-- A difference in the field. -/
def edSub (x y : Nat) : Nat := (x + (edP - y % edP)) % edP
/-- The curve's constant, -121665/121666. -/
def edD : Nat := edSub 0 (121665 * edInv 121666)

/-- A point in extended coordinates. -/
structure EdPoint where
  x : Nat
  y : Nat
  z : Nat
  t : Nat
  deriving DecidableEq, Repr

/-- The sum of two points. -/
def edAdd (p q : EdPoint) : EdPoint :=
  let a := edSub p.y p.x * edSub q.y q.x % edP
  let b := (p.y + p.x) * (q.y + q.x) % edP
  let c := 2 * edD * p.t * q.t % edP
  let d := 2 * p.z * q.z % edP
  let e := edSub b a
  let f := edSub d c
  let g := d + c
  let h := b + a
  ⟨e * f % edP, g * h % edP, f * g % edP, e * h % edP⟩

/-- A multiple of a point, for `n` below 2 ^ the count. -/
def edMul (p : EdPoint) (n : Nat) : Nat → EdPoint
  | 0 => ⟨0, 1, 1, 0⟩
  | k + 1 =>
    let h := edMul p (n / 2) k
    if n % 2 = 1 then edAdd (edAdd h h) p else edAdd h h

/-- Two points are the same. -/
def edSame (p q : EdPoint) : Bool := p.x * q.z % edP == q.x * p.z % edP && p.y * q.z % edP == q.y * p.z % edP

/-- The point with this y and the x whose lowest bit is `sign`; none where no such point is. -/
def edLift (y sign : Nat) : Option EdPoint :=
  let u := edSub (y * y) 1
  let v := (edD * y % edP * y + 1) % edP
  let r := u * edPow v 3 2 % edP * edPow (u * edPow v 7 3 % edP) ((edP - 5) / 8) 252 % edP
  let x := if v * r % edP * r % edP = u then some r
    else if v * r % edP * r % edP = edSub 0 u then some (r * edPow 2 ((edP - 1) / 4) 253 % edP)
    else none
  match x with
  | none => none
  | some x =>
    if y ≥ edP ∨ (x = 0 ∧ sign = 1) then none
    else
      let x := if x % 2 = sign then x else edP - x
      some ⟨x, y, 1, x * y % edP⟩

/-- The point that 32 bytes encode. -/
def edDecode (l : List Byte) : Option EdPoint := edLift (leVal l % 2 ^ 255) (leVal l / 2 ^ 255)

/-- The base point: y is 4/5, x is even. -/
def edBase : EdPoint := (edLift (4 * edInv 5 % edP) 0).getD ⟨0, 1, 1, 0⟩

/-- The signature `sig` of the message by the key verifies (R324): the equation of RFC 8032 with its cofactor. -/
def ed25519 (key sig msg : List Byte) : Bool :=
  match edDecode key, edDecode (sig.take 32) with
  | some a, some r =>
    let v := leVal (sig.drop 32)
    let h := leVal (sha512 (sig.take 32 ++ key ++ msg)) % edL
    decide (v < edL) && edSame (edMul (edMul edBase v 253) 8 4) (edMul (edAdd r (edMul a h 253)) 8 4)
  | _, _ => false

end Sys2Proof.Machine
end

