-- ==== Sys2Proof/Machine/Captures.lean ====
section
/-! DEFINITION. Capture units and encoders (R212 to R222): stamps, the capture queue, CAPTURE records, counting, the index. -/

namespace Sys2Proof.Machine

/-! ## Units: inputs 0 to 35, encoders 36 to 39 -/

/-- Capture unit `u`. -/
def State.cap (s : State) (u : Nat) : CapUnit := tabGet (fun _ => CapUnit.off) s.caps u
/-- The state with capture unit `u` set. -/
def State.setCap (s : State) (u : Nat) (x : CapUnit) : State := { s with caps := tabSet (fun _ => CapUnit.off) u x s.caps }
/-- Encoder `e`'s counter. -/
def State.enc (s : State) (e : Nat) : EncSt := tabGet (fun _ => EncSt.start) s.encs e
/-- The state with encoder `e`'s counter set. -/
def State.setEnc (s : State) (e : Nat) (x : EncSt) : State := { s with encs := tabSet (fun _ => EncSt.start) e x s.encs }

/-- The filter length F of input `i` in ns (R212). -/
def State.filterNs (s : State) (i : Nat) : Nat := s.get (F.CAP_IN_CFG_FILT i) * (if i < 24 then 1000 else 1)

/-- The stamp of a level that input `i` accepts now (R212). -/
def State.stampOf (s : State) (i : Nat) : Nat := s.lt - Config.dIn i - s.filterNs i - s.get (F.CAP_IN_CFG_CABLE_NS i)

/-- The queues that take a unit's records (R217). -/
def State.capQueues (s : State) (u : Nat) : List Nat :=
  let mask := if u < 36 then s.get (F.CAP_IN_CFG_TILES u) else s.get (F.CAP_ENC_CFG_TILES (u - 36))
  let hub := if u < 36 then s.isSet (F.CAP_IN_CFG_HUB_EN u) else s.isSet (F.CAP_ENC_CFG_HUB_EN (u - 36))
  ((List.range 8).filter (fun t => mask.testBit t)).map (fun t => 6 * t + 3) ++ (if hub then [48 + s.get F.CAP_CFG_HUBQ] else [])

/-- SOURCE of a unit's stream (R215). -/
def State.capSource (s : State) (u : Nat) : Word := s.source 7 (if u < 36 then 0x40 + u else 0x70 + (u - 36))

/-- The 20 bytes of an entry (R216). -/
def CapEntry.bytes (e : CapEntry) : List Byte :=
  leBytes 8 e.stamp ++ leBytes 8 (e.pos % 0x10000000000000000).toNat
    ++ leBytes 1 ((if e.level then 1 else 0) + (if e.index then 2 else 0) + (if e.reverse then 4 else 0) + (if e.rebased then 8 else 0)
        + (if e.holdover then 16 else 0)) ++ leBytes 3 0

/-- A CAPTURE payload (R216). -/
def capPayload (unit kind cpc : Nat) (es : List CapEntry) : List Byte :=
  leBytes 1 unit ++ leBytes 1 kind ++ leBytes 2 es.length ++ leBytes 4 cpc ++ es.flatMap CapEntry.bytes

/-- The FLAGS of a CAPTURE record (R141, R215): HOLDOVER where an entry carries it, THROTTLED where one was held at throttle level 1 or 2. -/
def capFlags (es : List CapEntry) : Byte :=
  let f := if es.any (fun c => c.holdover) then flagOn flHoldover 0#8 else 0#8
  if es.any (fun c => c.thr) then flagOn flThrottled f else f

/-- The unit's record closes and is delivered (R215, R217). -/
def State.capClose (s : State) (u : Nat) : State :=
  let x := s.cap u
  match x.entries with
  | [] => s
  | e :: _ =>
    let cpc := if u < 36 then 0 else s.get (F.CAP_ENC_CPC_CPC (u - 36))
    let s := s.setCap u { x with entries := [] }
    s.offerAll (s.capQueues u)
      { ty := tyCapture, flags := capFlags x.entries, source := s.capSource u,
        seq := 0#32, lt := e.stamp, cycle := if u < 36 then 0#32 else BitVec.ofInt 32 (e.pos / (max cpc 1 : Nat)),
        payload := capPayload u (if u < 36 then 0 else 1) cpc x.entries }

/-- The unit's own GAP for stamps that a full capture queue dropped (R214, R295). -/
def State.capGap (s : State) (u count from_ dst : Nat) : State :=
  let src := s.capSource u
  let n := w32 (s.nextSeq (streamKey src tyCapture))
  let r : Rec := { ty := tyGap, flags := s.stampFlags from_, source := src, seq := n, lt := from_, cycle := 0#32,
                   payload := gapPayload causeOverrun 0xFF [{ source := src, stype := tyCapture, firstSeq := n, count := count,
                                                              ltFrom := from_, ltTo := dst }] }
  (s.capQueues u).foldl (fun s q => s.qOffer q r) (s.takeSeq (streamKey src tyCapture))

/-- One stamp leaves the unit's capture queue into the record being collected (R214, R215). -/
def State.capDrain (s : State) (u : Nat) : State :=
  let x := s.cap u
  match x.fifo with
  | [] => s
  | e :: t =>
    let s := s.setCap u { x with fifo := t }
    let s := if e.lost = 0 then s else (s.capClose u).capGap u e.lost e.lostFrom e.stamp
    let y := s.cap u
    let s := s.setCap u { y with entries := y.entries ++ [{ e with lost := 0, lostFrom := 0, thr := e.thr || s.throttle != 0 }],
                                 openLt := if y.entries.isEmpty then s.lt else y.openLt }
    if (s.cap u).entries.length ≥ 64 || e.index then s.capClose u else s

/-- Every stamp of the unit's capture queue leaves it. -/
def State.capDrainAll (s : State) (u : Nat) : Nat → State
  | 0 => s
  | n + 1 => State.capDrainAll (s.capDrain u) u n

/-- One stamp of every unit leaves its capture queue (R214: one per FABRIC clock). -/
def State.capsTick (s : State) : State :=
  ((s.caps.filter (fun c => !c.2.fifo.isEmpty)).map (fun c => c.1)).foldl State.capDrain s

/-- A stamp reaches the unit's capture queue of 4 (R214): kept, or dropped with its overrun; answers whether it was kept. -/
def State.capPut (s : State) (u : Nat) (e : CapEntry) : State × Bool :=
  let x := s.cap u
  if x.fifo.length < 4 then
    (s.setCap u { x with fifo := x.fifo ++ [{ e with lost := x.dropped, lostFrom := x.lastKept, thr := s.throttle != 0 }], dropped := 0, lastKept := e.stamp }, true)
  else
    let s := if x.dropped = 0 then s.capClose u else s
    let s := s.setCap u { s.cap u with dropped := x.dropped + 1 }
    let s := if u < 36 then (s.incSat (F.CAP_IN_CNT_OVERRUNS u)).put (F.CAP_IN_STAT_OVERRUN_SEEN u) 1 else s
    ((s.put F.CAP_EVT_OVERRUN_SEEN 1).raise 47, false)

/-! ## Sources coming and going (R105, R170, R233) -/

/-- Cycle source `n` has become unavailable: its unfixed entries are discarded, scheduled resets count a miss,
lanes note the decision instant at which they will hold. -/
def State.sourceGone (s : State) (n : Nat) : State :=
  let s := (s.srcLost n).schedMissed n
  (List.range 16).foldl (fun s i =>
    if s.isSet (F.HERD_RUC_CFG_EN i) && s.get (F.HERD_RUC_CFG_SRC i) == n then s.laneWait i else s) s

/-- WATCH_SRC is unavailable or STOPPED (R398). -/
def State.watchSrcAway (s : State) : Bool :=
  let n := s.get F.MOD_CFG_WATCH_SRC
  !s.srcAvail n || (s.src n).stopped

/-- A spell without WATCH_SRC begins, goes on or ends (R398): under AUTO_WATCH the instant of its beginning is noted. -/
def State.watchNote (s : State) : State :=
  if s.isSet F.MOD_CFG_AUTO_WATCH && s.watchSrcAway then
    (if s.watch.away.isNone then { s with watch := { s.watch with away := some s.logLt } } else s)
  else { s with watch := { s.watch with away := none } }

/-! ## Encoders (R218 to R221) -/

/-- What the changes on A and B count (R218): none, an error, or a count (`true` up), before DIR_INV. -/
inductive Count where
  | none_
  | error
  | up (b : Bool)
  deriving DecidableEq, Repr

/-- The count of levels `a b` that become `a' b'` under a MODE (R218). -/
def countOf (mode : Nat) (a b a' b' : Bool) : Count :=
  if mode = 4 then (if !a && a' then .up (!b') else .none_)
  else if a != a' && b != b' then .error
  else if a != a' then
    if mode = 3 && !a' then .none_ else .up (a' != b)
  else if b != b' && mode = 1 then .up (b' == a)
  else .none_

/-- err reduced into −CPC ÷ 2 to CPC ÷ 2 − 1 (R220). -/
def reduceErr (cpc : Nat) (d : Int) : Int := (d + (cpc / 2 : Nat)) % (max cpc 1 : Nat) - (cpc / 2 : Nat)

/-- The mean time per count over the stamps given (newest first), in 2^-8 ns (R221); 0xFFFFFFFF where it is too long (R162). -/
def meanPeriod (l : List Nat) : Nat :=
  match l, l.getLast? with
  | b :: _ :: _, some a => min ((b - a) * 256 / (l.length - 1)) 0xFFFFFFFF
  | _, _ => 0xFFFFFFFF

/-- The 64-bit position in its register pair (R241). -/
def State.putPos (s : State) (e : Nat) (p : Int) : State := s.putPair (R.CAP_ENC_POS_LO e) (p % 0x10000000000000000).toNat

/-- The index acts on a count (R220): the position, whether the point carries REBASED, the state. -/
def State.indexCount (s : State) (e : Nat) (up : Bool) (counted : Int) : State × Int × Bool :=
  let cpc := s.get (F.CAP_ENC_CPC_CPC e)
  let off := s.get (F.CAP_ENC_INDEX_INDEX_OFFSET e)
  if s.isSet (F.CAP_ENC_STAT_NO_INDEX e) then
    (s.put (F.CAP_ENC_STAT_NO_INDEX e) 0, if up then (off : Int) else (off : Int) - 1, false)
  else
    let expected : Int := if up then (off : Int) else ((off : Int) - 1) % (max cpc 1 : Nat)
    let err := reduceErr cpc (counted % (max cpc 1 : Nat) - expected)
    let s := s.putInt (F.CAP_ENC_STAT_INDEX_ERR e) err
    if err.natAbs ≤ s.get (F.CAP_ENC_INDEX_INDEX_TOL e) then (s, counted, false)
    else if s.isSet (F.CAP_ENC_CFG_INDEX_MODE e) then
      let p := counted - err
      let s := (s.put (F.CAP_ENC_STAT_REBASE_SEEN e) 1).raise 47
      (s.logWrite kEncoder 47 (w32 e) (BitVec.ofInt 32 err) (BitVec.ofInt 32 p), p, true)
    else (((s.incSat (F.CAP_ENC_CNT_INDEX_FAULTS e)).put (F.CAP_ENC_STAT_INDEX_FAULT_SEEN e) 1).raise 47, counted, false)

/-- One count of encoder `e` at `stamp` (R218 to R221): position, direction, period, and, where its stamp is kept, the point; waiting entries are
estimated again with what the encoder then shows (R231). The first index gives positions another origin, so no estimate spans it. -/
def State.encCount (s : State) (e : Nat) (up : Bool) (stamp : Nat) (level : Bool) : State :=
  let x := s.enc e
  let counted := if up then x.pos + 1 else x.pos - 1
  let unknown := s.isSet (F.CAP_ENC_STAT_NO_INDEX e)
  let (s, pos, rebased) := if x.index then s.indexCount e up counted else (s, counted, false)
  let first := unknown && !s.isSet (F.CAP_ENC_STAT_NO_INDEX e)
  let old := if s.isSet (F.CAP_ENC_STAT_STOPPED e) then [] else x.stamps
  let y := tabGet (fun _ => Source.start) s.srcs e
  let stamps := (stamp :: old).take 17
  let s := s.setEnc e { x with pos := pos, index := false, stamps := stamps, lastLt := s.lt }
  let s := (s.putB (F.CAP_ENC_STAT_REVERSE e) (!up)).put (F.CAP_ENC_STAT_STOPPED e) 0
  let s := s.put (F.CAP_ENC_PERIOD_PERIOD e) (meanPeriod stamps)
  let hold := s.uncertainAt stamp
  let (s, kept) := s.capPut (36 + e) { stamp := stamp, pos := pos, level := level, index := x.index, reverse := !up, rebased := rebased,
                                       holdover := hold, lost := 0, lostFrom := 0, thr := false }
  if kept then
    let s := (s.putPos e pos).putPair (R.CAP_ENC_LAST_LO e) stamp
    (s.setSrc e { y with pts := ⟨pos, stamp, hold⟩ :: (if first then [] else y.pts), since := if first then stamp else y.since }).reestimate e |>.watchNote
  else (s.reestimate e).watchNote

/-- Encoder `e` after the changes accepted on one tick (R218, R220): `z` tells of a rising edge of Z. A unit that has stopped (R215) takes none. -/
def State.encTick (s : State) (e : Nat) (z : Bool) : State :=
  let x := s.enc e
  if s.isSet (F.CAP_ENC_STAT_COUNTING e) && (s.cap (36 + e)).on then
    let a := (s.cap (24 + 3 * e)).level
    let b := (s.cap (25 + 3 * e)).level
    let idx := z && (!s.isSet (F.CAP_ENC_CFG_GATE e) || (a && b))
    let s := s.setEnc e { x with a := a, b := b, index := x.index || idx }
    match countOf (s.get (F.CAP_ENC_CFG_MODE e)) x.a x.b a b with
    | .none_ => s
    | .error => ((s.incSat (F.CAP_ENC_CNT_QUAD_ERR e)).put (F.CAP_ENC_STAT_QUAD_SEEN e) 1).raise 47
    | .up d =>
      let i := if x.a != a then 24 + 3 * e else 25 + 3 * e
      s.encCount e (d != s.isSet (F.CAP_ENC_CFG_DIR_INV e)) (s.stampOf i) (s.cap i).level
  else s

/-! ## Edges (R212, R213) -/

/-- One level change at an input (R212): a glitch, or a new filtered level, stamped where EDGE selects it. -/
def State.capChange (s : State) (c : CapChange) : State :=
  let i := c.input.val
  let x := s.cap i
  if c.held < s.filterNs i then (if x.on then s.incSat (F.CAP_IN_CNT_GLITCHES i) else s)
  else if x.level = c.level then s
  else
    let s := (s.setCap i { x with level := c.level }).putB (F.CAP_IN_STAT_LEVEL i) c.level
    if x.on && (s.get (F.CAP_IN_CFG_EDGE i)).testBit (if c.level then 0 else 1) then
      let t := s.stampOf i
      let s := s.incWrap (F.CAP_IN_CNT_EDGES i)
      (s.capPut i { stamp := t, pos := 0, level := c.level, index := false, reverse := false, rebased := false,
                    holdover := s.uncertainAt t, lost := 0, lostFrom := 0, thr := false }).1
    else s

/-- The changes accepted on one tick: the inputs, then the encoders (R212, R218). -/
def State.capChanges (s : State) (cs : List CapChange) : State :=
  let rose (e : Nat) : Bool := cs.any (fun c => c.input.val == 26 + 3 * e && c.level && decide (s.filterNs c.input ≤ c.held)
    && !(s.cap c.input).level)
  let s' := cs.foldl State.capChange s
  [0, 1, 2, 3].foldl (fun s e => s.encTick e (rose e)) s'

/-! ## Starts and stops (R213, R215, R218, R222) -/

/-- Input `i` starts: its filtered level now is its starting level (R213); stamps dropped before still await their GAP (R214). -/
def State.inputStart (s : State) (i : Nat) : State :=
  let x := s.cap i
  (s.setCap i { x with on := s.get (F.CAP_IN_CFG_EDGE i) != 0 }).putB (F.CAP_IN_STAT_LEVEL i) x.level

/-- The cycle numbers of source `n` start anew: its lanes have decided none of them, and no CLEAR is for one (R169, R170, R222; DEDUCED, assumption 144). -/
def State.lanesAnew (s : State) (n : Nat) : State :=
  (List.range 16).foldl (fun s i =>
    if s.isSet (F.HERD_RUC_CFG_EN i) && s.get (F.HERD_RUC_CFG_SRC i) == n then s.setLane i { s.lane i with done := none, clears := [] } else s) s

/-- Encoder `e` starts from position 0 without an index (R218, R220); as a source that was available it goes away (R233). -/
def State.encStart (s : State) (e : Nat) : State :=
  let s := (if s.srcAvail e then s.sourceGone e else s).lanesAnew e
  let on := s.get (F.CAP_ENC_CFG_MODE e) != 0
  let s := s.setEnc e { EncSt.start with a := (s.cap (24 + 3 * e)).level, b := (s.cap (25 + 3 * e)).level, lastLt := s.lt }
  let s := (s.setCap (36 + e) { s.cap (36 + e) with on := on }).setSrc e Source.start
  let s := (s.putB (F.CAP_ENC_STAT_COUNTING e) on).put (F.CAP_ENC_STAT_NO_INDEX e) 1
  let s := ((s.put (F.CAP_ENC_STAT_REVERSE e) 0).put (F.CAP_ENC_STAT_STOPPED e) 0).put (F.CAP_ENC_PERIOD_PERIOD e) 0xFFFFFFFF
  ((s.putPos e 0).putPair (R.CAP_ENC_LAST_LO e) 0).watchNote

/-- Every unit starts (R213). -/
def State.capsStart (s : State) : State :=
  let s := (List.range 36).foldl State.inputStart s
  [0, 1, 2, 3].foldl State.encStart s

/-- The hub has left retention (R222): encoders keep their position but have no index. -/
def State.capsResume (s : State) : State :=
  let s := (List.range 36).foldl State.inputStart s
  [0, 1, 2, 3].foldl (fun s e =>
    let on := s.get (F.CAP_ENC_CFG_MODE e) != 0
    let x := s.enc e
    let s := (s.lanesAnew e).setEnc e { x with a := (s.cap (24 + 3 * e)).level, b := (s.cap (25 + 3 * e)).level, index := false, stamps := [], lastLt := s.lt }
    let s := (s.setCap (36 + e) { s.cap (36 + e) with on := on }).setSrc e Source.start
    ((s.putB (F.CAP_ENC_STAT_COUNTING e) on).put (F.CAP_ENC_STAT_NO_INDEX e) 1).put (F.CAP_ENC_PERIOD_PERIOD e) 0xFFFFFFFF) s

/-- One unit stops (R215): its record is delivered with the entries it holds. -/
def State.capStop (s : State) (u : Nat) : State :=
  let s := (s.capDrainAll u 4).capClose u
  s.setCap u { s.cap u with on := false }

/-- Every unit stops and delivers its record (R215). -/
def State.capsDeliver (s : State) : State := (List.range 40).foldl State.capStop s

/-- Every unit stops; the encoders no longer count, and those that were available go away as sources (R215, R233). -/
def State.capsStop (s : State) : State :=
  ([0, 1, 2, 3].foldl (fun s e => (if s.srcAvail e then s.sourceGone e else s).put (F.CAP_ENC_STAT_COUNTING e) 0) s.capsDeliver).watchNote

/-- The filtered levels at the inputs' contacts, all that the hub's loss leaves of the units (R213). -/
def State.capLevels (s : State) : List (Nat × CapUnit) :=
  (s.caps.map (fun c => (c.1, { CapUnit.off with level := c.2.level }))).filter (fun c => c.2 != CapUnit.off)

end Sys2Proof.Machine
end

