-- ==== Sys2Proof/Machine/HostStore.lean ====
section
/-! DEFINITION. The host link's store (R352, R353), batches' closing, and VERDICTs that wait for their cycles (R359). -/

namespace Sys2Proof.Machine

/-- The state with the host link's part replaced. -/
def State.setHost (s : State) (h : HostSt) : State := { s with host := h }

/-- Bytes held in an area. -/
def State.fill (s : State) (raw : Bool) : Nat := if raw then s.get F.HOST_RAW_FILL else s.get F.HOST_CTRL_FILL
/-- Bytes held in an area set. -/
def State.setFill (s : State) (raw : Bool) (n : Nat) : State := if raw then s.put F.HOST_RAW_FILL n else s.put F.HOST_CTRL_FILL n
/-- The size of an area (R352). -/
def State.areaSize (s : State) (raw : Bool) : Nat :=
  (if raw then s.get F.HOST_STORE_SIZE_RAW_SIZE else s.get F.HOST_STORE_SIZE_CTRL_SIZE) * 65536

/-- The ETH domain takes frames (R342, R361, R365): HOST on, the PLL locked, the link up. -/
def State.hostHears (s : State) : Bool := s.domIsOn domHost && s.isSet F.LT_CLK_STAT_PLL_LOCK && s.get F.HOST_STAT_SPEED != 0

/-- The module sends and answers (R343): with its address written, too. -/
def State.hostTalks (s : State) : Bool := s.hostHears && s.isSet F.HOST_STAT_ADDR_OK

/-- A frame has gone over the jack (R44). -/
def State.jack (s : State) : State := s.setHost { s.host with act := some s.lt }

/-- A frame leaves the jack. -/
def State.hostEmit (s : State) (e : Emission) : State := (s.emit e).jack

/-- SESSION states (R347). -/
abbrev ssNone : Nat := 0
abbrev ssOpen : Nat := 1
abbrev ssIdle : Nat := 2

/-! ## Waking the host (R363, R364) -/

/-- The MAC that magic packets name (R363): HOST_WAKE_MAC, else that of the last session's host; 0 for none. -/
def State.wakeMac (s : State) : Nat :=
  let m := (s.rd R.HOST_WAKE_MAC_LO).toNat + 0x100000000 * ((s.rd R.HOST_WAKE_MAC_HI).toNat % 0x10000)
  if m = 0 then s.host.mac else m

/-- The fill cause of R364 holds. -/
def State.fillCause (s : State) : Bool :=
  let p := s.get F.HOST_WAKE_CFG_FILL_PCT
  p != 0 && s.get F.HOST_STAT_SESSION != ssOpen && decide (s.areaSize false * p ≤ s.fill false * 100)

/-- Magic packets leave in both forms. -/
def State.magicSend (s : State) : State := if s.hostTalks then s.hostEmit (.magic s.wakeMac) else s

/-- A wake attempt (R363). The spec gives no coding of the wake cause in its trouble-log entry: D1 is a free value. -/
def State.wakeStart (s : State) : State :=
  let s := ((s.incSat F.HOST_CNT3_WAKE_ATTEMPTS).put F.HOST_EVT_WAKE_SEEN 1)
  let s := ((s.logWrite kHost 21 3#32 s.free 0#32).freeNext).raise 21
  let packets := s.isSet F.HOST_WAKE_CFG_PACKET_EN && s.domIsOn domHost && s.wakeMac != 0
  let s := if s.isSet F.HOST_WAKE_CFG_PACKET_EN && s.domIsOn domHost && s.wakeMac == 0 then s.incSat F.HOST_CNT3_NO_MAC else s
  let s := if packets then s.magicSend else s
  let s := s.setHost { s.host with attempt := some s.logLt, packets := if packets then 1 else 3, lastWake := s.logLt }
  let s := if s.isSet F.HOST_WAKE_CFG_PIN_EN then (s.put F.HOST_STAT_WAKE_PIN 1).setHost { s.host with pinAt := some s.logLt } else s
  s.putB F.HOST_STAT_WAKING (s.get F.HOST_STAT_SESSION != ssOpen)

/-- The fill cause starts an attempt where it did not hold `before`, and unless attempts are repeating already (R364). -/
def State.wakeFill (before : Bool) (s : State) : State := if s.fillCause && (!before || !s.isSet F.HOST_STAT_WAKING) then s.wakeStart else s

/-- The fill cause, found to hold, starts an attempt unless attempts are repeating already (R364). -/
def State.wakeCheck (s : State) : State := s.wakeFill true

/-- A session opens (R363, R364): the repeats stop; with PIN_MS 0 the contact is released. -/
def State.wakeEnd (s : State) : State :=
  let s := (s.put F.HOST_STAT_WAKING 0).setHost { s.host with wakeCmd := false }
  if s.get F.HOST_WAKE_CFG_PIN_MS = 0 then (s.put F.HOST_STAT_WAKE_PIN 0).setHost { s.host with pinAt := none } else s

/-- Records of an area that are in no batch yet. -/
def HostSt.open_ (h : HostSt) (raw : Bool) : List Rec := if raw then h.raw else h.ctrl
/-- The instant at which the first of them entered. -/
def HostSt.openAt (h : HostSt) (raw : Bool) : Nat := if raw then h.rawAt else h.ctrlAt
/-- Those records replaced. -/
def HostSt.setOpen (h : HostSt) (raw : Bool) (l : List Rec) (at_ : Nat) : HostSt :=
  if raw then { h with raw := l, rawAt := at_ } else { h with ctrl := l, ctrlAt := at_ }

/-- Bytes of a list of records. -/
def recsBytes (l : List Rec) : Nat := (l.map Rec.length).sum

/-- The open records of an area become a batch with the next BSEQ (R353). -/
def State.batchClose (s : State) (raw : Bool) : State :=
  let h := s.host
  if (h.open_ raw).isEmpty then s
  else
    let b : Batch := { bseq := s.rd R.HOST_NEXT_BSEQ, raw := raw, recs := h.open_ raw, next := 0, ok := 0, out := false, resent := false, left := [], first := false }
    (s.setHost { h.setOpen raw [] 0 with batches := h.batches ++ [b] }).wr R.HOST_NEXT_BSEQ (b.bseq + 1#32)

/-- The area's last 4 KB hold only GAP and MARK records (R352). -/
def State.areaFits (s : State) (raw : Bool) (l : List Rec) : Bool :=
  let plain := l.any (fun r => !r.isGapMark)
  decide (s.fill raw + recsBytes l + (if plain then 4096 else 0) ≤ s.areaSize raw)

/-- A stream of one generation: SOURCE with its generation, and TYPE (numbers that no `streamKey` takes). -/
def genKey (source : Word) (ty : Nat) : Nat := 0x10000000000 + source.toNat * 256 + ty

/-- What an admitted record tells of CYCLE streams (R359): the cycle of a generation's stream, the latest LT_TO of a stream's GAPs. -/
def HostSt.note (h : HostSt) (r : Rec) : HostSt :=
  if r.ty = tyCycle then
    let last := decide (leAt r.payload 1 1 % 4 = leAt r.payload 1 1 / 4 % 4)
    if r.flags.getLsbD flAborted || last then
      let k := genKey r.source tyCycle
      let c := tabGet (fun _ => ⟨none, 0⟩) h.cyc k
      let newer := match c.cycle with | some x => seqLater r.cycle x | none => true
      if newer then { h with cyc := tabSet (fun _ => ⟨none, 0⟩) k { c with cycle := some r.cycle } h.cyc } else h
    else h
  else if r.ty = tyGap then
    r.gapEntries.foldl (fun (h : HostSt) e =>
      if e.source = 0xFFFFFFFF#32 then { h with gapAll := max h.gapAll e.ltTo }
      else if e.stype = tyCycle then
        let k := streamKey e.source tyCycle
        let c := tabGet (fun _ => ⟨none, 0⟩) h.cyc k
        { h with cyc := tabSet (fun _ => ⟨none, 0⟩) k { c with gapTo := max c.gapTo e.ltTo } h.cyc }
      else h) h
  else h

/-- The producing stream of a record, whatever its TYPE and generation: its VERDICTs and the MARKs among them have it in common. -/
def Rec.origin (r : Rec) : Nat := r.source.toNat / 65536

/-- A record waits for a parked VERDICT of its stream with an earlier LT (R353, R359). -/
def HostSt.laterWaits (h : HostSt) : Bool :=
  h.parks.any (fun q => h.parks.any (fun p => p.record.ty == tyVerdict && p.record.origin == q.record.origin && decide (p.record.lt < q.record.lt)))

/-- A record enters an area (R353; DEDUCED, assumption 163): a batch it would take above BATCH_MAX closes first; behind it the CTRL batch closes where a record with a
later LT waits for a parked VERDICT. -/
def State.areaEnter (s : State) (raw : Bool) (r : Rec) : State :=
  let before := s.fillCause
  let s := if recsBytes (s.host.open_ raw) + r.length > s.get F.HOST_BATCH_BATCH_MAX then s.batchClose raw else s
  let h := s.host
  let l := h.open_ raw
  let h := h.setOpen raw (l ++ [r]) (if l.isEmpty then s.lt else h.openAt raw)
  let h := if raw then h else h.note r
  let h := if !raw && r.ty = tyVerdict then { h with done := tabInsert (genKey r.source tyVerdict) r.cycle (tabDrop (genKey r.source tyVerdict) h.done) } else h
  let s := (s.setHost h).setFill raw (s.fill raw + r.length)
  if raw then s
  else
    let s := s.wakeFill before
    if s.host.laterWaits then s.batchClose false else s

/-- Bit 4t + g of HOST_PAIR for a record of one of the module's own groups. -/
def State.paired (s : State) (r : Rec) (g : Nat) : Bool :=
  srcLine r.source == s.line && s.bit F.HOST_PAIR_PAIR (4 * srcTile r.source + g)

/-- One folded stream lets the VERDICT pass (R359). -/
def State.streamPasses (s : State) (v : Rec) (i : Nat) : Bool :=
  let h := s.host
  let src := sourceWord s.line (srcTile v.source) (0x10 + i) (srcGen v.source)
  let c := tabGet (fun _ => ⟨none, 0⟩) h.cyc (streamKey src tyCycle)
  (match (tabGet (fun _ => (⟨none, 0⟩ : CycSeen)) h.cyc (genKey src tyCycle)).cycle with | some k => k == v.cycle || seqLater k v.cycle | none => false) || decide (v.lt ≤ c.gapTo) || decide (v.lt ≤ h.gapAll)

/-- Every folded stream of its group lets the VERDICT pass. -/
def State.verdictPasses (s : State) (v : Rec) : Bool :=
  (s.foldedIn (srcTile v.source) (srcStream v.source % 4)).all (fun i => s.streamPasses v i)

/-- A VERDICT, or a MARK of a VERDICT stream. -/
def Rec.ofVerdicts (r : Rec) : Bool := r.ty == tyVerdict || (r.ty == tyMark && srcStream r.source / 4 == 8)

/-- The record waits behind a parked one of its stream (O1). -/
def State.behindPark (s : State) (r : Rec) : Bool := s.host.parks.any (fun p => p.record.origin == r.origin)

/-- A record must be parked (R359): its group is paired and it is a VERDICT that waits for a folded stream, or it waits behind a parked record of its stream. -/
def State.mustPark (s : State) (r : Rec) : Bool :=
  r.ofVerdicts && s.paired r (srcStream r.source % 4) && ((r.ty == tyVerdict && !s.verdictPasses r) || s.behindPark r)

/-- The group of a CYCLE record: as its payload says, or in its ABORTED form that of its folded stream. -/
def State.cycleGroup (s : State) (r : Rec) : Nat :=
  if r.payload.isEmpty then s.get (F.CHURN_STR_GROUP (srcTile r.source) (srcStream r.source % 16)) else leAt r.payload 0 1 / 16 % 4

/-- A CYCLE record whose VERDICT has entered (R359). -/
def State.lateCycle (s : State) (r : Rec) : Bool :=
  r.ty == tyCycle &&
    (let g := s.cycleGroup r
     let key := genKey (sourceWord s.line (srcTile r.source) (0x20 + g) (srcGen r.source)) tyVerdict
     s.paired r g && s.host.done.any (fun d => d.1 == key && (d.2 == r.cycle || seqLater d.2 r.cycle)))

/-- The VERDICTs parked. -/
def HostSt.verdicts (h : HostSt) : List Parked := h.parks.filter (fun p => p.record.ty == tyVerdict)

/-- PARKED follows the park. -/
def State.showParked (s : State) : State := s.put F.HOST_STAT_PARKED s.host.verdicts.length

/-- The areas a record enters (R352): SAMPLES RAW; GAPs and MARKs of SAMPLES both; the rest CTRL. -/
def Rec.areas (r : Rec) : List Bool :=
  if r.ty = tySamples then [true]
  else if r.ty = tyGap then (if r.gapEntries.any (fun e => e.stype == tySamples) then [false, true] else [false])
  else if r.ty = tyMark then (if srcStream r.source < 0x10 then [false, true] else [false])
  else [false]

end Sys2Proof.Machine
end

