-- ==== Sys2Proof/Machine/LoadRules.lean ====
section
/-! DEFINITION. The key loader's refusal rules on the final register values (R49, R67, R74, R76, R94 to R116, R121, R182, R183, R186, R210,
R240, R300, R301, R311, R362, and the fields marked refused). Each rule answers the registers that break it, in a state that holds the values
to be checked. -/

namespace Sys2Proof.Machine

/-- The register `a`, if it breaks its rule. -/
def broken (bad : Bool) (a : Nat) : List Nat := if bad then [a] else []

/-! ## Cells (R67, R76, R98) -/

/-- A terminal code of a source or lead: 0 to 9 or 15 (R67). -/
def termBad (n : Nat) : Bool := decide (9 < n) && n != 15
/-- A terminal code where 0V_REF is allowed too. -/
def refBad (n : Nat) : Bool := decide (10 < n) && n != 15
/-- A current-source code: 0, or 20 to 4,000 (R73). -/
def codeBad (n : Nat) : Bool := n != 0 && (decide (n < 20) || decide (4000 < n))

/-- A terminal is joined to more than one of ISA, ISB, BVH, RTN and DIS in a step. -/
def State.joinBad (s : State) (c n : Nat) : Bool :=
  (List.range 10).any (fun t =>
    decide (1 < ([s.get (F.CELL_STEP_EXC_ISA_T c n) == t, s.get (F.CELL_STEP_EXC_ISB_T c n) == t, s.get (F.CELL_STEP_EXC_BV_T c n) == t,
      s.bit (F.CELL_STEP_MASK_RTN_MASK c n) t, s.bit (F.CELL_STEP_MASK_DIS_MASK c n) t].filter id).length))

/-- The route of channel `i` differs between two steps. -/
def State.routeMoves (s : State) (c i a b : Nat) : Bool :=
  s.get (F.CELL_STEP_ROUTE_CHP c a i) != s.get (F.CELL_STEP_ROUTE_CHP c b i)
    || s.get (F.CELL_STEP_ROUTE_CHN c a i) != s.get (F.CELL_STEP_ROUTE_CHN c b i)

/-- A router field of step `n` holds a code it may not (R67): of every step register, run or not. -/
def State.codeRules (s : State) (c n : Nat) : List Nat :=
  broken ((List.range 4).any (fun i => termBad (s.get (F.CELL_STEP_ROUTE_CHP c n i)) || refBad (s.get (F.CELL_STEP_ROUTE_CHN c n i)))) (R.CELL_STEP_ROUTE c n)
  ++ broken (termBad (s.get (F.CELL_STEP_EXC_ISA_T c n)) || termBad (s.get (F.CELL_STEP_EXC_ISB_T c n)) || termBad (s.get (F.CELL_STEP_EXC_BV_T c n))
      || refBad (s.get (F.CELL_STEP_EXC_REFP_T c n)) || refBad (s.get (F.CELL_STEP_EXC_REFN_T c n))) (R.CELL_STEP_EXC c n)

/-- Step `n`'s rules: joins, and, in a scan, its length, with a whole filter window of every channel whose route changes. -/
def State.stepRules (s : State) (c n : Nat) : List Nat :=
  let last := s.get (F.CELL_CFG_LAST_STEP c)
  let prev := if n = 0 then last else n - 1
  let short := (List.range 4).any (fun i => s.routeMoves c i prev n
    && decide (s.dwellNs c n < s.disNs c + 60 + 2 * halfNs (s.get (F.CH_MODE_RATE (4 * c + i)))))
  broken (s.joinBad c n) (R.CELL_STEP_EXC c n)
  ++ broken (decide (0 < last) && (s.get (F.CELL_STEP_DWELL_COUNT c n) == 0 || short)) (R.CELL_STEP_DWELL c n)

/-- The lead measurement of channel `i`. -/
def State.leadRules (s : State) (c i : Nat) : List Nat :=
  let w := s.get (F.CELL_LEAD_CFG_WIRING c i)
  let last := s.get (F.CELL_CFG_LAST_STEP c)
  let use := s.get (F.CELL_USE_USE c i)
  let moves := (List.range (last + 1)).any (fun n => s.routeMoves c i 0 n)
  let own := if s.isSet (F.CELL_LEAD_CFG_SOURCE c i) then use.testBit 0 else use.testBit 1
  broken (decide (4 < w) || (w != 0 && (moves || own)) || termBad (s.get (F.CELL_LEAD_CFG_LEAD_T c i)) || codeBad (s.get (F.CELL_LEAD_CFG_LEAD_CODE c i)))
    (R.CELL_LEAD_CFG c i)
  ++ broken (s.get (F.CELL_LEAD_SCHED_MODE c i) == 3) (R.CELL_LEAD_SCHED c i)

/-- The rules of cell `c` (R76). -/
def State.cellRules (s : State) (c : Nat) : List Nat :=
  let dis := s.get (F.CELL_CFG_DIS_LEN c)
  broken (decide (dis < 50) || decide (5000 < dis) || s.get (F.CELL_CFG_BV_LEVEL c) == 3) (R.CELL_CFG c)
  ++ broken (codeBad (s.get (F.CELL_ISRC_ISA_CODE c)) || codeBad (s.get (F.CELL_ISRC_ISB_CODE c))) (R.CELL_ISRC c)
  ++ (List.range 16).flatMap (s.codeRules c)
  ++ (List.range (s.get (F.CELL_CFG_LAST_STEP c) + 1)).flatMap (s.stepRules c)
  ++ (List.range 4).flatMap (s.leadRules c)

/-! ## Loads (R49, R74) -/

/-- The expected bridge current of cell `c` in µA. -/
def State.bridgeUa (s : State) (c : Nat) : Nat := if s.get (F.CELL_CFG_BV_LEVEL c) = 0 then 0 else s.get (F.CELL_EXC_LIM_BV_EXPECT c)

/-- The excitation power of cell `c` in nW (R74). -/
def State.excNw (s : State) (c : Nat) : Nat :=
  let steps := List.range (s.get (F.CELL_CFG_LAST_STEP c) + 1)
  let a := if steps.any (fun n => s.get (F.CELL_STEP_EXC_ISA_T c n) != 15) then s.get (F.CELL_ISRC_ISA_CODE c) else 0
  let b := if steps.any (fun n => s.get (F.CELL_STEP_EXC_ISB_T c n) != 15) then s.get (F.CELL_ISRC_ISB_CODE c) else 0
  (if s.get (F.CELL_CFG_BV_LEVEL c) = 1 then 2500 else 5000) * s.bridgeUa c + 5000 * (a + b)

/-- Bridge current and excitation power of tile `t`'s cells. -/
def State.tileLoad (s : State) (t : Nat) : Nat × Nat := (((cellsOf t).map s.bridgeUa).sum, ((cellsOf t).map s.excNw).sum)

/-- The sums of these loads break 400 mA or 2.0 W. -/
def loadsBad (l : List (Nat × Nat)) : Bool := decide (400000 < (l.map Prod.fst).sum) || decide (2000000000 < (l.map Prod.snd).sum)

/-- The load limits over the tiles in use. -/
def State.loadRules (s : State) (tiles : List Nat) : List Nat :=
  (tiles.flatMap cellsOf).flatMap (fun c => broken (decide (30000 < s.bridgeUa c)) (R.CELL_EXC_LIM c))
  ++ broken (loadsBad (tiles.map s.tileLoad)) (R.CELL_EXC_LIM (4 * tiles.headD 0))

/-! ## Channels (R94 to R121) -/

/-- The rules of channel `k` (R121). -/
def State.chanRules (s : State) (k : Nat) : List Nat :=
  let m := s.get (F.CH_MODE_MODE k)
  let tc := s.get (F.CH_MODE_TC_TYPE k)
  let ar := s.get (F.CH_MODE_AR_MODE k)
  let lo := s.get (F.CH_MODE_MIN_RANGE k)
  let ho := s.get (F.CH_MODE_HOME_RANGE k)
  let hi := s.get (F.CH_MODE_MAX_RANGE k)
  let h := s.get (F.CH_MODE_NOTCH_H k)
  let use := s.get (F.CELL_USE_USE (k / 4) (k % 4))
  broken (m == 7 || decide (8 < tc) || ar == 3 || decide (ho < lo) || decide (hi < ho) || decide (4 < hi)
      || decide (17 < s.get (F.CH_MODE_RATE k)) || (s.get (F.CH_MODE_NOTCH k) != 0 && (h == 0 || decide (5 < h)))) (R.CH_MODE k)
  ++ broken ((m == 4 && use.testBit 0 == use.testBit 1) || (m == 3 && tc != 0 && !use.testBit 3)) (R.CELL_USE (k / 4))
  ++ broken (ar == 2 && s.get (F.CH_AR_QUIET_MS k) == 0) (R.CH_AR k)
  ++ broken (s.isSet (F.CH_RST_SCHED_EN k) && s.get (F.CH_RST_SCHED_EVERY k) == 0) (R.CH_RST_SCHED k)

/-- The mains tracker's fallback channel runs at RATE 10 or lower (R116). -/
def State.mainsRules (s : State) (t : Nat) : List Nat :=
  broken (s.isSet (F.MAINS_CFG_SRC_CH_EN t) && decide (10 < s.get (F.CH_MODE_RATE (16 * t + s.get (F.MAINS_CFG_SRC_CH t))))) (R.MAINS_CFG t)

/-! ## Churn engine (R183, R186, R210) -/

/-- A source a rule may name: local, or an enabled subscription. -/
def State.srcNamed (s : State) (n : Nat) : Bool := n < 4 || s.isSet (F.HERD_SUB_CFG_EN (n - 4))

/-- Stream `i` is folded. -/
def State.isFolded (s : State) (t i : Nat) : Bool := s.isSet (F.CHURN_STR_FOLD_EN t i)
/-- The bins of stream `i`'s group. -/
def State.streamBins (s : State) (t i : Nat) : Nat := s.binsOf t (s.get (F.CHURN_STR_GROUP t i))
/-- Group `g` is enabled. -/
def State.grpOn (s : State) (t g : Nat) : Bool := s.isSet (F.CHURN_GRP_CFG_EN t g)

/-- The rules of group `g`. -/
def State.grpRules (s : State) (t g : Nat) : List Nat :=
  let src := s.get (F.CHURN_GRP_CFG_SRC t g)
  let len := s.get (F.CHURN_GRP_TEACH_TEACH_LEN t g)
  let teach := s.grpOn t g && (s.isSet (F.CHURN_GRP_CFG_TEACH_AT_START t g) || s.isSet (F.CHURN_GRP_CFG_TEACH_CMD_EN t g))
  broken ((s.grpOn t g && (decide (4 < s.get (F.CHURN_GRP_CFG_BINS t g)) || (decide (src < 4) && !s.bit (F.CAP_ENC_CFG_TILES src) t)))
      || s.get (F.CHURN_GRP_CFG_MAX_CYCLE_MS t g) == 0) (R.CHURN_GRP_CFG t g)
  ++ broken (s.get (F.CHURN_GRP_TIME_WAIT_US t g) == 0 || s.get (F.CHURN_GRP_TIME_CLOSE_WAIT t g) == 0) (R.CHURN_GRP_TIME t g)
  ++ broken (teach && (decide (len < 16) || decide (4096 < len))) (R.CHURN_GRP_TEACH t g)
  ++ broken (s.isSet (F.CHURN_GRP_CFG_DRIFT_EN t g)
      && (s.get (F.CHURN_GRP_DRIFT_DRIFT_EVERY t g) == 0 || s.get (F.CHURN_GRP_DRIFT_DRIFT_STEP t g) == 0)) (R.CHURN_GRP_DRIFT t g)

/-- The rules of stream `i`. -/
def State.strRules (s : State) (t i : Nat) : List Nat :=
  let fs := s.get (F.CHURN_STR_FOLD_STEP t i)
  broken (s.isFolded t i && (!s.grpOn t (s.get (F.CHURN_STR_GROUP t i)) || (decide (15 < fs) && fs != 31) || decide (8 < s.get (F.CHURN_STR_SHIFT t i))))
    (R.CHURN_STR t i)

/-- The rules of feature `f`. -/
def State.featRules (s : State) (t f : Nat) : List Nat :=
  let k := s.get (F.CHURN_FEAT_CFG_KIND t f)
  let i := s.get (F.CHURN_FEAT_CFG_STREAM t f)
  let a := s.get (F.CHURN_FEAT_CFG_FIRST t f)
  let b := s.get (F.CHURN_FEAT_CFG_LAST t f)
  broken (k != 0 && (decide (10 < k) || !s.isFolded t i || decide (b < a) || decide (s.streamBins t i ≤ b))) (R.CHURN_FEAT_CFG t f)

/-- The bins of all DIFF features, and of all folded streams. -/
def State.diffBins (s : State) (t : Nat) : Nat :=
  ((List.range 64).map (fun f => if s.get (F.CHURN_FEAT_CFG_KIND t f) = 10
    then s.get (F.CHURN_FEAT_CFG_LAST t f) + 1 - s.get (F.CHURN_FEAT_CFG_FIRST t f) else 0)).sum
/-- The bins of all folded streams (R186). -/
def State.foldBins (s : State) (t : Nat) : Nat := ((List.range 16).map (fun i => if s.isFolded t i then s.streamBins t i else 0)).sum

/-- The rules of envelope entry `e` with its word. -/
def State.envRules (s : State) (t e : Nat) (w : BitVec 64) : List Nat :=
  let n := w.toNat
  let f := n / 0x100000000 % 64
  let a := n / 0x100000000 % 1024
  let b := n / 0x40000000000 % 1024
  let i := n / 0x10000000000000 % 16
  let bad := if w.getLsbD 58 then s.get (F.CHURN_FEAT_CFG_KIND t f) == 0 else !s.isFolded t i || decide (b < a) || decide (s.streamBins t i ≤ b)
  broken (n / 0x800000000000000 != 0 && bad) (0x60000000 + t * 0x10000 + 8 * e)

/-- The rules of rule `r`. -/
def State.ruleRules (s : State) (t r : Nat) : List Nat :=
  let n := s.get (F.CHURN_RULE_COND_N t r)
  let m := s.get (F.CHURN_RULE_COND_M t r)
  if s.isSet (F.CHURN_RULE_COND_EN t r) then
    broken (!s.grpOn t (s.get (F.CHURN_RULE_COND_GROUP t r)) || n == 0 || decide (m < n) || decide (8 < m) || decide (4 < s.get (F.CHURN_RULE_COND_OP t r)))
      (R.CHURN_RULE_COND t r)
    ++ broken (decide (23 < s.get (F.CHURN_RULE_TARGET_OUTPUT t r)) || !s.srcNamed (s.get (F.CHURN_RULE_TARGET_SRC t r))) (R.CHURN_RULE_TARGET t r)
  else []

/-- The rules of tile `t`'s engine (R210). -/
def State.churnRules (s : State) (t : Nat) : List Nat :=
  (List.range 4).flatMap (s.grpRules t) ++ (List.range 16).flatMap (s.strRules t) ++ (List.range 64).flatMap (s.featRules t)
  ++ broken (decide (8192 < s.foldBins t)) (R.CHURN_STR t 0) ++ broken (decide (4096 < s.diffBins t)) (R.CHURN_FEAT_CFG t 0)
  ++ (s.env.filter (fun e => e.1 / 3072 == t)).flatMap (fun e => s.envRules t (e.1 % 3072) e.2)
  ++ (List.range 64).flatMap (s.ruleRules t)

/-! ## Timed I/O (R240) and lanes (R182) -/

/-- The rules of the timers of tile `t`. -/
def State.timerRules (s : State) (t : Nat) : List Nat :=
  (List.range 4).flatMap (fun n =>
    broken ((s.isSet (F.TT_ROUTE_M_BURST t n) || s.isSet (F.TT_ROUTE_E_BURST t n)) && s.get (F.TT_BURST_LEN t n) == 0) (R.TT_BURST t n))

/-- Encoder `e` is enabled. -/
def State.encOn (s : State) (e : Nat) : Bool := s.get (F.CAP_ENC_CFG_MODE e) != 0

/-- A capture input or encoder in use sends its records to the hub (R217, R300). -/
def State.hubCaptures (s : State) : Bool :=
  (List.range 36).any (fun i => s.get (F.CAP_IN_CFG_EDGE i) != 0 && s.isSet (F.CAP_IN_CFG_HUB_EN i))
    || (List.range 4).any (fun e => s.encOn e && s.isSet (F.CAP_ENC_CFG_HUB_EN e))

/-- The rules of captures, encoders and lanes. -/
def State.timedRules (s : State) : List Nat :=
  let hubCap := s.hubCaptures
  (List.range 36).flatMap (fun i =>
    broken ((decide (i < 24) && decide (s.get (F.CAP_IN_CFG_FILT i) < 2))
      || (decide (24 ≤ i) && s.encOn ((i - 24) / 3) && s.get (F.CAP_IN_CFG_EDGE i) == 0)) (R.CAP_IN_CFG i))
  ++ (List.range 4).flatMap (fun e =>
    let cpc := s.get (F.CAP_ENC_CPC_CPC e)
    broken (decide (4 < s.get (F.CAP_ENC_CFG_MODE e)) || s.get (F.CAP_ENC_CFG_STOP_MS e) == 0) (R.CAP_ENC_CFG e)
    ++ broken (cpc == 0 || decide (1048576 < cpc)) (R.CAP_ENC_CPC e)
    ++ broken (decide (cpc ≤ s.get (F.CAP_ENC_INDEX_INDEX_OFFSET e))) (R.CAP_ENC_INDEX e))
  ++ broken (s.get F.CAP_CFG_CLOSE_US == 0 || (hubCap && s.get F.CAP_CFG_HUBQ != 4)) R.CAP_CFG
  ++ broken (s.isSet F.ACT_CFG_REC_EN && s.get F.ACT_CFG_EVQ != 5) R.ACT_CFG
  ++ (List.range 16).flatMap (fun n => broken (s.isSet (F.HERD_RUC_CFG_EN n) && (List.range n).any (fun m =>
      s.isSet (F.HERD_RUC_CFG_EN m) && s.get (F.HERD_RUC_CFG_OUTPUT m) == s.get (F.HERD_RUC_CFG_OUTPUT n))) (R.HERD_RUC_CFG n))

/-! ## Queues, ladles and the host store (R300, R301, R311, R362) -/

/-- Ring of descriptor `d` of ladle `l`, as (start, length). -/
def State.ringOf (s : State) (l d : Nat) : Nat × Nat := (s.get (F.LAD_D_RING_BASE_BASE l d), s.get (F.LAD_D_RING_SIZE_SIZE l d))

/-- Descriptor `d` uses its ring. -/
def State.hasRing (s : State) (l d : Nat) : Bool := s.isSet (F.LAD_D_CTL_EN l d) && (s.ringSource l d || s.ringDest l d)

/-- A ring breaks R309 or R307. -/
def State.ringBad (s : State) (l d : Nat) : Bool :=
  let (b, n) := s.ringOf l d
  b % 4096 != 0 || n % 4096 != 0 || n == 0
    || !((decide (l < 32) && decide (b + n ≤ 0x70000)) || (decide (0x10000000 ≤ b) && decide (b + n ≤ 0x11000000)))

/-- The rules of descriptor `d` of ladle `l` (R307, R311). -/
def State.descRules (s : State) (l d : Nat) : List Nat :=
  if 1 < s.get (F.LAD_D_CTL_SRC l d) then [R.LAD_D_CTL l d]
  else if s.isSet (F.LAD_D_CTL_EN l d) then
    let src := s.get (F.LAD_D_CTL_SRC l d)
    let dst := s.get (F.LAD_D_CTL_DST l d)
    let sq := s.get (F.LAD_D_CTL_SRC_Q l d)
    let dq := s.get (F.LAD_D_CTL_DST_Q l d)
    let srcBad := (src == 0 && (if l < 32 then sq / 6 != l / 4 || sq % 6 == 5 || sq ≥ 48 else sq < 48))
    let dstBad := (l < 32 && dst > 1)
      || (dst == 0 && ((dq < 48 && (dq % 6 != 5 || (l < 32 && dq / 6 != l / 4))) || (52 ≤ dq && dq < 56) || (src == 0 && sq == dq)))
    broken (srcBad || dstBad) (R.LAD_D_CTL l d) ++ broken (s.hasRing l d && s.ringBad l d) (R.LAD_D_RING_BASE l d)
  else []

/-- Every ladle and descriptor of the hub and of these tiles. -/
def descsOf (tiles : List Nat) : List (Nat × Nat) :=
  (tiles.flatMap (fun t => (List.range 4).map (fun j => 4 * t + j)) ++ (List.range 8).map (fun j => 32 + j)).flatMap
    (fun l => (List.range 4).map (fun d => (l, d)))

/-- The descriptors with a ring in hub memory: each is a ring of its own, with a core at its other side (R309). -/
def State.hubRingDescs (s : State) (tiles : List Nat) : List (Nat × Nat) :=
  (descsOf tiles).filter (fun x => s.hasRing x.1 x.2 && decide (0x10000000 ≤ (s.ringOf x.1 x.2).1))

/-- The rings in hub memory. -/
def State.hubRings (s : State) (tiles : List Nat) : List (Nat × Nat) := (s.hubRingDescs tiles).map (fun x => s.ringOf x.1 x.2)

/-- The hub queues' storage. -/
def State.hubQueues (s : State) : List (Nat × Nat) := (List.range 16).map (fun n => (s.get (F.Q_BASE_BASE (48 + n)), s.qSize (48 + n)))

/-- The host store. -/
def State.hostStore (s : State) : Nat × Nat := (s.get F.HOST_STORE_BASE_BASE, s.areaSize false + s.areaSize true)

/-- The rules of queue `q` (R300, R301, R302, R311). -/
def State.queueRules (s : State) (q : Nat) : List Nat :=
  let ct := s.get (F.Q_CFG_CT_BYTES q)
  let n := s.get (F.Q_AUX_LEVEL q)
  let size := s.qSize q
  let b := s.get (F.Q_BASE_BASE q)
  broken ((ct != 0 && (ct % 8 != 0 || ct < 24 || ct > 4096)) || decide (4 < (s.consumers q).length)) (R.Q_CFG q)
  ++ broken (q < 48 && q % 6 == 0 && (n == 0 || n > 1015)) (R.Q_AUX q)
  ++ broken (q ≥ 48 && (size % 4096 != 0 || size < 8192 || size > 0x100000)) (R.Q_SIZE q)
  ++ broken (q ≥ 48 && (b % 4096 != 0 || b < 0x10000000 || b + size > 0x11000000)) (R.Q_BASE q)

/-- A channel's SAMPLES reach HQ 2 through a ladle of its tile (R362). -/
def State.streamsRaw (s : State) (k : Nat) : Bool :=
  let t := k / 16
  s.get (F.CH_MODE_MODE k) != 0 && (List.range 4).any (fun j => (List.range 4).any (fun d =>
    let l := 4 * t + j
    s.descReads (6 * t) l d && s.get (F.LAD_D_CTL_DST l d) == 0 && s.get (F.LAD_D_CTL_DST_Q l d) == 50
      && (s.get (F.LAD_D_FILTER_TYPES l d)).testBit 0 && (s.get (F.LAD_D_FILTER_CH_MASK l d)).testBit (k % 16)))

/-- The streaming sum of R362 in 2^-17. -/
def State.rawSum (s : State) (tiles : List Nat) : Nat :=
  ((tiles.flatMap (fun t => (List.range 16).map (fun i => 16 * t + i))).map (fun k =>
    if s.streamsRaw k then 2 ^ (17 - s.get (F.CH_MODE_RATE k)) else 0)).sum

/-- The rules of the host store (R362, R311). -/
def State.hostRules (s : State) (tiles : List Nat) (places : List (Nat × Nat)) : List Nat :=
  let dst := (descsOf []).filter (fun x => s.isSet (F.LAD_D_CTL_EN x.1 x.2) && s.get (F.LAD_D_CTL_DST x.1 x.2) == 3)
  let raw := dst.any (fun x => (s.get (F.LAD_D_FILTER_TYPES x.1 x.2)).testBit 0)
  let st := s.hostStore
  broken (decide (64 * 2 ^ 17 < s.rawSum tiles)) (R.LAD_D_FILTER (4 * tiles.headD 0) 0)
  ++ broken (!dst.isEmpty && s.areaSize false == 0 || raw && s.areaSize true == 0) R.HOST_STORE_SIZE
  ++ broken (st.2 != 0 && (places ++ s.hubQueues ++ s.hubRings tiles).any (meets st)) R.HOST_STORE_BASE

/-! ## Fields that other chapters mark as refused -/

/-- The rules of single fields. -/
def State.fieldRules (s : State) : List Nat :=
  let ack := s.get F.HERD_CFG_ACK_TO_US
  broken (decide (ack < 50) || decide (1000 < ack)
      || (s.role != 3 && (s.get F.HERD_CFG_RXQ_VERDICT != 6 || s.get F.HERD_CFG_RXQ_BULK != 7))) R.HERD_CFG
  ++ broken (s.get F.PWR_CFG_AGREE_MS == 0) R.PWR_CFG
  ++ broken (decide (17 < s.get F.MOD_WATCH_RATE_MIN)) R.MOD_WATCH
  ++ broken (decide (s.get F.LOG_CFG_HUBQ < 8)) R.LOG_CFG
  ++ broken (s.get F.KEY_CFG_ON_INSERT == 3) R.KEY_CFG
  ++ (List.range 8).flatMap (fun p => broken (s.get (F.TW_CFG_RATE p) == 3) (R.TW_CFG p))

/-- Every rule on the hub and on the tiles in use, with the image's places in hub memory: the registers concerned. -/
def State.configRules (s : State) (tiles : List Nat) (places : List (Nat × Nat)) : List Nat :=
  tiles.flatMap (fun t => (cellsOf t).flatMap s.cellRules ++ (List.range 16).flatMap (fun i => s.chanRules (16 * t + i)) ++ s.mainsRules t
    ++ s.churnRules t ++ s.timerRules t ++ (List.range 6).flatMap (fun n => s.queueRules (6 * t + n)))
  ++ s.loadRules tiles ++ s.timedRules ++ (descsOf tiles).flatMap (fun x => s.descRules x.1 x.2)
  ++ (List.range 16).flatMap (fun n => s.queueRules (48 + n)) ++ s.hostRules tiles places ++ s.fieldRules

/-- The first register concerned (R329 CONFIG): the lowest address. -/
def firstAddr : List Nat → Option Nat
  | [] => none
  | a :: t => some (t.foldl min a)

end Sys2Proof.Machine
end

