-- ==== Sys2Proof/Machine/HostSend.lean ====
section
/-! DEFINITION. What the host link sends (R345 to R350) and the session's state (R347). -/

namespace Sys2Proof.Machine

/-- Message types (R346). -/
abbrev mtOpen : Nat := 1
abbrev mtOpenReply : Nat := 2
abbrev mtData : Nat := 3
abbrev mtAck : Nat := 4
abbrev mtHeartbeat : Nat := 5
abbrev mtRequest : Nat := 6
abbrev mtReply : Nat := 7
abbrev mtClose : Nat := 8

/-- A transport message: header, body, CRC-32C (R345). -/
def message (mtype : Nat) (session : Word) (body : List Byte) : List Byte :=
  let b := leBytes 1 0x47 ++ leBytes 1 0x54 ++ leBytes 1 1 ++ leBytes 1 mtype ++ leBytes 4 session.toNat ++ leBytes 2 body.length
    ++ leBytes 2 0 ++ body
  b ++ leBytes 4 (crc32c b).toNat

/-- The address of the next hop (R343): the datagram's own in the subnet, else the gateway's. -/
def State.hop (s : State) (ip : Nat) : Nat :=
  let m := (s.rd R.HOST_MASK).toNat
  if ip &&& m = (s.rd R.HOST_IP).toNat &&& m then ip else (s.rd R.HOST_GW).toNat

/-- The subnet's broadcast address. -/
def State.bcastIp (s : State) : Nat := (s.rd R.HOST_IP ||| ~~~ (s.rd R.HOST_MASK)).toNat

/-- The ARP cache at a datagram's sending (R343): its entry is used; without one a request leaves. -/
def State.arpUse (s : State) (ip : Nat) : State :=
  let hop := s.hop ip
  if ip = s.bcastIp then s
  else if s.host.arp.any (fun e => e.ip == hop) then
    s.setHost { s.host with arp := s.host.arp.map (fun e => if e.ip = hop then { e with used := s.lt } else e) }
  else s.hostEmit (.arp 0 hop 0)

/-- A datagram to an address and port. -/
def State.udpTo (s : State) (ip port : Nat) (payload : List Byte) : State := if s.hostTalks then (s.arpUse ip).hostEmit (.udp ip port payload) else s

/-- A gratuitous ARP for the module's address (R344). -/
def State.arpGratuitous (s : State) : State := if s.hostTalks then s.hostEmit (.arp 2 (s.rd R.HOST_IP).toNat 0) else s

/-- A message to the session's host. -/
def State.toPeer (s : State) (mtype : Nat) (session : Word) (body : List Byte) : State :=
  s.udpTo (s.rd R.HOST_PEER_IP).toNat (s.get F.HOST_PEER_PORT) (message mtype session body)

/-- The session's state (R347): a change raises event 17. -/
def State.setSession (s : State) (st : Nat) : State :=
  if s.get F.HOST_STAT_SESSION = st then s
  else
    let s := ((s.put F.HOST_STAT_SESSION st).put F.HOST_EVT_SESSION_SEEN 1).raise 17
    if st = ssOpen then s.wakeEnd else s.wakeCheck

/-- CLOSE sent to the session's host with a REASON (R346). -/
def State.sendClose (s : State) (reason : Nat) : State :=
  s.toPeer mtClose (s.rd R.HOST_SESSION) (leBytes 1 reason ++ leBytes 3 0)

/-- The module ends the session (R347, R365, R366). -/
def State.moduleClose (s : State) (reason : Nat) : State :=
  if s.get F.HOST_STAT_SESSION = ssNone then s else (s.sendClose reason).setSession ssNone

/-- The link's speed (R367): a change raises event 16. -/
def State.setSpeed (s : State) (n : Nat) : State :=
  if s.get F.HOST_STAT_SPEED = n then s
  else ((s.put F.HOST_STAT_SPEED n).put F.HOST_EVT_LINK_SEEN 1).raise 16

/-- OUTSTANDING follows the batches (R355). -/
def State.showOutstanding (s : State) : State := s.put F.HOST_STAT_OUTSTANDING (s.host.batches.filter (fun b => b.out)).length

/-- CUM follows the batches (R356): the lowest one held, or the next. -/
def State.showCum (s : State) : State :=
  s.wr R.HOST_CUM_BSEQ (match s.host.batches with | b :: _ => b.bseq | [] => s.rd R.HOST_NEXT_BSEQ)

end Sys2Proof.Machine
end

