-- ==== Sys2Proof/Machine/Link.lean ====
section
/-! DEFINITION. The supply link (R374 to R376): frames, requests and their CRC-8, the RAIL_SET requests for two-wire and key supplies and for
the rails that follow the domains. -/

namespace Sys2Proof.Machine

/-- One bit of the CRC-8 with polynomial 0x07 (R374). -/
def crc8Bit (c : Nat) : Nat := if 128 ≤ c then (c * 2 % 256) ^^^ 7 else c * 2
/-- One byte of it. -/
def crc8Byte (c : Nat) (b : Byte) : Nat := (List.range 8).foldl (fun c _ => crc8Bit c) (c ^^^ b.toNat)
/-- CRC-8, initial value 0x00. -/
def crc8 (l : List Byte) : Byte := BitVec.ofNat 8 (l.foldl crc8Byte 0)

/-- The CRC-8 of a frame's bits [31:8], most significant first. -/
def frameCrc (w : Nat) : Nat := (crc8 [BitVec.ofNat 8 (w / 16777216), BitVec.ofNat 8 (w / 65536), BitVec.ofNat 8 (w / 256)]).toNat

/-- A request frame (R374). -/
def linkFrame (op seq target arg : Nat) : Word :=
  let w := op % 16 * 268435456 + seq % 16 * 16777216 + target % 256 * 65536 + arg % 256 * 256
  w32 (w + frameCrc w)

/-- Operations (R375). -/
abbrev opPoll : Nat := 0
abbrev opRailSet : Nat := 1
abbrev opRailRead : Nat := 2
abbrev opStatus : Nat := 3

/-- A request is sent with the next SEQ, or waits behind one that is not yet acknowledged. -/
def LinkSt.push (l : LinkSt) (lt op target arg : Nat) : LinkSt × List Emission :=
  match l.req with
  | none => ({ l with seq := (l.seq + 1) % 16, req := some ⟨op, target, arg, l.seq, lt, 0⟩, lastAt := lt }, [.supply (linkFrame op l.seq target arg)])
  | some _ => ({ l with queue := l.queue ++ [(op, target, arg)] }, [])

/-- A request is sent, or waits. -/
def State.linkSend (s : State) (op target arg : Nat) : State :=
  let x := s.link.push s.logLt op target arg
  { s with link := x.1, out := s.out ++ x.2 }

/-- The next waiting request is sent. -/
def State.linkNext (s : State) : State :=
  match s.link.queue with
  | [] => s
  | (op, target, arg) :: t => { s with link := { s.link with queue := t } }.linkSend op target arg

/-! ## Rails that follow the domains (R375) -/

/-- Rail `r` is on once the requests that wait have been done. -/
def LinkSt.railOn (l : LinkSt) (r : Nat) : Bool :=
  match l.queue.reverse.find? (fun x => x.1 == opRailSet && x.2.1 == r) with
  | some x => x.2.2 != 0
  | none =>
    match l.req with
    | some q => if q.op == opRailSet && q.target == r then q.arg != 0 else l.rails.contains r
    | none => l.rails.contains r

/-- A domain that uses rail `r` is not off. -/
def State.railNeeded (s : State) (r : Nat) : Bool := (List.range 20).any (fun n => Config.railUses r n && s.dom n != domOff)

/-- The link after domain `n` has gone from one state to another (R375): VSER, VANA and VEXC come on for the first domain that uses them and
go off behind the last; bring-up switches its rails itself. -/
def State.railsFor (s : State) (n old st : Nat) : LinkSt × List Emission :=
  [3, 4, 5].foldl (fun a r =>
    let on := old == domOff && st != domOff && !a.1.railOn r
    let off := old != domOff && st == domOff && !s.booting && a.1.railOn r && !s.railNeeded r
    if Config.railUses r n && (on || off) then
      let x := a.1.push s.logLt opRailSet r on.toNat
      (x.1, a.2 ++ x.2)
    else a) (s.link, [])

/-- The state with domain `n` set, and the rails that follow it. -/
def State.setDom (s : State) (n st : Nat) : State :=
  let t := s.put (domFld n) st
  let x := t.railsFor n (s.dom n) st
  { t with link := x.1, out := t.out ++ x.2 }

/-- TWp_SUP switched (R375): 1 is 3.3 V and 2 is 5 V. -/
def State.twRail (s : State) (p : Nat) (on : Bool) : State :=
  s.linkSend opRailSet (8 + p) (if on then 1 + s.get (F.TW_CFG_SUP_V p) else 0)

/-- KEY_VCC switched (R375). -/
def State.keyVcc (s : State) (on : Bool) : State :=
  if s.key.vcc = on then s else { s with key := { s.key with vcc := on } }.linkSend opRailSet 16 on.toNat

/-- A time of the AON controller has passed since `at_`; before line time runs no time can be told, and it counts as passed. -/
def State.due (s : State) (at_ d : Nat) : Bool := (!s.time && s.ticks.isNone) || decide (at_ + d ≤ s.logLt)

end Sys2Proof.Machine
end

