-- ==== Sys2Proof/Machine/Ladles.lean ====
section
/-! DEFINITION. Ladles (R307 to R310): destinations, the pending GAP of a destination that is no queue, and a record's delivery. -/

namespace Sys2Proof.Machine

/-! ## Bytes stored into poisoned lines (R285) -/

/-- Lines of the memories: key m × 2^20 + line. -/
def State.lineErr (s : State) (k : Nat) : LineErr := tabGet (fun _ => LineErr.clean) s.lines k
/-- The state with a line's errors set. -/
def State.setLineErr (s : State) (k : Nat) (e : LineErr) : State := { s with lines := tabSet (fun _ => LineErr.clean) k e s.lines }

/-- The line of hub memory that holds address `a`. -/
def hubLine (a : Nat) : Nat := 16 * 0x100000 + (a - 0x10000000) / 64

/-- The word of hub memory at `a` is poisoned. -/
def State.poisonAt (s : State) (a : Nat) : Bool :=
  decide (0x10000000 ≤ a) && decide (a < 0x11000000) && (s.lineErr (hubLine a)).poison.testBit (a / 8 % 8)

/-- A word of `n` bytes from `a` on is poisoned. -/
def State.poisoned (s : State) (a n : Nat) : Bool := (List.range ((n + 7 + a % 8) / 8)).any (fun i => s.poisonAt (a / 8 * 8 + 8 * i))

/-- A store has written the word at `a`: it is poisoned no longer, and a line whose last such word it was is clean (R285). -/
def State.unpoison (s : State) (a : Nat) : State :=
  if s.poisonAt a then
    let k := hubLine a
    let e := s.lineErr k
    let p := e.poison - 2 ^ (a / 8 % 8)
    let s := s.setLineErr k { e with poison := if p % 256 = 0 then 0 else p }
    s.putB (F.MEMM_STAT_POISONED 16) (s.lines.any (fun l => l.2.poison != 0))
  else s

/-- Bytes stored into memory from `a` on, with what that does to poisoned words. -/
def State.store (s : State) (a : Nat) (l : List Byte) : State :=
  (List.range ((l.length + 7 + a % 8) / 8)).foldl (fun s i => s.unpoison (a / 8 * 8 + 8 * i)) (s.setBytes a l)

/-- Module events 48 to 55 set their bit of MEM_EVT too (R286, R314). -/
def State.raiseMem (s : State) (n : Nat) : State := (s.setBit F.MEM_EVT_SEEN (n - 48)).raise n

/-! ## Destinations -/

/-- Codes of the destinations of a ladle that are no queue (R308): ring of descriptor d, Herd address a, Herd broadcast, host areas. -/
abbrev dRing (ring : Nat) : Nat := ring
abbrev dHerd (a : Nat) : Nat := 8 + a
abbrev dBcast : Nat := 40
abbrev dCtrl : Nat := 48
abbrev dRaw : Nat := 49

/-- SOURCE of ladle `l`'s GAP stream (R288). -/
def State.ladleGapSource (s : State) (l : Nat) : Word := if l < 32 then s.source (l / 4) (0x34 + l % 4) else s.source 7 (0xE8 + (l - 32))

/-- Where WR of a ring of `size` bytes stands after records of these lengths (R309): none where one would reach RD. The second part
lists where each record begins. -/
def ringPlace (rd size : Nat) : Nat → List Nat → Option (Nat × List Nat)
  | wr, [] => some (wr, [])
  | wr, n :: t =>
    let used := (wr + size - rd) % size
    let begin_ := if wr + n > size then 0 else wr
    let need := (if wr + n > size then size - wr else 0) + n
    if used + need < size then
      match ringPlace rd size ((begin_ + n) % size) t with
      | some (w, l) => some (w, begin_ :: l)
      | none => none
    else none

/-- One record written into a ring: padding where it does not fit before the end, then its bytes (R309). -/
def State.ringWrite (s : State) (l d begin_ : Nat) (r : Rec) : State :=
  let base := s.get (F.LAD_D_RING_BASE_BASE l d)
  let wr := s.get (F.LAD_D_RING_WR_WR l d)
  let s := if begin_ = wr then s else s.store (ladMem l (base + wr)) (leBytes 4 0)
  let s := s.store (ladMem l (base + begin_)) r.bytes
  s.put (F.LAD_D_RING_WR_WR l d) ((begin_ + r.length) % max (s.get (F.LAD_D_RING_SIZE_SIZE l d)) 1)

/-- Unread bytes of a ring. -/
def State.ringUnread (s : State) (l d : Nat) : Nat :=
  let n := max (s.get (F.LAD_D_RING_SIZE_SIZE l d)) 1
  (s.get (F.LAD_D_RING_WR_WR l d) + n - s.get (F.LAD_D_RING_RD_RD l d)) % n

/-- Records put into descriptor `d`'s destination ring, with the RING_EVT event (R309); none where they do not all fit. -/
def State.ringPut (s : State) (l d : Nat) (rs : List Rec) : Option State :=
  let size := s.get (F.LAD_D_RING_SIZE_SIZE l d)
  match ringPlace (s.get (F.LAD_D_RING_RD_RD l d)) size (s.get (F.LAD_D_RING_WR_WR l d)) (rs.map Rec.length) with
  | none => none
  | some (_, places) =>
    let before := s.ringUnread l d
    let s := (rs.zip places).foldl (fun s p => s.ringWrite l d p.2 p.1) s
    let thr := s.get (F.LAD_D_TARGET_RING_EVT l d) * 256
    some (if thr ≠ 0 ∧ before < thr ∧ thr ≤ s.ringUnread l d then (s.put (F.LAD_EVT_RING_SEEN l) 1).ladleEvent l d else s)

/-- Records put into a destination that is no queue, through descriptor `d`; none where they do not all fit (R308). -/
def State.destPut (s : State) (l _d code : Nat) (rs : List Rec) : Option State :=
  if code < 8 then s.ringPut l code rs
  else if code < 48 then
    if s.originates && !s.isSet F.HERD_STAT_ADDR_CONFLICT then
      some (rs.foldl (fun s r => s.herdSend (if code = dBcast then s.line else code - 8) (code == dBcast) (.record r r.crc)) s)
    else none
  else
    let raw := code == dRaw
    if s.areaFits raw rs then some (rs.foldl (fun s r => s.areaEnter raw r) s) else none

/-- The ladle's pending GAP for a destination. -/
def State.ladPend (s : State) (l code : Nat) : Option PendGap := ((s.ladle l).pend.find? (fun p => p.1 == code)).map (fun p => p.2)

/-- The pending GAP set or taken away. -/
def State.setLadPend (s : State) (l code : Nat) (p : Option PendGap) : State :=
  let x := s.ladle l
  s.setLadle l { x with pend := match p with
    | some p => tabInsert code p (tabDrop code x.pend)
    | none => tabDrop code x.pend }

/-- The GAP records of a pending GAP in the ladle's GAP stream, taking their SEQ (R289, R308). -/
def State.ladGaps (s : State) (l : Nat) (es : List GapEntry) : State × List Rec :=
  let src := s.ladleGapSource l
  (gapPieces (es.length + 1) es).foldl (fun (a : State × List Rec) es =>
    let r := a.1.gapRec src causeDest 0xFF es
    (a.1.takeSeq r.key, a.2 ++ [a.1.carried r])) (s, [])

/-- A place of a stream noted for its MARKs (R296). -/
def State.noteRoute (s : State) (key dest : Nat) : State :=
  let x := tabGet (fun _ => ⟨[], 0⟩) s.routes key
  if x.dests.contains dest then s else { s with routes := tabSet (fun _ => ⟨[], 0⟩) key { x with dests := x.dests ++ [dest] } s.routes }

/-- The destination code of a ladle as a place: queues are below 64. -/
def ladDest (l code : Nat) : Nat := 64 + 64 * l + code

/-- A record of descriptor `d` dropped at a destination (R308): into the ladle's pending GAP for it; DROP_SEEN and the ladle's event once per
episode (R269, R298). -/
def State.ladDrop (s : State) (l d code : Nat) (r : Rec) : State :=
  let p := s.ladPend l code
  let s := s.setLadPend l code (some ((p.getD PendGap.empty).add r))
  if r.isGapMark then s
  else
    let s := s.incSat (F.LAD_CNT1_DROPPED l)
    let s := if code ≥ 48 then s.setHost { s.host with drops := s.host.drops + 1 } else s
    if p.isNone then (s.put (F.LAD_EVT_DROP_SEEN l) 1).ladleEvent l d else s

/-- The pending GAP and its MARKs, with records behind them, put into the destination; none where they do not all fit. -/
def State.ladFlush (s : State) (l d code : Nat) (rs : List Rec) : Option State :=
  match s.ladPend l code with
  | none => if rs.isEmpty then none else s.destPut l d code rs
  | some p =>
    let (s', gs) := (s.setLadPend l code none).ladGaps l p.entries
    let s' := if gs.isEmpty then s' else s'.noteRoute (streamKey (s.ladleGapSource l) tyGap) (ladDest l code)
    s'.destPut l d code (gs ++ p.marks ++ rs)

/-- A record delivered to a destination that is no queue (R308), behind what is pending for it. -/
def State.ladPut (s : State) (l d code : Nat) (r : Rec) : State :=
  match s.ladFlush l d code [s.carried r] with
  | some s' => s'
  | none => s.ladDrop l d code r

/-! ## The host link as a destination (R352, R359) -/

/-- Parked records that may enter, oldest first, enter the CTRL area. -/
def State.parksEnter (s : State) : Nat → State
  | 0 => s
  | n + 1 =>
    match s.host.parks.find? (fun p => (p.record.ty != tyVerdict || s.verdictPasses p.record)
            && (s.host.parks.find? (fun q => q.record.origin == p.record.origin)) == some p) with
    | none => s
    | some p =>
      let s := s.setHost { s.host with parks := s.host.parks.erase p }
      State.parksEnter (s.ladPut p.ladle p.desc dCtrl p.record) n

/-- A park ends without the awaited record (R359). -/
def State.parkExpire (s : State) (p : Parked) : State :=
  let s := s.setHost { s.host with parks := s.host.parks.erase p }
  let s := ((s.incSat F.HOST_CNT2_PARK_EXPIRED).put F.HOST_EVT_DROP_SEEN 1).raise 20
  let s := s.ladPut p.ladle p.desc dCtrl p.record
  (s.parksEnter s.host.parks.length).showParked

/-- A record delivered to the host link by descriptor `d` of hub ladle `l` (R352, R359). A record that waits behind a parked VERDICT closes the
open CTRL batch (R353). -/
def State.hostDeliver (s : State) (l d : Nat) (r : Rec) : State :=
  if s.lateCycle r then
    let s := s.ladDrop l d dCtrl r
    ((s.incSat F.HOST_CNT2_LATE_CYCLE_DROPS).put F.HOST_EVT_DROP_SEEN 1).raise 20
  else if s.mustPark r then
    let s := match s.host.verdicts with
      | p :: _ => if r.ty = tyVerdict ∧ s.host.verdicts.length ≥ 64 then s.parkExpire p else s
      | [] => s
    let s := if s.host.parks.any (fun p => p.record.origin == r.origin && decide (p.record.lt < r.lt)) then s.batchClose false else s
    let s := s.setHost { s.host with parks := s.host.parks ++ [⟨r, s.lt, l, d⟩] }
    (s.parksEnter s.host.parks.length).showParked
  else
    let s := r.areas.foldl (fun s raw => s.ladPut l d (if raw then dRaw else dCtrl) r) s
    (s.parksEnter s.host.parks.length).showParked

/-! ## A descriptor's destination -/

/-- A record delivered to descriptor `d`'s destination (R307, R308). -/
def State.descDeliver (s : State) (l d : Nat) (r : Rec) : State :=
  match s.get (F.LAD_D_CTL_DST l d) with
  | 0 => s.qOffer (s.get (F.LAD_D_CTL_DST_Q l d)) r
  | 1 => s.ladPut l d (dRing d) r
  | 2 => s.ladPut l d (if s.isSet (F.LAD_D_TARGET_BCAST l d) then dBcast else dHerd (s.get (F.LAD_D_TARGET_DEST l d))) r
  | _ => s.hostDeliver l d r

/-- Descriptor `d` carries record `r` (R307): TYPES; for SAMPLES also CH_MASK, which hub ladles ignore, or BURST_SAMPLES with BURST or
with the ABORTED form, which has no payload to show it. -/
def State.descCarries (s : State) (l d : Nat) (r : Rec) : Bool :=
  r.isGapMark ||
    (r.typeOk && (s.get (F.LAD_D_FILTER_TYPES l d)).testBit (r.ty - 1) &&
      (r.ty != tySamples || l ≥ 32 || (s.get (F.LAD_D_FILTER_CH_MASK l d)).testBit (srcStream r.source % 16)
        || (s.isSet (F.LAD_D_FILTER_BURST_SAMPLES l d) && (decide (leAt r.payload 1 1 ≥ 128) || r.flags.getLsbD flAborted))))

end Sys2Proof.Machine
end

