-- ==== Sys2Proof/Machine/Marks.lean ====
section
/-! DEFINITION. MARK records (R296): the places of the module's own streams and the GENERATION, STOP and RESUME MARKs written into them. -/

namespace Sys2Proof.Machine

/-- The tile queues that take the anchors of subscription slot `n` (R183): TQ t.3 of each tile with an enabled group on that source. -/
def State.anchorQueues (s : State) (n : Nat) : List Nat :=
  ((List.range 8).filter (fun t => (List.range 4).any (fun g =>
    s.isSet (F.CHURN_GRP_CFG_EN t g) && s.get (F.CHURN_GRP_CFG_SRC t g) == 4 + n))).map (fun t => 6 * t + 3)

/-- The places of the stream with this key: queues by number, a ladle's destinations by `ladDest`, the host store's own GAP stream by
`64 + 64 × 40`. -/
def State.placesOf (s : State) (key : Nat) : List Nat :=
  let ty := key % 256
  let st := key / 256 % 256
  let t := key / 65536 % 8
  let noted := (tabGet (fun _ => ⟨[], 0⟩) s.routes key).dests
  if st < 0x10 then [6 * t]
  else if st < 0x20 then [6 * t + 1]
  else if st < 0x24 then [6 * t + 2]
  else if st < 0x34 then [6 * t + 4]
  else if st < 0x38 then noted
  else if st < 0x3E then [6 * t + (st - 0x38)]
  else if st = 0x60 ∧ ty = tyEvent then [48 + s.get F.ACT_CFG_EVQ]
  else if st < 0x64 then s.capQueues (st - 0x40)
  else if st < 0x74 then s.capQueues (36 + (st - 0x70))
  else if st < 0x78 then s.anchorQueues (st - 0x74)
  else if st = 0x80 then [48 + s.get F.LOG_CFG_HUBQ]
  else if st ≥ 0xF0 then [48 + (st - 0xF0)]
  else noted

/-- A stream belongs to tile `t`: its tile field is t and its number is below 0x40 (R288). -/
def keyOfTile (t key : Nat) : Bool := key / 256 % 256 < 0x40 && key / 65536 % 8 == t

/-- The own streams that have carried a record in this generation: those that have taken a SEQ (R289). -/
def State.usedStreams (s : State) : List Nat := s.seqs.map (fun q => q.1)

/-- A MARK of a stream, with the SEQ it takes (R289, R296). -/
def State.markRec (s : State) (key kind nextGen : Nat) : Rec :=
  { ty := tyMark, flags := s.stampFlags s.lt, source := w32 (key / 256 * 65536 + s.genOf (key / 65536 % 8) (key / 256 % 256)), seq := w32 (s.nextSeq key), lt := s.lt, cycle := 0#32,
    payload := markPayload kind nextGen }

/-- A record that the hub writes into the destinations of the ladles that read TQ `q` (R412). -/
def State.viaHub (s : State) (q : Nat) (r : Rec) : State :=
  (ladlesFor q).foldl (fun s l => [0, 1, 2, 3].foldl (fun s d => if s.descReads q l d then s.descDeliver l d r else s) s) s

/-- A record offered at one place of a stream. A tile queue whose domain is off takes nothing: the hub writes into its ladles'
destinations instead (R412). A MARK of the store's own GAP stream that an area has no room for waits with hub ladle 0's GAP for the area (R297, R308; DESIGN
CHOICE, assumption 160). -/
def State.placePut (s : State) (r : Rec) (place : Nat) : State :=
  if place < 48 && s.dom (domTile (place / 6)) == domOff then s.viaHub place r
  else if place < 64 then s.qOffer place r
  else
    let l := (place - 64) / 64
    let code := (place - 64) % 64
    if l < 40 then s.ladPut l 0 code r
    else [dCtrl, dRaw].foldl (fun s code => s.ladPut 32 0 code r) s

/-- A MARK written into a stream at every place of it (R296). -/
def State.mark (s : State) (kind nextGen : Nat) (key : Nat) : State :=
  let r := s.markRec key kind nextGen
  (s.placesOf key).foldl (fun s p => s.placePut r p) (s.takeSeq key)

/-- MARKs of one kind in several streams. -/
def State.markAll (s : State) (kind nextGen : Nat) (keys : List Nat) : State := keys.foldl (fun s k => s.mark kind nextGen k) s

/-- STOP MARKs in streams that carried a record and have none yet (R415, R430). -/
def State.markStops (s : State) (keys : List Nat) : State :=
  let l := keys.filter (fun k => !s.stopped.contains k)
  let s := s.markAll markStop 0 l
  { s with stopped := s.stopped ++ l }

/-- RESUME MARKs in tile `t`'s streams that took a STOP MARK (R415). -/
def State.markResumes (s : State) (t : Nat) : State :=
  let l := s.stopped.filter (keyOfTile t)
  let s := s.markAll markResume 0 l
  { s with stopped := s.stopped.filter (fun k => !keyOfTile t k) }

/-- The next recipe generation (R326). -/
def nextGen (g : Nat) : Nat := if g = 0 ∨ g ≥ 65535 then 1 else g + 1

/-- GENERATION MARKs in streams that carried a record in the old generation (R408, R411, R412). -/
def State.markGen (s : State) (next : Nat) (keys : List Nat) : State := s.markAll markGeneration next keys

/-- The streams start again at SEQ 0, with no places noted and no STOP outstanding (R289). -/
def State.freshStreams (s : State) (keys : List Nat) : State :=
  { s with seqs := s.seqs.filter (fun q => !keys.contains q.1), routes := s.routes.filter (fun q => !keys.contains q.1)
           stopped := s.stopped.filter (fun k => !keys.contains k) }

end Sys2Proof.Machine
end

