-- ==== Sys2Proof/Machine/Timers.lean ====
section
/-! DEFINITION. Tile timers (R223 to R228): counting, starts and stops, the period's shadow, the compare, and the routes. -/

namespace Sys2Proof.Machine

/-- Timers 4t + n. -/
def State.timer (s : State) (t n : Nat) : Timer := tabGet (fun _ => Timer.reset) s.timers (4 * t + n)
/-- The state with timer n of tile t set. -/
def State.setTimer (s : State) (t n : Nat) (x : Timer) : State := { s with timers := tabSet (fun _ => Timer.reset) (4 * t + n) x s.timers }

/-- P of a timer: the period in effect, 0 meaning 2^32 (R223). -/
def Timer.period (x : Timer) : Nat := if x.per = 0 then 0x100000000 else x.per

/-- The old and new count of one advance of `step` pass CMP (R226): CMP lies in (old, new], across a period end. -/
def cmpPassed (p old step cmp : Nat) : Bool :=
  decide (cmp < p) && ((decide (old < cmp) && decide (cmp ≤ old + step)) || decide (cmp + p ≤ old + step))

/-- CMP_UNREACH follows CMP and the period in effect (R226). -/
def State.unreach (s : State) (t n : Nat) : State :=
  s.putB (F.TT_STAT_CMP_UNREACH t n) (decide ((s.timer t n).period ≤ s.get (F.TT_CMP_CMP t n)))

/-- The count reaches the period end: the shadow period takes effect (R225). -/
def State.newPeriod (s : State) (t n : Nat) : State :=
  (s.setTimer t n { s.timer t n with per := s.get (F.TT_PER_PER t n), endDue := true }).unreach t n

/-- One count advance of timer n (R223, R225, R226): routed starts and stops first, then a truncation or the count. -/
def State.timerTick (s : State) (t n step : Nat) : State :=
  let x := s.timer t n
  let s := if x.startNext then s.put (F.TT_STAT_RUNNING t n) 1 else s
  let s := if x.stopNext then s.put (F.TT_STAT_RUNNING t n) 0 else s
  let x := { x with startNext := false, stopNext := false }
  let cmp := s.get (F.TT_CMP_CMP t n)
  if x.trunc && s.isSet (F.TT_STAT_RUNNING t n) then
    let s := s.setTimer t n { x with trunc := false, matchDue := x.matchDue || cmp == 0 }
    let s := ((s.newPeriod t n).put (F.TT_CNT_COUNT t n) 0).put (F.TT_STAT_PER_TRUNC t n) 1
    if s.isSet (F.TT_CFG_ONE_SHOT t n) then s.put (F.TT_STAT_RUNNING t n) 0 else s
  else if s.isSet (F.TT_STAT_RUNNING t n) then
    let p := x.period
    let old := s.get (F.TT_CNT_COUNT t n)
    if old + step < p then
      (s.setTimer t n { x with matchDue := x.matchDue || cmpPassed p old step cmp }).put (F.TT_CNT_COUNT t n) (old + step)
    else if s.isSet (F.TT_CFG_ONE_SHOT t n) then
      let s := s.setTimer t n { x with matchDue := x.matchDue || cmpPassed p old (p - old) cmp }
      ((s.newPeriod t n).put (F.TT_CNT_COUNT t n) 0).put (F.TT_STAT_RUNNING t n) 0
    else
      let s := s.setTimer t n { x with matchDue := x.matchDue || cmpPassed p old step cmp }
      (s.newPeriod t n).put (F.TT_CNT_COUNT t n) (old + step - p)
  else s.setTimer t n x

/-- A burst on the channels of CH_MASK (R228). -/
def State.burst (s : State) (t n : Nat) : State :=
  ((List.range 16).filter (fun i => s.bit (F.TT_BURST_CH_MASK t n) i)).foldl (fun s i =>
    let k := 16 * t + i
    s.setChan k { s.chan k with burst := some (s.lt, s.get (F.TT_BURST_LEN t n)) }) s

/-- Ladle request `j` of tile t (R227, R310): every triggered descriptor of its ladle j. -/
def State.ladleReqAll (s : State) (l : Nat) : State := [0, 1, 2, 3].foldl (fun s d => s.ladleRequest l d) s

/-- What a match (`hi` false) or a period end (`hi` true) starts (R227): EVT, BURST, LREQ, TSTART and TSTOP of that half of ROUTE. A TSTART
of itself is aimed at a running timer. -/
def State.route (s : State) (t n : Nat) (hi : Bool) : State :=
  let fld (m e : Fld) : Nat := s.get (if hi then e else m)
  let lreq := fld (F.TT_ROUTE_M_LREQ t n) (F.TT_ROUTE_E_LREQ t n)
  let go := fld (F.TT_ROUTE_M_TSTART t n) (F.TT_ROUTE_E_TSTART t n)
  let stop := fld (F.TT_ROUTE_M_TSTOP t n) (F.TT_ROUTE_E_TSTOP t n)
  let evt := fld (F.TT_ROUTE_M_EVT t n) (F.TT_ROUTE_E_EVT t n) != 0
  let bur := fld (F.TT_ROUTE_M_BURST t n) (F.TT_ROUTE_E_BURST t n) != 0
  let s := if evt then
      (s.put (if hi then F.TT_STAT_END_SEEN t n else F.TT_STAT_MATCH_SEEN t n) 1).raiseTile t (1 + n)
    else s
  let s := if bur then s.burst t n else s
  let s := ((List.range 4).filter (fun j => lreq.testBit j)).foldl (fun s j => s.ladleReqAll (4 * t + j)) s
  let s := ((List.range 4).filter (fun m => go.testBit m && m != n)).foldl (fun s m =>
    if s.isSet (F.TT_STAT_RUNNING t m) then s else s.setTimer t m { s.timer t m with startNext := true }) s
  ((List.range 4).filter (fun m => stop.testBit m)).foldl (fun s m =>
    if s.isSet (F.TT_STAT_RUNNING t m) then s.setTimer t m { s.timer t m with stopNext := true } else s) s

/-- A match that has fallen due acts (R226, R227). -/
def State.timerMatch (s : State) (t n : Nat) : State :=
  if (s.timer t n).matchDue then (s.setTimer t n { s.timer t n with matchDue := false }).route t n false else s

/-- A period end that has fallen due acts; a match of the same tick acts first (R226). -/
def State.timerEnd (s : State) (t n : Nat) : State :=
  if (s.timer t n).endDue then
    let s := s.timerMatch t n
    (s.setTimer t n { s.timer t n with endDue := false }).route t n true
  else s

/-! ## Commands (R224 to R226) -/

/-- START: a running timer ignores it. -/
def State.cmdTimerStart (s : State) (t n : Nat) : State := s.put (F.TT_STAT_RUNNING t n) 1
/-- STOP: the count is held. -/
def State.cmdTimerStop (s : State) (t n : Nat) : State := s.put (F.TT_STAT_RUNNING t n) 0
/-- CLEAR: the count becomes 0, below any period. -/
def State.cmdTimerClear (s : State) (t n : Nat) : State :=
  (s.setTimer t n { s.timer t n with trunc := false }).put (F.TT_CNT_COUNT t n) 0

/-- A write to PER (R225): the shadow; with PER_MODE 1 at once, or a truncation on the next tick. -/
def State.cmdTimerPer (s : State) (t n : Nat) (v : Word) : State :=
  let s := s.wr (R.TT_PER t n) v
  if s.isSet (F.TT_CFG_PER_MODE t n) then
    let x := { s.timer t n with per := v.toNat }
    (s.setTimer t n { x with trunc := decide (x.period ≤ s.get (F.TT_CNT_COUNT t n)) }).unreach t n
  else s

/-- A write to CMP (R226). -/
def State.cmdTimerCmp (s : State) (t n : Nat) (v : Word) : State :=
  let s := (s.wr (R.TT_CMP t n) v).unreach t n
  if v.toNat = s.get (F.TT_CNT_COUNT t n) then s.put (F.TT_STAT_CMP_MISSED_NOW t n) 1 else s

/-- The commands a core may give the timers of tile t (R224). -/
def State.ifTimerWriter (s : State) (w t : Nat) (f : State → State) : State := if tileWriter w t then f s else s

/-- The timers at their tile's start (R224, R225): the period in effect is PER; with AUTO_START 1 they run. -/
def State.timersStart (s : State) (t : Nat) : State :=
  [0, 1, 2, 3].foldl (fun s n =>
    let s := (s.setTimer t n { Timer.reset with per := s.get (F.TT_PER_PER t n) }).unreach t n
    if s.isSet (F.TT_CFG_AUTO_START t n) then s.put (F.TT_STAT_RUNNING t n) 1 else s) s

/-- The timers of a tile whose domain runs advance by `step` (R140, R223). -/
def State.tileTick (s : State) (t step : Nat) : State :=
  if s.domIsOn (domTile t) then [0, 1, 2, 3].foldl (fun s n => s.timerTick t n step) s else s

/-- What has fallen due on the timers acts, in the order of tile and timer. -/
def State.timersAct (s : State) : State :=
  (List.range 8).foldl (fun s t => [0, 1, 2, 3].foldl (fun s n => (s.timerMatch t n).timerEnd t n) s) s

/-- A timer event has fallen due and has not acted. -/
def State.timersDue (s : State) : Bool := s.timers.any (fun x => x.2.matchDue || x.2.endDue)

end Sys2Proof.Machine
end

