-- ==== Sys2Proof/Machine/Domains.lean ====
section
/-! DEFINITION. What the domains do on leaving and entering the on state (R138, R153, R222, R365, R369, R371, R373, R383). -/

namespace Sys2Proof.Machine

/-- Registers at the addresses that `p` selects lose everything but their LK fields, which the loader sets again to the same values. -/
def State.clearRegs (s : State) (p : Nat → Bool) : State :=
  { s with regs := s.regs.filterMap (fun c =>
      if p c.1 then
        let m := match regRow c.1 with | some r => BitVec.ofNat 32 r.lk | none => 0#32
        let v := (c.2 &&& m) ||| (regReset c.1 &&& ~~~m)
        if v = regReset c.1 then none else some (c.1, v)
      else some c) }

/-- An address in tile `t`'s window below the offset: cells and channels. -/
def inAfe (t a : Nat) : Bool := decide (0x40000000 + t * 0x100000 ≤ a) && decide (a < 0x40002000 + t * 0x100000)
/-- An address in the rest of tile `t`'s window. -/
def inTile (t a : Nat) : Bool := decide (0x40002000 + t * 0x100000 ≤ a) && decide (a < 0x40100000 + t * 0x100000)
/-- A register of the HUB domain: hub queues and ladles, two-wire ports, the window at 0x7000_0000 but its line-time part. -/
def inHub (a : Nat) : Bool :=
  (decide (0x50000000 ≤ a) && decide (a < 0x50020000)) || (decide (0x50080000 ≤ a) && decide (a < 0x50090000))
    || (decide (0x70000100 ≤ a) && decide (a < 0x70010000))

/-! ## Cores (R248) -/

/-- Core `k` starts from an image loaded at `base`. -/
def State.coreStart (s : State) (k : Nat) (base : Word) : State :=
  s.setCore k { Core.unstarted (k == vat) with vecBase := base, pc := base + 0x80#32, running := true }

/-- Core `k` stops. -/
def State.coreStop (s : State) (k : Nat) : State := s.setCore k { s.core k with running := false }

/-! ## AFEt and TILEt -/

/-- AFEt leaves the on state (R91, R371): its cells stop; off keeps nothing. -/
def State.afeLower (s : State) (t st : Nat) : State :=
  let s := (cellsOf t).foldl State.cellStop s
  let s := if st = domOff then s.clearRegs (inAfe t) else s
  s.setDom (domAfe t) st

/-- AFEt comes on (R91, R383): its cells start as at first configuration. -/
def State.afeRaise (s : State) (t : Nat) : State := (cellsOf t).foldl State.cellConfigure (s.setDom (domAfe t) domOn)

/-- The scrubber of memory `m` stops, to start a new pass later (R284). -/
def State.scrubStop (s : State) (m : Nat) : State :=
  { s.put (F.MEMM_STAT_SCRUBBING m) 0 with scrubs := tabSet (fun _ => ⟨0, 0⟩) m ⟨0, 0⟩ s.scrubs }

/-- The scrubber of memory `m` starts a new pass at once (R284). -/
def State.scrubGo (s : State) (m : Nat) : State :=
  { s.put (F.MEMM_STAT_SCRUBBING m) 1 with scrubs := tabSet (fun _ => ⟨0, 0⟩) m ⟨0, 0⟩ s.scrubs }

/-- A tile's memories, envelope table, queues, ladles, timers, mains tracker and core lose everything with its domain (R371). -/
def State.tileForget (s : State) (t : Nat) : State :=
  let s := (List.range 6).foldl (fun s n => s.setQueue (6 * t + n) Queue.empty) s
  let s := (List.range 4).foldl (fun s j => s.setLadle (4 * t + j) Ladle.idle) s
  let s := (List.range 4).foldl (fun s n => s.setTimer t n Timer.reset) s
  let s := s.memCut (fun a => decide (a < tileMem t) || decide (tileMem t + 0x80000 ≤ a))
  let s := { s with lines := s.lines.filter (fun l => l.1 / 0x100000 != t && l.1 / 0x100000 != 8 + t),
                    env := s.env.filter (fun c => c.1 / 3072 != t), mainsRun := tabSet (fun _ => []) t [] s.mainsRun }
  (s.setCore t (Core.unstarted false)).clearRegs (inTile t)

/-- TILEt's power goes: its entry instant (R138), and its memories' scrub passes stop (R284). -/
def State.tileDown (s : State) (t st : Nat) : State :=
  (((s.putPair (R.LT_TILE_RET_IN_LO t) s.logLt).scrubStop t).scrubStop (8 + t)).setDom (domTile t) st

/-- TILEt leaves the on state (R138, R209, R284, R371). -/
def State.tileLower (s : State) (t st : Nat) : State :=
  let s := if st = domOff then s.churnStop t else s.churnPause t
  let s := if st = domOff then s.tileForget t else s
  s.tileDown t st

/-- TILEt is powered again: its exit instant (R138), and its memories' scrub passes start anew (R284). -/
def State.tilePowered (s : State) (t : Nat) : State :=
  (((s.setDom (domTile t) domOn).putPair (R.LT_TILE_RET_OUT_LO t) s.logLt).scrubGo t).scrubGo (8 + t)

/-- TILEt is powered if it was not. -/
def State.tileUp (s : State) (t : Nat) : State := if s.domIsOn (domTile t) then s else s.tilePowered t

/-- TILEt comes on from retention (R138, R209, R248): FROZEN, the engine goes on, the core as it was. -/
def State.tileWake (s : State) (t : Nat) : State :=
  let s := s.tilePowered t
  let s := [0, 1, 2, 3].foldl (fun s n => s.put (F.TT_STAT_FROZEN t n) 1) s
  s.churnResume t

/-- A tile's domains forced off (R392): AFEt, then TILEt. -/
def State.tileForceOff (s : State) (t : Nat) : State :=
  let s := if s.dom (domAfe t) = domOff then s else s.afeLower t domOff
  if s.dom (domTile t) = domOff then s else s.tileLower t domOff

/-! ## HOST and KEY -/

/-- A register of the host link (R368). -/
def inHost (a : Nat) : Bool := decide (0x50040000 ≤ a) && decide (a < 0x50050000)

/-- What the host registers show of the store, of AON and of the commissioning fields, none of which HOST holds (R350, R352, R353, R363, R369). -/
def hostKept : List Fld :=
  [F.HOST_STAT_ADDR_OK, F.HOST_STAT_WAKING, F.HOST_STAT_WAKE_PIN, F.HOST_STAT_PARKED, F.HOST_STAT_OUTSTANDING, F.HOST_CTRL_FILL, F.HOST_RAW_FILL]
  ++ [R.HOST_BOOT_ID, R.HOST_NEXT_BSEQ, R.HOST_CUM_BSEQ, R.HOST_IP, R.HOST_MASK, R.HOST_GW, R.HOST_CNT3].map (fun a => ⟨a, 0, 32⟩)

/-- HOST off keeps nothing (R371): link, session and addresses learnt are gone; the store, the session numbers used and the wake attempts are not HOST's
(DESIGN CHOICE, assumption 126). -/
def State.hostForget (s : State) : State :=
  let s := (s.setSession ssNone).setSpeed 0
  let s := hostKept.foldl (fun x f => x.put f (s.get f)) (s.clearRegs inHost)
  s.setHost { s.host with rawWanted := false, lastRx := 0, answers := [], reqAt := [], echoAt := [], arp := [], claimAt := 0, defendAt := none, act := none,
                          speedWas := 0 }

/-- HOST leaves the on state (R365, R371, R373): CLOSE with REASON 2 for an OPEN session; off drops the link. -/
def State.hostLower (s : State) (st : Nat) : State :=
  let s := if s.get F.HOST_STAT_SESSION = ssOpen then s.moduleClose 2 else s
  let s := s.setDom domHost st
  if st = domOff then s.hostForget else s

/-- HOST comes on: from off, auto-negotiation follows (R342, R383). -/
def State.hostRaise (s : State) : State := s.setDom domHost domOn

/-- KEY goes off (R369, R371, R373): KEY_VCC and its pull-ups off; the port's hang, cycle, line levels and counts are gone. The load's registers describe the
store and the generation, which HUB and AON hold (DESIGN CHOICE, assumption 126). -/
def State.keyLower (s : State) : State :=
  let s := (s.setDom domKey domOff).keyVcc false
  let st := s.get F.KEY_STAT_STATE
  let s := if st = 5 ∨ st = 6 then
      s.put F.KEY_STAT_STATE (if s.isSet F.MOD_STATUS_RECIPE then (if s.key.staged.isSome then 4 else 0) else 7)
    else s
  let s := [F.KEY_STAT_ATTEMPTS, F.KEY_STAT_SCL, F.KEY_STAT_SDA, F.KEY_CNT_HANGS, F.KEY_CNT_CYCLES, F.KEY_EVT_HUNG_SEEN, F.KEY_EVT_RETRY_SEEN].foldl
    (fun s f => s.put f 0) s
  { s with key := { s.key with cycle := none, hung := false } }

/-- KEY comes on with KEY_VCC (R383). -/
def State.keyRaise (s : State) : State := (s.setDom domKey domOn).keyVcc true

/-! ## HERD (R153, R174, R182) -/

/-- The reference changes source (R125): 0 resonator, 1 port A, 2 port B. -/
def State.refTo (s : State) (r : Nat) : State :=
  if s.get F.LT_CLK_STAT_REF_SRC = r then s else (s.put F.LT_CLK_STAT_REF_SRC r).put F.LT_EVT_REF_SWITCH_SEEN 1

/-- A port wraps, if it is not wrapped yet (R144, R156): event 10. -/
def State.portWrapOn (s : State) (portB : Bool) : State :=
  if s.wrapped portB then s
  else ((((s.put (portWrap portB) 1).put (statWrap portB) 1).incSat F.HERD_CNT3_WRAPS).put F.HERD_EVT_WRAP_SEEN 1).raise 10

/-- A port joins the ring (R156): event 10. -/
def State.portJoin (s : State) (portB : Bool) : State :=
  if s.wrapped portB then (((s.put (portWrap portB) 0).put (statWrap portB) 0).put F.HERD_EVT_WRAP_SEEN 1).raise 10 else s

/-- A frame of the ring: PULSE and CAL are link-local (R144). -/
def Frame.onRing (f : Frame) : Bool :=
  match f.body with
  | .pulse _ => false
  | .cal _ => false
  | _ => true

/-- A port changes state (R153, R181): event 8 or 9; leaving UP it wraps, forgets its calibration, the frames queued for it leave on the other port, and the
break is logged (R174). -/
def State.portTo (s : State) (portB : Bool) (st : Nat) : State :=
  let old := s.get (portState portB)
  if old = st then s
  else
    let ev := 8 + portB.toNat
    let s := ((s.put (portState portB) st).put (if portB then F.HERD_EVT_PORTB_SEEN else F.HERD_EVT_PORTA_SEEN) 1).raise ev
    let held := if st = pOff then [] else (s.port portB).tx.waiting.filter (fun f => f.frame.onRing)
    let s := if st = pUp ∨ st = pCalibrating then s else s.put (F.HERD_PORT_PEER_VALID portB.toNat) 0
    let s := if st = pCalibrating ∨ st = pUp then s else s.setPort portB PortSt.start
    if old = pUp then
      let s := s.portWrapOn portB
      let s := held.foldl (fun s f => s.sendOn portB f.frame f.how f.from_) s
      s.logWrite kHerdLink ev (w32 (portB.toNat + 2 * st + 16)) (w32 (s.get (F.HERD_PORT_PEER_ADDR portB.toNat))) 0#32
    else s

/-- A register of the ports and framing (R182): the lanes' registers belong to the action table, in HUB. -/
def inHerd (a : Nat) : Bool := decide (0x50030000 ≤ a) && decide (a < 0x50030200)

/-- HERD off keeps nothing (R371), but for what other rules keep longer: an address conflict until the next power-up (R161), a SLOT_CONFLICT until the next load
(R163), the counts and waiting requests (R173). -/
def State.herdForget (s : State) : State :=
  let conflict := s.isSet F.HERD_STAT_ADDR_CONFLICT
  let slots := (List.range 4).filter (fun e => s.isSet (F.HERD_PUB_SLOT_CONFLICT e))
  let s : State := { s.clearRegs inHerd with herd := s.herd.off }
  slots.foldl (fun s e => s.put (F.HERD_PUB_SLOT_CONFLICT e) 1) (s.putB F.HERD_STAT_ADDR_CONFLICT conflict)

/-- The subscriptions' sources go with HERD (R164). -/
def State.subsGone (s : State) : State :=
  State.watchNote <| (List.range 4).foldl (fun s n =>
    if s.isSet (F.HERD_SUB_CFG_AVAILABLE n) then (s.put (F.HERD_SUB_CFG_AVAILABLE n) 0).sourceGone (4 + n) else s) s

/-- HERD leaves the on state (R147, R371): this module is no beacon source; in retention the ports go on, counting port time; off, they are silent and nothing
is kept. -/
def State.herdLower (s : State) (st : Nat) : State :=
  let s := if s.isSet F.HERD_STAT_BEACONING then
      (((s.put F.HERD_STAT_BEACONING 0).put F.LT_STAT_LEADING 0).put F.HERD_EVT_BEACON_SEEN 1).raise 12
    else s
  let s : State := { s with herd := { s.herd with portLt := if s.dom domHerd = domRet then s.herd.portLt else s.lt } }
  let s := s.setDom domHerd st
  if st = domOff then (((s.portTo false pOff).portTo true pOff).subsGone).herdForget else s

/-- HERD comes on (R128, R153, R383): from off, the ports train, and a leader or deputy listens again. -/
def State.herdRaise (s : State) : State :=
  let off := s.dom domHerd == domOff
  let s := s.setDom domHerd domOn
  if off then
    let s : State := if s.role = 1 ∨ s.role = 2 then { s with herd := { s.herd with listenFrom := some s.lt } } else s
    (s.portTo false pTraining).portTo true pTraining
  else s

/-! ## HUB (R222, R371, R373) -/

/-- A two-wire port forced off (R332, R336): a list in progress ends with OFF and event 59, lines and supply released; how many bytes of its running transfer
had passed is open (assumption 162). -/
def State.twOff (s : State) (p : Nat) : State :=
  let cur := s.get (F.TW_STAT_CUR p)
  let s := if s.get (F.TW_STAT_STATE p) = 2 then
      let s := (s.put (F.TW_XFER_RES_BYTES p cur) s.free.toNat).freeNext
      (((List.range (s.get (F.TW_CTL_LAST p) + 1)).foldl (fun s x => if x < cur then s else s.put (F.TW_XFER_RES_RESULT p x) 10) s).put
        (F.TW_EVT_DONE_SEEN p) 1).raise 59
    else s
  let s := if (tabGet (fun _ => TwSt.off) s.tws p).supply then s.twRail p false else s
  { s.put (F.TW_STAT_STATE p) 0 with tws := tabSet (fun _ => TwSt.off) p TwSt.off s.tws }

/-- Hub memory and the hub table RAM lose everything but the image store, which keeps its errors too (R371, R390). -/
def State.hubMemForget (s : State) : State :=
  let base := s.get F.KEY_STORE_BASE
  let kept (a : Nat) : Bool := decide (base ≤ a) && decide (a < base + 0x100000)
  let s := s.memCut (fun a => decide (a < 0x10000000) || decide (0x11000000 ≤ a) || kept a)
  let s := { s with lines := s.lines.filter (fun l => l.1 / 0x100000 != 18
                      && (l.1 / 0x100000 != 16 || kept (0x10000000 + 64 * (l.1 % 0x100000)))) }
  s.putB (F.MEMM_STAT_POISONED 16) (s.lines.any (fun l => l.2.poison != 0))

/-- Everything in the HUB domain that off does not keep, but for the image store (R390). -/
def State.hubForget (s : State) : State :=
  let s := (List.range 16).foldl (fun s n => s.setQueue (48 + n) Queue.empty) s
  let s := (List.range 8).foldl (fun s j => s.setLadle (32 + j) Ladle.idle) s
  let s := { s.hubMemForget with acts := [], evts := [], outs := [], caps := s.capLevels, encs := [], srcs := [], tws := [] }
  let h := s.host
  let s := s.setHost { HostSt.start with sessions := h.sessions, mac := h.mac, drops := h.drops, wakeCmd := h.wakeCmd, attempt := h.attempt,
                                         packets := h.packets, lastWake := h.lastWake, pinAt := h.pinAt }
  let s := ((s.setFill false 0).setFill true 0).showOutstanding.showCum.put F.HOST_STAT_PARKED 0
  let s := s.setCore vat { Core.unstarted true with vecBase := (s.core vat).vecBase }
  (s.clearRegs inHub).commandAll s.com.sense

/-- A lane whose source stands when HUB goes into retention has no decision instant to come before its source is available again (R238). -/
def State.lanesRest (s : State) : State :=
  (List.range 16).foldl (fun s n =>
    let l := s.lane n
    if s.isSet (F.HERD_RUC_CFG_EN n) && s.srcAvail (s.get (F.HERD_RUC_CFG_SRC n)) && !l.held then s.setLane n { l with due := some laneNever, done := none } else s) s

/-- HUB leaves the on state (R215, R222, R238). -/
def State.hubLower (s : State) (st : Nat) : State :=
  let rest := s.lanesRest
  let s := s.capsStop
  let s := (List.range 16).foldl (fun s n => if (rest.lane n).due == some laneNever then s.setLane n (rest.lane n) else s) s
  let s := (s.scrubStop 16).scrubStop 18
  let s := if st = domOff then ((List.range 8).foldl State.twOff s).hubForget else s
  s.setDom domHub st

end Sys2Proof.Machine
end

