-- ==== Sys2Proof/Machine/PowerOps.lean ====
section
/-! DEFINITION. Power requests' shared operations (R370, R382 to R392): raising and lowering a domain, forcing a tile off, the refusal with its
rollback, and the agreement of a tile's queues. -/

namespace Sys2Proof.Machine

/-- The state with WATCH's part replaced. -/
def State.setWatch (s : State) (b : WatchSt) : State := { s with watch := b }

/-- Tile `t`'s restart or reload. -/
def State.tileRun (s : State) (t : Nat) : TileRun := tabGet (fun _ => TileRun.rest) s.tiles t
/-- The state with tile `t`'s restart or reload set. -/
def State.setTileRun (s : State) (t : Nat) (x : TileRun) : State := { s with tiles := tabSet (fun _ => TileRun.rest) t x s.tiles }

/-! ## What a tile's queues still hold -/

/-- Every holding consumer of queue `q` has passed every record of it, and no SAMPLES record is open (R385). -/
def State.drained (s : State) (q : Nat) : Bool :=
  let x := s.queue q
  decide (x.total ≤ x.holdHead (s.consumers q)) && x.opens.isEmpty

/-- TQ t.0 to TQ t.4 have drained. -/
def State.tileDrained (s : State) (t : Nat) : Bool := (List.range 5).all (fun n => s.drained (6 * t + n))

/-- Queue `q` emptied (R412, R425): what it held and what was pending as GAP records of CAUSE FULL, then the kept MARKs. -/
def State.dumpQueue (s : State) (q : Nat) : State × List Rec :=
  let n := ((s.queue q).recs.filter (fun r => !r.isGapMark)).length
  let s := s.resetPorts q
  let (s, p) := s.resetGap q
  let s := s.setQueue q ((s.queue q).emptied (s.consumers q))
  let s := if n = 0 then s else ((s.incSat (F.Q_CNT0_DROPPED q) n).put (F.Q_EVT_DROP_SEEN q) 1).raiseQueue q
  let (s, gs) := (gapPieces (p.entries.length + 1) p.entries).foldl (fun (a : State × List Rec) es =>
    let r := a.1.gapRec (a.1.qGapSource q) causeFull q es
    (a.1.takeSeq r.key, a.2 ++ [r])) (s, [])
  (s, gs ++ p.marks)

/-- What tile `t`'s queues still hold dropped in place, the GAPs first in the queues (R303, R425). -/
def State.tileDrop (s : State) (t : Nat) : State :=
  (List.range 6).foldl (fun s n =>
    let q := 6 * t + n
    if s.drained q && (n < 5 || (s.queue q).recs.isEmpty) then s
    else
      let (s, rs) := s.dumpQueue q
      rs.foldl (fun s r => s.qCommit q r) s) s

/-- What was taken away from the descriptors that read queue `q` alone, and that they have not read yet, leaves for their destinations: the GAP of each, then
the MARKs (R297, R303). -/
def State.lostOut (s : State) (q : Nat) : State :=
  (ladlesFor q).foldl (fun s l => [0, 1, 2, 3].foldl (fun s d =>
    if s.descReads q l d then
      let p := ((s.queue q).consOf (ladleCons l d)).lost
      let s := if p.entries.isEmpty then s
        else
          let r := s.gapRec (s.qGapSource q) causeFull q p.entries
          (s.takeSeq r.key).descDeliver l d (s.carried r)
      p.marks.foldl (fun s r => s.descDeliver l d r) s
    else s) s) s

/-- Tile `t`'s domains go off with what its queues hold (R303, R392, R400, R415): it leaves as GAP records that the hub writes. -/
def State.tileEmpty (s : State) (t : Nat) : State :=
  let s := (List.range 6).foldl (fun s n => s.lostOut (6 * t + n)) s
  let (s, out) := (List.range 6).foldl (fun (a : State × List (Nat × Rec)) n =>
    let q := 6 * t + n
    let (s, rs) := a.1.dumpQueue q
    (s, a.2 ++ rs.map (fun r => (q, r)))) (s, [])
  out.foldl (fun s o => s.viaHub o.1 o.2) (s.tileForceOff t)

/-! ## Rails (R375) -/

/-- The rails that domain `n` uses and that are not on yet. -/
def State.railsMiss (s : State) (n : Nat) : List Nat :=
  [3, 4, 5].filter (fun r => Config.railUses r n && !(s.link.rails.contains r && s.link.railOn r))

/-- The rails that domain `n` is to come on with are asked for. -/
def State.railsAsk (s : State) (n : Nat) : State :=
  (s.railsMiss n).foldl (fun s r => if s.link.railOn r then s else s.linkSend opRailSet r 1) s

/-! ## Domains -/

/-- The parent of a domain (R370); HUB is its own. -/
def domParent (n : Nat) : Nat := if n < 12 then domHub else n - 8

/-- The states break no parent rule (R370): HERD may be in retention while HUB is off. -/
def parentsOk (st : Nat → Nat) : Bool :=
  (List.range 20).all (fun n => n == 0 || decide (st n ≤ st (domParent n)) || (n == domHerd && st n == domRet))

/-- The order of a staged entry (R384). -/
def entryOrder : List Nat := (List.range 8).map (fun t => 12 + t) ++ (List.range 8).map (fun t => 4 + t) ++ [2, 3, 1, 0]
/-- The order of raises: parents first (R382). -/
def raiseOrder : List Nat := entryOrder.reverse

/-- TILEt raised from off (R383, R415): the tile waits for its sections from the store. -/
def State.tileFromOff (s : State) (t : Nat) : State :=
  let s := s.tilePowered t
  if s.tileState t = 1 then s.setTileRun t { s.tileRun t with phase := 2, at_ := s.lt } else s

/-- A domain raised to a state (R383). A tile that is out of service stays off, and in COMMISSION and FAULT_HOLD every tile does (R400). -/
def State.domRaise (s : State) (n dst : Nat) : State :=
  let old := s.dom n
  if dst ≤ old then s
  else if 4 ≤ n && (s.cond mCommission || s.cond mFaultHold) then s
  else if n = domHub then s.setDom n dst
  else if n = domHerd then (if dst = domOn then s.herdRaise else s.herdRaise.setDom n domRet)
  else if n = domHost then (if dst = domOn then s.hostRaise else s.setDom n dst)
  else if n = domKey then s.keyRaise
  else if n < 12 then
    let t := n - 4
    let r := s.tileRun t
    if s.tileState t = 2 && r.phase == 0 then s
    else if dst = domOn then (if old = domRet && r.phase == 0 then s.tileWake t else s.tileFromOff t)
    else (s.tileFromOff t).tileDown t domRet
  else
    let t := n - 12
    if s.tileState t = 2 && (s.tileRun t).phase == 0 then s
    else if dst = domOn && (s.tileRun t).phase == 0 && s.tileState t == 1 then s.afeRaise t else s.setDom n dst

/-- A domain lowered to a state; a tile switched off takes its STOP MARKs (R415). -/
def State.domLower (s : State) (n dst : Nat) : State :=
  if s.dom n ≤ dst then s
  else if n = domHub then s.hubLower dst
  else if n = domHerd then s.herdLower dst
  else if n = domHost then s.hostLower dst
  else if n = domKey then s.keyLower
  else if n < 12 then
    if dst = domOff then (s.tileEmpty (n - 4)).markStops (s.usedStreams.filter (keyOfTile (n - 4))) else s.tileLower (n - 4) dst
  else s.afeLower (n - 12) dst

/-! ## Refusals (R386, R387, R391) -/

/-- Reasons (R391). -/
abbrev rfNotDrained : Nat := 0
abbrev rfPendEvent : Nat := 1
abbrev rfAction : Nat := 2
abbrev rfTwoWire : Nat := 3
abbrev rfKeyRead : Nat := 4
abbrev rfWake : Nat := 5
abbrev rfForced : Nat := 6

/-- The state with the power requests' part replaced. -/
def State.setPwr (s : State) (p : PwrSt) : State := { s with pwr := p }

/-- A refusal counted and reported (R391): `part` is a tile's part, 4 for none of the tile. -/
def State.refuseCount (s : State) (n reason part : Nat) : State :=
  let s := ((s.incSat F.PWR_REFUSE_COUNT_REFUSALS).put F.PWR_REFUSER_DOMAIN n).put F.PWR_REFUSER_REASON reason
  let tile := decide (4 ≤ n) && decide (n < 12)
  let s := if tile then
      ((s.incSat (F.PWR_TILE_REFUSE_REFUSALS (n - 4))).put (F.PWR_TILE_REFUSE_REASON (n - 4)) reason).put (F.PWR_TILE_REFUSE_PART (n - 4)) part
    else s
  let s := (s.put F.PWR_EVT_REFUSED_SEEN 1).raise 34
  s.logWrite kPowerRefuse 34 (w32 (n + 32 * reason + 512 * (if tile then part else 0))) (s.rd R.PWR_REFUSE_COUNT) 0#32

/-- No request runs (R396). -/
def State.pwrIdle (s : State) : State :=
  ((s.put F.PWR_STAT_BUSY 0).put F.PWR_STAT_PHASE 0).setPwr
    { s.pwr with run := 0, asks := [], agreedAt := none, stopped := [], raising := [], refused := none }

/-- A refused entry has been rolled back (R386, R402): it is counted and reported, and the request ends. -/
def State.pwrRolled (s : State) : State :=
  match s.pwr.refused with
  | none => s
  | some (n, reason, part) =>
    let s := s.refuseCount n reason part
    (if s.pwr.run = 1 then s.put F.PWR_STAT_RESULT 1 else s.setWatch { s.watch with retryAt := some (s.lt + 1000000000) }).pwrIdle

/-- An entry refused (R386): the domains it has stopped restart in reverse order, and raises that still run go on; the states are those before GO. A HUB that
has agreed starts its capture units again, as behind retention (DEDUCED, assumption 159). -/
def State.pwrRefuse (s : State) (reason part : Nat) : State :=
  match s.pwr.asks with
  | [] => s
  | (n, _) :: _ =>
    let p := s.pwr
    let s := if s.domAgreed domHub && s.domIsOn domHub then s.capsStop.capsResume else s
    let back := p.stopped ++ p.raising
    let s := (back.foldl (fun s d => s.railsAsk d.1) (s.put F.PWR_STAT_PHASE 3)).setPwr
      { p with asks := [], agreedAt := none, stopped := [], raising := back, refused := some (n, reason, part),
               lowered := p.lowered.filter (fun d => !p.stopped.contains d) }
    if back.isEmpty then s.pwrRolled else s

/-- A mode forces domain states: an entry in progress ends (R387, R392). -/
def State.pwrForce (s : State) : State := s.pwrRefuse rfForced 4

/-- Tile `t`'s domains cut off (R392, R400), which ends an entry in progress. -/
def State.tileCut (s : State) (t : Nat) : State := s.pwrForce.tileEmpty t

end Sys2Proof.Machine
end

