-- ==== Sys2Proof/Machine/Faults.lean ====
section
/-! DEFINITION. Tiles leaving service and returning (R425, R426, R430, R442) and FAULT_HOLD (R405, R428). -/

namespace Sys2Proof.Machine

/-! ## A tile leaves service -/

/-- Causes of a tile leaving service (R442). -/
abbrev tcMemUe : Nat := 1
abbrev tcPailHalt : Nat := 2
abbrev tcPailPoison : Nat := 3
abbrev tcBaseline : Nat := 4
abbrev tcStore : Nat := 5
abbrev tcLimit : Nat := 6

/-- A tile's work ends (R425): its engine discards open cycles, its cells and its core stop. -/
def State.tileHalt (s : State) (t : Nat) : State := ((cellsOf t).foldl State.cellStop (s.churnStop t)).coreStop t

/-- The trouble-log entry and the event of a tile leaving service (R425, R433, R438). -/
def State.tileOutLog (s : State) (t cause : Nat) (addr : Word) : State :=
  ((s.put (F.FLT_TILE_LAST_CAUSE t) cause).logWrite kTileOut t (w32 (t + 8 * cause)) (w32 (s.get (F.FLT_TILE_WINDOW t))) addr).raise t

/-- A tile leaves service for good (R400, R426, R414): domains cut off, STOP MARKs through the hub. -/
def State.tileFinal (s : State) (t : Nat) : State :=
  let s := s.setTileRun t { s.tileRun t with phase := 0, failed := false }
  (s.tileCut t).markStops (s.usedStreams.filter (keyOfTile t))

/-- The restarts of the last 60 s (R426). -/
def TileRun.recent (r : TileRun) (lt : Nat) : List Nat := r.starts.filter (fun x => lt < x + 60000000000)

/-- FLT_TILEt as it reads (R441): WINDOW counts the restarts of the 60 s up to now. -/
def State.fltTile (s : State) (t : Nat) : Word := (F.FLT_TILE_WINDOW t).into (s.rd (R.FLT_TILE t)) ((s.tileRun t).recent s.logLt).length

/-- Tile `t` leaves service and restarts (R425, R426); the fourth restart within 60 s leaves it out. A tile already out for good, off
or without sections is not concerned; a tile in reload repeats its apply step once (R414). A change of mode is logged last (R431). -/
def State.tileOut (s : State) (t cause : Nat) (addr : Word) : State :=
  let r := s.tileRun t
  if s.tileState t = 0 || (s.tileState t == 2 && r.phase == 0) || r.phase == 4 || r.phase == 5 then s
  else if r.phase = 6 then
    if r.failed then
      let s := ((s.tileHalt t).tileOutLog t cause addr).pwrForce
      let s := (s.setTile t 2).tileFinal t
      s.setTileRun t { s.tileRun t with failed := true }
    else s.setTileRun t { r with phase := 5, failed := true }
  else
    let starts := r.recent s.lt
    let limit := decide (3 ≤ starts.length)
    let starts := if limit then starts else starts ++ [s.lt]
    let s := (s.tileHalt t).setTileRun t { phase := 1, at_ := s.lt, starts := starts, failed := false }
    let s := if limit then s else s.incSat (F.FLT_TILE_RESTARTS t)
    let s := s.put (F.FLT_TILE_WINDOW t) starts.length
    (s.tileOutLog t (if limit then tcLimit else cause) addr).setTile t 2

/-- The drain of a restart ends (R425): what is left is dropped, STOP MARKs follow; a tile at its limit stays out (R426). -/
def State.restartDrained (s : State) (t : Nat) : State :=
  if s.get (F.FLT_TILE_LAST_CAUSE t) = tcLimit then s.tileFinal t
  else
    let s := (s.tileDrop t).markStops (s.usedStreams.filter (keyOfTile t))
    s.setTileRun t { s.tileRun t with phase := 2 }

/-- The section of a tile cannot be read from the store or the key (R330, R426): out of service with cause STORE. -/
def State.tileNoSection (s : State) (t : Nat) : State :=
  ((((s.tileHalt t).tileOutLog t tcStore 0#32).pwrForce).setTile t 2).tileFinal t

/-! ## FAULT_HOLD -/

/-- Causes of FAULT_HOLD (R428). -/
abbrev hcPllLock : Nat := 1
abbrev hcVatHalt : Nat := 2
abbrev hcVatPoison : Nat := 3
abbrev hcTableRam : Nat := 4
abbrev hcSupplyLink : Nat := 5
abbrev hcRailFault : Nat := 6
abbrev hcVcoreLow : Nat := 7

/-- A running changeover or reload is abandoned (R414). -/
def State.coAbandon (s : State) : State :=
  let s := if s.pwr.run = 0 then s.put F.PWR_STAT_BUSY 0 else s
  (({ s with co := CoSt.rest }.put F.MOD_CO_ACTIVE 0).put F.MOD_CO_TODO 0).setCond mChangeover false

/-- Every tile's work ends at FAULT_HOLD (R405): engines, cells and cores stopped, open records closed. -/
def State.holdStops (s : State) : State := (List.range 8).foldl State.tileHalt s

/-- Every tile forced off at FAULT_HOLD (R405), restarts ended (R430). -/
def State.holdTiles (s : State) : State :=
  (List.range 8).foldl (fun s t => (s.setTileRun t { s.tileRun t with phase := 0 }).tileCut t) s

/-- What FAULT_HOLD's entry writes into the trouble log for events below its own `event` (R431): an entry in progress ends with event 34, the flush of the
action table has event 45. -/
def State.holdFirst (s : State) (event : Nat) : State :=
  if s.cond mFaultHold then s
  else
    let s := if 34 < event then s.pwrForce else s
    if 45 < event then s.flushAs mFaultHold else s

/-- A cause of FAULT_HOLD (R215, R405, R428): the capture units and the tiles stop; STOP MARKs in every stream (but with cause TABLE_RAM), behind the records
that the stop closes; the trouble-log entry, the mode, every tile off, every core stopped. A later cause writes its own entry only. -/
def State.faultHold (s : State) (cause : Nat) (detail : Word) (event : Nat) : State :=
  if s.cond mFaultHold then s.logWrite kFaultHold event (w32 cause) detail 0#32
  else
    let s := (s.put F.FLT_STAT_HOLD_CAUSE cause).incSat F.MOD_CNT_FAULT_HOLDS
    let s := s.capsDeliver.holdStops
    let s := if cause = hcTableRam then s else s.markStops s.usedStreams
    let s := ((s.holdFirst event).logWrite kFaultHold event (w32 cause) detail 0#32).pwrForce
    let s := ((s.setCond mFaultHold true).setRun false).coAbandon
    let s := (s.holdTiles.coreStop vat).capsStop
    let s := (List.range 8).foldl State.twOff s
    let s := s.keyVcc false
    let s := if s.get F.KEY_STAT_STATE = 5 ∨ s.get F.KEY_STAT_STATE = 7 then s else s.put F.KEY_STAT_STATE (if s.key.staged.isSome then 4 else 0)
    { s with boot := { s.boot with holdAt := some s.lt }, key := { s.key with job := 0, waits := false, cycle := none, hung := false, tile := none, sects := [] } }

end Sys2Proof.Machine
end

