-- ==== Sys2Proof/Machine/Memory.lean ====
section
/-! DEFINITION. The memories' codes and scrubbers (R282 to R286). Memory m: tile memory of tile m (0 to 7), queue RAM of tile m − 8 (8 to 15), hub
memory (16), trouble-log SRAM (17), hub table RAM (18). -/

namespace Sys2Proof.Machine

/-- Lines of 64 bytes in memory `m` (R282). -/
def memLines (m : Nat) : Nat := if m < 8 then 8192 else if m < 16 then 4288 else if m = 16 then 262144 else 1024

/-- The domain that holds memory `m`; AON holds the trouble-log SRAM. -/
def memOn (s : State) (m : Nat) : Bool :=
  if m < 8 then s.domIsOn (domTile m) else if m < 16 then s.domIsOn (domTile (m - 8)) else m == 17 || s.domIsOn domHub

/-- Key of line `i` of memory `m`. -/
def lineKey (m i : Nat) : Nat := m * 0x100000 + i

/-- The address of line `i` of memory `m`: hub memory by its own address, another memory by its offset. -/
def lineAddr (m i : Nat) : Nat := if m = 16 then 0x10000000 + 64 * i else 64 * i

/-- The scrubber of memory `m`. -/
def State.scrub (s : State) (m : Nat) : Scrub := tabGet (fun _ => ⟨0, 0⟩) s.scrubs m
/-- The state with the scrubber of memory `m` set. -/
def State.setScrub (s : State) (m : Nat) (x : Scrub) : State := { s with scrubs := tabSet (fun _ => ⟨0, 0⟩) m x s.scrubs }

/-- Bits set among the lowest `n`. -/
def popCount (n x : Nat) : Nat := ((List.range n).filter (fun i => x.testBit i)).length

/-- The tile queue whose storage holds line `i` of a queue RAM (R299); none for the stream tables. -/
def ramQueue (i : Nat) : Option Nat :=
  if i < 1024 then some 0 else if i < 3072 then some 1 else if i < 4096 then some (2 + (i - 3072) / 256) else none

/-- The hub queue whose storage holds an address (R300). -/
def State.hubQueueAt (s : State) (a : Nat) : Option Nat :=
  (List.range 16).find? (fun n => decide (s.get (F.Q_BASE_BASE (48 + n)) ≤ a) && decide (a < s.get (F.Q_BASE_BASE (48 + n)) + s.qSize (48 + n)))

/-- A slot of the trouble log is lost (R285, R434). -/
def State.logLose (s : State) (slot : Nat) : State :=
  match tabGet (fun _ => none) s.log slot with
  | some e =>
    if e.lost then s
    else (({ s with log := tabSet (fun _ => none) slot (some (LogEntry.lostForm e.index)) s.log }.incSat F.LOG_OVERWRITES_COUNT).put
           F.LOG_EVT_LOST_SEEN 1)
  | none => s

/-- The event of an uncorrectable line (R285). -/
def ueEvent (m : Nat) : Nat := if m < 8 then 50 else if m < 16 then 52 else if m = 16 then 51 else if m = 17 then 53 else 54

/-- An uncorrectable line (R285): address and LT recorded, counted, logged, the event, and the memory's own handling. `bad` are the line's
uncorrectable words. -/
def State.memUe (s : State) (m i bad : Nat) : State :=
  let a := lineAddr m i
  let s := ((s.wr (R.MEMM_UE_ADDR m) (w32 a)).putPair (R.MEMM_UE_LT_LO m) s.lt).incSat (F.MEMM_UE_UNCORRECTABLE m)
  let s := ((if m = 18 then s.holdFirst 54 else s).logWrite kMemUe (ueEvent m) (w32 m) (w32 a) 0#32).raiseMem (ueEvent m)
  if m < 8 then s.tileOut m tcMemUe (w32 a)
  else if m < 16 then
    match ramQueue i with
    | some n => s.qReset (6 * (m - 8) + n) causeMemory
    | none => (List.range 6).foldl (fun s n => s.qReset (6 * (m - 8) + n) causeMemory) s
  else if m = 16 then
    match s.hubQueueAt a with
    | some n => s.qReset (48 + n) causeMemory
    | none =>
      let k := lineKey m i
      (s.setLineErr k { s.lineErr k with poison := (s.lineErr k).poison ||| bad % 256 ||| 256 }).put (F.MEMM_STAT_POISONED 16) 1
  else if m = 17 then (s.logLose (2 * i)).logLose (2 * i + 1)
  else s.faultHold hcTableRam (w32 m) 54

/-- Event 48 for each of `n` corrected words (R286). -/
def State.raiseCorrected (s : State) : Nat → State
  | 0 => s
  | n + 1 => State.raiseCorrected (s.raiseMem 48) n

/-- Words corrected by the inner code (R283, R286): counted, event 48 for each, and event 55 once when the pass exceeds RATE_LIMIT. -/
def State.memCorrect (s : State) (m n : Nat) : State :=
  if n = 0 then s
  else
    let x := s.scrub m
    let s := (s.incSat (F.MEMM_CNT_CORRECTED m) n).raiseCorrected n
    let s := s.setScrub m { x with corrections := x.corrections + n }
    let lim := s.get F.MEM_CFG_RATE_LIMIT
    if x.corrections ≤ lim ∧ lim < x.corrections + n then s.raiseMem 55 else s

/-- A word rebuilt from the outer check word (R283, R286). -/
def State.memRebuild (s : State) (m : Nat) : State := (s.incSat (F.MEMM_CNT_REBUILT m)).raiseMem 49

/-- The errors of a line once new ones have come beside those it held (R283). -/
def LineErr.upset (e : LineErr) (u : LineUpset) : LineErr := { e with single := e.single ||| u.single.val, double := e.double ||| u.double.val }

/-- The words of a line that the inner code cannot correct (bit 8: the check word), but for poisoned ones that have been reported. -/
def LineErr.bad (e : LineErr) : List Nat := (List.range 9).filter (fun b => e.double.testBit b && !e.poison.testBit b)

/-- A whole line read with what has come to it (R283, R284): single-bit errors corrected, one uncorrectable word rebuilt, more than one reported. The
words of a poisoned line that have been reported are not reported again. -/
def State.lineRead (s : State) (m i : Nat) (u : LineUpset) : State :=
  let k := lineKey m i
  let e := (s.lineErr k).upset u
  let sgl := (List.range 9).filter (fun b => e.single.testBit b && !e.double.testBit b && !e.poison.testBit b)
  let s := (s.setLineErr k { e with single := 0, double := 0 }).memCorrect m sgl.length
  if e.bad.isEmpty then s
  else if e.bad.length = 1 ∧ e.poison = 0 then s.memRebuild m
  else s.memUe m i (e.bad.foldl (fun x b => x + 2 ^ b) 0)

/-- Word `w` of a line read by a core or a ladle (R283, R285): corrected, rebuilt from the other words where it alone is uncorrectable, else the line
is reported. A poisoned word is left to its reader. -/
def State.wordRead (s : State) (m i w : Nat) : State :=
  let k := lineKey m i
  let e := s.lineErr k
  if e.poison.testBit w then s
  else if e.double.testBit w then
    if e.bad.length = 1 ∧ e.poison = 0 then (s.setLineErr k { e with double := 0 }).memRebuild m
    else (s.setLineErr k { e with single := 0, double := 0 }).memUe m i (e.bad.foldl (fun x b => x + 2 ^ b) 0)
  else if e.single.testBit w then (s.setLineErr k { e with single := e.single - 2 ^ w }).memCorrect m 1
  else s

/-- The memory, line and word that hold the byte of `mem` at `a`. -/
def memPlace (a : Nat) : Nat × Nat × Nat :=
  if a < 0x20000000 then (16, (a - 0x10000000) / 64, a / 8 % 8)
  else ((a - 0x20000000) / 0x80000, a % 0x80000 / 64, a / 8 % 8)

/-- The errors of the line that holds the byte of `mem` at `a`. -/
def State.errAt (s : State) (a : Nat) : LineErr := s.lineErr (lineKey (memPlace a).1 (memPlace a).2.1)

/-- The word of `mem` at `a` has no error that a read would meet (R283). -/
def State.wordSound (s : State) (a : Nat) : Bool :=
  !(s.errAt a).single.testBit (memPlace a).2.2 && !(s.errAt a).double.testBit (memPlace a).2.2

/-- A read of the word of `mem` at `a` would find its line uncorrectable (R283). -/
def State.wordLost (s : State) (a : Nat) : Bool :=
  let e := s.errAt a
  let w := (memPlace a).2.2
  !e.poison.testBit w && e.double.testBit w && !(e.bad.length == 1 && e.poison == 0)

/-- The word of `mem` at `a` read (R283). -/
def State.wordReadAt (s : State) (a : Nat) : State := s.wordRead (memPlace a).1 (memPlace a).2.1 (memPlace a).2.2

/-- The `n` bytes of memory `m` from its offset `o` on read, word by word: only words of lines with errors do anything (R283). -/
def State.ramTouch (s : State) (m o n : Nat) : State :=
  (s.lines.filter (fun l => l.1 / 0x100000 == m && (l.2.single != 0 || l.2.double != 0))).foldl (fun s l =>
    (List.range 8).foldl (fun s w =>
      let b := 64 * (l.1 % 0x100000) + 8 * w
      if o < b + 8 ∧ b < o + n then s.wordRead m (l.1 % 0x100000) w else s) s) s

/-- The `n` bytes of `mem` from `a` on read (R283). -/
def State.memTouch (s : State) (a n : Nat) : State :=
  s.ramTouch (memPlace a).1 (64 * (memPlace a).2.1 + a % 64) n

/-- Errors that have come to line `i` of memory `m` (R283): a read finds them. -/
def State.lineUpset (s : State) (m i : Nat) (u : LineUpset) : State :=
  if i < memLines m then s.setLineErr (lineKey m i) ((s.lineErr (lineKey m i)).upset u) else s

/-- Where queue `q`'s storage begins in its memory (R299, R300): the memory and the offset. -/
def State.qStore (s : State) (q : Nat) : Nat × Nat :=
  if q < 48 then (8 + q / 6, if q % 6 = 0 then 0 else if q % 6 = 1 then 0x10000 else 0x30000 + 0x4000 * (q % 6 - 2))
  else (16, s.get (F.Q_BASE_BASE q) - 0x10000000)

/-- The record at consumer `id`'s head read where it lies in queue `q`'s storage, counted from the tail (R283, R299); a GAP of the consumer's own is in no
storage. -/
def State.qTouch (s : State) (q id : Nat) : State :=
  let x := s.queue q
  let c := x.consOf id
  match x.recs.drop (c.head - x.first) with
  | [] => s
  | r :: t =>
    if c.own ≠ 0 then s
    else
      let size := max (s.qSize q) 1
      let behind := ((r :: t).map Rec.length).sum
      let o := (x.tail + size - behind % size) % size
      let s := s.ramTouch (s.qStore q).1 ((s.qStore q).2 + o) (min r.length (size - o))
      s.ramTouch (s.qStore q).1 (s.qStore q).2 (r.length - (size - o))

/-- Entry `i` of the trouble log read, where it is held (R283, R434). -/
def State.logTouch (s : State) (i : Nat) : State := if (s.logEntry i).isSome then s.ramTouch 17 (32 * (i % 2048)) 32 else s

/-- The scrubber goes on to the next line; behind the last one a pass is complete (R284). -/
def State.scrubNext (s : State) (m : Nat) : State :=
  let x := s.scrub m
  if x.next + 1 < memLines m then s.setScrub m { x with next := x.next + 1 }
  else (s.setScrub m ⟨0, 0⟩).incWrap (F.MEMM_STAT_PASSES m)

end Sys2Proof.Machine
end

