-- ==== Sys2Proof/Machine/Load.lean ====
section
/-! DEFINITION. Applying a key image (R320, R321, R326, R327), the checks of a whole image (R322, R324, R329, R331, R410) and the image store
(R330). -/

namespace Sys2Proof.Machine

/-! ## Where a run's words may go (R320) -/

/-- A register of tile window whose reset value is "key": PER and CMP of a timer, SETTLE and LATENCY of a channel. -/
def keyReset (a : Nat) : Bool :=
  let o := a % 0x100000
  decide (0x40000000 ≤ a) && decide (a < 0x40800000)
    && ((o / 0x80 == 0x80 && (o % 0x20 == 4 || o % 0x20 == 8)) || (o / 0x1000 == 1 && decide (0x28 ≤ o % 0x100) && decide (o % 0x100 < 0x38)))

/-- The bits of the register at `a` that a load writes. -/
def loadMask (a : Nat) : Word :=
  match regRow a with
  | some r => w32 (if keyReset a then r.impl else r.lk)
  | none => 0#32

/-- Tile `t`'s window. -/
def inTileWindow (t a : Nat) : Bool := decide (0x40000000 + t * 0x100000 ≤ a) && decide (a < 0x40100000 + t * 0x100000)
/-- Tile `t`'s envelope table. -/
def inEnv (t a : Nat) : Bool := decide (0x60000000 + t * 0x10000 ≤ a) && decide (a < 0x60006000 + t * 0x10000)
/-- The hub window and the window at 0x7000_0000. -/
def inHubWindows (a : Nat) : Bool :=
  (decide (0x50000000 ≤ a) && decide (a < 0x51000000)) || (decide (0x70000000 ≤ a) && decide (a < 0x70010000))

abbrev rcNoKey : Nat := 1
abbrev rcNoAnswer : Nat := 2
abbrev rcHung : Nat := 3
abbrev rcRemoved : Nat := 4
abbrev rcBadHeader : Nat := 5
abbrev rcHeaderCrc : Nat := 6
abbrev rcSectionCrc : Nat := 7
abbrev rcLayout : Nat := 8
abbrev rcUnsigned : Nat := 9
abbrev rcTrust : Nat := 10
abbrev rcSignature : Nat := 11
abbrev rcBadAddress : Nat := 12
abbrev rcNotLoadable : Nat := 13
abbrev rcConfig : Nat := 14
abbrev rcPlace : Nat := 15
abbrev rcKeep : Nat := 16

/-- The refusal code for a word at `a` in a section of tile `unit` (above 7: HUB_REGS), 0 where it may go there (R329). -/
def wordRefusal (unit a : Nat) : Nat :=
  if unit < 8 && inEnv unit a && a % 4 == 0 then 0
  else if !(if unit < 8 then inTileWindow unit a else inHubWindows a) then rcBadAddress
  else match regRow a with
    | some _ => if loadMask a = 0#32 then rcNotLoadable else 0
    | none => rcBadAddress

/-! ## Applying sections -/

/-- One word of a run written (R320). -/
def State.loadWord (s : State) (c : Nat × Word) : State :=
  let a := c.1
  if 0x60000000 ≤ a ∧ a < 0x60080000 then
    let t := (a - 0x60000000) / 0x10000
    let e := a % 0x10000 / 8
    let w := s.envGet t e
    s.envSet t e (if a % 8 = 0 then w.extractLsb' 32 32 ++ c.2 else c.2 ++ w.extractLsb' 0 32)
  else s.wr a ((s.rd a &&& ~~~(loadMask a)) ||| (c.2 &&& loadMask a))

/-- The loadable fields of the registers that `p` selects at their reset values: what a load does not write holds them. -/
def State.lkReset (s : State) (p : Nat → Bool) : State :=
  { s with regs := s.regs.filterMap (fun c =>
      if p c.1 then
        let m := loadMask c.1
        let v := (c.2 &&& ~~~m) ||| (regReset c.1 &&& m)
        if v = regReset c.1 then none else some (c.1, v)
      else some c) }

/-- HUB_REGS written (R327, R411); a publication whose register it writes is no longer stopped (R163). -/
def State.hubRegs (s : State) (img : List Byte) : State :=
  let ws := (sectsOf img kHubRegs 0xFF).flatMap (fun x => x.words img)
  let s := ws.foldl State.loadWord (s.lkReset inHubWindows)
  [0, 1, 2, 3].foldl (fun (s : State) e => if ws.any (fun w => w.1 == R.HERD_PUB e) then s.put (F.HERD_PUB_SLOT_CONFLICT e) 0 else s) s

/-- TILE_REGS of tile `t` written; SETTLE and LATENCY show what the filters then are (R119). -/
def State.tileRegs (s : State) (img : List Byte) (t : Nat) : State :=
  let s := s.lkReset (inTileWindow t)
  let s := { s with env := s.env.filter (fun c => c.1 / 3072 != t) }
  let s := ((sectsOf img kTileRegs t).flatMap (fun x => x.words img)).foldl State.loadWord s
  ((List.range 16).map (fun i => 16 * t + i)).foldl State.showFilter s

/-- VAT_CODE and HUB_DATA placed (R321). -/
def State.hubPlace (s : State) (img : List Byte) : State :=
  ((sections img).filter (fun x => x.kind == kVatCode || x.kind == kHubData)).foldl (fun s x => s.store (x.place img) (x.content img)) s

/-- Tile `t`'s memory written with zeros, its code and data placed, its entries' anchors set (R202, R321). -/
def State.tileFill (s : State) (img : List Byte) (t : Nat) : State :=
  let s := s.memCut (fun a => decide (a < tileMem t) || decide (tileMem t + 0x80000 ≤ a))
  let s := { s with lines := s.lines.filter (fun l => l.1 / 0x100000 != t) }
  let s := (sectsOf img kPailCode t ++ sectsOf img kTileData t).foldl (fun s x => s.setBytes (tileMem t + x.place img) (x.content img)) s
  (List.range 3072).foldl (fun s e =>
    let w := s.envGet t e
    if w = 0#64 then s else s.setAnchor t e (int16 (envBits w 0 16)) (int16 (envBits w 16 16))) s

/-- The tiles with sections (R322). -/
def tilesOf (img : List Byte) : List Nat := (List.range 8).filter (hasTile img)

/-- The final register values that an image gives, for the refusal rules (R320). -/
def State.withImage (s : State) (img : List Byte) : State := (tilesOf img).foldl (fun s t => s.tileRegs img t) (s.hubRegs img)

/-! ## The store (R330) -/

/-- Where a bank of the store begins. -/
def State.bankAt (s : State) (bank : Nat) : Nat := s.get F.KEY_STORE_BASE + bank * 0x80000

/-- The `n` bytes of the store from `a` on read (R283, R286, R330): a poisoned word among them raises event 51. -/
def State.storeTouch (s : State) (a n : Nat) : State :=
  let s := s.memTouch a n
  if s.poisoned a n then s.raiseMem 51 else s

/-- The running image, as the store holds it. -/
def State.runningImage (s : State) : List Byte := s.bytes (s.bankAt (s.get F.KEY_STAT_BANK)) (s.get F.KEY_IMAGE_IMAGE_LEN)

/-- The staged image, as the other bank holds it; nothing where none is staged. -/
def State.stagedImage (s : State) : List Byte :=
  match s.key.staged with
  | some n => s.bytes (s.bankAt (1 - s.get F.KEY_STAT_BANK)) n
  | none => []

/-- The bank of the running image read whole. -/
def State.runningTouch (s : State) : State := s.storeTouch (s.bankAt (s.get F.KEY_STAT_BANK)) (s.get F.KEY_IMAGE_IMAGE_LEN)

/-- The bank of the staged image read whole. -/
def State.stagedTouch (s : State) : State :=
  match s.key.staged with
  | some n => s.storeTouch (s.bankAt (1 - s.get F.KEY_STAT_BANK)) n
  | none => s

/-- The image of a bank that tile `t`'s restart uses (R330): during a changeover the new bank once the tile has been reloaded. -/
def State.restartImage (s : State) (t : Nat) : Nat × Nat :=
  let b := s.get F.KEY_STAT_BANK
  match s.key.staged with
  | some n => if s.co.phase = 5 && s.bit F.MOD_CO_DONE t then (1 - b, n) else (b, s.get F.KEY_IMAGE_IMAGE_LEN)
  | none => (b, s.get F.KEY_IMAGE_IMAGE_LEN)

/-- Tile `t`'s sections of an image. -/
def tileSects (img : List Byte) (t : Nat) : List Sect :=
  (sections img).filter (fun x => x.unit == t && (x.kind == kTileRegs || x.kind == kPailCode || x.kind == kTileData))

/-- The bytes of header and section table. -/
def tableLen (img : List Byte) : Nat := 128 + 16 * imgNsect img

/-- The places in the store that tile `t`'s restart reads: header, table and sections. -/
def storePlaces (base : Nat) (img : List Byte) (t : Nat) : List (Nat × Nat) :=
  (base, tableLen img) :: (tileSects img t).map (fun x => (base + x.off, x.len))

/-- The store's bytes read for tile `t`'s restart (R283, R286, R330): a poisoned word that is read raises event 51. -/
def State.storeRead (s : State) (base : Nat) (img : List Byte) (t : Nat) : State :=
  let s := (storePlaces base img t).foldl (fun s p => s.memTouch p.1 p.2) s
  if (storePlaces base img t).any (fun p => s.poisoned p.1 p.2) then s.raiseMem 51 else s

/-- The numbers of tile `t`'s sections in the bank that cannot be applied: SCRC fails or a word is poisoned (R330). -/
def State.sectsBad (s : State) (base : Nat) (img : List Byte) (t : Nat) : List Nat :=
  ((tileSects img t).filter (fun x => !x.crcOk img || s.poisoned (base + x.off) x.len)).map (fun x => x.num)

/-! ## Checks of a whole image -/

/-- A refusal: code, section (0xFF none), image offset or register address (R329). -/
abbrev Refuse : Type := Nat × Nat × Nat

/-- The section number of HUB_REGS or of tile `t`'s TILE_REGS. -/
def numOf (img : List Byte) (kind unit : Nat) : Nat := ((sectsOf img kind unit).map (fun x => x.num)).headD 0xFF

/-- The section that gives a register: its tile's TILE_REGS or HUB_REGS. -/
def sectOfAddr (img : List Byte) (a : Nat) : Nat :=
  if 0x40000000 ≤ a ∧ a < 0x40800000 then numOf img kTileRegs ((a - 0x40000000) / 0x100000)
  else if 0x60000000 ≤ a ∧ a < 0x60080000 then numOf img kTileRegs ((a - 0x60000000) / 0x10000)
  else numOf img kHubRegs 0xFF

/-- LAYOUT without the places that registers give (R319, R321, R322). -/
def layoutRefuse (img : List Byte) : Option Refuse :=
  match (sections img).find? (fun x => x.bad img) with
  | some x => some (rcLayout, x.num, x.off)
  | none => if layoutBad img then some (rcLayout, 0xFF, 128) else none

/-- BAD_ADDRESS and NOT_LOADABLE: the first word that may not go where it is addressed. -/
def wordsRefuse (img : List Byte) : Option Refuse :=
  ((sections img).filter (fun x => x.kind == kHubRegs || x.kind == kTileRegs)).findSome? (fun x =>
    ((x.words img).find? (fun c => wordRefusal (if x.kind = kTileRegs then x.unit else 0xFF) c.1 != 0)).map
      (fun c => (wordRefusal (if x.kind = kTileRegs then x.unit else 0xFF) c.1, x.num, c.1)))

/-- SIGNATURE, UNSIGNED and TRUST_MISMATCH (R324). -/
def State.trustRefuse (s : State) (img : List Byte) : Option Refuse :=
  let o := imgSig img
  let set := s.isSet F.COM_USED_TRUST_SET
  let key := (List.range 8).flatMap (fun w => leBytes 4 (s.get (F.COM_TRUST_KEY w)))
  if imgSigned img then
    if set && sha256 (cut img o 32) != key then some (rcTrust, 0xFF, o)
    else if ed25519 (cut img o 32) (cut img (o + 32) 64) (img.take o) then none
    else some (rcSignature, 0xFF, o + 32)
  else if set then some (rcUnsigned, 0xFF, 14) else none

/-- The places in hub memory that an image takes, each with the section concerned and the image offset or register that gives it (R322, R329): the store, code
and data, hub queues, rings. -/
def State.placesOfImage (s : State) (img : List Byte) : List ((Nat × Nat) × Nat × Nat) :=
  ((imgStore img, 0x100000), 0xFF, 16)
    :: ((sections img).filter (fun x => x.kind == kVatCode || x.kind == kHubData)).map (fun x => ((x.place img, x.len - 4), x.num, x.off))
  ++ (List.range 16).map (fun n => ((s.get (F.Q_BASE_BASE (48 + n)), s.qSize (48 + n)), numOf img kHubRegs 0xFF, R.Q_BASE (48 + n)))
  ++ (s.hubRingDescs (tilesOf img)).map (fun x => (s.ringOf x.1 x.2, sectOfAddr img (R.LAD_D_RING_BASE x.1 x.2), R.LAD_D_RING_BASE x.1 x.2))

/-- The final values break a rule of another chapter, or the places that they give overlap (R322, R329). -/
def State.configRefuse (s : State) (img : List Byte) : Option Refuse :=
  let f := s.withImage img
  match firstMeet [] (f.placesOfImage img) with
  | some (sect, addr) => some (rcLayout, sect, addr)
  | none => match firstAddr (f.configRules (tilesOf img) (hubPlaces img)) with
    | some a => some (rcConfig, sectOfAddr img a, a)
    | none => none

/-- The tiles that a changeover from `old` to `new` reloads, in order (R411). -/
def reloadTiles (old new : List Byte) : List Nat :=
  (List.range 8).filter (fun t => (hasTile old t || hasTile new t) && !keepTile new t)

/-- An intermediate state of the reload order breaks a load limit (R331): the tile whose reload leads to it. -/
def State.orderRefuse (s : State) (old new : List Byte) : Option Refuse :=
  let f := s.withImage new
  let order := reloadTiles old new
  ((List.range order.length).findSome? (fun n =>
    let moved := order.take (n + 1)
    let loads := (List.range 8).map (fun t =>
      if moved.contains t || keepTile new t then (if hasTile new t then f.tileLoad t else (0, 0))
      else if hasTile old t then s.tileLoad t else (0, 0))
    if loadsBad loads then some (order.getD n 0) else none)).map (fun t => (rcConfig, numOf new kTileRegs t, R.CELL_EXC_LIM (4 * t)))

/-- Registers of the hub that kept tile `t` uses (R410). -/
def State.keptUses (s : State) (t : Nat) : List Nat :=
  let groups := (List.range 4).filter (fun g => s.isSet (F.CHURN_GRP_CFG_EN t g))
  let rules := (List.range 64).filter (fun r => s.isSet (F.CHURN_RULE_COND_EN t r))
  let srcs := groups.map (fun g => s.get (F.CHURN_GRP_CFG_SRC t g)) ++ rules.map (fun r => s.get (F.CHURN_RULE_TARGET_SRC t r))
    ++ (cellsOf t).flatMap (fun c => ((List.range 4).filter (fun i => s.get (F.CELL_LEAD_SCHED_MODE c i) == 2)).map
        (fun i => s.get (F.CELL_LEAD_SCHED_SRC c i)))
    ++ ((List.range 16).filter (fun i => s.isSet (F.CH_RST_SCHED_EN (16 * t + i)))).map (fun i => s.get (F.CH_RST_SCHED_SRC (16 * t + i)))
  srcs.flatMap (fun n => if n < 4 then [R.CAP_ENC_CFG n, R.CAP_ENC_CPC n, R.CAP_ENC_INDEX n] else [R.HERD_SUB_CFG (n - 4)])
  ++ (rules.filter (fun r => s.isSet (F.CHURN_RULE_TARGET_SELF t r) || s.get (F.CHURN_RULE_TARGET_ADDR t r) == s.line)).flatMap (fun r =>
      ((List.range 16).filter (fun n => s.isSet (F.HERD_RUC_CFG_EN n)
          && s.get (F.HERD_RUC_CFG_OUTPUT n) == s.get (F.CHURN_RULE_TARGET_OUTPUT t r))).flatMap
        (fun n => [R.HERD_RUC_CFG n, R.HERD_RUC_ON n, R.HERD_RUC_OFF n]))

/-- KEEP_MISMATCH (R331, R410). -/
def State.keepRefuse (s : State) (old new : List Byte) : Option Refuse :=
  let f := s.withImage new
  ((List.range 8).filter (keepTile new)).findSome? (fun t =>
    if !(sameSects old new kTileRegs t && sameSects old new kPailCode t && sameSects old new kTileData t) then
      some (rcKeep, numOf new kTileRegs t, ((sectsOf new kTileRegs t).map (fun x => x.off)).headD 0)
    else ((s.keptUses t ++ f.keptUses t).find? (fun a => (s.rd a &&& loadMask a) != (f.rd a &&& loadMask a))).map
      (fun a => (rcKeep, numOf new kHubRegs 0xFF, a)))

/-- Every check between the signature and the commit, in the order of R329's codes. -/
def State.checkRefuse (s : State) (staging : Bool) (img : List Byte) : Option Refuse :=
  let old := s.runningImage
  (layoutRefuse img).orElse (fun _ => (wordsRefuse img).orElse (fun _ => (s.configRefuse img).orElse (fun _ =>
    if staging then
      if imgStore img ≠ s.get F.KEY_STORE_BASE then some (rcPlace, 0xFF, 16)
      else (s.orderRefuse old img).orElse (fun _ => s.keepRefuse old img)
    else none)))

/-! ## What a load shows and starts -/

/-- The registers of the running image (R326, R340), with the next generation. -/
def State.imageShow (s : State) (img : List Byte) : State :=
  let s := ((s.put F.KEY_IMAGE_IMAGE_LEN (imgLen img)).put F.KEY_IMAGE_NSECT (imgNsect img)).putB F.KEY_IMAGE_SIGNED (imgSigned img)
  let s := (s.putB F.KEY_IMAGE_TRUSTED (imgSigned img && s.isSet F.COM_USED_TRUST_SET)).wr R.KEY_HDR_CRC (imgHdrCrc img)
  let s := (List.range 4).foldl (fun s w => s.wr (R.KEY_NAME w) (w32 (leAt img (24 + 4 * w) 4))) (s.wr R.KEY_STORE (w32 (imgStore img)))
  s.wr R.KEY_VER (w32 (leAt img 40 4))

/-- A load has been applied: its LT, its count, its generation (R326, R340). -/
def State.loadDone (s : State) : State :=
  ((s.putPair R.KEY_LOAD_LT_LO s.lt).incSat F.KEY_CNT_LOADS).put F.KEY_GEN_GEN (nextGen s.gen)

/-- MOD_TILE's KEEP bits (R416). -/
def State.keepShow (s : State) (img : List Byte) : State :=
  s.put F.MOD_TILE_KEEP (((List.range 8).filter (keepTile img)).foldl (fun x t => x + 2 ^ t) 0)

/-- Tile `t` starts (R91, R122, R187, R224, R248): its pail core, its timers, its cells, its churn engine, its mains tracker, unlocked and with no estimate
from before. -/
def State.tileStart (s : State) (t : Nat) : State :=
  let s := ((s.tileUp t).setDom (domAfe t) domOn).coreStart t 0#32
  let s := { s.timersStart t with mainsRun := tabSet (fun _ => []) t [] s.mainsRun }
  let s := ((s.put (F.MAINS_STAT_LOCKED t) 0).put (F.MAINS_STAT_USING_CH t) 0).put (F.MAINS_FREQ_FREQ_MILLIHZ t)
    (if s.isSet (F.MAINS_CFG_START_HZ t) then 60000 else 50000)
  (cellsOf t).foldl State.cellConfigure (s.churnStart t true)

/-- The vat core starts from the image's VAT_CODE (R248). -/
def State.vatStart (s : State) (img : List Byte) : State :=
  s.coreStart vat (w32 (((sectsOf img kVatCode 0xFF).map (fun x => x.place img)).headD 0))

/-- A two-wire port goes OFF and starts (R336, R337). -/
def State.twStart (s : State) (p : Nat) : State :=
  let en := s.isSet (F.TW_CFG_SUP_EN p)
  let s := if en then s.twRail p true else s
  let s := (((s.put (F.TW_STAT_STATE p) 0).put (F.TW_STAT_CAUSE p) 0).put (F.TW_STAT_ATTEMPTS p) 0).put (F.TW_STAT_AUTO_SPENT p) 0
  { s with tws := tabSet (fun _ => TwSt.off) p (if en then { TwSt.off with supply := true, at_ := s.lt, starting := true } else TwSt.off) s.tws }

/-- The fields a load sets differ between two states at these addresses. -/
def loadDiffers (a b : State) (l : List Nat) : Bool := l.any (fun x => (a.rd x &&& loadMask x) != (b.rd x &&& loadMask x))

/-- A load that changes the host store's place (R366): the store is emptied into one GAP per area and the session ends. -/
def State.storeMoved (s : State) : State :=
  let h := s.host
  let area (raw : Bool) : List Rec := (h.batches.filter (fun b => b.raw == raw)).flatMap (fun b => b.recs) ++ h.open_ raw
  let s := s.setHost { h with ctrl := [], ctrlAt := 0, raw := [], rawAt := 0, batches := [], drops := h.drops + ((area false ++ area true).filter (fun r => !r.isGapMark)).length }
  let plain (raw : Bool) := (area raw).filter (fun r => r.ty != tyMark)
  let lost := [recsBytes (plain false), recsBytes (plain true)]
  let s := ((s.setFill false 0).setFill true 0).showOutstanding.showCum
  let s := [false, true].foldl (fun s raw =>
    let p := (area raw).foldl (fun p r => PendGap.addAll r p) PendGap.empty
    let s := (gapPieces (p.entries.length + 1) p.entries).foldl (fun s es =>
      let r := s.gapRec (s.source 7 0x82) causeStore 0xFF es
      (s.takeSeq r.key).areaEnter raw r) s
    p.marks.foldl (fun s r => s.areaEnter raw r) s) s
  (s.setSession ssNone).logWrite kStoreLost noEvent (w32 (lost.headD 0)) (w32 (lost.getD 1 0)) 0#32

/-- A subscription whose owner changes starts without a source (R164); one that was available goes away (R233). -/
def State.subsChanged (old s : State) : State :=
  State.watchNote <| [0, 1, 2, 3].foldl (fun (s : State) n =>
    if loadDiffers old s [R.HERD_SUB_CFG n] then
      let s := if s.isSet (F.HERD_SUB_CFG_AVAILABLE n) then s.sourceGone (4 + n) else s
      (s.put (F.HERD_SUB_CFG_AVAILABLE n) 0).setSrc (4 + n) Source.start
    else s) s

/-- What a hub section's change sets off (R164, R336, R366). -/
def State.hubChanged (old s : State) : State :=
  let s := State.subsChanged old s
  let s := (List.range 8).foldl (fun s p => if loadDiffers old s [R.TW_CFG p] then (s.twOff p).twStart p else s) s
  if loadDiffers old s [R.HOST_STORE_BASE, R.HOST_STORE_SIZE] && decide (0 < old.gen) then s.storeMoved else s

end Sys2Proof.Machine
end

