-- ==== Sys2Proof/Machine/Changeover.lean ====
section
/-! DEFINITION. Reload and changeover (R408 to R414), and applying an image at power-up (R327). -/

namespace Sys2Proof.Machine

/-- The state with the reload or changeover replaced. -/
def State.setCo (s : State) (c : CoSt) : State := { s with co := c }
/-- The state with the key port's part replaced. -/
def State.setKey (s : State) (k : KeySt) : State := { s with key := k }

/-! ## Requests -/

/-- A mode in which a changeover is accepted (R410). -/
def State.coMode (s : State) : Bool := [mRun, mWatch, mHoldover, mDegraded].contains s.mode

/-- A changeover to the staged image is asked for (R410); to the same image it changes nothing (R325). -/
def State.coAsk (s : State) : State :=
  if s.coMode && s.co.phase == 0 && s.key.staged.isSome && !sameImage s.runningImage s.stagedImage then
    s.setCo { CoSt.rest with phase := 7, at_ := s.lt }
  else s

/-- A reload to the staged image is asked for (R408). -/
def State.reloadAsk (s : State) : State :=
  if s.co.phase == 0 && s.key.staged.isSome then s.setCo { CoSt.rest with phase := 1, at_ := s.lt } else s

/-! ## Applying a whole image (R327, R408) -/

/-- A tile without sections: its domains off (R322). -/
def State.tileUnused (s : State) (t : Nat) : State :=
  let s := if s.dom (domAfe t) = domOff then s else s.afeLower t domOff
  let s := if s.dom (domTile t) = domOff then s else s.tileLower t domOff
  (s.setTileRun t TileRun.rest).setTile t 0

/-- A tile with sections takes them; one whose baseline failed stays out of service (R380, R442). -/
def State.tileTake (s : State) (img : List Byte) (t : Nat) : State :=
  let bad := s.boot.badTiles.contains t
  let s := if bad then s.tileOutLog t tcBaseline 0#32 else s
  let s := (s.setTileRun t TileRun.rest).setTile t (if bad then 2 else 1)
  let s := ((s.tileUp t).setDom (domAfe t) domOn).tileRegs img t
  let s := s.tileFill img t
  if bad then s.tileForceOff t else s

/-- PWR_REQ shows the states in force after a load (R382). -/
def State.reqShow (s : State) : State := (s.put F.PWR_REQ_T (s.get F.PWR_STATE_T)).put F.PWR_REQ_H (s.get F.PWR_STATE_H)

/-- Hub and tiles take an image (R327); LOG records that waited leave, or are dropped with LOG_CFG.REC_EN 0 (R435). -/
def State.imageApply (s : State) (img : List Byte) : State :=
  let old := s
  let s := (s.hubRegs img).hubPlace img
  let s := (List.range 8).foldl (fun s t => if hasTile img t then s.tileTake img t else s.tileUnused t) s
  let s := (s.hubChanged old).imageShow img
  let s := s.loadDone.keepShow img
  let s := (s.freshStreams s.usedStreams).reqShow
  if s.isSet F.LOG_CFG_REC_EN then s.logLeave else { s with logUnsent := [] }

/-- A lane is removed or changed (R413): its reserve is freed; armed entries stay. -/
def State.laneDrop (s : State) (n : Nat) : State :=
  { s with acts := s.acts.filter (fun c => !(c.2.state == 3 && c.2.laneNo == n)) }.setLane n Lane.start

/-- Cores, cells, captures and lanes start after a load (R91, R170, R213, R248); reserves of the lanes before it are freed. -/
def State.coresStart (s : State) (img : List Byte) : State :=
  let s := (List.range 16).foldl State.laneDrop s
  let s := (List.range 8).foldl (fun s t => if s.tileState t = 1 then s.tileStart t else s) s
  let s := (s.vatStart img).capsStart
  (List.range 16).foldl (fun s n => if s.isSet (F.HERD_RUC_CFG_EN n) then s.laneStart n else s) s

/-- At the load's end the outputs of lanes that started without their source go to REJ_LEVEL (R170), since the mode no longer inhibits it. -/
def State.lanesHold (s : State) : State :=
  (List.range 16).foldl (fun s n =>
    if s.isSet (F.HERD_RUC_CFG_EN n) && !s.srcAvail (s.get (F.HERD_RUC_CFG_SRC n)) then s.laneHold n else s) s

/-- The banks change roles (R330). -/
def State.bankSwap (s : State) : State :=
  ((s.put F.KEY_STAT_BANK (1 - s.get F.KEY_STAT_BANK)).wr R.KEY_STAGED_CRC 0#32).setKey { s.key with staged := none }

/-! ## Reload (R408) -/

/-- A reload begins: KEY_LOAD, the action table flushed, tiles and the vat core stopped, AFE domains off. The TILE domains go off with the
drain's end, since their queues have to drain first. -/
def State.reloadStart (s : State) : State :=
  let img := s.stagedImage
  let s := s.stagedTouch.pwrForce
  let s := s.setCo { phase := 2, at_ := s.lt, img := img, oldTiles := tilesOf s.runningImage, moved := [] }
  let s := ((s.setCond mKeyLoad true).setRun false).flushActs.capsStop
  let s := (List.range 8).foldl (fun s t =>
    if s.tileState t = 0 then s
    else ((s.tileHalt t).afeLower t domOff).setTileRun t TileRun.rest) s
  (s.coreStop vat).put F.KEY_STAT_STATE 3

/-- The drain ends (R408, R412): what is left dropped, the tiles off, captures held, a GENERATION MARK in every stream used. -/
def State.reloadDrained (s : State) : State :=
  let s := (List.range 8).foldl (fun s t => if s.dom (domTile t) = domOff then s else s.tileCut t) s
  let s := s.markGen (nextGen s.gen) s.usedStreams
  s.setCo { s.co with phase := 3 }

/-- The staged bank is applied (R408). -/
def State.reloadApply (s : State) : State :=
  let img := s.co.img
  ((s.imageApply img).bankSwap).setCo { s.co with phase := 6 }

/-! ## Changeover (R411 to R414) -/

/-- The hub queues whose place an image changes (R411). -/
def State.movedBy (s : State) (img : List Byte) : List Nat :=
  let f := s.hubRegs img
  ((List.range 16).map (48 + ·)).filter (fun q => loadDiffers s f [R.Q_BASE q, R.Q_SIZE q])

/-- A changeover is accepted at C: the vat core stops; hub queues whose place changes are to drain, and nothing comes into them (R411). -/
def State.coAccept (s : State) : State :=
  let old := s.runningImage
  let img := s.stagedImage
  let s := s.runningTouch.stagedTouch
  let s := s.setCo { phase := 4, at_ := s.lt, img := img, oldTiles := tilesOf old, moved := s.movedBy img }
  let s := (s.put F.MOD_CO_ACTIVE 1).put F.MOD_CO_HUB_DONE 0
  let s := (s.put F.MOD_CO_TODO ((reloadTiles old img).foldl (fun x t => x + 2 ^ t) 0)).put F.MOD_CO_DONE 0
  (s.setCond mChangeover true).coreStop vat

/-- The changeover ends: the bank roles change (R411), event 57 (R339), a waiting insertion may stage (R414). -/
def State.coEnd (s : State) : State :=
  let img := s.co.img
  let s := (s.bankSwap.imageShow img).incSat F.KEY_CNT_LOADS
  let s := (s.putPair R.KEY_LOAD_LT_LO s.lt).incSat F.MOD_CNT_CHANGEOVERS
  let s := (s.put F.KEY_EVT_LOAD_SEEN 1).raise 57
  ((s.put F.MOD_CO_ACTIVE 0).setCo CoSt.rest |>.put F.KEY_STAT_STATE 0).reqShow.setCond mChangeover false

/-- The changeover ends once no tile is left to reload. -/
def State.coCheck (s : State) : State := if s.co.phase = 5 && s.get F.MOD_CO_TODO == 0 then s.coEnd else s

/-- Lane `n`'s loadable registers. -/
def laneRegs (n : Nat) : List Nat := [R.HERD_RUC_CFG n, R.HERD_RUC_ON n, R.HERD_RUC_OFF n]

/-- The registers that configure capture unit `u`. -/
def unitRegs (u : Nat) : List Nat :=
  if u < 36 then [R.CAP_IN_CFG u] else [R.CAP_ENC_CFG (u - 36), R.CAP_ENC_CPC (u - 36), R.CAP_ENC_INDEX (u - 36)]

/-- The capture units that `new` changes stop and deliver their records where they were to go (R215, R413). -/
def State.unitsStop (s new : State) : State :=
  (List.range 40).foldl (fun x u => if loadDiffers s new (unitRegs u) then x.capStop u else x) s

/-- What of the hub starts anew where the new image changes it (R413): capture inputs, encoders, then lanes, which see the sources as they are from H on
(R170). -/
def State.hubRestarts (old s : State) : State :=
  let s := (List.range 16).foldl (fun s n =>
    if loadDiffers old s (laneRegs n) && old.isSet (F.HERD_RUC_CFG_EN n) then s.laneDrop n else s) s
  let s := (List.range 36).foldl (fun s i => if loadDiffers old s (unitRegs i) then s.inputStart i else s) s
  let s := [0, 1, 2, 3].foldl (fun s e => if loadDiffers old s (unitRegs (36 + e)) then s.encStart e else s) s
  (List.range 16).foldl (fun s n =>
    if loadDiffers old s (laneRegs n) && s.isSet (F.HERD_RUC_CFG_EN n) then s.laneStart n else s) s

/-- Hub queues whose place changes are emptied (R411): what each still holds leaves as GAP records with CAUSE FULL in its new place. -/
def State.queuesMoved (s : State) : State × List (Nat × Rec) :=
  s.co.moved.foldl (fun (a : State × List (Nat × Rec)) q =>
    let (s, rs) := a.1.dumpQueue q
    (s, a.2 ++ rs.map (fun r => (q, r)))) (s, [])

/-- The hub switch may end (R411): the queues that move have drained, or 100 ms have passed. -/
def State.movedReady (s : State) : Bool := s.co.moved.all s.drained || decide (s.co.at_ + 100000000 ≤ s.lt)

/-- The hub switch ends at H (R411): HUB_REGS written, hub code placed, the generation changes in hub streams and kept tiles' streams, the
vat core starts. -/
def State.hubSwitch (s : State) : State :=
  let img := s.co.img
  let old := s
  let s := s.unitsStop (s.hubRegs img)
  let (s, moved) := s.queuesMoved
  let s := ((s.setCo { s.co with moved := [] }).hubRegs img).hubPlace img
  let s := moved.foldl (fun s m => s.qCommit m.1 m.2) s
  let s := s.hubChanged old
  let keys := s.usedStreams.filter (fun k => !(List.range 8).any (fun t => s.bit F.MOD_CO_TODO t && keyOfTile t k))
  let s := s.markGen (nextGen s.gen) keys
  let s := (s.put F.KEY_GEN_GEN (nextGen s.gen)).freshStreams keys
  let s := (s.keepShow img).hubRestarts old
  let s := ((s.vatStart img).put F.MOD_CO_HUB_DONE 1).setCo { s.co with phase := 5 }
  s.coCheck

/-- The tile whose turn it is: the least one still to reload. -/
def State.coTurn (s : State) : Option Nat := (List.range 8).find? (fun t => s.bit F.MOD_CO_TODO t)

/-- Tile `t`'s turn comes (R411, R412): its work stops, or, without sections in the old image, its domains are raised. -/
def State.tileTurn (s : State) (t : Nat) : State :=
  let s := ((s.put F.MOD_CO_TILE t).put F.PWR_STAT_BUSY 1)
  let r := s.tileRun t
  if s.co.oldTiles.contains t then
    ((s.tileHalt t).setTile t 3).setTileRun t { phase := 4, at_ := s.lt, starts := r.starts, failed := false }
  else (((s.tileUp t).setDom (domAfe t) domOn).setTile t 3).setTileRun t { phase := 5, at_ := s.lt, starts := [], failed := false }

/-- The tile's queues have drained (R412): what is left dropped, GENERATION MARKs behind any GAP. -/
def State.tileTurnDrained (s : State) (t : Nat) : State :=
  let s := if s.domIsOn (domTile t) then s.tileDrop t else s
  let keys := s.usedStreams.filter (keyOfTile t)
  let s := (s.markGen s.gen keys).freshStreams keys
  s.setTileRun t { s.tileRun t with phase := 5 }

/-- Tile `t` has been reloaded, left off or left out: the next turn or the end follows. -/
def State.tileTurnEnd (s : State) (t : Nat) : State :=
  let s := (s.clearBit F.MOD_CO_TODO t).setBit F.MOD_CO_DONE t
  let s := if s.pwr.run = 0 then s.put F.PWR_STAT_BUSY 0 else s
  (s.setTileRun t { s.tileRun t with phase := 0, failed := false }).coCheck

/-- The new sections of tile `t` are applied (R412, R321). -/
def State.tileTurnTake (s : State) (img : List Byte) (t : Nat) : State :=
  let s := ((s.tileUp t).setDom (domAfe t) domOn).tileRegs img t
  (s.tileFill img t).setTileRun t { s.tileRun t with phase := 6 }

/-- Tile `t`'s sections applied (R321, R425); its restart waits to start. -/
def State.restartTake (s : State) (img : List Byte) (t : Nat) : State :=
  ((s.tileRegs img t).tileFill img t).setTileRun t { s.tileRun t with phase := 3 }

end Sys2Proof.Machine
end

