-- ==== Sys2Proof/Machine/Key.lean ====
section
/-! DEFINITION. The key port's operations (R315 to R331, R338): reading an image, refusing it, staging, hangs and supply cycles. -/

namespace Sys2Proof.Machine

/-- STATE values of KEY_STAT (R340). -/
abbrev ksIdle : Nat := 0
abbrev ksReading : Nat := 1
abbrev ksChecking : Nat := 2
abbrev ksApplying : Nat := 3
abbrev ksStaged : Nat := 4
abbrev ksHung : Nat := 5
abbrev ksCycling : Nat := 6
abbrev ksRefused : Nat := 7

/-- The key port's job ends; KEY_VCC goes off. -/
def State.keyRest (s : State) (st : Nat) : State :=
  let s := s.keyVcc false
  (s.put F.KEY_STAT_STATE st).setKey { s.key with job := 0, staging := false, want := 0, img := [], block := 0, tries := 0, hdrTwice := false,
                                                  secTwice := [], trusted := false, cycle := none, hung := false, tile := none, sects := [] }

/-- Tile `t`'s sections can be had neither from the store nor from the key (R330, R412): it stays out of service; one in reload has failed. -/
def State.tileLost (s : State) (t : Nat) : State :=
  let phase := (s.tileRun t).phase
  if phase = 5 then let s := s.tileNoSection t; s.setTileRun t { s.tileRun t with failed := true }
  else if phase = 2 then s.tileNoSection t
  else s

/-- A read of tile sections ends without them (R330); another read concerns no tile. -/
def State.tileUnread (s : State) (t : Option Nat) : State := match t with | some t => s.tileLost t | none => s

/-- What KEY_STAT shows beside a running generation: an image is staged or none is. -/
def State.keyQuiet (s : State) : Nat := if s.key.staged.isSome then ksStaged else ksIdle

/-- A refusal (R329): KEY_RESULT, its trouble-log entry, event 57; a staged image is discarded; a tile whose sections were wanted is lost. `st` is what KEY_STAT
shows then. -/
def State.keyRefuseTo (s : State) (r : Refuse) (st : Nat) : State :=
  let stg := s.key.staging
  let tile := s.key.tile
  let s := (((s.put F.KEY_RESULT_CODE r.1).put F.KEY_RESULT_SECTION r.2.1).putB F.KEY_RESULT_STAGING stg).wr R.KEY_RESULT_ADDR (w32 r.2.2)
  let s := (s.incSat F.KEY_CNT_REFUSALS).put F.KEY_EVT_REFUSED_SEEN 1
  let s := s.logWrite kKey 57 (w32 (r.1 + 256 * r.2.1 + (if stg then 65536 else 0))) (w32 r.2.2) 0#32
  let s := s.raise 57
  let s := if stg then (s.wr R.KEY_STAGED_CRC 0#32).setKey { s.key with staged := none } else s
  (s.keyRest st).tileUnread tile

/-- A refusal: at power-up the module stays in KEY_LOAD; in staging or at a tile's restart the generation runs on. -/
def State.keyRefuse (s : State) (r : Refuse) : State :=
  s.keyRefuseTo r (if s.key.staging then ksIdle else if s.key.tile.isSome then s.keyQuiet else ksRefused)

/-! ## Reading -/

/-- A load, a staging or the read of sections `sects` of a tile begins (R325, R327, R330): KEY_VCC on; the reading starts 5 ms later. With no key it is
refused. -/
def State.keyStart (s : State) (staging : Bool) (want : Nat) (tile : Option Nat) (sects : List Nat) : State :=
  let s := s.setKey { s.key with staging := staging, want := want, tile := tile, sects := sects }
  if s.isSet F.KEY_STAT_PRESENT then
    let s := (if s.domIsOn domKey then s else s.keyRaise).keyVcc true
    (s.put F.KEY_STAT_STATE ksReading).setKey { s.key with job := 1, at_ := s.lt, img := [], block := 0, tries := 0, hdrTwice := false,
                                                           secTwice := [], trusted := false, cycle := none, hung := false }
  else s.keyRefuse (rcNoKey, 0xFF, 0)

/-- A load or a staging begins. -/
def State.keyBegin (s : State) (staging : Bool) (want : Nat) : State := s.keyStart staging want none []

/-- A staging is asked for: while nothing is read, checked or changed over. A hung port answers HUNG (R334, R338). -/
def State.keyStage (s : State) (want : Nat) : State :=
  if s.key.job = 0 && s.co.phase == 0 && s.isSet F.MOD_STATUS_RECIPE && s.key.cycle.isNone && !s.domAgreed domKey then
    if s.get F.KEY_STAT_STATE = ksHung then
      (s.setKey { s.key with staging := true, want := want }).keyRefuseTo (rcHung, 0xFF, 0) ksHung
    else s.keyBegin true want
  else s

/-- An insertion that waited for a changeover, a reload or a running job of the key to end is staged (R325, R414). -/
def State.keyWaits (s : State) : State :=
  if s.key.waits && s.co.phase == 0 && s.key.job == 0 && !s.domAgreed domKey then
    let s := s.setKey { s.key with waits := false }
    if s.isSet F.KEY_STAT_PRESENT then s.keyStage 0 else s
  else s

/-- The bytes read so far of the block that is read. -/
def KeySt.got (k : KeySt) : Nat := k.img.length - 65536 * k.block

/-- What is wanted of an image whose header and table `img` begins with: all of it, or header, table and a tile's sections (R325, R330). -/
def KeySt.ranges (k : KeySt) (img : List Byte) : List (Nat × Nat) :=
  match k.tile with
  | none => [(0, imgLen img)]
  | some _ => (0, tableLen img) :: k.sects.map (fun i => ((sectAt img i).off, (sectAt img i).off + (sectAt img i).len))

/-- The image bytes wanted of block `b`: the first, and the one behind the last (R315, R317). -/
def KeySt.need (k : KeySt) (img : List Byte) (b : Nat) : Option (Nat × Nat) :=
  let l := ((k.ranges img).map (fun r => (max r.1 (65536 * b), min r.2 (65536 * (b + 1))))).filter (fun r => decide (r.1 < r.2))
  if l.isEmpty then none else some (l.foldl (fun m r => min m r.1) (65536 * (b + 1)), l.foldl (fun m r => max m r.2) 0)

/-- The bytes that must have arrived before it is known how many are wanted: the header, and for a tile's sections the table. -/
def KeySt.head (k : KeySt) (img : List Byte) : Nat := if img.length < 128 || k.tile.isNone then 128 else tableLen img

/-- The transfer of the running block begins, or goes on from the byte at which it stopped (R315, R317, R328). -/
def State.keyRead (s : State) : State :=
  let k := s.key
  let n := if k.img.length < k.head k.img then none else (k.need k.img k.block).map (fun r => r.2 - k.img.length)
  (s.setKey { k with job := 2 }).emit (.keyRead (0x50 + k.block) k.got n)

/-- A retry of a block or a CRC (R328). -/
def State.keyRetry (s : State) (k : KeySt) : State := ((s.put F.KEY_EVT_RETRY_SEEN 1).setKey k).keyRead

/-- Tile `t` takes its sections (R321, R412, R425); its restart or its reload waits to start. -/
def State.tileSections (s : State) (img : List Byte) (t : Nat) : State :=
  if (s.tileRun t).phase = 5 then s.tileTurnTake img t else s.restartTake img t

/-- The bank, the length and the HDR_CRC of the image that tile `t` is to run (R330). -/
def State.tileImage (s : State) (t : Nat) : Nat × Nat × Word :=
  let bn := if (s.tileRun t).phase = 5 then (1 - s.get F.KEY_STAT_BANK, s.co.img.length) else s.restartImage t
  (bn.1, bn.2, if bn.1 = s.get F.KEY_STAT_BANK then s.rd R.KEY_HDR_CRC else s.rd R.KEY_STAGED_CRC)

/-- The sections that tile `t` wanted have been read from the key (R330): where HDR_CRC and their entries equal those of the image that the tile is to run, they
repair the store and the tile takes its sections; event 57 (R339). -/
def State.keyTileEnd (s : State) (t : Nat) : State :=
  let k := s.key
  let (bank, n, hdr) := s.tileImage t
  let base := s.bankAt bank
  let img := s.bytes base n
  let waits := ((s.tileRun t).phase == 2 && s.dom (domTile t) != domOff) || (s.tileRun t).phase == 5
  let s := (s.keyRest s.keyQuiet).raise 57
  if imgHdrCrc k.img == hdr && k.sects.all (fun i => sectAt k.img i == sectAt img i) then
    let s := (k.sects.map (sectAt img)).foldl (fun s x => s.store (base + x.off) (x.bytes k.img)) s
    let s := s.put F.KEY_EVT_LOAD_SEEN 1
    if waits then s.tileSections (s.bytes base n) t else s
  else s.tileLost t

/-- Everything wanted has been read: every SCRC is checked (R327, R328). -/
def State.keyReadAll (s : State) : State :=
  let k := s.key
  let l := match k.tile with | some _ => k.sects.map (sectAt k.img) | none => sections k.img
  match l.find? (fun x => decide (x.off + x.len ≤ imgLen k.img) && !x.crcOk k.img) with
  | some x =>
    if k.secTwice.contains x.num then s.keyRefuse (rcSectionCrc, x.num, x.off)
    else
      let b := x.off / 65536
      s.keyRetry { k with secTwice := k.secTwice ++ [x.num], img := k.img.take (((k.need k.img b).getD (65536 * b, 0)).1), block := b, tries := 0 }
  | none =>
    match k.tile with
    | some t => s.keyTileEnd t
    | none => (s.put F.KEY_STAT_STATE ksChecking).setKey { k with job := 3, at_ := s.lt }

/-- Bytes of the running block have arrived up to its end (R317, R318, R327). With fewer than the block needs, nothing has ended. -/
def State.keyBlock (s : State) (bytes : List Byte) : State :=
  let k := s.key
  let img := k.img ++ bytes
  if img.length < k.head img then s
  else if k.block = 0 && !headerCrcOk img then
    if k.hdrTwice then s.keyRefuse (rcHeaderCrc, 0xFF, 124)
    else s.keyRetry { k with hdrTwice := true, img := [], tries := 0 }
  else match (if k.block = 0 then headerBad img else none) with
    | some o => s.keyRefuse (rcBadHeader, 0xFF, o)
    | none =>
      let total := ((k.need img k.block).getD (0, 0)).2
      if img.length < total then s
      else
        let k := { k with img := img.take total, tries := 0 }
        match (List.range 8).find? (fun b => decide (k.block < b) && (k.need img b).isSome) with
        | some b =>
          let from_ := ((k.need img b).getD (0, 0)).1
          (s.setKey { k with block := b, img := k.img ++ List.replicate (from_ - k.img.length) 0#8 }).keyRead
        | none => (s.setKey k).keyReadAll

/-- A block's read has failed after `got` more bytes (R328). -/
def State.keyFail (s : State) (got : List Byte) : State :=
  let k := s.key
  if k.tries < 2 then s.keyRetry { k with tries := k.tries + 1, img := k.img ++ got }
  else s.keyRefuse (rcNoAnswer, 0xFF, k.img.length + got.length)

/-- Sections `l` of tile `t` are wanted of the inserted key (R325, R330): their read begins; while another read or a cycle runs, or KEY_VCC cannot be used, the
tile waits or is lost. -/
def State.keyForTile (s : State) (t : Nat) (l : List Nat) : State :=
  if !s.isSet F.KEY_STAT_PRESENT then s.tileLost t
  else if s.key.job ≠ 0 || s.key.cycle.isSome || s.domAgreed domKey then s
  else if s.get F.KEY_STAT_STATE = ksHung then (s.setKey { s.key with tile := some t, sects := l }).keyRefuseTo (rcHung, 0xFF, 0) ksHung
  else s.keyStart false 0 (some t) l

/-- Tile `t`'s sections applied from the store, else from the key (R330, R412, R425). -/
def State.tileApply (s : State) (t : Nat) : State :=
  if s.key.tile = some t then s
  else
    let b := s.tileImage t
    let base := s.bankAt b.1
    let img := s.bytes base b.2.1
    let s := s.storeRead base img t
    if s.poisoned base (tableLen img) then s.tileLost t
    else
      let bad := s.sectsBad base img t
      if bad.isEmpty then s.tileSections img t else s.keyForTile t bad

/-- The new image's turn for tile `t` (R412): a tile with none of its sections stays off. -/
def State.tileTurnApply (s : State) (t : Nat) : State :=
  if hasTile s.co.img t then s.tileApply t else (s.tileUnused t).tileTurnEnd t

/-! ## Hangs and supply cycles (R338) -/

/-- A KEY_VCC cycle starts; of the hang's attempts only automatic ones count (R335, R338; DEDUCED, assumption 161). -/
def State.keyCycle (s : State) (auto : Bool) : State :=
  let s := (s.put F.KEY_STAT_STATE ksCycling).incSat F.KEY_CNT_CYCLES
  let s := (if auto then s.incSat F.KEY_STAT_ATTEMPTS else s).keyVcc false
  s.setKey { s.key with cycle := some (s.lt, auto) }

/-- The two-wire entry of the key port (R433). -/
def State.keyTwLog (s : State) (what cause : Nat) : State :=
  (s.logWrite kTwoWire 58 (w32 (8 + 16 * what + 64 * cause)) (w32 (s.get F.KEY_STAT_ATTEMPTS)) 0#32).raise 58

/-- No cycle is left: a read is refused with HUNG. -/
def State.keyHungEnd (s : State) : State :=
  if s.key.hung then s.keyRefuseTo (rcHung, 0xFF, s.key.img.length) (if s.key.staging || s.key.tile.isSome then ksHung else ksRefused)
  else (s.put F.KEY_STAT_STATE ksHung).setKey { s.key with cycle := none }

/-- The line levels that a hang's cause shows (R334, R340): a low SDA, a low SCL; a trip shows none. -/
def State.keyLines (s : State) (cause : Nat) : State :=
  if cause = 0 then s.put F.KEY_STAT_SDA 0 else if cause = 1 then (s.put F.KEY_STAT_SCL 0).put F.KEY_STAT_SDA 1 else s

/-- The key port hangs (R334, R335, R338): event 58, its entry, and a cycle of its own where one of the three is left; a hang before a recovery starts no new
count of three. -/
def State.keyHang (s : State) (cause : Nat) (got : List Byte) : State :=
  let k := s.key
  let again := s.get F.KEY_STAT_STATE == ksHung || k.cycle.isSome
  let s := (s.put F.KEY_EVT_HUNG_SEEN 1).incSat F.KEY_CNT_HANGS
  let s := (if again then s else s.put F.KEY_STAT_ATTEMPTS 0).keyLines cause
  let s := (s.put F.KEY_STAT_STATE ksHung).setKey { k with hung := k.hung || k.job == 1 || k.job == 2, img := k.img ++ got, cycle := none }
  let s := (if cause = 2 then s.keyVcc false else s).keyTwLog 0 cause
  if s.isSet F.KEY_CFG_AUTO_CYCLE && decide (s.get F.KEY_STAT_ATTEMPTS < 3) then s.keyCycle true else s.keyHungEnd

/-- What KEY_STAT shows once the lines are good and no read is to resume: the job that runs, else what stands beside the generation, or the refusal at
power-up (R340). -/
def State.keyShows (s : State) : Nat :=
  if s.key.job = 3 ∨ s.key.job = 4 then ksChecking
  else if s.key.job = 5 ∨ s.key.job = 6 then ksApplying
  else if s.isSet F.MOD_STATUS_RECIPE then s.keyQuiet
  else ksRefused

/-- The lines are sampled 5 ms after KEY_VCC came back (R335, R338). -/
def State.keySample (s : State) (scl sda : Bool) : State :=
  let s := (s.putB F.KEY_STAT_SCL scl).putB F.KEY_STAT_SDA sda
  let k := s.key
  if scl && sda then
    let s := (s.keyTwLog 1 0).setKey { k with cycle := none }
    let s := s.put F.KEY_STAT_ATTEMPTS 0
    if k.hung then
      if k.tries < 2 then (s.put F.KEY_STAT_STATE ksReading).keyRetry { s.key with tries := k.tries + 1, hung := false }
      else s.keyRefuse (rcHung, 0xFF, k.img.length)
    else s.put F.KEY_STAT_STATE s.keyShows
  else
    let s := s.keyTwLog 2 0
    let auto := match k.cycle with
      | some (_, true) => true
      | _ => s.isSet F.KEY_CFG_AUTO_CYCLE
    if auto && decide (s.get F.KEY_STAT_ATTEMPTS < 3) then s.keyCycle true else s.keyHungEnd

end Sys2Proof.Machine
end

