-- ==== Sys2Proof/Machine/TwoWire.lean ====
section
/-! DEFINITION. The two-wire ports (R332 to R337) and their commands. Port 8 of a supply cycle is the key port (R338). -/

namespace Sys2Proof.Machine

/-- STATE values (R341). -/
abbrev twIsOff : Nat := 0
abbrev twIdle : Nat := 1
abbrev twBusy : Nat := 2
abbrev twHung : Nat := 3
abbrev twCycling : Nat := 4

/-- Results of a transfer (R333). -/
abbrev trOk : Nat := 0
abbrev trTimeout : Nat := 5
abbrev trHung : Nat := 6
abbrev trSkipped : Nat := 7
abbrev trBad : Nat := 8
abbrev trPending : Nat := 9
abbrev trOff : Nat := 10

/-- A port beside its registers. -/
def State.tw (s : State) (p : Nat) : TwSt := tabGet (fun _ => TwSt.off) s.tws p
/-- The state with a port set. -/
def State.setTw (s : State) (p : Nat) (x : TwSt) : State := { s with tws := tabSet (fun _ => TwSt.off) p x s.tws }

/-- Byte `k` of the port's buffer (R341). -/
def State.twByte (s : State) (p k : Nat) : Byte := BitVec.ofNat 8 ((s.rd (R.TW_BUF p (k % 256 / 4))).toNat / 256 ^ (k % 4))

/-- Bytes written into the port's buffer from `k` on. -/
def State.twFill (s : State) (p k : Nat) (l : List Byte) : State :=
  (l.zipIdx k).foldl (fun s b => s.put ⟨R.TW_BUF p (b.2 % 256 / 4), 8 * (b.2 % 4), 8⟩ b.1.toNat) s

/-- Descriptor `x` breaks R332. -/
def State.twBad (s : State) (p x : Nat) : Bool :=
  decide (256 < s.get (F.TW_XFER_BOFF p x) + s.get (F.TW_XFER_WLEN p x) + s.get (F.TW_XFER_RLEN p x))

/-- BYTES of a result: its field has 8 bits, and what it shows of 256 bytes is open. -/
def State.twBytes (s : State) (p x n : Nat) : State :=
  if n < 256 then s.put (F.TW_XFER_RES_BYTES p x) n else (s.put (F.TW_XFER_RES_BYTES p x) s.free.toNat).freeNext

/-- A result written; 1 to 5 count, with event 60 (R333, R339). -/
def State.twResult (s : State) (p x res : Nat) : State :=
  let s := s.put (F.TW_XFER_RES_RESULT p x) res
  if 1 ≤ res ∧ res ≤ 5 then ((s.incSat (F.TW_CNT0_ERRORS p)).put (F.TW_EVT_ERR_SEEN p) 1).raise 60 else s

/-- The list ends (R332): event 59. -/
def State.twListEnd (s : State) (p : Nat) : State :=
  let s := if s.get (F.TW_STAT_STATE p) = twBusy then s.put (F.TW_STAT_STATE p) twIdle else s
  (s.put (F.TW_EVT_DONE_SEEN p) 1).raise 59

/-- A descriptor that does not run gets a result, with no bytes transferred (R333, R341). -/
def State.twUnrun (s : State) (p x res : Nat) : State := (s.put (F.TW_XFER_RES_BYTES p x) 0).twResult p x res

/-- Descriptors from `x` on up to LAST get a result without running. -/
def State.twRest (s : State) (p x res : Nat) : State :=
  ((List.range 16).filter (fun y => decide (x ≤ y) && decide (y ≤ s.get (F.TW_CTL_LAST p)))).foldl (fun s y => s.twUnrun p y res) s

/-- The list goes on at descriptor `x` (R332, R333): a bad one runs nothing; another one begins its transfer. -/
def State.twFrom (s : State) (p : Nat) : Nat → Nat → State
  | 0, _ => s.twListEnd p
  | n + 1, x =>
    if s.get (F.TW_CTL_LAST p) < x then s.twListEnd p
    else
      let s := s.put (F.TW_STAT_CUR p) x
      if s.twBad p x then
        let s := s.twResult p x trBad
        if s.isSet (F.TW_CTL_CONT p) then State.twFrom s p n (x + 1) else (s.twRest p (x + 1) trSkipped).twListEnd p
      else
        let o := s.get (F.TW_XFER_BOFF p x)
        s.emit (.twoWire p (s.get (F.TW_XFER_ADDR p x)) ((List.range (s.get (F.TW_XFER_WLEN p x))).map (fun k => s.twByte p (o + k)))
          (s.get (F.TW_XFER_RLEN p x)))

/-- The running transfer has ended with a result and BYTES `n` (R333). -/
def State.twEnd (s : State) (p res n : Nat) : State :=
  let x := s.get (F.TW_STAT_CUR p)
  let s := ((s.incSat (F.TW_CNT0_TRANSFERS p)).twBytes p x n).twResult p x res
  if res = 0 || s.isSet (F.TW_CTL_CONT p) then s.twFrom p 17 (x + 1) else (s.twRest p (x + 1) trSkipped).twListEnd p

/-- A list is answered without running (R333, R334): HUNG and then SKIPPED, or HUNG or OFF for each. -/
def State.twAnswer (s : State) (p x res : Nat) : State :=
  if res = trHung && !s.isSet (F.TW_CTL_CONT p) then ((s.twUnrun p x res).twRest p (x + 1) trSkipped).twListEnd p
  else (s.twRest p x res).twListEnd p

/-- The trouble-log entry of a hang or a cycle (R433) with its event. -/
def State.twLog (s : State) (p what : Nat) : State :=
  (s.logWrite kTwoWire 61 (w32 (p + 16 * what + 64 * s.get (F.TW_STAT_CAUSE p))) (w32 (s.get (F.TW_STAT_ATTEMPTS p))) 0#32).raise 61

/-- A supply cycle's attempt begins (R335). -/
def State.twCycle (s : State) (p : Nat) (auto : Bool) : State :=
  let s := (s.put (F.TW_STAT_STATE p) twCycling).incSat (F.TW_CNT1_CYCLES p)
  let s := if auto then s.incSat (F.TW_STAT_ATTEMPTS p) else s
  let s := if (s.tw p).supply then s.twRail p false else s
  s.setTw p { supply := false, at_ := s.lt, auto := auto, supplyBack := false, starting := false }

/-- A list in progress ends because its port is hung (R334, R336). How many bytes of its running transfer had passed is no part of the command: BYTES takes a
free value (assumption 162). -/
def State.twBreak (s : State) (p : Nat) : State :=
  if s.get (F.TW_STAT_STATE p) = twBusy then
    let s := (s.put (F.TW_STAT_STATE p) twHung).incSat (F.TW_CNT0_TRANSFERS p)
    let x := s.get (F.TW_STAT_CUR p)
    let s := s.twAnswer p x trHung
    (s.put (F.TW_XFER_RES_BYTES p x) s.free.toNat).freeNext
  else s.put (F.TW_STAT_STATE p) twHung

/-- The port is HUNG (R334): with AUTO_CYCLE a cycle starts while one of the three attempts is left (R335). A hang before a recovery, a trip within a cycle or in a
hung port, starts no new count of three; within a cycle it is that attempt's failure. -/
def State.twHang (s : State) (p cause : Nat) : State :=
  let st := s.get (F.TW_STAT_STATE p)
  let again := st == twHung || st == twCycling
  let s := if st = twCycling then s.put (F.TW_EVT_CYCLE_FAIL_SEEN p) 1 else s
  let s := (s.put (F.TW_STAT_CAUSE p) cause).twBreak p
  let s := (s.putPair (R.TW_HANG_LT_LO p) s.lt).put (F.TW_EVT_HUNG_SEEN p) 1
  let s := if cause = 2 then (s.put (F.TW_EVT_TRIP_SEEN p) 1).setTw p { s.tw p with supply := false, starting := false }
    else s.setTw p { s.tw p with starting := false }
  let s := s.incSat (F.TW_CNT1_HANGS p)
  let s := if again then s else (s.put (F.TW_STAT_ATTEMPTS p) 0).put (F.TW_STAT_AUTO_SPENT p) 0
  let s := s.twLog p 0
  if s.isSet (F.TW_CFG_AUTO_CYCLE p) then
    if s.get (F.TW_STAT_ATTEMPTS p) < 3 then s.twCycle p true else s.put (F.TW_STAT_AUTO_SPENT p) 1
  else s

/-- The levels sampled at a port's lines (R334). -/
def State.twLines (s : State) (p : Nat) (scl sda : Bool) : State := (s.putB (F.TW_STAT_SCL p) scl).putB (F.TW_STAT_SDA p) sda

/-- CAUSE of a line found low (R341). -/
def lineCause (sda : Bool) : Nat := if sda then 1 else 0

/-- GO (R332, R334, R336). -/
def State.twGo (s : State) (p : Nat) : State :=
  let st := s.get (F.TW_STAT_STATE p)
  if st = twBusy ∨ st = twCycling then s.incSat (F.TW_CNT1_REFUSED p)
  else if st = twHung then s.twAnswer p 0 trHung
  else if st = twIsOff then s.twAnswer p 0 trOff
  else
    let s := (List.range (s.get (F.TW_CTL_LAST p) + 1)).foldl (fun s x => (s.put (F.TW_XFER_RES_RESULT p x) trPending).put (F.TW_XFER_RES_BYTES p x) 0) s
    (s.put (F.TW_STAT_STATE p) twBusy).twFrom p 17 0

/-- POWER_CYCLE (R335, R336); a port whose supply is not enabled has none to cycle. A hang within the cycle of a port that is not hung starts a new count of
three. -/
def State.twPowerCycle (s : State) (p : Nat) : State :=
  if s.get (F.TW_STAT_STATE p) = twCycling || !s.isSet (F.TW_CFG_SUP_EN p) then s
  else
    let s := if s.get (F.TW_STAT_STATE p) = twHung then s else s.put (F.TW_STAT_ATTEMPTS p) 0
    (if s.get (F.TW_STAT_STATE p) = twBusy then s.twBreak p else s).twCycle p false

/-- A write of TWp_CTL (R332, R341): the vat core only. -/
def State.cmdTwCtl (s : State) (w p : Nat) (v : Word) : State :=
  if w = vat then
    let s := (s.put (F.TW_CTL_LAST p) v.toNat).put (F.TW_CTL_CONT p) (v.toNat / 16)
    let s := if v.getLsbD 5 then s.twGo p else s
    if v.getLsbD 6 then s.twPowerCycle p else s
  else s

/-! ## Meanings -/

/-- TW_GO (R332): TWp_CTL written with GO. -/
def execTwGo (w : Fin 9) (p : Fin 8) (ctl : Word) (s : State) : Out := .next (s.cmdTwCtl w p (ctl ||| 0x20#32))

/-- TW_POWER_CYCLE (R335): TWp_CTL written with POWER_CYCLE. -/
def execTwPowerCycle (w : Fin 9) (p : Fin 8) (ctl : Word) (s : State) : Out := .next (s.cmdTwCtl w p (ctl ||| 0x40#32))

/-- TW_TRANSFER_END (R333): the running transfer ends with a result from 0 to 4, `n` bytes transferred and the bytes read, which land in
the buffer. -/
def execTwTransferEnd (p : Fin 8) (result : Fin 5) (n : Fin 257) (data : List Byte) (s : State) : Out :=
  if s.get (F.TW_STAT_STATE p) = twBusy then
    let x := s.get (F.TW_STAT_CUR p)
    let w := s.get (F.TW_XFER_WLEN p x)
    let r := s.get (F.TW_XFER_RLEN p x)
    let s := s.twFill p (s.get (F.TW_XFER_BOFF p x) + w) (data.take r)
    .next (s.twEnd p result (if result.val = 0 then w + r else n))
  else .next s

/-- TW_STRETCH_TIMEOUT (R333): a target held SCL low longer than STRETCH_MS, after `n` bytes. -/
def execTwStretchTimeout (p : Fin 8) (n : Fin 257) (s : State) : Out :=
  if s.get (F.TW_STAT_STATE p) = twBusy then .next (s.twEnd p trTimeout n) else .next s

/-- TW_IDLE_CHECK (R334): the lines as sampled while idle, or before a START; a line that has been low for 100 µs is a hang. -/
def execTwIdleCheck (p : Fin 8) (scl sda : Bool) (s : State) : Out :=
  let st := s.get (F.TW_STAT_STATE p)
  if st = twIdle ∨ st = twBusy then
    let s := s.twLines p scl sda
    if scl && sda then .next s else .next (s.twHang p (lineCause sda))
  else .next s

/-- TW_SUPPLY_TRIP (R54, R334, R338): a supply that is on trips. -/
def execTwSupplyTrip (p : Fin 9) (s : State) : Out :=
  if p.val = 8 then
    if s.key.vcc then .next (s.keyHang 2 []) else .next s
  else if (s.tw p).supply then .next (s.twHang p 2) else .next s

/-- TW_CYCLE_SUPPLY_ON (R335): 20 ms into a cycle supply and pull-ups come on. -/
def execTwCycleSupplyOn (p : Fin 9) (s : State) : Out :=
  if p.val = 8 then
    match s.key.cycle with
    | some (c, _) => if c + 20000000 ≤ s.lt then .next (s.keyVcc true) else .next s
    | none => .next s
  else
    let x := s.tw p
    if s.get (F.TW_STAT_STATE p) = twCycling && !x.supplyBack && decide (x.at_ + 20000000 ≤ s.lt) then
      .next ((s.setTw p { x with supply := true, supplyBack := true }).twRail p true)
    else .next s

/-- TW_CYCLE_SAMPLE (R335, R338): the lines after the startup time. -/
def execTwCycleSample (p : Fin 9) (scl sda : Bool) (s : State) : Out :=
  if p.val = 8 then
    match s.key.cycle with
    | some (c, _) => if s.key.vcc && decide (c + 25000000 ≤ s.lt) then .next (s.keySample scl sda) else .next s
    | none => .next s
  else
    let x := s.tw p
    if s.get (F.TW_STAT_STATE p) = twCycling && x.supplyBack
        && decide (x.at_ + 20000000 + s.get (F.TW_CFG_STARTUP_MS p) * 1000000 ≤ s.lt) then
      let s := s.twLines p scl sda
      if scl && sda then
        let s := ((s.put (F.TW_STAT_STATE p) twIdle).put (F.TW_EVT_CYCLE_OK_SEEN p) 1).put (F.TW_STAT_AUTO_SPENT p) 0
        .next (s.twLog p 1)
      else
        let s := (s.put (F.TW_EVT_CYCLE_FAIL_SEEN p) 1).twLog p 2
        if x.auto && decide (s.get (F.TW_STAT_ATTEMPTS p) < 3) then .next (s.twCycle p true)
        else
          let s := s.put (F.TW_STAT_STATE p) twHung
          .next (if x.auto then s.put (F.TW_STAT_AUTO_SPENT p) 1 else s)
    else .next s

/-- TW_PORT_START (R337): the lines STARTUP_MS after a start. -/
def execTwPortStart (p : Fin 8) (scl sda : Bool) (s : State) : Out :=
  let x := s.tw p
  if x.starting && decide (x.at_ + s.get (F.TW_CFG_STARTUP_MS p) * 1000000 ≤ s.lt) then
    let s := (s.twLines p scl sda).setTw p { x with starting := false }
    if scl && sda then .next (s.put (F.TW_STAT_STATE p) twIdle) else .next (s.twHang p (lineCause sda))
  else .next s

end Sys2Proof.Machine
end

