-- ==== Sys2Proof/Machine/Power.lean ====
section
/-! DEFINITION. Power requests: raises, the staged entry, sleep and wake (R136, R137, R382 to R390), and WATCH (R398, R402, R403). -/

namespace Sys2Proof.Machine

/-! ## Requests (R382) -/

/-- The state requested for domain `n`: PWR_REQ's field; retention of KEY is carried out as off (R369). -/
def State.reqOf (s : State) (n : Nat) : Nat :=
  let f : Fld := if n < 4 then ⟨R.PWR_REQ_H, 2 * n, 2⟩ else if n < 12 then ⟨R.PWR_REQ_T, 2 * (n - 4), 2⟩ else ⟨R.PWR_REQ_T, 2 * (n - 12) + 16, 2⟩
  let v := s.get f
  if n = domKey && v == domRet then domOff else v

/-- The request ends (R382, R396): event 32 for a GO. -/
def State.pwrDone (s : State) : State :=
  let run := s.pwr.run
  let s := s.pwrIdle
  if run = 1 then ((s.put F.PWR_STAT_RESULT 0).put F.PWR_EVT_DONE_SEEN 1).raise 32 else s

/-- The first of the domains still to lower is asked (R384); HOST sends CLOSE when asked (R365). With none left the entry has completed. -/
def State.pwrAsk (s : State) : State :=
  match s.pwr.asks with
  | [] => (s.incSat F.PWR_REFUSE_COUNT_ENTRIES).pwrDone
  | (n, _) :: _ =>
    let s := ((s.put F.PWR_STAT_PHASE 2).put F.PWR_STAT_ASKED n).setPwr { s.pwr with askedAt := s.lt, agreedAt := none }
    if n = domHost && s.get F.HOST_STAT_SESSION == ssOpen then s.moduleClose 2 else s

/-- The raises are done: a rollback has ended, or the staged entry follows, or the request ends. -/
def State.pwrNext (s : State) : State :=
  if s.pwr.refused.isSome then s.pwrRolled else if s.pwr.asks.isEmpty then s.pwrDone else s.pwrAsk

/-- A request begins: raises first, whose rails are asked for (R375), then the staged entry. -/
def State.pwrBegin (s : State) (run : Nat) (raising asks : List (Nat × Nat)) : State :=
  let s := (raising.foldl (fun s d => s.railsAsk d.1) (s.put F.PWR_STAT_BUSY 1)).setPwr
    { s.pwr with run := run, raising := raising, asks := asks, stopped := [], agreedAt := none, keyAt := s.isSet F.KEY_STAT_PRESENT }
  if raising.isEmpty then s.pwrNext else s.put F.PWR_STAT_PHASE 1

/-- PWR_CMD.GO (R382): ignored while BUSY; BAD_REQUEST changes nothing else. -/
def State.cmdGo (s : State) (w : Nat) : State :=
  if w ≠ vat || s.isSet F.PWR_STAT_BUSY then s
  else if (List.range 20).any (fun n => s.reqOf n == 3) || !parentsOk s.reqOf then s.put F.PWR_STAT_RESULT 2
  else
    s.pwrBegin 1 ((raiseOrder.filter (fun n => decide (s.dom n < s.reqOf n))).map (fun n => (n, s.reqOf n)))
      ((entryOrder.filter (fun n => decide (s.reqOf n < s.dom n))).map (fun n => (n, s.reqOf n)))

/-! ## Agreement (R385) -/

/-- What a domain answers when asked: it agrees, waits (the part of a tile that holds it up), or refuses (reason, part). -/
inductive Answer where
  | agree
  | wait (part : Nat)
  | refuse (reason part : Nat)
  deriving DecidableEq, Repr

/-- A core stands in WAIT. -/
def Core.rests (c : Core) : Bool := c.running && !c.halted && c.waiting

/-- A ladle is idle. -/
def State.ladleIdle (s : State) (l : Nat) : Bool := (s.ladle l).runs.isEmpty && (s.ladle l).pend.isEmpty

/-- What keeps HUB from agreeing (R238): entries other than lane reserves and those waiting on a STOPPED source, lanes, stamps. -/
def State.hubActs (s : State) : Bool :=
  s.acts.any (fun a => a.2.state != 3
      && !(a.2.state == 1 && a.2.target.cyc && s.srcAvail a.2.target.src && (s.src a.2.target.src).stopped))
    || (List.range 16).any (fun n =>
        let x := s.get (F.HERD_RUC_CFG_SRC n)
        s.isSet (F.HERD_RUC_CFG_EN n) && s.srcAvail x && !(s.src x).stopped)
    || (List.range 40).any (fun u => !(s.cap u).fifo.isEmpty)

/-- The answer of domain `n`. -/
def State.domAnswer (s : State) (n : Nat) : Answer :=
  if s.dom n = domRet then .agree
  else if 12 ≤ n then .agree
  else if 4 ≤ n then
    let t := n - 4
    if (s.core t).running && (s.core t).ready then .refuse rfPendEvent 0
    else if !(s.core t).rests then .wait 0
    else if !s.tileDrained t || !(s.queue (6 * t + 5)).recs.isEmpty then .wait 1
    else if !((List.range 4).all (fun j => s.ladleIdle (4 * t + j))) then .wait 2
    else if (s.eng t).judge.isSome then .wait 3
    else .agree
  else if n = domHost then .agree
  else if n = domKey then (if s.key.job = 0 && s.key.cycle.isNone then .agree else .refuse rfKeyRead 4)
  else if n = domHerd then
    (if s.herd.frames.isEmpty && s.herd.reqs.isEmpty && (s.port false).tx.empty && (s.port true).tx.empty then .agree else .wait 4)
  else
    if (s.core vat).running && (s.core vat).ready then .refuse rfPendEvent 4
    else if s.hubActs then .refuse rfAction 4
    else if (List.range 8).any (fun p => s.get (F.TW_STAT_STATE p) == twBusy || s.get (F.TW_STAT_STATE p) == twCycling) then .refuse rfTwoWire 4
    else if !(s.core vat).rests || !((List.range 8).all (fun j => s.ladleIdle (32 + j))) then .wait 4
    else .agree

/-- When HUB agrees, entries that wait on a STOPPED source are FLUSHED (R238) and the capture units stop (R215). -/
def State.hubAgreed (s : State) : State := s.flushActs.capsDeliver

/-! ## Sleep and wake (R136, R137, R390) -/

/-- Spans of uncertain time (R132): opened or closed with what they rest on. -/
def State.noteSpan (s : State) : State :=
  match s.spanFrom, s.holdoverNow with
  | none, true => { s with spanFrom := some s.lt }
  | some a, false => { s with spanFrom := none, spans := s.spans ++ [(a, s.lt)] }
  | _, _ => s

/-- What is left of the running walk at an LT (R129): 2 ns of error go in each µs. In link units of 2^-8 ns. -/
def HerdSt.walkLeft (h : HerdSt) (lt : Nat) : Int :=
  let gone := (lt - h.walkFrom) * 512 / 1000
  if h.walkErr.natAbs ≤ gone then 0 else if 0 ≤ h.walkErr then h.walkErr - gone else h.walkErr + gone

/-- By how many periods one TIME tick in 100 is longer in the running walk (R129): one where the module is ahead of the line, one less where it is behind. -/
def State.walkSign (s : State) : Int := if s.isSet F.LT_STAT_WALKING then (if 0 < s.herd.walkErr then 1 else if s.herd.walkErr < 0 then -1 else 0) else 0

/-- The oscillator periods of the next `n` TIME ticks (R124, R129): five each, and in a walk one more or less in those that end on an LT multiple of 100. -/
def State.periods (s : State) (n : Nat) : Nat := (5 * (n : Int) + s.walkSign * (((s.lt + n) / 100 : Nat) - (s.lt / 100 : Nat))).toNat

/-- The TIME ticks up to the first AON tick after this instant (R136): an AON tick falls on every 160,000th period of the oscillator, and the least number of
ticks whose periods reach it lies within a few of the quotient. -/
def State.nextAon (s : State) : Nat :=
  let p := 160000 - s.vco % 160000
  let g := p * 100 / (500 + s.walkSign).toNat - 2
  (((List.range 8).map (g + ·)).find? (fun n => decide (p ≤ s.periods n))).getD (g + 8)

/-- TIME stops at the first AON tick after this instant (R136, R429): that is LT_E, the sleep count starts there, and what is left of a walk is carried across. -/
def State.timeStop (s : State) : State :=
  let e := s.lt + s.nextAon
  { (s.putPair R.LT_SLEEP_IN_LO e).put F.LT_CLK_STAT_PLL_LOCK 0 with
      lt := e, vco := (s.vco / 160000 + 1) * 160000, time := false, ticks := some 0, sleepNs := 0,
      herd := { s.herd with walkErr := s.herd.walkLeft e, walkFrom := e } }

/-- The PLL stops once every domain of R124 is in retention or off (R136). -/
def State.sleepCheck (s : State) : State := if (List.range 20).all (fun n => s.dom n != domOn) && s.time then s.timeStop else s

/-- TIME starts again with LT_E plus the time slept (R128, R137, R429), the time dividers and the timers' count aligned to it. -/
def State.timeGo (s : State) : State :=
  { s with lt := s.getPair R.LT_SLEEP_IN_LO + s.slept, time := true, ticks := none, tileAt := s.vco / 20, uncertain := s.role != 3 }

/-- A wake source that is enabled, and may fire by what the registers show (R389). INPUT's kind per input says when it fires, not whether (R388). -/
def State.wakeMay (s : State) (src unit : Nat) : Bool :=
  s.bit F.PWR_WAKE_EN_EN src &&
    (match src with
     | 0 => (match s.ticks with | some n => decide (s.getPair R.PWR_WAKE_TICKS_LO ≤ n) | none => false)
     | 1 => s.bit F.PWR_WAKE_IN_IN unit
     | 2 => decide (unit < 4) && s.get (F.CAP_ENC_CFG_MODE unit) != 0
     | 3 => s.isSet F.KEY_STAT_PRESENT != s.pwr.keyAt
     | 6 => s.dom domHerd == domRet
     | 7 => s.dom domHerd == domRet
     | 8 => s.dom domHost == domRet
     | 9 => s.get F.PWR_STAGE_FLAGS &&& 0xD != 0
     | _ => true)

/-- A wake source is a level and holds now (R388, R389): the timer's count, an input that is a level and at 24 V, KEY, SERVICE_EN, the loss of beacons, the
supply. -/
def State.wakeHolds (s : State) (src unit : Nat) : Bool :=
  s.wakeMay src unit &&
    (match src with
     | 0 => true
     | 1 => !s.bit F.PWR_WAKE_INEDGE_EDGE unit && (s.cap unit).level
     | 3 => true
     | 4 => s.isSet F.SVC_STAT_ENABLE
     | 7 => decide (s.herd.lastGood + 30000 ≤ s.herd.portLt)
     | 9 => true
     | _ => false)

/-- The level sources that hold as HUB stops, which wake the module at once (R388), each with its unit. -/
def State.wakeHeld (s : State) : List (Nat × Nat) :=
  (List.range 10).flatMap (fun src => ((List.range (if src = 1 then 24 else 1)).filter (s.wakeHolds src)).map (fun u => (src, u)))

/-- The first asked domain stops (R384); the next is asked. With HUB the watch over the wake sources begins. -/
def State.pwrStop (s : State) : State :=
  match s.pwr.asks with
  | [] => s
  | (n, st) :: rest =>
    let old := s.dom n
    let s := (s.domLower n st).setPwr { s.pwr with asks := rest, agreedAt := none, stopped := (n, old) :: s.pwr.stopped }
    let s := s.setPwr { s.pwr with lowered := if s.pwr.run = 2 then (n, old) :: s.pwr.lowered else s.pwr.lowered }
    let s := s.pwrAsk.sleepCheck
    let s := if n = domKey then s.keyWaits else s
    if n = domHub then s.setPwr { s.pwr with fired := s.wakeHeld } else s

/-- Domains that a wake raises, parents first (R390): those of PWR_WAKE_ON that are not on. -/
def State.wakeRaises (s : State) : List (Nat × Nat) :=
  (raiseOrder.filter (fun n => n != domHub && s.bit F.PWR_WAKE_ON_ON (n - 1) && s.dom n != domOn)).map (fun n => (n, domOn))

/-- HUB comes on at a wake (R222, R390): from retention with encoders without index; from off as at the logic step, with its image from the
store. The vat core has event 36 pending. -/
def State.hubWake (s : State) : State :=
  let off := s.dom domHub == domOff
  let s := ((s.setDom domHub domOn).scrubGo 16).scrubGo 18
  let s := if off then
      let img := s.runningImage
      let s := s.runningTouch
      let s := ((s.hubPlace img).vatStart img).capsStart
      let s := (List.range 8).foldl State.twStart s
      (List.range 16).foldl (fun s n => if s.isSet (F.HERD_RUC_CFG_EN n) then s.laneStart n else s) s
    else s.capsResume
  s.setCore vat ((s.core vat).pend 36)

/-! ## WATCH (R398, R402, R403) -/

/-- A channel whose rate has changed restarts its chain (R113, R403). -/
def State.rateRestart (s : State) (k : Nat) : State :=
  let x := s.chan k
  if x.on && x.rate != s.rateOf k then
    ((s.closeSamples (k / 16) (k % 16)).chanRestart (k / 16) (k % 16) |>.chainFrom k (ceilTo 80 s.lt)).showFilter k
  else s

/-- The domains that WATCH lowers, with their new states (R402). -/
def State.watchAsks (s : State) : List (Nat × Nat) :=
  (entryOrder.filterMap (fun n =>
    if n < 4 then none
    else
      let t := if n < 12 then n - 4 else n - 12
      let st := if s.bit F.MOD_WATCH_LOW_OFF t then domOff else domRet
      if s.tileState t = 1 && !s.bit F.MOD_WATCH_MEASURE t && decide (st < s.dom n) then some (n, st) else none))

/-- WATCH's staged entry begins, or waits while a request or a changeover runs (R402, R414). -/
def State.watchEnter (s : State) : State :=
  if s.watchAsks.isEmpty then s.setWatch { s.watch with retryAt := none }
  else if s.isSet F.PWR_STAT_BUSY || s.co.phase != 0 then s.setWatch { s.watch with retryAt := some s.lt }
  else (s.setWatch { s.watch with retryAt := none }).pwrBegin 2 [] s.watchAsks

/-- An entry of WATCH that is still running when WATCH clears is dropped, or its refusal ends; what it has stopped comes back with the rest. -/
def State.watchDrop (s : State) : State :=
  let back := s.pwr.raising ++ s.pwr.lowered
  let s := if s.pwr.refused.isSome then s.pwrRolled else s.pwrIdle
  s.setPwr { s.pwr with lowered := back }

/-- Every channel whose rate WATCH has changed (R403). -/
def State.rateRestarts (s : State) : State := (List.range 128).foldl State.rateRestart s

/-- The domains that WATCH has lowered are raised again (R402). -/
def State.watchLeave (s : State) : State :=
  let s := if s.pwr.run = 2 then s.watchDrop else s
  let s := s.setWatch { s.watch with retryAt := none }
  s.pwr.lowered.foldl (fun s d => s.domRaise d.1 d.2) (s.setPwr { s.pwr with lowered := [] })

/-- The WATCH condition follows its causes (R398): rates change, and its domains are lowered or raised again. -/
def State.watchSettle (s : State) : State :=
  let b := s.watch.byVat || s.watch.byAuto
  if b == s.cond mWatch then s
  else
    let s := (s.setCond mWatch b).rateRestarts
    if b then s.watchEnter else s.watchLeave

/-- WATCH_SRC is back (R398): WATCH that AUTO_WATCH has set clears. -/
def State.watchBack (s : State) : State :=
  if s.watch.byAuto && !s.watchSrcAway then (s.setWatch { s.watch with byAuto := false }).watchSettle else s

/-- Tiles or sources have changed while WATCH may hold (R398, R402): WATCH_SRC is looked at, and a tile that is not measured and came on is asked to go down. -/
def State.watchFollow (s : State) : State :=
  let s := s.watchNote.watchBack
  if s.cond mWatch then s.watchEnter else s

end Sys2Proof.Machine
end

