-- ==== Sys2Proof/Machine/Boot.lean ====
section
/-! DEFINITION. Bring-up, warm reset and power loss (R378 to R381, R423, R424, R429, R456, R465). -/

namespace Sys2Proof.Machine

/-- The state with the bring-up's part replaced. -/
def State.setBoot (s : State) (b : BootSt) : State := { s with boot := b }

/-! ## Commissioning fields (R456, R457, R465) -/

/-- The last of the slots that verifies. -/
def lastValid {α : Type} (l : List (Option α)) : Option α := l.foldl (fun a x => match x with | some v => some v | none => a) none

/-- The slots burned of a field. -/
def State.fieldSlots (s : State) (sel : Nat) : List (Option (List Byte)) := tabGet (fun _ => []) s.svc.fields sel

/-- A field's current value, if one is valid. -/
def State.fieldNow (s : State) (sel : Nat) : Option (List Byte) := lastValid (s.fieldSlots sel)

/-- Four octets, the first in bits [31:24]. -/
def octets (l : List Byte) (i : Nat) : Word := w32 (leVal ((l.drop i).take 4).reverse)

/-- The fields come into use (R406, R457, R465). -/
def State.comTake (s : State) : State :=
  let n (sel d : Nat) : Nat := match s.fieldNow sel with | some l => leVal l | none => d
  let ip := (s.fieldNow 2).getD []
  let key := (s.fieldNow 3).getD []
  let trims := s.svc.trims.filterMap (fun x => (lastValid x.2).map (fun v => (x.1, w32 v)))
  let s := { s with com := { lineAddr := n 0 0 % 32, role := n 1 3 % 4, sense := n 4 0 % 0x1000000, trims := trims } }
  let s := ((s.wr R.COM_HOST_IP (octets ip 0)).wr R.COM_HOST_MASK (octets ip 4)).wr R.COM_HOST_GW (octets ip 8)
  let s := ((s.wr R.HOST_IP (octets ip 0)).wr R.HOST_MASK (octets ip 4)).wr R.HOST_GW (octets ip 8)
  let s := (List.range 8).foldl (fun s w => s.wr (R.COM_TRUST_KEY w) (w32 (leAt key (4 * w) 4))) s
  let s := (List.range 5).foldl (fun s w => s.put (F.COM_USED_USED w) (s.fieldSlots w).length) s
  let s := (s.putB F.COM_USED_IP_SET (s.fieldNow 2).isSome).putB F.COM_USED_TRUST_SET (s.fieldNow 3).isSome
  s.putB F.HOST_STAT_ADDR_OK (s.fieldNow 2).isSome

/-! ## Power loss and warm reset -/

/-- The fuses after a burn that was cut off (R460): its slot is used and does not verify. -/
def SvcSt.burnLost (v : SvcSt) : SvcSt :=
  match v.burn with
  | none => v
  | some b =>
    if b.trim then { v with trims := tabSet (fun _ => []) b.id (tabGet (fun _ => []) v.trims b.id ++ [none]) v.trims }
    else { v with fields := tabSet (fun _ => []) b.id (tabGet (fun _ => []) v.fields b.id ++ [none]) v.fields }

/-- The supply is lost (R378, R423): nothing stays but the fuses and the commands that wait. -/
def State.powerLost (s : State) : State :=
  { State.reset with svc := { SvcSt.start with fields := s.svc.burnLost.fields, trims := s.svc.burnLost.trims }, freeCtr := s.freeCtr, out := s.out,
                     pending := s.pending }

/-- A register of the AON domain that a warm reset keeps (R314, R326, R369, R381, R396, R416, R441). -/
def aonReg (a : Nat) : Bool :=
  let b := a / 0x10000
  b == 0x5002 || b == 0x5005 || b == 0x5006 || a == R.KEY_GEN || b == 0x5009 || b == 0x500A || b == 0x500B
    || (decide (0x70000000 ≤ a) && decide (a < 0x70000100))

/-- Everything outside AON as after power-on, but for an address conflict, which lasts until the next power-up (R161); memory is written anew by
the memory step. -/
def State.wipe (s : State) : State :=
  let boot := s.rd R.HOST_BOOT_ID
  let conflict := s.isSet F.HERD_STAT_ADDR_CONFLICT
  let s := { s with
    regs := s.regs.filter (fun c => aonReg c.1), mem := [], lines := s.lines.filter (fun l => l.1 / 0x100000 == 17),
    scrubs := s.scrubs.filter (fun x => x.1 == 17), uncertain := false, spans := [], spanFrom := none, queues := [], ladles := [],
    seqs := [], acts := [], actOrder := 0, outs := [], evts := [], caps := s.capLevels, encs := [], srcs := [], timers := [],
    herd := HerdSt.start, churn := [], env := [], cores := [], cells := [], chans := [], moduleAt := none, mainsMoved := [], mainsRun := [], mainsEdges := [],
    tiles := s.tiles.map (fun (x : Nat × TileRun) => (x.1, { TileRun.rest with starts := x.2.starts })), stopped := [], routes := [], key := KeySt.start, co := CoSt.rest, tws := [], pwr := PwrSt.rest, watch := WatchSt.rest, host := HostSt.start }
  let s := ((s.wr R.HOST_BOOT_ID boot).put F.PWR_STAT_BUSY 0).putB F.HERD_STAT_ADDR_CONFLICT conflict
  let s := ((s.put F.PWR_STAT_PHASE 0).wr R.MOD_TILE 0#32).wr R.MOD_CO 0#32
  let s := (((s.put F.MOD_STATUS_RECIPE 0).put F.FLT_STAT_HOLD_CAUSE 0).put F.FLT_STAT_SNAP_BUSY 0).wr R.LT_STAT 0#32
  let s := (s.put (F.MEMM_STAT_POISONED 16) 0).put F.LT_CLK_STAT_REF_SRC 0
  (List.range 19).foldl (fun s m => if m = 17 then s else s.put (F.MEMM_STAT_SCRUBBING m) 0) s

/-- 4 KB units, rounded up (R433). -/
def kb4 (n : Nat) : Nat := (n + 4095) / 4096

/-- The field of FLT_WARM that counts a cause (R441). -/
def warmFld (cause : Nat) : Fld := ⟨R.FLT_WARM, 8 * (cause - 1), 8⟩

/-- Event 62 with a bit of SVC_EVT (R463). -/
def State.raise62 (s : State) (f : Fld) : State := (s.put f 1).raise 62

/-- A warm reset starts (R381, R424, R429): its entry, LT_E and the sleep count, then the oscillator step. COMMISSION ends with it, with event 62 (R463). -/
def State.warmReset (s : State) (cause : Nat) : State :=
  let s := if s.cond mCommission then s.raise62 F.SVC_EVT_COMMISSION_SEEN else s
  let s := s.logWrite kWarmReset noEvent (w32 (cause + 16 * kb4 (s.fill false) + 131072 * kb4 (s.fill true))) (s.rd R.HOST_CUM_BSEQ) (s.rd R.HOST_NEXT_BSEQ)
  let s := (s.incSat (warmFld cause)).put F.FLT_STAT_RESTART_CAUSE cause
  let s := if s.ticks.isSome then s else s.timeStop
  let keep := s.get F.MOD_STATUS_FLAGS &&& (2 ^ (mService - 2) + 2 ^ (mFactory - 2))
  let s := ({ s.wipe with time := false, booting := true }.put F.LT_CLK_STAT_PLL_LOCK 0).put F.MOD_STATUS_FLAGS keep
  let s := s.setBoot { BootSt.start with stage := 4, warm := true }
  let s := { s.put F.SVC_STAT_PAGE 0 with svc := { s.svc with page := 0, ptr := 0, written := false, ending := false, saved := [], pageDue := none } }
  s.modeSettle.healthySettle

/-! ## Bring-up steps (R379, R380) -/

/-- All domains in a state, with the LTs of the tiles' switch-on or switch-off (R138). -/
def State.allDoms (s : State) (st : Nat) : State :=
  (List.range 20).foldl (fun s n =>
    if n < 4 ∨ 12 ≤ n ∨ s.dom n = st then s.setDom n st
    else (s.setDom n st).putPair (if st = domOff then R.LT_TILE_RET_IN_LO (n - 4) else R.LT_TILE_RET_OUT_LO (n - 4)) s.logLt) s

/-- A step of bring-up completed. -/
def State.bootTo (s : State) (stage : Nat) : State := s.setBoot { s.boot with stage := stage }

/-- The rails in the order in which bring-up switches them on (R379). -/
def State.railsOn (s : State) : State := (List.range 6).foldl (fun s r => s.linkSend opRailSet r 1) s

/-- A step has failed (R380): retried 1 s later, or given up after three tries. -/
def State.bootFail (s : State) (step : Nat) : State :=
  let tries := s.get F.PWR_BOOT_TRIES
  let s := ((s.put F.PWR_BOOT_FAILED step).logWrite kBootFail noEvent (w32 step) (w32 tries) 0#32).setSpeed 0
  let s := { s with link := { LinkSt.start with seq := s.link.seq } }
  let s := (s.allDoms domOff).put F.LT_CLK_STAT_PLL_LOCK 0
  if tries < 3 then s.bootTo 12 else s.bootTo 13

/-- What the baseline finds in a line (R283, R285, R380, R434): corrections and rebuilds count; an uncorrectable line is recorded and reported, in a tile as a
failure of the memory step, in the trouble-log SRAM as lost entries. -/
def State.baselineLine (s : State) (m i : Nat) (u : LineUpset) : State :=
  let s := s.memCorrect m (popCount 9 (u.single.val &&& (511 - u.double.val)))
  let d := popCount 9 u.double.val
  if d = 0 then s
  else if d = 1 then s.memRebuild m
  else
    let a := lineAddr m i
    let s := ((s.wr (R.MEMM_UE_ADDR m) (w32 a)).putPair (R.MEMM_UE_LT_LO m) s.logLt).incSat (F.MEMM_UE_UNCORRECTABLE m)
    let s := (s.logWrite kMemUe (ueEvent m) (w32 m) (w32 a) 0#32).raiseMem (ueEvent m)
    if m < 16 then (s.put F.PWR_BOOT_FAILED 3).setBoot { s.boot with badTiles := if s.boot.badTiles.contains (m % 8) then s.boot.badTiles else m % 8 :: s.boot.badTiles }
    else if m = 17 then (s.logLose (2 * i)).logLose (2 * i + 1)
    else s

/-- The baseline cannot be passed: an uncorrectable line outside the tiles (R380). -/
def baselineFails (l : List (Nat × Nat × LineUpset)) : Bool := l.any (fun x => decide (16 ≤ x.1) && decide (2 ≤ popCount 9 x.2.2.double.val))

/-- The LT counter's start (R128, R429): 0 after power-on; after a warm reset LT_E plus the sleep count. -/
def State.ltStart (s : State) : State :=
  match s.ticks with
  | none => { s with lt := 0, time := true, tileAt := s.vco / 20 }
  | some n =>
    let s := s.timeGo
    ((s.putPair R.LT_SLEEP_OUT_LO s.lt).putPair R.LT_SLEEP_TICKS_LO n).put F.LT_EVT_WAKE_SEEN 1

/-- BOOT_ID of this bring-up (R351). -/
def State.bootId (s : State) : State :=
  if s.boot.warm then
    let old := s.rd R.HOST_BOOT_ID
    s.wr R.HOST_BOOT_ID (if old = 0xFFFFFFFF#32 then 1#32 else old + 1#32)
  else (s.wr R.HOST_BOOT_ID s.freeNonZero).freeNext

/-- The logic step (R128, R379, R424): fields taken, LT started, BOOT_ID and the BOOT entry, Herd ports training, tiles whose baseline failed
off. -/
def State.logicRelease (s : State) : State :=
  let s := s.comTake.ltStart.bootId
  let s := { s.put F.PWR_BOOT_STEP 4 with booting := false }
  let s := s.logWrite kBoot noEvent (w32 (s.get F.FLT_STAT_RESTART_CAUSE)) (s.rd R.PWR_BOOT) (s.rd R.HOST_BOOT_ID)
  let s := s.setDom domKey domOff
  let s := s.boot.badTiles.foldl (fun (s : State) t =>
    (s.setDom (domAfe t) domOff).tileDown t domOff) s
  let s := ((s.portTo false pTraining).portTo true pTraining).putB F.LT_STAT_LEADING (s.com.role == 3)
  let r := s.com.role
  let s : State := if r == 1 || r == 2 then { s with herd := { s.herd with listenFrom := some s.lt } } else s
  (s.bootTo 10).noteSpan

end Sys2Proof.Machine
end

