-- ==== Sys2Proof/Machine/BootCmds.lean ====
section
/-! DEFINITION. Meanings of the bring-up commands and of PLL, warm reset and FAULT_HOLD timeouts (R124, R126, R379 to R381, R405). -/

namespace Sys2Proof.Machine

/-- SUPPLY_VALID (R379): the AON rail is switched on. -/
def execSupplyValid (s : State) : Out :=
  if s.boot.stage = 0 then .next ((s.put F.PWR_BOOT_TRIES 1).bootTo 1) else .next s

/-- AON_RAIL_GOOD (R379). -/
def execAonRailGood (s : State) : Out := if s.boot.stage = 1 then .next (s.bootTo 2) else .next s

/-- RESONATOR_OSCILLATING (R379): the supply link starts, the rails are switched on. -/
def execResonatorOscillating (s : State) : Out := if s.boot.stage = 2 then .next (s.bootTo 3).railsOn else .next s

/-- RAILS_GOOD (R379): the regulator step ends, with no RAIL_FAULT shown. -/
def execRailsGood (s : State) : Out := if s.boot.stage = 3 && !(s.get F.PWR_STAGE_FLAGS).testBit 2 then .next ((s.put F.PWR_BOOT_STEP 1).bootTo 4) else .next s

/-- RESONATOR_STABLE (R379): the PLL is started. -/
def execResonatorStable (s : State) : Out := if s.boot.stage = 4 then .next (s.bootTo 5) else .next s

/-- PLL_LOCK (R124, R137, R379, R405): at bring-up every domain is on; after a loss the PLL has relocked; at a wake it has locked. -/
def execPllLock (s : State) : Out :=
  if s.boot.stage = 5 then
    .next (((s.put F.LT_CLK_STAT_PLL_LOCK 1).allDoms domOn).put F.PWR_BOOT_STEP 2 |>.bootTo 6)
  else if s.boot.lostAt.isSome then
    let s := (s.put F.LT_CLK_STAT_PLL_LOCK 1).setBoot { s.boot with lostAt := none }
    .next (if !s.booting && s.domIsOn domHost && s.host.speedWas != 0 then (s.setSpeed s.host.speedWas).arpGratuitous else s)
  else if s.pwr.wakeStage = 1 then .next (s.put F.LT_CLK_STAT_PLL_LOCK 1)
  else .next s

/-- MEMORY_REPAIR_LOADED (R379). -/
def execMemoryRepairLoaded (s : State) : Out := if s.boot.stage = 6 then .next (s.bootTo 7) else .next s

/-- MEMORY_INIT_DONE (R284, R379): zeros and valid codes everywhere; the trouble-log SRAM keeps its content in a warm reset (R431). -/
def execMemoryInitDone (s : State) : Out :=
  if s.boot.stage = 7 then
    let lines := if s.boot.warm then s.lines.filter (fun l => l.1 / 0x100000 == 17) else []
    .next ({ s with mem := [], lines := lines }.bootTo 8)
  else .next s

/-- SCRUB_BASELINE_DONE (R379, R380): what the baseline pass has found, as (memory, line, upset); the scrubbers run
from then on (R284). -/
def execScrubBaselineDone (found : List BaselineFind) (s : State) : Out :=
  if s.boot.stage = 8 then
    let s := found.foldl (fun s x => s.baselineLine x.m x.line x.upset) s
    if baselineFails (found.map (fun x => (x.m.val, x.line.val, x.upset))) then .next (s.bootFail 3)
    else .next (((List.range 19).foldl State.scrubGo s).put F.PWR_BOOT_STEP 3 |>.bootTo 9)
  else .next s

/-- LOGIC_RELEASE (R128, R379); a PLL that has lost its lock since brings FAULT_HOLD now (R126, R397), and so does a rail fault that is shown (R378). -/
def execLogicRelease (s : State) : Out :=
  if s.boot.stage = 9 then
    let s := s.logicRelease
    let s := if s.boot.lostAt.isSome then s.faultHold hcPllLock 0#32 40 else s
    .next (if (s.get F.PWR_STAGE_FLAGS).testBit 2 then s.faultHold hcRailFault (w32 (s.get F.PWR_STAGE_FLAGS)) 35 else s)
  else .next s

/-- BRINGUP_FAIL (R380): the running step misses its deadline: regulator, then oscillator. -/
def execBringupFail (s : State) : Out :=
  if s.boot.stage = 3 then .next (s.bootFail 1)
  else if s.boot.stage = 4 ∨ s.boot.stage = 5 then .next (s.bootFail 2)
  else .next s

/-- BRINGUP_RETRY (R380): bring-up starts again at the regulator step. -/
def execBringupRetry (s : State) : Out :=
  if s.boot.stage = 12 then .next ((s.incSat F.PWR_BOOT_TRIES).setBoot { BootSt.start with stage := 3, warm := s.boot.warm }).railsOn else .next s

/-- AON_RAIL_CYCLE (R380): without a resonator the power stage cycles the AON rail. -/
def execAonRailCycle (s : State) : Out := if s.boot.stage = 1 ∨ s.boot.stage = 2 then .next (s.bootTo 1) else .next s

/-- WARM_RESET (R381, R429): a warm reset whose cause has been decided starts. -/
def execWarmReset (s : State) : Out :=
  match s.boot.want with
  | some cause => .next (s.warmReset cause)
  | none => .next s

/-- A warm reset's cause decided (R429). -/
def State.wantReset (s : State) (cause : Nat) : State := s.setBoot { s.boot with want := some cause }

/-- PLL_LOCK_LOST (R126, R405): the PLL restarts from the resonator. In POWER_UP, where no other mode may hold (R397), FAULT_HOLD waits for the logic's release
(DEDUCED, assumption 156). -/
def execPllLockLost (s : State) : Out :=
  if s.isSet F.LT_CLK_STAT_PLL_LOCK then
    let s := (((s.put F.LT_CLK_STAT_PLL_LOCK 0).put F.LT_EVT_LOCK_LOST_SEEN 1).raise 40).refTo 0
    let s := if s.booting then s else s.faultHold hcPllLock 0#32 40
    let s := if s.booting then s else (s.setHost { s.host with speedWas := s.get F.HOST_STAT_SPEED }).setSpeed 0
    .next (s.setBoot { s.boot with lostAt := some s.lt })
  else .next s

/-- PLL_RELOCK_TIMEOUT (R405). -/
def execPllRelockTimeout (s : State) : Out :=
  match s.boot.lostAt with
  | some a => if a + 1000000000 ≤ s.lt then .next (s.wantReset 3) else .next s
  | none => .next s

/-- HOLD_TIMEOUT (R405). -/
def execHoldTimeout (s : State) : Out :=
  let h := s.get F.MOD_CFG_HOLD_S
  match s.boot.holdAt with
  | some a => if h ≠ 0 && s.cond mFaultHold && decide (a + h * 1000000000 ≤ s.lt) then .next (s.wantReset 2) else .next s
  | none => .next s

end Sys2Proof.Machine
end

