-- ==== Sys2Proof/Machine/Herd.lean ====
section
/-! DEFINITION. The Herd link's receiving side (R143 to R164): damaged copies, consuming, forwarding and stripping, ports and their round
trips, ROLL entries, models and subscriptions. -/

namespace Sys2Proof.Machine

/-- The state with the Herd link's part changed. -/
def State.herdMap (s : State) (f : HerdSt → HerdSt) : State := { s with herd := f s.herd }

/-- Link stamps and PATH have 256 units per ns (R154, R157). -/
abbrev linkUnit : Nat := 256

/-! ## Copies (R145, R147, R150, R152) -/

/-- What the end of an arriving copy counts (R150, R152). An ABORT was counted where the damage was found. -/
def State.copyErr (s : State) (how : CopyEnd) : State :=
  match how with
  | .badCrc => (s.incSat F.HERD_CNT0_CRC_ERR).frameErr
  | .badForm => s.frameErr
  | _ => s

/-- A copy arrives and ends as its receiver finds it (R147, R150, R152): errors are counted; a standalone module counts every frame and ignores it, whatever
state HERD is in (assumption 142); with HERD off the ports are silent. -/
def State.arrived (s : State) (how : CopyEnd) : State :=
  let s : State := if s.role = 3 then s.herdMap (fun h => { h with ignored := h.ignored + 1 }) else s
  if s.dom domHerd = domOff then s else s.copyErr how

/-- Port `portB` takes ring frames: a ring role, HERD at least in retention, the port UP (R147, R153). -/
def State.ringTakes (s : State) (portB : Bool) : Bool :=
  s.role != 3 && s.dom domHerd != domOff && s.get (portState portB) == pUp

/-- Port `portB` runs the link-local frames: CALIBRATING or UP (R154). -/
def State.linkRuns (s : State) (portB : Bool) : Bool :=
  s.role != 3 && s.dom domHerd != domOff && decide (pCalibrating ≤ s.get (portState portB))

/-- The module is in full operation on the ring (R147). -/
def State.herdFull (s : State) : Bool := s.role != 3 && s.domIsOn domHerd

/-- This module, as the origin, strips the frame here (R145). -/
def State.strips (s : State) (portB : Bool) (f : Frame) : Bool := f.origin == s.line && (portB || s.wrapped true)

/-- The least time from the arrival of a frame's SOF to its leaving (R152, R158). -/
def Body.residence : Body → Nat
  | .beacon _ => 1600
  | _ => 400

/-- The frame goes on past this module (R144, R145, R152); a damaged copy leaves with ABORT. -/
def State.forward (s : State) (portB : Bool) (f : Frame) (how : CopyEnd) : State :=
  if f.hops + 1 ≥ 64 then (s.incSat F.HERD_CNT2_HOPS_DROP).frameErr
  else s.sendOn (!portB) { f with hops := f.hops + 1 } (if how = .good then .good else .abort) (s.vco + vcoNs * f.body.residence)

/-- What becomes of an arriving ring frame (R145, R147). -/
inductive Fate where
  /-- Not taken: standalone, HERD off, the port not UP, or a form that R150 does not allow. -/
  | drop
  /-- Stripped by its origin. -/
  | strip
  /-- For this module alone. -/
  | mine
  /-- Goes on. -/
  | pass
  deriving DecidableEq, Repr

/-- The fate of an arriving ring frame. -/
def State.fate (s : State) (portB : Bool) (f : Frame) (how : CopyEnd) : Fate :=
  if !s.ringTakes portB || how = .badForm then .drop
  else if s.strips portB f then .strip
  else if !f.bcast && f.dest == s.line then .mine
  else .pass

/-- A good copy is delivered here: a module in full operation takes it (R145, R147). -/
def State.delivers (s : State) (how : CopyEnd) : Bool := how = .good && s.herdFull

/-- A frame of class 1 to 3, or a CLAIM, arrives; `take` is what the module does with one delivered to it (R145, R152). -/
def State.ringRx (s : State) (portB : Bool) (f : Frame) (how : CopyEnd) (take : State → State) : State :=
  let how := f.seen how
  let s := s.arrived how
  match s.fate portB f how with
  | .drop => s
  | .strip => s
  | .mine => if s.delivers how then take s else s
  | .pass => (if f.bcast && s.delivers how then take s else s).forward portB f how

/-! ## Link-local frames (R153 to R155) -/

/-- The difference of two link stamps, which are 64-bit counts (R154). -/
def linkDiff (a b : Nat) : Int :=
  let d := ((a : Int) - b) % 0x10000000000000000
  if d < 0x8000000000000000 then d else d - 0x10000000000000000

/-- SENDER's line address and role with the port shown (R153). -/
def State.sendPulse (s : State) (portB : Bool) (frac : Nat) : State :=
  let p := s.port portB
  let stamp := s.portNow * linkUnit + frac
  let due := (s.portNow + 5000) / 10000 * 10000 - 5000
  let rx := if p.rxStamp > p.txStamp then p.rxStamp else 0
  let pl : Pulse := { txStamp := stamp % 0x10000000000000000, rxStamp := rx % 0x10000000000000000, pnum := w32 ((due - 5000) / 10000),
                      addr := s.line, portB := portB, role := s.role, up := s.get (portState portB) == pUp,
                      wrapped := s.wrapped portB, conflict := s.isSet F.HERD_STAT_ADDR_CONFLICT }
  let f := Frame.form s.line s.line false (w32 (s.fseqOf 0)) (.pulse pl)
  let s := s.herdMap (fun h => { h with fseq := tabSet (fun _ => 0) 0 (s.fseqOf 0 + 1) h.fseq })
  (s.setPort portB { p with ownPrev := p.txStamp, txStamp := stamp, saidUp := p.saidUp || pl.up }).txPut portB ⟨f, .good, s.vco, 0⟩

/-- A CAL frame leaves a port (R153): pair probed or reported, and a pair delay. -/
def State.sendCal (s : State) (portB : Bool) (step delay : Nat) : State :=
  let f := Frame.form s.line s.line false (w32 (s.fseqOf 0)) (.cal ⟨s.line, portB, s.role, step, delay⟩)
  let s := s.herdMap (fun h => { h with fseq := tabSet (fun _ => 0) 0 (s.fseqOf 0 + 1) h.fseq })
  s.txPut portB ⟨f, .good, s.vco, 0⟩

/-- The A end probes a pair (0 from A to B, 1 from B to A) and notes the probe's stamp. -/
def State.calProbe (s : State) (step : Nat) : State :=
  (s.setPort false { s.port false with calStep := step, calAt := s.portNow * linkUnit }).sendCal false step 0

/-- The peer's address shown (R182). -/
def State.showPeer (s : State) (portB : Bool) (a : Nat) : State :=
  (s.put (F.HERD_PORT_PEER_ADDR portB.toNat) a).put (F.HERD_PORT_PEER_VALID portB.toNat) 1

/-- Pair calibration is done at a port: ASYM is held (R153). -/
def State.calHold (s : State) (portB : Bool) (ab ba : Nat) : State :=
  (s.setPort portB { s.port portB with delayAB := ab, delayBA := ba, calDone := true, calAt := 0 }).putInt (F.HERD_ASYM_ASYM portB.toNat)
    ((ab : Int) - ba)

/-- A pair's delay from the probe's and the answer's stamps (R153): the CAL frame's 26 symbols and the turnaround's 2,000 ns are taken off. -/
def pairDelay (sent answered : Nat) : Nat := (answered - sent - (208 + 2000) * linkUnit) / 2

/-- A good CAL frame at a calibrating port (R153). -/
def State.calTake (s : State) (portB : Bool) (c : Cal) (stamp : Nat) : State :=
  let p := s.port portB
  if c.portB = portB then (s.showPeer portB c.addr).portTo portB pWrong
  else
    let s := s.showPeer portB c.addr
    if portB then
      if c.step < 2 then s.setPort true { p with calStep := c.step, calAt := stamp }
      else if c.step = 2 then s.setPort true { p with delayAB := c.delay }
      else if c.step = 3 then s.calHold true p.delayAB c.delay
      else s
    else if c.step ≠ p.calStep ∨ p.calAt = 0 then s
    else
      let d := pairDelay p.calAt stamp
      if c.step = 0 then (s.setPort false { p with delayAB := d }).calProbe 1
      else ((s.calHold false p.delayAB d).sendCal false 2 p.delayAB).sendCal false 3 d

/-- The mean of the round trips held, in 2^-8 ns (R155). -/
def meanRt (l : List Int) : Int := l.foldl (· + ·) 0 / (max l.length 1 : Nat)

/-- The round trip that a good PULSE completes (R155), in 2^-8 ns: none where a stamp is missing or the difference cannot be one. -/
def PortSt.roundTrip (p : PortSt) (x : Pulse) : Option Int :=
  if x.rxStamp = 0 ∨ p.rxStamp = 0 ∨ p.peerTx = 0 then none
  else
    let back := linkDiff p.peerTx x.rxStamp
    let ok (own : Nat) : Bool := decide (own ≠ 0) && decide (0 ≤ linkDiff p.rxStamp own - back)
      && decide (linkDiff p.rxStamp own - back < 10000 * linkUnit)
    if ok p.ownPrev then some (linkDiff p.rxStamp p.ownPrev - back)
    else if ok p.txStamp then some (linkDiff p.rxStamp p.txStamp - back)
    else none

/-- HERD_DLY of a port from its round trips and ASYM (R155). -/
def State.showDelay (s : State) (portB : Bool) : State :=
  let p := s.port portB
  let a : Int := (p.delayAB : Int) - p.delayBA
  s.put (F.HERD_DLY_DELAY portB.toNat) ((meanRt p.rts + (if portB then -a else a)) / 2).toNat

/-- A good PULSE at a port that runs (R153, R155, R156): its round trip, the held mean, and UP after three in a row. -/
def State.pulseTake (s : State) (portB : Bool) (x : Pulse) (stamp : Nat) : State :=
  let p := s.port portB
  let s := s.showPeer portB x.addr
  let rt := p.roundTrip x
  let up := s.get (portState portB) == pUp
  let jump := match rt with
    | some r => up && !p.rts.isEmpty && decide (2 * linkUnit < (r - meanRt p.rts).natAbs)
    | none => false
  if jump then s.portTo portB pTraining
  else
    let good := if p.good ≠ 0 ∧ s.portNow < p.lastPulse + 15000 then p.good + 1 else 1
    let p' := { p with good := good, lastPulse := s.portNow, peerUp := x.up, rxStamp := stamp, peerTx := x.txStamp,
                       rts := match rt with | some r => (r :: p.rts).take 16 | none => p.rts }
    let s := s.setPort portB p'
    let s := if rt.isSome then s.showDelay portB else s
    if !up && p'.calDone && decide (3 ≤ good) then s.portTo portB pUp else s

/-- Ports of which an own PULSE and the peer's have both reported UP join the ring (R156). -/
def State.joinPorts (s : State) : State :=
  [false, true].foldl (fun s b => if s.get (portState b) == pUp && (s.port b).saidUp && (s.port b).peerUp then s.portJoin b else s) s

/-! ## Conflicts (R160, R161, R181) -/

/-- The module enters address conflict (R160, R161). -/
def State.addrConflict (s : State) : State :=
  if s.isSet F.HERD_STAT_ADDR_CONFLICT then s else (s.put F.HERD_STAT_ADDR_CONFLICT 1).raiseHerd F.HERD_EVT_CONFLICT_SEEN 14

/-- The own STATUS byte (R157). -/
def State.statusByte (s : State) (conflict : Bool) : Byte :=
  BitVec.ofNat 8 (1 + (s.wrapped false).toNat * 2 + (s.wrapped true).toNat * 4 + (s.isSet F.LT_STAT_HOLDOVER).toNat * 8
    + (s.dom domHerd == domRet).toNat * 16 + conflict.toNat * 32 + s.role % 4 * 64)

/-- The own ROLL entry, where the beacon has the module's group (R157). -/
def State.ownRoll (s : State) (b : Beacon) : Option RollEntry :=
  if s.line / 8 = b.bnum.toNat % 4 then b.roll[s.line % 8]? else none

/-- The own ROLL entry shows another holder of the address (R160). -/
def State.rollTaken (s : State) (b : Beacon) : Bool :=
  match s.ownRoll b with
  | some e => e.token != 0#32 && e.token != Config.serial
  | none => false

/-- The own ROLL entry and PRESENT bit written into a passing beacon (R158, R160). -/
def State.rollWrite (s : State) (b : Beacon) : Beacon :=
  let b := { b with present := b.present ||| (1#32 <<< s.line) }
  match s.ownRoll b with
  | none => b
  | some e =>
    let taken := e.token != 0#32 && e.token != Config.serial
    let e' : RollEntry := { token := if taken then 0xFFFFFFFF#32 else Config.serial,
                            status := s.statusByte (taken || s.isSet F.HERD_STAT_ADDR_CONFLICT) }
    { b with roll := b.roll.set (s.line % 8) e' }

/-! ## Published sources (R162, R163) -/

/-- Local source `e` is published into the group of this beacon (R161, R163). -/
def State.publishes (s : State) (e g : Nat) : Bool :=
  s.herdFull && s.isSet (F.HERD_PUB_EN e) && s.get (F.HERD_PUB_SLOT e) / 4 == g && !s.isSet (F.HERD_PUB_SLOT_CONFLICT e)
    && !s.isSet F.HERD_STAT_ADDR_CONFLICT && !s.isSet F.LT_STAT_EPOCH_CONFLICT

/-- The model of local source `e` (R162): its newest point is the anchor. -/
def State.modelOf (s : State) (e : Nat) : Option Model :=
  let x := s.src e
  match x.pts with
  | [] => none
  | p :: _ =>
    let c := max x.cpc 1
    some { owner := s.line, ownerSrc := e, valid := true, reverse := x.reverse, stopped := x.stopped, holdover := s.isSet F.LT_STAT_HOLDOVER,
           noIndex := x.noIndex, cycle := BitVec.ofInt 32 (p.pos / (c : Int)), count := (p.pos % (c : Int)).toNat, cpc := c, anchorLt := p.lt,
           period := if x.stopped then 0xFFFFFFFF else x.period, fresh := true }

/-- The slot of local source `e` is in use by another publisher (R163). -/
def State.slotTaken (s : State) (e : Nat) (b : Beacon) : Bool :=
  match b.models[s.get (F.HERD_PUB_SLOT e) % 4]? with
  | some m => m.valid && !(m.owner == s.line && m.ownerSrc == e)
  | none => false

/-- Publications that find their slot taken stop (R163). -/
def State.slotConflicts (s : State) (b : Beacon) : State :=
  [0, 1, 2, 3].foldl (fun s e =>
    if s.publishes e (b.bnum.toNat % 4) && s.slotTaken e b then
      (s.put (F.HERD_PUB_SLOT_CONFLICT e) 1).raiseHerd F.HERD_EVT_CONFLICT_SEEN 14
    else s) s

/-- The models this module publishes written into a passing beacon (R158, R163). -/
def State.modelsWrite (s : State) (b : Beacon) : Beacon :=
  [0, 1, 2, 3].foldl (fun b e =>
    if s.publishes e (b.bnum.toNat % 4) && !s.slotTaken e b then
      match s.modelOf e with
      | some m => { b with models := b.models.set (s.get (F.HERD_PUB_SLOT e) % 4) m }
      | none => b
    else b) b

/-! ## Subscriptions (R164, R183, R288) -/

/-- The anchor of subscription `n` as a CAPTURE record in the tiles' TQ t.3 (R183, R216, R288). None is formed between a drain's MARKs and the new
generation: it could enter behind its stream's GENERATION MARK (O6, R418). -/
def State.anchorRecord (s : State) (n : Nat) (m : Model) (pos : Int) : State :=
  if s.co.phase = 3 then s
  else s.offerAll (s.anchorQueues n)
    { ty := tyCapture, flags := if m.holdover then flagOn flHoldover 0#8 else 0#8, source := s.source 7 (0x74 + n), seq := 0#32,
      lt := m.anchorLt, cycle := m.cycle,
      payload := capPayload (40 + n) 1 m.cpc [⟨m.anchorLt, pos, false, false, m.reverse, false, m.holdover, 0, 0, false⟩] }

/-- Subscription `n` becomes available or not (R164). -/
def State.subAvail (s : State) (n : Nat) (b : Bool) : State :=
  if s.isSet (F.HERD_SUB_CFG_AVAILABLE n) = b then s
  else
    let s := s.putB (F.HERD_SUB_CFG_AVAILABLE n) b
    if b then (s.setSrc (4 + n) { s.src (4 + n) with since := s.lt }).watchNote.watchBack else (s.sourceGone (4 + n)).watchNote

/-- An anchor of subscription `n` arrives (R164): a new one is a point of the shared source. -/
def State.anchorTake (s : State) (n : Nat) (m : Model) : State :=
  let x := tabGet (fun _ => Source.start) s.srcs (4 + n)
  let near := match x.pts with
    | [] => 0
    | p :: _ => p.pos
  let pos := extendCycle m.cpc near m.cycle * m.cpc + m.count
  let isNew := match x.pts with
    | [] => true
    | p :: _ => decide (p.lt < m.anchorLt)
  let old := if x.cpc = m.cpc then x.pts else []
  let x' : Source := { pts := if isNew then ⟨pos, m.anchorLt, m.holdover⟩ :: old else x.pts, cpc := if isNew then m.cpc else x.cpc,
                       period := m.period, reverse := m.reverse, stopped := m.stopped, noIndex := m.noIndex, since := x.since }
  let s := s.setSrc (4 + n) x'
  let s := s.herdMap (fun h => { h with anchorAt := tabSet (fun _ => 0) n s.lt h.anchorAt })
  let s := if isNew then (s.put (F.HERD_SUB_AGE_AGE_NS n) (min (s.lt - m.anchorLt) 0xFFFFFFFF)).anchorRecord n m pos else s
  ((s.subAvail n (!m.stopped && !m.noIndex)).reestimate (4 + n)).watchNote.watchBack

/-- The anchors that a good copy carries for the subscriptions (R164). -/
def State.anchorsTake (s : State) (b : Beacon) : State :=
  [0, 1, 2, 3].foldl (fun s n =>
    if s.isSet (F.HERD_SUB_CFG_EN n) then
      match b.models.find? (fun m => m.valid && m.owner == s.get (F.HERD_SUB_CFG_OWNER n) && m.ownerSrc == s.get (F.HERD_SUB_CFG_OWNER_SRC n)) with
      | some m => s.anchorTake n m
      | none => s
    else s) s

/-! ## What is held for other modules (R173, R177) -/

/-- Origins whose addresses a ROSTER lacks are forgotten (R173). -/
def State.originsCheck (s : State) (roster : Word) : State :=
  s.herdMap (fun h => { h with origins := h.origins.filter (fun o => roster.getLsbD o.1) })

/-- The deputies that a beacon's ROLL entries name (R157, R177). -/
def State.deputiesNote (s : State) (b : Beacon) : State :=
  let g := b.bnum.toNat % 4
  let named : List (Nat × Bool) := (List.range 8).filterMap (fun i =>
    match b.roll[i]? with
    | some e => if e.status.getLsbD 0 then some (8 * g + i, e.status.toNat / 64 == 1) else none
    | none => none)
  s.herdMap (fun h => { h with
    deputies := h.deputies.filter (fun a => !named.any (fun x => x.1 == a)) ++ (named.filter (fun x => x.2)).map (fun x => x.1) })

/-- Rank among the deputies in the last ROSTER, from 0 by increasing address (R177). -/
def State.deputyRank (s : State) : Nat :=
  (s.herd.deputies.filter (fun a => decide (a < s.line) && s.bit F.HERD_ROSTER_ROSTER a)).length

/-- HERD_ROSTER follows a beacon's ROSTER; a change raises event 14 (R176). -/
def State.rosterSet (s : State) (r : Word) : State :=
  if s.rd R.HERD_ROSTER = r then s else (s.wr R.HERD_ROSTER r).raiseHerd F.HERD_EVT_ROSTER_SEEN 14

end Sys2Proof.Machine
end

