-- ==== Sys2Proof/Machine/Follow.lean ====
section
/-! DEFINITION. Following the line (R125 to R135) and the beacon source (R128, R157 to R160, R177 to R180). -/

namespace Sys2Proof.Machine

/-! ## Steps (R130) -/

/-- A point's interval to the next one spans a step: it carries HOLDOVER (R130). -/
def Source.stepped (x : Source) : Source :=
  match x.pts with
  | [] => x
  | p :: t => { x with pts := { p with hold := true } :: t }

/-- Times the Herd link counts from move with a step, since they measure durations. -/
def HerdSt.stepped (n : Nat) (h : HerdSt) : HerdSt :=
  let port (p : PortSt) : PortSt :=
    { p with txStamp := 0, ownPrev := 0, rxStamp := 0, lastPulse := p.lastPulse + n }
  { h with portA := port h.portA, portB := port h.portB, heard := h.heard.map (fun x => { x with lt := x.lt + n }),
           lastGood := h.lastGood + n, frames := h.frames.map (fun f => { f with lt := f.lt + n }),
           reqs := h.reqs.map (fun r => { r with sent := r.sent.map (fun p => (p.1, p.2 + n)) }),
           anchorAt := h.anchorAt.map (fun a => (a.1, a.2 + n)) }

/-- The action-table entries whose launch a step has passed (R130). -/
def State.overdue (s : State) : List Nat :=
  (s.acts.filter (fun c => (c.2.state == 2 || (c.2.state == 1 && c.2.est)) && decide (c.2.launchLt ≤ s.lt))).map (fun c => c.1)

/-- A take's end, the last kick and the last release move with a step, since they measure durations. -/
def SvcSt.stepped (n : Nat) (v : SvcSt) : SvcSt :=
  { v with takeEnd := v.takeEnd.map (· + n), kickAt := v.kickAt.map (· + n), releaseAt := v.releaseAt.map (· + n) }

/-- LT steps forward by `n` ns (R130). -/
def State.ltStep (s : State) (n : Nat) : State :=
  let s := { s with lt := s.lt + n, svc := s.svc.stepped n, watch := { s.watch with away := s.watch.away.map (· + n) }, herd := s.herd.stepped n, srcs := s.srcs.map (fun (x : Nat × Source) => (x.1, x.2.stepped)) }
  let s := (((s.putPair R.LT_STEP_LO n).incSat F.LT_CNT_STEPS).put F.LT_EVT_STEP_SEEN 1).raise 42
  let s := s.logWrite kLtStep 42 0#32 (w32 n) (w32 (n / 0x100000000))
  let s := (List.range 8).foldl State.churnStep s
  let s := (List.range 32).foldl (fun s c => s.cellRestart c) s
  s.executeLate s.overdue

/-! ## Walks (R129) -/

/-- Aligned: |e| at most 2 ns (R134). -/
def aligned (e : Int) : Bool := decide (e.natAbs ≤ 2 * linkUnit)

/-- A walk begins, or what was left of one is replaced (R129). -/
def State.walkBegin (s : State) (e : Int) : State :=
  (s.herdMap (fun h => { h with walkErr := e, walkFrom := s.lt })).putB F.LT_STAT_WALKING (e != 0)

/-- The module is aligned with the line (R132, R134). -/
def State.realigned (s : State) : State := ({ s with uncertain := false }.setHoldover false).noteSpan

/-- LT at which the running walk ends: 2 ns of error per µs (R129). -/
def State.walkEndAt (s : State) : Nat := s.herd.walkFrom + (s.herd.walkErr.natAbs * 500 + 255) / linkUnit

/-! ## Following a beacon (R129 to R131, R134) -/

/-- A step may be taken for the error `e` (R130). -/
def State.mayStep (s : State) (e : Int) : Bool :=
  decide (e < 0) && ((s.mode == mPowerUp || s.mode == mKeyLoad) && decide (1000 * linkUnit < e.natAbs)
    || s.isSet F.LT_CFG_STEP_EN && decide (s.get F.LT_CFG_STEP_MIN_US * 1000 * linkUnit < e.natAbs))

/-- The walk of an error, and what an error of at most 2 ns ends. -/
def State.walkError (s : State) (e : Int) : State :=
  let s := (s.walkBegin e).put F.LT_STAT_FOLLOWING 1
  let s := s.put F.LT_STAT_EPOCH_CONFLICT 0
  if aligned e then s.realigned else s

/-- EPOCH_CONFLICT (R131): the module keeps its own count and stays in HOLDOVER. -/
def State.epochConflict (s : State) : State :=
  let s := (s.walkBegin 0).put F.LT_STAT_FOLLOWING 0
  let s := if s.isSet F.LT_STAT_EPOCH_CONFLICT then s
    else ((s.put F.LT_STAT_EPOCH_CONFLICT 1).put F.LT_EVT_CONFLICT_SEEN 1).raise 43
  (s.setHoldover true).noteSpan

/-- The error of a followed beacon takes effect (R129 to R131): a step with the rest walked, a conflict, or a walk. -/
def State.followError (s : State) (e : Int) : State :=
  let s := s.putInt F.LT_ERR_E_NS (e / (linkUnit : Int))
  if s.mayStep e then
    let n := e.natAbs / (80 * linkUnit) * 80
    (s.ltStep n).walkError (e + (n * linkUnit : Nat))
  else if decide (1000000000 * linkUnit < e.natAbs) then s.epochConflict
  else s.walkError e

/-! ## The chosen source (R159, R181) -/

/-- Precedence among beacon sources, the least first (R159): the leader role, then deputies by address. -/
def rankOf (role addr : Nat) : Nat := if role = 2 then 0 else 1 + addr

/-- A beacon source heard again (R159); sources not heard for 30 µs are forgotten. -/
def State.hear (s : State) (addr role : Nat) (portB : Bool) : State :=
  let l := s.herd.heard.filter (fun x => x.addr != addr && decide (s.portNow ≤ x.lt + 30000))
  s.herdMap (fun h => { h with heard := l ++ [⟨addr, role, s.portNow, portB⟩] })

/-- The source of highest precedence among those heard (R159); of two leaders, the one chosen before, else the lower address. -/
def State.choose (s : State) : Option Nat :=
  let best := s.herd.heard.foldl (fun (b : Option Heard) x =>
    match b with
    | none => some x
    | some y =>
      let rx := rankOf x.role x.addr
      let ry := rankOf y.role y.addr
      if rx < ry || (rx == ry && (s.herd.chosen == some x.addr || (s.herd.chosen != some y.addr && decide (x.addr < y.addr)))) then some x
      else some y) none
  best.map (fun x => x.addr)

/-- The chosen source as shown (R159, R181, R182): event 11 when it is lost, changes or is regained; the BNUMs of a source other than the one
last shown are followed anew. -/
def State.showSource (s : State) (c : Option Nat) : State :=
  let ok := c.isSome
  let a := c.getD (s.get F.HERD_STAT_SOURCE_ADDR)
  let s := s.herdMap (fun h => { h with chosen := c, followed := if s.get F.HERD_STAT_SOURCE_ADDR = a then h.followed else [] })
  if s.isSet F.HERD_STAT_SOURCE_OK = ok ∧ s.get F.HERD_STAT_SOURCE_ADDR = a then s
  else ((s.putB F.HERD_STAT_SOURCE_OK ok).put F.HERD_STAT_SOURCE_ADDR a).raiseHerd F.HERD_EVT_SOURCE_SEEN 11

/-- Two leaders are on the ring (R182): two heard, or one heard by a leader. -/
def State.showRoles (s : State) : State :=
  let n := (s.herd.heard.filter (fun x => x.role == 2)).length + (if s.role = 2 then 1 else 0)
  if decide (2 ≤ n) = s.isSet F.HERD_STAT_ROLE_CONFLICT then s
  else if 2 ≤ n then (s.put F.HERD_STAT_ROLE_CONFLICT 1).raiseHerd F.HERD_EVT_CONFLICT_SEEN 14
  else s.put F.HERD_STAT_ROLE_CONFLICT 0

/-- A good copy of the chosen source has arrived on a port (R159): REF stays on its port unless that one misses three beacons in a row. After a loss of lock the
resonator stays the reference until the PLL has relocked (R405). -/
def State.refPort (s : State) (portB : Bool) : State :=
  let here := 1 + portB.toNat
  let r := s.get F.LT_CLK_STAT_REF_SRC
  if s.boot.lostAt.isSome then s
  else if r = here then s.herdMap (fun h => { h with portMiss := 0 })
  else if r = 0 ∨ s.herd.portMiss + 1 ≥ 3 then (s.refTo here).herdMap (fun h => { h with portMiss := 0, refPortB := portB })
  else s.herdMap (fun h => { h with portMiss := h.portMiss + 1 })

/-- LINE_HOLDOVER follows the beacons (R135). -/
def State.lineHold (s : State) (b : Bool) : State :=
  if s.isSet F.LT_STAT_LINE_HOLDOVER = b then s else ((s.putB F.LT_STAT_LINE_HOLDOVER b).raise 41).noteSpan

/-! ## Beginning and ending to beacon (R128, R177, R178, R181) -/

/-- This module is the beacon source from now on: on its own resonator, leading (R125, R142). -/
def State.beaconBegin (s : State) : State :=
  let s := ((s.put F.HERD_STAT_BEACONING 1).put F.LT_STAT_LEADING 1).put F.LT_STAT_FOLLOWING 0
  let s := s.refTo 0
  ((s.showSource none).raiseHerd F.HERD_EVT_BEACON_SEEN 12).herdMap (fun h => { h with takeBnum := none, aligned := 0 })

/-- This module is no beacon source any more. -/
def State.beaconEnd (s : State) : State :=
  let s := (s.put F.HERD_STAT_BEACONING 0).put F.LT_STAT_LEADING 0
  (s.raiseHerd F.HERD_EVT_BEACON_SEEN 12).herdMap (fun h => { h with takeBnum := none })

/-- Listening or forming ends without beaconing (R128, R179). -/
def State.formStop (s : State) : State :=
  let s := s.herdMap (fun h => { h with listenFrom := none, formFrom := none })
  if s.isSet F.HERD_STAT_FORMING then (s.put F.HERD_STAT_FORMING 0).raiseHerd F.HERD_EVT_BEACON_SEEN 12 else s

/-- A source of another rank has been heard: a module that listens follows; one that forms or beacons gives way to a higher precedence
(R128, R159, R179, R180). -/
def State.giveWay (s : State) (role addr : Nat) : State :=
  let higher := decide (rankOf role addr < rankOf s.role s.line)
  if s.isSet F.HERD_STAT_BEACONING then (if higher then s.beaconEnd else s)
  else if s.isSet F.HERD_STAT_FORMING then (if higher then s.formStop else s)
  else s.herdMap (fun h => { h with listenFrom := none })

/-- A leader that follows a deputy claims the line after 100 aligned beacons (R178). -/
def State.claimCheck (s : State) (e : Int) (b : Beacon) : State :=
  if s.role = 2 ∧ b.srcRole = 1 ∧ s.herd.takeBnum = none then
    let n := if aligned e then s.herd.aligned + 1 else 0
    let s := s.herdMap (fun h => { h with aligned := n })
    if n ≥ 100 then
      let t := w32 ((b.bnum.toNat + 32 + 15) / 16 * 16)
      (s.herdSend b.srcAddr false (.claim t)).herdMap (fun h => { h with takeBnum := some t, aligned := 0 })
    else s
  else s

/-- Beacon slots that passed without a good copy before this one (R182). -/
def State.missedBefore (s : State) (bnum : Word) : Nat :=
  match s.herd.lastBnum with
  | some l => if seqLater bnum l then (bnum - l).toNat - 1 - s.herd.missedNow else 0
  | none => 0

/-- The first good copy of a BNUM of the chosen source is followed (R129, R159): `a` is its arrival in link units. In retention only the
reference and the copy's arrival are kept, and the port-time counter is set from it (R147, R371). -/
def State.followBeacon (s : State) (b : Beacon) (a : Nat) : State :=
  let e : Int := (a : Int) - (b.leaderLt * linkUnit + b.path : Nat)
  let s := s.incSat F.HERD_CNT0_BEACON_MISSED (s.missedBefore b.bnum)
  let newest := match s.herd.lastBnum with
    | some l => if seqLater l b.bnum then l else b.bnum
    | none => b.bnum
  let s := s.herdMap (fun h => { h with
    portLt := if s.dom domHerd = domRet then b.leaderLt + b.path / linkUnit else h.portLt
    lastBnum := some newest, missedNow := 0, followed := (b.bnum :: h.followed).take 64 })
  let s := s.herdMap (fun h => { h with lastGood := s.portNow })
  if s.herdFull then
    let s := ((s.put F.HERD_PATH_PATH b.path).wr R.HERD_BNUM b.bnum).rosterSet b.roster
    ((s.followError e).lineHold b.lineHoldover).claimCheck e b
  else s

/-- A good copy of a beacon of another source has arrived (R159, R173): what it tells, and whether it is followed. A later copy of a BNUM already followed
brings no anchor and is not followed, but it is a good copy. -/
def State.beaconGood (s : State) (portB : Bool) (b : Beacon) (a : Nat) : State :=
  let s := ((s.originsCheck b.roster).deputiesNote b).giveWay b.srcRole b.srcAddr
  let s := (s.hear b.srcAddr b.srcRole portB).showRoles
  let s := if b.bnum.toNat % 16 = 0 then s.joinPorts else s
  if s.isSet F.HERD_STAT_BEACONING || s.isSet F.HERD_STAT_FORMING then s
  else
    let s := s.showSource s.choose
    if s.herd.chosen = some b.srcAddr then
      let s := (s.refPort portB).herdMap (fun h => { h with lastGood := s.portNow })
      if s.herd.followed.contains b.bnum then s
      else (if s.herdFull then s.anchorsTake b else s).followBeacon b a
    else s

/-- What passing beacons have this module write and find (R158, R160, R163). -/
def State.beaconMarks (s : State) (b : Beacon) : State :=
  (if s.rollTaken b then s.addrConflict else s).slotConflicts b

/-- The beacon as it leaves this module, with the residence and the leaving link's delay in PATH (R158). -/
def State.beaconOut (s : State) (portB : Bool) (b : Beacon) (resid : Nat) : Beacon :=
  let b := s.modelsWrite (s.rollWrite b)
  let out := if s.wrapped (!portB) then portB else !portB
  { b with path := (b.path + 1600 * linkUnit + resid % (8 * linkUnit) + s.get (F.HERD_DLY_DELAY out.toNat)) % 0x100000000 }

/-! ## Sending beacons (R157, R160, R163) -/

/-- A returned ROLL entry made ready for the next circulation (R160). -/
def RollEntry.next (e : RollEntry) : RollEntry := ⟨if e.status.getLsbD 5 then 0xFFFFFFFF#32 else 0#32, 0#8⟩

/-- A returned model slot made ready (R163): VALID only if its publisher wrote it. -/
def Model.next (m : Model) : Model := { m with valid := m.valid && m.fresh, fresh := false }

/-- The beacon composed for a BNUM (R157, R160): from the last one of its group to return; before any has, from an empty one. -/
def State.compose (s : State) (bnum : Word) (frac : Nat) : Beacon :=
  let g := bnum.toNat % 4
  let out := s.wrapped false
  let old := (s.herd.returned.find? (fun x => x.1 == g)).map (fun x => x.2)
  let b : Beacon :=
    { leaderLt := s.lt, path := (frac + s.get (F.HERD_DLY_DELAY out.toNat)) % 0x100000000, bnum := bnum,
      lineHoldover := s.isSet F.LT_STAT_LINE_HOLDOVER, srcAddr := s.line, srcRole := s.role,
      roster := match old with | some o => o.present | none => s.rd R.HERD_ROSTER,
      present := 0#32,
      roll := match old with | some o => o.roll.map RollEntry.next | none => List.replicate 8 ⟨0#32, 0#8⟩,
      models := match old with | some o => o.models.map Model.next | none => List.replicate 4 Model.empty }
  s.modelsWrite (s.rollWrite b)

/-- The low 32 bits of LT ÷ 10,000 (R157). -/
def bnumAt (lt : Nat) : Word := w32 (lt / 10000)

/-- One beacon leaves (R156, R157). -/
def State.sendBeacon (s : State) (frac : Nat) : State :=
  let n := bnumAt s.lt
  let s := if n.toNat % 16 = 0 then s.joinPorts else s
  let b := s.compose n frac
  let s := (s.rosterSet b.roster).originsCheck b.roster
  (s.herdSend s.line true (.beacon b)).herdMap (fun h => { h with sentBnum := some n })

end Sys2Proof.Machine
end

