-- ==== Sys2Proof/Machine/TimedCmds.lean ====
section
/-! DEFINITION. The commands of chapter 08: captures, timers, the action table and the outputs. -/

namespace Sys2Proof.Machine

/-! ## Captures -/

/-- CAPTURE_EDGE (R212 to R221); an encoder that WATCH_SRC names may end WATCH by it (R398). -/
def execCaptureEdge (cs : List CapChange) (s : State) : Out := .next (s.capChanges cs).watchBack

/-- CAPTURE_RECORD_CLOSE (R215): CLOSE_US after the first entry. -/
def execCaptureRecordClose (u : Fin 40) (s : State) : Out :=
  let x := s.cap u
  if x.entries.isEmpty then .next s
  else if x.openLt + s.get F.CAP_CFG_CLOSE_US * 1000 ≤ s.lt then .next (s.capClose u)
  else .next s

/-- ENCODER_STOPPED (R221): no count for STOP_MS. -/
def execEncoderStopped (e : Fin 4) (s : State) : Out :=
  let x := s.enc e
  if s.isSet (F.CAP_ENC_STAT_COUNTING e) ∧ !s.isSet (F.CAP_ENC_STAT_STOPPED e)
      ∧ x.lastLt + s.get (F.CAP_ENC_CFG_STOP_MS e) * 1000000 ≤ s.lt then
    let s := (s.put (F.CAP_ENC_STAT_STOPPED e) 1).put (F.CAP_ENC_PERIOD_PERIOD e) 0xFFFFFFFF
    .next ((s.setEnc e { x with stamps := [] }).reestimate e).watchNote
  else .next s

/-! ## Timers -/

/-- TIMER_START (R224). -/
def execTimerStart (w : Fin 9) (t : Fin 8) (n : Fin 4) (s : State) : Out := .next (s.ifTimerWriter w t (·.cmdTimerStart t n))
/-- TIMER_STOP (R224). -/
def execTimerStop (w : Fin 9) (t : Fin 8) (n : Fin 4) (s : State) : Out := .next (s.ifTimerWriter w t (·.cmdTimerStop t n))
/-- TIMER_CLEAR (R224). -/
def execTimerClear (w : Fin 9) (t : Fin 8) (n : Fin 4) (s : State) : Out := .next (s.ifTimerWriter w t (·.cmdTimerClear t n))
/-- TIMER_PER_WRITE (R225). -/
def execTimerPerWrite (w : Fin 9) (t : Fin 8) (n : Fin 4) (v : Word) (s : State) : Out :=
  .next (s.ifTimerWriter w t (·.cmdTimerPer t n v))
/-- TIMER_CMP_WRITE (R226). -/
def execTimerCmpWrite (w : Fin 9) (t : Fin 8) (n : Fin 4) (v : Word) (s : State) : Out :=
  .next (s.ifTimerWriter w t (·.cmdTimerCmp t n v))
/-- TIMER_PERIOD_END (R223, R227): a period end that a tick has latched acts. -/
def execTimerPeriodEnd (t : Fin 8) (n : Fin 4) (s : State) : Out := .next (s.timerEnd t n)
/-- TIMER_MATCH (R226, R227): a match that a tick has latched acts. -/
def execTimerMatch (t : Fin 8) (n : Fin 4) (s : State) : Out := .next (s.timerMatch t n)

/-! ## The action table -/

/-- The target a slot's words name (R230, R241): KIND 1 an LT, else a cycle and an angle. -/
def State.slotTarget (s : State) (slot : Nat) : Target :=
  let lo := s.rd (R.ACT_ENTER_TGT_LO slot)
  let hi := s.rd (R.ACT_ENTER_TGT_HI slot)
  if s.get (F.ACT_ENTER_CTL_KIND slot) = 1 then ⟨false, lo.toNat + 0x100000000 * hi.toNat, 0, 0#32, 0#32⟩
  else ⟨true, 0, s.get (F.ACT_ENTER_CTL_SRC slot), hi, lo⟩

/-- RESULT of a slot written; the slot is no longer busy (R230). -/
def State.slotResult (s : State) (slot res : Nat) : State :=
  (s.put (F.ACT_ENTER_RES_RESULT slot) res).put (F.ACT_ENTER_RES_BUSY slot) 0

/-- A slot's request for the own table or the own lanes (R230). -/
def State.slotOwn (s : State) (slot : Nat) : State :=
  let kind := s.get (F.ACT_ENTER_CTL_KIND slot)
  let out := s.get (F.ACT_ENTER_CTL_OUTPUT slot)
  let src := s.get (F.ACT_ENTER_CTL_SRC slot)
  if kind = 3 then s.slotResult slot (if s.inhibited then rsInhibited else rsBadRequest)
  else if kind = 2 then
    let c := s.rd (R.ACT_ENTER_TGT_HI slot)
    let res := s.clearResult out src s.line c
    (s.clearAct out src s.line c).slotResult slot res
  else
    let r : ActAsk := { output := out, level := s.isSet (F.ACT_ENTER_CTL_LEVEL slot), target := s.slotTarget slot, origin := s.line,
                        from_ := 2, reqId := 0#32 }
    let res := s.askResult r
    (s.askOwn r).slotResult slot res

/-- A slot's request to another module (R165, R230): busy until an answer, a loss or a refusal. -/
def State.slotHerd (s : State) (slot : Nat) : State :=
  let kind := s.get (F.ACT_ENTER_CTL_KIND slot)
  let src := s.get (F.ACT_ENTER_CTL_SRC slot)
  let o := if kind = 1 then (0, 0) else s.ownerOf src
  let lo := s.rd (R.ACT_ENTER_TGT_LO slot)
  let hi := s.rd (R.ACT_ENTER_TGT_HI slot)
  let r : ActReq := { reqId := 0#32, output := BitVec.ofNat 8 (s.get (F.ACT_ENTER_CTL_OUTPUT slot)),
                      op := BitVec.ofNat 8 (s.get (F.ACT_ENTER_CTL_LEVEL slot) + 2 * kind), owner := o.1, ownerSrc := o.2,
                      t0 := if kind = 1 then lo else hi, t1 := if kind = 1 then hi else lo }
  (s.put (F.ACT_ENTER_RES_BUSY slot) 1).askHerd (s.get (F.ACT_ENTER_CTL_ADDR slot)) slot [r]

/-- A write to a slot's CTL (R230): by its owner, the fields; with GO and the slot not busy, the request. -/
def State.cmdEnter (s : State) (w slot : Nat) (ctl : Word) : State :=
  if w = slot then
    let s := s.wr (R.ACT_ENTER_CTL slot) (ctl &&& 0x1FFFF#32)
    if !ctl.getLsbD 31 || s.isSet (F.ACT_ENTER_RES_BUSY slot) then s
    else if s.isSet (F.ACT_ENTER_CTL_SELF slot) || s.get (F.ACT_ENTER_CTL_ADDR slot) == s.line then s.slotOwn slot
    else s.slotHerd slot
  else s

/-- ACT_ENTER_GO (R230): core `w` writes CTL of entry slot `slot`. -/
def execActEnterGo (w slot : Fin 9) (ctl : Word) (s : State) : Out := .next (s.cmdEnter w slot ctl)

/-- ENTRY_FIX (R232): 2,000 ns before its launch instant a cycle-angle entry's last estimate becomes final. -/
def execEntryFix (a : Fin 512) (s : State) : Out :=
  let e := s.act a
  if e.state = 1 ∧ e.est ∧ e.launchLt ≤ s.lt + 2000 then .next (s.setAct a { e with state := 2 }) else .next s

/-- LAUNCH (R232 to R234): at its launch instant a fixed entry executes. -/
def execLaunch (a : Fin 512) (s : State) : Out :=
  let e := s.act a
  if e.state = 2 ∧ e.launchLt ≤ s.lt then .next (s.execute a e.late) else .next s

/-- A retry's held EVENT record settled (R233, R235): it leaves with its outcome, or is dropped where no record is asked for. -/
def State.retryRecord (s : State) (n oc : Nat) (r : Retry) : State :=
  let l := s.evts.flatMap (fun e =>
    if e.output = n ∧ !e.ready ∧ e.lt = r.edgeLt then
      (if oc = ocOnTime ∧ !s.isSet F.ACT_CFG_REC_ALL then [] else [{ e with outcome := oc, ready := true }])
    else [e])
  s.evtFlush l

/-- RETRY_OUTCOME_SETTLE (R233): 100 µs after a retry's edge. -/
def execRetryOutcomeSettle (n : Fin 24) (s : State) : Out :=
  let o := s.outSt n
  match o.retry with
  | some r =>
    if r.edgeLt + 100000 ≤ s.lt then
      let oc := if o.off then ocOutputFault else if r.entry.late then ocLate else ocOnTime
      let s := s.setOut n { o with retry := none }
      let s := if o.off then s else s.clearBit F.OUT_FAULT_FAULT n
      .next ((s.settleCount oc).retryRecord n oc r)
    else .next s
  | none => .next s

/-! ## Outputs (R237) -/

/-- Classes of output faults in the trouble log, in the order of R237's table. -/
abbrev ofOvercurrent : Nat := 0
abbrev ofReadback : Nat := 1
abbrev ofNoSupply : Nat := 2

/-- An output fault (R237): FAULTS, event 46, the trouble-log entry. -/
def State.outFault (s : State) (n cls : Nat) : State :=
  ((s.incSat F.OUT_CNT_FAULTS).raise 46).logWrite kOutFault 46 (w32 (n + 32 * cls)) 0#32 0#32

/-- OUTPUT_OVERCURRENT (R237): an energised OUT output has been at its limit for 100 µs and is switched off. -/
def execOutputOvercurrent (n : Fin 24) (s : State) : Out :=
  if n.val < 16 ∧ s.contact n then
    let s := (s.setBit F.OUT_FAULT_FAULT n).put F.OUT_EVT_OVERCURRENT_SEEN 1
    .next (((s.setOut n { s.outSt n with off := true }).drive).outFault n ofOvercurrent)
  else .next s

/-- The output's readback may be checked (R237): 20 µs (OUT) or 1 µs (FOUT) after its last edge. -/
def State.readbackTime (s : State) (n : Nat) : Bool :=
  match (s.outSt n).lastEdge with
  | some t => decide (t + (if n < 16 then 20000 else 1000) ≤ s.lt)
  | none => true

/-- OUTPUT_READBACK_CHECK (R237): the contact's level against the commanded one. -/
def execOutputReadbackCheck (n : Fin 24) (level : Bool) (s : State) : Out :=
  if s.readbackTime n then
    let s := if level then s.setBit F.OUT_PIN_PIN n else s.clearBit F.OUT_PIN_PIN n
    if level = s.bit F.OUT_LEVEL_LEVEL n ∨ s.bit F.OUT_FAULT_FAULT n ∨ (n.val < 16 ∧ s.noSupply) then .next s
    else .next (((s.setBit F.OUT_FAULT_FAULT n).put F.OUT_EVT_READBACK_SEEN 1).outFault n ofReadback)
  else .next s

/-- OUT_SUPPLY_LOW (R40, R237). -/
def execOutSupplyLow (s : State) : Out :=
  if s.noSupply then .next s
  else
    let s := (s.put F.OUT_FAULT_NO_SUPPLY 1).put F.OUT_EVT_NO_SUPPLY_SEEN 1
    .next (s.drive.outFault 0 ofNoSupply)

/-- OUT_SUPPLY_RETURN (R237): OUT_24V has been at or above 16 V for 1 ms; contacts follow their commands again. -/
def execOutSupplyReturn (s : State) : Out := .next ((s.put F.OUT_FAULT_NO_SUPPLY 0).drive)

end Sys2Proof.Machine
end

