-- ==== Sys2Proof/Machine/HerdCmds.lean ====
section
/-! DEFINITION. Meanings of the Herd link's and line time's commands (chapters 05 and 06). -/

namespace Sys2Proof.Machine

/-! ## Line time -/

/-- REF_MEASURE (R125): while it follows, the module measures its resonator against the recovered clock. -/
def execRefMeasure (ppb : Int) (s : State) : Out :=
  if s.isSet F.LT_STAT_FOLLOWING && s.get F.LT_CLK_STAT_REF_SRC != 0 then .next (s.putInt F.LT_RES_PPB_RATIO ppb) else .next s

/-- WALK_END (R129, R132, R134): the error has been removed. -/
def execWalkEnd (s : State) : Out :=
  if s.isSet F.LT_STAT_WALKING && decide (s.walkEndAt ≤ s.lt) then
    let s := s.walkBegin 0
    .next (if s.isSet F.HERD_STAT_SOURCE_OK then s.realigned else s)
  else .next s

/-! ## The beacon source -/

/-- BEACON_LISTEN_END (R128): 2 ms without beacons, and a leader or deputy begins to form the line. -/
def execBeaconListenEnd (s : State) : Out :=
  match s.herd.listenFrom with
  | some a =>
    if s.herdFull && decide (a + 2000000 ≤ s.lt) then
      let s := s.herdMap (fun h => { h with listenFrom := none, formFrom := some s.lt, formMax := 0 })
      .next ((s.put F.HERD_STAT_FORMING 1).raiseHerd F.HERD_EVT_BEACON_SEEN 12)
    else .next s
  | none => .next s

/-- FORM_SEND (R179): every 10,000 ns for 1 ms. -/
def execFormSend (s : State) : Out :=
  match s.herd.formFrom with
  | some a =>
    if s.herdFull && s.isSet F.HERD_STAT_FORMING && (s.lt - a) % 10000 == 0 && decide (s.lt < a + 1000000) then
      .next (s.herdSend s.line true (.form 0 (1#32 <<< s.line) s.line s.role))
    else .next s
  | none => .next s

/-- The forming module's target (R128): the greatest reported LT plus 1 ms, rounded up to a multiple of 1 ms. -/
def formTarget (maxLt : Nat) : Nat := (maxLt + 1000000 + 999999) / 1000000 * 1000000

/-- FORMING_END (R128): after 1 ms the module steps past every reported LT and beacons. -/
def execFormingEnd (s : State) : Out :=
  match s.herd.formFrom with
  | some a =>
    if s.herdFull && s.isSet F.HERD_STAT_FORMING && decide (a + 1000000 ≤ s.lt) then
      let t := formTarget s.herd.formMax
      let d := t - s.lt
      let s : State := if 0 < s.herd.formMax && 0 < d then (s.ltStep (d / 80 * 80)).walkBegin (-(d % 80 * linkUnit : Nat)) else s
      let s := (s.put F.HERD_STAT_FORMING 0).herdMap (fun h => { h with formFrom := none })
      .next s.beaconBegin
    else .next s
  | none => .next s

/-- BEACON_SEND (R157, R178): at every LT multiple of 10,000 ns. A deputy stops before TAKE_BNUM; the leader begins with it. -/
def execBeaconSend (frac : Nat) (s : State) : Out :=
  let n := bnumAt s.lt
  let taken := match s.herd.takeBnum with
    | some t => !seqLater t n
    | none => false
  if !s.herdFull || s.lt % 10000 != 0 || s.herd.sentBnum == some n then .next s
  else if s.isSet F.HERD_STAT_BEACONING then
    if taken then .next s.beaconEnd else .next (s.sendBeacon (frac % (8 * linkUnit)))
  else if s.role = 2 && taken then
    .next ((s.beaconBegin.lineHold false).sendBeacon (frac % (8 * linkUnit)))
  else .next s

/-- BEACON_RX (R158 to R163): a copy of a beacon; `frac` is the arrival's part of a ns, `resid` the residence above 1,600 ns, in link units. -/
def execBeaconRx (portB : Bool) (f : Frame) (how : CopyEnd) (frac : Fin 256) (resid : Nat) (s : State) : Out :=
  let how := f.seen how
  let s := s.arrived how
  match f.body with
  | .beacon b =>
    let good := how = .good && decide (f.hops < 64)
    match s.fate portB f how with
    | .drop => .next s
    | .mine => .next s
    | .strip =>
      if good && s.herdFull then
        let s := s.herdMap (fun h => { h with returned := tabInsert (b.bnum.toNat % 4) b (tabDrop (b.bnum.toNat % 4) h.returned) })
        .next (((s.beaconMarks b).deputiesNote b).anchorsTake b)
      else .next s
    | .pass =>
      let own := f.origin == s.line
      let s := if good && !own then s.beaconGood portB b (s.portNow * linkUnit + frac.val) else s
      let s := if good then s.beaconMarks b else s
      .next (s.forward portB { f with body := .beacon (s.beaconOut portB b resid) } how)
  | _ => .next s

/-- BEACON_LOSS (R125, R134, R182): 30 µs without a good copy put a follower into HOLDOVER on its resonator; a module whose HERD has gone off is a follower
still while REF comes from its port. The LT of the last beacon is the count at its arrival (DEDUCED, assumption 155). -/
def execBeaconLoss (s : State) : Out :=
  if (s.isSet F.HERD_STAT_SOURCE_OK || s.get F.LT_CLK_STAT_REF_SRC != 0) && !s.isSet F.HERD_STAT_BEACONING && decide (s.herd.lastGood + 30000 ≤ s.portNow) then
    let s := (s.incSat F.HERD_CNT0_BEACON_MISSED 3).herdMap (fun h => { h with missedNow := 3, portMiss := 0, aligned := 0 })
    let s := ((s.putPair R.LT_HOLD_IN_LO s.herd.lastGood).put F.LT_STAT_FOLLOWING 0).refTo 0
    .next ((s.showSource none).setHoldover true).noteSpan
  else .next s

/-- CLAIM_RX (R178): a deputy that beacons will send no beacon at or above TAKE_BNUM. -/
def execClaimRx (portB : Bool) (f : Frame) (how : CopyEnd) (s : State) : Out :=
  .next (s.ringRx portB f how (fun s =>
    match f.body with
    | .claim t =>
      if s.isSet F.HERD_STAT_BEACONING && s.role == 1 then s.herdMap (fun h => { h with takeBnum := some t }) else s
    | _ => s))

/-- FORM_RX (R179): the former takes the greatest MAX_LT that returns; others raise it, set their PRESENT bit and forward. -/
def execFormRx (portB : Bool) (f : Frame) (how : CopyEnd) (s : State) : Out :=
  let how := f.seen how
  let s := s.arrived how
  match f.body with
  | .form maxLt present addr role =>
    match s.fate portB f how with
    | .drop => .next s
    | .mine => .next s
    | .strip =>
      if s.delivers how && s.isSet F.HERD_STAT_FORMING then .next (s.herdMap (fun h => { h with formMax := max h.formMax maxLt })) else .next s
    | .pass =>
      let s := if s.delivers how && f.origin != s.line && s.isSet F.HERD_STAT_FORMING && decide (rankOf role addr < rankOf s.role s.line)
        then s.formStop else s
      let own := f.origin == s.line
      let body : Body := .form (if own then maxLt else max maxLt s.lt) (present ||| (1#32 <<< s.line)) addr role
      .next (s.forward portB { f with body := body } how)
  | _ => .next s

/-- DEPUTY_TAKEOVER (R177): a deputy that has received no good copy for its wait begins to beacon with LINE_HOLDOVER. -/
def execDeputyTakeover (s : State) : Out :=
  if s.herdFull && s.role == 1 && !s.isSet F.HERD_STAT_BEACONING && !s.isSet F.HERD_STAT_FORMING && s.herd.lastBnum.isSome
      && decide (s.herd.lastGood + 500000 + 200000 * s.deputyRank ≤ s.lt) && s.lt % 10000 == 0 then
    let s := (s.setHoldover true).beaconBegin
    .next ((s.incSat F.HERD_CNT3_TAKEOVERS).lineHold true).noteSpan
  else .next s

/-! ## Ports -/

/-- The port's line start may go on: a ring role, HERD at least in retention (R147, R153). -/
def State.portLives (s : State) : Bool := s.role != 3 && s.dom domHerd != domOff

/-- PORT_ALIGNED (R153): locked and aligned, the port calibrates; the A end begins with the pair from A to B. -/
def execPortAligned (portB : Bool) (s : State) : Out :=
  let st := s.get (portState portB)
  if s.portLives && (st == pTraining || st == pNoSignal || st == pCrossed) then
    let s := s.portTo portB pCalibrating
    .next (if portB then s else s.calProbe 0)
  else .next s

/-- PORT_NO_SIGNAL (R153): no signal for 100 µs in TRAINING. -/
def execPortNoSignal (portB : Bool) (s : State) : Out :=
  if s.portLives && s.get (portState portB) == pTraining then .next (s.portTo portB pNoSignal) else .next s

/-- PORT_CROSSED (R153): another transmitter on the port's own transmit pair. -/
def execPortCrossed (portB : Bool) (s : State) : Out :=
  if s.portLives && s.get (portState portB) == pTraining then .next (s.portTo portB pCrossed) else .next s

/-- SIGNAL_LOST (R153): a port in WRONG_PORT trains again. -/
def execSignalLost (portB : Bool) (s : State) : Out :=
  if s.portLives && s.get (portState portB) == pWrong then .next (s.portTo portB pTraining) else .next s

/-- CAL_RX (R153): `stamp` is the arrival of the frame's SOF in link units. -/
def execCalRx (portB : Bool) (f : Frame) (how : CopyEnd) (stamp : Nat) (s : State) : Out :=
  let how := f.seen how
  let s := s.arrived how
  match f.body with
  | .cal c => if how = .good && s.portLives && s.get (portState portB) == pCalibrating then .next (s.calTake portB c stamp) else .next s
  | _ => .next s

/-- CAL_TURNAROUND (R153): the B end answers a probe 2,000 ns after its last symbol. -/
def execCalTurnaround (portB : Bool) (s : State) : Out :=
  let p := s.port portB
  if portB && s.portLives && s.get (portState true) == pCalibrating && p.calAt != 0
      && decide (p.calAt + (208 + 2000) * linkUnit ≤ (s.portNow + 1) * linkUnit) then
    .next ((s.setPort true { p with calAt := 0 }).sendCal true p.calStep 0)
  else .next s

/-- A beacon leaves the port now, or is due to leave it within the next 336 ns, a PULSE's length (R154): one that is forwarded, or, at the beacon source, the
next own one. No other class 0 frame gives way to a PULSE either (R151). -/
def State.beaconNear (s : State) (portB : Bool) : Bool :=
  let x := (s.port portB).tx
  let now := s.portNow
  (match x.sending with
   | [] => false
   | f :: _ => f.frame.body.cls == 0 && decide (s.vco < x.until_))
    || x.waiting.any (fun f => f.frame.body.cls == 0 && decide (f.from_ < s.vco + vcoNs * 336))
    || (s.isSet F.HERD_STAT_BEACONING && (if s.wrapped false then portB else !portB) && decide (10000 - 336 < now % 10000))

/-- PULSE_SEND (R154): at each LT multiple of 10,000 ns plus 5,000 ns, or at the first instant after it at which no beacon leaves the port or is due within the
PULSE's 336 ns; `frac` is the leaving instant's part of a ns. -/
def execPulseSend (portB : Bool) (frac : Fin 256) (s : State) : Out :=
  let now := s.portNow
  let due := (now + 5000) / 10000 * 10000 - 5000
  if s.linkRuns portB && decide (5000 ≤ now) && decide (5000 ≤ now % 10000) && decide ((s.port portB).txStamp < due * linkUnit)
      && !s.beaconNear portB then
    .next (s.sendPulse portB frac.val)
  else .next s

/-- PULSE_RX (R153 to R156): `frac` is the arrival's part of a ns. A damaged PULSE breaks the row of good ones. -/
def execPulseRx (portB : Bool) (f : Frame) (how : CopyEnd) (frac : Fin 256) (s : State) : Out :=
  let how := f.seen how
  let s := s.arrived how
  match f.body with
  | .pulse x =>
    if !s.linkRuns portB then .next s
    else if how = .good then .next (s.pulseTake portB x (s.portNow * linkUnit + frac.val))
    else .next (s.setPort portB { s.port portB with good := 0 })
  | _ => .next s

/-- PORT_DOWN (R153, R174): three PULSE due instants without a good PULSE. -/
def execPortDown (portB : Bool) (s : State) : Out :=
  if s.get (portState portB) == pUp && decide ((s.port portB).lastPulse + 30000 ≤ s.portNow) then .next (s.portTo portB pTraining)
  else .next s

/-! ## Actions (R165 to R168) -/

/-- What is held for an origin. -/
def State.origin (s : State) (a : Nat) : OriginSt := tabGet (fun _ => OriginSt.fresh) s.herd.origins a
/-- The state with what is held for an origin set. -/
def State.setOrigin (s : State) (a : Nat) (o : OriginSt) : State :=
  s.herdMap (fun h => { h with origins := tabSet (fun _ => OriginSt.fresh) a o h.origins })

/-- The cycle source an entry names, by its number here (R165): a local one, or a subscription to it; 8 for none. -/
def State.srcNumber (s : State) (owner ownerSrc : Nat) : Nat :=
  if owner = s.line then ownerSrc
  else match [0, 1, 2, 3].find? (fun n => s.isSet (F.HERD_SUB_CFG_EN n) && s.get (F.HERD_SUB_CFG_OWNER n) == owner
      && s.get (F.HERD_SUB_CFG_OWNER_SRC n) == ownerSrc) with
    | some n => 4 + n
    | none => 8

/-- An entry's KIND (R165). -/
def ActReq.kind (r : ActReq) : Nat := r.op.toNat / 2 % 4

/-- An entry as the own table takes it (R165). -/
def State.askOf (s : State) (origin : Nat) (r : ActReq) : ActAsk :=
  { output := r.output.toNat % 32, level := r.op.getLsbD 0,
    target := if r.kind = 1 then ⟨false, r.t0.toNat + 0x100000000 * r.t1.toNat, 0, 0#32, 0#32⟩
              else ⟨true, 0, s.srcNumber r.owner r.ownerSrc, r.t0, r.t1⟩,
    origin := origin, from_ := 1, reqId := r.reqId }

/-- The result a new entry gets (R166). -/
def State.reqResult (s : State) (origin : Nat) (r : ActReq) : Nat :=
  if s.inhibited then rsInhibited
  else if r.kind = 3 ∨ r.op.toNat ≥ 8 then rsBadRequest
  else if r.kind = 2 then s.clearResult (r.output.toNat % 32) (s.srcNumber r.owner r.ownerSrc) origin r.t0
  else s.askResult (s.askOf origin r)

/-- A new entry takes its effect. -/
def State.reqAct (s : State) (origin : Nat) (r : ActReq) : State :=
  if r.kind = 3 ∨ r.op.toNat ≥ 8 then s
  else if r.kind = 2 then s.clearAct (r.output.toNat % 32) (s.srcNumber r.owner r.ownerSrc) origin r.t0
  else s.askOwn (s.askOf origin r)

/-- One entry of an ACTION frame answered (R161, R166): the result stored for a REQ_ID already answered, else a new one. -/
def State.reqAnswer (s : State) (origin : Nat) (r : ActReq) : State × Nat :=
  let o := s.origin origin
  if s.isSet F.HERD_STAT_ADDR_CONFLICT then (s, rsConflict)
  else match o.results.find? (fun x => x.1 == r.reqId) with
    | some x => (s, x.2)
    | none =>
      if o.results.length ≥ 128 && o.results.all (fun x => seqLater x.1 r.reqId) then (s, rsStale)
      else
        let res := s.reqResult origin r
        let s := s.reqAct origin r
        (s.setOrigin origin { s.origin origin with results := ((r.reqId, res) :: (s.origin origin).results).take 128 }, res)

/-- The entries of an ACTION frame answered in order (R166). -/
def State.reqsAnswer (s : State) (origin : Nat) : List ActReq → State × List (Word × Nat)
  | [] => (s, [])
  | r :: t =>
    let a := s.reqAnswer origin r
    let b := State.reqsAnswer a.1 origin t
    (b.1, (r.reqId, a.2) :: b.2)

/-- A delivered ACTION frame (R166): every entry is answered, and one ACK leaves. -/
def State.actionTake (s : State) (f : Frame) : State :=
  match f.body with
  | .action es =>
    let a := s.reqsAnswer f.origin es
    a.1.herdSend f.origin false (.ack a.2)
  | _ => s

/-- ACTION_RX (R166, R167). -/
def execActionRx (portB : Bool) (f : Frame) (how : CopyEnd) (s : State) : Out := .next (s.ringRx portB f how (fun s => s.actionTake f))

/-- A request refused or lost (R167): event 13 and the trouble-log entry. -/
def State.reqFailed (s : State) (p : PendReq) (res : Nat) : State :=
  let s := s.raiseHerd (if res = rsLost then F.HERD_EVT_ACT_LOST_SEEN else F.HERD_EVT_ACT_REFUSED_SEEN) 13
  s.logWrite kAction 13 p.req.reqId (w32 (res + 256 * p.dest + 8192 * (p.req.output.toNat % 32))) 0#32

/-- A request ends with a result: its slot shows it, and a refusal or loss is reported (R167, R230). -/
def State.reqEnd (s : State) (p : PendReq) (res : Nat) : State :=
  let s := s.herdMap (fun h => { h with reqs := h.reqs.filter (fun q => q.req.reqId != p.req.reqId) })
  let s := if 2 ≤ res then s.reqFailed p res else s
  if p.slot < 9 then s.slotResult p.slot res else s

/-- The requests that an ACK answers end (R167). -/
def State.acksTake (s : State) (origin : Nat) : List (Word × Nat) → State
  | [] => s
  | x :: t =>
    State.acksTake (match s.herd.reqs.find? (fun q => q.req.reqId == x.1 && q.dest == origin) with
      | some p => s.reqEnd p x.2
      | none => s) origin t

/-- The oldest frame that carried these requests no longer counts among the 16 (R168). -/
def State.frameEnd (s : State) (ids : List Word) : State :=
  match s.herd.frames.find? (fun x => x.reqIds == ids) with
  | some x => s.herdMap (fun h => { h with frames := h.frames.erase x })
  | none => s

/-- A delivered ACK (R167, R168): the answered requests end; the frame no longer counts and a waiting request may leave. -/
def State.ackTake (s : State) (f : Frame) : State :=
  match f.body with
  | .ack l =>
    let s := (s.acksTake f.origin l).frameEnd (l.map (fun x => x.1))
    s.sendReqs s.unsent.length
  | _ => s

/-- HERD_ACK_RX (R167, R168). -/
def execHerdAckRx (portB : Bool) (f : Frame) (how : CopyEnd) (s : State) : Out := .next (s.ringRx portB f how (fun s => s.ackTake f))

/-- ACTION_RETRY (R167): ACK_TO_US has passed without an answer; the entry leaves again in a new frame, or is lost after the last retry. -/
def execActionRetry (req : Word) (s : State) : Out :=
  match s.herd.reqs.find? (fun q => q.req.reqId == req) with
  | none => .next s
  | some p =>
    match p.sent with
    | none => .next s
    | some (_, at_) =>
      if s.lt < at_ + s.get F.HERD_CFG_ACK_TO_US * 1000 then .next s
      else if p.tries < s.get F.HERD_CFG_RETRIES then
        let s := s.herdMap (fun h => { h with reqs := h.reqs.map (fun q =>
          if q.req.reqId == req then { q with tries := q.tries + 1, sent := none } else q) })
        let s := s.incSat F.HERD_CNT1_ACT_RETRY
        .next (s.sendReqs s.unsent.length)
      else .next ((s.incSat F.HERD_CNT1_ACT_LOST).reqEnd p rsLost)

/-- UNANSWERED_FRAME_EXPIRY (R168): 2 × ACK_TO_US after it left, a frame no longer counts among the 16. -/
def execUnansweredFrameExpiry (fseq : Word) (s : State) : Out :=
  match s.herd.frames.find? (fun x => x.fseq == fseq) with
  | some x =>
    if x.lt + 2 * s.get F.HERD_CFG_ACK_TO_US * 1000 ≤ s.lt then
      let s := s.herdMap (fun h => { h with frames := h.frames.erase x })
      .next (s.sendReqs s.unsent.length)
    else .next s
  | none => .next s

/-! ## Records (R171, R172) -/

/-- The FSEQ is later than the last one accepted from the origin in this class, or none is held (R172). -/
def State.fseqNew (s : State) (origin cls : Nat) (fseq : Word) : Bool :=
  match ((s.origin origin).fseqs.find? (fun x => x.1 == cls)).map (fun x => x.2) with
  | some l => seqLater fseq (w32 l)
  | none => true

/-- The producer's GAP for a jump of SEQ in a received stream (R172, R295). -/
def linkGap (flags : Byte) (r : Rec) (first count from_ : Nat) : Rec :=
  { ty := tyGap, flags := flags, source := r.source, seq := w32 first, lt := from_, cycle := 0#32,
    payload := gapPayload causeLink 0xFF [⟨r.source, r.ty, w32 first, count, from_, r.lt⟩] }

/-- A record offered to a receive queue; one that is dropped there is a frame error too (R172, R181). -/
def State.rxOffer (s : State) (q : Nat) (r : Rec) : State :=
  let n := (s.queue q).total
  let s := s.qOffer q r
  if (s.queue q).total = n then s.frameErr else s

/-- A record as it comes off the link (R287): one whose CRC fails is replaced by its ABORTED form and counted. -/
def State.recordCheck (s : State) (r : Rec) (crc : Word) : State × Rec :=
  if crc = r.crc then (s, r) else (s.incSat F.HERD_CNT0_CRC_ERR, r.aborted)

/-- An accepted RECORD (R172): behind a GAP where its SEQ jumps. A TYPE that no record has is refused (R290). -/
def State.recordTake (s : State) (r : Rec) : State :=
  if !r.typeOk then s else
  let q := 48 + (if r.ty = tyVerdict then s.get F.HERD_CFG_RXQ_VERDICT else s.get F.HERD_CFG_RXQ_BULK)
  let key := r.source.toNat * 256 + r.ty
  let last := (s.herd.streams.find? (fun x => x.1 == key)).map (fun x => x.2)
  let s := match last with
    | some (n, lt) =>
      let d := (r.seq - w32 n).toNat
      if 2 ≤ d && decide (d ≤ 0x7FFFFFFF) then s.rxOffer q (linkGap (s.stampFlags lt) r (n + 1) (d - 1) lt) else s
    | none => s
  (s.rxOffer q r).herdMap (fun h => { h with streams := tabInsert key (r.seq.toNat, r.lt) (tabDrop key h.streams) })

/-- A delivered RECORD (R172): accepted by FSEQ; later copies and late frames are discarded. -/
def State.recordAccept (s : State) (f : Frame) : State :=
  match f.body with
  | .record r crc =>
    let c := f.body.cls
    if s.fseqNew f.origin c f.fseq then
      let o := s.origin f.origin
      let s := s.setOrigin f.origin { o with fseqs := tabInsert c f.fseq.toNat (tabDrop c o.fseqs) }
      let x := s.recordCheck r crc
      x.1.recordTake x.2
    else s
  | _ => s

/-- Whether a damaged RECORD frame's record was already being passed into its queue when the copy ended (R152): the spec leaves open when the passing begins, so
the answer is a free value. -/
def State.passing (s : State) : Bool := s.free.getLsbD 0

/-- A damaged copy of a RECORD frame for this module (R152): a record that was already being passed into its queue ends with ABORTED; otherwise the copy is
dropped. -/
def State.recordCut (s : State) (portB : Bool) (f : Frame) (how : CopyEnd) : State :=
  let how := f.seen how
  match f.body with
  | .record r _ =>
    let here := s.fate portB f how = .mine || (s.fate portB f how = .pass && f.bcast)
    if here && s.herdFull && (how = .badCrc || how = .abort) then
      if s.passing then s.freeNext.recordAccept { f with body := .record r.aborted r.aborted.crc } else s.freeNext
    else s
  | _ => s

/-- RECORD_RX (R152, R172). -/
def execRecordRx (portB : Bool) (f : Frame) (how : CopyEnd) (s : State) : Out :=
  .next ((s.recordCut portB f how).ringRx portB f how (fun s => s.recordAccept f))

/-! ## Subscriptions and lanes -/

/-- SUBSCRIPTION_EXPIRY (R164): no anchor has arrived for 500 µs. -/
def execSubscriptionExpiry (n : Fin 4) (s : State) : Out :=
  if s.isSet (F.HERD_SUB_CFG_AVAILABLE n) && decide (tabGet (fun _ => 0) s.herd.anchorAt n.val + 500000 < s.lt) then .next (s.subAvail n false)
  else .next s

/-- The cycle that lane `n` decides next (R169): the one after the last decided, or, when it starts or resumes, the one whose decision
instant has just passed while its ON is still to come, its source being available since before that instant (R170). -/
def State.laneNext (s : State) (n : Nat) : Option Word :=
  let cur := s.laneCycle n
  let x := s.src (s.get (F.HERD_RUC_CFG_SRC n))
  let c := match (s.lane n).done with
    | some d => d + 1#32
    | none => cur - 1#32
  match x.estimate (targetPos x c (s.rd (R.HERD_RUC_ON n))) with
  | none => none
  | some t =>
    let guard := s.get (F.HERD_RUC_CFG_GUARD_US n) * 1000
    let started := (s.lane n).done.isSome || (decide (s.lt < t) && decide (x.since + guard ≤ t))
    if decide (t ≤ s.lt + guard) && started then some c else none

/-- Lane `n` decides cycle `c` (R169, R170). -/
def State.laneDecide (s : State) (n : Nat) (c : Word) : State :=
  let l := s.lane n
  let cleared := l.clears.contains c
  let s := s.setLane n { l with done := some c, held := false, due := none, clears := l.clears.filter (fun x => seqLater x c) }
  if cleared || s.inhibited then s
  else
    let rej := s.isSet (F.HERD_RUC_CFG_REJ_LEVEL n)
    let on := s.rd (R.HERD_RUC_ON n)
    let off := s.rd (R.HERD_RUC_OFF n)
    let s := s.laneArm n rej c on
    s.laneArm n (!rej) (if on.toNat < off.toNat then c else c + 1#32) off

/-- The decision instant at which a lane without its source holds has come (R170): the one that was next when the source went away; where none could be
worked out, any. -/
def State.laneHoldDue (s : State) (n : Nat) : Bool :=
  match (s.lane n).due with
  | some t => decide (t ≤ s.lt)
  | none => true

/-- LANE_DECISION (R169, R170, R238): at its decision instant a lane arms a reject pulse unless a CLEAR was entered; without its source it holds its
output at REJ_LEVEL. -/
def execLaneDecision (n : Fin 16) (s : State) : Out :=
  if !s.isSet (F.HERD_RUC_CFG_EN n) || !s.domIsOn domHub then .next s
  else if !s.srcAvail (s.get (F.HERD_RUC_CFG_SRC n)) then .next (if (s.lane n).held || !s.laneHoldDue n then s else s.laneHold n)
  else match s.laneNext n with
    | some c => .next (s.laneDecide n c)
    | none => .next s

end Sys2Proof.Machine
end

