-- ==== Sys2Proof/Machine/KeyCmds.lean ====
section
/-! DEFINITION. Meanings of the key's commands and of reload and changeover (chapters 11 and 14). -/

namespace Sys2Proof.Machine

/-- KEY_LOAD_ENTRY (R327, R379): the KEY domain and KEY_VCC come on; `present` is KEY_PRESENT_N as R325 judges it. -/
def execKeyLoadEntry (present : Bool) (s : State) : Out :=
  if s.boot.stage = 10 then
    let s := { s with boot := { s.boot with stage := 11, warm := false } }
    let s := (s.putB F.KEY_STAT_PRESENT present).setCond mKeyLoad true
    .next ((s.setDom domKey domOn).keyBegin false 0)
  else .next s

/-- KEY_INSERT (R325, R338, R414): a key counts as inserted; it clears a hang, whose supply is cycled so, and it is read while a generation runs, at once or
when what runs has ended, or after a refusal at power-up. -/
def execKeyInsert (s : State) : Out :=
  if s.isSet F.KEY_STAT_PRESENT then .next s
  else
    let s := ((s.put F.KEY_STAT_PRESENT 1).put F.KEY_EVT_INSERT_SEEN 1).raise 56
    let st := s.get F.KEY_STAT_STATE
    let s := if st = ksHung ∨ st = ksCycling then
        ((s.put F.KEY_STAT_STATE s.keyShows).put F.KEY_STAT_ATTEMPTS 0).setKey
          { s.key with cycle := none, hung := false }
      else s
    if s.isSet F.MOD_STATUS_RECIPE then
      if s.co.phase = 0 && s.key.job == 0 && !s.domAgreed domKey then .next (s.keyStage 0) else .next (s.setKey { s.key with waits := true })
    else if s.get F.KEY_STAT_STATE = ksRefused && s.key.job == 0 && !s.cond mFaultHold then .next (s.keyBegin false 0)
    else .next s

/-- KEY_REMOVE (R325, R329, R338): a key counts as removed; a read of it is refused with REMOVED; a hung port's supply goes off until a key is in. -/
def execKeyRemove (s : State) : Out :=
  if s.isSet F.KEY_STAT_PRESENT then
    let s := ((s.put F.KEY_STAT_PRESENT 0).put F.KEY_EVT_REMOVE_SEEN 1).raise 56
    let st := s.get F.KEY_STAT_STATE
    let s := if s.key.job = 1 ∨ s.key.job = 2 then s.keyRefuse (rcRemoved, 0xFF, s.key.img.length) else s
    if st = ksHung ∨ st = ksCycling then
      let s := s.keyVcc false
      .next ((s.setKey { s.key with cycle := none, hung := false }).put F.KEY_STAT_STATE ksHung)
    else .next s
  else .next s

/-- KEY_READ_START (R327): 5 ms after the start the lines, given as their levels, are checked and block 0 begins. -/
def execKeyReadStart (scl sda : Bool) (s : State) : Out :=
  if s.key.job = 1 && decide (s.key.at_ + 5000000 ≤ s.lt) && s.key.cycle.isNone then
    let s := (s.putB F.KEY_STAT_SCL scl).putB F.KEY_STAT_SDA sda
    if scl && sda then .next s.keyRead else .next (s.keyHang (if sda then 1 else 0) [])
  else .next s

/-- KEY_BLOCK_READ_END (R317, R327): the running block's bytes, from the byte at which its read began. -/
def execKeyBlockReadEnd (bytes : List Byte) (s : State) : Out :=
  if s.key.job = 2 && s.key.cycle.isNone then .next (s.keyBlock bytes) else .next s

/-- KEY_READ_FAIL (R328): the running block's read fails after these bytes. -/
def execKeyReadFail (got : List Byte) (s : State) : Out :=
  if s.key.job = 2 && s.key.cycle.isNone then .next (s.keyFail got) else .next s

/-- SIGNATURE_CHECK_END (R324). -/
def execSignatureCheckEnd (s : State) : Out :=
  if s.key.job = 3 then
    match s.trustRefuse s.key.img with
    | some r => .next (s.keyRefuse r).keyWaits
    | none => .next (s.setKey { s.key with job := 4, trusted := true })
  else .next s

/-- What follows an accepted staging (R325, R408, R410). -/
def State.stagedThen (s : State) (want : Nat) : State :=
  let w := if want = 0 then s.get F.KEY_CFG_ON_INSERT else want
  if w = 1 then s.coAsk else if w = 2 then s.reloadAsk else s

/-- KEY_CHECKS_END (R327, R329): the image is refused; or accepted, and staged into the other bank or about to be applied. -/
def execKeyChecksEnd (s : State) : Out :=
  if s.key.job = 4 then
    let k := s.key
    match s.checkRefuse k.staging k.img with
    | some r => .next (s.keyRefuse r).keyWaits
    | none =>
      if k.staging then
        let s := (s.store (s.bankAt (1 - s.get F.KEY_STAT_BANK)) k.img).setKey { k with staged := some k.img.length }
        let s := ((s.wr R.KEY_STAGED_CRC (imgHdrCrc k.img)).put F.KEY_EVT_LOAD_SEEN 1).raise 57
        .next ((s.keyRest ksStaged).stagedThen k.want).keyWaits
      else .next ((s.put F.KEY_STAT_STATE ksApplying).setKey { k with job := 5 })
  else .next s

/-- KEY_COMMIT_END (R327): registers, memories, code and store are written; KEY_VCC goes off. While COMMISSION keeps the tiles off (R400) the
commit waits. -/
def execKeyCommitEnd (s : State) : Out :=
  if s.key.job = 5 && !s.cond mCommission then
    let k := s.key
    let s := (s.put F.KEY_STAT_BANK 0).imageApply k.img
    let s := s.store (s.bankAt 0) k.img
    .next ((s.setKey { s.key with job := 6 }).keyVcc false)
  else .next s

/-- CORES_START (R327, R402, R408): cores and cells start, KEY_LOAD clears; the load has ended with event 57 (R339). -/
def execCoresStart (s : State) : Out :=
  if s.key.job = 6 && !s.cond mCommission then
    let s := s.coresStart s.key.img
    let s := ((s.put F.KEY_EVT_LOAD_SEEN 1).raise 57).keyRest ksIdle
    .next ((s.setRun true).setCond mKeyLoad false).lanesHold.watchFollow
  else if s.co.phase = 6 && !s.cond mCommission then
    let s := (s.coresStart s.co.img).put F.KEY_STAT_STATE ksIdle
    let s := (((s.setCo CoSt.rest).put F.KEY_EVT_LOAD_SEEN 1).raise 57).setRun true
    .next ((s.setCond mKeyLoad false).lanesHold.watchFollow.keyWaits)
  else .next s

/-- The vat core writes KEY_CMD.STAGE (R325): a staging that no request follows. -/
def State.cmdStage (s : State) (w : Nat) : State := if w = vat then s.keyStage 3 else s

/-- The vat core writes KEY_CMD.POWER_CYCLE (R335, R336, R338); a read in progress ends as hung and resumes after the cycle. -/
def State.cmdKeyCycle (s : State) (w : Nat) : State :=
  if w = vat && s.key.cycle.isNone then
    (s.setKey { s.key with hung := s.key.hung || s.key.job == 1 || s.key.job == 2 }).keyCycle false
  else s

/-- The vat core writes KEY_CMD.CHANGEOVER (R410). -/
def State.cmdChangeover (s : State) (w : Nat) : State := if w = vat then s.coAsk else s

/-- STAGE. -/
def execStage (w : Fin 9) (s : State) : Out := .next (s.cmdStage w)
/-- KEY_POWER_CYCLE. -/
def execKeyPowerCycle (w : Fin 9) (s : State) : Out := .next (s.cmdKeyCycle w)
/-- KEY_CMD_CHANGEOVER. -/
def execKeyCmdChangeover (w : Fin 9) (s : State) : Out := .next (s.cmdChangeover w)

/-- KEY_PORT_HANG (R334, R338): a line is found stuck low while KEY_VCC is on (cause 0 SDA, 1 SCL, 2 a trip of KEY_VCC); `got` are the bytes of a running
read that had arrived. -/
def execKeyPortHang (cause : Fin 3) (got : List Byte) (s : State) : Out :=
  if s.key.vcc && s.key.cycle.isNone && s.get F.KEY_STAT_STATE != ksHung then .next (s.keyHang cause got) else .next s

/-! ## Reload and changeover (chapter 14) -/

/-- RELOAD_START (R408): while COMMISSION keeps the tiles off (R400) the reload waits (DEDUCED, assumption 158). -/
def execReloadStart (s : State) : Out :=
  if s.co.phase = 1 && !s.cond mCommission then
    if s.key.staged.isSome then .next s.reloadStart else .next (s.setCo CoSt.rest).keyWaits
  else .next s

/-- RELOAD_DRAIN_END (R408): every tile's queues have drained, or 100 ms have passed. -/
def execReloadDrainEnd (s : State) : Out :=
  if s.co.phase = 2 && ((List.range 8).all s.tileDrained || decide (s.co.at_ + 100000000 ≤ s.lt)) then .next s.reloadDrained else .next s

/-- RELOAD_APPLY (R400, R408). -/
def execReloadApply (s : State) : Out := if s.co.phase = 3 && !s.cond mCommission then .next s.reloadApply else .next s

/-- CHANGEOVER_ACCEPT (R410, R411): a changeover that was asked for is accepted where the mode still allows it. -/
def execChangeoverAccept (s : State) : Out :=
  if s.co.phase = 7 then
    if s.coMode && s.key.staged.isSome then .next s.coAccept else .next (s.setCo CoSt.rest).keyWaits
  else .next s

/-- HUB_SWITCH_END (R411): H. -/
def execHubSwitchEnd (s : State) : Out := if s.co.phase = 4 && s.movedReady then .next s.hubSwitch.watchFollow.keyWaits else .next s

/-- TILE_RELOAD_START (R412): tile `t`'s turn comes; a request for domain states that still runs is awaited (DEDUCED, assumption 158). -/
def execTileReloadStart (t : Fin 8) (s : State) : Out :=
  let r := s.tileRun t
  if s.co.phase = 5 && s.coTurn == some t.val && decide (r.phase < 4) && !r.failed && s.pwr.run == 0 then .next (s.tileTurn t) else .next s

/-- TILE_RELOAD_DRAIN_END (R412): the tile's queues have drained, or 500 ms have passed. -/
def execTileReloadDrainEnd (t : Fin 8) (s : State) : Out :=
  let r := s.tileRun t
  if r.phase = 4 && (!s.domIsOn (domTile t) || s.tileDrained t || decide (r.at_ + 500000000 ≤ s.lt)) then .next (s.tileTurnDrained t) else .next s

/-- TILE_RELOAD_APPLY (R412). -/
def execTileReloadApply (t : Fin 8) (s : State) : Out :=
  if (s.tileRun t).phase = 5 && s.co.phase == 5 then .next (s.tileTurnApply t).watchFollow.keyWaits else .next s

/-- TILE_RELOAD_END (R412, R414): the tile starts, or has failed twice; the next turn or the end of CHANGEOVER follows. -/
def execTileReloadEnd (t : Fin 8) (s : State) : Out :=
  let r := s.tileRun t
  if s.co.phase = 5 && s.bit F.MOD_CO_TODO t then
    if r.phase = 6 then .next (((s.tileStart t).setTile t 1).tileTurnEnd t).watchFollow.keyWaits
    else if r.phase = 0 && r.failed then .next (s.tileTurnEnd t).watchFollow.keyWaits
    else .next s
  else .next s

end Sys2Proof.Machine
end

