-- ==== Sys2Proof/Machine/HostCmds.lean ====
section
/-! DEFINITION. Meanings of the host link's commands (chapter 12). -/

namespace Sys2Proof.Machine

/-! ## Ethernet and IPv4 -/

/-- LINK_UP (R342, R344, R367): auto-negotiation ends with 1000BASE-T where `gig`, else 100BASE-TX. -/
def execLinkUp (gig : Bool) (s : State) : Out :=
  if s.domIsOn domHost && s.isSet F.LT_CLK_STAT_PLL_LOCK && !s.booting then .next (s.setSpeed (if gig then 2 else 1)).arpGratuitous else .next s

/-- LINK_DOWN (R358): session, store and outstanding batches stay. -/
def execLinkDown (s : State) : Out := .next ((s.setSpeed 0).setHost { s.host with speedWas := 0 })

/-! ## Frames received (R342, R343, R345) -/

/-- The frame itself is one that the port takes (R342). -/
def frameSound (f : HostFrame) : Bool := decide (f.bytes ≤ 1518) && !f.tagged && f.fcs

/-- Its IPv4 packet is one that the module supports (R343). -/
def packetSound (f : HostFrame) : Bool := !f.options && !f.fragment && !f.multicast

/-- A datagram dropped (R343, R345): counted, event 22. -/
def State.badDgram (s : State) : State := ((s.incSat F.HOST_CNT0_BAD_DGRAM).put F.HOST_EVT_BAD_SEEN 1).raise 22

/-- A frame dropped (R342, R367): event 22; BAD_DGRAM counts datagrams only (DEDUCED, assumption 127). -/
def State.badFrame (s : State) : State := (s.put F.HOST_EVT_BAD_SEEN 1).raise 22

/-- A frame arrives (R342, R343): a bad one is dropped; without its address written the module answers nothing. -/
def State.frameTake (s : State) (f : HostFrame) (k : State → State) : State :=
  if !s.hostHears then s
  else if !frameSound f then s.jack.badFrame
  else if s.isSet F.HOST_STAT_ADDR_OK then k s.jack
  else s.jack

/-- A UDP datagram for the module arrives (R343, R345). -/
def State.dgramTake (s : State) (dg : Dgram) (k : State → State) : State :=
  s.frameTake dg.frame (fun s => if packetSound dg.frame && dg.toPort == 40128 && dg.sum && dg.good then k s else s.badDgram)

/-- The ARP cache takes an address: an entry it has is refreshed; a new one takes the place of the one longest unused of 8. -/
def arpTake (l : List ArpEnt) (ip mac lt : Nat) : List ArpEnt :=
  if l.any (fun e => e.ip == ip) then l.map (fun e => if e.ip = ip then { e with mac := mac, fresh := lt } else e)
  else
    let oldest := l.foldl (fun m e => min m e.used) lt
    let l := if l.length < 8 then l else
      match l.find? (fun e => e.used == oldest) with | some e => l.erase e | none => l.drop 1
    l ++ [⟨ip, mac, lt, lt⟩]

/-- The module's own MAC. -/
def State.ownMac (_ : State) : Nat := Config.mac.toNat

/-- An ARP packet taken (R343, R344): a claim of the module's own address from another MAC is a conflict; a packet for the module fills the cache; a
request for its address is answered. -/
def State.arpRx (s : State) (p : ArpPacket) : State :=
  let own := (s.rd R.HOST_IP).toNat
  if p.senderIp = own then
    if p.senderMac = s.ownMac then s
    else
      let s := (s.put F.HOST_STAT_ADDR_CONFLICT 1).put F.HOST_EVT_CONFLICT_SEEN 1
      let s := (s.logWrite kHost 23 0#32 (w32 p.senderIp) 0#32).raise 23
      s.setHost { s.host with claimAt := s.lt }
  else
    let known := s.host.arp.any (fun e => e.ip == p.senderIp)
    let s := if p.targetIp == own || known then s.setHost { s.host with arp := arpTake s.host.arp p.senderIp p.senderMac s.lt } else s
    if p.request && p.targetIp == own then s.hostEmit (.arp 1 p.senderIp p.senderMac) else s

/-- ARP_RX. -/
def execArpRx (p : ArpPacket) (s : State) : Out := .next (s.frameTake p.frame (fun s => s.arpRx p))

/-- ARP_DEFEND (R344): one gratuitous ARP at most every 10 s while the conflict stands. -/
def execArpDefend (s : State) : Out :=
  let free := match s.host.defendAt with | some a => decide (a + 10000000000 ≤ s.lt) | none => true
  if s.isSet F.HOST_STAT_ADDR_CONFLICT && s.hostTalks && free then
    .next (s.setHost { s.host with defendAt := some s.lt }).arpGratuitous
  else .next s

/-- ADDR_CONFLICT_CLEAR (R344): 60 s without a further claim. -/
def execAddrConflictClear (s : State) : Out :=
  if s.isSet F.HOST_STAT_ADDR_CONFLICT && decide (s.host.claimAt + 60000000000 ≤ s.lt) then .next (s.put F.HOST_STAT_ADDR_CONFLICT 0)
  else .next s

/-- ARP_CACHE_TIMEOUT (R343): cache entry `i` is dropped 60 s after its last use, else refreshed 20 s after it was fresh. -/
def execArpCacheTimeout (i : Fin 8) (s : State) : Out :=
  match s.host.arp[i.val]? with
  | none => .next s
  | some e =>
    if e.used + 60000000000 ≤ s.lt then .next (s.setHost { s.host with arp := s.host.arp.erase e })
    else if s.hostTalks && decide (e.fresh + 20000000000 ≤ s.lt) then
      .next ((s.setHost { s.host with arp := s.host.arp.set i.val { e with fresh := s.lt } }).hostEmit (.arp 0 e.ip 0))
    else .next s

/-- An echo request answered with the same data, at most 100 times per second (R343). -/
def State.echoAnswer (s : State) (ip : Nat) (idSeq : Word) (data : List Byte) : State :=
  let recent := s.host.echoAt.filter (fun a => decide (s.lt < a + 1000000000))
  if recent.length < 100 then ((s.setHost { s.host with echoAt := recent ++ [s.lt] }).arpUse ip).hostEmit (.echo ip idSeq data) else s

/-- ECHO_REQUEST (R343): an IPv4 packet that is no record transport: an echo request of at most 1,472 bytes is answered, everything else is dropped and
counted. -/
def execEchoRequest (f : HostFrame) (x : IpPacket) (s : State) : Out :=
  .next (s.frameTake f (fun s =>
    if packetSound f && x.kind == .echoRequest && decide (x.data.length ≤ 1472) then s.echoAnswer x.ip x.idSeq x.data else s.badDgram))

/-! ## Sessions (R347 to R349) -/

/-- `p` is the session's host. -/
def State.isPeer (s : State) (dg : Dgram) : Bool := decide (dg.ip = (s.rd R.HOST_PEER_IP).toNat) && decide (dg.port = s.get F.HOST_PEER_PORT)

/-- A datagram is of the current session, from its host (R345). -/
def State.ofSession (s : State) (dg : Dgram) : Bool :=
  s.get F.HOST_STAT_SESSION != ssNone && dg.session == s.rd R.HOST_SESSION && s.isPeer dg

/-- A datagram other than OPEN arrives (R345). -/
def State.sessionTake (s : State) (dg : Dgram) (k : State → State) : State :=
  s.dgramTake dg (fun s => if s.ofSession dg then k s else s.badDgram)

/-- The instant of the last valid datagram of the session's host (R347). -/
def State.heard (s : State) (dg : Dgram) : State := s.setHost { s.host with lastRx := s.lt, mac := dg.mac }

/-- A number put into an ascending list, once. -/
def natInsert (x : Nat) : List Nat → List Nat
  | [] => [x]
  | y :: t => if x < y then x :: y :: t else if x = y then y :: t else y :: natInsert x t

/-- Number `i` of those that an ascending list leaves out. -/
def nthOther (i : Nat) : List Nat → Nat
  | [] => i
  | y :: t => nthOther (if y ≤ i then i + 1 else i) t

/-- What the random source's draws come to that go on while the value is 0 or in the list (R347): the free value `v` says which of the other values. -/
def pickFresh (v : Word) (l : List Word) : Word :=
  let out := l.foldl (fun o x => natInsert x.toNat o) [0]
  w32 (nthOther (v.toNat % (0x100000000 - out.length)) out)

/-- NSLICE of a batch (R354). -/
def Batch.slices (b : Batch) : Nat := (recsBytes b.recs + 1439) / 1440

/-- A batch is to be sent again from the first slice that the host lacks (R357): counted, event 19. -/
def State.batchAgain (s : State) (b : Batch) : State :=
  let s := s.setHost { s.host with batches := s.host.batches.map (fun x =>
    if x.bseq = b.bseq then { x with resent := true, next := x.ok, left := x.left.take x.ok } else x) }
  ((s.incSat F.HOST_CNT0_RETX).put F.HOST_EVT_RETX_SEEN 1).raise 19

/-- Every batch held is to leave first, and one that has left is sent again (R349); a new session's host holds no slice. -/
def State.sessionResume (s : State) (fresh : Bool) : State :=
  let s := s.setHost { s.host with batches := s.host.batches.map (fun b => { b with first := true, ok := if fresh then 0 else b.ok }) }
  (s.host.batches.filter (fun b => b.out)).foldl (fun s b => s.batchAgain b) s

/-- The body of OPEN_REPLY (R348). -/
def State.openReply (s : State) (result : Nat) : List Byte :=
  leBytes 1 result ++ leBytes 3 0 ++ leBytes 4 (s.rd R.HOST_BOOT_ID).toNat ++ leBytes 2 s.gen ++ leBytes 1 s.line ++ leBytes 1 0
    ++ leBytes 4 (s.rd R.HOST_CUM_BSEQ).toNat ++ leBytes 4 (s.rd R.HOST_NEXT_BSEQ).toNat ++ leBytes 6 s.ownMac ++ leBytes 2 0

/-- The datagram's sender becomes the session's host with a new session number; the earlier session's stored answers go (R347, R361). -/
def State.newSession (s : State) (dg : Dgram) : State :=
  let v := pickFresh s.free s.host.sessions
  let s := ((s.freeNext.wr R.HOST_SESSION v).wr R.HOST_PEER_IP (w32 dg.ip)).put F.HOST_PEER_PORT dg.port
  (s.incSat F.HOST_CNT1_SESSIONS).setHost { s.host with sessions := (v :: s.host.sessions).take 16, answers := [] }

/-- OPEN_REPLY to an OPEN's sender (R347). -/
def State.replyOpen (s : State) (dg : Dgram) (result : Nat) : State :=
  s.udpTo dg.ip dg.port (message mtOpenReply (s.rd R.HOST_SESSION) (s.openReply result))

/-- An OPEN (R347, R348): BUSY for another host than the OPEN session's; else that session goes on, or a new one begins. -/
def State.openTake (s : State) (dg : Dgram) (window : Nat) (raw : Bool) (prev : Word) : State :=
  let st := s.get F.HOST_STAT_SESSION
  if st = ssOpen && !s.isPeer dg then s.replyOpen dg 2
  else
    let resumed := st != ssNone && s.isPeer dg && prev == s.rd R.HOST_SESSION
    let s : State := if resumed then s else (if st == ssIdle && !s.isPeer dg then s.sendClose 1 else s).newSession dg
    let s := (s.put F.HOST_PEER_WINDOW (min window 64)).heard dg
    let s := (s.setHost { s.host with rawWanted := raw }).setSession ssOpen
    let s := if !resumed && st == ssOpen then s.wakeEnd else s
    (s.replyOpen dg (if resumed then 1 else 0)).sessionResume (!resumed)

/-- OPEN. -/
def execOpenSession (dg : Dgram) (window : Nat) (raw : Bool) (prev : Word) (s : State) : Out :=
  .next (s.dgramTake dg (fun s => s.openTake dg window raw prev))

/-- CLOSE from the session's host (R347). -/
def execCloseSession (dg : Dgram) (s : State) : Out := .next (s.sessionTake dg (fun s => (s.heard dg).setSession ssNone))

/-- SESSION_IDLE (R347). -/
def execSessionIdle (s : State) : Out :=
  if s.get F.HOST_STAT_SESSION = ssOpen && decide (s.host.lastRx + s.get F.HOST_CFG_SESSION_S * 1000000000 ≤ s.lt) then
    .next (s.setSession ssIdle)
  else .next s

/-- HOST_CMD.CLOSE (R366). -/
def State.cmdHostClose (s : State) (w : Nat) : State := if w = vat then s.moduleClose 3 else s
/-- HOST_CMD_CLOSE. -/
def execHostCmdClose (w : Fin 9) (s : State) : Out := .next (s.cmdHostClose w)

/-! ## Batches and acknowledgement (R353 to R357) -/

/-- BATCH_CLOSE (R353): BATCH_TIME has passed since the first record entered. -/
def execBatchClose (raw : Bool) (s : State) : Out :=
  if !(s.host.open_ raw).isEmpty && decide (s.host.openAt raw + s.get F.HOST_BATCH_BATCH_TIME * 100000 ≤ s.lt) then .next (s.batchClose raw)
  else .next s

/-- One batch under an ACK (R356): none where it is acknowledged, else with its leading slices. -/
def ackBatch (cum : Word) (entries : List AckEntry) (b : Batch) : Option Batch :=
  if seqLater cum b.bseq then none
  else
    match entries.find? (fun e => e.bseq == b.bseq) with
    | none => some b
    | some e =>
      if e.ok ≥ b.slices then none
      else some { b with ok := max b.ok e.ok, next := if b.resent then max b.next e.ok else b.next }

/-- An ACK of the session's host (R356). -/
def State.hostAckTake (s : State) (dg : Dgram) (cum : Word) (window : Nat) (entries : List AckEntry) : State :=
  if decide (entries.length > 16) || seqLater cum (s.rd R.HOST_NEXT_BSEQ) then s.badDgram
  else
    let s := (s.heard dg).put F.HOST_PEER_WINDOW (min window 64)
    if seqLater (s.rd R.HOST_CUM_BSEQ) cum then s
    else
      let gone := s.host.batches.filter (fun b => (ackBatch cum entries b).isNone)
      let s := s.setHost { s.host with batches := s.host.batches.filterMap (ackBatch cum entries) }
      let s := gone.foldl (fun (s : State) b => s.setFill b.raw (s.fill b.raw - recsBytes b.recs)) s
      s.showCum.showOutstanding

/-- HOST_ACK. -/
def execHostAck (dg : Dgram) (cum : Word) (window : Nat) (entries : List AckEntry) (s : State) : Out :=
  .next (s.sessionTake dg (fun s => s.hostAckTake dg cum window entries))

/-- Slice `i` of a batch as a DATA body (R354). -/
def Batch.data (b : Batch) (i : Nat) : List Byte :=
  let bytes := b.recs.flatMap Rec.bytes
  leBytes 4 b.bseq.toNat ++ leBytes 1 (if b.raw then 1 else 0) ++ leBytes 1 i ++ leBytes 1 b.slices ++ leBytes 1 0
    ++ leBytes 4 bytes.length ++ leBytes 4 (i * 1440) ++ (bytes.drop (i * 1440)).take 1440

/-- A slice of the batch may leave (R355): of one that is outstanding, any it has left; of a new one, within the window, and a RAW one where the session wants RAW. -/
def State.mayLeave (s : State) (b : Batch) : Bool :=
  let out := s.host.batches.filter (fun b => b.out)
  let w := s.get F.HOST_PEER_WINDOW
  decide (b.next < b.slices)
    && (b.out || (decide (out.length < w) && (!b.raw || (s.host.rawWanted && decide ((out.filter (fun b => b.raw)).length + 4 < w)))))

/-- The batch whose slice leaves next (R349, R355): what the session's opening found held, in BSEQ order; a resent one, oldest first; a CTRL batch under way;
a new CTRL batch; a RAW batch under way; a new RAW batch. -/
def State.nextBatch (s : State) : Option Batch :=
  let l := s.host.batches.filter s.mayLeave
  (l.find? (fun b => b.first)).orElse fun _ =>
  (l.find? (fun b => b.out && b.resent)).orElse fun _ =>
  (l.find? (fun b => b.out && !b.raw)).orElse fun _ =>
  (l.find? (fun b => !b.out && !b.raw)).orElse fun _ =>
  (l.find? (fun b => b.out && b.raw)).orElse fun _ =>
  l.find? (fun b => !b.out && b.raw)

/-- The instants at which slices left, with the next slice's (R357). -/
def Batch.leftWith (b : Batch) (lt : Nat) : List Nat := (b.left ++ List.replicate (b.next - b.left.length) lt).take b.next ++ [lt]

/-- Records go to the host (R343, R400): the module talks, and neither POWER_UP nor FACTORY_TEST holds. -/
def State.recordsGo (s : State) : Bool := s.hostTalks && s.mode != mPowerUp && s.mode != mFactory

/-- DATA_SEND (R355): the next slice leaves. -/
def execDataSend (s : State) : Out :=
  if s.recordsGo && s.get F.HOST_STAT_SESSION == ssOpen then
    match s.nextBatch with
    | none => .next s
    | some b =>
      let s := s.toPeer mtData (s.rd R.HOST_SESSION) (b.data b.next)
      let more := decide (b.next + 1 < b.slices)
      let b' := { b with out := true, next := b.next + 1, left := b.leftWith s.lt, resent := b.resent && more, first := b.first && more }
      .next (s.setHost { s.host with batches := s.host.batches.map (fun x => if x.bseq = b.bseq then b' else x) }).showOutstanding
  else .next s

/-- A slice that left RTO_MS ago is not acknowledged (R357). -/
def State.rtoDue (s : State) (b : Batch) : Bool :=
  b.out && (match b.left[b.ok]? with | some a => decide (a + s.get F.HOST_CFG_RTO_MS * 1000000 ≤ s.lt) | none => false)

/-- RETRANSMIT (R357, R358): not while the link is down, nor in a mode that sends no records (R400). -/
def execRetransmit (s : State) : Out :=
  if s.recordsGo && s.get F.HOST_STAT_SESSION == ssOpen then
    match s.host.batches.find? s.rtoDue with
    | some b => .next (s.batchAgain b)
    | none => .next s
  else .next s

/-- PARK_EXPIRY (R359). -/
def execParkExpiry (s : State) : Out :=
  match s.host.verdicts.find? (fun p => decide (p.since + s.get F.HOST_CFG_PARK_MS * 1000000 ≤ s.lt)) with
  | some p => .next (s.parkExpire p)
  | none => .next s

/-! ## Requests (R360, R361) -/

/-- RESULT codes (R360). -/
abbrev rqOk : Nat := 0
abbrev rqStarted : Nat := 1
abbrev rqBad : Nat := 2
abbrev rqMode : Nat := 3
abbrev rqNoKey : Nat := 4
abbrev rqBusy : Nat := 5
abbrev rqNoData : Nat := 6
abbrev rqTooLong : Nat := 7

/-- A request is taken (R361): not in POWER_UP or FACTORY_TEST; at most 50 per second; `f` does it and answers. -/
def State.request (s : State) (dg : Dgram) (f : State → State) : State :=
  s.sessionTake dg (fun s =>
    let s := s.heard dg
    if s.mode = mPowerUp ∨ s.mode = mFactory then s
    else
      let recent := s.host.reqAt.filter (fun a => decide (s.lt < a + 1000000000))
      if recent.length < 50 then f ((s.incSat F.HOST_CNT1_REQUESTS).setHost { s.host with reqAt := recent ++ [s.lt] }) else s.badDgram)

/-- A REPLY (R360); the results of the session's last 16 REQ_IDs are kept (R361). -/
def State.reply (s : State) (req : Word) (code result : Nat) (data : List Byte) : State :=
  let s := s.setHost { s.host with answers := ((req, code, result) :: s.host.answers.filter (fun a => a.1 != req)).take 16 }
  s.toPeer mtReply (s.rd R.HOST_SESSION) (leBytes 4 req.toNat ++ leBytes 1 code ++ leBytes 1 result ++ leBytes 2 0 ++ data)

/-- The first entry a LOG_READ returns (R360): none beyond the newest one. -/
def State.logFirst (s : State) (arg0 : Word) : Option Word :=
  let next := s.rd R.LOG_NEXT
  let oldest := s.rd R.LOG_OLDEST
  if s.get F.LOG_STAT_HELD = 0 ∨ arg0 = next ∨ seqLater arg0 next = true then none
  else some (if seqLater oldest arg0 then oldest else arg0)

/-- The bytes of an entry as it reads (R434). -/
def State.logBytes (s : State) (i : Nat) : List Byte := ((s.logEntry i).getD (LogEntry.lostForm (i % 0x100000000))).bytes

/-- LOG_READ (R283, R360): the entries are read. -/
def execLogRead (dg : Dgram) (req arg0 arg1 : Word) (resv : Bool) (s : State) : Out :=
  .next (s.request dg (fun s =>
    if resv || arg1 == 0#32 || decide (arg1.toNat > 40) then s.reply req 1 rqBad []
    else
      match s.logFirst arg0 with
      | none => s.reply req 1 rqNoData []
      | some f =>
        let n := min arg1.toNat (s.rd R.LOG_NEXT - f).toNat
        let s := (List.range n).foldl (fun s i => s.logTouch (f.toNat + i)) s
        let es := (List.range n).flatMap (fun i => s.logBytes (f.toNat + i))
        s.reply req 1 rqOk (leBytes 4 (s.rd R.LOG_OLDEST).toNat ++ leBytes 4 f.toNat ++ leBytes 2 n ++ leBytes 2 0 ++ es)))

/-- HEALTH (R360): CODE 2; a CODE that R360's table does not list comes here too and is answered BAD_REQUEST. -/
def execHealth (dg : Dgram) (req : Word) (form : ReqForm) (s : State) : Out :=
  .next (s.request dg (fun s =>
    if form.code ≠ 2#8 then s.reply req form.code.toNat rqBad []
    else if form.resv then s.reply req 2 rqBad []
    else
      match s.host.health with
      | none => s.reply req 2 rqNoData []
      | some r => if r.length > 1448 then s.reply req 2 rqTooLong [] else s.reply req 2 rqOk r.bytes))

/-- A staging, reload or changeover runs (R360). -/
def State.keyBusy (s : State) : Bool := s.key.job != 0 || s.co.phase != 0 || s.key.cycle.isSome

/-- What the modes say of a host's RELOAD or CHANGEOVER, and its effect (R325, R400, R414). -/
def State.hostKeyDo (s : State) (changeover : Bool) : Nat × State :=
  let m := s.mode
  if m = mChangeover then (rqBusy, s)
  else if m = mKeyLoad && !changeover && !s.isSet F.MOD_STATUS_RECIPE && s.co.phase == 0 && s.key.job == 0 then
    if s.key.cycle.isSome then (rqBusy, s)
    else if s.isSet F.KEY_STAT_PRESENT then (rqStarted, s.keyBegin false 0) else (rqNoKey, s)
  else if [mRun, mWatch, mHoldover, mDegraded].contains m then
    if s.keyBusy then (rqBusy, s)
    else if s.key.staged.isSome then (rqStarted, if changeover then s.coAsk else s.reloadAsk)
    else if s.isSet F.KEY_STAT_PRESENT then (rqStarted, s.keyStage (if changeover then 1 else 2)) else (rqNoKey, s)
  else (rqMode, s)

/-- A host's RELOAD or CHANGEOVER (R360, R361): entry and event for each; a repeated one gets its stored REPLY. -/
def State.hostKey (s : State) (req : Word) (resv changeover : Bool) : State :=
  let code := if changeover then 4 else 3
  let s := s.logWrite kHost 18 (w32 (code - 2)) (s.rd R.HOST_PEER_IP) 0#32
  let s := (s.put F.HOST_EVT_REQUEST_SEEN 1).raise 18
  match s.host.answers.find? (fun a => a.1 == req && a.2.1 == code) with
  | some a => s.reply req code a.2.2 []
  | none =>
    let (r, s) := if resv then (rqBad, s) else s.hostKeyDo changeover
    s.reply req code r []

/-- RELOAD as a host's request. -/
def execReload (dg : Dgram) (req : Word) (resv : Bool) (s : State) : Out := .next (s.request dg (fun s => s.hostKey req resv false))
/-- CHANGEOVER as a host's request. -/
def execHostReqChangeover (dg : Dgram) (req : Word) (resv : Bool) (s : State) : Out := .next (s.request dg (fun s => s.hostKey req resv true))

/-! ## Heartbeat (R350) -/

/-- HFLAGS (R350). -/
def State.hflags (s : State) : Nat :=
  (if s.isSet F.SVC_STAT_HEALTHY then 1 else 0) + (if s.isSet F.LT_STAT_HOLDOVER then 2 else 0) + (if s.throttle = 0 then 0 else 4)
    + (if s.get F.HOST_STAT_SESSION = ssIdle then 8 else 0) + (if s.key.staged.isSome then 16 else 0)

/-- The 40 bytes of a HEARTBEAT (R350). -/
def State.heartbeat (s : State) : List Byte :=
  leBytes 8 s.lt ++ leBytes 4 (s.rd R.HOST_BOOT_ID).toNat ++ leBytes 2 s.gen ++ leBytes 1 s.mode ++ leBytes 1 s.hflags
    ++ leBytes 4 (s.rd R.HOST_NEXT_BSEQ).toNat ++ leBytes 4 (s.rd R.HOST_CUM_BSEQ).toNat ++ leBytes 4 (s.fill false) ++ leBytes 4 (s.fill true)
    ++ leBytes 4 s.host.drops ++ leBytes 1 s.line ++ leBytes 1 (s.get F.KEY_RESULT_CODE) ++ leBytes 2 0

/-- HEARTBEAT (R350): at every LT that is a multiple of 100,000,000 ns. -/
def execHeartbeat (s : State) : Out :=
  if s.hostTalks && s.lt % 100000000 == 0 then
    if s.get F.HOST_STAT_SESSION = ssNone then
      if s.isSet F.HOST_CFG_HB_BCAST then .next (s.udpTo s.bcastIp 40128 (message mtHeartbeat 0#32 s.heartbeat)) else .next s
    else .next (s.toPeer mtHeartbeat (s.rd R.HOST_SESSION) s.heartbeat)
  else .next s

/-! ## Waking the host (R363, R364) -/

/-- A wake attempt's packets are still going (R364): not all have gone, and HOST is on. -/
def State.packetsGo (s : State) : Bool := s.host.attempt.isSome && decide (s.host.packets < 3) && s.domIsOn domHost

/-- HOST_CMD.WAKE (R364): an attempt, or merged into one whose packets are still going. -/
def State.cmdHostWake (s : State) (w : Nat) : State :=
  if w = vat then
    let s := s.setHost { s.host with wakeCmd := s.get F.HOST_STAT_SESSION != ssOpen }
    if s.packetsGo then s.putB F.HOST_STAT_WAKING (s.get F.HOST_STAT_SESSION != ssOpen) else s.wakeStart
  else s
/-- HOST_CMD_WAKE. -/
def execHostCmdWake (w : Fin 9) (s : State) : Out := .next (s.cmdHostWake w)

/-- MAGIC_PACKET_REPEAT (R363): 100 ms and 200 ms after the attempt, with the HOST domain on. -/
def execMagicPacketRepeat (s : State) : Out :=
  match s.host.attempt with
  | none => .next s
  | some a =>
    let n := s.host.packets
    if n < 3 && decide (a + n * 100000000 ≤ s.logLt) then
      let s := s.setHost { s.host with packets := n + 1 }
      .next (if s.domIsOn domHost then s.magicSend else s)
    else .next s

/-- HOST_WAKE_RELEASE (R363). -/
def execHostWakeRelease (s : State) : Out :=
  match s.host.pinAt with
  | none => .next s
  | some a =>
    let ms := s.get F.HOST_WAKE_CFG_PIN_MS
    if ms ≠ 0 ∧ a + ms * 10000000 ≤ s.logLt then .next ((s.put F.HOST_STAT_WAKE_PIN 0).setHost { s.host with pinAt := none })
    else .next s

/-- WAKE_REPEAT (R364): while no session is OPEN and a cause still holds; with none left the repeats end. -/
def execWakeRepeat (s : State) : Out :=
  if s.isSet F.HOST_STAT_WAKING && decide (s.host.lastWake + s.get F.HOST_WAKE_CFG_REPEAT_S * 1000000000 ≤ s.logLt) then
    if s.host.wakeCmd || s.fillCause then .next s.wakeStart else .next (s.put F.HOST_STAT_WAKING 0)
  else .next s

end Sys2Proof.Machine
end

