-- ==== Sys2Proof/Machine/QueueCmds.lean ====
section
/-! DEFINITION. Meanings of the queues' commands (R303 to R306). -/

namespace Sys2Proof.Machine

/-- QUEUE_RESET_END (R304, R305): the reset's GAP and MARKs are written, the reset is reported, producers resume. -/
def execQueueResetEnd (q : Fin 64) (s : State) : Out := .next (s.qResetDone q)

/-- PENDING_GAP_WRITE (R303). -/
def execPendingGapWrite (q : Fin 64) (s : State) : Out := .next (s.qFlushFree q)

/-- The core of queue `q`'s core port: the pail core of its tile, or the vat core (R301, R306). -/
def portCore (q : Nat) : Nat := if q < 48 then q / 6 else vat

/-- Where address `a` of core `c`'s view lies in `mem` (R279): the pail core's first 512 KB are its tile's memory. -/
def coreMem (c a : Nat) : Nat := if c < 8 ∧ a < 0x80000 then tileMem c + a else a

/-- A byte of core `c`'s view that is memory (R279). -/
def memAddr (c a : Nat) : Bool := (decide (c < 8) && decide (a < 0x80000)) || (decide (0x10000000 ≤ a) && decide (a < 0x11000000))

/-- Address `a` lies in the image store, which ignores core writes (R330). -/
def State.inStore (s : State) (a : Nat) : Bool :=
  let b := s.get F.KEY_STORE_BASE
  s.gen != 0 && decide (b ≤ a) && decide (a < b + 0x100000)

/-- A core write to a byte takes effect: it is memory, not the engine's work area of its tile (R205) and not the image store (R330). -/
def State.storable (s : State) (c a : Nat) : Bool :=
  memAddr c a && !(decide (0x70000 ≤ a) && decide (a < 0x80000)) && !s.inStore a

/-- Bytes written for core `c` from address `a` of its view on: those whose write takes effect. -/
def State.coreStore (s : State) (c a : Nat) (l : List Byte) : State :=
  if (List.range l.length).all (fun i => s.storable c (a + i)) then s.store (coreMem c a) l
  else
    (List.range l.length).foldl (fun s i =>
      if s.storable c (a + i) then s.setByte (coreMem c (a + i)) (l.getD i 0#8) else s) s

/-- A refused push (R306). -/
def State.pushRefuse (s : State) (q result : Nat) : State :=
  let s := (s.put (F.Q_PUSH_RES_BUSY q) 0).put (F.Q_PUSH_RES_RESULT q) result
  (s.incSat (F.Q_CNT1_REFUSED q)).put (F.Q_EVT_REFUSED_SEEN q) 1

/-- A core writes PUSH (R306): the pail core to TQ t.4, the vat core to a hub queue; other cores' writes, and writes while a copy runs, are
ignored. -/
def State.cmdPush (s : State) (w q : Nat) (addr : Word) : State :=
  if (q < 48 && (q % 6 != 4 || w != q / 6)) || (q ≥ 48 && w != vat) || s.isSet (F.Q_PUSH_RES_BUSY q) then s
  else if q ≥ 48 && !s.isSet (F.Q_CFG_CORE_EN q) then s.pushRefuse q 6
  else (s.put (F.Q_PUSH_RES_BUSY q) 1).setQueue q { s.queue q with push := some ⟨w, addr.toNat⟩ }
/-- QUEUE_PUSH. -/
def execQueuePush (w : Fin 9) (q : Fin 64) (addr : Word) (s : State) : Out := .next (s.cmdPush w q addr)

/-- TYPE and stream that queue `q` takes from its core (R306); a HEALTH record begins with its head (R437). -/
def pushAllowed (q ty st : Nat) (payload : List Byte) : Bool :=
  if q < 48 then ty == tyCore && decide (0x30 ≤ st) && decide (st ≤ 0x33)
  else (ty == tyCore && decide (0x88 ≤ st) && decide (st ≤ 0x8F))
    || (ty == tyHealth && st == 0x81 && decide (48 ≤ payload.length) && leAt payload 7 1 == 0x48)

/-- The record that a push has copied: SOURCE as the queue fills it in, SEQ still open (R306). -/
def State.pushRec (s : State) (q : Nat) (b : List Byte) : Rec :=
  let st := leAt b 6 1
  { ty := leAt b 0 1, flags := BitVec.ofNat 8 (leAt b 1 1), source := if q < 48 then s.source (q / 6) st else s.source 7 st, seq := 0#32,
    lt := leAt b 12 8, cycle := w32 (leAt b 20 4), payload := (b.take (leAt b 2 2 - 4)).drop 24 }

/-- A pushed record that passes its checks enters the queue, or finds it full (R306). -/
def State.pushEnter (s : State) (q : Nat) (r : Rec) : State :=
  let r := { r with seq := w32 (s.nextSeq r.key) }
  let (s', behind) := s.qFlushFor q r
  let s' := if behind then s' else s'.qMakeRoom q r.length (s.qSize q - qReserve)
  if behind || s'.qFits q r then
    let s := ((s'.takeSeq r.key).qCommit q { r with flags := r.flags ||| s.stampFlags r.lt }).qCompare q
    let x := tabGet (fun _ => ⟨[], 0⟩) s.routes r.key
    let x := { x with lt := r.lt, dests := if x.dests.contains q then x.dests else x.dests ++ [q] }
    let s := { s with routes := tabSet (fun _ => ⟨[], 0⟩) r.key x s.routes }
    let s := if r.ty = tyHealth then s.setHost { s.host with health := some r } else s
    ((s.put (F.Q_PUSH_RES_BUSY q) 0).put (F.Q_PUSH_RES_RESULT q) 0).put (F.Q_PUSH_RES_SEQ q) r.seq.toNat
  else s.pushRefuse q 4

/-- QUEUE_PUSH_DONE (R305, R306): the copy is complete; during a reset its RESULT is RESET and it takes no SEQ. -/
def execQueuePushDone (q : Fin 64) (s : State) : Out :=
  match (s.queue q).push with
  | none => .next s
  | some j =>
    let s := s.setQueue q { s.queue q with push := none }
    let a := coreMem j.core j.addr
    let s := s.memTouch a (if lengthOk (leAt (s.bytes a 24) 2 2) then leAt (s.bytes a 24) 2 2 else 24)
    let head := s.bytes a 24
    let len := leAt head 2 2
    let b := s.bytes a (if lengthOk len then len else 24)
    let r := s.pushRec q b
    if (s.queue q).resetting.isSome then .next ((s.put (F.Q_PUSH_RES_BUSY q) 0).put (F.Q_PUSH_RES_RESULT q) 5)
    else if !pushAllowed q r.ty (leAt head 6 1) (if lengthOk len then r.payload else s.bytes (a + 24) 48) then .next (s.pushRefuse q 1)
    else if !lengthOk len then .next (s.pushRefuse q 2)
    else if r.lt < (tabGet (fun _ => ⟨[], 0⟩) s.routes r.key).lt ∨ s.lt < r.lt then .next (s.pushRefuse q 3)
    else if s.poisoned a len then
      .next (((s.raiseMem 51).incSat (F.Q_CNT1_ABORTED q)).put (F.Q_EVT_ABORT_SEEN q) 1 |>.pushEnter q r.aborted)
    else .next (s.pushEnter q r)

/-- A core writes POP (R306): only the consumer core, while no copy runs; low address bits are taken as 0. -/
def State.cmdPop (s : State) (w q : Nat) (addr : Word) : State :=
  if w ≠ portCore q ∨ s.isSet (F.Q_POP_RES_BUSY q) = true then s
  else if !s.isSet (F.Q_CFG_CORE_EN q) then s.put (F.Q_POP_RES_RESULT q) 3
  else
    match s.qNext q consCore with
    | none => s.put (F.Q_POP_RES_RESULT q) 1
    | some r => (s.put (F.Q_POP_RES_BUSY q) 1).setQueue q { s.queue q with pop := some ⟨w, addr.toNat / 8 * 8, r⟩ }
/-- QUEUE_POP. -/
def execQueuePop (w : Fin 9) (q : Fin 64) (addr : Word) (s : State) : Out := .next (s.cmdPop w q addr)

/-- QUEUE_POP_DONE (R283, R304, R306): the record's words have been read and the copy is complete; a record taken away meanwhile (R301) ends
ABORTED, and so does one where the copies of the port's head disagree, or where the read found a line of it uncorrectable and the queue resets. -/
def execQueuePopDone (q : Fin 64) (s : State) : Out :=
  let s := if (s.queue q).pop.isSome then s.qTouch q consCore else s
  match (s.queue q).pop with
  | none => .next s
  | some j =>
    if !((s.queue q).consOf consCore).agrees then .next (s.qReset q causeReset)
    else
    let s := (s.setQueue q { s.queue q with pop := none }).put (F.Q_POP_RES_BUSY q) 0
    match s.qNext q consCore with
    | none => .next (s.put (F.Q_POP_RES_RESULT q) 2)
    | some r =>
      if r.key = j.record.key ∧ r.seq = j.record.seq then
        let s := (s.qPass q consCore).coreStore j.core j.addr r.bytes
        .next ((s.put (F.Q_POP_RES_RESULT q) 0).put (F.Q_POP_RES_LENGTH q) r.length)
      else .next (s.put (F.Q_POP_RES_RESULT q) 2)

end Sys2Proof.Machine
end

