-- ==== Sys2Proof/Machine/LadleCmds.lean ====
section
/-! DEFINITION. Meanings of the ladles' commands (R307 to R310). -/

namespace Sys2Proof.Machine

/-- Ladle `l` runs: its tile's domain, or HUB, is on. -/
def State.ladleOn (s : State) (l : Nat) : Bool :=
  let n := if l < 32 then domTile (l / 4) else domHub
  s.domIsOn n && !s.domAgreed n

/-- Descriptor `d` has a record to move (R307, R310). -/
def State.descWork (s : State) (l d : Nat) : Bool :=
  s.isSet (F.LAD_D_CTL_EN l d) && decide (0 < s.srcCount l d)
    && !(s.get (F.LAD_D_CTL_DST l d) == 0 && s.co.moved.contains (s.get (F.LAD_D_CTL_DST_Q l d)))
    && (!s.isSet (F.LAD_D_CTL_TRIGGERED l d) || (match s.runLeft l d with | some n => decide (0 < n) | none => false))

/-- The descriptor whose turn it is: the first with work behind the one served last (R307). -/
def State.descTurn (s : State) (l : Nat) : Option Nat :=
  [1, 2, 3, 4].map (fun i => ((s.ladle l).last + i) % 4) |>.find? (fun d => s.descWork l d)

/-- How a record came out of its source: whole, with words that cannot be read, or with a failed CRC. -/
inductive SrcEnd where
  | whole
  | poison
  | crc
  deriving DecidableEq, Repr

/-- The record at RING_RD of a source ring, and where RING_RD goes behind it (R309); none where no record stands there. -/
def State.ringRead (s : State) (l d : Nat) : Option (Rec × SrcEnd × Nat) :=
  let p := s.ringAt l d (s.get (F.LAD_D_RING_RD_RD l d))
  let a := ladMem l (s.get (F.LAD_D_RING_BASE_BASE l d) + p)
  let len := s.ringLen l d p
  if s.poisoned a 24 || !lengthOk len then none
  else
    match Rec.ofBytes (s.bytes a len) with
    | none => none
    | some (r, ok) => some (r, if s.poisoned a len then .poison else if ok then .whole else .crc, s.ringNext l d p len)

/-- One record fewer to move in a triggered run. -/
def State.runCount (s : State) (l d : Nat) : State :=
  match s.runLeft l d with
  | some n => s.setRunLeft l d (n - 1)
  | none => s

/-- Descriptor `d`'s destination takes record `r` and does not drop it (R308, R313); a GAP or MARK is never dropped (R297). -/
def State.descTakes (s : State) (l d : Nat) (r : Rec) : Bool :=
  r.isGapMark || match s.get (F.LAD_D_CTL_DST l d) with
    | 0 => let q := s.get (F.LAD_D_CTL_DST_Q l d)
           ((s.qAdmit q r).queue q).total != (s.queue q).total
    | 1 => (s.ladFlush l d (dRing d) [s.carried r]).isSome
    | 2 => (s.ladFlush l d (if s.isSet (F.LAD_D_TARGET_BCAST l d) then dBcast else dHerd (s.get (F.LAD_D_TARGET_DEST l d))) [s.carried r]).isSome
    | _ => !s.lateCycle r && (s.mustPark r || r.areas.any (fun raw => (s.ladFlush l d (if raw then dRaw else dCtrl) [s.carried r]).isSome))

/-- A record delivered, where the descriptor carries it; one that the destination takes counts as moved (R307, R313). -/
def State.ladleMove (s : State) (l d : Nat) (r : Rec) : State :=
  if s.descCarries l d r then
    let took := s.descTakes l d r
    let s := s.descDeliver l d r
    if took then (s.incWrap (F.LAD_CNT0_MOVED l)).incWrap (F.LAD_D_CNT_MOVED l d) else s
  else s

/-- The ladle ends a record as ABORTED (R293): its own count, and at a destination queue that queue's. -/
def State.ladleAbort (s : State) (l d : Nat) (r : Rec) : State :=
  if s.descCarries l d r then
    let s := s.incSat (F.LAD_CNT1_ABORTED l)
    let q := s.get (F.LAD_D_CTL_DST_Q l d)
    let s := if s.get (F.LAD_D_CTL_DST l d) = 0 then (s.incSat (F.Q_CNT1_ABORTED q)).put (F.Q_EVT_ABORT_SEEN q) 1 else s
    s.ladleMove l d r.aborted
  else s

/-- A poisoned word or a failed CRC at the source (R285, R287, R313): ERR_SEEN and the ladle's event (R269,
R298), and event 51 or the destination queue's CRC count. -/
def State.ladleErr (s : State) (l d : Nat) (how : SrcEnd) : State :=
  let s := (s.put (F.LAD_EVT_ERR_SEEN l) 1).ladleEvent l d
  match how with
  | .poison => s.raiseMem 51
  | .crc =>
    if s.get (F.LAD_D_CTL_DST l d) = 0 then
      let q := s.get (F.LAD_D_CTL_DST_Q l d)
      (s.incSat (F.Q_CNT1_CRC_ERR q)).put (F.Q_EVT_CRC_SEEN q) 1
    else s
  | .whole => s

/-- The words of the record at RING_RD read (R283): its header, then all of it. -/
def State.ringTouch (s : State) (l d : Nat) : State :=
  let rd := s.get (F.LAD_D_RING_RD_RD l d)
  let base := s.get (F.LAD_D_RING_BASE_BASE l d)
  let s := s.memTouch (ladMem l (base + rd)) 4
  let p := s.ringAt l d rd
  let s := s.memTouch (ladMem l (base + p)) 24
  if lengthOk (s.ringLen l d p) then s.memTouch (ladMem l (base + p)) (s.ringLen l d p) else s

/-- A record moved out of a source ring (R309); where no record stands, what the ring holds is skipped. -/
def State.moveRing (s : State) (l d : Nat) : State :=
  let s := s.ringTouch l d
  match s.ringRead l d with
  | none =>
    let s := (s.put (F.LAD_EVT_ERR_SEEN l) 1).ladleEvent l d
    let s := if s.poisoned (ladMem l (s.get (F.LAD_D_RING_BASE_BASE l d) + s.ringAt l d (s.get (F.LAD_D_RING_RD_RD l d)))) 24 then s.raiseMem 51 else s
    (s.put (F.LAD_D_RING_RD_RD l d) (s.get (F.LAD_D_RING_WR_WR l d))).runCount l d
  | some (r, how, next) =>
    let s := (s.put (F.LAD_D_RING_RD_RD l d) next).runCount l d
    match how with
    | .whole => s.ladleMove l d r
    | h => (s.ladleErr l d h).ladleAbort l d r

/-- One copy of a pointer of queue `q` upset (R304): consumer `id`'s head, the tail, the core port's head or the churn engine's. -/
def Queue.upset (x : Queue) (id : Nat) : PtrUpset → Queue
  | .none => x
  | .head => x.setCons id { x.consOf id with headDup := (x.consOf id).headDup + 1 }
  | .tail => { x with tailDup := x.tailDup + 8 }
  | .port => x.setCons consCore { x.consOf consCore with headDup := (x.consOf consCore).headDup + 1 }
  | .churn => x.setCons consChurn { x.consOf consChurn with headDup := (x.consOf consChurn).headDup + 1 }

/-- A record moved out of a source queue: its words are read (R283); where that finds a line uncorrectable, or the copies of the ladle's head disagree as it is
updated (R304), the copy ends as ABORTED and the queue resets. `upset` has come to one copy of a pointer of the queue. -/
def State.moveQueue (s : State) (l d : Nat) (upset : PtrUpset) : State :=
  let q := s.get (F.LAD_D_CTL_SRC_Q l d)
  let id := ladleCons l d
  match s.qNext q id with
  | none => s
  | some r =>
    let reset := (s.queue q).resetting.isSome
    let s := (s.setQueue q ((s.queue q).upset id upset)).qTouch q id
    if !reset && (s.queue q).resetting.isSome then s.ladleAbort l d r
    else if !((s.queue q).consOf id).agrees then (s.ladleAbort l d r).qReset q causeReset
    else ((s.qPass q id).runCount l d).ladleMove l d r

/-- LADLE_RECORD_MOVE (R307): descriptor `d` of ladle `l`, whose turn it is, has moved one whole record; `upset` is what has come to the pointers of its source
queue (R304). -/
def execLadleRecordMove (l : Fin 40) (d : Fin 4) (upset : PtrUpset) (s : State) : Out :=
  if s.ladleOn l && s.descTurn l == some d.val then
    let s := s.setLadle l { s.ladle l with last := d }
    if s.ringSource l d then .next (s.moveRing l d) else .next (s.moveQueue l d upset)
  else .next s

/-- A write of 1 to a RUN bit of a ladle's CMD (R310): by the tile's pail core or the vat core; of a hub ladle by the vat core. -/
def State.cmdRun (s : State) (w l d : Nat) : State :=
  if (if l < 32 then tileWriter w (l / 4) else w == vat) then s.ladleRequest l d else s
/-- LADLE_RUN. -/
def execLadleRun (w : Fin 9) (l : Fin 40) (d : Fin 4) (s : State) : Out := .next (s.cmdRun w l d)

/-- LADLE_RUN_END (R310): the run's records have moved; a merged request starts the second run at once. -/
def execLadleRunEnd (l : Fin 40) (d : Fin 4) (s : State) : Out :=
  match s.runLeft l d with
  | none => .next s
  | some n =>
    if n = 0 ∨ (s.srcCount l d = 0 ∧ s.srcResets l d = false) then
      let x := s.ladle l
      let s := (s.setLadle l { x with runs := tabDrop d.val x.runs }).put (F.LAD_EVT_DONE_SEEN l) 1
      .next ((s.ladleEvent l d).runAgain l d)
    else .next s

/-- LADLE_GAP_WRITE (R308): the pending GAP and MARKs of a destination are written where they fit. -/
def execLadleGapWrite (l : Fin 40) (dest : Nat) (s : State) : Out :=
  match s.ladPend l dest with
  | none => .next s
  | some _ =>
    match s.ladFlush l 0 dest [] with
    | none => .next s
    | some s => .next (if dest = dCtrl then (s.parksEnter 64).showParked else s)

/-- A write of RING_WR or RING_RD (R309): by a core, on the side that R309 gives to the cores. -/
def State.cmdRingPtr (s : State) (w l d : Nat) (read : Bool) (value : Word) : State :=
  if l < 32 && !tileWriter w (l / 4) then s
  else if read then (if s.ringDest l d then s.put (F.LAD_D_RING_RD_RD l d) value.toNat else s)
  else if s.ringSource l d then s.put (F.LAD_D_RING_WR_WR l d) value.toNat else s
/-- RING_POINTER_WRITE. -/
def execRingPointerWrite (w : Fin 9) (l : Fin 40) (d : Fin 4) (read : Bool) (value : Word) (s : State) : Out :=
  .next (s.cmdRingPtr w l d read value)

end Sys2Proof.Machine
end

