-- ==== Sys2Proof/Machine/LogCmds.lean ====
section
/-! DEFINITION. Meanings of the trouble log's and the HEALTH head's commands (R434, R436, R437). -/

namespace Sys2Proof.Machine

/-- LOG_SEL written (R283, R434): by the vat core only; the entry is read for LOG_DATA. -/
def State.cmdLogSel (s : State) (w : Nat) (index : Word) : State := if w = vat then (s.logTouch index.toNat).wr R.LOG_SEL index else s
/-- LOG_SEL_WRITE. -/
def execLogSelWrite (w : Fin 9) (index : Word) (s : State) : Out := .next (s.cmdLogSel w index)

/-- LOG_USER_CMD.WRITE (R436): by the vat core only; at most 1,000 entries per second, further ones ignored and counted. -/
def State.cmdLogUser (s : State) (w : Nat) : State :=
  if w ≠ vat then s
  else
    let recent := s.userLts.filter (fun a => decide (s.lt < a + 1000000000))
    if recent.length < 1000 then
      { s.logWrite kUser noEvent (s.rd (R.LOG_USER_D 0)) (s.rd (R.LOG_USER_D 1)) (s.rd (R.LOG_USER_D 2)) with userLts := recent ++ [s.lt] }
    else s.incSat F.LOG_STAT_USER_DROPPED
/-- LOG_USER_WRITE. -/
def execLogUserWrite (w : Fin 9) (s : State) : Out := .next (s.cmdLogUser w)

/-- A sum that saturates at 32 bits. -/
def sat32 (l : List Nat) : Nat := min l.sum 0xFFFFFFFF

/-- The 48-byte head of a HEALTH record (R437). -/
def State.healthHead (s : State) : List Byte :=
  leBytes 4 (s.rd R.HOST_BOOT_ID).toNat ++ leBytes 2 s.gen ++ leBytes 1 s.mode ++ leBytes 1 0x48 ++ leBytes 4 (s.rd R.MOD_STATUS).toNat
    ++ leBytes 4 (s.rd R.EVT_SEEN_LO).toNat ++ leBytes 4 (s.rd R.EVT_SEEN_HI).toNat ++ leBytes 4 (s.rd R.LOG_NEXT).toNat
    ++ leBytes 4 (s.rd R.LOG_OVERWRITES).toNat ++ leBytes 2 (s.rd R.MOD_TILE).toNat ++ leBytes 1 s.throttle
    ++ leBytes 1 (s.get F.FLT_STAT_RESTART_CAUSE + 8 * s.get F.FLT_STAT_HOLD_CAUSE) ++ leBytes 4 (s.rd R.PWR_SUPPLY).toNat
    ++ leBytes 4 (sat32 ((List.range 8).map (fun t => s.get (F.FLT_TILE_RESTARTS t))))
    ++ leBytes 4 (sat32 ((List.range 19).map (fun m => s.get (F.MEMM_UE_UNCORRECTABLE m))))
    ++ leBytes 4 (sat32 ((List.range 19).map (fun m => s.get (F.MEMM_CNT_CORRECTED m))))

/-- FLT_SNAP (R437): by the vat core only, while no head is being written; low address bits are taken as 0. -/
def State.cmdSnap (s : State) (w : Nat) (addr : Word) : State :=
  if w = vat && !s.isSet F.FLT_STAT_SNAP_BUSY then (s.coreStore vat (addr.toNat / 8 * 8) s.healthHead).put F.FLT_STAT_SNAP_BUSY 1 else s
/-- FLT_SNAP. -/
def execFltSnap (w : Fin 9) (addr : Word) (s : State) : Out := .next (s.cmdSnap w addr)

/-- SNAP_DONE (R437). -/
def execSnapDone (s : State) : Out := .next (s.put F.FLT_STAT_SNAP_BUSY 0)

end Sys2Proof.Machine
end

