-- ==== Sys2Proof/Machine/RestartCmds.lean ====
section
/-! DEFINITION. Meanings of the tile restart's commands (R415, R425, R426, R430) and of WATCH (R398, R402). -/

namespace Sys2Proof.Machine

/-- TILE_RESTART_DRAIN_END (R425): the tile's queues have drained, or 20 ms have passed. -/
def execTileRestartDrainEnd (t : Fin 8) (s : State) : Out :=
  let r := s.tileRun t
  if r.phase = 1 && (s.tileDrained t || decide (r.at_ + 20000000 ≤ s.lt)) then .next (s.restartDrained t) else .next s

/-- An upset has come to a line of the image store (R283, R330): the read that follows finds it. -/
def State.storeUpset (s : State) (u : StoreUpset) : State :=
  let a := 0x10000000 + 64 * u.line.val
  let base := s.get F.KEY_STORE_BASE
  if base ≤ a ∧ a < base + 0x100000 then
    let k := lineKey 16 u.line.val
    s.setLineErr k ((s.lineErr k).upset u.upset)
  else s

/-- TILE_RESTART_APPLY (R283, R330, R425): the sections from the bank that R330 names, else from the inserted key; `ups` are the upsets that have come to the
store's lines since they were last read. -/
def execTileRestartApply (t : Fin 8) (ups : List StoreUpset) (s : State) : Out :=
  if (s.tileRun t).phase = 2 && s.dom (domTile t) != domOff then .next ((ups.foldl State.storeUpset s).tileApply t) else .next s

/-- TILE_BACK (R415, R425): the tile starts; RESUME MARKs; a tile that was out of service is back in service. Cells start where AFEt is on. -/
def execTileBack (t : Fin 8) (s : State) : Out :=
  let r := s.tileRun t
  if r.phase = 3 && s.domIsOn (domTile t) then
    let out := s.tileState t == 2
    let afe := s.dom (domAfe t)
    let s := (s.tileStart t).setTileRun t { r with phase := 0, failed := false }
    let s := if afe = domOn then s else s.afeLower t afe
    let s := s.markResumes t
    let s := if out then (s.logWrite kTileBack t (w32 t.val) (w32 (s.get (F.FLT_TILE_RESTARTS t))) 0#32).raise t else s
    .next (s.setTile t 1).watchFollow
  else .next s

/-! ## WATCH -/

/-- MOD_CMD written (R398, R416): the vat core only. -/
def State.cmdMod (s : State) (w : Nat) (v : Word) : State :=
  if w = vat then
    let s := if v.getLsbD 0 then s.setWatch { s.watch with byVat := true } else s
    let s := if v.getLsbD 1 then s.setWatch { s.watch with byVat := false, byAuto := false } else s
    s.watchSettle
  else s

/-- WATCH_ON. -/
def execWatchOn (w : Fin 9) (s : State) : Out := .next (s.cmdMod w 1#32)
/-- WATCH_OFF. -/
def execWatchOff (w : Fin 9) (s : State) : Out := .next (s.cmdMod w 2#32)

/-- AUTO_WATCH_EXPIRY (R398): WATCH_SRC has been away for WATCH_S seconds without a break, which sets WATCH. -/
def execAutoWatchExpiry (s : State) : Out :=
  let s := s.watchNote.watchBack
  match s.watch.away with
  | none => .next s
  | some a => if a + s.get F.MOD_CFG_WATCH_S * 1000000000 ≤ s.logLt then .next (s.setWatch { s.watch with byAuto := true }).watchSettle else .next s

/-- WATCH_ENTRY_RETRY (R402, R414): an entry of WATCH that was refused or had to wait is asked for again. -/
def execWatchEntryRetry (s : State) : Out :=
  match s.watch.retryAt with
  | some a => if s.cond mWatch && decide (a ≤ s.lt) then .next s.watchEnter else .next s
  | none => .next s

end Sys2Proof.Machine
end

