-- ==== Sys2Proof/Machine/Service.lean ====
section
/-! DEFINITION. The service port's operations (chapter 16): commands, commissioning fields and trims, and its pages. -/

namespace Sys2Proof.Machine

/-- The state with the service port's part replaced. -/
def State.setSvc (s : State) (v : SvcSt) : State := { s with svc := v }

/-- The service port answers: AON runs (R56, R379, R380). -/
def State.svcAnswers (s : State) : Bool := decide (3 ≤ s.boot.stage)

/-- SERVICE_EN_N reads low or high (R452, R464). -/
def State.enabled (s : State) (e : Bool) : State := s.putB F.SVC_STAT_ENABLE e

/-! ## Take and COMMISSION (R398, R400, R406, R453, R454) -/

/-- A take begins or goes on (R454). -/
def State.takeStart (s : State) : State :=
  let s := s.setSvc { s.svc with takeEnd := some (s.logLt + s.svc.takeS * 1000000000) }
  if s.isSet F.SVC_STAT_TAKEN then s else ((s.put F.SVC_STAT_TAKEN 1).raise62 F.SVC_EVT_TAKE_SEEN).setCond mService true

/-- A take ends. -/
def State.takeStop (s : State) : State :=
  if s.isSet F.SVC_STAT_TAKEN then
    let s := s.setSvc { s.svc with takeEnd := none }
    ((s.put F.SVC_STAT_TAKEN 0).raise62 F.SVC_EVT_TAKE_SEEN).setCond mService false
  else s

/-- Tile `t` forced off for COMMISSION (R400): a restart that ran goes on when the tile comes back. -/
def State.commissionTile (s : State) (t : Nat) : State :=
  if s.dom (domTile t) = domOff then s
  else
    let r := s.tileRun t
    let s := (s.tileHalt t).setTileRun t { r with phase := if r.phase = 0 then 0 else 2 }
    (s.tileCut t).markStops (s.usedStreams.filter (keyOfTile t))

/-- COMMISSION begins (R398, R400, R406): an entry in progress ends (R392), any take ends, every tile is forced off; the states that the tiles' domains had are
kept for its end, those of an entry's rollback among them. -/
def State.commissionStart (s : State) : State :=
  if s.cond mCommission then s
  else
    let s := s.pwrForce
    let st (n : Nat) : Nat := match s.pwr.raising.find? (fun d => d.1 == n) with | some d => d.2 | none => s.dom n
    let saved := (raiseOrder.filter (fun n => decide (4 ≤ n) && st n != domOff)).map (fun n => (n, st n))
    let s := s.takeStop
    let s := s.setSvc { s.svc with written := false, ending := false, takeEnd := none, saved := saved }
    let s := (s.raise62 F.SVC_EVT_COMMISSION_SEEN).setCond mCommission true
    (List.range 8).foldl State.commissionTile s

/-- COMMISSION ends (R406): a warm reset where a field was written; else the tiles' domains return, parents first, to the states before it (R369, R370), and
WATCH looks at them again (R402). -/
def State.commissionEnd (s : State) : State :=
  let written := s.svc.written
  let saved := s.svc.saved
  let s := (s.setSvc { s.svc with written := false, ending := false, saved := [] }).setCond mCommission false
  let s := s.raise62 F.SVC_EVT_COMMISSION_SEEN
  if written then s.wantReset 4
  else (saved.foldl (fun s d => if decide (d.2 ≤ s.dom (domParent d.1)) then s.domRaise d.1 d.2 else s) s).watchFollow

/-- COMMISSION is left: at once, or when a burn that runs ends (R460). -/
def State.commissionLeave (s : State) : State :=
  if !s.cond mCommission then s
  else if s.isSet F.SVC_STAT_BURNING then s.setSvc { s.svc with ending := true }
  else s.commissionEnd

/-- RESULT of a command (R453); a refusal counts. -/
def State.svcResult (s : State) (r : Nat) : State :=
  let s := s.setSvc { s.svc with cmdResult := r }
  if r = 0 then s else s.incSat F.SVC_CNT_BAD_CMD

/-- TAKE (R453, R454). -/
def State.svcTake (s : State) : State := if s.cond mCommission || s.booting then s.svcResult 3 else s.takeStart.svcResult 0
/-- RELEASE. -/
def State.svcRelease (s : State) : State :=
  if s.cond mCommission then s.commissionLeave.svcResult 0
  else if s.isSet F.SVC_STAT_TAKEN then s.takeStop.svcResult 0
  else s.svcResult 4
/-- ALIVE. -/
def State.svcAlive (s : State) : State := if s.isSet F.SVC_STAT_TAKEN then s.takeStart.svcResult 0 else s.svcResult 4
/-- COMMISSION. -/
def State.svcCommission (s : State) : State :=
  if !s.isSet F.SVC_STAT_ENABLE then s.svcResult 2
  else if s.co.phase ≠ 0 then s.svcResult 3
  else s.commissionStart.svcResult 0
/-- WARM_RESET (R455). -/
def State.svcWarmReset (s : State) : State :=
  if s.isSet F.SVC_STAT_TAKEN || s.cond mFaultHold then ((s.raise62 F.SVC_EVT_RESET_REQ_SEEN).wantReset 1).svcResult 0 else s.svcResult 4

/-- A command and its complement (R453). -/
def State.svcCommand (s : State) (cmd inv : Nat) : State :=
  if cmd + inv ≠ 255 then s.svcResult 1
  else
    match cmd with
    | 1 => s.svcTake
    | 2 => s.svcRelease
    | 3 => s.svcAlive
    | 4 => s.svcCommission
    | 5 => s.svcWarmReset
    | _ => s.svcResult 1

/-! ## Commissioning fields (R456 to R460) -/

/-- Bytes of a field (R456). -/
def fieldBytes (sel : Nat) : Nat :=
  match sel with
  | 0 => 1
  | 1 => 1
  | 2 => 12
  | 3 => 32
  | 4 => 3
  | _ => 0

/-- A mask of 1 to 30 leading ones. -/
def maskOk (m : Nat) : Bool := (List.range 30).any (fun n => decide (m = 0x100000000 - 2 ^ (31 - n)))

/-- A value that R456 allows for COM_HOST_IP. -/
def hostIpOk (l : List Byte) : Bool :=
  let a := (octets l 0).toNat
  let m := (octets l 4).toNat
  let g := (octets l 8).toNat
  let host := 0xFFFFFFFF - m
  maskOk m && (a &&& host) != 0 && (a &&& host) != host && (g == 0 || ((g &&& m) == (a &&& m) && g != a))

/-- A value that R456 allows. -/
def fieldOk (sel : Nat) (l : List Byte) : Bool :=
  match sel with
  | 0 => decide (leVal l < 32)
  | 1 => decide (leVal l < 4)
  | 2 => hostIpOk l
  | 3 => l.any (fun b => b != 0#8)
  | 4 => true
  | _ => false

/-- The field's value bytes as page 5 holds them. -/
def SvcSt.newValue (v : SvcSt) : List Byte := (List.range (fieldBytes v.sel)).map (fun i => tabGet (fun _ => 0#8) v.value i)

/-- The entry of a field write's result and event 63 (R459, R460); `slot` 8 for none. -/
def State.fieldLog (s : State) (sel r slot : Nat) (l : List Byte) : State :=
  let s := s.setSvc { s.svc with fieldResult := r }
  let d0 := sel % 8 + (if r = 0 ∨ r = 8 then 8 else 0) + 16 * r + 256 * slot
  (s.logWrite kCommission 63 (w32 d0) (w32 (leAt l 0 4)) (w32 (leAt l 4 4))).put F.SVC_EVT_WRITE_SEEN 1 |>.raise 63

/-- The first check of R459 that a GO on page 5 fails; 0 for none. -/
def State.fieldCheck (s : State) : Nat :=
  let v := s.svc
  let l := v.newValue
  if s.mode ≠ mCommission then 1
  else if !s.isSet F.SVC_STAT_ENABLE then 2
  else if crc8 (BitVec.ofNat 8 v.sel :: l) ≠ v.crc then 3
  else if !fieldOk v.sel l then 4
  else if v.sel = 1 && leVal l != 3 && (s.fieldNow 0).isNone then 5
  else if s.fieldNow v.sel = some l then 6
  else if 8 ≤ (s.fieldSlots v.sel).length then 7
  else 0

/-- GO on page 5 (R459); ignored while a burn runs. -/
def State.fieldGo (s : State) : State :=
  if s.isSet F.SVC_STAT_BURNING then s
  else
    let r := s.fieldCheck
    if r = 0 then (s.put F.SVC_STAT_BURNING 1).setSvc { s.svc with burn := some ⟨false, s.svc.sel, s.svc.newValue⟩ }
    else s.fieldLog s.svc.sel r 8 s.svc.newValue

/-! ## Calibration trims (R461) -/

/-- A word as a signed number. -/
def sgn (v : Word) : Int := v.toInt

/-- A TRIM_ID that R461 lists. -/
def trimKnown (id : Nat) : Bool :=
  let i := id % 4096
  match id / 4096 with
  | 1 => decide (i < 512)
  | 2 => decide (i < 128)
  | 3 => decide (i < 128)
  | 4 => decide (i < 128)
  | 5 => decide (i < 32)
  | 6 => decide (i < 32)
  | 7 => decide (i < 64)
  | 8 => decide (i < 24)
  | _ => false

/-- The value lies within the largest change from slot 0 that R461 allows. -/
def trimNear (id : Nat) (v : Word) : Bool :=
  let z := trimFactory id
  let d := (sgn v - sgn z).natAbs
  let u := ((v.toNat : Int) - (z.toNat : Int)).natAbs
  match id / 4096 with
  | 1 => decide (u * 2000 ≤ z.toNat)
  | 2 => decide (d ≤ 500)
  | 3 => decide (d ≤ 2048)
  | 4 => decide (d ≤ 256)
  | 5 => decide (d ≤ 128)
  | 6 => decide (u ≤ 200)
  | 7 => decide (d ≤ 1000)
  | 8 => decide (u ≤ (if id % 4096 < 16 then 200 else 4))
  | _ => false

/-- The slots burned of a trim behind slot 0. -/
def State.trimSlots (s : State) (id : Nat) : List (Option Nat) := tabGet (fun _ => []) s.svc.trims id

/-- A trim's current value (R457, R461). -/
def State.trimNow (s : State) (id : Nat) : Word := match lastValid (s.trimSlots id) with | some v => w32 v | none => trimFactory id

/-- The entry of a trim write's result and event 63 (R461); slot 0 is the factory's, so 0 also stands for none. -/
def State.trimLog (s : State) (id r slot : Nat) (new old : Word) : State :=
  let s := s.setSvc { s.svc with trimResult := r }
  let d0 := id % 65536 + 65536 * r + 0x100000 * slot + (if r = 0 ∨ r = 8 then 0x400000 else 0)
  (s.logWrite kCalibration 63 (w32 d0) new old).put F.SVC_EVT_WRITE_SEEN 1 |>.raise 63

/-- The first check of R459 that a GO on page 6 fails; 0 for none. -/
def State.trimCheck (s : State) : Nat :=
  let v := s.svc
  if s.mode ≠ mCommission then 1
  else if !s.isSet F.SVC_STAT_ENABLE then 2
  else if crc8 (leBytes 2 v.trimId ++ leBytes 4 v.trimValue) ≠ v.trimCrc then 3
  else if !trimKnown v.trimId || !trimNear v.trimId (w32 v.trimValue) then 4
  else if s.trimNow v.trimId = w32 v.trimValue then 6
  else if 3 ≤ (s.trimSlots v.trimId).length then 7
  else 0

/-- GO on page 6 (R461). -/
def State.trimGo (s : State) : State :=
  if s.isSet F.SVC_STAT_BURNING then s
  else
    let v := s.svc
    let r := s.trimCheck
    if r = 0 then (s.put F.SVC_STAT_BURNING 1).setSvc { v with burn := some ⟨true, v.trimId, leBytes 4 v.trimValue⟩ }
    else s.trimLog v.trimId r 0 (w32 v.trimValue) (s.trimNow v.trimId)

/-- PAGE selected. -/
def State.setPage (s : State) (p : Nat) : State := (s.put F.SVC_STAT_PAGE p).setSvc { s.svc with page := p, pageDue := none }

/-- A burn ends (R459, R460): the slot is used; a verified one is the field's or trim's newest value; a PAGE written meanwhile is selected. -/
def State.burnEnd (s : State) (verified : Bool) : State :=
  match s.svc.burn with
  | none => s
  | some b =>
    let s := (s.put F.SVC_STAT_BURNING 0).setSvc { s.svc with burn := none, written := s.svc.written || verified }
    let r := if verified then 0 else 8
    let s : State :=
      if b.trim then
        let old := s.trimNow b.id
        let l := s.trimSlots b.id
        let s := s.setSvc { s.svc with trims := tabSet (fun _ => []) b.id (l ++ [if verified then some (leVal b.value) else none]) s.svc.trims }
        s.trimLog b.id r (l.length + 1) (w32 (leVal b.value)) old
      else
        let l := s.fieldSlots b.id
        let s := s.setSvc { s.svc with fields := tabSet (fun _ => []) b.id (l ++ [if verified then some b.value else none]) s.svc.fields }
        s.fieldLog b.id r l.length b.value
    let s := match s.svc.pageDue with
      | some p => s.setPage p
      | none => s
    if s.svc.ending then s.commissionEnd else s

/-! ## Pages (R444, R448 to R453, R458, R461) -/

/-- A PAGE is written: it is selected, or, while a burn runs, at the burn's end (R460). -/
def State.pageSelect (s : State) (p : Nat) : State :=
  if s.isSet F.SVC_STAT_BURNING then s.setSvc { s.svc with pageDue := some p } else s.setPage p

/-- A byte of a little-endian number replaced. -/
def setLe (n i : Nat) (b : Byte) : Nat := n - n / 256 ^ i % 256 * 256 ^ i + b.toNat * 256 ^ i

/-- A byte written at position `a` of page `p` (R446); commands and PAGE apart. -/
def State.pageWrite (s : State) (p a : Nat) (b : Byte) : State :=
  let v := s.svc
  match p with
  | 3 => if a < 4 then s.setSvc { v with logIndex := setLe v.logIndex a b } else s
  | 4 => if a = 3 && decide (1 ≤ b.toNat) && decide (b.toNat ≤ 60) then s.setSvc { v with takeS := b.toNat } else s
  | 5 =>
    if a = 0 then s.setSvc { v with sel := b.toNat }
    else if a ≤ 0x20 then s.setSvc { v with value := tabSet (fun _ => 0#8) (a - 1) b v.value }
    else if a = 0x21 then s.setSvc { v with crc := b }
    else if a = 0x22 && b == 0xC3#8 then s.fieldGo
    else s
  | 6 =>
    if a < 2 then s.setSvc { v with trimId := setLe v.trimId a b }
    else if a < 6 then s.setSvc { v with trimValue := setLe v.trimValue (a - 2) b }
    else if a = 6 then s.setSvc { v with trimCrc := b }
    else if a = 7 && b == 0xC3#8 then s.trimGo
    else s
  | _ => s

/-- The data bytes of a write transfer behind its pointer byte (R443, R444, R453): `cmd` is a CMD byte just written on page 4. -/
def State.svcWrite (s : State) (cmd : Option Nat) : List Byte → State
  | [] => s
  | b :: t =>
    let p := s.svc.page
    let a := s.svc.ptr
    let s := s.setSvc { s.svc with ptr := (a + 1) % 256 }
    if a = 0xFF then State.svcWrite (if b.toNat ≤ 6 then s.pageSelect b.toNat else s) none t
    else if p = 4 && a == 0 then State.svcWrite s (some b.toNat) t
    else if p = 4 && a == 1 then
      State.svcWrite (match cmd with | some c => s.svcCommand c b.toNat | none => s) none t
    else State.svcWrite (s.pageWrite p a b) none t

/-- The fewest free slots over all trims (R449). -/
def State.calFreeMin (s : State) : Nat := s.svc.trims.foldl (fun m x => min m (3 - x.2.length)) 3

/-- SFLAGS (R450). -/
def State.sflags (s : State) : Nat :=
  s.get F.SVC_STAT_HEALTHY + 2 * s.get F.SVC_STAT_ENABLE + (if s.time then 4 else 0) + 8 * s.get F.SVC_STAT_TAKEN
    + 16 * s.get F.KEY_STAT_PRESENT

/-- Whole seconds left of a take (R450). -/
def State.takeLeft (s : State) : Nat := match s.svc.takeEnd with | some e => (e - s.logLt) / 1000000000 | none => 0

/-- The entries of the log window (R452): held and lost masks, the bytes. -/
def State.logWindow (s : State) : List (Nat × List Byte) :=
  let es := (List.range 7).map (fun n => (n, s.logEntry (s.svc.logIndex + n)))
  let held := (es.map (fun e => if e.2.isSome then 2 ^ e.1 else 0)).sum
  let lost := (es.map (fun e => match e.2 with | some x => if x.lost then 2 ^ e.1 else 0 | none => 0)).sum
  [(0x00, leBytes 4 s.svc.logIndex), (0x04, leBytes 1 held), (0x05, leBytes 1 lost)]
    ++ es.filterMap (fun e => e.2.map (fun x => (0x10 + 32 * e.1, x.bytes)))

/-- Four bytes of a register. -/
def State.regBytes (s : State) (a : Nat) : List Byte := leBytes 4 (s.rd a).toNat

/-- HW_ISSUE (0) and AON_ISSUE (1), each from 1 (R449). -/
def issueByte (i : Nat) : Nat := 1 + Config.issues.toNat / 256 ^ i % 256 % 255

/-- The content of page `p`: position and bytes; the rest reads 0. The spec does not say what CMD and its complement read as: free. -/
def State.page (s : State) (p : Nat) : List (Nat × List Byte) :=
  let v := s.svc
  match p with
  | 0 => [(0x00, leBytes 1 0x47 ++ leBytes 1 0x4A ++ leBytes 1 0x53 ++ leBytes 1 0x56), (0x04, leBytes 2 0x0128),
          (0x06, leBytes 1 (issueByte 0) ++ leBytes 1 (issueByte 1)), (0x08, leBytes 4 Config.serial.toNat), (0x0C, leBytes 6 Config.mac.toNat),
          (0x12, leBytes 4 Config.built.toNat), (0x16, leBytes 1 s.calFreeMin)]
  | 1 => [(0x00, s.regBytes R.MOD_STATUS), (0x04, leBytes 2 s.gen), (0x06, leBytes 1 (s.get F.KEY_RESULT_CODE)), (0x07, leBytes 1 s.sflags),
          (0x08, leBytes 8 s.lt), (0x10, s.regBytes R.HOST_BOOT_ID),
          (0x14, leBytes 1 (s.get F.FLT_STAT_RESTART_CAUSE + 8 * s.get F.FLT_STAT_HOLD_CAUSE)), (0x15, leBytes 1 s.takeLeft),
          (0x16, leBytes 2 (s.rd R.MOD_TILE).toNat), (0x18, s.regBytes R.PWR_STATE_T), (0x1C, leBytes 1 (s.rd R.PWR_STATE_H).toNat),
          (0x1D, leBytes 1 s.line), (0x1E, leBytes 1 s.role)]
  | 2 => [(0x00, s.regBytes R.EVT_SEEN_LO), (0x04, s.regBytes R.EVT_SEEN_HI), (0x08, s.regBytes R.PWR_SUPPLY), (0x0C, s.regBytes R.PWR_STAGE),
          (0x10, leBytes 1 s.throttle), (0x14, s.regBytes R.LOG_NEXT), (0x18, s.regBytes R.LOG_OLDEST), (0x1C, s.regBytes R.LOG_OVERWRITES),
          (0x20, s.regBytes R.FLT_WARM)] ++ (List.range 8).map (fun t => (0x24 + 4 * t, leBytes 4 (s.fltTile t).toNat))
          ++ [(0x44, s.regBytes R.MOD_CNT)]
  | 3 => s.logWindow
  | 4 => [(0x00, leBytes 2 s.free.toNat), (0x02, leBytes 1 v.cmdResult), (0x03, leBytes 1 v.takeS)]
  | 5 => [(0x00, leBytes 1 v.sel), (0x01, (List.range 32).map (fun i => tabGet (fun _ => 0#8) v.value i)), (0x21, [v.crc]),
          (0x30, leBytes 1 (s.get F.SVC_STAT_BURNING)), (0x31, leBytes 1 v.fieldResult), (0x32, leBytes 1 (s.fieldSlots v.sel).length),
          (0x40, (s.fieldNow v.sel).getD []), (0x60, (List.range 5).map (fun w => BitVec.ofNat 8 (s.fieldSlots w).length))]
  | _ => [(0x00, leBytes 2 v.trimId), (0x02, leBytes 4 v.trimValue), (0x06, [v.trimCrc]), (0x10, leBytes 1 (s.get F.SVC_STAT_BURNING)),
          (0x11, leBytes 1 v.trimResult),
          (0x12, leBytes 1 (if trimKnown v.trimId then (s.trimSlots v.trimId).length + 1 else 0)),
          (0x14, if trimKnown v.trimId then leBytes 4 (s.trimNow v.trimId).toNat else [])]

/-- The byte at position `a` of a page's content. -/
def pageByte (l : List (Nat × List Byte)) (p a : Nat) : Byte :=
  if a = 0xFF then BitVec.ofNat 8 p
  else
    match l.find? (fun e => decide (e.1 ≤ a) && decide (a < e.1 + e.2.length)) with
    | some e => e.2.getD (a - e.1) 0#8
    | none => 0#8

end Sys2Proof.Machine
end

