-- ==== Sys2Proof/Machine/ServiceCmds.lean ====
section
/-! DEFINITION. Meanings of the service port's commands (chapter 16). -/

namespace Sys2Proof.Machine

/-- A transfer of the service port; before AON runs there is no acknowledge (R56). -/
def State.svcDo (s : State) (f : State → State) : State := if s.svcAnswers then f s else s

/-- SVC_WRITE_TRANSFER (R443): the acknowledged bytes of a write transfer, the pointer first; `enable`: SERVICE_EN_N reads low. -/
def execSvcWriteTransfer (enable : Bool) (bytes : List Byte) (s : State) : Out :=
  .next <| s.svcDo (fun s =>
    let s := (s.enabled enable).incWrap F.SVC_CNT_TRANSFERS
    match bytes with
    | [] => s
    | p :: t => (s.setSvc { s.svc with ptr := p.toNat }).svcWrite none t)

/-- SVC_READ_TRANSFER (R443, R445): the reader takes `n` bytes of the page as it stands at the address byte's acknowledge; the
log window's entries are read (R283). -/
def execSvcReadTransfer (enable : Bool) (n : Nat) (s : State) : Out :=
  .next <| s.svcDo (fun s =>
    let s := (s.enabled enable).incWrap F.SVC_CNT_TRANSFERS
    let p := s.svc.page
    let s := if p = 3 then (List.range 7).foldl (fun s i => s.logTouch (s.svc.logIndex + i)) s else s
    let l := s.page p
    let a := s.svc.ptr
    let s := s.emit (.service ((List.range n).map (fun i => pageByte l p ((a + i) % 256))))
    (if p = 4 then s.freeNext else s).setSvc { s.svc with ptr := (a + n) % 256 })

/-- SVC_SCL_STUCK (R447): the port releases SDA; the byte in flight is discarded and the pointer keeps its value. -/
def execSvcSclStuck (s : State) : Out := .next s

/-- SVC_TAKE. -/
def execSvcTake (s : State) : Out := .next (s.svcDo State.svcTake)
/-- SVC_RELEASE. -/
def execSvcRelease (s : State) : Out := .next (s.svcDo State.svcRelease)
/-- SVC_ALIVE. -/
def execSvcAlive (s : State) : Out := .next (s.svcDo State.svcAlive)
/-- SVC_COMMISSION. -/
def execSvcCommission (enable : Bool) (s : State) : Out := .next (s.svcDo (fun s => (s.enabled enable).svcCommission))
/-- SVC_WARM_RESET. -/
def execSvcWarmReset (s : State) : Out := .next (s.svcDo State.svcWarmReset)

/-- TAKE_EXPIRY (R454): the take's time is over; on the very clock at which it ends an ALIVE would win. -/
def execTakeExpiry (s : State) : Out :=
  match s.svc.takeEnd with
  | some e => if e < s.logLt then .next s.takeStop else .next s
  | none => .next s

/-- COMMISSION_END (R406): SERVICE_EN_N reads high. -/
def execCommissionEnd (enable : Bool) (s : State) : Out :=
  let s := s.enabled enable
  if enable then .next s else .next s.commissionLeave

/-- COMMISSION_GO (R459). -/
def execCommissionGo (enable : Bool) (s : State) : Out := .next (s.svcDo (fun s => (s.enabled enable).fieldGo))
/-- TRIM_GO (R461). -/
def execTrimGo (enable : Bool) (s : State) : Out := .next (s.svcDo (fun s => (s.enabled enable).trimGo))
/-- BURN_END (R459, R461). -/
def execBurnEnd (verified : Bool) (s : State) : Out := .next (s.burnEnd verified)

/-- SVC_KICK written (R462): by the vat core only. -/
def State.cmdKick (s : State) (w : Nat) : State := if w = vat then (s.setSvc { s.svc with kickAt := some s.logLt }).healthySettle else s
/-- SVC_KICK. -/
def execSvcKick (w : Fin 9) (s : State) : Out := .next (s.cmdKick w)

/-- KICK_TIMEOUT (R462): HEALTHY_N is released where no kick has come within KICK_MS. -/
def execKickTimeout (s : State) : Out := .next s.healthySettle
/-- HEALTHY_HOLD_END (R462): after 10 ms HEALTHY_N may be held low again. -/
def execHealthyHoldEnd (s : State) : Out := .next s.healthySettle

/-- FACTORY_FIXTURE_TAKE (R398, R407). -/
def execFactoryFixtureTake (s : State) : Out := .next (s.setCond mFactory true)

end Sys2Proof.Machine
end

