-- ==== Sys2Proof/Machine/Bus.lean ====
section
/-! DEFINITION. Accesses of cores to registers (R9 to R13, R249, R250, R279 to R281): what a read returns and what a write does. -/

namespace Sys2Proof.Machine

/-! ## Reads -/

/-- STAT, TAIL and HEAD of queue `q` (R312): bytes and records held; the tail and the slowest holding consumer's head in 8-byte units. -/
def State.queueStat (s : State) (q : Nat) : Word :=
  let x := s.queue q
  w32 (min x.used 0x1FFFFF + min x.recs.length 2047 * 0x200000)
/-- TAIL. -/
def State.queueTail (s : State) (q : Nat) : Word := w32 ((s.queue q).tail / 8)
/-- HEAD. -/
def State.queueHead (s : State) (q : Nat) : Word :=
  let x := s.queue q
  let unread := ((x.recs.drop (x.holdHead (s.consumers q) - x.first)).map Rec.length).sum
  let n := max (s.qSize q) 1
  w32 ((x.tail + n - unread % n) % n / 8)

/-- A queue register read. -/
def State.queueRead (s : State) (q off a : Nat) : Word :=
  if off = 0x10 then s.queueStat q else if off = 0x20 then s.queueTail q else if off = 0x24 then s.queueHead q else s.rd a &&& regImpl a

/-- STAT of ladle `l` read (R313): the descriptor whose turn it is is moving its record. -/
def State.ladleStat (s : State) (l a : Nat) : Word :=
  let turn := if s.ladleOn l then s.descTurn l else none
  (F.LAD_STAT_ACTIVE l).into (s.rd a &&& regImpl a) (match turn with | some d => 2 ^ d | none => 0)

/-- Word `w` of action-table entry ACT_Ea (R241). -/
def ActEntry.word (e : ActEntry) (w : Nat) : Word :=
  match w with
  | 0 => w32 (e.output + e.level.toNat * 32 + e.target.cyc.toNat * 64 + e.lane.toNat * 128 + e.state % 4 * 256 + e.target.src % 8 * 1024
            + e.origin % 32 * 8192 + e.from_ % 4 * 262144)
  | 1 => e.reqId
  | 2 => e.target.cycle
  | 3 => e.target.angle
  | 4 => w32 e.targetLt
  | 5 => w32 (e.targetLt / 0x100000000)
  | 6 => w32 e.launchLt
  | _ => w32 (e.launchLt / 0x100000000)

/-- The selected trouble-log entry (R434, R440): its HELD and LOST bits. -/
def State.logSelRes (s : State) : Word :=
  match s.logEntry (s.rd R.LOG_SEL).toNat with
  | some e => if e.lost then 3#32 else 1#32
  | none => 0#32

/-- LOG_DATAw (R440). -/
def State.logData (s : State) (w : Nat) : Word :=
  match s.logEntry (s.rd R.LOG_SEL).toNat with
  | some e => w32 (leAt e.bytes (4 * w) 4)
  | none => 0#32

/-- A register that shows something held elsewhere in the block's state, read. -/
def State.busView (s : State) (a : Nat) : Option Word :=
  if a = R.LT_LO then some (w32 s.lt)
  else if a = R.LT_HI then some (w32 (s.lt / 0x100000000))
  else if a = R.HERD_STAT then some (F.HERD_STAT_ROLE.into (s.rd a) s.role)
  else if a = R.ACT_STAT then some (F.ACT_STAT_USED.into (s.rd a) s.acts.length)
  else if a = R.OUT_SENSE then some (w32 s.com.sense)
  else if a = R.COM_OUT_SENSE then some (w32 s.com.sense)
  else if a = R.COM_ID then some (w32 (s.line + 32 * s.role))
  else if a = R.HOST_MAC_LO then some (Config.mac.setWidth 32)
  else if a = R.HOST_MAC_HI then some ((Config.mac >>> 32).setWidth 32)
  else if a = R.LOG_SEL_RES then some s.logSelRes
  else if R.FLT_TILE 0 ≤ a ∧ a < R.FLT_TILE 8 then some (s.fltTile ((a - R.FLT_TILE 0) / 4))
  else if a = R.PWR_THR_US1 then some (w32 (min (s.throttleNs 1 / 1000) 0xFFFFFFFF))
  else if a = R.PWR_THR_US2 then some (w32 (min (s.throttleNs 2 / 1000) 0xFFFFFFFF))
  else if R.LOG_DATA 0 ≤ a ∧ a < R.LOG_DATA 8 then some (s.logData ((a - R.LOG_DATA 0) / 4))
  else if R.OUT_DLY 0 ≤ a ∧ a < R.OUT_DLY 24 then some (w32 (s.outDly ((a - R.OUT_DLY 0) / 4) % 65536))
  else if R.ACT_E_W0 0 ≤ a ∧ a < R.ACT_E_W0 512 then some ((s.act ((a - R.ACT_E_W0 0) / 32)).word (a % 32 / 4))
  else none

/-- Channel `k` is in a state in which a quiet window runs whenever its input is quiet (R107). -/
def State.quietMay (s : State) (k : Nat) : Bool :=
  (s.chan k).on && s.get (F.CH_MODE_AR_MODE k) == 2 && decide (s.get (F.CH_MODE_MIN_RANGE k) < s.get (F.CH_STAT_RANGE_NOW k))
    && !s.isSet (F.CH_STAT_BLANKING k)

/-- CH_STAT of channel `k` read: QUIET_RUN is the input's. -/
def State.chStatRead (s : State) (k a : Nat) : Word :=
  F.CH_STAT_QUIET_RUN k |>.into (s.rd a &&& regImpl a) (if s.quietMay k && Config.quietRuns k s.lt then 1 else 0)

/-- A word of the window of tile `t` at offset `o` read. -/
def State.tileRead (s : State) (t o a : Nat) : Word :=
  if 0x1000 ≤ o ∧ o < 0x2000 ∧ 0x38 ≤ o % 0x100 ∧ o % 0x100 < 0x48 then
    s.trim (0x1000 + 4 * (16 * t + (o - 0x1000) / 0x100) + (o % 0x100 - 0x38) / 4)
  else if 0x1000 ≤ o ∧ o < 0x2000 ∧ o % 0x100 = 0x10 then s.chStatRead (16 * t + (o - 0x1000) / 0x100) a
  else if 0x6000 ≤ o ∧ o < 0x6400 ∧ o % 0x100 = 0 then s.ladleStat (4 * t + (o - 0x6000) / 0x100) a
  else if 0x5000 ≤ o ∧ o < 0x5180 then s.queueRead (6 * t + (o - 0x5000) / 0x40) (o % 0x40) a
  else s.rd a &&& regImpl a

/-- A register or an envelope-table word read (R10, R12, R198): an unassigned address reads 0. -/
def State.busRead (s : State) (a : Nat) : Word :=
  if 0x40000000 ≤ a ∧ a < 0x40800000 then s.tileRead ((a - 0x40000000) / 0x100000) (a % 0x100000) a
  else if 0x50000000 ≤ a ∧ a < 0x50000400 then s.queueRead (48 + (a - 0x50000000) / 0x40) (a % 0x40) a
  else if 0x50010000 ≤ a ∧ a < 0x50010800 ∧ a % 0x100 = 0 then s.ladleStat (32 + (a - 0x50010000) / 0x100) a
  else if 0x60000000 ≤ a ∧ a < 0x60080000 then
    let o := a % 0x10000
    if o < 0x6000 then
      let w := s.envGet ((a - 0x60000000) / 0x10000) (o / 8)
      if o % 8 < 4 then w.setWidth 32 else (w >>> 32).setWidth 32
    else 0#32
  else match s.busView a with
    | some v => v
    | none => s.rd a &&& regImpl a

/-! ## Writes -/

/-- Core `w` may write the RW fields of the register at `a` (R230, R341, R396, R440). -/
def mayWriteRw (w a : Nat) : Bool :=
  if R.ACT_ENTER_CTL 0 ≤ a ∧ a < R.ACT_ENTER_CTL 9 then w == (a - R.ACT_ENTER_CTL 0) / 16 else w == vat

/-- Core `w` may clear the W1C fields of the register at `a`: any core, but EVT_SEEN the vat core alone (R451). -/
def mayClear (w a : Nat) : Bool := w == vat || (a != R.EVT_SEEN_LO && a != R.EVT_SEEN_HI)

/-- A write to a register's RW and W1C fields (R10): other fields stay. -/
def State.plainWrite (s : State) (w a : Nat) (v : Word) : State :=
  match regRow a with
  | none => s
  | some r =>
    let rw : Word := if mayWriteRw w a then BitVec.ofNat 32 r.rw else 0#32
    let wc : Word := if mayClear w a then BitVec.ofNat 32 r.w1c else 0#32
    s.wr a (((s.rd a &&& ~~~rw) ||| (v &&& rw)) &&& ~~~(v &&& wc))

/-- A write to a queue's registers (R306). -/
def State.queueWrite (s : State) (w q off a : Nat) (v : Word) : State :=
  if off = 0x28 then s.cmdPush w q v else if off = 0x30 then s.cmdPop w q v else s.plainWrite w a v

/-- A write to a ladle's registers (R309, R310). -/
def State.ladleWrite (s : State) (w l off a : Nat) (v : Word) : State :=
  if off = 0x10 then [0, 1, 2, 3].foldl (fun (s : State) d => if v.getLsbD d then s.cmdRun w l d else s) s
  else if 0x20 ≤ off ∧ off < 0xA0 ∧ off % 0x20 = 0x10 then s.cmdRingPtr w l ((off - 0x20) / 0x20) false v
  else if 0x20 ≤ off ∧ off < 0xA0 ∧ off % 0x20 = 0x14 then s.cmdRingPtr w l ((off - 0x20) / 0x20) true v
  else s.plainWrite w a v

/-- A write to a tile timer's registers (R224 to R226). -/
def State.timerWrite (s : State) (w t n off a : Nat) (v : Word) : State :=
  if off = 0x04 then s.ifTimerWriter w t (·.cmdTimerPer t n v)
  else if off = 0x08 then s.ifTimerWriter w t (·.cmdTimerCmp t n v)
  else if off = 0x10 then
    s.ifTimerWriter w t (fun s =>
      let s := if v.getLsbD 0 then s.cmdTimerStart t n else s
      let s := if v.getLsbD 1 then s.cmdTimerStop t n else s
      if v.getLsbD 2 then s.cmdTimerClear t n else s)
  else s.plainWrite w a v

/-- What a chain has at a reset that a core's store asks for: free values. -/
def State.freeRead (s : State) : ResetRead :=
  ⟨(List.range 32).map (fun i => (Config.freeWord (s.freeCtr + i)).toInt), (Config.freeWord (s.freeCtr + 32)).toInt⟩

/-- A write to CHk_CMD (R105): the input at the clocks before the reset is free. -/
def State.chCmdWrite (s : State) (w k : Nat) (v : Word) : State :=
  if v.getLsbD 0 && tileWriter w (k / 16) then { s with freeCtr := s.freeCtr + 33 }.cmdChReset w k s.freeRead else s

/-- A write to CHURNt_GRPg_CMD (R202, R203). -/
def State.teachWrite (s : State) (w t g : Nat) (v : Word) : State :=
  let s := if v.getLsbD 0 then s.cmdTeach w t g else s
  if v.getLsbD 1 then s.cmdTeachEnd w t g else s

/-- A write into the window of tile `t` at offset `o` (R280). -/
def State.tileWrite (s : State) (w t o a : Nat) (v : Word) : State :=
  if 0x1000 ≤ o ∧ o < 0x2000 ∧ o % 0x100 = 0x0C then s.chCmdWrite w (16 * t + (o - 0x1000) / 0x100) v
  else if 0x3100 ≤ o ∧ o < 0x3180 ∧ o % 0x20 = 0x10 then s.teachWrite w t ((o - 0x3100) / 0x20) v
  else if 0x4000 ≤ o ∧ o < 0x4080 then s.timerWrite w t ((o - 0x4000) / 0x20) (o % 0x20) a v
  else if 0x5000 ≤ o ∧ o < 0x5180 then s.queueWrite w (6 * t + (o - 0x5000) / 0x40) (o % 0x40) a v
  else if 0x6000 ≤ o ∧ o < 0x6400 then s.ladleWrite w (4 * t + (o - 0x6000) / 0x100) (o % 0x100) a v
  else s.plainWrite w a v

/-- A write to HOST_CMD (R368). -/
def State.hostCmdWrite (s : State) (w : Nat) (v : Word) : State :=
  let s := if v.getLsbD 0 then s.cmdHostWake w else s
  if v.getLsbD 1 then s.cmdHostClose w else s

/-- A write to KEY_CMD (R326). -/
def State.keyCmdWrite (s : State) (w : Nat) (v : Word) : State :=
  let s := if v.getLsbD 0 then s.cmdStage w else s
  let s := if v.getLsbD 1 then s.cmdKeyCycle w else s
  if v.getLsbD 2 then s.cmdChangeover w else s

/-- A write into the hub blocks and the window at 0x7000_0000 (R281). -/
def State.hubWrite (s : State) (w a : Nat) (v : Word) : State :=
  if 0x50000000 ≤ a ∧ a < 0x50000400 then s.queueWrite w (48 + (a - 0x50000000) / 0x40) (a % 0x40) a v
  else if 0x50010000 ≤ a ∧ a < 0x50010800 then s.ladleWrite w (32 + (a - 0x50010000) / 0x100) (a % 0x100) a v
  else if 0x50080000 ≤ a ∧ a < 0x50082000 ∧ a % 0x400 = 4 then s.cmdTwCtl w ((a - 0x50080000) / 0x400) v
  else if R.ACT_ENTER_CTL 0 ≤ a ∧ a < R.ACT_ENTER_CTL 9 ∧ a % 16 = 0 then s.cmdEnter w ((a - R.ACT_ENTER_CTL 0) / 16) v
  else if a = R.HOST_CMD then s.hostCmdWrite w v
  else if a = R.KEY_CMD then s.keyCmdWrite w v
  else if a = R.PWR_CMD then (if v.getLsbD 0 then s.cmdGo w else s)
  else if a = R.MOD_CMD then s.cmdMod w v
  else if a = R.FLT_SNAP then s.cmdSnap w v
  else if a = R.LOG_USER_CMD then (if v.getLsbD 0 then s.cmdLogUser w else s)
  else if a = R.SVC_KICK then (if v.getLsbD 0 then s.cmdKick w else s)
  else s.plainWrite w a v

/-- Core `w` writes a word to a register window or an envelope table (R10 to R12, R198). -/
def State.busWrite (s : State) (w a : Nat) (v : Word) : State :=
  if 0x40000000 ≤ a ∧ a < 0x40800000 then s.tileWrite w ((a - 0x40000000) / 0x100000) (a % 0x100000) a v
  else if 0x60000000 ≤ a ∧ a < 0x60080000 then
    (if a % 0x10000 < 0x6000 then s.envWrite w ((a - 0x60000000) / 0x10000) (a % 0x10000 / 8) (Nat.ble 4 (a % 8)) v else s)
  else s.hubWrite w a v

/-- REGISTER_WRITE (R10 to R12): core `c` writes a word at an address of a register window; an address on no word boundary is none. -/
def execRegisterWrite (c : Fin 9) (addr value : Word) (s : State) : Out :=
  if addr.toNat % 4 = 0 ∧ 0x40000000 ≤ addr.toNat then .next (s.busWrite c addr.toNat value) else .next s

end Sys2Proof.Machine
end

