-- ==== Sys2Proof/Machine/Flags.lean ====
section
/-! DEFINITION. The Filsy condition and sticky flags (R245, R246, R255) and every computation of a result with its flags (R256 to R260). -/

namespace Sys2Proof.Machine

/-- Bit `i` of a word set to `b`. -/
def bitTo (w : Word) (i : Nat) (b : Bool) : Word := if b then w ||| (1#32 <<< i) else w &&& ~~~(1#32 <<< i)

/-! Places of the flags in FLAGS (R245). -/
abbrev fN : Nat := 0
abbrev fZ : Nat := 1
abbrev fC : Nat := 2
abbrev fV : Nat := 3
abbrev fSat : Nat := 8
abbrev fDz : Nat := 9
abbrev fIe : Nat := 16
abbrev fInf : Nat := 17
abbrev fProf : Nat := 18

/-- "NZ": N and Z from the result; the others unchanged. -/
def flNZ (r f : Word) : Word := bitTo (bitTo f fN r.msb) fZ (r == 0#32)

/-- N and Z from the result, V as given; C unchanged. -/
def flNZV (r : Word) (v : Bool) (f : Word) : Word := bitTo (flNZ r f) fV v

/-- "NZCV". -/
def flNZCV (r : Word) (c v : Bool) (f : Word) : Word := bitTo (flNZV r v f) fC c

/-- "sat": N and Z set, V cleared, C unchanged, SAT set when clamped. -/
def flSat (r : Word) (clamped : Bool) (f : Word) : Word :=
  let f := flNZV r false f
  if clamped then bitTo f fSat true else f

/-- A result and the FLAGS that go with it. -/
structure Alu where
  r : Word
  f : Word
  deriving DecidableEq, Repr

/-- An exact integer clamped to 32 signed bits, and whether it was (R256). -/
def clamp32 (x : Int) : Word × Bool :=
  if x > 0x7FFFFFFF then (0x7FFFFFFF#32, true)
  else if x < -0x80000000 then (0x80000000#32, true)
  else (BitVec.ofInt 32 x, false)

/-- The exact result lies outside 32 signed bits. -/
def overflows (x : Int) : Bool := decide (x > 0x7FFFFFFF) || decide (x < -0x80000000)

/-- A clamped result with its flags. -/
def aluSat (x : Int) (f : Word) : Alu := let (r, c) := clamp32 x; ⟨r, flSat r c f⟩

/-- A result with N and Z. -/
def aluNZ (r f : Word) : Alu := ⟨r, flNZ r f⟩

/-- A + B + carry in (R256). -/
def aluAdd (a b : Word) (cin : Bool) (f : Word) : Alu :=
  let k := cin.toNat
  let r := a + b + w32 k
  ⟨r, flNZCV r (decide (a.toNat + b.toNat + k ≥ 0x100000000)) (overflows (a.toInt + b.toInt + k)) f⟩

/-- A − B − borrow in; C is 1 when no borrow occurs (R256). -/
def aluSub (a b : Word) (bin : Bool) (f : Word) : Alu :=
  let k := bin.toNat
  let r := a - b - w32 k
  ⟨r, flNZCV r (decide (a.toNat ≥ b.toNat + k)) (overflows (a.toInt - b.toInt - k)) f⟩

/-- ABS: N and Z, V only for 0x8000_0000 (R256, R260). -/
def aluAbs (a f : Word) : Alu :=
  let r := if a.msb then 0#32 - a else a
  ⟨r, flNZV r (a == 0x80000000#32) f⟩

/-- Leading zeros among the `n` low bits. -/
def clzFrom (a : Word) : Nat → Nat
  | 0 => 0
  | n + 1 => if a.getLsbD n then 0 else 1 + clzFrom a n

/-- Set bits among the `n` low bits. -/
def popFrom (a : Word) : Nat → Nat
  | 0 => 0
  | n + 1 => (if a.getLsbD n then 1 else 0) + popFrom a n

/-- CLZ: leading zeros, 0 to 32; Z is 0 for CLZ of 0 because the result is 32 (R256, R260). -/
def aluClz (a f : Word) : Alu := aluNZ (w32 (clzFrom a 32)) f

/-- POPC: set bits (R256). -/
def aluPopc (a f : Word) : Alu := aluNZ (w32 (popFrom a 32)) f

/-- A condition code tested on FLAGS (R255); code 15 is ILLEGAL and never reaches this test. -/
def condHolds (c : Nat) (f : Word) : Bool :=
  let n := f.getLsbD fN
  let z := f.getLsbD fZ
  let cc := f.getLsbD fC
  let v := f.getLsbD fV
  match c with
  | 0 => true
  | 1 => z
  | 2 => !z
  | 3 => cc
  | 4 => !cc
  | 5 => cc && !z
  | 6 => !cc || z
  | 7 => n
  | 8 => !n
  | 9 => v
  | 10 => !v
  | 11 => n == v
  | 12 => n != v
  | 13 => !z && n == v
  | 14 => z || n != v
  | _ => false

/-- N and Z from the result, V cleared, C as given: the shifts (R258). -/
def aluShift (r : Word) (c : Bool) (f : Word) : Alu := ⟨r, flNZCV r c false f⟩

/-- SHL (R258). -/
def aluShl (a : Word) (n : Nat) (f : Word) : Alu :=
  aluShift (a <<< n) (decide (1 ≤ n ∧ n ≤ 32) && a.getLsbD (32 - n)) f

/-- SHR (R258). -/
def aluShr (a : Word) (n : Nat) (f : Word) : Alu :=
  aluShift (a >>> n) (decide (1 ≤ n ∧ n ≤ 32) && a.getLsbD (n - 1)) f

/-- SAR (R258). -/
def aluSar (a : Word) (n : Nat) (f : Word) : Alu :=
  aluShift (a.sshiftRight n) (if n = 0 then false else if n ≤ 32 then a.getLsbD (n - 1) else a.msb) f

/-- ROR by n mod 32 (R258). -/
def aluRor (a : Word) (n : Nat) (f : Word) : Alu :=
  let m := n % 32
  aluShift (a.rotateRight m) (m != 0 && a.getLsbD (m - 1)) f

/-- ROL by n mod 32 (R258). -/
def aluRol (a : Word) (n : Nat) (f : Word) : Alu :=
  let m := n % 32
  aluShift (a.rotateLeft m) (m != 0 && a.getLsbD (32 - m)) f

/-- SHLS: A × 2^n clamped; SAT on clamping; C 0 (R258). -/
def aluShls (a : Word) (n : Nat) (f : Word) : Alu :=
  let (r, c) := clamp32 (a.toInt * (2 ^ n : Nat))
  let x := aluShift r false f
  if c then ⟨r, bitTo x.f fSat true⟩ else x

/-- A product rounded and shifted right arithmetically by K (R259). -/
def roundShift (p : Int) (k : Nat) : Int := (p + (if k = 0 then 0 else (2 ^ (k - 1) : Nat))) / (2 ^ k : Nat)

/-- A quotient or remainder with N and Z, V as given, and DZ on a division by zero (R259, R260). -/
def aluDiv (r : Word) (v dz : Bool) (f : Word) : Alu :=
  let f := flNZV r v f
  ⟨r, if dz then bitTo f fDz true else f⟩

/-- DIV with its edge cases (R260). -/
def aluDivS (a b f : Word) : Alu :=
  if b = 0#32 then aluDiv (if a.msb then 0x80000000#32 else 0x7FFFFFFF#32) false true f
  else if a = 0x80000000#32 ∧ b = 0xFFFFFFFF#32 then aluDiv 0x80000000#32 true false f
  else aluDiv (BitVec.ofInt 32 (a.toInt.tdiv b.toInt)) false false f

/-- DIVU with its edge case (R260). -/
def aluDivU (a b f : Word) : Alu :=
  if b = 0#32 then aluDiv 0xFFFFFFFF#32 false true f else aluDiv (w32 (a.toNat / b.toNat)) false false f

/-- REM with its edge cases: the remainder takes the sign of the dividend (R259, R260). -/
def aluRemS (a b f : Word) : Alu :=
  if b = 0#32 then aluDiv a false true f else aluDiv (BitVec.ofInt 32 (a.toInt.tmod b.toInt)) false false f

/-- REMU with its edge case (R260). -/
def aluRemU (a b f : Word) : Alu :=
  if b = 0#32 then aluDiv a false true f else aluDiv (w32 (a.toNat % b.toNat)) false false f

end Sys2Proof.Machine
end

