-- ==== Sys2Proof/Machine/Operands.lean ====
section
/-! DEFINITION. Filsy operand forms (R244, R247, R253, R261, R262): general registers, immediates, addresses, branch targets and special
registers. -/

namespace Sys2Proof.Machine

/-- A general register's value: G0 always reads 0 (R244). -/
def Core.reg (c : Core) (r : BitVec 4) : Word := if r = 0#4 then 0#32 else tabGet (fun _ => 0#32) c.g r.toNat

/-- A general register written; a write to G0 is discarded (R244). -/
def Core.setReg (c : Core) (r : BitVec 4) (v : Word) : Core :=
  if r = 0#4 then c else { c with g := tabSet (fun _ => 0#32) r.toNat v c.g }

/-- A result and its FLAGS written. -/
def Core.result (c : Core) (d : BitVec 4) (x : Alu) : Core := { c.setReg d x.r with flags := x.f }

/-- IMM18 sign-extended (R257, R261). -/
def immS (i : BitVec 18) : Word := i.signExtend 32

/-- IMM18 zero-extended (R257). -/
def immZ (i : BitVec 18) : Word := i.zeroExtend 32

/-- The address of an access of OP 0x10 to 0x17 (R261). -/
def Core.ea (c : Core) (a : BitVec 4) (i : BitVec 18) : Word := c.reg a + immS i

/-- A branch target: PC + 4 × OFF22, signed (R262). -/
def Core.branchTo (c : Core) (off : BitVec 22) : Word := c.pc + 4#32 * off.signExtend 32

/-- The core has the large profile (R243, R245). -/
def Core.large (c : Core) : Bool := c.flags.getLsbD fProf

/-- The stack pointer, G13. -/
abbrev gSp : BitVec 4 := 13#4
/-- The small profile's link, G14. -/
abbrev gLink : BitVec 4 := 14#4

/-- The address lies in the core's fetch area (R242, R249). -/
def inFetch (large : Bool) (a : Nat) : Bool :=
  if large then decide (0x10000000 ≤ a) && decide (a < 0x11000000) else decide (a < 0x70000)

/-- A jump target that may be taken: in the fetch area and on a word boundary (R250, R262). -/
def goodTarget (large : Bool) (a : Word) : Bool := inFetch large a.toNat && a.toNat % 4 == 0

/-- The newest event or fault entry of the return stack, whose address EVT_PC shows on the vat core (R247). -/
def Core.newestEntry (c : Core) : Word :=
  match c.rs.find? (fun e => e.kind != .call) with
  | some e => e.addr
  | none => c.evtPc

/-- The special registers the profile has (R243, R247). -/
def specialPresent (large : Bool) (n : Nat) : Bool :=
  decide (n ≤ 17) && (if large then n != 3 && n != 4 else !([9, 10, 12, 13, 15, 16, 17].contains n))

/-- The special registers an MTS may write (R247). -/
def specialWritable (large : Bool) (n : Nat) : Bool :=
  specialPresent large n && !([5, 6, 14, 15].contains n) && !(large && n == 2)

/-- The value of special register `n` of core `k` (R247). -/
def Core.special (c : Core) (k n : Nat) : Word :=
  match n with
  | 0 => c.flags
  | 1 => c.rc
  | 2 => if c.large then c.newestEntry else c.evtPc
  | 3 => c.evtFlags
  | 4 => c.evtIter
  | 5 => c.evtCause
  | 6 => c.evtAddr
  | 7 => c.vecBase
  | 8 => c.en0
  | 9 => c.en1
  | 10 => c.en2
  | 11 => c.pend0
  | 12 => c.pend1
  | 13 => c.pend2
  | 14 => w32 (k + if c.large then 16 else 0)
  | 15 => w32 c.rs.length
  | 16 => c.dspLo
  | 17 => c.dspHi
  | _ => 0#32

/-- FLAGS bits that an MTS writes: N, Z, C, V, SAT, DZ and IE (R245). -/
abbrev flagsRw : Word := 0x1030F#32

/-- An MTS of `v` to special register `n` (R245 to R247): reserved bits read 0, W1C bits clear where 1 is written. -/
def Core.setSpecial (c : Core) (n : Nat) (v : Word) : Core :=
  match n with
  | 0 => { c with flags := (c.flags &&& ~~~flagsRw) ||| (v &&& flagsRw) }
  | 1 => { c with rc := v }
  | 2 => { c with evtPc := v }
  | 3 => { c with evtFlags := v }
  | 4 => { c with evtIter := v }
  | 7 => { c with vecBase := v &&& 0xFFFFFF00#32 }
  | 8 => { c with en0 := if c.large then v else v &&& 0xFFFF#32 }
  | 9 => { c with en1 := v }
  | 10 => { c with en2 := v &&& 1#32 }
  | 11 => { c with pend0 := c.pend0 &&& ~~~v }
  | 12 => { c with pend1 := c.pend1 &&& ~~~v }
  | 13 => { c with pend2 := c.pend2 &&& ~~~v }
  | 16 => { c with dspLo := v }
  | 17 => { c with dspHi := v }
  | _ => c

end Sys2Proof.Machine
end

