-- ==== Sys2Proof/Machine/Filsy.lean ====
section
/-! DEFINITION. How a Filsy core issues an instruction (R244 to R251, R264 to R273, R427): fetch, legality, completion with the running repeat,
fault entry, halting, and the accesses of loads and stores. -/

namespace Sys2Proof.Machine

/-! ## Fault codes (R272) -/

abbrev fcIllegal : Nat := 1
abbrev fcRptLimit : Nat := 2
abbrev fcFetch : Nat := 3
abbrev fcWindow : Nat := 4
abbrev fcAlign : Nat := 5
abbrev fcWidth : Nat := 6
abbrev fcStackRs : Nat := 7
abbrev fcStackDs : Nat := 8
abbrev fcBreak : Nat := 9

/-- What an issued instruction comes to. -/
inductive Eff where
  /-- It completes; the next instruction or the next iteration follows. -/
  | done (s : State)
  /-- It completes and the core goes on at an address, with a repeat to run there, `held` after an ERET (R270). -/
  | go (s : State) (dst : Word) (rep : Option Nat) (held : Bool)
  /-- It has not completed and leaves the core as given. -/
  | rest (s : State)
  /-- It waits for posted stores and is issued again (R251). -/
  | stall
  /-- It faults: the instruction's address, the code, DETAIL, and the address that EVT_ADDR takes. -/
  | fault (at_ : Word) (code detail : Nat) (addr : Option Word)
  /-- It meets a poisoned hub word at an address (R427). -/
  | poison (addr : Word)

/-! ## Entries and completion -/

/-- EVT_CAUSE of a fault (R247). -/
def faultCause (code detail : Nat) : Word := w32 (code + 256 + detail * 65536)

/-- FLAGS at a fault entry: IE 0, INF 1 (R271). -/
def faultFlags (f : Word) : Word := bitTo (bitTo f fIe false) fInf true

/-- A core at its fault entry (R268, R271): the pail core saves into its EVT registers, the vat core on its return stack. -/
def Core.faultEntry (c : Core) (at_ : Word) (code detail : Nat) (addr : Option Word) : Core :=
  let iter := c.rep.getD 0
  let c : Core := if c.large then { c with rs := ⟨.fault, at_, c.flags, iter⟩ :: c.rs }
    else { c with evtPc := at_, evtFlags := c.flags, evtIter := w32 iter }
  { c with evtCause := faultCause code detail, evtAddr := addr.getD c.evtAddr, flags := faultFlags c.flags, pc := c.vecBase + 0x40#32, rep := none,
           stalled := false, held := false }

/-- A core at its event entry for source `n` (R271). -/
def Core.eventEntry (c : Core) (n : Nat) : Core :=
  let c : Core := if c.large then { c with rs := ⟨.event, c.pc, c.flags, c.rep.getD 0⟩ :: c.rs }
    else { c with evtPc := c.pc, evtFlags := c.flags, evtIter := 0#32 }
  { c with evtCause := w32 n, flags := bitTo c.flags fIe false, pc := c.vecBase, rep := none, stalled := false, held := false }

/-- A fault here halts the core instead (R273): a pail core within a fault, the vat core with a full return stack. -/
def Core.faultHalts (c : Core) : Bool := if c.large then Nat.ble 64 c.rs.length else c.flags.getLsbD fInf

/-- Core `k` stops for good: a halted pail core takes its tile out of service, a halted vat core puts the module in FAULT_HOLD (R273). -/
def State.coreHalt (s : State) (k : Nat) : State :=
  let c := s.core k
  let d1 := c.special k 2
  let s := s.setCore k { c with halted := true }
  if k < 8 then (s.logWrite kCoreHalt k (c.special k 14) d1 c.evtCause).tileOut k tcPailHalt 0#32
  else ((s.holdFirst noEvent).logWrite kCoreHalt noEvent (c.special k 14) d1 c.evtCause).faultHold hcVatHalt c.evtCause noEvent

/-- A core has met a poisoned hub word: it stops without an entry (R427). -/
def State.corePoison (s : State) (k : Nat) (addr : Word) : State :=
  let c := s.core k
  let d1 := c.special k 2
  let s := (s.setCore k { c with halted := true }).raiseMem 51
  let s := (if k < 8 then s else s.holdFirst 51).logWrite kCoreHalt 51 (c.special k 14) d1 c.evtCause
  if k < 8 then s.tileOut k tcPailPoison addr else s.faultHold hcVatPoison c.evtCause 51

/-- A core's fault (R271, R273). -/
def State.coreFault (s : State) (k : Nat) (at_ : Word) (code detail : Nat) (addr : Option Word) : State :=
  if (s.core k).faultHalts then s.coreHalt k else s.setCore k ((s.core k).faultEntry at_ code detail addr)

/-- A completed instruction: the next iteration of a running repeat, or the next instruction (R264). -/
def Core.retire (c : Core) : Core :=
  match c.rep with
  | some (n + 2) => { c with rep := some (n + 1), stalled := false, held := false }
  | _ => { c with pc := c.pc + 4#32, rep := none, stalled := false, held := false }

/-- What an instruction comes to, in the state. -/
def Eff.finish (k : Nat) (s : State) : Eff → State
  | .done t => t.setCore k (t.core k).retire
  | .go t dst rep held => t.setCore k { t.core k with pc := dst, rep := rep, stalled := false, held := held }
  | .rest t => t
  | .stall => s.setCore k { s.core k with stalled := true }
  | .fault at_ code detail addr => s.coreFault k at_ code detail addr
  | .poison addr => s.corePoison k addr

/-- Core `k` can issue: started, not stopped, not in WAIT, its domain on (R248, R273, R275). -/
def State.coreIssues (s : State) (k : Nat) : Bool :=
  let c := s.core k
  c.running && !c.halted && !c.waiting && s.domIsOn (s.coreDom k) && !s.domAgreed (s.coreDom k)

/-- The instruction is legal for the core (R253 to R263, R272). -/
def Core.legal (c : Core) (i : Instr) : Bool := i.encodingOk && i.onProfile (specialPresent c.large) (specialWritable c.large) c.large

/-- What the fetch and the encoding of `i` leave of it (R249, R250, R272, R427): its own effect, or a stop before it. -/
def State.fetched (s : State) (k : Nat) (i : Instr) (body : State → Eff) : Eff :=
  let c := s.core k
  if !goodTarget c.large c.pc then .fault c.pc fcFetch 0 (some c.pc)
  else if c.large && s.poisoned c.pc.toNat 4 then .poison c.pc
  else if !c.legal i then .fault c.pc fcIllegal 0 none
  else body s

/-- Core `k` reads the word at address `a` of its view and finds its line uncorrectable (R285): its tile is out of service, or the word is poisoned
(R427), or, in a hub queue's storage, the queue resets; there the spec states no value, and what follows gets a free one. -/
def State.readLost (s : State) (k a : Nat) (andThen : State → State) : State :=
  let t := s.wordReadAt (coreMem k a)
  if k < 8 && a < 0x80000 then t
  else if t.poisonAt (coreMem k a) then t.corePoison k (w32 a)
  else andThen t

/-- Core `k` issues instruction `i`, whose own effect is `body`; the fetch is a read of its word (R283). A core that cannot issue does nothing. -/
def State.issue (s : State) (k : Nat) (i : Instr) (body : State → Eff) : Out :=
  let c := s.core k
  let a := coreMem k c.pc.toNat
  if s.coreIssues k then
    if goodTarget c.large c.pc && s.wordLost a then
      .next (s.readLost k c.pc.toNat (fun t => (t.fetched k i body).finish k t))
    else
      let t := if goodTarget c.large c.pc then s.wordReadAt a else s
      .next ((t.fetched k i body).finish k t)
  else .next s

/-- A fault of the instruction now at PC. -/
def State.faultNow (s : State) (k code detail : Nat) : Eff := .fault (s.core k).pc code detail none

/-- An instruction that only changes its core. -/
def State.coreOnly (s : State) (k : Nat) (f : Core → Core) : Eff := .done (s.setCore k (f (s.core k)))

/-- An instruction that writes a result and FLAGS. -/
def State.alu (s : State) (k : Nat) (d : BitVec 4) (f : Core → Alu) : Eff := s.coreOnly k (fun c => c.result d (f c))

/-! ## Accesses (R249 to R251) -/

/-- The window an address lies in (R249): 0 own tile memory, 1 hub memory, 2 tile blocks, 3 hub blocks, 4 envelope tables, 5 line time and timed
input and output. -/
def windowOf (large : Bool) (a : Nat) : Option Nat :=
  if a < 0x80000 then (if large then none else some 0)
  else if 0x10000000 ≤ a ∧ a < 0x11000000 then some 1
  else if 0x40000000 ≤ a ∧ a < 0x40800000 then some 2
  else if 0x50000000 ≤ a ∧ a < 0x51000000 then some 3
  else if 0x60000000 ≤ a ∧ a < 0x60080000 then some 4
  else if 0x70000000 ≤ a ∧ a < 0x70010000 then some 5
  else none

/-- The fault of an access of `n` bytes at `a`, if any (R250). -/
def accessFault (large : Bool) (a n : Nat) : Option Nat :=
  match windowOf large a with
  | none => some fcWindow
  | some w => if a % n ≠ 0 then some fcAlign else if 2 ≤ w ∧ n ≠ 4 then some fcWidth else none

/-- What a load of `n` bytes at `a` meets. -/
inductive Loaded where
  | value (n : Nat)
  | stall
  | fault (code : Nat)
  | poison
  deriving DecidableEq, Repr

/-- A posted store to the same window stands before the load (R251). -/
def Core.behindPosted (c : Core) (a : Nat) : Bool := c.posted.any (fun p => windowOf c.large p.addr == windowOf c.large a)

/-- Core `k` loads `n` bytes at `a` (R249 to R251, R427). -/
def State.coreLoad (s : State) (k a n : Nat) : Loaded :=
  let c := s.core k
  match accessFault c.large a n with
  | some e => .fault e
  | none =>
    if c.behindPosted a then .stall
    else if memAddr k a then (if s.poisoned (coreMem k a) n then .poison else .value (s.loadLe (coreMem k a) n))
    else .value (s.busRead a).toNat

/-- The data of a posted or immediate store written: memory bytes, or a register or envelope word (R250, R251). A byte or halfword store reads its word
first (R283). -/
def State.storeNow (s : State) (k : Nat) (p : Posted) : State :=
  if memAddr k p.addr then
    (if p.width < 4 then s.wordReadAt (coreMem k p.addr) else s).coreStore k p.addr (leBytes p.width p.data.toNat) else s.busWrite k p.addr p.data

/-- What a store of `n` bytes at `a` comes to before the pointer moves: a state, or a stop. Stores to the core's own fetch memory are written
at once, others are posted, at most 4 at a time (R251). -/
def State.coreStores (s : State) (k a n : Nat) (v : Word) (andThen : State → Eff) : Eff :=
  let c := s.core k
  match accessFault c.large a n with
  | some e => .fault c.pc e 0 (some (w32 a))
  | none =>
    let p : Posted := ⟨a, n, v⟩
    if windowOf c.large a = some (if c.large then 1 else 0) then andThen (s.storeNow k p)
    else if c.posted.length < 4 then andThen (s.setCore k { c with posted := c.posted ++ [p] })
    else .stall

/-- A load of `n` bytes at `a` whose value goes on to `f`: a word of memory is read as R283 states; of an uncorrectable one the spec states no value
where the core goes on, and it is free. -/
def State.coreLoads (s : State) (k a n : Nat) (f : State → Nat → Eff) : Eff :=
  match s.coreLoad k a n with
  | .value v =>
    if memAddr k a then
      if s.wordLost (coreMem k a) then
        .rest (s.readLost k a (fun t => (f t.freeNext (t.free.toNat % 256 ^ n)).finish k t))
      else f (s.wordReadAt (coreMem k a)) v
    else f s v
  | .stall => .stall
  | .fault e => .fault (s.core k).pc e 0 (some (w32 a))
  | .poison => .poison (w32 a)

/-- A jump to a target that R262 checks before anything changes. -/
def State.jump (s : State) (k : Nat) (dst : Word) (f : Core → Core) : Eff :=
  let c := s.core k
  if goodTarget c.large dst then .go (s.setCore k (f c)) dst none false else .fault c.pc fcFetch 0 (some dst)

end Sys2Proof.Machine
end

