-- ==== Sys2Proof/Machine/FilsyCtl.lean ====
section
/-! DEFINITION. Filsy control and system instructions, repeats, event entry and WAIT (R262 to R271, R275). -/

namespace Sys2Proof.Machine

/-! ## Branches, calls and returns (R262, R271) -/

/-- The return address saved by a call: G14, or an entry of the return stack (R243, R262). -/
def Core.saveReturn (c : Core) : Core :=
  if c.large then { c with rs := ⟨.call, c.pc + 4#32, c.flags, 0⟩ :: c.rs } else c.setReg gLink (c.pc + 4#32)

/-- A call to `to` (R262, R271): the vat core needs RS_DEPTH below 60. -/
def State.callTo (s : State) (k : Nat) (dst : Word) : Eff :=
  let c := s.core k
  if c.large && goodTarget true dst && Nat.ble 60 c.rs.length then s.faultNow k fcStackRs 1 else s.jump k dst Core.saveReturn

/-- B (R255, R262). -/
def execB (c : Fin 9) (cond : BitVec 4) (off : BitVec 22) (s : State) : Out :=
  s.issue c (.b c cond off) fun s =>
    let x := s.core c
    if condHolds cond.toNat x.flags then s.jump c (x.branchTo off) id else .done s

/-- CALL (R262). -/
def execCall (c : Fin 9) (cond : BitVec 4) (off : BitVec 22) (s : State) : Out :=
  s.issue c (.call c cond off) fun s => s.callTo c ((s.core c).branchTo off)

/-- JR (R262). -/
def execJr (c : Fin 9) (d a b : BitVec 4) (k : BitVec 8) (s : State) : Out :=
  s.issue c (.jr c d a b k) fun s => s.jump c ((s.core c).reg a) id

/-- CALLR (R262): A is read before G14 is written. -/
def execCallr (c : Fin 9) (d a b : BitVec 4) (k : BitVec 8) (s : State) : Out :=
  s.issue c (.callr c d a b k) fun s => s.callTo c ((s.core c).reg a)

/-- RET (R262, R271). -/
def execRet (c : Fin 9) (d a b : BitVec 4) (k : BitVec 8) (s : State) : Out :=
  s.issue c (.ret c d a b k) fun s =>
    let x := s.core c
    if x.large then
      match x.rs with
      | [] => s.faultNow c fcStackRs 2
      | e :: _ => if e.kind = .call then s.jump c e.addr (fun c => { c with rs := c.rs.tail }) else s.faultNow c fcStackRs 3
    else s.jump c (x.reg gLink) id

/-! ## Repeat prefixes (R264 to R267) -/

/-- The instruction at `a`, if a prefix may stand before it and it is legal (R265). -/
def State.repeatable (s : State) (k : Fin 9) (a : Word) : Bool :=
  let w := w32 (s.loadLe (coreMem k a.toNat) 4)
  match decodeFilsy k w with
  | some i => repeatableWord w && (s.core k).legal i
  | none => false

/-- A prefix with count `n` (R264, R265, R267): the repeated instruction is fetched and its encoding checked first. -/
def State.prefixed (s : State) (k : Fin 9) (n : Nat) : Eff :=
  let c := s.core k
  let next := c.pc + 4#32
  if !goodTarget c.large next then .fault next fcFetch 0 (some next)
  else if c.large && s.poisoned next.toNat 4 then .poison next
  else if !s.repeatable k next then s.faultNow k fcIllegal 0
  else if !c.large && Nat.blt 256 n then s.faultNow k fcRptLimit 0
  else if n = 0 then .go s (c.pc + 8#32) none false
  else .go s next (some n) false

/-- RPTI (R264). -/
def execRpti (c : Fin 9) (d : BitVec 4) (imm : BitVec 22) (s : State) : Out :=
  s.issue c (.rpti c d imm) fun s => s.prefixed c imm.toNat

/-- RPTR (R264). -/
def execRptr (c : Fin 9) (rest : BitVec 26) (s : State) : Out :=
  s.issue c (.rptr c rest) fun s => s.prefixed c (s.core c).rc.toNat

/-! ## System group (R263) -/

/-- NOP (R263). -/
def execNop (c : Fin 9) (d a b : BitVec 4) (k : BitVec 8) (s : State) : Out :=
  s.issue c (.nop c d a b k) fun s => .done s

/-- MFS (R247, R263). -/
def execMfs (c : Fin 9) (d a b : BitVec 4) (k : BitVec 8) (s : State) : Out :=
  s.issue c (.mfs c d a b k) fun s => s.coreOnly c fun x => x.setReg d (x.special c k.toNat)

/-- MTS (R247, R263). -/
def execMts (c : Fin 9) (d a b : BitVec 4) (k : BitVec 8) (s : State) : Out :=
  s.issue c (.mts c d a b k) fun s => s.coreOnly c fun x => x.setSpecial k.toNat (x.reg a)

/-- FLAGS restored by ERET: every bit it has but PROF (R245, R271). -/
def restoreFlags (now saved : Word) : Word := (saved &&& 0x3030F#32) ||| (now &&& 0x40000#32)

/-- The repeat that ERET resumes (R271). -/
def resume (n : Nat) : Option Nat := if n = 0 then none else some n

/-- ERET (R270, R271). -/
def execEret (c : Fin 9) (d a b : BitVec 4) (k : BitVec 8) (s : State) : Out :=
  s.issue c (.eret c d a b k) fun s =>
    let x := s.core c
    if x.large then
      match x.rs with
      | [] => s.faultNow c fcStackRs 2
      | e :: t =>
        if e.kind = .call then s.faultNow c fcStackRs 3
        else .go (s.setCore c { x with rs := t, flags := restoreFlags x.flags e.flags }) e.addr (resume e.iter) true
    else .go (s.setCore c { x with flags := restoreFlags x.flags x.evtFlags }) x.evtPc (resume x.evtIter.toNat) true

/-- WAIT (R275): completes at once where an enabled source is pending. -/
def execWait (c : Fin 9) (d a b : BitVec 4) (k : BitVec 8) (s : State) : Out :=
  s.issue c (.wait c d a b k) fun s =>
    let x := s.core c
    if x.ready then .done s else .rest (s.setCore c { x with waiting := true, stalled := false })

/-- BRK (R263, R272). -/
def execBrk (c : Fin 9) (d a b : BitVec 4) (k : BitVec 8) (s : State) : Out :=
  s.issue c (.brk c d a b k) fun s => s.faultNow c fcBreak k.toNat

/-- EI (R263). -/
def execEi (c : Fin 9) (d a b : BitVec 4) (k : BitVec 8) (s : State) : Out :=
  s.issue c (.ei c d a b k) fun s => s.coreOnly c fun x => { x with flags := bitTo x.flags fIe true }

/-- DI (R263). -/
def execDi (c : Fin 9) (d a b : BitVec 4) (k : BitVec 8) (s : State) : Out :=
  s.issue c (.di c d a b k) fun s => s.coreOnly c fun x => { x with flags := bitTo x.flags fIe false }

/-- FENCE (R251, R263). -/
def execFence (c : Fin 9) (d a b : BitVec 4) (k : BitVec 8) (s : State) : Out :=
  s.issue c (.fence c d a b k) fun s => if (s.core c).posted.isEmpty then .done s else .stall

/-! ## Events (R270, R271, R275) -/

/-- Source `n` is pending and enabled (R270). -/
def Core.sourceReady (c : Core) (n : Nat) : Bool :=
  if n < 32 then (c.pend0 &&& c.en0).getLsbD n else if n < 64 then (c.pend1 &&& c.en1).getLsbD (n - 32) else (c.pend2 &&& c.en2).getLsbD (n - 64)

/-- The lowest-numbered source that is pending and enabled (R270). -/
def Core.lowestSource (c : Core) : Option Nat := (List.range 65).find? c.sourceReady

/-- The boundary and the conditions of R267 and R270 allow an event. -/
def Core.takesEvents (c : Core) : Bool :=
  c.flags.getLsbD fIe && !c.held && !c.stalled && (if c.large then Nat.ble c.rs.length 61 else c.rep.isNone)

/-- A core takes the lowest pending and enabled source where R270 allows. -/
def Core.takeEvent (c : Core) : Core :=
  match c.lowestSource with
  | some n => if c.takesEvents then c.eventEntry n else c
  | none => c

/-- EVENT_ENTRY (R270, R271). -/
def execEventEntry (c : Fin 9) (s : State) : Out :=
  if s.coreIssues c then .next (s.setCore c (s.core c).takeEvent) else .next s

/-- A core that leaves WAIT: the WAIT has completed (R275). -/
def Core.waitOver (c : Core) : Core := { c with waiting := false, pc := c.pc + 4#32, held := false }

/-- WAIT_END (R275): a core in WAIT whose enabled source is pending goes on after the WAIT, or takes the event there. -/
def execWaitEnd (c : Fin 9) (s : State) : Out :=
  let x := s.core c
  if x.running && !x.halted && x.waiting && x.ready && s.domIsOn (s.coreDom c) && !s.domAgreed (s.coreDom c) then
    .next (s.setCore c x.waitOver.takeEvent)
  else .next s

end Sys2Proof.Machine
end

