-- ==== Sys2Proof/Machine/FilsyInt.lean ====
section
/-! DEFINITION. The Filsy integer, immediate and shift groups (R256 to R258, R260). -/

namespace Sys2Proof.Machine

/-- The lesser or greater of two words by an order (R256). -/
def pickWord (first : Bool) (a b : Word) : Word := if first then a else b

/-- A shift's amount (R258): K, or bits [7:0] of B. -/
def Core.shiftBy (c : Core) (b : BitVec 4) (k : BitVec 8) (byK : Bool) : Nat := if byK then k.toNat else (c.reg b).toNat % 256

/-- ADD (R256). -/
def execAdd (c : Fin 9) (d a b : BitVec 4) (k : BitVec 8) (s : State) : Out :=
  s.issue c (.add c d a b k) fun s => s.alu c d fun c => aluAdd (c.reg a) (c.reg b) false c.flags

/-- ADC (R256). -/
def execAdc (c : Fin 9) (d a b : BitVec 4) (k : BitVec 8) (s : State) : Out :=
  s.issue c (.adc c d a b k) fun s => s.alu c d fun c => aluAdd (c.reg a) (c.reg b) (c.flags.getLsbD fC) c.flags

/-- SUB (R256). -/
def execSub (c : Fin 9) (d a b : BitVec 4) (k : BitVec 8) (s : State) : Out :=
  s.issue c (.sub c d a b k) fun s => s.alu c d fun c => aluSub (c.reg a) (c.reg b) false c.flags

/-- SBC (R256). -/
def execSbc (c : Fin 9) (d a b : BitVec 4) (k : BitVec 8) (s : State) : Out :=
  s.issue c (.sbc c d a b k) fun s => s.alu c d fun c => aluSub (c.reg a) (c.reg b) (!c.flags.getLsbD fC) c.flags

/-- ADDS (R256). -/
def execAdds (c : Fin 9) (d a b : BitVec 4) (k : BitVec 8) (s : State) : Out :=
  s.issue c (.adds c d a b k) fun s => s.alu c d fun c => aluSat ((c.reg a).toInt + (c.reg b).toInt) c.flags

/-- SUBS (R256). -/
def execSubs (c : Fin 9) (d a b : BitVec 4) (k : BitVec 8) (s : State) : Out :=
  s.issue c (.subs c d a b k) fun s => s.alu c d fun c => aluSat ((c.reg a).toInt - (c.reg b).toInt) c.flags

/-- NEG (R256, R260). -/
def execNeg (c : Fin 9) (d a b : BitVec 4) (k : BitVec 8) (s : State) : Out :=
  s.issue c (.neg c d a b k) fun s => s.alu c d fun c => aluSub 0#32 (c.reg a) false c.flags

/-- NEGS (R256, R260). -/
def execNegs (c : Fin 9) (d a b : BitVec 4) (k : BitVec 8) (s : State) : Out :=
  s.issue c (.negs c d a b k) fun s => s.alu c d fun c => aluSat (-(c.reg a).toInt) c.flags

/-- AND (R256). -/
def execAndI (c : Fin 9) (d a b : BitVec 4) (k : BitVec 8) (s : State) : Out :=
  s.issue c (.andI c d a b k) fun s => s.alu c d fun c => aluNZ (c.reg a &&& c.reg b) c.flags

/-- OR (R256). -/
def execOrI (c : Fin 9) (d a b : BitVec 4) (k : BitVec 8) (s : State) : Out :=
  s.issue c (.orI c d a b k) fun s => s.alu c d fun c => aluNZ (c.reg a ||| c.reg b) c.flags

/-- XOR (R256). -/
def execXor (c : Fin 9) (d a b : BitVec 4) (k : BitVec 8) (s : State) : Out :=
  s.issue c (.xor c d a b k) fun s => s.alu c d fun c => aluNZ (c.reg a ^^^ c.reg b) c.flags

/-- ANDN (R256). -/
def execAndn (c : Fin 9) (d a b : BitVec 4) (k : BitVec 8) (s : State) : Out :=
  s.issue c (.andn c d a b k) fun s => s.alu c d fun c => aluNZ (c.reg a &&& ~~~(c.reg b)) c.flags

/-- MIN (R256). -/
def execMinI (c : Fin 9) (d a b : BitVec 4) (k : BitVec 8) (s : State) : Out :=
  s.issue c (.minI c d a b k) fun s => s.alu c d fun c => aluNZ (pickWord ((c.reg a).slt (c.reg b)) (c.reg a) (c.reg b)) c.flags

/-- MAX (R256). -/
def execMaxI (c : Fin 9) (d a b : BitVec 4) (k : BitVec 8) (s : State) : Out :=
  s.issue c (.maxI c d a b k) fun s => s.alu c d fun c => aluNZ (pickWord ((c.reg b).slt (c.reg a)) (c.reg a) (c.reg b)) c.flags

/-- MINU (R256). -/
def execMinu (c : Fin 9) (d a b : BitVec 4) (k : BitVec 8) (s : State) : Out :=
  s.issue c (.minu c d a b k) fun s => s.alu c d fun c => aluNZ (pickWord ((c.reg a).ult (c.reg b)) (c.reg a) (c.reg b)) c.flags

/-- MAXU (R256). -/
def execMaxu (c : Fin 9) (d a b : BitVec 4) (k : BitVec 8) (s : State) : Out :=
  s.issue c (.maxu c d a b k) fun s => s.alu c d fun c => aluNZ (pickWord ((c.reg b).ult (c.reg a)) (c.reg a) (c.reg b)) c.flags

/-- ABS (R256, R260). -/
def execAbs (c : Fin 9) (d a b : BitVec 4) (k : BitVec 8) (s : State) : Out :=
  s.issue c (.abs c d a b k) fun s => s.alu c d fun c => aluAbs (c.reg a) c.flags

/-- ABSS (R256, R260). -/
def execAbss (c : Fin 9) (d a b : BitVec 4) (k : BitVec 8) (s : State) : Out :=
  s.issue c (.abss c d a b k) fun s => s.alu c d fun c => aluSat ((c.reg a).toInt.natAbs : Int) c.flags

/-- SEXTB (R256). -/
def execSextb (c : Fin 9) (d a b : BitVec 4) (k : BitVec 8) (s : State) : Out :=
  s.issue c (.sextb c d a b k) fun s => s.alu c d fun c => aluNZ (((c.reg a).setWidth 8).signExtend 32) c.flags

/-- SEXTH (R256). -/
def execSexth (c : Fin 9) (d a b : BitVec 4) (k : BitVec 8) (s : State) : Out :=
  s.issue c (.sexth c d a b k) fun s => s.alu c d fun c => aluNZ (((c.reg a).setWidth 16).signExtend 32) c.flags

/-- CLZ (R256, R260). -/
def execClz (c : Fin 9) (d a b : BitVec 4) (k : BitVec 8) (s : State) : Out :=
  s.issue c (.clz c d a b k) fun s => s.alu c d fun c => aluClz (c.reg a) c.flags

/-- POPC (R256). -/
def execPopc (c : Fin 9) (d a b : BitVec 4) (k : BitVec 8) (s : State) : Out :=
  s.issue c (.popc c d a b k) fun s => s.alu c d fun c => aluPopc (c.reg a) c.flags

/-- SEL (R255, R256): no flag changes. -/
def execSel (c : Fin 9) (d a b : BitVec 4) (k : BitVec 8) (s : State) : Out :=
  s.issue c (.sel c d a b k) fun s => s.alu c d fun c => ⟨if condHolds k.toNat c.flags then c.reg a else c.reg b, c.flags⟩

/-- ADDI (R257). -/
def execAddi (c : Fin 9) (d a : BitVec 4) (imm : BitVec 18) (s : State) : Out :=
  s.issue c (.addi c d a imm) fun s => s.alu c d fun c => aluAdd (c.reg a) (immS imm) false c.flags

/-- SUBI (R257). -/
def execSubi (c : Fin 9) (d a : BitVec 4) (imm : BitVec 18) (s : State) : Out :=
  s.issue c (.subi c d a imm) fun s => s.alu c d fun c => aluSub (c.reg a) (immS imm) false c.flags

/-- ANDI (R257). -/
def execAndi (c : Fin 9) (d a : BitVec 4) (imm : BitVec 18) (s : State) : Out :=
  s.issue c (.andi c d a imm) fun s => s.alu c d fun c => aluNZ (c.reg a &&& immZ imm) c.flags

/-- ORI (R257). -/
def execOri (c : Fin 9) (d a : BitVec 4) (imm : BitVec 18) (s : State) : Out :=
  s.issue c (.ori c d a imm) fun s => s.alu c d fun c => aluNZ (c.reg a ||| immZ imm) c.flags

/-- XORI (R257). -/
def execXori (c : Fin 9) (d a : BitVec 4) (imm : BitVec 18) (s : State) : Out :=
  s.issue c (.xori c d a imm) fun s => s.alu c d fun c => aluNZ (c.reg a ^^^ immZ imm) c.flags

/-- LUI (R257): no flag changes. -/
def execLui (c : Fin 9) (d : BitVec 4) (imm : BitVec 22) (s : State) : Out :=
  s.issue c (.lui c d imm) fun s => s.coreOnly c fun c => c.setReg d (w32 (imm.toNat * 1024))

/-- SHL (R258). -/
def execShl (c : Fin 9) (d a b : BitVec 4) (k : BitVec 8) (byK : Bool) (s : State) : Out :=
  s.issue c (.shl c d a b k byK) fun s => s.alu c d fun c => aluShl (c.reg a) (c.shiftBy b k byK) c.flags

/-- SHR (R258). -/
def execShr (c : Fin 9) (d a b : BitVec 4) (k : BitVec 8) (byK : Bool) (s : State) : Out :=
  s.issue c (.shr c d a b k byK) fun s => s.alu c d fun c => aluShr (c.reg a) (c.shiftBy b k byK) c.flags

/-- SAR (R258). -/
def execSar (c : Fin 9) (d a b : BitVec 4) (k : BitVec 8) (byK : Bool) (s : State) : Out :=
  s.issue c (.sar c d a b k byK) fun s => s.alu c d fun c => aluSar (c.reg a) (c.shiftBy b k byK) c.flags

/-- ROR (R258). -/
def execRor (c : Fin 9) (d a b : BitVec 4) (k : BitVec 8) (byK : Bool) (s : State) : Out :=
  s.issue c (.ror c d a b k byK) fun s => s.alu c d fun c => aluRor (c.reg a) (c.shiftBy b k byK) c.flags

/-- ROL (R258). -/
def execRol (c : Fin 9) (d a b : BitVec 4) (k : BitVec 8) (byK : Bool) (s : State) : Out :=
  s.issue c (.rol c d a b k byK) fun s => s.alu c d fun c => aluRol (c.reg a) (c.shiftBy b k byK) c.flags

/-- SHLS (R258). -/
def execShls (c : Fin 9) (d a b : BitVec 4) (k : BitVec 8) (byK : Bool) (s : State) : Out :=
  s.issue c (.shls c d a b k byK) fun s => s.alu c d fun c => aluShls (c.reg a) (c.shiftBy b k byK) c.flags

end Sys2Proof.Machine
end

