-- ==== Sys2Proof/Machine/FilsyMem.lean ====
section
/-! DEFINITION. Filsy loads, stores, PUSH and POP (R249 to R251, R261), and the completion of a posted store. -/

namespace Sys2Proof.Machine

/-- The least significant `n` bytes of a number sign-extended to a word (R261). -/
def signLoad (n v : Nat) : Word := if n = 1 then (BitVec.ofNat 8 v).signExtend 32 else if n = 2 then (BitVec.ofNat 16 v).signExtend 32 else w32 v

/-- A load of `n` bytes at A + IMM18 into D (R261). -/
def State.loadInto (s : State) (k : Nat) (d a : BitVec 4) (imm : BitVec 18) (n : Nat) (ext : Nat → Word) : Eff :=
  s.coreLoads k ((s.core k).ea a imm).toNat n fun s v => s.coreOnly k fun c => c.setReg d (ext v)

/-- A store of the low `n` bytes of D at A + IMM18 (R261). -/
def State.storeFrom (s : State) (k : Nat) (d a : BitVec 4) (imm : BitVec 18) (n : Nat) : Eff :=
  s.coreStores k ((s.core k).ea a imm).toNat n ((s.core k).reg d) fun s => .done s

/-- A post-increment load (R261): the address in A, then IMM18 added to A. -/
def State.loadPost (s : State) (k : Nat) (d a : BitVec 4) (imm : BitVec 18) (n : Nat) : Eff :=
  s.coreLoads k ((s.core k).reg a).toNat n fun s v => s.coreOnly k fun c => (c.setReg d (signLoad n v)).setReg a (c.reg a + immS imm)

/-- A post-increment store (R261). -/
def State.storePost (s : State) (k : Nat) (d a : BitVec 4) (imm : BitVec 18) (n : Nat) : Eff :=
  s.coreStores k ((s.core k).reg a).toNat n ((s.core k).reg d) fun s => s.coreOnly k fun c => c.setReg a (c.reg a + immS imm)

/-- LDW (R261). -/
def execLdw (c : Fin 9) (d a : BitVec 4) (imm : BitVec 18) (s : State) : Out :=
  s.issue c (.ldw c d a imm) fun s => s.loadInto c d a imm 4 w32

/-- LDH (R261). -/
def execLdh (c : Fin 9) (d a : BitVec 4) (imm : BitVec 18) (s : State) : Out :=
  s.issue c (.ldh c d a imm) fun s => s.loadInto c d a imm 2 (signLoad 2)

/-- LDHU (R261). -/
def execLdhu (c : Fin 9) (d a : BitVec 4) (imm : BitVec 18) (s : State) : Out :=
  s.issue c (.ldhu c d a imm) fun s => s.loadInto c d a imm 2 w32

/-- LDB (R261). -/
def execLdb (c : Fin 9) (d a : BitVec 4) (imm : BitVec 18) (s : State) : Out :=
  s.issue c (.ldb c d a imm) fun s => s.loadInto c d a imm 1 (signLoad 1)

/-- LDBU (R261). -/
def execLdbu (c : Fin 9) (d a : BitVec 4) (imm : BitVec 18) (s : State) : Out :=
  s.issue c (.ldbu c d a imm) fun s => s.loadInto c d a imm 1 w32

/-- STW (R261). -/
def execStw (c : Fin 9) (d a : BitVec 4) (imm : BitVec 18) (s : State) : Out :=
  s.issue c (.stw c d a imm) fun s => s.storeFrom c d a imm 4

/-- STH (R261). -/
def execSth (c : Fin 9) (d a : BitVec 4) (imm : BitVec 18) (s : State) : Out :=
  s.issue c (.sth c d a imm) fun s => s.storeFrom c d a imm 2

/-- STB (R261). -/
def execStb (c : Fin 9) (d a : BitVec 4) (imm : BitVec 18) (s : State) : Out :=
  s.issue c (.stb c d a imm) fun s => s.storeFrom c d a imm 1

/-- LDWP (R261). -/
def execLdwp (c : Fin 9) (d a : BitVec 4) (imm : BitVec 18) (s : State) : Out :=
  s.issue c (.ldwp c d a imm) fun s => s.loadPost c d a imm 4

/-- STWP (R261). -/
def execStwp (c : Fin 9) (d a : BitVec 4) (imm : BitVec 18) (s : State) : Out :=
  s.issue c (.stwp c d a imm) fun s => s.storePost c d a imm 4

/-- LDHP (R261). -/
def execLdhp (c : Fin 9) (d a : BitVec 4) (imm : BitVec 18) (s : State) : Out :=
  s.issue c (.ldhp c d a imm) fun s => s.loadPost c d a imm 2

/-- STHP (R261). -/
def execSthp (c : Fin 9) (d a : BitVec 4) (imm : BitVec 18) (s : State) : Out :=
  s.issue c (.sthp c d a imm) fun s => s.storePost c d a imm 2

/-- PUSH (R261, R272): G13 − 4 below DSP_LO faults STACK_DS before the access; the stored register is read after G13 has moved. -/
def execPush (c : Fin 9) (d a b : BitVec 4) (k : BitVec 8) (s : State) : Out :=
  s.issue c (.push c d a b k) fun s =>
    let x := s.core c
    let sp := x.reg gSp
    let y := x.setReg gSp (sp - 4#32)
    if sp.toNat < x.dspLo.toNat + 4 then s.faultNow c fcStackDs 0
    else s.coreStores c (sp - 4#32).toNat 4 (y.reg a) fun s => s.coreOnly c fun x => x.setReg gSp (sp - 4#32)

/-- POP (R261, R272): G13 + 4 above DSP_HI faults STACK_DS before the access. -/
def execPop (c : Fin 9) (d a b : BitVec 4) (k : BitVec 8) (s : State) : Out :=
  s.issue c (.pop c d a b k) fun s =>
    let x := s.core c
    let sp := x.reg gSp
    if x.dspHi.toNat < sp.toNat + 4 then s.faultNow c fcStackDs 0
    else s.coreLoads c sp.toNat 4 fun s v => s.coreOnly c fun x => (x.setReg d (w32 v)).setReg gSp (sp + 4#32)

/-- POSTED_STORE_DONE (R251): the `i`-th posted store completes if none before it is for the same window; what waited for it is issued again. -/
def execPostedStoreDone (c : Fin 9) (i : Fin 4) (s : State) : Out :=
  let x := s.core c
  match x.posted[i.val]? with
  | none => .next s
  | some p =>
    if (x.posted.take i).any (fun q => windowOf x.large q.addr == windowOf x.large p.addr) then .next s
    else .next ((s.setCore c { x with posted := x.posted.eraseIdx i, stalled := false }).storeNow c p)

end Sys2Proof.Machine
end

