-- ==== Sys2Proof/Machine/FilsyMul.lean ====
section
/-! DEFINITION. The Filsy multiply, divide and fixed-point group (R259, R260). -/

namespace Sys2Proof.Machine

/-- The high 32 bits of an exact product (R259). -/
def highWord (p : Int) : Word := BitVec.ofInt 32 (p / 0x100000000)

/-- The exact signed product of two words. -/
def prodS (a b : Word) : Int := a.toInt * b.toInt

/-- The core's own DIV0 source is raised (R260): source 0 on a pail core, source 64 on the vat core. -/
def Core.raiseDiv0 (c : Core) : Core := c.pend (if c.large then 64 else 0)

/-- A division by register `b` (R259, R260): result and flags, and DIV0 where the divisor is 0. -/
def State.divide (s : State) (k : Nat) (d a b : BitVec 4) (f : Word → Word → Word → Alu) : Eff :=
  s.coreOnly k fun c =>
    let r := c.result d (f (c.reg a) (c.reg b) c.flags)
    if c.reg b = 0#32 then r.raiseDiv0 else r

/-- MUL (R259). -/
def execMul (c : Fin 9) (d a b : BitVec 4) (k : BitVec 8) (s : State) : Out :=
  s.issue c (.mul c d a b k) fun s => s.alu c d fun c => aluNZ (c.reg a * c.reg b) c.flags

/-- MULH (R259). -/
def execMulh (c : Fin 9) (d a b : BitVec 4) (k : BitVec 8) (s : State) : Out :=
  s.issue c (.mulh c d a b k) fun s => s.alu c d fun c => aluNZ (highWord (prodS (c.reg a) (c.reg b))) c.flags

/-- MULHU (R259). -/
def execMulhu (c : Fin 9) (d a b : BitVec 4) (k : BitVec 8) (s : State) : Out :=
  s.issue c (.mulhu c d a b k) fun s => s.alu c d fun c => aluNZ (highWord (((c.reg a).toNat * (c.reg b).toNat : Nat))) c.flags

/-- MAC (R259). -/
def execMac (c : Fin 9) (d a b : BitVec 4) (k : BitVec 8) (s : State) : Out :=
  s.issue c (.mac c d a b k) fun s => s.alu c d fun c => aluNZ (c.reg d + c.reg a * c.reg b) c.flags

/-- MACS (R259). -/
def execMacs (c : Fin 9) (d a b : BitVec 4) (k : BitVec 8) (s : State) : Out :=
  s.issue c (.macs c d a b k) fun s => s.alu c d fun c => aluSat ((c.reg d).toInt + prodS (c.reg a) (c.reg b)) c.flags

/-- MULQ (R259, R260). -/
def execMulq (c : Fin 9) (d a b : BitVec 4) (k : BitVec 8) (s : State) : Out :=
  s.issue c (.mulq c d a b k) fun s => s.alu c d fun c => aluSat (roundShift (prodS (c.reg a) (c.reg b)) k.toNat) c.flags

/-- MACQ (R259, R260). -/
def execMacq (c : Fin 9) (d a b : BitVec 4) (k : BitVec 8) (s : State) : Out :=
  s.issue c (.macq c d a b k) fun s => s.alu c d fun c => aluSat ((c.reg d).toInt + roundShift (prodS (c.reg a) (c.reg b)) k.toNat) c.flags

/-- A core after DOTQ (R259): the sum clamped into D, then A and B moved on by 4. -/
def Core.dotq (c : Core) (d a b : BitVec 4) (k : Nat) (x y : Word) : Core :=
  let r := c.result d (aluSat ((c.reg d).toInt + roundShift (prodS x y) k) c.flags)
  (r.setReg a (c.reg a + 4#32)).setReg b (c.reg b + 4#32)

/-- DOTQ (R259, R273): both addresses are checked before either load. -/
def execDotq (c : Fin 9) (d a b : BitVec 4) (k : BitVec 8) (s : State) : Out :=
  s.issue c (.dotq c d a b k) fun s =>
    let x := s.core c
    match accessFault x.large (x.reg a).toNat 4, accessFault x.large (x.reg b).toNat 4 with
    | some e, _ => .fault x.pc e 0 (some (x.reg a))
    | none, some e => .fault x.pc e 0 (some (x.reg b))
    | none, none =>
      s.coreLoads c (x.reg a).toNat 4 fun s u => s.coreLoads c (x.reg b).toNat 4 fun s v =>
        s.coreOnly c fun x => x.dotq d a b k.toNat (w32 u) (w32 v)

/-- DIV (R259, R260). -/
def execDivI (c : Fin 9) (d a b : BitVec 4) (k : BitVec 8) (s : State) : Out :=
  s.issue c (.divI c d a b k) fun s => s.divide c d a b aluDivS

/-- DIVU (R259, R260). -/
def execDivu (c : Fin 9) (d a b : BitVec 4) (k : BitVec 8) (s : State) : Out :=
  s.issue c (.divu c d a b k) fun s => s.divide c d a b aluDivU

/-- REM (R259, R260). -/
def execRem (c : Fin 9) (d a b : BitVec 4) (k : BitVec 8) (s : State) : Out :=
  s.issue c (.rem c d a b k) fun s => s.divide c d a b aluRemS

/-- REMU (R259, R260). -/
def execRemu (c : Fin 9) (d a b : BitVec 4) (k : BitVec 8) (s : State) : Out :=
  s.issue c (.remu c d a b k) fun s => s.divide c d a b aluRemU

end Sys2Proof.Machine
end

