-- ==== Sys2Proof/Machine/MemCmds.lean ====
section
/-! DEFINITION. Meanings of the memory commands (chapter 10). -/

namespace Sys2Proof.Machine

/-- SCRUB_LINE (R284): the scrubber of memory `m` reads its next line, with what it finds there; it runs while the memory's domain is on and
the memory has been written (R379). `upset.others` have come to other lines of the memory: the next read of those words finds them (R283). -/
def execScrubLine (m : Fin 19) (upset : ScrubFind) (s : State) : Out :=
  if memOn s m && decide (9 ≤ s.boot.stage) then
    let i := (s.scrub m).next
    let s := s.put (F.MEMM_STAT_SCRUBBING m) 1
    .next (upset.others.foldl (fun s u => s.lineUpset m u.line u.upset) ((s.lineRead m i upset.here).scrubNext m))
  else .next s

end Sys2Proof.Machine
end

