-- ==== Sys2Proof/Machine/PowerCmds.lean ====
section
/-! DEFINITION. Meanings of the power commands: requests, sleep and wake, the supply link, the throttle (R136, R137, R374 to R378, R382 to R394). -/

namespace Sys2Proof.Machine

/-! ## Requests and the staged entry -/

/-- PWR_GO (R382). -/
def execPwrGo (w : Fin 9) (s : State) : Out := .next (s.cmdGo w)

/-- DOMAIN_RAISED (R375, R383, R386, R390): the first domain still to raise reaches its state, once its rails are on; a domain that a wake raises waits for no
parent that stays down. -/
def execDomainRaised (n : Fin 20) (s : State) : Out :=
  match s.pwr.raising with
  | (m, dst) :: rest =>
    if m = n.val then
      if s.dom m = domOff && !(s.railsMiss m).isEmpty then .next (s.railsAsk m)
      else
        let s := if decide (dst ≤ s.dom (domParent m)) then s.domRaise m dst else s
        let s := s.setPwr { s.pwr with raising := rest }
        .next (if rest.isEmpty then s.pwrNext else s)
    else .next s
  | [] => .next s

/-- DOMAIN_AGREE (R384, R385): an AON tick at which the asked domain's conditions are looked at. -/
def execDomainAgree (s : State) : Out :=
  match s.pwr.asks with
  | (n, _) :: _ =>
    if s.pwr.raising.isEmpty && s.pwr.agreedAt.isNone && decide (s.pwr.askedAt + 32000 ≤ s.lt) then
      match s.domAnswer n with
      | .agree =>
        let s := if n = domHub && s.dom n == domOn then s.hubAgreed else s
        .next (s.setPwr { s.pwr with agreedAt := some s.lt })
      | .wait _ => .next s
      | .refuse r p => .next (s.pwrRefuse r p)
    else .next s
  | [] => .next s

/-- DOMAIN_STOP (R384): 3 AON ticks after agreement. -/
def execDomainStop (s : State) : Out :=
  match s.pwr.agreedAt with
  | some a => if a + 96000 ≤ s.lt then .next s.pwrStop else .next s
  | none => .next s

/-- AGREE_TIMEOUT (R385). -/
def execAgreeTimeout (s : State) : Out :=
  match s.pwr.asks with
  | (n, _) :: _ =>
    if s.pwr.raising.isEmpty && s.pwr.agreedAt.isNone && decide (s.pwr.askedAt + s.get F.PWR_CFG_AGREE_MS * 1000000 ≤ s.lt) then
      match s.domAnswer n with
      | .wait p => .next (s.pwrRefuse rfNotDrained p)
      | _ => .next s
    else .next s
  | [] => .next s

/-! ## Wake (R389, R390) -/

/-- WAKE_SOURCE_FIRE (R387 to R389): an enabled source fires while HUB is not on, or ends an entry that lowers HUB; in HUB's entry window
an edge is lost, and a level is looked at when HUB stops. -/
def execWakeSourceFire (src : Fin 10) (unit : Fin 24) (s : State) : Out :=
  if s.wakeMay src unit then
    if s.dom domHub != domOn then
      if s.pwr.wakeStage = 0 then .next (s.setPwr { s.pwr with fired := s.pwr.fired ++ [(src.val, unit.val)] }) else .next s
    else if s.pwr.raising.isEmpty && s.pwr.asks.any (fun a => a.1 == domHub) && !s.domAgreed domHub then .next (s.pwrRefuse rfWake 4)
    else .next s
  else .next s

/-- WAKE_TAKEN (R390): W. The lowest-numbered source that has fired is named. -/
def execWakeTaken (s : State) : Out :=
  match s.pwr.fired, s.ticks with
  | f :: fs, some n =>
    if s.pwr.wakeStage = 0 then
      let m := fs.foldl (fun a b => if b.1 < a.1 then b else a) f
      let s := ((s.put F.PWR_LAST_WAKE_SOURCE m.1).put F.PWR_LAST_WAKE_UNIT (if m.1 = 1 ∨ m.1 = 2 then m.2 else 0)).incSat F.PWR_LAST_WAKE_WAKES
      let s := (s.put F.PWR_EVT_WAKE_SEEN 1).raise 36
      .next (s.setPwr { s.pwr with fired := [], wakeAt := some n, wakeStage := 1 })
    else .next s
  | _, _ => .next s

/-- TIME_RESTART (R137): at the fourth AON tick after W, with the PLL locked, the counter is loaded; a follower's stamps are uncertain until it is aligned
again, and a walk's remaining error is resumed. -/
def execTimeRestart (s : State) : Out :=
  match s.pwr.wakeAt, s.ticks with
  | some n, some m =>
    if s.pwr.wakeStage = 1 && s.isSet F.LT_CLK_STAT_PLL_LOCK && decide (n + 4 ≤ m) then
      let s := s.timeGo
      let s : State := { s with herd := { s.herd with walkFrom := s.lt } }
      let s := (((s.putPair R.LT_SLEEP_OUT_LO s.lt).putPair R.LT_SLEEP_TICKS_LO n).put F.LT_EVT_WAKE_SEEN 1).noteSpan
      .next (s.setPwr { s.pwr with wakeAt := some s.lt, wakeStage := 2 })
    else .next s
  | _, _ => .next s

/-- HUB_WAKE_ON (R390, R435): 8,000 ns after TIME starts HUB is on; the waiting LOG records leave; the domains of PWR_WAKE_ON follow. -/
def execHubWakeOn (s : State) : Out :=
  match s.pwr.wakeAt with
  | some a =>
    if s.pwr.wakeStage = 2 && decide (a + 8000 ≤ s.lt) then
      let s := s.hubWake.logLeave
      let s := s.setPwr { s.pwr with wakeAt := none, wakeStage := 0 }
      .next (s.pwrBegin 3 s.wakeRaises [])
    else .next s
  | none => .next s

/-! ## The supply link (R374 to R378) -/

/-- SUPPLY_LINK_POLL (R376): a POLL frame 20 µs after a request that waits; its SEQ is open. -/
def execSupplyLinkPoll (s : State) : Out :=
  match s.link.req with
  | some r => if s.due r.at_ 20000 then .next (s.emit (.supply (linkFrame opPoll (s.free.toNat) 0 0))).freeNext else .next s
  | none => .next s

/-- The entry of KIND SUPPLY with event 35 (R378, R394, R433). -/
def State.supplyNote (s : State) (what : Nat) : State :=
  ((s.logWrite kSupply 35 (w32 what) (s.rd R.PWR_SUPPLY) (s.rd R.PWR_STAGE)).put F.PWR_EVT_SUPPLY_SEEN 1).raise 35

/-- A STATUS acknowledged (R375, R378): a rail fault that rises is reported, and one that is shown brings FAULT_HOLD, in POWER_UP not before the logic's release
(R397). -/
def State.statusTake (s : State) (data : Nat) : State :=
  let old := s.get F.PWR_STAGE_FLAGS
  let s := (s.put F.PWR_STAGE_FLAGS data).put F.PWR_STAGE_TEMP (data / 64)
  let rise (b : Nat) : Bool := data.testBit b && !old.testBit b
  let hold := data.testBit 2 && !s.booting && (rise 2 || !s.cond mFaultHold)
  let s := if hold then s.holdFirst 35 else s
  let s := if rise 0 then s.supplyNote 1 else if old.testBit 0 && !data.testBit 0 then s.supplyNote 2 else s
  let s := if rise 3 then s.supplyNote 4 else s
  let s := if rise 2 then s.supplyNote 3 else s
  let s := if hold then s.faultHold hcRailFault (w32 data) 35 else s
  if data.testBit 5 then s.powerLost else s.healthySettle

/-- Input power read (R377, R395): event 39 when the mean of the last ten readings passes 18.0 W. -/
def State.powerTake (s : State) (data : Nat) : State :=
  let ovr (l : List Nat) : Bool := l.length == 10 && decide (18000 < l.sum)
  let old := s.link.pins
  let new := (data :: old).take 10
  let s := { s.put F.PWR_SUPPLY_PIN data with link := { s.link with pins := new } }
  if ovr new && !ovr old then (s.put F.PWR_EVT_POWER_SEEN 1).raise 39 else s

/-- What an acknowledged request gives (R375). -/
def State.linkTake (s : State) (r : LinkReq) (data : Nat) : State :=
  if r.op = opStatus then s.statusTake data
  else if r.op = opRailRead then
    if r.target = 32 then s.put F.PWR_SUPPLY_VIN data else if r.target = 33 then s.powerTake data else s
  else if r.op = opRailSet then
    let l := s.link.rails.filter (fun x => x != r.target)
    { s with link := { s.link with rails := if r.arg = 0 then l else l ++ [r.target] } }
  else s

/-- SUPPLY_LINK_ACK (R374, R376): a frame from the power stage. One with a wrong CRC, or for another request, counts as none. -/
def execSupplyLinkAck (frame : Word) (s : State) : Out :=
  let w := frame.toNat
  match s.link.req with
  | some r =>
    if w % 256 = frameCrc w && w / 268435456 == r.op && w / 16777216 % 16 == r.seq then
      let s := { s.put F.PWR_STAGE_LINK_OK 1 with link := { s.link with req := none } }
      let s := if w / 4194304 % 4 = 0 then s.linkTake r (w / 256 % 16384) else s
      .next s.linkNext
    else .next s
  | none => .next s

/-- SUPPLY_LINK_TIMEOUT (R376): 200 µs without acknowledgement: sent again, up to 3 times, then a link fault. -/
def execSupplyLinkTimeout (s : State) : Out :=
  match s.link.req with
  | some r =>
    if s.due r.at_ 200000 then
      if r.tries < 3 then
        let s := (s.incSat F.PWR_LINK_CNT_RETRIES).emit (.supply (linkFrame r.op r.seq r.target r.arg))
        .next { s with link := { s.link with req := some { r with at_ := s.logLt, tries := r.tries + 1 }, lastAt := s.logLt } }
      else
        let s := ((s.incSat F.PWR_LINK_CNT_FAULTS).put F.PWR_STAGE_LINK_OK 0).put F.PWR_EVT_LINK_FAULT_SEEN 1
        let s := { s with link := { s.link with req := none, queue := [] } }
        let s := (s.logWrite kSupply 33 0#32 (s.rd R.PWR_SUPPLY) (s.rd R.PWR_STAGE)).raise 33
        .next (s.faultHold hcSupplyLink 0#32 33)
    else .next s
  | none => .next s

/-- STATUS_POLL (R377): the controller asks for STATUS. -/
def execStatusPoll (s : State) : Out := if 3 ≤ s.boot.stage then .next (s.linkSend opStatus 0 0) else .next s

/-- RAIL_READ (R377): the controller asks for input voltage and input power. -/
def execRailRead (s : State) : Out :=
  if 3 ≤ s.boot.stage then .next ((s.linkSend opRailRead 32 0).linkSend opRailRead 33 0) else .next s

/-- STAGE_WATCHDOG (R377): 20 ms without a request: VEXC, every TWp_SUP and KEY_VCC go off. -/
def execStageWatchdog (s : State) : Out :=
  if s.due s.link.lastAt 20000000 then
    let s := { s with link := { s.link with rails := s.link.rails.filter (fun r => decide (r < 5)) }, key := { s.key with vcc := false } }
    .next ((List.range 8).foldl (fun s p => s.setTw p { s.tw p with supply := false }) s)
  else .next s

/-! ## Throttle (R139, R393, R394) -/

/-- Time spent at the present level counted (R396). -/
def State.throttleTime (s : State) : State :=
  { s with thr := { s.thr with levelAt := s.lt, ns1 := s.throttleNs 1, ns2 := s.throttleNs 2 } }

/-- Event 37 (R395). -/
def State.throttleEvent (s : State) : State := (s.put F.PWR_EVT_THROTTLE_SEEN 1).raise 37

/-- A record held while the level is 1 or 2 (R291). -/
def Rec.throttled (r : Rec) : Rec := { r with flags := flagOn flThrottled r.flags }

/-- The MARKs kept with a pending GAP, held. -/
def PendGap.throttled (p : PendGap) : PendGap := { p with marks := p.marks.map Rec.throttled }

/-- Every record that a queue holds, held. -/
def Queue.throttled (x : Queue) : Queue :=
  { x with recs := x.recs.map Rec.throttled, opens := x.opens.map (fun o => (o.1, { o.2 with thr := true })),
           cons := x.cons.map (fun c => (c.1, { c.2 with lost := c.2.lost.throttled })), pend := x.pend.map PendGap.throttled,
           resetting := x.resetting.map (fun z => { z with gap := z.gap.throttled }),
           pop := x.pop.map (fun j => { j with record := j.record.throttled }) }

/-- The stamps and the open record of a capture unit, held. -/
def CapUnit.throttled (x : CapUnit) : CapUnit :=
  { x with fifo := x.fifo.map (fun e => { e with thr := true }), entries := x.entries.map (fun e => { e with thr := true }) }

/-- Every record of the host store that is in no batch sent yet, held. -/
def HostSt.throttled (h : HostSt) : HostSt :=
  { h with ctrl := h.ctrl.map Rec.throttled, raw := h.raw.map Rec.throttled,
           parks := h.parks.map (fun p => { p with record := p.record.throttled }),
           batches := h.batches.map (fun b => if b.out then b else { b with recs := b.recs.map Rec.throttled }) }

/-- The level has risen from 0 (R141, R291): every record that a HUB, TILE or FABRIC block holds carries THROTTLED; a batch that has begun to leave keeps
its bytes (DESIGN CHOICE, assumption 112). -/
def State.throttleHeld (s : State) : State :=
  ({ s with queues := s.queues.map (fun (c : Nat × Queue) => (c.1, c.2.throttled)), caps := s.caps.map (fun (c : Nat × CapUnit) => (c.1, c.2.throttled)),
            ladles := s.ladles.map (fun (c : Nat × Ladle) => (c.1, { c.2 with pend := c.2.pend.map (fun (p : Nat × PendGap) => (p.1, p.2.throttled)) })) }).setHost s.host.throttled

/-- SAG_THRESHOLD (R393): VCORE falls below the threshold of level 1 or 2 (`deep`). -/
def execSagThreshold (deep : Bool) (s : State) : Out :=
  let new := if deep then 2 else 1
  let old := s.throttle
  if new ≤ old then .next s
  else
    let s := s.throttleTime.put F.LT_CLK_STAT_THROTTLE new
    let s := if old = 0 then (s.incSat F.PWR_THR_CNT_ENTRIES1).throttleEvent.throttleHeld else s
    let s := if deep then s.incSat F.PWR_THR_CNT_ENTRIES2 else s
    .next { s with thr := if old = 0 then { s.thr with since := some s.lt, peak := new, levelAt := s.lt, told := false }
                          else { s.thr with peak := max s.thr.peak new } }

/-- A release may come (R393): 50 µs have passed since the present level began; where level 1 follows level 2, they had passed before. -/
def State.mayRelease (s : State) : Bool := decide (s.thr.levelAt + 50000 ≤ s.lt) || (s.throttle == 1 && s.thr.peak == 2)

/-- THROTTLE_RELEASE (R393): VCORE has stayed 50 µs above a release level: level 0, or 1 from level 2 (`toOne`). -/
def execThrottleRelease (toOne : Bool) (s : State) : Out :=
  let new := toOne.toNat
  if new < s.throttle && s.mayRelease then
    let s := s.throttleTime.put F.LT_CLK_STAT_THROTTLE new
    if toOne then .next s
    else
      let us := (s.lt - s.thr.since.getD s.lt) / 1000
      let s := s.logWrite kThrottle 37 (w32 s.thr.peak) (w32 us) 0#32
      .next { s.throttleEvent with thr := { ThrSt.rest with ns1 := s.thr.ns1, ns2 := s.thr.ns2 } }
  else .next s

/-- THROTTLE_BACKLOG (R393): 2 ms above level 0. -/
def execThrottleBacklog (s : State) : Out :=
  match s.thr.since with
  | some a =>
    if a + 2000000 ≤ s.lt && !s.thr.told then
      .next { (s.put F.PWR_EVT_BACKLOG_SEEN 1).raise 38 with thr := { s.thr with told := true } }
    else .next s
  | none => .next s

/-- VCORE_LOW (R394): once VCORE is up (R379) its fall is reported; in POWER_UP, where no other mode may hold (R397), it brings no FAULT_HOLD (DEDUCED,
assumption 156). -/
def execVcoreLow (s : State) : Out :=
  if 3 ≤ s.boot.stage then
    let s := (if s.booting then s else s.holdFirst 35).supplyNote 5
    .next (if s.booting then s else s.faultHold hcVcoreLow 0#32 35)
  else .next s

end Sys2Proof.Machine
end

