-- ==== Sys2Proof/Machine/Dispatch.lean ====
section
/-! DEFINITION. The meaning of every command: one arm per constructor of Instr. -/

namespace Sys2Proof.Machine

/-- The effect of a command on everything but the queue. -/
def exec (i : Instr) (s : State) : Host.Outcome State Fault Refusal :=
  match i with
  | .add c d a b k => Sys2Proof.Machine.execAdd c d a b k s
  | .adc c d a b k => Sys2Proof.Machine.execAdc c d a b k s
  | .sub c d a b k => Sys2Proof.Machine.execSub c d a b k s
  | .sbc c d a b k => Sys2Proof.Machine.execSbc c d a b k s
  | .adds c d a b k => Sys2Proof.Machine.execAdds c d a b k s
  | .subs c d a b k => Sys2Proof.Machine.execSubs c d a b k s
  | .neg c d a b k => Sys2Proof.Machine.execNeg c d a b k s
  | .negs c d a b k => Sys2Proof.Machine.execNegs c d a b k s
  | .andI c d a b k => Sys2Proof.Machine.execAndI c d a b k s
  | .orI c d a b k => Sys2Proof.Machine.execOrI c d a b k s
  | .xor c d a b k => Sys2Proof.Machine.execXor c d a b k s
  | .andn c d a b k => Sys2Proof.Machine.execAndn c d a b k s
  | .minI c d a b k => Sys2Proof.Machine.execMinI c d a b k s
  | .maxI c d a b k => Sys2Proof.Machine.execMaxI c d a b k s
  | .minu c d a b k => Sys2Proof.Machine.execMinu c d a b k s
  | .maxu c d a b k => Sys2Proof.Machine.execMaxu c d a b k s
  | .abs c d a b k => Sys2Proof.Machine.execAbs c d a b k s
  | .abss c d a b k => Sys2Proof.Machine.execAbss c d a b k s
  | .sextb c d a b k => Sys2Proof.Machine.execSextb c d a b k s
  | .sexth c d a b k => Sys2Proof.Machine.execSexth c d a b k s
  | .clz c d a b k => Sys2Proof.Machine.execClz c d a b k s
  | .popc c d a b k => Sys2Proof.Machine.execPopc c d a b k s
  | .sel c d a b k => Sys2Proof.Machine.execSel c d a b k s
  | .addi c d a imm => Sys2Proof.Machine.execAddi c d a imm s
  | .subi c d a imm => Sys2Proof.Machine.execSubi c d a imm s
  | .andi c d a imm => Sys2Proof.Machine.execAndi c d a imm s
  | .ori c d a imm => Sys2Proof.Machine.execOri c d a imm s
  | .xori c d a imm => Sys2Proof.Machine.execXori c d a imm s
  | .lui c d imm => Sys2Proof.Machine.execLui c d imm s
  | .shl c d a b k byK => Sys2Proof.Machine.execShl c d a b k byK s
  | .shr c d a b k byK => Sys2Proof.Machine.execShr c d a b k byK s
  | .sar c d a b k byK => Sys2Proof.Machine.execSar c d a b k byK s
  | .ror c d a b k byK => Sys2Proof.Machine.execRor c d a b k byK s
  | .rol c d a b k byK => Sys2Proof.Machine.execRol c d a b k byK s
  | .shls c d a b k byK => Sys2Proof.Machine.execShls c d a b k byK s
  | .mul c d a b k => Sys2Proof.Machine.execMul c d a b k s
  | .mulh c d a b k => Sys2Proof.Machine.execMulh c d a b k s
  | .mulhu c d a b k => Sys2Proof.Machine.execMulhu c d a b k s
  | .mac c d a b k => Sys2Proof.Machine.execMac c d a b k s
  | .macs c d a b k => Sys2Proof.Machine.execMacs c d a b k s
  | .mulq c d a b k => Sys2Proof.Machine.execMulq c d a b k s
  | .macq c d a b k => Sys2Proof.Machine.execMacq c d a b k s
  | .dotq c d a b k => Sys2Proof.Machine.execDotq c d a b k s
  | .divI c d a b k => Sys2Proof.Machine.execDivI c d a b k s
  | .divu c d a b k => Sys2Proof.Machine.execDivu c d a b k s
  | .rem c d a b k => Sys2Proof.Machine.execRem c d a b k s
  | .remu c d a b k => Sys2Proof.Machine.execRemu c d a b k s
  | .ldw c d a imm => Sys2Proof.Machine.execLdw c d a imm s
  | .ldh c d a imm => Sys2Proof.Machine.execLdh c d a imm s
  | .ldhu c d a imm => Sys2Proof.Machine.execLdhu c d a imm s
  | .ldb c d a imm => Sys2Proof.Machine.execLdb c d a imm s
  | .ldbu c d a imm => Sys2Proof.Machine.execLdbu c d a imm s
  | .stw c d a imm => Sys2Proof.Machine.execStw c d a imm s
  | .sth c d a imm => Sys2Proof.Machine.execSth c d a imm s
  | .stb c d a imm => Sys2Proof.Machine.execStb c d a imm s
  | .ldwp c d a imm => Sys2Proof.Machine.execLdwp c d a imm s
  | .stwp c d a imm => Sys2Proof.Machine.execStwp c d a imm s
  | .ldhp c d a imm => Sys2Proof.Machine.execLdhp c d a imm s
  | .sthp c d a imm => Sys2Proof.Machine.execSthp c d a imm s
  | .push c d a b k => Sys2Proof.Machine.execPush c d a b k s
  | .pop c d a b k => Sys2Proof.Machine.execPop c d a b k s
  | .b c cond off => Sys2Proof.Machine.execB c cond off s
  | .call c cond off => Sys2Proof.Machine.execCall c cond off s
  | .jr c d a b k => Sys2Proof.Machine.execJr c d a b k s
  | .callr c d a b k => Sys2Proof.Machine.execCallr c d a b k s
  | .ret c d a b k => Sys2Proof.Machine.execRet c d a b k s
  | .rpti c d imm => Sys2Proof.Machine.execRpti c d imm s
  | .rptr c rest => Sys2Proof.Machine.execRptr c rest s
  | .nop c d a b k => Sys2Proof.Machine.execNop c d a b k s
  | .mfs c d a b k => Sys2Proof.Machine.execMfs c d a b k s
  | .mts c d a b k => Sys2Proof.Machine.execMts c d a b k s
  | .eret c d a b k => Sys2Proof.Machine.execEret c d a b k s
  | .wait c d a b k => Sys2Proof.Machine.execWait c d a b k s
  | .brk c d a b k => Sys2Proof.Machine.execBrk c d a b k s
  | .ei c d a b k => Sys2Proof.Machine.execEi c d a b k s
  | .di c d a b k => Sys2Proof.Machine.execDi c d a b k s
  | .fence c d a b k => Sys2Proof.Machine.execFence c d a b k s
  | .eventEntry c => Sys2Proof.Machine.execEventEntry c s
  | .waitEnd c => Sys2Proof.Machine.execWaitEnd c s
  | .postedStoreDone c n => Sys2Proof.Machine.execPostedStoreDone c n s
  | .registerWrite c addr value => Sys2Proof.Machine.execRegisterWrite c addr value s
  | .supplyValid => Sys2Proof.Machine.execSupplyValid s
  | .aonRailGood => Sys2Proof.Machine.execAonRailGood s
  | .resonatorOscillating => Sys2Proof.Machine.execResonatorOscillating s
  | .railsGood => Sys2Proof.Machine.execRailsGood s
  | .resonatorStable => Sys2Proof.Machine.execResonatorStable s
  | .pllLock => Sys2Proof.Machine.execPllLock s
  | .memoryRepairLoaded => Sys2Proof.Machine.execMemoryRepairLoaded s
  | .memoryInitDone => Sys2Proof.Machine.execMemoryInitDone s
  | .scrubBaselineDone found => Sys2Proof.Machine.execScrubBaselineDone found s
  | .logicRelease => Sys2Proof.Machine.execLogicRelease s
  | .keyLoadEntry present => Sys2Proof.Machine.execKeyLoadEntry present s
  | .bringupFail => Sys2Proof.Machine.execBringupFail s
  | .bringupRetry => Sys2Proof.Machine.execBringupRetry s
  | .aonRailCycle => Sys2Proof.Machine.execAonRailCycle s
  | .warmReset => Sys2Proof.Machine.execWarmReset s
  | .pllLockLost => Sys2Proof.Machine.execPllLockLost s
  | .pllRelockTimeout => Sys2Proof.Machine.execPllRelockTimeout s
  | .holdTimeout => Sys2Proof.Machine.execHoldTimeout s
  | .refMeasure ppb => Sys2Proof.Machine.execRefMeasure ppb s
  | .walkEnd => Sys2Proof.Machine.execWalkEnd s
  | .beaconListenEnd => Sys2Proof.Machine.execBeaconListenEnd s
  | .formSend => Sys2Proof.Machine.execFormSend s
  | .formingEnd => Sys2Proof.Machine.execFormingEnd s
  | .beaconSend frac => Sys2Proof.Machine.execBeaconSend frac s
  | .beaconRx portB f how frac resid => Sys2Proof.Machine.execBeaconRx portB f how frac resid s
  | .beaconLoss => Sys2Proof.Machine.execBeaconLoss s
  | .claimRx portB f how => Sys2Proof.Machine.execClaimRx portB f how s
  | .formRx portB f how => Sys2Proof.Machine.execFormRx portB f how s
  | .deputyTakeover => Sys2Proof.Machine.execDeputyTakeover s
  | .portAligned portB => Sys2Proof.Machine.execPortAligned portB s
  | .portNoSignal portB => Sys2Proof.Machine.execPortNoSignal portB s
  | .portCrossed portB => Sys2Proof.Machine.execPortCrossed portB s
  | .calRx portB f how stamp => Sys2Proof.Machine.execCalRx portB f how stamp s
  | .calTurnaround portB => Sys2Proof.Machine.execCalTurnaround portB s
  | .pulseSend portB frac => Sys2Proof.Machine.execPulseSend portB frac s
  | .pulseRx portB f how frac => Sys2Proof.Machine.execPulseRx portB f how frac s
  | .portDown portB => Sys2Proof.Machine.execPortDown portB s
  | .actionRx portB f how => Sys2Proof.Machine.execActionRx portB f how s
  | .herdAckRx portB f how => Sys2Proof.Machine.execHerdAckRx portB f how s
  | .actionRetry req => Sys2Proof.Machine.execActionRetry req s
  | .recordRx portB f how => Sys2Proof.Machine.execRecordRx portB f how s
  | .subscriptionExpiry n => Sys2Proof.Machine.execSubscriptionExpiry n s
  | .laneDecision n => Sys2Proof.Machine.execLaneDecision n s
  | .modClockUprange k => Sys2Proof.Machine.execModClockUprange k s
  | .scheduledReset k cycle r => Sys2Proof.Machine.execScheduledReset k cycle r s
  | .chCmdReset w k r => Sys2Proof.Machine.execChCmdReset w k r s
  | .quietWindowEnd k since r => Sys2Proof.Machine.execQuietWindowEnd k since r s
  | .blankEnd k => Sys2Proof.Machine.execBlankEnd k s
  | .sampleEmit k r => Sys2Proof.Machine.execSampleEmit k r s
  | .mainsSenseEdge => Sys2Proof.Machine.execMainsSenseEdge s
  | .mainsSourceFallback t => Sys2Proof.Machine.execMainsSourceFallback t s
  | .mainsLock t mHz => Sys2Proof.Machine.execMainsLock t mHz s
  | .mainsUnlock t peak => Sys2Proof.Machine.execMainsUnlock t peak s
  | .scanStart c => Sys2Proof.Machine.execScanStart c s
  | .scanStepBoundary c => Sys2Proof.Machine.execScanStepBoundary c s
  | .dischargeStart c rs => Sys2Proof.Machine.execDischargeStart c rs s
  | .dischargeEnd c => Sys2Proof.Machine.execDischargeEnd c s
  | .newSwitchesClose c => Sys2Proof.Machine.execNewSwitchesClose c s
  | .switchingSequenceEnd c => Sys2Proof.Machine.execSwitchingSequenceEnd c s
  | .excCheck rs => Sys2Proof.Machine.execExcCheck rs s
  | .sourceRetry c n => Sys2Proof.Machine.execSourceRetry c n s
  | .leadMeasurementStart c n cycle => Sys2Proof.Machine.execLeadMeasurementStart c n cycle s
  | .leadBaselineEnd c nv => Sys2Proof.Machine.execLeadBaselineEnd c nv s
  | .leadSourceJoin c => Sys2Proof.Machine.execLeadSourceJoin c s
  | .leadIntegrationStart c => Sys2Proof.Machine.execLeadIntegrationStart c s
  | .leadIntegrationEnd c nv cm => Sys2Proof.Machine.execLeadIntegrationEnd c nv cm s
  | .leadMeasurementEnd c => Sys2Proof.Machine.execLeadMeasurementEnd c s
  | .cjUpdate c r => Sys2Proof.Machine.execCjUpdate c r s
  | .captureEdge changes => Sys2Proof.Machine.execCaptureEdge changes s
  | .captureRecordClose u => Sys2Proof.Machine.execCaptureRecordClose u s
  | .encoderStopped e => Sys2Proof.Machine.execEncoderStopped e s
  | .pointArrival t src => Sys2Proof.Machine.execPointArrival t src s
  | .foldWaitExpiry t n => Sys2Proof.Machine.execFoldWaitExpiry t n s
  | .closeWaitExpiry t g => Sys2Proof.Machine.execCloseWaitExpiry t g s
  | .maxCycleTimeout t g => Sys2Proof.Machine.execMaxCycleTimeout t g s
  | .cycleSourceLoss t g => Sys2Proof.Machine.execCycleSourceLoss t g s
  | .judgementEnd t => Sys2Proof.Machine.execJudgementEnd t s
  | .teach w t g => Sys2Proof.Machine.execTeach w t g s
  | .teachEnd w t g => Sys2Proof.Machine.execTeachEnd w t g s
  | .envEntryWrite w t e high value => Sys2Proof.Machine.execEnvEntryWrite w t e high value s
  | .timerStart w t n => Sys2Proof.Machine.execTimerStart w t n s
  | .timerStop w t n => Sys2Proof.Machine.execTimerStop w t n s
  | .timerClear w t n => Sys2Proof.Machine.execTimerClear w t n s
  | .timerPerWrite w t n value => Sys2Proof.Machine.execTimerPerWrite w t n value s
  | .timerCmpWrite w t n value => Sys2Proof.Machine.execTimerCmpWrite w t n value s
  | .timerPeriodEnd t n => Sys2Proof.Machine.execTimerPeriodEnd t n s
  | .timerMatch t n => Sys2Proof.Machine.execTimerMatch t n s
  | .actEnterGo w slot ctl => Sys2Proof.Machine.execActEnterGo w slot ctl s
  | .entryFix a => Sys2Proof.Machine.execEntryFix a s
  | .launch a => Sys2Proof.Machine.execLaunch a s
  | .retryOutcomeSettle n => Sys2Proof.Machine.execRetryOutcomeSettle n s
  | .outputOvercurrent n => Sys2Proof.Machine.execOutputOvercurrent n s
  | .outputReadbackCheck n level => Sys2Proof.Machine.execOutputReadbackCheck n level s
  | .outSupplyLow => Sys2Proof.Machine.execOutSupplyLow s
  | .outSupplyReturn => Sys2Proof.Machine.execOutSupplyReturn s
  | .scrubLine m upset => Sys2Proof.Machine.execScrubLine m upset s
  | .queueResetEnd q => Sys2Proof.Machine.execQueueResetEnd q s
  | .pendingGapWrite q => Sys2Proof.Machine.execPendingGapWrite q s
  | .queuePush w q addr => Sys2Proof.Machine.execQueuePush w q addr s
  | .queuePushDone q => Sys2Proof.Machine.execQueuePushDone q s
  | .queuePop w q addr => Sys2Proof.Machine.execQueuePop w q addr s
  | .queuePopDone q => Sys2Proof.Machine.execQueuePopDone q s
  | .ladleRecordMove l d upset => Sys2Proof.Machine.execLadleRecordMove l d upset s
  | .ladleRun w l d => Sys2Proof.Machine.execLadleRun w l d s
  | .ladleRunEnd l d => Sys2Proof.Machine.execLadleRunEnd l d s
  | .ladleGapWrite l dest => Sys2Proof.Machine.execLadleGapWrite l dest s
  | .ringPointerWrite w l d read value => Sys2Proof.Machine.execRingPointerWrite w l d read value s
  | .keyInsert => Sys2Proof.Machine.execKeyInsert s
  | .keyRemove => Sys2Proof.Machine.execKeyRemove s
  | .keyReadStart scl sda => Sys2Proof.Machine.execKeyReadStart scl sda s
  | .keyBlockReadEnd bytes => Sys2Proof.Machine.execKeyBlockReadEnd bytes s
  | .keyReadFail got => Sys2Proof.Machine.execKeyReadFail got s
  | .signatureCheckEnd => Sys2Proof.Machine.execSignatureCheckEnd s
  | .keyChecksEnd => Sys2Proof.Machine.execKeyChecksEnd s
  | .keyCommitEnd => Sys2Proof.Machine.execKeyCommitEnd s
  | .coresStart => Sys2Proof.Machine.execCoresStart s
  | .stage w => Sys2Proof.Machine.execStage w s
  | .keyPowerCycle w => Sys2Proof.Machine.execKeyPowerCycle w s
  | .keyCmdChangeover w => Sys2Proof.Machine.execKeyCmdChangeover w s
  | .keyPortHang cause got => Sys2Proof.Machine.execKeyPortHang cause got s
  | .twGo w p ctl => Sys2Proof.Machine.execTwGo w p ctl s
  | .twPowerCycle w p ctl => Sys2Proof.Machine.execTwPowerCycle w p ctl s
  | .twTransferEnd p result n data => Sys2Proof.Machine.execTwTransferEnd p result n data s
  | .twStretchTimeout p n => Sys2Proof.Machine.execTwStretchTimeout p n s
  | .twIdleCheck p scl sda => Sys2Proof.Machine.execTwIdleCheck p scl sda s
  | .twSupplyTrip p => Sys2Proof.Machine.execTwSupplyTrip p s
  | .twCycleSupplyOn p => Sys2Proof.Machine.execTwCycleSupplyOn p s
  | .twCycleSample p scl sda => Sys2Proof.Machine.execTwCycleSample p scl sda s
  | .twPortStart p scl sda => Sys2Proof.Machine.execTwPortStart p scl sda s
  | .linkUp gig => Sys2Proof.Machine.execLinkUp gig s
  | .linkDown => Sys2Proof.Machine.execLinkDown s
  | .arpRx p => Sys2Proof.Machine.execArpRx p s
  | .arpDefend => Sys2Proof.Machine.execArpDefend s
  | .addrConflictClear => Sys2Proof.Machine.execAddrConflictClear s
  | .arpCacheTimeout n => Sys2Proof.Machine.execArpCacheTimeout n s
  | .echoRequest f x => Sys2Proof.Machine.execEchoRequest f x s
  | .openSession dg window raw prev => Sys2Proof.Machine.execOpenSession dg window raw prev s
  | .hostAck dg cum window entries => Sys2Proof.Machine.execHostAck dg cum window entries s
  | .closeSession dg => Sys2Proof.Machine.execCloseSession dg s
  | .logRead dg req arg0 arg1 resv => Sys2Proof.Machine.execLogRead dg req arg0 arg1 resv s
  | .health dg req form => Sys2Proof.Machine.execHealth dg req form s
  | .reload dg req resv => Sys2Proof.Machine.execReload dg req resv s
  | .hostReqChangeover dg req resv => Sys2Proof.Machine.execHostReqChangeover dg req resv s
  | .heartbeat => Sys2Proof.Machine.execHeartbeat s
  | .sessionIdle => Sys2Proof.Machine.execSessionIdle s
  | .batchClose raw => Sys2Proof.Machine.execBatchClose raw s
  | .dataSend => Sys2Proof.Machine.execDataSend s
  | .retransmit => Sys2Proof.Machine.execRetransmit s
  | .parkExpiry => Sys2Proof.Machine.execParkExpiry s
  | .hostCmdWake w => Sys2Proof.Machine.execHostCmdWake w s
  | .hostCmdClose w => Sys2Proof.Machine.execHostCmdClose w s
  | .magicPacketRepeat => Sys2Proof.Machine.execMagicPacketRepeat s
  | .hostWakeRelease => Sys2Proof.Machine.execHostWakeRelease s
  | .wakeRepeat => Sys2Proof.Machine.execWakeRepeat s
  | .pwrGo w => Sys2Proof.Machine.execPwrGo w s
  | .domainRaised n => Sys2Proof.Machine.execDomainRaised n s
  | .domainAgree => Sys2Proof.Machine.execDomainAgree s
  | .domainStop => Sys2Proof.Machine.execDomainStop s
  | .agreeTimeout => Sys2Proof.Machine.execAgreeTimeout s
  | .wakeSourceFire src unit => Sys2Proof.Machine.execWakeSourceFire src unit s
  | .wakeTaken => Sys2Proof.Machine.execWakeTaken s
  | .timeRestart => Sys2Proof.Machine.execTimeRestart s
  | .hubWakeOn => Sys2Proof.Machine.execHubWakeOn s
  | .supplyLinkPoll => Sys2Proof.Machine.execSupplyLinkPoll s
  | .supplyLinkAck frame => Sys2Proof.Machine.execSupplyLinkAck frame s
  | .supplyLinkTimeout => Sys2Proof.Machine.execSupplyLinkTimeout s
  | .statusPoll => Sys2Proof.Machine.execStatusPoll s
  | .railRead => Sys2Proof.Machine.execRailRead s
  | .stageWatchdog => Sys2Proof.Machine.execStageWatchdog s
  | .sagThreshold deep => Sys2Proof.Machine.execSagThreshold deep s
  | .throttleRelease toOne => Sys2Proof.Machine.execThrottleRelease toOne s
  | .throttleBacklog => Sys2Proof.Machine.execThrottleBacklog s
  | .vcoreLow => Sys2Proof.Machine.execVcoreLow s
  | .watchOn w => Sys2Proof.Machine.execWatchOn w s
  | .watchOff w => Sys2Proof.Machine.execWatchOff w s
  | .autoWatchExpiry => Sys2Proof.Machine.execAutoWatchExpiry s
  | .watchEntryRetry => Sys2Proof.Machine.execWatchEntryRetry s
  | .reloadStart => Sys2Proof.Machine.execReloadStart s
  | .reloadDrainEnd => Sys2Proof.Machine.execReloadDrainEnd s
  | .reloadApply => Sys2Proof.Machine.execReloadApply s
  | .changeoverAccept => Sys2Proof.Machine.execChangeoverAccept s
  | .hubSwitchEnd => Sys2Proof.Machine.execHubSwitchEnd s
  | .tileReloadStart t => Sys2Proof.Machine.execTileReloadStart t s
  | .tileReloadDrainEnd t => Sys2Proof.Machine.execTileReloadDrainEnd t s
  | .tileReloadApply t => Sys2Proof.Machine.execTileReloadApply t s
  | .tileReloadEnd t => Sys2Proof.Machine.execTileReloadEnd t s
  | .tileRestartDrainEnd t => Sys2Proof.Machine.execTileRestartDrainEnd t s
  | .tileRestartApply t ups => Sys2Proof.Machine.execTileRestartApply t ups s
  | .tileBack t => Sys2Proof.Machine.execTileBack t s
  | .logSelWrite w index => Sys2Proof.Machine.execLogSelWrite w index s
  | .logUserWrite w => Sys2Proof.Machine.execLogUserWrite w s
  | .fltSnap w addr => Sys2Proof.Machine.execFltSnap w addr s
  | .snapDone => Sys2Proof.Machine.execSnapDone s
  | .svcWriteTransfer enable bytes => Sys2Proof.Machine.execSvcWriteTransfer enable bytes s
  | .svcReadTransfer enable n => Sys2Proof.Machine.execSvcReadTransfer enable n s
  | .svcSclStuck => Sys2Proof.Machine.execSvcSclStuck s
  | .svcTake => Sys2Proof.Machine.execSvcTake s
  | .svcRelease => Sys2Proof.Machine.execSvcRelease s
  | .svcAlive => Sys2Proof.Machine.execSvcAlive s
  | .svcCommission enable => Sys2Proof.Machine.execSvcCommission enable s
  | .svcWarmReset => Sys2Proof.Machine.execSvcWarmReset s
  | .takeExpiry => Sys2Proof.Machine.execTakeExpiry s
  | .commissionEnd enable => Sys2Proof.Machine.execCommissionEnd enable s
  | .commissionGo enable => Sys2Proof.Machine.execCommissionGo enable s
  | .trimGo enable => Sys2Proof.Machine.execTrimGo enable s
  | .burnEnd verified => Sys2Proof.Machine.execBurnEnd verified s
  | .svcKick w => Sys2Proof.Machine.execSvcKick w s
  | .kickTimeout => Sys2Proof.Machine.execKickTimeout s
  | .healthyHoldEnd => Sys2Proof.Machine.execHealthyHoldEnd s
  | .factoryFixtureTake => Sys2Proof.Machine.execFactoryFixtureTake s
  | .signalLost portB => Sys2Proof.Machine.execSignalLost portB s
  | .unansweredFrameExpiry fseq => Sys2Proof.Machine.execUnansweredFrameExpiry fseq s

end Sys2Proof.Machine
end

