-- ==== Sys2Proof/Machine/Tick.lean ====
section
/-! DEFINITION. What passes while no command waits (R123, R127, R136, R140, R214, R223, R235): one TIME tick of line time, or, in a sleep, one period of
REF. -/

namespace Sys2Proof.Machine

/-- What the TILE and FABRIC clocks do on one of their edges (R139, R140, R214, R223): each timer adds the undivided clocks since the last edge, which are the
division factor while the level stays, each capture unit's queue gives up a stamp, and EVENT records whose stamp has come leave. -/
def State.fabricTick (s : State) : State :=
  let n := s.vco / 20 - s.tileAt
  let s := (List.range 8).foldl (fun (s : State) t => s.tileTick t n) { s with tileAt := s.vco / 20 }
  let s := s.capsTick
  s.evtFlush s.evts

/-- Line time counts by one (R127), edges on their way reach their contacts (R232) and the Herd ports send (R151); the TILE and FABRIC clocks, which a walk does
not touch (R129), have an edge at every 20 oscillator periods times the division factor (R123, R139). -/
def State.timeTick (s : State) : State :=
  let old := s.vco
  let new := old + s.periods 1
  let s := State.landEdges { s with lt := s.lt + 1, vco := new, herd := { s.herd with portLt := s.herd.portLt + 1 } }
  let s := s.txTick
  if old / (20 * s.division) < new / (20 * s.division) then s.fabricTick else s

/-- The sleep count, 48 bits, counts an AON tick (R136). -/
def State.aonTick (s : State) : State :=
  { s with ticks := s.ticks.map (fun n => (n + 1) % 0x1000000000000), sleepNs := s.sleepNs + s.aonNs }

/-- One period of REF, 40 ns, in a sleep (R123, R136): the Herd ports, which work in HERD's retention, count and send on (R371); every 800th is an AON tick. -/
def State.refTick (s : State) : State :=
  if s.ticks.isNone then s
  else
    let old := s.vco
    let s : State := { s with vco := old + 200, herd := { s.herd with portLt := s.herd.portLt + 40 } }
    State.txTick (if old / 160000 < s.vco / 160000 then s.aonTick else s)

/-- The block with no command waiting: timer events that have fallen due act first, then time passes. -/
def State.idle (s : State) : State :=
  if s.timersDue then s.timersAct else if s.time then s.timeTick else s.refTick

end Sys2Proof.Machine
end

