-- ==== Sys2Proof/Machine/HostWire.lean ====
section
/-! DEFINITION. The Ethernet frames that the jack sends, byte by byte (R8, R342 to R345, R363): network byte order in the published headers, whose layouts are
those of their standards (PRESUMED, assumption 128). -/

namespace Sys2Proof.Machine

/-! ## Checks of the published protocols -/

/-- One bit step of the reflected CRC-32 of Ethernet. -/
def fcsBit (c : Word) : Word := if c.getLsbD 0 then (c >>> 1) ^^^ 0xEDB88320#32 else c >>> 1

/-- The CRC-32 register after one more byte. -/
def fcsByte (c : Word) (b : Byte) : Word := fcsBit (fcsBit (fcsBit (fcsBit (fcsBit (fcsBit (fcsBit (fcsBit (c ^^^ b.setWidth 32))))))))

/-- The FCS of a frame's bytes. -/
def fcs (l : List Byte) : Word := ~~~ (l.foldl fcsByte 0xFFFFFFFF#32)

/-- The sum of the 16-bit words of a byte string, an odd last byte being the high one. -/
def words16 : List Byte → Nat
  | [] => 0
  | [b] => 256 * b.toNat
  | b :: c :: t => 256 * b.toNat + c.toNat + words16 t

/-- A sum in ones' complement, folded to 16 bits. -/
def fold16 (x : Nat) : Nat := let y := x % 65536 + x / 65536; y % 65536 + y / 65536

/-- The Internet checksum of a byte string. -/
def inetSum (l : List Byte) : Nat := 65535 - fold16 (words16 l)

/-! ## Headers -/

/-- The broadcast MAC. -/
abbrev bcastMac : Nat := 0xFFFFFFFFFFFF

/-- An Ethernet II frame without a tag: destination, source, EtherType, the payload padded to 46 bytes, FCS. A MAC's first octet is its lowest byte (R348). -/
def etherFrame (dst src type : Nat) (payload : List Byte) : List Byte :=
  let b := leBytes 6 dst ++ leBytes 6 src ++ beBytes 2 type ++ payload ++ List.replicate (46 - payload.length) 0#8
  b ++ leBytes 4 (fcs b).toNat

/-- An IPv4 header (R343): no options, DSCP 0, identification 0, DF set, TTL 64. -/
def ipv4Header (src dst proto len sum : Nat) : List Byte :=
  beBytes 1 0x45 ++ beBytes 1 0 ++ beBytes 2 (20 + len) ++ beBytes 2 0 ++ beBytes 2 0x4000 ++ beBytes 1 64 ++ beBytes 1 proto ++ beBytes 2 sum
    ++ beBytes 4 src ++ beBytes 4 dst

/-- An IPv4 packet. -/
def ipv4 (src dst proto : Nat) (payload : List Byte) : List Byte :=
  ipv4Header src dst proto payload.length (inetSum (ipv4Header src dst proto payload.length 0)) ++ payload

/-- A UDP header. -/
def udpHeader (srcPort dstPort len sum : Nat) : List Byte := beBytes 2 srcPort ++ beBytes 2 dstPort ++ beBytes 2 (8 + len) ++ beBytes 2 sum

/-- A UDP datagram with its checksum, which is always sent (R343): over the addresses, the protocol, the length, the header and the payload; 0 goes as 0xFFFF. -/
def udpDatagram (src dst srcPort dstPort : Nat) (payload : List Byte) : List Byte :=
  let n := payload.length
  let c := inetSum (beBytes 4 src ++ beBytes 4 dst ++ beBytes 2 17 ++ beBytes 2 (8 + n) ++ udpHeader srcPort dstPort n 0 ++ payload)
  udpHeader srcPort dstPort n (if c = 0 then 0xFFFF else c) ++ payload

/-- An ICMP echo reply. -/
def echoReply (idSeq : Word) (data : List Byte) : List Byte :=
  let body := beBytes 4 idSeq.toNat ++ data
  let c := inetSum (beBytes 2 0 ++ beBytes 2 0 ++ body)
  beBytes 2 0 ++ beBytes 2 c ++ body

/-- An ARP packet: 1 asks, 2 answers. -/
def arpBytes (oper sha spa tha tpa : Nat) : List Byte :=
  beBytes 2 1 ++ beBytes 2 0x0800 ++ beBytes 1 6 ++ beBytes 1 4 ++ beBytes 2 oper ++ leBytes 6 sha ++ beBytes 4 spa ++ leBytes 6 tha ++ beBytes 4 tpa

/-- A magic packet (R363): six bytes of 0xFF, the target MAC sixteen times. -/
def magicBytes (mac : Nat) : List Byte := List.replicate 6 0xFF#8 ++ (List.replicate 16 (leBytes 6 mac)).flatten

/-! ## The frames of an emission -/

/-- The MAC that a datagram for an address goes to (R343): the broadcast MAC, or that of its next hop where the cache knows it. -/
def State.macOf (s : State) (ip : Nat) : Option Nat :=
  if ip = s.bcastIp then some bcastMac else (s.host.arp.find? (fun e => e.ip == s.hop ip)).map (fun e => e.mac)

/-- An IPv4 packet's frame. -/
def State.ipFrame (s : State) (dst proto : Nat) (payload : List Byte) : List (List Byte) :=
  match s.macOf dst with
  | some mac => [etherFrame mac s.ownMac 0x0800 (ipv4 (s.rd R.HOST_IP).toNat dst proto payload)]
  | none => []

/-- The frames on the jack that an emission is, told in the state right after it; none for what leaves elsewhere and for a datagram whose next hop is still asked
for. -/
def State.jackFrames (s : State) (e : Emission) : List (List Byte) :=
  let own := (s.rd R.HOST_IP).toNat
  match e with
  | .udp ip port payload => s.ipFrame ip 17 (udpDatagram own ip 40128 port payload)
  | .echo ip idSeq data => s.ipFrame ip 1 (echoReply idSeq data)
  | .arp 0 ip _ => [etherFrame bcastMac s.ownMac 0x0806 (arpBytes 1 s.ownMac own 0 ip)]
  | .arp 1 ip mac => [etherFrame mac s.ownMac 0x0806 (arpBytes 2 s.ownMac own mac ip)]
  | .arp _ ip _ => [etherFrame bcastMac s.ownMac 0x0806 (arpBytes 1 s.ownMac own 0 ip)]
  | .magic mac => s.ipFrame s.bcastIp 17 (udpDatagram own s.bcastIp 40128 9 (magicBytes mac)) ++ [etherFrame bcastMac s.ownMac 0x0842 (magicBytes mac)]
  | _ => []

end Sys2Proof.Machine
end

