-- ==== Sys2Proof/Machine/Contacts.lean ====
section
/-! DEFINITION. What the contacts show that no register holds (chapter 2, R373): each follows from the state. Reset is `booting`; unpowered is bring-up's stage 0. -/

namespace Sys2Proof.Machine

/-- What a differential output drives (R38, R56, R373). -/
inductive Pair where
  | highZ
  | negative
  | positive
  deriving DecidableEq, Repr

/-- OUT n, n from 0 to 15, is energised (R40, R56, R237). -/
def State.outOn (s : State) (n : Nat) : Bool := s.contact n

/-- FOUT n, n from 0 to 7, which is output 16 + n (R56, R373). -/
def State.fout (s : State) (n : Nat) : Pair := if s.booting then .highZ else if s.contact (16 + n) then .positive else .negative

/-- ENC_24V0 to ENC_24V3 are on (R37, R40, R56, R237, R373): not in reset, not without OUT_24V, not with HUB off. -/
def State.encSupply (s : State) : Bool := !s.booting && !s.noSupply && s.dom domHub != domOff

/-- A Herd port sends a signal (R56, R373): not before the logic step, not with the port off. -/
def State.herdSignal (s : State) (portB : Bool) : Bool := !s.booting && s.get (portState portB) != pOff

/-- X13's green lamp shows link (R44). -/
def State.linkLamp (s : State) : Bool := s.get F.HOST_STAT_SPEED != 0

/-- X13's yellow lamp shows activity: a frame has passed within a free time (R44). -/
def State.actLamp (s : State) : Bool := match s.host.act with | some a => decide (s.lt < a + Config.lampNs) | none => false

/-- KEY_VCC and the key port's pull-ups (R50, R56, R373). -/
def State.keySupply (s : State) : Bool := s.key.vcc

/-- TWp_SUP in mV (R54, R56, R336). -/
def State.twSupply (s : State) (p : Nat) : Nat := if (s.tw p).supply then (if s.isSet (F.TW_CFG_SUP_V p) then 5000 else 3300) else 0

/-- HEALTHY_N is held low (R52, R56, R462). -/
def State.healthyHeld (s : State) : Bool := s.svcAnswers && s.isSet F.SVC_STAT_HEALTHY

/-- HOST_WAKE is high (R52, R56, R363). -/
def State.hostWake (s : State) : Bool := s.isSet F.HOST_STAT_WAKE_PIN

end Sys2Proof.Machine
end

