-- ==== Sys2Proof/Safety.lean ====
section
/-! DEFINITION. What the claims speak of: a command that completes with a given next state, a Filsy instruction that a core can run, and the soundness
of a core and of the state. -/

namespace Sys2Proof

/-- The instructions that only compute (R256 to R260, R263 MFS): their core and destination register. -/
def Instr.computes : Instr → Option (Fin 9 × BitVec 4)
  | .add c d _ _ _ => some (c, d)
  | .adc c d _ _ _ => some (c, d)
  | .sub c d _ _ _ => some (c, d)
  | .sbc c d _ _ _ => some (c, d)
  | .adds c d _ _ _ => some (c, d)
  | .subs c d _ _ _ => some (c, d)
  | .neg c d _ _ _ => some (c, d)
  | .negs c d _ _ _ => some (c, d)
  | .andI c d _ _ _ => some (c, d)
  | .orI c d _ _ _ => some (c, d)
  | .xor c d _ _ _ => some (c, d)
  | .andn c d _ _ _ => some (c, d)
  | .minI c d _ _ _ => some (c, d)
  | .maxI c d _ _ _ => some (c, d)
  | .minu c d _ _ _ => some (c, d)
  | .maxu c d _ _ _ => some (c, d)
  | .abs c d _ _ _ => some (c, d)
  | .abss c d _ _ _ => some (c, d)
  | .sextb c d _ _ _ => some (c, d)
  | .sexth c d _ _ _ => some (c, d)
  | .clz c d _ _ _ => some (c, d)
  | .popc c d _ _ _ => some (c, d)
  | .sel c d _ _ _ => some (c, d)
  | .mul c d _ _ _ => some (c, d)
  | .mulh c d _ _ _ => some (c, d)
  | .mulhu c d _ _ _ => some (c, d)
  | .mac c d _ _ _ => some (c, d)
  | .macs c d _ _ _ => some (c, d)
  | .mulq c d _ _ _ => some (c, d)
  | .macq c d _ _ _ => some (c, d)
  | .divI c d _ _ _ => some (c, d)
  | .divu c d _ _ _ => some (c, d)
  | .rem c d _ _ _ => some (c, d)
  | .remu c d _ _ _ => some (c, d)
  | .mfs c d _ _ _ => some (c, d)
  | .shl c d _ _ _ _ => some (c, d)
  | .shr c d _ _ _ _ => some (c, d)
  | .sar c d _ _ _ _ => some (c, d)
  | .ror c d _ _ _ _ => some (c, d)
  | .rol c d _ _ _ _ => some (c, d)
  | .shls c d _ _ _ _ => some (c, d)
  | .addi c d _ _ => some (c, d)
  | .subi c d _ _ => some (c, d)
  | .andi c d _ _ => some (c, d)
  | .ori c d _ _ => some (c, d)
  | .xori c d _ _ => some (c, d)
  | .lui c d _ => some (c, d)
  | _ => none

/-- The commands that can write a byte of memory: a Filsy instruction, a posted store, a store of the churns' own data (R174, R188, R196), a ring's record
(R300), a core's or the part's own pop and snapshot, what writes memory anew (R284, R327, R407), what reads the store or a record and may find its line
uncorrectable (R285: a hub queue then resets), what enters or leaves WATCH, COMMISSION or FAULT_HOLD (R402, R406, R405: teaching restarts, tiles go off or come
back). -/
def Instr.mayStore (i : Instr) : Bool := i.filsyCore.isSome || match i with
    | .pointArrival .. | .foldWaitExpiry .. | .closeWaitExpiry .. | .maxCycleTimeout .. | .cycleSourceLoss .. | .judgementEnd .. | .teach ..
    | .scanStepBoundary .. | .sampleEmit .. | .formingEnd .. | .beaconRx .. | .keyChecksEnd .. | .tileReloadDrainEnd .. | .parkExpiry .. | .watchOn ..
    | .watchOff .. | .autoWatchExpiry .. | .queuePopDone .. | .fltSnap .. | .ladleRecordMove .. | .ladleGapWrite .. | .registerWrite ..
    | .memoryInitDone .. | .warmReset .. | .supplyLinkAck .. | .pllLockLost .. | .keyCommitEnd .. | .reloadStart .. | .reloadDrainEnd ..
    | .reloadApply .. | .hubSwitchEnd .. | .tileReloadStart .. | .tileReloadApply .. | .tileRestartDrainEnd .. | .tileRestartApply .. | .tileBack ..
    | .svcWriteTransfer .. | .svcCommission .. | .postedStoreDone .. | .scrubLine .. | .domainStop .. | .hubWakeOn .. | .supplyLinkTimeout ..
    | .vcoreLow ..
    | .coresStart .. | .hostReqChangeover .. | .keyBlockReadEnd .. | .keyInsert .. | .keyLoadEntry .. | .keyPortHang .. | .keyReadFail ..
    | .keyReadStart .. | .keyRemove .. | .queuePushDone .. | .reload .. | .signatureCheckEnd .. | .stage .. | .tileReloadEnd ..
    | .twCycleSample .. | .twSupplyTrip .. | .logicRelease .. | .captureEdge .. | .subscriptionExpiry .. | .changeoverAccept .. | .svcRelease ..
    | .commissionEnd .. | .burnEnd .. => true
    | _ => false

/-- The commands that can change a core beyond its pending bits: a Filsy instruction, an entry or an end of WAIT, a posted store, a core fault, and what starts,
stops or resets cores, an uncorrectable line of a tile's memory or of the hub's tables among it (R285). -/
def Instr.mayMoveCores (i : Instr) : Bool := i.filsyCore.isSome || match i with
    | .coresStart .. | .changeoverAccept .. | .tileReloadEnd .. | .eventEntry .. | .waitEnd .. | .memoryInitDone .. | .warmReset ..
    | .supplyLinkAck .. | .pllLockLost .. | .keyCommitEnd .. | .reloadStart .. | .reloadDrainEnd .. | .reloadApply .. | .hubSwitchEnd ..
    | .tileReloadStart .. | .tileReloadApply .. | .tileRestartDrainEnd .. | .tileRestartApply .. | .tileBack .. | .svcWriteTransfer ..
    | .svcCommission .. | .postedStoreDone .. | .scrubLine .. | .domainStop .. | .hubWakeOn .. | .supplyLinkTimeout .. | .vcoreLow ..
    | .hostReqChangeover .. | .keyBlockReadEnd .. | .keyChecksEnd .. | .keyInsert .. | .keyLoadEntry .. | .keyPortHang ..
    | .keyReadFail .. | .keyReadStart .. | .keyRemove .. | .ladleRecordMove .. | .queuePushDone .. | .reload .. | .signatureCheckEnd ..
    | .stage .. | .twCycleSample .. | .twSupplyTrip .. | .registerWrite .. | .logicRelease .. => true
    | _ => false

namespace Machine

/-- The command answers a next state of which `P` holds. -/
def Completes (i : Instr) (s : State) (P : State → Prop) : Prop := ∃ t, exec i s = .next t ∧ P t

/-- Core `c` issues instruction `i` with nothing in its way (R248, R249, R253, R273, R275, R283, R427): it runs, PC lies on a word of its fetch area that
holds no error and is not poisoned, and the instruction is legal for it. -/
def State.canRun (s : State) (c : Fin 9) (i : Instr) : Prop :=
  s.coreIssues c = true ∧ goodTarget (s.core c).large (s.core c).pc = true ∧ ((s.core c).large && s.poisoned (s.core c).pc.toNat 4) = false ∧
    (s.core c).legal i = true ∧ s.wordSound (coreMem c (s.core c).pc.toNat) = true

/-- The state after an instruction of core `c` that leaves the core as `x` before it goes on to the next instruction or iteration. -/
def State.ranTo (s : State) (c : Fin 9) (x : Core) : State := s.setCore c x.retire

/-- Whenever core `c` can run instruction `i`, it completes with register `d` holding `r` and FLAGS `f` of the core before it, and nothing else changes but
that the core goes on. -/
def FilsyGives (c : Fin 9) (i : Instr) (d : BitVec 4) (r f : Core → Word) : Prop :=
  ∀ s, s.canRun c i → exec i s = .next (s.ranTo c ((s.core c).result d ⟨r (s.core c), f (s.core c)⟩))

/-- FLAGS as they are. -/
abbrev sameFlags (x : Core) : Word := x.flags

/-- Bit `n` of FLAGS as a number. -/
def flagBit (x : Core) (n : Nat) : Nat := (x.flags.getLsbD n).toNat

/-- FLAGS of an exact sum or difference `e` whose low word is `r` (R256): N and Z from `r`, C as given, V where `r` is not `e`. -/
def flExact (r : Word) (e : Int) (c : Bool) (f : Word) : Word := flNZCV r c (decide (r.toInt ≠ e)) f

/-- The clamped result and its flags (R256 sat). -/
def satWord (e : Int) : Word := (clamp32 e).1
/-- FLAGS of a saturating result: SAT is set where the exact value lies outside 32 bits. -/
def flClamped (e : Int) (f : Word) : Word := flSat (satWord e) (decide (e < -0x80000000 ∨ 0x7FFFFFFF < e)) f

/-- The amount of a shift (R258): K, or bits [7:0] of B. -/
def shiftAmount (x : Core) (b : BitVec 4) (k : BitVec 8) (byK : Bool) : Nat := if byK then k.toNat else (x.reg b).toNat % 256

/-- An exact product rounded by 2^(K − 1) and shifted right by K (R259). -/
def roundedShift (p : Int) (k : Nat) : Int := if k = 0 then p else (p + 2 ^ (k - 1)) / 2 ^ k

/-- A division's result with N and Z, V as given, C unchanged (R259). -/
def divided (x : Core) (r : Word) (v : Bool) : Alu := ⟨r, flNZV r v x.flags⟩

/-- The state after a division by 0 of core `c` (R260): the result, N and Z, V 0, DZ set, and the core's DIV0 source pending. -/
def State.dividedByZero (s : State) (c : Fin 9) (d : BitVec 4) (r : Word) : State :=
  let x := (s.core c).result d ⟨r, bitTo (flNZV r false (s.core c).flags) fDz true⟩
  s.ranTo c (x.pend (if (s.core c).large then 64 else 0))

/-- A load of `n` bytes by core `c` at `m` finds memory that it can read now (R249 to R251, R427): in a memory window, aligned, behind no posted store
to that window, not poisoned, its word without an error (R283). -/
def State.memReads (s : State) (c : Fin 9) (m n : Nat) : Prop :=
  memAddr c m = true ∧ accessFault (s.core c).large m n = none ∧ (s.core c).behindPosted m = false ∧ s.poisoned (coreMem c m) n = false ∧
    s.wordSound (coreMem c m) = true

/-- A word load by core `c` at `m` reads a register window or an envelope table now (R249 to R251). -/
def State.regReads (s : State) (c : Fin 9) (m : Nat) : Prop :=
  memAddr c m = false ∧ accessFault (s.core c).large m 4 = none ∧ (s.core c).behindPosted m = false

/-- Byte `n` of what core `c` reads from address `m` on, as a number. -/
def State.at_ (s : State) (c : Fin 9) (m n : Nat) : Nat := (s.byte (coreMem c m + n)).toNat

/-- The little-endian halfword at `m` (R249). -/
def State.half (s : State) (c : Fin 9) (m : Nat) : Nat := s.at_ c m 0 + 256 * s.at_ c m 1

/-- The little-endian word at `m` (R249). -/
def State.word (s : State) (c : Fin 9) (m : Nat) : Nat := s.half c m + 65536 * (s.at_ c m 2 + 256 * s.at_ c m 3)

/-- A store of `n` bytes by core `c` at `m` goes to the core's own fetch memory and takes effect (R249, R251, R330); a byte or halfword store reads a word without
an error first (R283). -/
def State.memWrites (s : State) (c : Fin 9) (m n : Nat) : Prop :=
  accessFault (s.core c).large m n = none ∧ windowOf (s.core c).large m = some (if (s.core c).large then 1 else 0) ∧
    (∀ j, j < n → s.storable c (m + j) = true) ∧ (n < 4 → s.wordSound (coreMem c m) = true)

/-- Memory in `t` is that of `s` with the low `n` bytes of `v` at `m` of core `c`'s view, least significant first, and every other byte as it was; so are every
other core, line time, the queues, and every register but the bit that tells of poisoned lines of hub memory (R285). -/
def State.stored (s t : State) (c : Fin 9) (m n : Nat) (v : Word) : Prop :=
  (∀ j, j < n → t.byte (coreMem c m + j) = BitVec.ofNat 8 (v.toNat / 256 ^ j)) ∧
    (∀ x, (x < coreMem c m ∨ coreMem c m + n ≤ x) → t.byte x = s.byte x) ∧ (∀ k, k ≠ c.val → t.core k = s.core k) ∧
    (∀ a, a ≠ R.MEMM_STAT 16 → t.rd a = s.rd a) ∧ t.lt = s.lt ∧ t.queues = s.queues ∧ t.env = s.env ∧ t.out = s.out ∧ t.pending = s.pending

/-- A store of `n` bytes by core `c` at `m` is posted (R251): to another window than its fetch memory, with fewer than 4 posted. -/
def State.posts (s : State) (c : Fin 9) (m n : Nat) : Prop :=
  accessFault (s.core c).large m n = none ∧ windowOf (s.core c).large m ≠ some (if (s.core c).large then 1 else 0) ∧ (s.core c).posted.length < 4

/-- A core with one more posted store. -/
def Core.post (x : Core) (m n : Nat) (v : Word) : Core := { x with posted := x.posted ++ [⟨m, n, v⟩] }

/-- The address of a load or store (R261): A + IMM18, sign-extended. -/
def eaOf (x : Core) (a : BitVec 4) (i : BitVec 18) : Nat := (x.reg a + i.signExtend 32).toNat

/-- The core goes on at an address, outside any repeat (R262). -/
def Core.goesTo (x : Core) (m : Word) : Core := { x with pc := m, rep := none, stalled := false, held := false }

/-- A branch target (R262): PC + 4 × OFF22, signed. -/
def targetOf (x : Core) (off : BitVec 22) : Word := BitVec.ofInt 32 (x.pc.toInt + 4 * off.toInt)

/-- The vat core with a CALL entry for the instruction after this one (R271). -/
def Core.pushCall (x : Core) : Core := { x with rs := ⟨.call, x.pc + 4#32, x.flags, 0⟩ :: x.rs }

/-- Source `n` is the lowest that is pending and enabled (R270). -/
def Core.lowest (x : Core) (n : Nat) : Prop := x.sourceReady n = true ∧ n < 65 ∧ ∀ m, m < n → x.sourceReady m = false

/-- The core is at a boundary where it may take an event (R267, R270). -/
def Core.mayTake (x : Core) : Prop :=
  x.flags.getLsbD fIe = true ∧ x.held = false ∧ x.stalled = false ∧ (x.large = true → x.rs.length ≤ 61) ∧ (x.large = false → x.rep = none)

/-- A good copy of `f` at port `portB` is for this module alone, which takes it (R145, R147). -/
def State.isFor (s : State) (portB : Bool) (f : Frame) : Prop :=
  s.ringTakes portB = true ∧ s.herdFull = true ∧ f.origin ≠ s.line ∧ f.bcast = false ∧ f.dest = s.line

/-- A record transport datagram that the module takes (R342, R343, R345, R365): its port runs, the frame and the packet are sound, the message verifies. -/
def State.takes (s : State) (dg : Dgram) : Prop :=
  s.hostTalks = true ∧ frameSound dg.frame = true ∧ packetSound dg.frame = true ∧ dg.toPort = 40128 ∧ dg.sum = true ∧ dg.good = true

/-- What holds of core `k` at all times (R243, R245, R251, R264, R271): PROF shows its profile, the reserved bits of FLAGS are 0, the return stack holds
at most 64 entries, at most 4 stores are posted, a latched iteration count is not 0. -/
def Core.sound (c : Core) (k : Nat) : Prop :=
  c.large = decide (k = 8) ∧ c.flags &&& 0xFFF8FCF0#32 = 0#32 ∧ c.rs.length ≤ 64 ∧ c.posted.length ≤ 4 ∧ c.rep ≠ some 0

/-- The next fault of core `k` is taken and does not halt it (R273). -/
def Core.faultsOpen (c : Core) : Prop := c.faultHalts = false

/-- The commands `ws` wait, and memory, registers and cores are in canonical form, so that equal contents are equal data. -/
structure State.formed (ws : List Instr) (s : State) : Prop where
  pending : s.pending = ws
  mem : Memory.wf s.mem = true
  regs : tabWf regReset s.regs = true
  cores : tabWf coreDefault s.cores = true

/-- Two cores differ in general registers `d` and `a`, PC, FLAGS and the progress of the instruction stream alone. -/
def Core.onlyRegs (c x : Core) (ds : List (BitVec 4)) : Prop :=
  (∀ r, r ∉ ds → x.reg r = c.reg r) ∧ x.rc = c.rc ∧ x.evtPc = c.evtPc ∧ x.evtFlags = c.evtFlags ∧ x.evtIter = c.evtIter ∧ x.evtCause = c.evtCause ∧
    x.evtAddr = c.evtAddr ∧ x.vecBase = c.vecBase ∧ x.en0 = c.en0 ∧ x.en1 = c.en1 ∧ x.en2 = c.en2 ∧ x.dspLo = c.dspLo ∧ x.dspHi = c.dspHi ∧
    x.rs = c.rs ∧ x.posted = c.posted ∧ x.running = c.running ∧ x.halted = c.halted ∧ x.waiting = c.waiting

end Machine
end Sys2Proof
end

