-- ==== Sys2Proof/Certificates/Slice0/Obligations.lean ====
section
/-! DEFINITION. The statements about the block that are to be proved. -/

section Statements

open Sys2Proof Sys2Proof.Machine

/-! ## The step, reset and encodings -/

/-- A step takes the command at the front of the queue and runs it with the rest of the queue; with none waiting the block idles. The model's choices:
assumptions 1 and 3. -/
def Obligations.StepRunsFrontCommand : Prop :=
  (∀ (s : State) (i : Instr) (rest : List Instr), step { s with pending := i :: rest } = exec i { s with pending := rest }) ∧
    ∀ s : State, s.pending = [] → step s = .next s.idle

/-- R253, R254: every Filsy instruction, so every well-formed one, has a word, and the word spells that instruction again. -/
def Obligations.FilsyDecodeOfEncode : Prop :=
  ∀ (i : Instr) (c : Fin 9), i.filsyCore = some c →
    (∃ w, encodeFilsy i = some w) ∧ ∀ w, encodeFilsy i = some w → decodeFilsy c w = some i

/-! ## Filsy results -/

/-- R244: of a core's 16 general registers G0 reads 0 and keeps nothing that is written to it, and every other one reads what was written to it last;
the results below hold for every destination, so their flags are set for G0 too. R256: the integer group: each result and its flags. -/
def Obligations.IntegerGroupResults : Prop :=
  (∀ (x : Core) (r q : BitVec 4) (v : Word),
     x.reg 0#4 = 0#32 ∧ x.setReg 0#4 v = x ∧ (r ≠ 0#4 → (x.setReg r v).reg r = v) ∧ (q ≠ r → (x.setReg r v).reg q = x.reg q)) ∧
  (∀ (c : Fin 9) (d a b : BitVec 4) (k : BitVec 8),
     FilsyGives c (.add c d a b k) d (fun x => x.reg a + x.reg b)
         (fun x => flExact (x.reg a + x.reg b) ((x.reg a).toInt + (x.reg b).toInt) (decide (2 ^ 32 ≤ (x.reg a).toNat + (x.reg b).toNat)) x.flags) ∧
       FilsyGives c (.adc c d a b k) d (fun x => x.reg a + x.reg b + w32 (flagBit x fC))
         (fun x => flExact (x.reg a + x.reg b + w32 (flagBit x fC)) ((x.reg a).toInt + (x.reg b).toInt + flagBit x fC)
           (decide (2 ^ 32 ≤ (x.reg a).toNat + (x.reg b).toNat + flagBit x fC)) x.flags) ∧
       FilsyGives c (.sub c d a b k) d (fun x => x.reg a - x.reg b)
         (fun x => flExact (x.reg a - x.reg b) ((x.reg a).toInt - (x.reg b).toInt) (decide ((x.reg b).toNat ≤ (x.reg a).toNat)) x.flags) ∧
       FilsyGives c (.sbc c d a b k) d (fun x => x.reg a - x.reg b - w32 (1 - flagBit x fC))
         (fun x => flExact (x.reg a - x.reg b - w32 (1 - flagBit x fC)) ((x.reg a).toInt - (x.reg b).toInt - (1 - flagBit x fC))
           (decide ((x.reg b).toNat + (1 - flagBit x fC) ≤ (x.reg a).toNat)) x.flags) ∧
       FilsyGives c (.adds c d a b k) d (fun x => satWord ((x.reg a).toInt + (x.reg b).toInt))
         (fun x => flClamped ((x.reg a).toInt + (x.reg b).toInt) x.flags) ∧
       FilsyGives c (.subs c d a b k) d (fun x => satWord ((x.reg a).toInt - (x.reg b).toInt))
         (fun x => flClamped ((x.reg a).toInt - (x.reg b).toInt) x.flags) ∧
       FilsyGives c (.neg c d a b k) d (fun x => 0#32 - x.reg a)
         (fun x => flExact (0#32 - x.reg a) (-(x.reg a).toInt) (decide (x.reg a = 0#32)) x.flags) ∧
       FilsyGives c (.negs c d a b k) d (fun x => satWord (-(x.reg a).toInt)) (fun x => flClamped (-(x.reg a).toInt) x.flags) ∧
       FilsyGives c (.minI c d a b k) d (fun x => if (x.reg a).toInt ≤ (x.reg b).toInt then x.reg a else x.reg b)
         (fun x => flNZ (if (x.reg a).toInt ≤ (x.reg b).toInt then x.reg a else x.reg b) x.flags) ∧
       FilsyGives c (.maxI c d a b k) d (fun x => if (x.reg b).toInt ≤ (x.reg a).toInt then x.reg a else x.reg b)
         (fun x => flNZ (if (x.reg b).toInt ≤ (x.reg a).toInt then x.reg a else x.reg b) x.flags) ∧
       FilsyGives c (.minu c d a b k) d (fun x => if (x.reg a).toNat ≤ (x.reg b).toNat then x.reg a else x.reg b)
         (fun x => flNZ (if (x.reg a).toNat ≤ (x.reg b).toNat then x.reg a else x.reg b) x.flags) ∧
       FilsyGives c (.maxu c d a b k) d (fun x => if (x.reg b).toNat ≤ (x.reg a).toNat then x.reg a else x.reg b)
         (fun x => flNZ (if (x.reg b).toNat ≤ (x.reg a).toNat then x.reg a else x.reg b) x.flags) ∧
       FilsyGives c (.abs c d a b k) d (fun x => if (x.reg a).toInt < 0 then 0#32 - x.reg a else x.reg a)
         (fun x => flNZV (if (x.reg a).toInt < 0 then 0#32 - x.reg a else x.reg a) (decide (x.reg a = 0x80000000#32)) x.flags) ∧
       FilsyGives c (.abss c d a b k) d (fun x => satWord ((x.reg a).toInt.natAbs : Nat)) (fun x => flClamped ((x.reg a).toInt.natAbs : Nat) x.flags)) ∧
  (∀ (c : Fin 9) (d a b : BitVec 4) (k : BitVec 8),
     FilsyGives c (.andI c d a b k) d (fun x => x.reg a &&& x.reg b) (fun x => flNZ (x.reg a &&& x.reg b) x.flags) ∧
       FilsyGives c (.orI c d a b k) d (fun x => x.reg a ||| x.reg b) (fun x => flNZ (x.reg a ||| x.reg b) x.flags) ∧
       FilsyGives c (.xor c d a b k) d (fun x => x.reg a ^^^ x.reg b) (fun x => flNZ (x.reg a ^^^ x.reg b) x.flags) ∧
       FilsyGives c (.andn c d a b k) d (fun x => x.reg a &&& ~~~(x.reg b)) (fun x => flNZ (x.reg a &&& ~~~(x.reg b)) x.flags) ∧
       FilsyGives c (.sextb c d a b k) d (fun x => (BitVec.ofNat 8 (x.reg a).toNat).signExtend 32)
         (fun x => flNZ ((BitVec.ofNat 8 (x.reg a).toNat).signExtend 32) x.flags) ∧
       FilsyGives c (.sexth c d a b k) d (fun x => (BitVec.ofNat 16 (x.reg a).toNat).signExtend 32)
         (fun x => flNZ ((BitVec.ofNat 16 (x.reg a).toNat).signExtend 32) x.flags) ∧
       FilsyGives c (.clz c d a b k) d (fun x => w32 (((List.range 32).find? (fun n => (x.reg a).getLsbD (31 - n))).getD 32))
         (fun x => flNZ (w32 (((List.range 32).find? (fun n => (x.reg a).getLsbD (31 - n))).getD 32)) x.flags) ∧
       FilsyGives c (.popc c d a b k) d (fun x => w32 ((List.range 32).countP (fun n => (x.reg a).getLsbD n)))
         (fun x => flNZ (w32 ((List.range 32).countP (fun n => (x.reg a).getLsbD n))) x.flags) ∧
       FilsyGives c (.sel c d a b k) d (fun x => if condHolds k.toNat x.flags then x.reg a else x.reg b) sameFlags)

/-- R257: the immediate instructions. R258: the shift group, with the amount in B[7:0] or in K. -/
def Obligations.ImmediateAndShiftResults : Prop :=
  (∀ (c : Fin 9) (d a : BitVec 4) (i : BitVec 18) (u : BitVec 22),
     FilsyGives c (.addi c d a i) d (fun x => x.reg a + i.signExtend 32)
         (fun x => flExact (x.reg a + i.signExtend 32) ((x.reg a).toInt + i.toInt)
           (decide (2 ^ 32 ≤ (x.reg a).toNat + (i.signExtend 32).toNat)) x.flags) ∧
       FilsyGives c (.subi c d a i) d (fun x => x.reg a - i.signExtend 32)
         (fun x => flExact (x.reg a - i.signExtend 32) ((x.reg a).toInt - i.toInt) (decide ((i.signExtend 32).toNat ≤ (x.reg a).toNat)) x.flags) ∧
       FilsyGives c (.andi c d a i) d (fun x => x.reg a &&& i.zeroExtend 32) (fun x => flNZ (x.reg a &&& i.zeroExtend 32) x.flags) ∧
       FilsyGives c (.ori c d a i) d (fun x => x.reg a ||| i.zeroExtend 32) (fun x => flNZ (x.reg a ||| i.zeroExtend 32) x.flags) ∧
       FilsyGives c (.xori c d a i) d (fun x => x.reg a ^^^ i.zeroExtend 32) (fun x => flNZ (x.reg a ^^^ i.zeroExtend 32) x.flags) ∧
       FilsyGives c (.lui c d u) d (fun _ => w32 (u.toNat * 1024)) sameFlags) ∧
  (∀ (c : Fin 9) (d a b : BitVec 4) (k : BitVec 8),
       (∀ byK, FilsyGives c (.shl c d a b k byK) d (fun x => w32 ((x.reg a).toNat * 2 ^ shiftAmount x b k byK))
         (fun x => flNZCV (w32 ((x.reg a).toNat * 2 ^ shiftAmount x b k byK)) (decide (1 ≤ shiftAmount x b k byK ∧ shiftAmount x b k byK ≤ 32) && (x.reg a).getLsbD (32 - shiftAmount x b k byK)) false x.flags)) ∧
       (∀ byK, FilsyGives c (.shr c d a b k byK) d (fun x => w32 ((x.reg a).toNat / 2 ^ shiftAmount x b k byK))
         (fun x => flNZCV (w32 ((x.reg a).toNat / 2 ^ shiftAmount x b k byK)) (decide (1 ≤ shiftAmount x b k byK ∧ shiftAmount x b k byK ≤ 32) && (x.reg a).getLsbD (shiftAmount x b k byK - 1)) false x.flags)) ∧
       (∀ byK, FilsyGives c (.sar c d a b k byK) d (fun x => BitVec.ofInt 32 ((x.reg a).toInt / (2 ^ shiftAmount x b k byK : Nat)))
         (fun x => flNZCV (BitVec.ofInt 32 ((x.reg a).toInt / (2 ^ shiftAmount x b k byK : Nat))) (decide (1 ≤ shiftAmount x b k byK) && (x.reg a).getLsbD (min (shiftAmount x b k byK - 1) 31)) false x.flags)) ∧
       (∀ byK, FilsyGives c (.ror c d a b k byK) d (fun x => (x.reg a).rotateRight (shiftAmount x b k byK % 32))
         (fun x => flNZCV ((x.reg a).rotateRight (shiftAmount x b k byK % 32)) (decide (shiftAmount x b k byK % 32 ≠ 0) && (x.reg a).getLsbD (shiftAmount x b k byK % 32 - 1)) false x.flags)) ∧
       (∀ byK, FilsyGives c (.rol c d a b k byK) d (fun x => (x.reg a).rotateLeft (shiftAmount x b k byK % 32))
         (fun x => flNZCV ((x.reg a).rotateLeft (shiftAmount x b k byK % 32)) (decide (shiftAmount x b k byK % 32 ≠ 0) && (x.reg a).getLsbD (32 - shiftAmount x b k byK % 32)) false x.flags)) ∧
       (∀ byK, FilsyGives c (.shls c d a b k byK) d (fun x => satWord ((x.reg a).toInt * (2 ^ shiftAmount x b k byK : Nat)))
         (fun x => bitTo (flClamped ((x.reg a).toInt * (2 ^ shiftAmount x b k byK : Nat)) x.flags) fC false)))

/-- R255: every condition tests the flags that the table says, which after a compare, that is after the FLAGS of SUB, is the relation of the two
operands that the table says; code 15 is not legal in B or SEL, nor any code but 0 in CALL. -/
def Obligations.ConditionCodes : Prop :=
  (∀ f : Word,
    let n := f.getLsbD fN
    let z := f.getLsbD fZ
    let cy := f.getLsbD fC
    let v := f.getLsbD fV
    condHolds 0 f = true ∧ condHolds 1 f = z ∧ condHolds 2 f = !z ∧ condHolds 3 f = cy ∧ condHolds 4 f = !cy ∧ condHolds 5 f = (cy && !z) ∧
      condHolds 6 f = (!cy || z) ∧ condHolds 7 f = n ∧ condHolds 8 f = !n ∧ condHolds 9 f = v ∧ condHolds 10 f = !v ∧
      condHolds 11 f = decide (n = v) ∧ condHolds 12 f = decide (n ≠ v) ∧ condHolds 13 f = (!z && decide (n = v)) ∧
      condHolds 14 f = (z || decide (n ≠ v))) ∧
  (∀ (a b f : Word),
    condHolds 0 (aluSub a b false f).f = true ∧
      condHolds 1 (aluSub a b false f).f = decide (a = b) ∧
      condHolds 2 (aluSub a b false f).f = decide (a ≠ b) ∧
      condHolds 3 (aluSub a b false f).f = decide (b.toNat ≤ a.toNat) ∧
      condHolds 4 (aluSub a b false f).f = decide (a.toNat < b.toNat) ∧
      condHolds 5 (aluSub a b false f).f = decide (b.toNat < a.toNat) ∧
      condHolds 6 (aluSub a b false f).f = decide (a.toNat ≤ b.toNat) ∧
      condHolds 7 (aluSub a b false f).f = decide ((a - b).toInt < 0) ∧
      condHolds 8 (aluSub a b false f).f = decide (0 ≤ (a - b).toInt) ∧
      condHolds 9 (aluSub a b false f).f = decide ((a - b).toInt ≠ a.toInt - b.toInt) ∧
      condHolds 10 (aluSub a b false f).f = decide ((a - b).toInt = a.toInt - b.toInt) ∧
      condHolds 11 (aluSub a b false f).f = decide (b.toInt ≤ a.toInt) ∧
      condHolds 12 (aluSub a b false f).f = decide (a.toInt < b.toInt) ∧
      condHolds 13 (aluSub a b false f).f = decide (b.toInt < a.toInt) ∧
      condHolds 14 (aluSub a b false f).f = decide (a.toInt ≤ b.toInt)) ∧
  ∀ (c : Fin 9) (x : Core) (d a b cond : BitVec 4) (off : BitVec 22),
    x.legal (.b c 15#4 off) = false ∧ x.legal (.sel c d a b 15#8) = false ∧ (cond ≠ 0#4 → x.legal (.call c cond off) = false)

/-- R259: products, multiply-accumulate and the fixed-point instructions on registers. -/
def Obligations.MultiplyResults : Prop :=
  ∀ (c : Fin 9) (d a b : BitVec 4) (k : BitVec 8),
    FilsyGives c (.mul c d a b k) d (fun x => w32 ((x.reg a).toNat * (x.reg b).toNat)) (fun x => flNZ (w32 ((x.reg a).toNat * (x.reg b).toNat)) x.flags) ∧
      FilsyGives c (.mulh c d a b k) d (fun x => BitVec.ofInt 32 ((x.reg a).toInt * (x.reg b).toInt / 2 ^ 32))
        (fun x => flNZ (BitVec.ofInt 32 ((x.reg a).toInt * (x.reg b).toInt / 2 ^ 32)) x.flags) ∧
      FilsyGives c (.mulhu c d a b k) d (fun x => w32 ((x.reg a).toNat * (x.reg b).toNat / 2 ^ 32))
        (fun x => flNZ (w32 ((x.reg a).toNat * (x.reg b).toNat / 2 ^ 32)) x.flags) ∧
      FilsyGives c (.mac c d a b k) d (fun x => w32 ((x.reg d).toNat + (x.reg a).toNat * (x.reg b).toNat))
        (fun x => flNZ (w32 ((x.reg d).toNat + (x.reg a).toNat * (x.reg b).toNat)) x.flags) ∧
      FilsyGives c (.macs c d a b k) d (fun x => satWord ((x.reg d).toInt + (x.reg a).toInt * (x.reg b).toInt))
        (fun x => flClamped ((x.reg d).toInt + (x.reg a).toInt * (x.reg b).toInt) x.flags) ∧
      FilsyGives c (.mulq c d a b k) d (fun x => satWord (roundedShift ((x.reg a).toInt * (x.reg b).toInt) k.toNat))
        (fun x => flClamped (roundedShift ((x.reg a).toInt * (x.reg b).toInt) k.toNat) x.flags) ∧
      FilsyGives c (.macq c d a b k) d (fun x => satWord ((x.reg d).toInt + roundedShift ((x.reg a).toInt * (x.reg b).toInt) k.toNat))
        (fun x => flClamped ((x.reg d).toInt + roundedShift ((x.reg a).toInt * (x.reg b).toInt) k.toNat) x.flags)

/-- R259, R260: a division by a number that is not 0 truncates toward zero, the remainder takes the dividend's sign; the one overflow has V 1. R260: a
division by 0 has the table's result, sets DZ and raises the core's DIV0 source. -/
def Obligations.DivisionResults : Prop :=
  (∀ (c : Fin 9) (d a b : BitVec 4) (k : BitVec 8) (s : State), (s.core c).reg b ≠ 0#32 →
     (s.canRun c (.divI c d a b k) → exec (.divI c d a b k) s = .next (s.ranTo c ((s.core c).result d (divided (s.core c)
         (BitVec.ofInt 32 (((s.core c).reg a).toInt.tdiv ((s.core c).reg b).toInt))
         (decide ((s.core c).reg a = 0x80000000#32 ∧ (s.core c).reg b = 0xFFFFFFFF#32)))))) ∧
       (s.canRun c (.divu c d a b k) → exec (.divu c d a b k) s = .next (s.ranTo c ((s.core c).result d (divided (s.core c)
         (w32 (((s.core c).reg a).toNat / ((s.core c).reg b).toNat)) false)))) ∧
       (s.canRun c (.rem c d a b k) → exec (.rem c d a b k) s = .next (s.ranTo c ((s.core c).result d (divided (s.core c)
         (BitVec.ofInt 32 (((s.core c).reg a).toInt.tmod ((s.core c).reg b).toInt)) false)))) ∧
       (s.canRun c (.remu c d a b k) → exec (.remu c d a b k) s = .next (s.ranTo c ((s.core c).result d (divided (s.core c)
         (w32 (((s.core c).reg a).toNat % ((s.core c).reg b).toNat)) false))))) ∧
  (∀ (c : Fin 9) (d a b : BitVec 4) (k : BitVec 8) (s : State), (s.core c).reg b = 0#32 →
     (s.canRun c (.divI c d a b k) → exec (.divI c d a b k) s = .next (s.dividedByZero c d
         (if ((s.core c).reg a).toInt < 0 then 0x80000000#32 else 0x7FFFFFFF#32))) ∧
       (s.canRun c (.divu c d a b k) → exec (.divu c d a b k) s = .next (s.dividedByZero c d 0xFFFFFFFF#32)) ∧
       (s.canRun c (.rem c d a b k) → exec (.rem c d a b k) s = .next (s.dividedByZero c d ((s.core c).reg a))) ∧
       (s.canRun c (.remu c d a b k) → exec (.remu c d a b k) s = .next (s.dividedByZero c d ((s.core c).reg a))))

/-- R249, R250, R261: loads from memory, and word loads from register windows and envelope tables, with and without post-increment; a halfword load with
post-increment faults WIDTH there. The model's choices: assumption 17. -/
def Obligations.LoadResults : Prop :=
  ∀ (c : Fin 9) (d a : BitVec 4) (i : BitVec 18) (s : State),
    (s.canRun c (.ldw c d a i) → s.memReads c (eaOf (s.core c) a i) 4 →
      exec (.ldw c d a i) s = .next (s.ranTo c ((s.core c).setReg d (w32 (s.word c (eaOf (s.core c) a i)))))) ∧
    (s.canRun c (.ldh c d a i) → s.memReads c (eaOf (s.core c) a i) 2 →
      exec (.ldh c d a i) s = .next (s.ranTo c ((s.core c).setReg d ((BitVec.ofNat 16 (s.half c (eaOf (s.core c) a i))).signExtend 32)))) ∧
    (s.canRun c (.ldhu c d a i) → s.memReads c (eaOf (s.core c) a i) 2 →
      exec (.ldhu c d a i) s = .next (s.ranTo c ((s.core c).setReg d (w32 (s.half c (eaOf (s.core c) a i)))))) ∧
    (s.canRun c (.ldb c d a i) → s.memReads c (eaOf (s.core c) a i) 1 →
      exec (.ldb c d a i) s = .next (s.ranTo c ((s.core c).setReg d ((BitVec.ofNat 8 (s.at_ c (eaOf (s.core c) a i) 0)).signExtend 32)))) ∧
    (s.canRun c (.ldbu c d a i) → s.memReads c (eaOf (s.core c) a i) 1 →
      exec (.ldbu c d a i) s = .next (s.ranTo c ((s.core c).setReg d (w32 (s.at_ c (eaOf (s.core c) a i) 0))))) ∧
    (s.canRun c (.ldw c d a i) → s.regReads c (eaOf (s.core c) a i) →
      exec (.ldw c d a i) s = .next (s.ranTo c ((s.core c).setReg d (s.busRead (eaOf (s.core c) a i))))) ∧
    (s.canRun c (.ldwp c d a i) → s.memReads c ((s.core c).reg a).toNat 4 →
      exec (.ldwp c d a i) s =
        .next (s.ranTo c (((s.core c).setReg d (w32 (s.word c ((s.core c).reg a).toNat))).setReg a ((s.core c).reg a + i.signExtend 32)))) ∧
    (s.canRun c (.ldhp c d a i) → s.memReads c ((s.core c).reg a).toNat 2 →
      exec (.ldhp c d a i) s =
        .next (s.ranTo c (((s.core c).setReg d ((BitVec.ofNat 16 (s.half c ((s.core c).reg a).toNat)).signExtend 32)).setReg a ((s.core c).reg a + i.signExtend 32)))) ∧
    (s.canRun c (.ldwp c d a i) → s.regReads c ((s.core c).reg a).toNat →
      exec (.ldwp c d a i) s =
        .next (s.ranTo c (((s.core c).setReg d (s.busRead ((s.core c).reg a).toNat)).setReg a ((s.core c).reg a + i.signExtend 32)))) ∧
    (s.canRun c (.ldhp c d a i) → s.regReads c ((s.core c).reg a).toNat → (s.core c).faultsOpen →
      exec (.ldhp c d a i) s = .next (s.setCore c ((s.core c).faultEntry (s.core c).pc 6 0 (some ((s.core c).reg a)))))

/-- R249, R251, R261: stores to a core's own fetch memory write their bytes, least significant first, and no other; a post-increment store then moves
A. -/
def Obligations.StoreResults : Prop :=
  ∀ (c : Fin 9) (d a : BitVec 4) (i : BitVec 18) (s : State),
    (s.canRun c (.stw c d a i) → s.memWrites c (eaOf (s.core c) a i) 4 →
      Completes (.stw c d a i) s (fun t => s.stored t c (eaOf (s.core c) a i) 4 ((s.core c).reg d) ∧ t.core c = (s.core c).retire)) ∧
    (s.canRun c (.sth c d a i) → s.memWrites c (eaOf (s.core c) a i) 2 →
      Completes (.sth c d a i) s (fun t => s.stored t c (eaOf (s.core c) a i) 2 ((s.core c).reg d) ∧ t.core c = (s.core c).retire)) ∧
    (s.canRun c (.stb c d a i) → s.memWrites c (eaOf (s.core c) a i) 1 →
      Completes (.stb c d a i) s (fun t => s.stored t c (eaOf (s.core c) a i) 1 ((s.core c).reg d) ∧ t.core c = (s.core c).retire)) ∧
    (s.canRun c (.stwp c d a i) → s.memWrites c ((s.core c).reg a).toNat 4 →
      Completes (.stwp c d a i) s (fun t => s.stored t c ((s.core c).reg a).toNat 4 ((s.core c).reg d) ∧
        t.core c = ((s.core c).setReg a ((s.core c).reg a + i.signExtend 32)).retire)) ∧
    (s.canRun c (.sthp c d a i) → s.memWrites c ((s.core c).reg a).toNat 2 →
      Completes (.sthp c d a i) s (fun t => s.stored t c ((s.core c).reg a).toNat 2 ((s.core c).reg d) ∧
        t.core c = ((s.core c).setReg a ((s.core c).reg a + i.signExtend 32)).retire))

/-- R251: a store outside the core's own fetch memory is posted and the core goes on; a fifth waits and changes nothing else, whatever its width and form.
R251: every load behind a posted store to the same window waits, and DOTQ where either of its words is; FENCE waits for every posted store, and completes with
none. R251: a posted store that nothing posted before it to the same window holds back completes: its bytes are written in memory, or its word in a register
window or an envelope table, it is posted no longer, and what waited may be issued again; one that is held back changes nothing. The model's choices:
assumptions 20 and 21. -/
def Obligations.PostedStores : Prop :=
  (∀ (c : Fin 9) (d a : BitVec 4) (i : BitVec 18) (s : State),
     (s.canRun c (.stw c d a i) → s.posts c (eaOf (s.core c) a i) 4 →
       exec (.stw c d a i) s = .next (s.ranTo c ((s.core c).post (eaOf (s.core c) a i) 4 ((s.core c).reg d)))) ∧
     (s.canRun c (.sth c d a i) → s.posts c (eaOf (s.core c) a i) 2 →
       exec (.sth c d a i) s = .next (s.ranTo c ((s.core c).post (eaOf (s.core c) a i) 2 ((s.core c).reg d)))) ∧
     (s.canRun c (.stb c d a i) → s.posts c (eaOf (s.core c) a i) 1 →
       exec (.stb c d a i) s = .next (s.ranTo c ((s.core c).post (eaOf (s.core c) a i) 1 ((s.core c).reg d)))) ∧
     (s.canRun c (.stwp c d a i) → s.posts c ((s.core c).reg a).toNat 4 →
       exec (.stwp c d a i) s = .next (s.ranTo c (((s.core c).post ((s.core c).reg a).toNat 4 ((s.core c).reg d)).setReg a ((s.core c).reg a + i.signExtend 32)))) ∧
     (s.canRun c (.sthp c d a i) → s.posts c ((s.core c).reg a).toNat 2 →
       exec (.sthp c d a i) s = .next (s.ranTo c (((s.core c).post ((s.core c).reg a).toNat 2 ((s.core c).reg d)).setReg a ((s.core c).reg a + i.signExtend 32)))) ∧
     (s.canRun c (.stw c d a i) → accessFault (s.core c).large (eaOf (s.core c) a i) 4 = none →
       windowOf (s.core c).large (eaOf (s.core c) a i) ≠ some (if (s.core c).large then 1 else 0) → (s.core c).posted.length = 4 →
       exec (.stw c d a i) s = .next (s.setCore c { s.core c with stalled := true })) ∧
     (let waits (j : Instr) (m n : Nat) : Prop := s.canRun c j → accessFault (s.core c).large m n = none →
        windowOf (s.core c).large m ≠ some (if (s.core c).large then 1 else 0) → 4 ≤ (s.core c).posted.length →
        exec j s = .next (s.setCore c { s.core c with stalled := true })
      waits (.stw c d a i) (eaOf (s.core c) a i) 4 ∧ waits (.sth c d a i) (eaOf (s.core c) a i) 2 ∧ waits (.stb c d a i) (eaOf (s.core c) a i) 1 ∧
        waits (.stwp c d a i) ((s.core c).reg a).toNat 4 ∧ waits (.sthp c d a i) ((s.core c).reg a).toNat 2)) ∧
  (∀ (c : Fin 9) (d a b : BitVec 4) (k : BitVec 8) (i : BitVec 18) (s : State),
     (s.canRun c (.ldw c d a i) → accessFault (s.core c).large (eaOf (s.core c) a i) 4 = none → (s.core c).behindPosted (eaOf (s.core c) a i) = true →
       exec (.ldw c d a i) s = .next (s.setCore c { s.core c with stalled := true })) ∧
     (let waits (j : Instr) (m n : Nat) : Prop := s.canRun c j → accessFault (s.core c).large m n = none → (s.core c).behindPosted m = true →
        exec j s = .next (s.setCore c { s.core c with stalled := true })
      waits (.ldw c d a i) (eaOf (s.core c) a i) 4 ∧ waits (.ldh c d a i) (eaOf (s.core c) a i) 2 ∧ waits (.ldhu c d a i) (eaOf (s.core c) a i) 2 ∧
        waits (.ldb c d a i) (eaOf (s.core c) a i) 1 ∧ waits (.ldbu c d a i) (eaOf (s.core c) a i) 1 ∧
        waits (.ldwp c d a i) ((s.core c).reg a).toNat 4 ∧ waits (.ldhp c d a i) ((s.core c).reg a).toNat 2) ∧
     (s.canRun c (.dotq c d a b k) → accessFault (s.core c).large ((s.core c).reg a).toNat 4 = none →
       accessFault (s.core c).large ((s.core c).reg b).toNat 4 = none → (s.core c).behindPosted ((s.core c).reg a).toNat = true →
       exec (.dotq c d a b k) s = .next (s.setCore c { s.core c with stalled := true })) ∧
     (s.canRun c (.dotq c d a b k) → s.memReads c ((s.core c).reg a).toNat 4 → accessFault (s.core c).large ((s.core c).reg b).toNat 4 = none →
       (s.core c).behindPosted ((s.core c).reg b).toNat = true →
       exec (.dotq c d a b k) s = .next (s.setCore c { s.core c with stalled := true })) ∧
     (s.canRun c (.fence c d a b k) → (s.core c).posted ≠ [] → exec (.fence c d a b k) s = .next (s.setCore c { s.core c with stalled := true })) ∧
     (s.canRun c (.fence c d a b k) → (s.core c).posted = [] → exec (.fence c d a b k) s = .next (s.ranTo c (s.core c)))) ∧
  (∀ (c : Fin 9) (n : Fin 4) (p : Posted) (s : State), (s.core c).posted[n.val]? = some p →
     (∀ q ∈ (s.core c).posted.take n, windowOf (s.core c).large q.addr ≠ windowOf (s.core c).large p.addr) →
     memAddr c p.addr = true → (∀ j, j < p.width → s.storable c (p.addr + j) = true) →
     (p.width < 4 → s.wordSound (coreMem c p.addr) = true) →
       Completes (.postedStoreDone c n) s (fun t => s.stored t c p.addr p.width p.data ∧
         t.core c = { s.core c with posted := (s.core c).posted.eraseIdx n, stalled := false })) ∧
  (∀ (c : Fin 9) (n : Fin 4) (p : Posted) (s : State), (s.core c).posted[n.val]? = some p →
     ((∀ q ∈ (s.core c).posted.take n, windowOf (s.core c).large q.addr ≠ windowOf (s.core c).large p.addr) → memAddr c p.addr = false →
       exec (.postedStoreDone c n) s =
         .next ((s.setCore c { s.core c with posted := (s.core c).posted.eraseIdx n, stalled := false }).busWrite c p.addr p.data)) ∧
     ((∃ q ∈ (s.core c).posted.take n, windowOf (s.core c).large q.addr = windowOf (s.core c).large p.addr) →
       exec (.postedStoreDone c n) s = .next s))

/-- R259, R273: DOTQ adds the rounded product of two words of memory and moves both pointers on. -/
def Obligations.DotqResult : Prop :=
  ∀ (c : Fin 9) (d a b : BitVec 4) (k : BitVec 8) (s : State), s.canRun c (.dotq c d a b k) →
    s.memReads c ((s.core c).reg a).toNat 4 → s.memReads c ((s.core c).reg b).toNat 4 →
      let x := w32 (s.word c ((s.core c).reg a).toNat)
      let y := w32 (s.word c ((s.core c).reg b).toNat)
      let e := ((s.core c).reg d).toInt + roundedShift (x.toInt * y.toInt) k.toNat
      exec (.dotq c d a b k) s = .next (s.ranTo c ((((s.core c).result d ⟨satWord e, flClamped e (s.core c).flags⟩).setReg a ((s.core c).reg a + 4#32)).setReg b
        ((s.core c).reg b + 4#32)))

/-- R261, R272: PUSH and POP of the vat core on its data stack in hub memory; outside DSP_LO and DSP_HI they fault STACK_DS before the access. The
model's choices: assumptions 17 and 18. -/
def Obligations.StackPushPop : Prop :=
  ∀ (c : Fin 9) (d a b : BitVec 4) (k : BitVec 8) (s : State),
    (s.canRun c (.push c d a b k) → (s.core c).dspLo.toNat + 4 ≤ ((s.core c).reg gSp).toNat → a ≠ gSp →
      s.memWrites c (((s.core c).reg gSp) - 4#32).toNat 4 →
      Completes (.push c d a b k) s (fun t => s.stored t c (((s.core c).reg gSp) - 4#32).toNat 4 ((s.core c).reg a) ∧
        t.core c = ((s.core c).setReg gSp ((s.core c).reg gSp - 4#32)).retire)) ∧
    (s.canRun c (.pop c d a b k) → ((s.core c).reg gSp).toNat + 4 ≤ (s.core c).dspHi.toNat → s.memReads c ((s.core c).reg gSp).toNat 4 →
      exec (.pop c d a b k) s = .next (s.ranTo c (((s.core c).setReg d (w32 (s.word c ((s.core c).reg gSp).toNat))).setReg gSp ((s.core c).reg gSp + 4#32)))) ∧
    (s.canRun c (.push c d a b k) → ((s.core c).reg gSp).toNat < (s.core c).dspLo.toNat + 4 → (s.core c).faultsOpen →
      exec (.push c d a b k) s = .next (s.setCore c ((s.core c).faultEntry (s.core c).pc 8 0 none))) ∧
    (s.canRun c (.pop c d a b k) → (s.core c).dspHi.toNat < ((s.core c).reg gSp).toNat + 4 → (s.core c).faultsOpen →
      exec (.pop c d a b k) s = .next (s.setCore c ((s.core c).faultEntry (s.core c).pc 8 0 none)))

/-- R255, R262: B. R243, R262, R271: JR, CALL, CALLR and RET on a pail core. R243, R262, R271: JR, CALL, CALLR and RET on the vat core, with its
return stack: a call needs RS_DEPTH below 60, a return a CALL entry on top. The model's choices: assumptions 15 and 17. -/
def Obligations.BranchesJumpsAndCalls : Prop :=
  (∀ (c : Fin 9) (cond : BitVec 4) (off : BitVec 22) (s : State), s.canRun c (.b c cond off) →
     (condHolds cond.toNat (s.core c).flags = false → exec (.b c cond off) s = .next (s.ranTo c (s.core c))) ∧
     (condHolds cond.toNat (s.core c).flags = true → goodTarget (s.core c).large (targetOf (s.core c) off) = true →
       exec (.b c cond off) s = .next (s.setCore c ((s.core c).goesTo (targetOf (s.core c) off)))) ∧
     (condHolds cond.toNat (s.core c).flags = true → goodTarget (s.core c).large (targetOf (s.core c) off) = false → (s.core c).faultsOpen →
       exec (.b c cond off) s = .next (s.setCore c ((s.core c).faultEntry (s.core c).pc 3 0 (some (targetOf (s.core c) off)))))) ∧
  (∀ (c : Fin 9) (d a b cond : BitVec 4) (k : BitVec 8) (off : BitVec 22) (s : State), (s.core c).large = false →
     (s.canRun c (.jr c d a b k) → goodTarget false ((s.core c).reg a) = true →
       exec (.jr c d a b k) s = .next (s.setCore c ((s.core c).goesTo ((s.core c).reg a)))) ∧
     (s.canRun c (.call c cond off) → goodTarget false (targetOf (s.core c) off) = true →
       exec (.call c cond off) s = .next (s.setCore c (((s.core c).setReg 14#4 ((s.core c).pc + 4#32)).goesTo (targetOf (s.core c) off)))) ∧
     (s.canRun c (.callr c d a b k) → goodTarget false ((s.core c).reg a) = true →
       exec (.callr c d a b k) s = .next (s.setCore c (((s.core c).setReg 14#4 ((s.core c).pc + 4#32)).goesTo ((s.core c).reg a)))) ∧
     (s.canRun c (.ret c d a b k) → goodTarget false ((s.core c).reg 14#4) = true →
       exec (.ret c d a b k) s = .next (s.setCore c ((s.core c).goesTo ((s.core c).reg 14#4))))) ∧
  (∀ (c : Fin 9) (d a b cond : BitVec 4) (k : BitVec 8) (off : BitVec 22) (e : RsEntry) (l : List RsEntry) (s : State), (s.core c).large = true →
     (s.canRun c (.jr c d a b k) → goodTarget true ((s.core c).reg a) = true →
       exec (.jr c d a b k) s = .next (s.setCore c ((s.core c).goesTo ((s.core c).reg a)))) ∧
     (s.canRun c (.call c cond off) → goodTarget true (targetOf (s.core c) off) = true → (s.core c).rs.length < 60 →
       exec (.call c cond off) s = .next (s.setCore c ((s.core c).pushCall.goesTo (targetOf (s.core c) off)))) ∧
     (s.canRun c (.callr c d a b k) → goodTarget true ((s.core c).reg a) = true → (s.core c).rs.length < 60 →
       exec (.callr c d a b k) s = .next (s.setCore c ((s.core c).pushCall.goesTo ((s.core c).reg a)))) ∧
     (s.canRun c (.ret c d a b k) → (s.core c).rs = e :: l → e.kind = .call → goodTarget true e.addr = true →
       exec (.ret c d a b k) s = .next (s.setCore c ({ s.core c with rs := l }.goesTo e.addr))) ∧
     (s.canRun c (.call c cond off) → goodTarget true (targetOf (s.core c) off) = true → 60 ≤ (s.core c).rs.length → (s.core c).faultsOpen →
       exec (.call c cond off) s = .next (s.setCore c ((s.core c).faultEntry (s.core c).pc 7 1 none))) ∧
     (s.canRun c (.ret c d a b k) → (s.core c).rs = [] → exec (.ret c d a b k) s = .next (s.setCore c ((s.core c).faultEntry (s.core c).pc 7 2 none))) ∧
     (s.canRun c (.ret c d a b k) → (s.core c).rs = e :: l → e.kind ≠ .call → (s.core c).faultsOpen →
       exec (.ret c d a b k) s = .next (s.setCore c ((s.core c).faultEntry (s.core c).pc 7 3 none))))

/-- R264 to R267: a prefix latches its count for the instruction behind it, skips that instruction where the count is 0, and on a pail core faults
RPT_LIMIT above 256. R265: a prefix whose next instruction may not be repeated is ILLEGAL at the prefix; those that may are the legal ones of OP 0x00, 0x01,
0x02, 0x08 to 0x0D and 0x10 to 0x1B, MFS and MTS. R264: a completed iteration of an instruction that computes stays there while more are left; the last one goes on
behind it. The model's choices: assumption 17. -/
def Obligations.RepeatPrefixes : Prop :=
  (∀ (c : Fin 9) (d : BitVec 4) (i : BitVec 22) (rest : BitVec 26) (s : State),
     goodTarget (s.core c).large ((s.core c).pc + 4#32) = true → ((s.core c).large && s.poisoned ((s.core c).pc + 4#32).toNat 4) = false →
     s.repeatable c ((s.core c).pc + 4#32) = true →
     (s.canRun c (.rpti c d i) → ((s.core c).large = true ∨ i.toNat ≤ 256) → i.toNat ≠ 0 →
       exec (.rpti c d i) s = .next (s.setCore c { (s.core c).goesTo ((s.core c).pc + 4#32) with rep := some i.toNat })) ∧
     (s.canRun c (.rptr c rest) → ((s.core c).large = true ∨ (s.core c).rc.toNat ≤ 256) → (s.core c).rc.toNat ≠ 0 →
       exec (.rptr c rest) s = .next (s.setCore c { (s.core c).goesTo ((s.core c).pc + 4#32) with rep := some (s.core c).rc.toNat })) ∧
     (s.canRun c (.rpti c d 0#22) → exec (.rpti c d 0#22) s = .next (s.setCore c ((s.core c).goesTo ((s.core c).pc + 8#32)))) ∧
     (s.canRun c (.rptr c rest) → (s.core c).rc = 0#32 → exec (.rptr c rest) s = .next (s.setCore c ((s.core c).goesTo ((s.core c).pc + 8#32)))) ∧
     (s.canRun c (.rpti c d i) → (s.core c).large = false → 256 < i.toNat → (s.core c).faultsOpen →
       exec (.rpti c d i) s = .next (s.setCore c ((s.core c).faultEntry (s.core c).pc 2 0 none))) ∧
     (s.canRun c (.rptr c rest) → (s.core c).large = false → 256 < (s.core c).rc.toNat → (s.core c).faultsOpen →
       exec (.rptr c rest) s = .next (s.setCore c ((s.core c).faultEntry (s.core c).pc 2 0 none)))) ∧
  (∀ (c : Fin 9) (d : BitVec 4) (i : BitVec 22) (rest : BitVec 26) (s : State),
     goodTarget (s.core c).large ((s.core c).pc + 4#32) = true → ((s.core c).large && s.poisoned ((s.core c).pc + 4#32).toNat 4) = false →
     s.repeatable c ((s.core c).pc + 4#32) = false → (s.core c).faultsOpen →
     (s.canRun c (.rpti c d i) → exec (.rpti c d i) s = .next (s.setCore c ((s.core c).faultEntry (s.core c).pc 1 0 none))) ∧
     (s.canRun c (.rptr c rest) → exec (.rptr c rest) s = .next (s.setCore c ((s.core c).faultEntry (s.core c).pc 1 0 none)))) ∧
  (∀ (c : Fin 9) (m : Word) (s : State), s.repeatable c m = true ↔
     ∃ w i, w = w32 (s.loadLe (coreMem c m.toNat) 4) ∧ decodeFilsy c w = some i ∧ (s.core c).legal i = true ∧
       (w.toNat / 2 ^ 26 ∈ [0x00, 0x01, 0x02, 0x08, 0x09, 0x0A, 0x0B, 0x0C, 0x0D, 0x10, 0x11, 0x12, 0x13, 0x14, 0x15, 0x16, 0x17, 0x18, 0x19, 0x1A, 0x1B] ∨
         (∃ d a b k, i = .mfs c d a b k) ∨ (∃ d a b k, i = .mts c d a b k))) ∧
  (∀ (i : Instr) (c : Fin 9) (d : BitVec 4) (n : Nat) (s : State), i.computes = some (c, d) → s.canRun c i →
     ((s.core c).rep = some (n + 2) → Completes i s (fun t => (t.core c).pc = (s.core c).pc ∧ (t.core c).rep = some (n + 1))) ∧
     ((s.core c).rep = some 1 → Completes i s (fun t => (t.core c).pc = (s.core c).pc + 4#32 ∧ (t.core c).rep = none)) ∧
     ((s.core c).rep = none → Completes i s (fun t => (t.core c).pc = (s.core c).pc + 4#32 ∧ (t.core c).rep = none)))

/-- R247, R263: MFS reads the special register that its number names. R245 to R247, R263: MTS writes the special register that its number names, each
with its own access type. The model's choices: assumption 19. -/
def Obligations.SpecialRegisterReadsAndWrites : Prop :=
  (∀ (c : Fin 9) (d a b : BitVec 4) (k : BitVec 8) (s : State), s.canRun c (.mfs c d a b k) →
     let x := s.core c
     let reads (n : Nat) (v : Word) : Prop := k.toNat = n → exec (.mfs c d a b k) s = .next (s.ranTo c (x.setReg d v))
     reads 0 x.flags ∧ reads 1 x.rc ∧ (x.large = false → reads 2 x.evtPc) ∧
       (x.large = true → reads 2 (match x.rs.find? (fun e => e.kind != .call) with | some e => e.addr | none => x.evtPc)) ∧ reads 3 x.evtFlags ∧
       reads 4 x.evtIter ∧ reads 5 x.evtCause ∧ reads 6 x.evtAddr ∧ reads 7 x.vecBase ∧ reads 8 x.en0 ∧ reads 9 x.en1 ∧ reads 10 x.en2 ∧
       reads 11 x.pend0 ∧ reads 12 x.pend1 ∧ reads 13 x.pend2 ∧ (x.large = true → reads 14 (w32 (c.val + 16))) ∧
       (x.large = false → reads 14 (w32 c.val)) ∧ reads 15 (w32 x.rs.length) ∧ reads 16 x.dspLo ∧ reads 17 x.dspHi) ∧
  (∀ (c : Fin 9) (d a b : BitVec 4) (k : BitVec 8) (s : State), s.canRun c (.mts c d a b k) →
     let x := s.core c
     let v := x.reg a
     let writes (n : Nat) (y : Core) : Prop := k.toNat = n → exec (.mts c d a b k) s = .next (s.ranTo c y)
     writes 0 { x with flags := (x.flags &&& 0xFFFEFCF0#32) ||| (v &&& 0x1030F#32) } ∧ writes 1 { x with rc := v } ∧
       writes 2 { x with evtPc := v } ∧ writes 3 { x with evtFlags := v } ∧ writes 4 { x with evtIter := v } ∧
       writes 7 { x with vecBase := v &&& 0xFFFFFF00#32 } ∧ (x.large = true → writes 8 { x with en0 := v }) ∧
       (x.large = false → writes 8 { x with en0 := v &&& 0xFFFF#32 }) ∧ writes 9 { x with en1 := v } ∧ writes 10 { x with en2 := v &&& 1#32 } ∧
       writes 11 { x with pend0 := x.pend0 &&& ~~~v } ∧ writes 12 { x with pend1 := x.pend1 &&& ~~~v } ∧
       writes 13 { x with pend2 := x.pend2 &&& ~~~v } ∧ writes 16 { x with dspLo := v } ∧ writes 17 { x with dspHi := v })

/-- R263, R275: NOP, EI, DI and WAIT. -/
def Obligations.SystemResults : Prop :=
  ∀ (c : Fin 9) (d a b : BitVec 4) (k : BitVec 8) (s : State),
    (s.canRun c (.nop c d a b k) → exec (.nop c d a b k) s = .next (s.ranTo c (s.core c))) ∧
    (s.canRun c (.ei c d a b k) → exec (.ei c d a b k) s = .next (s.ranTo c { s.core c with flags := (s.core c).flags ||| 0x10000#32 })) ∧
    (s.canRun c (.di c d a b k) → exec (.di c d a b k) s = .next (s.ranTo c { s.core c with flags := (s.core c).flags &&& 0xFFFEFFFF#32 })) ∧
    (s.canRun c (.wait c d a b k) → (s.core c).ready = true → exec (.wait c d a b k) s = .next (s.ranTo c (s.core c))) ∧
    (s.canRun c (.wait c d a b k) → (s.core c).ready = false →
      exec (.wait c d a b k) s = .next (s.setCore c { s.core c with waiting := true, stalled := false }))

/-- R245, R271: ERET restores PC, FLAGS but PROF, and a remaining repeat: from the EVT registers on a pail core, from the newest entry on the vat
core, where an empty stack or a CALL entry on top faults STACK_RS. -/
def Obligations.EretResults : Prop :=
  ∀ (c : Fin 9) (d a b : BitVec 4) (k : BitVec 8) (e : RsEntry) (l : List RsEntry) (s : State), s.canRun c (.eret c d a b k) →
    ((s.core c).large = false → exec (.eret c d a b k) s = .next (s.setCore c { s.core c with
        pc := (s.core c).evtPc, flags := ((s.core c).evtFlags &&& 0x3030F#32) ||| ((s.core c).flags &&& 0x40000#32),
        rep := (if (s.core c).evtIter = 0#32 then none else some (s.core c).evtIter.toNat), stalled := false, held := true })) ∧
    ((s.core c).large = true → (s.core c).rs = e :: l → e.kind ≠ .call → exec (.eret c d a b k) s = .next (s.setCore c { s.core c with
        rs := l, pc := e.addr, flags := (e.flags &&& 0x3030F#32) ||| ((s.core c).flags &&& 0x40000#32),
        rep := (if e.iter = 0 then none else some e.iter), stalled := false, held := true })) ∧
    ((s.core c).large = true → (s.core c).rs = [] → exec (.eret c d a b k) s = .next (s.setCore c ((s.core c).faultEntry (s.core c).pc 7 2 none))) ∧
    ((s.core c).large = true → (s.core c).rs = e :: l → e.kind = .call → (s.core c).faultsOpen →
      exec (.eret c d a b k) s = .next (s.setCore c ((s.core c).faultEntry (s.core c).pc 7 3 none)))

/-- R247, R268, R271, R272: a fault's entry, shown on BRK. A pail core saves the faulting address, FLAGS and the iterations left in its EVT registers,
the vat core on its return stack; EVT_CAUSE takes code and DETAIL, IE becomes 0, INF 1, PC the fault entry of the image. -/
def Obligations.FaultEntrySaves : Prop :=
  ∀ (c : Fin 9) (d a b : BitVec 4) (k : BitVec 8) (s : State), s.canRun c (.brk c d a b k) → (s.core c).faultsOpen →
    Completes (.brk c d a b k) s (fun t =>
      (t.core c).pc = (s.core c).vecBase + 0x40#32 ∧ (t.core c).evtCause = w32 (9 + 256 + 65536 * k.toNat) ∧ (t.core c).rep = none ∧
        (t.core c).flags = ((s.core c).flags &&& 0xFFFEFFFF#32) ||| 0x20000#32 ∧ (t.core c).evtAddr = (s.core c).evtAddr ∧
        (∀ r, (t.core c).reg r = (s.core c).reg r) ∧
        ((s.core c).large = false → (t.core c).evtPc = (s.core c).pc ∧ (t.core c).evtFlags = (s.core c).flags ∧
          (t.core c).evtIter = w32 ((s.core c).rep.getD 0) ∧ (t.core c).rs = (s.core c).rs) ∧
        ((s.core c).large = true → (t.core c).rs = ⟨.fault, (s.core c).pc, (s.core c).flags, (s.core c).rep.getD 0⟩ :: (s.core c).rs ∧
          (t.core c).evtPc = (s.core c).evtPc))

/-- R249, R253, R272: an instruction that is not legal for its core faults ILLEGAL, and a fetch from outside the fetch area faults FETCH with EVT_ADDR
the address; the instruction has no effect of its own. R250, R273: a load or store outside the core's windows, misaligned, or narrower than a word in
a register window faults before any access; with post-increment A stays. The model's choices: assumption 17. -/
def Obligations.IllegalFetchAndAccessFaults : Prop :=
  (∀ (i : Instr) (c : Fin 9) (s : State), i.filsyCore = some c → s.coreIssues c = true → (s.core c).faultsOpen →
     (goodTarget (s.core c).large (s.core c).pc = true → ((s.core c).large && s.poisoned (s.core c).pc.toNat 4) = false →
      s.wordSound (coreMem c (s.core c).pc.toNat) = true → (s.core c).legal i = false →
       exec i s = .next (s.setCore c ((s.core c).faultEntry (s.core c).pc 1 0 none))) ∧
     (goodTarget (s.core c).large (s.core c).pc = false →
       exec i s = .next (s.setCore c ((s.core c).faultEntry (s.core c).pc 3 0 (some (s.core c).pc))))) ∧
  (∀ (c : Fin 9) (d a : BitVec 4) (i : BitVec 18) (s : State), (s.core c).faultsOpen →
     let x := s.core c
     let m := eaOf x a i
     let faults (j : Instr) (code : Nat) : Prop := s.canRun c j → exec j s = .next (s.setCore c (x.faultEntry x.pc code 0 (some (w32 m))))
     (windowOf x.large m = none → faults (.ldw c d a i) 4 ∧ faults (.ldh c d a i) 4 ∧ faults (.ldhu c d a i) 4 ∧ faults (.ldb c d a i) 4 ∧
         faults (.ldbu c d a i) 4 ∧ faults (.stw c d a i) 4 ∧ faults (.sth c d a i) 4 ∧ faults (.stb c d a i) 4) ∧
       (windowOf x.large m ≠ none → m % 4 ≠ 0 → faults (.ldw c d a i) 5 ∧ faults (.stw c d a i) 5) ∧
       (windowOf x.large m ≠ none → m % 2 ≠ 0 → faults (.ldh c d a i) 5 ∧ faults (.ldhu c d a i) 5 ∧ faults (.sth c d a i) 5) ∧
       (∀ w, windowOf x.large m = some w → 2 ≤ w → m % 2 = 0 → faults (.ldh c d a i) 6 ∧ faults (.ldhu c d a i) 6 ∧ faults (.sth c d a i) 6) ∧
       (∀ w, windowOf x.large m = some w → 2 ≤ w → faults (.ldb c d a i) 6 ∧ faults (.ldbu c d a i) 6 ∧ faults (.stb c d a i) 6)) ∧
  (∀ (c : Fin 9) (d a : BitVec 4) (i : BitVec 18) (s : State), (s.core c).faultsOpen →
     let x := s.core c
     let m := (x.reg a).toNat
     let faults (j : Instr) (code : Nat) : Prop := s.canRun c j → exec j s = .next (s.setCore c (x.faultEntry x.pc code 0 (some (x.reg a))))
     (windowOf x.large m = none → faults (.ldwp c d a i) 4 ∧ faults (.ldhp c d a i) 4 ∧ faults (.stwp c d a i) 4 ∧ faults (.sthp c d a i) 4) ∧
       (windowOf x.large m ≠ none → m % 4 ≠ 0 → faults (.ldwp c d a i) 5 ∧ faults (.stwp c d a i) 5) ∧
       (windowOf x.large m ≠ none → m % 2 ≠ 0 → faults (.ldhp c d a i) 5 ∧ faults (.sthp c d a i) 5) ∧
       (∀ w, windowOf x.large m = some w → 2 ≤ w → m % 2 = 0 → faults (.ldhp c d a i) 6 ∧ faults (.sthp c d a i) 6))

/-- R267, R270, R271: a core takes the lowest pending and enabled source at a boundary that allows it, saves where it stood, and clears IE; otherwise
nothing happens. Entry leaves the pending bits. R275: a core in WAIT whose enabled source is pending goes on behind the WAIT: with IE 0 there, with IE
1 through the event entry, whose saved address, on the vat core that of the return stack's new entry, points behind the WAIT. R384: a core whose domain has
agreed to a lower state does neither. -/
def Obligations.EventEntryAndWaitEnd : Prop :=
  (∀ (c : Fin 9) (n : Nat) (s : State), s.coreIssues c = true →
     ((s.core c).lowest n → (s.core c).mayTake → Completes (.eventEntry c) s (fun t =>
       (t.core c).pc = (s.core c).vecBase ∧ (t.core c).evtCause = w32 n ∧ (t.core c).flags = (s.core c).flags &&& 0xFFFEFFFF#32 ∧ (t.core c).rep = none ∧
         (t.core c).pend0 = (s.core c).pend0 ∧ (t.core c).pend1 = (s.core c).pend1 ∧ (t.core c).pend2 = (s.core c).pend2 ∧
         ((s.core c).large = false → (t.core c).evtPc = (s.core c).pc ∧ (t.core c).evtFlags = (s.core c).flags ∧ (t.core c).evtIter = 0#32) ∧
         ((s.core c).large = true → (t.core c).rs = ⟨.event, (s.core c).pc, (s.core c).flags, (s.core c).rep.getD 0⟩ :: (s.core c).rs))) ∧
     (((s.core c).ready = false ∨ ¬ (s.core c).mayTake) → exec (.eventEntry c) s = .next (s.setCore c (s.core c)))) ∧
  (∀ (c : Fin 9) (n : Nat) (s : State), (s.core c).running = true → (s.core c).halted = false → (s.core c).waiting = true →
     s.domIsOn (if c.val < 8 then domTile c else domHub) = true → s.domAgreed (if c.val < 8 then domTile c else domHub) = false → (s.core c).lowest n →
     ((s.core c).flags.getLsbD fIe = false → Completes (.waitEnd c) s (fun t =>
       (t.core c).pc = (s.core c).pc + 4#32 ∧ (t.core c).waiting = false ∧ (t.core c).flags = (s.core c).flags)) ∧
     ((s.core c).flags.getLsbD fIe = true → (s.core c).stalled = false → (s.core c).large = false → (s.core c).rep = none →
       Completes (.waitEnd c) s (fun t => (t.core c).pc = (s.core c).vecBase ∧ (t.core c).evtPc = (s.core c).pc + 4#32 ∧ (t.core c).waiting = false ∧
         (t.core c).evtCause = w32 n)) ∧
     ((s.core c).flags.getLsbD fIe = true → (s.core c).stalled = false → (s.core c).large = true → (s.core c).rs.length ≤ 61 →
       Completes (.waitEnd c) s (fun t => (t.core c).pc = (s.core c).vecBase ∧ (t.core c).waiting = false ∧ (t.core c).evtCause = w32 n ∧
         (t.core c).flags = (s.core c).flags &&& 0xFFFEFFFF#32 ∧
         (t.core c).rs = ⟨.event, (s.core c).pc + 4#32, (s.core c).flags, (s.core c).rep.getD 0⟩ :: (s.core c).rs))) ∧
  (∀ (c : Fin 9) (s : State), s.domAgreed (if c.val < 8 then domTile c else domHub) = true →
     exec (.eventEntry c) s = .next s ∧ exec (.waitEnd c) s = .next s)

/-- R244, R247, R256 to R260, R263 (MFS): what the instructions that only compute leave unchanged: every other core, every register and every byte of memory, line
time, and of their own core every general register but the destination, every special register but FLAGS and the pending ones, and the return stack; of the
pending ones only DIV0's bit can change, and only by a division by 0, which sets it. -/
def Obligations.ComputationFrame : Prop :=
  ∀ (i : Instr) (c : Fin 9) (d : BitVec 4) (s t : State), i.computes = some (c, d) → s.canRun c i → exec i s = .next t →
    (s.core c).onlyRegs (t.core c) [d] ∧ (t.core c).pend1 = (s.core c).pend1 ∧
      ((t.core c).pend0 = (s.core c).pend0 ∧ (t.core c).pend2 = (s.core c).pend2 ∨
        (∃ a b k, (s.core c).reg b = 0#32 ∧ (i = .divI c d a b k ∨ i = .divu c d a b k ∨ i = .rem c d a b k ∨ i = .remu c d a b k)) ∧
          (((s.core c).large = false ∧ (t.core c).pend0 = (s.core c).pend0 ||| 1#32 ∧ (t.core c).pend2 = (s.core c).pend2) ∨
            ((s.core c).large = true ∧ (t.core c).pend0 = (s.core c).pend0 ∧ (t.core c).pend2 = (s.core c).pend2 ||| 1#32))) ∧
      (∀ k, k ≠ c.val → t.core k = s.core k) ∧ (∀ a, t.rd a = s.rd a) ∧ (∀ m, t.byte m = s.byte m) ∧
      t.lt = s.lt ∧ t.queues = s.queues ∧ t.env = s.env ∧ t.out = s.out ∧ t.pending = s.pending

/-! ## Bring-up, resets and FAULT_HOLD -/

/-- R124, R284, R379: each step of bring-up completes on its event and leads to the next, the regulator's only while RAIL_FAULT is clear: with the PLL locked every domain is on, the memory step leaves every
byte of memory 0, the baseline either ends the step with every scrubber running or, with an uncorrectable line outside the tiles, fails it (R380), one in a
tile taking that tile out, and the logic step starts line time, from 0 after power-on and behind the ticks counted in a warm reset, and ends the time before the mode is decided (R397):
a lock lost since (R126) or a rail fault that is shown (R378) puts the module in FAULT_HOLD then. -/
def Obligations.BringUpSteps : Prop :=
  ∀ (s : State) (found : List BaselineFind) (n m : Nat),
    (s.boot.stage = 0 → Completes .supplyValid s (fun t => t.boot = { s.boot with stage := 1 } ∧ t.get F.PWR_BOOT_TRIES = 1)) ∧
    (s.boot.stage = 1 → Completes .aonRailGood s (fun t => t = s.setBoot { s.boot with stage := 2 })) ∧
    (s.boot.stage = 2 → Completes .resonatorOscillating s (fun t => t.boot = { s.boot with stage := 3 } ∧ t.regs = s.regs ∧ t.mem = s.mem ∧
      (s.link.req = none → t.out = s.out ++ [.supply (linkFrame 1 s.link.seq 0 1)] ∧
        t.link.queue = s.link.queue ++ [(1, 1, 1), (1, 2, 1), (1, 3, 1), (1, 4, 1), (1, 5, 1)]))) ∧
    (s.boot.stage = 3 → (s.get F.PWR_STAGE_FLAGS).testBit 2 = false →
      Completes .railsGood s (fun t => t.boot = { s.boot with stage := 4 } ∧ t.get F.PWR_BOOT_STEP = 1)) ∧
    (s.boot.stage = 3 → (s.get F.PWR_STAGE_FLAGS).testBit 2 = true → exec .railsGood s = .next s) ∧
    (s.boot.stage = 4 → Completes .resonatorStable s (fun t => t = s.setBoot { s.boot with stage := 5 })) ∧
    (s.boot.stage = 5 → Completes .pllLock s (fun t => t.boot = { s.boot with stage := 6 } ∧ t.get F.PWR_BOOT_STEP = 2 ∧ t.get F.LT_CLK_STAT_PLL_LOCK = 1 ∧
      ∀ d, d < 20 → t.domIsOn d = true)) ∧
    (s.boot.stage = 6 → Completes .memoryRepairLoaded s (fun t => t = s.setBoot { s.boot with stage := 7 })) ∧
    (s.boot.stage = 7 → Completes .memoryInitDone s (fun t => t.boot = { s.boot with stage := 8 } ∧ (∀ a, t.byte a = 0#8) ∧ t.regs = s.regs ∧ t.log = s.log)) ∧
    (s.boot.stage = 8 → baselineFails (found.map (fun x => (x.m.val, x.line.val, x.upset))) = false → Completes (.scrubBaselineDone found) s (fun t =>
      t.boot.stage = 9 ∧ t.get F.PWR_BOOT_STEP = 3 ∧ ∀ m, m < 19 → t.isSet (F.MEMM_STAT_SCRUBBING m) = true)) ∧
    (s.boot.stage = 8 → baselineFails (found.map (fun x => (x.m.val, x.line.val, x.upset))) = true → Completes (.scrubBaselineDone found) s (fun t =>
      t.boot.stage = (if s.get F.PWR_BOOT_TRIES < 3 then 12 else 13) ∧ t.get F.PWR_BOOT_FAILED = 3)) ∧
    (∀ i u, m < 16 → 2 ≤ popCount 9 u.double.val → (s.baselineLine m i u).get F.PWR_BOOT_FAILED = 3 ∧
      m % 8 ∈ (s.baselineLine m i u).boot.badTiles) ∧
    (s.boot.stage = 9 →
      let u := s.logicRelease
      let v := u.faultHold hcPllLock 0#32 40
      (u.boot.stage = 10 ∧ u.booting = false ∧ u.time = true) ∧
      (s.ticks = none → u.lt = 0) ∧
      (s.ticks = some n → u.ticks = none ∧ u.lt = s.getPair R.LT_SLEEP_IN_LO + s.slept) ∧
      (u.boot.lostAt = none → (u.get F.PWR_STAGE_FLAGS).testBit 2 = false → exec .logicRelease s = .next u) ∧
      (u.boot.lostAt = none → (u.get F.PWR_STAGE_FLAGS).testBit 2 = true →
        exec .logicRelease s = .next (u.faultHold hcRailFault (w32 (u.get F.PWR_STAGE_FLAGS)) 35)) ∧
      (∀ a, u.boot.lostAt = some a → (v.get F.PWR_STAGE_FLAGS).testBit 2 = false → exec .logicRelease s = .next v))

/-- R125, R126, R365, R380, R381, R405, R429: failures of bring-up and their retries, the warm reset, and the causes and timeouts around a lost PLL lock and
FAULT_HOLD: a lost lock clears PLL_LOCK, sets LOCK_LOST_SEEN, raises event 40, takes the reference back to the resonator, and out of bring-up it puts the module
in FAULT_HOLD and takes the host link down; a relock ends the wait for one and brings the link back at its speed. At a wake PLL_LOCK shows the lock (R137). A time
that has not come leaves the state as it is. The model's choices: assumptions 5, 89, 129 and 156. -/
def Obligations.BringUpFailuresAndResets : Prop :=
  ∀ (s : State) (a cause : Nat),
    (s.boot.stage = 3 → exec .bringupFail s = .next (s.bootFail 1)) ∧
    ((s.boot.stage = 4 ∨ s.boot.stage = 5) → exec .bringupFail s = .next (s.bootFail 2)) ∧
    (∀ n, (s.bootFail n).boot.stage = if s.get F.PWR_BOOT_TRIES < 3 then 12 else 13) ∧
    (s.boot.stage = 12 → Completes .bringupRetry s (fun t => t.boot = { BootSt.start with stage := 3, warm := s.boot.warm } ∧
      t.get F.PWR_BOOT_TRIES = min (s.get F.PWR_BOOT_TRIES + 1) 3 ∧ t.mem = s.mem)) ∧
    ((s.boot.stage = 1 ∨ s.boot.stage = 2) → Completes .aonRailCycle s (fun t => t = s.setBoot { s.boot with stage := 1 })) ∧
    (s.boot.want = some cause → exec .warmReset s = .next (s.warmReset cause)) ∧
    (s.boot.want = none → exec .warmReset s = .next s) ∧
    (s.isSet F.LT_CLK_STAT_PLL_LOCK = true →
      let u := (((s.put F.LT_CLK_STAT_PLL_LOCK 0).put F.LT_EVT_LOCK_LOST_SEEN 1).raise 40).refTo 0
      let h := u.faultHold hcPllLock 0#32 40
      let v := (h.setHost { h.host with speedWas := h.get F.HOST_STAT_SPEED }).setSpeed 0
      u.get F.LT_CLK_STAT_PLL_LOCK = 0 ∧ u.get F.LT_EVT_LOCK_LOST_SEEN = 1 ∧ u.get F.LT_CLK_STAT_REF_SRC = 0 ∧ u.core 8 = (s.core 8).pend 40 ∧
        (s.booting = true → exec .pllLockLost s = .next (u.setBoot { u.boot with lostAt := some u.lt })) ∧
        (s.booting = false → exec .pllLockLost s = .next (v.setBoot { v.boot with lostAt := some v.lt }))) ∧
    (s.isSet F.LT_CLK_STAT_PLL_LOCK = false → exec .pllLockLost s = .next s) ∧
    (s.boot.stage ≠ 5 → s.boot.lostAt = some a → (s.booting = true ∨ s.dom 2 ≠ 2 ∨ s.host.speedWas = 0) →
      Completes .pllLock s (fun t => t = (s.put F.LT_CLK_STAT_PLL_LOCK 1).setBoot { s.boot with lostAt := none } ∧ t.get F.LT_CLK_STAT_PLL_LOCK = 1)) ∧
    (s.boot.stage ≠ 5 → s.boot.lostAt = some a → s.booting = false → s.dom 2 = 2 → s.host.speedWas ≠ 0 → s.host.speedWas < 8 →
      Completes .pllLock s (fun t => t.boot = { s.boot with lostAt := none } ∧ t.get F.LT_CLK_STAT_PLL_LOCK = 1 ∧ t.get F.HOST_STAT_SPEED = s.host.speedWas)) ∧
    (s.boot.stage ≠ 5 → s.boot.lostAt = none → s.pwr.wakeStage = 1 → exec .pllLock s = .next (s.put F.LT_CLK_STAT_PLL_LOCK 1)) ∧
    (s.boot.stage ≠ 5 → s.boot.lostAt = none → s.pwr.wakeStage ≠ 1 → exec .pllLock s = .next s) ∧
    (s.boot.lostAt = some a → a + 1000000000 ≤ s.lt → exec .pllRelockTimeout s = .next (s.setBoot { s.boot with want := some 3 })) ∧
    (s.boot.lostAt = some a → s.lt < a + 1000000000 → exec .pllRelockTimeout s = .next s) ∧
    (s.boot.lostAt = none → exec .pllRelockTimeout s = .next s) ∧
    (s.boot.holdAt = some a → s.get F.MOD_CFG_HOLD_S ≠ 0 → s.cond mFaultHold = true → a + s.get F.MOD_CFG_HOLD_S * 1000000000 ≤ s.lt →
      exec .holdTimeout s = .next (s.setBoot { s.boot with want := some 2 })) ∧
    (s.boot.holdAt = some a → s.lt < a + s.get F.MOD_CFG_HOLD_S * 1000000000 → exec .holdTimeout s = .next s) ∧
    (s.get F.MOD_CFG_HOLD_S = 0 → exec .holdTimeout s = .next s)

/-! ## Power -/

/-- R382: GO by the vat core is ignored while a request is BUSY, answers BAD_REQUEST (2) for a reserved state or a broken parent rule and changes
nothing else, and otherwise begins: raises first, then the entry in its order. No other core's write does anything. R383 to R386: the raises of a
request come in turn, a domain that was off only with its rails on (R375); an asked domain agrees at an AON tick, stops three ticks later, or ends the entry with its refusal, at the latest when AGREE_MS
has passed. The model's choices: assumptions 5 and 83. -/
def Obligations.PowerRequests : Prop :=
  (∀ (w : Fin 9) (s : State),
     (w.val ≠ 8 → exec (.pwrGo w) s = .next s) ∧
     (s.isSet F.PWR_STAT_BUSY = true → exec (.pwrGo w) s = .next s) ∧
     (w.val = 8 → s.isSet F.PWR_STAT_BUSY = false → ((∃ n, n < 20 ∧ s.reqOf n = 3) ∨ parentsOk s.reqOf = false) →
       exec (.pwrGo w) s = .next (s.put F.PWR_STAT_RESULT 2)) ∧
     (w.val = 8 → s.isSet F.PWR_STAT_BUSY = false → (∀ n, n < 20 → s.reqOf n ≠ 3) → parentsOk s.reqOf = true →
       exec (.pwrGo w) s = .next (s.pwrBegin 1 ((raiseOrder.filter (fun n => decide (s.dom n < s.reqOf n))).map (fun n => (n, s.reqOf n)))
         ((entryOrder.filter (fun n => decide (s.reqOf n < s.dom n))).map (fun n => (n, s.reqOf n))))) ∧
     (∀ (k : Nat) (up down : List (Nat × Nat)), up ≠ [] → (s.pwrBegin k up down).pwr.raising = up ∧ (s.pwrBegin k up down).pwr.asks = down ∧
       (s.pwrBegin k up down).get F.PWR_STAT_BUSY = 1 ∧ (s.pwrBegin k up down).get F.PWR_STAT_PHASE = 1)) ∧
  (∀ (s : State) (n dst a r p : Nat) (rest : List (Nat × Nat)) (m : Fin 20),
     (m.val = n → s.pwr.raising = (n, dst) :: rest →
       let u := if dst ≤ s.dom (domParent n) then s.domRaise n dst else s
       let v := u.setPwr { u.pwr with raising := rest }
       ((s.dom n ≠ 0 ∨ s.railsMiss n = []) → exec (.domainRaised m) s = .next (if rest = [] then v.pwrNext else v)) ∧
         (s.dom n = 0 → s.railsMiss n ≠ [] → exec (.domainRaised m) s = .next (s.railsAsk n))) ∧
     (∀ r, r ∈ s.railsMiss n ↔ (r = 3 ∨ r = 4 ∨ r = 5) ∧ Config.railUses r n = true ∧ ¬ (r ∈ s.link.rails ∧ s.link.railOn r = true)) ∧
     (m.val ≠ n → s.pwr.raising = (n, dst) :: rest → exec (.domainRaised m) s = .next s) ∧
     (s.pwr.raising = [] → exec (.domainRaised m) s = .next s) ∧
     (s.pwr.asks = (n, dst) :: rest → s.pwr.raising = [] → s.pwr.agreedAt = none → s.pwr.askedAt + 32000 ≤ s.lt →
       (s.domAnswer n = .agree → (n ≠ 0 ∨ s.dom 0 ≠ 2) → exec .domainAgree s = .next (s.setPwr { s.pwr with agreedAt := some s.lt })) ∧
       (s.domAnswer n = .agree → n = 0 → s.dom 0 = 2 →
         let u := s.hubAgreed
         exec .domainAgree s = .next (u.setPwr { u.pwr with agreedAt := some u.lt })) ∧
       (s.domAnswer n = .wait p → exec .domainAgree s = .next s) ∧
       (s.domAnswer n = .refuse r p → exec .domainAgree s = .next (s.pwrRefuse r p))) ∧
     (s.pwr.asks = (n, dst) :: rest → s.lt < s.pwr.askedAt + 32000 → exec .domainAgree s = .next s) ∧
     (s.pwr.agreedAt = some a → a + 96000 ≤ s.lt → exec .domainStop s = .next s.pwrStop) ∧
     (s.pwr.agreedAt = some a → s.lt < a + 96000 → exec .domainStop s = .next s) ∧ (s.pwr.agreedAt = none → exec .domainStop s = .next s) ∧
     (s.pwr.asks = (n, dst) :: rest → s.pwr.raising = [] → s.pwr.agreedAt = none → s.domAnswer n = .wait p →
       s.pwr.askedAt + s.get F.PWR_CFG_AGREE_MS * 1000000 ≤ s.lt → exec .agreeTimeout s = .next (s.pwrRefuse 0 p)) ∧
     (s.pwr.asks = (n, dst) :: rest → s.lt < s.pwr.askedAt + s.get F.PWR_CFG_AGREE_MS * 1000000 → exec .agreeTimeout s = .next s))

/-- R136, R137, R387, R389, R390: an enabled wake source fires while HUB is not on, and ends an entry that asks HUB and has not got its agreement; the
wake is taken for the lowest-numbered source that has fired, with event 36; four AON ticks later, with the PLL locked, TIME runs again, behind LT_E by the ticks slept; 8,000 ns
after that HUB wakes, the LOG records that wait leave and the domains of PWR_WAKE_ON follow. The model's choices: assumptions 86 and 87. -/
def Obligations.SleepAndWake : Prop :=
  ∀ (s : State) (src : Fin 10) (unit : Fin 24) (f : Nat × Nat) (n m a dst : Nat) (rest : List (Nat × Nat)),
    (s.wakeMay src unit = true → s.dom 0 ≠ 2 → s.pwr.wakeStage = 0 →
      exec (.wakeSourceFire src unit) s = .next (s.setPwr { s.pwr with fired := s.pwr.fired ++ [(src.val, unit.val)] })) ∧
    (s.wakeMay src unit = true → s.dom 0 = 2 → s.pwr.raising = [] → s.pwr.asks = (n, dst) :: rest → (n = 0 ∨ ∃ d, (0, d) ∈ rest) →
      (s.pwr.agreedAt = none ∨ n ≠ 0) → exec (.wakeSourceFire src unit) s = .next (s.pwrRefuse 5 4)) ∧
    (s.wakeMay src unit = true → s.dom 0 = 2 → s.pwr.asks = [] → exec (.wakeSourceFire src unit) s = .next s) ∧
    (s.wakeMay src unit = false → exec (.wakeSourceFire src unit) s = .next s) ∧
    (f ∈ s.pwr.fired → (∀ x ∈ s.pwr.fired, f.1 ≤ x.1) → s.ticks = some n → s.pwr.wakeStage = 0 → Completes .wakeTaken s (fun t =>
      t.pwr.wakeStage = 1 ∧ t.pwr.wakeAt = some n ∧ t.pwr.fired = [] ∧ t.core 8 = (s.core 8).pend 36 ∧ t.get F.PWR_EVT_WAKE_SEEN = 1 ∧
        t.get F.PWR_LAST_WAKE_SOURCE = f.1 % 16)) ∧
    (s.pwr.fired = [] → exec .wakeTaken s = .next s) ∧
    (s.pwr.wakeAt = some n → s.ticks = some m → s.pwr.wakeStage = 1 → s.isSet F.LT_CLK_STAT_PLL_LOCK = true → n + 4 ≤ m → Completes .timeRestart s (fun t =>
      t.lt = s.getPair R.LT_SLEEP_IN_LO + s.slept ∧ t.time = true ∧ t.ticks = none ∧ t.get F.LT_CLK_STAT_PLL_LOCK = 1 ∧
        t.pwr = { s.pwr with wakeAt := some t.lt, wakeStage := 2 })) ∧
    (s.pwr.wakeAt = some n → s.ticks = some m → (m < n + 4 ∨ s.isSet F.LT_CLK_STAT_PLL_LOCK = false) → exec .timeRestart s = .next s) ∧
    (s.pwr.wakeAt = some a → s.pwr.wakeStage = 2 → a + 8000 ≤ s.lt →
      let u := s.hubWake.logLeave
      let v : State := (u.setPwr { u.pwr with wakeAt := none, wakeStage := 0 })
      exec .hubWakeOn s = .next (v.pwrBegin 3 v.wakeRaises [])) ∧
    (s.pwr.wakeAt = some a → s.lt < a + 8000 → exec .hubWakeOn s = .next s)

/-- R374 to R377: the supply link. A request that waits is polled after 20 µs; its acknowledgement, recognised by CRC, OP and SEQ, ends it and the
next one leaves; without one it is sent again after 200 µs, at most three times, and then the link is at fault, event 33 and FAULT_HOLD; 20 ms without
a request switch off VEXC, every TWp_SUP and KEY_VCC. R393 to R395: the throttle level rises at once, falls after 50 µs, raises event 37 when it
leaves and returns to 0 and event 38 after 2 ms; VCORE below its limit raises event 35 and, out of bring-up, puts the module in FAULT_HOLD. The model's choices:
assumptions 84, 85, 109 and 156. -/
def Obligations.SupplyLinkAndThrottle : Prop :=
  (∀ (s : State) (r : LinkReq) (frame : Word),
     (s.link.req = some r → s.due r.at_ 20000 = true → Completes .supplyLinkPoll s (fun t => t.link = s.link ∧ t.freeCtr = s.freeCtr + 1 ∧
       t.out = s.out ++ [.supply (linkFrame 0 s.free.toNat 0 0)])) ∧
     (s.link.req = none → exec .supplyLinkPoll s = .next s) ∧
     (s.link.req = some r → frame.toNat % 256 ≠ frameCrc frame.toNat → exec (.supplyLinkAck frame) s = .next s) ∧
     (s.link.req = some r → (frame.toNat / 2 ^ 28 ≠ r.op ∨ frame.toNat / 2 ^ 24 % 16 ≠ r.seq) → exec (.supplyLinkAck frame) s = .next s) ∧
     (s.link.req = some r → frame.toNat % 256 = frameCrc frame.toNat → frame.toNat / 2 ^ 28 = r.op → frame.toNat / 2 ^ 24 % 16 = r.seq →
       let u : State := { s.put F.PWR_STAGE_LINK_OK 1 with link := { s.link with req := none } }
       exec (.supplyLinkAck frame) s =
         .next (if frame.toNat / 2 ^ 22 % 4 = 0 then u.linkTake r (frame.toNat / 256 % 16384) else u).linkNext) ∧
     (s.link.queue = [] → s.linkNext = s) ∧
     (s.link.req = some r → s.due r.at_ 200000 = true → r.tries < 3 → Completes .supplyLinkTimeout s (fun t =>
       t.link.req = some { r with at_ := s.logLt, tries := r.tries + 1 } ∧ t.out = s.out ++ [.supply (linkFrame r.op r.seq r.target r.arg)])) ∧
     (s.link.req = some r → s.due r.at_ 200000 = true → 3 ≤ r.tries →
       let u := ((s.incSat F.PWR_LINK_CNT_FAULTS).put F.PWR_STAGE_LINK_OK 0).put F.PWR_EVT_LINK_FAULT_SEEN 1
       let v : State := { u with link := { u.link with req := none, queue := [] } }
       exec .supplyLinkTimeout s = .next (((v.logWrite kSupply 33 0#32 (v.rd R.PWR_SUPPLY) (v.rd R.PWR_STAGE)).raise 33).faultHold hcSupplyLink 0#32 33)) ∧
     (3 ≤ s.boot.stage → s.link.req = none → Completes .statusPoll s (fun t => t.out = s.out ++ [.supply (linkFrame 3 s.link.seq 0 0)])) ∧
     (3 ≤ s.boot.stage → s.link.req = some r → Completes .statusPoll s (fun t => t.out = s.out ∧ t.link.queue = s.link.queue ++ [(3, 0, 0)])) ∧
     (3 ≤ s.boot.stage → s.link.req = none → Completes .railRead s (fun t => t.out = s.out ++ [.supply (linkFrame 2 s.link.seq 32 0)] ∧
       t.link.queue = s.link.queue ++ [(2, 33, 0)])) ∧
     (3 ≤ s.boot.stage → s.link.req = some r → Completes .railRead s (fun t => t.out = s.out ∧ t.link.queue = s.link.queue ++ [(2, 32, 0), (2, 33, 0)])) ∧
     (s.due s.link.lastAt 20000000 = true → Completes .stageWatchdog s (fun t => t.key.vcc = false ∧ (∀ p, p < 8 → (t.tw p).supply = false) ∧
       ∀ x ∈ t.link.rails, x < 5)) ∧
     (s.due s.link.lastAt 20000000 = false → exec .stageWatchdog s = .next s)) ∧
  (∀ (s : State) (a : Nat),
     (s.throttle = 0 → Completes (.sagThreshold false) s (fun t => t.throttle = 1 ∧ t.thr.since = some s.lt ∧
       t.core 8 = (s.core 8).pend 37)) ∧
     (s.throttle = 0 → Completes (.sagThreshold true) s (fun t => t.throttle = 2 ∧ t.thr.since = some s.lt ∧ t.core 8 = (s.core 8).pend 37)) ∧
     (s.throttle = 1 → Completes (.sagThreshold true) s (fun t => t.throttle = 2 ∧ t.thr.since = s.thr.since ∧ t.cores = s.cores)) ∧
     (s.throttle = 2 → ∀ deep, exec (.sagThreshold deep) s = .next s) ∧
     (s.throttle = 2 → s.thr.levelAt + 50000 ≤ s.lt → Completes (.throttleRelease true) s (fun t => t.throttle = 1 ∧ t.thr.levelAt = s.lt)) ∧
     (s.mayRelease = false → ∀ one, exec (.throttleRelease one) s = .next s) ∧
     (0 < s.throttle → s.mayRelease = true →
       let u := s.throttleTime.put F.LT_CLK_STAT_THROTTLE 0
       u.throttle = 0 ∧ exec (.throttleRelease false) s = .next { (u.logWrite kThrottle 37 (w32 s.thr.peak)
         (w32 ((s.lt - s.thr.since.getD s.lt) / 1000)) 0#32).throttleEvent with thr := { ThrSt.rest with ns1 := u.thr.ns1, ns2 := u.thr.ns2 } }) ∧
     (s.thr.since = some a → a + 2000000 ≤ s.lt → s.thr.told = false → Completes .throttleBacklog s (fun t => t.thr = { s.thr with told := true } ∧
       t.core 8 = (s.core 8).pend 38)) ∧
     (s.thr.since = none → exec .throttleBacklog s = .next s) ∧
     (3 ≤ s.boot.stage → s.booting = false → exec .vcoreLow s = .next (((s.holdFirst 35).supplyNote 5).faultHold hcVcoreLow 0#32 35)) ∧
     (3 ≤ s.boot.stage → s.booting = true → exec .vcoreLow s = .next (s.supplyNote 5)) ∧
     (s.boot.stage < 3 → exec .vcoreLow s = .next s) ∧
     ((s.supplyNote 5).get F.PWR_EVT_SUPPLY_SEEN = 1 ∧ (s.supplyNote 5).core 8 = (s.core 8).pend 35))

/-! ## Line time and the Herd link -/

/-- R125, R129, R134, R177: measuring the reference, the end of a walk, the loss of the beacons, a deputy's takeover. A time that has not come leaves the state as
it is. The model's choices: assumptions 5, 35, 45 and 155. -/
def Obligations.LineTimeEvents : Prop :=
  ∀ (s : State) (ppb : Int),
    (s.isSet F.LT_STAT_FOLLOWING = true → s.get F.LT_CLK_STAT_REF_SRC ≠ 0 → -0x7FFFFFFF ≤ ppb → ppb ≤ 0x7FFFFFFF →
      Completes (.refMeasure ppb) s (fun t => t = s.putInt F.LT_RES_PPB_RATIO ppb ∧ t.getInt F.LT_RES_PPB_RATIO = ppb)) ∧
    (s.isSet F.LT_STAT_FOLLOWING = false → exec (.refMeasure ppb) s = .next s) ∧
    (s.isSet F.LT_STAT_WALKING = true → s.walkEndAt ≤ s.lt → s.isSet F.HERD_STAT_SOURCE_OK = false → Completes .walkEnd s (fun t =>
      t.isSet F.LT_STAT_WALKING = false ∧ t.herd = { s.herd with walkErr := 0, walkFrom := s.lt } ∧ t.lt = s.lt)) ∧
    (s.isSet F.LT_STAT_WALKING = true → s.walkEndAt ≤ s.lt → s.isSet F.HERD_STAT_SOURCE_OK = true →
      exec .walkEnd s = .next (s.walkBegin 0).realigned) ∧
    (s.lt < s.walkEndAt → exec .walkEnd s = .next s) ∧
    ((s.isSet F.HERD_STAT_SOURCE_OK = true ∨ s.get F.LT_CLK_STAT_REF_SRC ≠ 0) → s.isSet F.HERD_STAT_BEACONING = false → s.herd.lastGood + 30000 ≤ s.portNow →
      let u : State := (s.incSat F.HERD_CNT0_BEACON_MISSED 3).herdMap (fun h => { h with missedNow := 3, portMiss := 0, aligned := 0 })
      let v := ((u.putPair R.LT_HOLD_IN_LO s.herd.lastGood).put F.LT_STAT_FOLLOWING 0).refTo 0
      exec .beaconLoss s = .next ((v.showSource none).setHoldover true).noteSpan ∧ v.get F.LT_STAT_FOLLOWING = 0 ∧ v.get F.LT_CLK_STAT_REF_SRC = 0) ∧
    (s.isSet F.HERD_STAT_SOURCE_OK = false → s.get F.LT_CLK_STAT_REF_SRC = 0 → exec .beaconLoss s = .next s) ∧
    (s.portNow < s.herd.lastGood + 30000 → exec .beaconLoss s = .next s) ∧
    (s.herdFull = true → s.role = 1 → s.isSet F.HERD_STAT_BEACONING = false → s.isSet F.HERD_STAT_FORMING = false → s.herd.lastBnum.isSome = true →
      s.herd.lastGood + 500000 + 200000 * s.deputyRank ≤ s.lt → s.lt % 10000 = 0 →
      exec .deputyTakeover s = .next (((((s.setHoldover true).beaconBegin).incSat F.HERD_CNT3_TAKEOVERS).lineHold true).noteSpan)) ∧
    (s.lt < s.herd.lastGood + 500000 → exec .deputyTakeover s = .next s)

/-- R128, R157, R178, R179: listening, forming and sending beacons. A beacon that leaves an idle port carries its LT, BNUM, source and role. R145, R147, R158 to R161, R164,
R178, R179: a good copy of a beacon from elsewhere is taken and goes on as this module leaves it; a returned one is stripped; a CLAIM to a beaconing
deputy sets the BNUM it stops at; a FORM from elsewhere goes on with the greater MAX_LT and this module's PRESENT bit, and a returned one gives its MAX_LT; a
good frame at a port that takes none has no effect, but that a standalone module counts it. The model's choices: assumptions 29, 30, 35, 36, 38, 43 and 142. -/
def Obligations.BeaconsSentAndReceived : Prop :=
  (∀ (s : State) (a frac : Nat),
     (s.herd.listenFrom = some a → s.herdFull = true → a + 2000000 ≤ s.lt → Completes .beaconListenEnd s (fun t =>
       t.herd = { s.herd with listenFrom := none, formFrom := some s.lt, formMax := 0 } ∧ t.get F.HERD_STAT_FORMING = 1 ∧
         t.core 8 = (s.core 8).pend 12)) ∧
     (s.herd.formFrom = some a → s.herdFull = true → s.isSet F.HERD_STAT_FORMING = true → (s.lt - a) % 10000 = 0 → s.lt < a + 1000000 →
       s.wrapped false = false → (s.port false).tx = .idle → Completes .formSend s (fun t => t.out = s.out ++
         [.frame false s.lt (Frame.form s.line s.line true (w32 (s.fseqOf 0)) (.form 0 (1#32 <<< s.line) s.line s.role)) .good])) ∧
     (s.herd.formFrom = some a → s.herdFull = true → s.isSet F.HERD_STAT_FORMING = true → a + 1000000 ≤ s.lt →
       (0 < s.herd.formMax → formTarget s.herd.formMax ≤ s.lt) →
       exec .formingEnd s = .next ((s.put F.HERD_STAT_FORMING 0).herdMap (fun h => { h with formFrom := none })).beaconBegin) ∧
     (s.herd.formFrom = some a → s.herdFull = true → s.isSet F.HERD_STAT_FORMING = true → a + 1000000 ≤ s.lt → 0 < s.herd.formMax →
       s.lt < formTarget s.herd.formMax →
       let d := formTarget s.herd.formMax - s.lt
       let u := (s.ltStep (d / 80 * 80)).walkBegin (-(d % 80 * 256 : Nat))
       exec .formingEnd s = .next ((u.put F.HERD_STAT_FORMING 0).herdMap (fun h => { h with formFrom := none })).beaconBegin) ∧
     (∀ m, m + 1000000 ≤ formTarget m ∧ formTarget m < m + 2000000 ∧ formTarget m % 1000000 = 0) ∧
     (s.herdFull = true → s.lt % 10000 = 0 → s.herd.sentBnum ≠ some (bnumAt s.lt) → s.isSet F.HERD_STAT_BEACONING = true → s.herd.takeBnum = none →
       s.wrapped false = false → (s.port false).tx = .idle → (bnumAt s.lt).toNat % 16 ≠ 0 → Completes (.beaconSend frac) s (fun t => ∃ f b,
         t.out = s.out ++ [.frame false s.lt f .good] ∧ f.body = .beacon b ∧ f.bcast = true ∧ f.origin = s.line ∧ b.leaderLt = s.lt ∧
           b.bnum = bnumAt s.lt ∧ b.srcAddr = s.line ∧ b.srcRole = s.role ∧ t.herd.sentBnum = some b.bnum)) ∧
     (∀ n, s.herd.takeBnum = some n → seqLater n (bnumAt s.lt) = false → s.herdFull = true → s.lt % 10000 = 0 →
       s.herd.sentBnum ≠ some (bnumAt s.lt) → s.isSet F.HERD_STAT_BEACONING = true → exec (.beaconSend frac) s = .next s.beaconEnd) ∧
     (s.lt % 10000 ≠ 0 → exec (.beaconSend frac) s = .next s)) ∧
  (∀ (s : State) (portB : Bool) (f : Frame) (frac : Fin 256) (resid : Nat), f.seen .good = .good →
     (∀ b, f.body = .beacon b → s.ringTakes portB = true → f.origin ≠ s.line → f.bcast = true → f.hops < 64 →
       let u := (s.beaconGood portB b (s.portNow * 256 + frac.val)).beaconMarks b
       exec (.beaconRx portB f .good frac resid) s = .next (u.forward portB { f with body := .beacon (u.beaconOut portB b resid) } .good)) ∧
     (∀ b, f.body = .beacon b → s.ringTakes true = true → f.origin = s.line → f.hops < 64 → s.herdFull = true →
       let u := s.herdMap (fun h => { h with returned := tabInsert (b.bnum.toNat % 4) b (tabDrop (b.bnum.toNat % 4) h.returned) })
       exec (.beaconRx true f .good frac resid) s = .next (((u.beaconMarks b).deputiesNote b).anchorsTake b)) ∧
     (∀ n, f.body = .claim n → s.isFor portB f → s.isSet F.HERD_STAT_BEACONING = true → s.role = 1 →
       exec (.claimRx portB f .good) s = .next { s with herd := { s.herd with takeBnum := some n } }) ∧
     (∀ n, f.body = .claim n → s.isFor portB f → s.isSet F.HERD_STAT_BEACONING = false → exec (.claimRx portB f .good) s = .next s) ∧
     (∀ m p a r, f.body = .form m p a r → s.ringTakes true = true → s.herdFull = true → f.origin = s.line → s.isSet F.HERD_STAT_FORMING = true →
       exec (.formRx true f .good) s = .next { s with herd := { s.herd with formMax := max s.herd.formMax m } }) ∧
     (∀ m p a r, f.body = .form m p a r → s.ringTakes portB = true → f.origin ≠ s.line → f.bcast = true → s.isSet F.HERD_STAT_FORMING = false →
       exec (.formRx portB f .good) s =
         .next (s.forward portB { f with body := .form (max m s.lt) (p ||| (1#32 <<< s.line)) a r } .good)) ∧
     (s.ringTakes portB = false → s.role ≠ 3 → exec (.beaconRx portB f .good frac resid) s = .next s ∧ exec (.claimRx portB f .good) s = .next s ∧
       exec (.formRx portB f .good) s = .next s ∧ exec (.actionRx portB f .good) s = .next s ∧ exec (.herdAckRx portB f .good) s = .next s ∧
       exec (.recordRx portB f .good) s = .next s) ∧
     (s.role = 3 →
       let u : State := { s with herd := { s.herd with ignored := s.herd.ignored + 1 } }
       exec (.beaconRx portB f .good frac resid) s = .next u ∧ exec (.claimRx portB f .good) s = .next u ∧ exec (.formRx portB f .good) s = .next u ∧
         exec (.actionRx portB f .good) s = .next u ∧ exec (.herdAckRx portB f .good) s = .next u ∧ exec (.recordRx portB f .good) s = .next u))

/-- R153 to R156, R174: the states of a port, pair calibration and PULSE frames. A frame leaves an idle port at once. The model's choices: assumptions 31, 32 and
44. -/
def Obligations.PortsRun : Prop :=
  ∀ (s : State) (portB : Bool) (f : Frame) (frac : Fin 256) (stamp : Nat),
    (s.portLives = true → (s.get (portState portB) = 4 ∨ s.get (portState portB) = 1 ∨ s.get (portState portB) = 2) →
      exec (.portAligned portB) s = .next (if portB then s.portTo true 5 else (s.portTo false 5).calProbe 0)) ∧
    (s.portLives = true → s.get (portState portB) = 4 → exec (.portNoSignal portB) s = .next (s.portTo portB 1) ∧
      exec (.portCrossed portB) s = .next (s.portTo portB 2)) ∧
    (s.portLives = true → s.get (portState portB) = 3 → exec (.signalLost portB) s = .next (s.portTo portB 4)) ∧
    (s.portLives = false → exec (.portAligned portB) s = .next s ∧ exec (.portNoSignal portB) s = .next s ∧ exec (.portCrossed portB) s = .next s ∧
      exec (.signalLost portB) s = .next s) ∧
    (∀ n, n < 8 → s.get (portState portB) ≠ n → s.get (portState portB) ≠ 6 → (s.portTo portB n).get (portState portB) = n ∧
      (s.portTo portB n).core 8 = (s.core 8).pend (8 + portB.toNat)) ∧
    (∀ c, f.body = .cal c → f.seen .good = .good → s.portLives = true → s.get (portState portB) = 5 →
      exec (.calRx portB f .good stamp) s = .next (s.calTake portB c stamp)) ∧
    (∀ c, c.portB = portB → s.calTake portB c stamp = (s.showPeer portB c.addr).portTo portB 3) ∧
    (s.portLives = true → s.get (portState true) = 5 → (s.port true).calAt ≠ 0 → (s.port true).calAt + 2208 * 256 ≤ (s.portNow + 1) * 256 →
      (s.port true).tx = .idle → Completes (.calTurnaround true) s (fun t => (t.port true).calAt = 0 ∧ ∃ n, t.out = s.out ++
        [.frame true s.portNow (Frame.form s.line s.line false n (.cal ⟨s.line, true, s.role, (s.port true).calStep, 0⟩)) .good])) ∧
    ((s.port true).calAt = 0 → exec (.calTurnaround true) s = .next s) ∧ exec (.calTurnaround false) s = .next s ∧
    (s.linkRuns portB = true → 5000 ≤ s.portNow → 5000 ≤ s.portNow % 10000 →
      (s.port portB).txStamp < ((s.portNow + 5000) / 10000 * 10000 - 5000) * 256 → s.beaconNear portB = false → (s.port portB).tx = .idle →
      Completes (.pulseSend portB frac) s (fun t => (t.port portB).txStamp = s.portNow * 256 + frac.val ∧ ∃ g x,
        t.out = s.out ++ [.frame portB s.portNow g .good] ∧ g.body = .pulse x ∧ x.addr = s.line ∧ x.portB = portB ∧ x.role = s.role ∧
          x.txStamp = (s.portNow * 256 + frac.val) % 2 ^ 64)) ∧
    (s.beaconNear portB = true → exec (.pulseSend portB frac) s = .next s) ∧
    (∀ x, f.body = .pulse x → f.seen .good = .good → s.linkRuns portB = true →
      exec (.pulseRx portB f .good frac) s = .next (s.pulseTake portB x (s.portNow * 256 + frac.val)) ∧
        exec (.pulseRx portB f .abort frac) s = .next (s.setPort portB { s.port portB with good := 0 })) ∧
    (s.get (portState portB) = 6 → (s.port portB).lastPulse + 30000 ≤ s.portNow → exec (.portDown portB) s = .next (s.portTo portB 4)) ∧
    (s.portNow < (s.port portB).lastPulse + 30000 → exec (.portDown portB) s = .next s)

/-- R161, R165 to R168, R172: ACTION, ACK and RECORD frames for this module; a REQ_ID answered before gets its stored result and no second effect; an
address conflict answers result 10; a request ends with its slot's RESULT and BUSY 0; a record whose CRC fails is taken as its ABORTED form and counted; retries and the end of an unanswered frame. The model's
choices: assumptions 39, 40 and 41. -/
def Obligations.ActionsAndRecordsOnTheLink : Prop :=
  ∀ (s : State) (portB : Bool) (f : Frame) (r : ActReq) (p : PendReq) (x : OutFrame) (n res at_ : Nat) (fs : Word),
    (f.seen .good = .good → s.isFor portB f → exec (.actionRx portB f .good) s = .next (s.actionTake f) ∧
      exec (.herdAckRx portB f .good) s = .next (s.ackTake f) ∧ exec (.recordRx portB f .good) s = .next (s.recordAccept f)) ∧
    (f.body = .action [r] → s.actionTake f = (s.reqAnswer f.origin r).1.herdSend f.origin false (.ack [(r.reqId, (s.reqAnswer f.origin r).2)])) ∧
    (s.isSet F.HERD_STAT_ADDR_CONFLICT = true → s.reqAnswer n r = (s, rsConflict)) ∧
    (s.isSet F.HERD_STAT_ADDR_CONFLICT = false → (s.origin n).results.find? (fun y => y.1 == r.reqId) = some (r.reqId, res) → s.reqAnswer n r = (s, res)) ∧
    (s.reqEnd p n).herd.reqs = s.herd.reqs.filter (fun q => q.req.reqId != p.req.reqId) ∧
    (p.slot < 9 → n < 16 → (s.reqEnd p n).get (F.ACT_ENTER_RES_RESULT p.slot) = n ∧ (s.reqEnd p n).get (F.ACT_ENTER_RES_BUSY p.slot) = 0) ∧
    (f.body = .ack [(r.reqId, res)] → s.herd.reqs.find? (fun q => q.req.reqId == r.reqId && q.dest == f.origin) = some p →
      let u := (s.reqEnd p res).frameEnd [r.reqId]
      s.ackTake f = u.sendReqs u.unsent.length) ∧
    (f.body = .ack [(r.reqId, res)] → s.herd.reqs.find? (fun q => q.req.reqId == r.reqId && q.dest == f.origin) = none →
      let u := s.frameEnd [r.reqId]
      s.ackTake f = u.sendReqs u.unsent.length) ∧
    (∀ y crc, f.body = .record y crc → s.fseqNew f.origin f.body.cls f.fseq = false → s.recordAccept f = s) ∧
    (∀ y crc, f.body = .record y crc → s.fseqNew f.origin f.body.cls f.fseq = true →
      let o := s.origin f.origin
      let u := (s.setOrigin f.origin { o with fseqs := tabInsert f.body.cls f.fseq.toNat (tabDrop f.body.cls o.fseqs) }).recordCheck y crc
      s.recordAccept f = u.1.recordTake u.2) ∧
    (∀ y : Rec, y.typeOk = true → s.herd.streams.find? (fun z => z.1 == y.source.toNat * 256 + y.ty) = none →
      let q := 48 + (if y.ty = tyVerdict then s.get F.HERD_CFG_RXQ_VERDICT else s.get F.HERD_CFG_RXQ_BULK)
      let u := s.rxOffer q y
      let k := y.source.toNat * 256 + y.ty
      s.recordTake y = { u with herd := { u.herd with streams := tabInsert k (y.seq.toNat, y.lt) (tabDrop k u.herd.streams) } }) ∧
    (∀ y crc, (crc = Rec.crc y → s.recordCheck y crc = (s, y)) ∧
      (crc ≠ Rec.crc y → s.recordCheck y crc = (s.incSat F.HERD_CNT0_CRC_ERR, y.aborted))) ∧
    (s.herd.reqs.find? (fun q => q.req.reqId == r.reqId) = none → exec (.actionRetry r.reqId) s = .next s) ∧
    (s.herd.reqs.find? (fun q => q.req.reqId == r.reqId) = some p → p.sent = some (fs, at_) → s.lt < at_ + s.get F.HERD_CFG_ACK_TO_US * 1000 →
      exec (.actionRetry r.reqId) s = .next s) ∧
    (s.herd.reqs.find? (fun q => q.req.reqId == r.reqId) = some p → p.sent = some (fs, at_) → at_ + s.get F.HERD_CFG_ACK_TO_US * 1000 ≤ s.lt →
      s.get F.HERD_CFG_RETRIES ≤ p.tries → exec (.actionRetry r.reqId) s = .next ((s.incSat F.HERD_CNT1_ACT_LOST).reqEnd p rsLost)) ∧
    (s.herd.reqs.find? (fun q => q.req.reqId == r.reqId) = some p → p.sent = some (fs, at_) → at_ + s.get F.HERD_CFG_ACK_TO_US * 1000 ≤ s.lt →
      p.tries < s.get F.HERD_CFG_RETRIES →
      let u := (s.herdMap (fun h => { h with reqs := h.reqs.map (fun q =>
        if q.req.reqId == r.reqId then { q with tries := q.tries + 1, sent := none } else q) })).incSat F.HERD_CNT1_ACT_RETRY
      exec (.actionRetry r.reqId) s = .next (u.sendReqs u.unsent.length)) ∧
    (s.herd.frames.find? (fun y => y.fseq == fs) = some x → x.lt + 2 * s.get F.HERD_CFG_ACK_TO_US * 1000 ≤ s.lt →
      let u := s.herdMap (fun h => { h with frames := h.frames.erase x })
      exec (.unansweredFrameExpiry fs) s = .next (u.sendReqs u.unsent.length)) ∧
    (s.herd.frames.find? (fun y => y.fseq == fs) = some x → s.lt < x.lt + 2 * s.get F.HERD_CFG_ACK_TO_US * 1000 →
      exec (.unansweredFrameExpiry fs) s = .next s) ∧
    (s.herd.frames.find? (fun y => y.fseq == fs) = none → exec (.unansweredFrameExpiry fs) s = .next s)

/-- R164, R169, R170: a subscription without an anchor for more than 500 µs ends; an enabled lane without its source holds its output at REJ_LEVEL
once, at the decision instant that was due, where the mode lets the action table run; with it, the lane decides its next cycle, and a CLEAR for that cycle arms
nothing. The model's choices: assumptions 42 and 144. -/
def Obligations.SubscriptionsAndLanes : Prop :=
  ∀ (s : State) (n : Fin 16) (m : Fin 4) (c : Word),
    (s.isSet (F.HERD_SUB_CFG_AVAILABLE m) = true → tabGet (fun _ => 0) s.herd.anchorAt m.val + 500000 < s.lt →
      exec (.subscriptionExpiry m) s = .next ((s.put (F.HERD_SUB_CFG_AVAILABLE m) 0).sourceGone (4 + m.val)).watchNote) ∧
    (s.lt ≤ tabGet (fun _ => 0) s.herd.anchorAt m.val + 500000 → exec (.subscriptionExpiry m) s = .next s) ∧
    (s.isSet (F.HERD_RUC_CFG_EN n) = false → exec (.laneDecision n) s = .next s) ∧
    (s.dom 0 ≠ 2 → exec (.laneDecision n) s = .next s) ∧
    (s.isSet (F.HERD_RUC_CFG_EN n) = true → s.dom 0 = 2 → s.srcAvail (s.get (F.HERD_RUC_CFG_SRC n)) = false →
      exec (.laneDecision n) s = .next (if (s.lane n).held || !s.laneHoldDue n then s else s.laneHold n)) ∧
    ((s.laneHold n).lane n = { s.lane n with held := true, done := none, due := none }) ∧
    (s.tableRuns = true → s.get (F.HERD_RUC_CFG_OUTPUT n) < 24 → (s.laneHold n).bit F.OUT_LEVEL_LEVEL (s.get (F.HERD_RUC_CFG_OUTPUT n)) = s.isSet (F.HERD_RUC_CFG_REJ_LEVEL n) ∧
      .edge (s.get (F.HERD_RUC_CFG_OUTPUT n)) (s.isSet (F.HERD_RUC_CFG_REJ_LEVEL n)) (s.lt + s.outDly (s.get (F.HERD_RUC_CFG_OUTPUT n))) ∈ (s.laneHold n).out) ∧
    (s.tableRuns = false → (s.laneHold n).out = s.out ∧ (s.laneHold n).regs = s.regs) ∧
    (s.isSet (F.HERD_RUC_CFG_EN n) = true → s.dom 0 = 2 → s.srcAvail (s.get (F.HERD_RUC_CFG_SRC n)) = true → s.laneNext n = some c →
      exec (.laneDecision n) s = .next (s.laneDecide n c) ∧
        (c ∈ (s.lane n).clears → (s.laneDecide n c).acts = s.acts ∧ ((s.laneDecide n c).lane n).done = some c)) ∧
    (s.isSet (F.HERD_RUC_CFG_EN n) = true → s.dom 0 = 2 → s.srcAvail (s.get (F.HERD_RUC_CFG_SRC n)) = true → s.laneNext n = none →
      exec (.laneDecision n) s = .next s)

/-! ## Channels, cells, captures, timers, the action table and the outputs -/

/-- R101, R105 to R110, R116: moves and resets of a channel's range, a blank's end, a sample, and the mains trackers: a tracker with a usable source locks
once its estimates have stayed within ±0.005 Hz for 1 s, and unlocks, its frequency held, once its estimate leaves 45 to 65 Hz or both sources fail. A
command whose time has not come leaves the state as it is. The model's choices: assumptions 5, 27, 50, 148 and 154. -/
def Obligations.ChannelEvents : Prop :=
  ∀ (s : State) (w : Fin 9) (k : Fin 128) (tile : Fin 8) (mHz : Nat) (peak : Bool) (c : Word) (r : ResetRead) (since e st : Nat) (y : SampleRead),
    ((s.chan k).on = true → (s.get (F.CH_MODE_AR_MODE k) = 1 ∨ s.get (F.CH_MODE_AR_MODE k) = 2) →
      s.get (F.CH_STAT_RANGE_NOW k) < s.get (F.CH_MODE_MAX_RANGE k) → s.isSet (F.CH_STAT_BLANKING k) = false →
      (s.chan k).stitch.contains (ceilTo 80 s.lt) = false →
      Completes (.modClockUprange k) s (fun t => t.get (F.CH_STAT_RANGE_NOW k) = s.get (F.CH_STAT_RANGE_NOW k) + 1 ∧
        (t.chan k).lastChange = ceilTo 80 s.lt ∧ t.get (F.CH_STAT_UP_SEEN k) = 1 ∧ (t.chan k).stitch = (s.chan k).stitch ++ [ceilTo 80 s.lt])) ∧
    (s.get (F.CH_MODE_AR_MODE k) = 0 → exec (.modClockUprange k) s = .next s) ∧
    ((s.chan k).stitch.contains (ceilTo 80 s.lt) = true → exec (.modClockUprange k) s = .next s) ∧
    (s.schedDue k c = true → (s.chan k).on = true → s.isSet (F.CH_STAT_BLANKING k) = false → s.inDischarge k = false →
      let u := s.setChan k { s.chan k with schedDone := some c }
      exec (.scheduledReset k c r) s = .next (u.resetNow k r (fun x => x.resetRange k r) false)) ∧
    (s.schedDue k c = true → (∀ d, (s.chan k).schedDone = some d → laterCycle (some d) c = true)) ∧
    (s.schedDue k c = false → exec (.scheduledReset k c r) s = .next s) ∧
    (tileWriter w (k / 16) = true → (s.chan k).on = true → s.isSet (F.CH_STAT_BLANKING k) = false → s.inDischarge k = false →
      exec (.chCmdReset w k r) s = .next (s.resetNow k r (fun x => x.resetRange k r) false)) ∧
    (tileWriter w (k / 16) = false → exec (.chCmdReset w k r) s = .next s) ∧
    (tileWriter w (k / 16) = true → s.isSet (F.CH_STAT_BLANKING k) = true → exec (.chCmdReset w k r) s = .next s) ∧
    (∀ code before dst quiet, (s.beginReset k code r before dst quiet).get (F.CH_STAT_BLANKING k) = 1 ∧
      ((s.beginReset k code r before dst quiet).chan k).blankAt = some (ceilTo 80 s.lt) ∧
      ((s.beginReset k code r before dst quiet).chan k).newRange = dst) ∧
    ((s.chan k).on = true → s.get (F.CH_MODE_AR_MODE k) = 2 → s.get (F.CH_MODE_MIN_RANGE k) < s.get (F.CH_STAT_RANGE_NOW k) →
      s.isSet (F.CH_STAT_BLANKING k) = false → (s.chan k).lastChange ≤ since → since + s.get (F.CH_AR_QUIET_MS k) * 1000000 ≤ s.lt →
      s.inDischarge k = false → exec (.quietWindowEnd k since r) s =
        .next (s.resetNow k r (fun x => x.get (F.CH_STAT_RANGE_NOW k) - 1) true)) ∧
    ((s.chan k).on = true → s.get (F.CH_MODE_AR_MODE k) = 2 → s.get (F.CH_MODE_MIN_RANGE k) < s.get (F.CH_STAT_RANGE_NOW k) →
      s.isSet (F.CH_STAT_BLANKING k) = true → (s.chan k).blankAt = some (ceilTo 80 s.lt) → (s.chan k).quiet = false → (s.chan k).changeWas ≤ since →
      since + s.get (F.CH_AR_QUIET_MS k) * 1000000 ≤ s.lt → s.get (F.CH_MODE_MIN_RANGE k) < (s.chan k).newRange →
      within20 (s.resetLevel k r) ((s.chan k).newRange - 1) = true → Completes (.quietWindowEnd k since r) s (fun t =>
        t = s.setChan k { s.chan k with newRange := (s.chan k).newRange - 1, quiet := true } ∧ (t.chan k).newRange = (s.chan k).newRange - 1)) ∧
    (s.isSet (F.CH_STAT_BLANKING k) = true → ((s.chan k).quiet = true ∨ since < (s.chan k).changeWas) → exec (.quietWindowEnd k since r) s = .next s) ∧
    (s.lt < since + s.get (F.CH_AR_QUIET_MS k) * 1000000 → exec (.quietWindowEnd k since r) s = .next s) ∧
    ((s.chan k).blankAt = some e → e + 160 ≤ s.lt → (s.chan k).newRange < 8 → Completes (.blankEnd k) s (fun t =>
      (t.chan k).blankAt = none ∧ t.get (F.CH_STAT_BLANKING k) = 0 ∧ t.get (F.CH_STAT_RANGE_NOW k) = (s.chan k).newRange)) ∧
    ((s.chan k).blankAt = none → exec (.blankEnd k) s = .next s) ∧
    ((s.chan k).blankAt = some e → s.lt < e + 160 → exec (.blankEnd k) s = .next s) ∧
    ((s.chan k).last = some (e, st) → (s.chan k).on = true → e + latencyNs (s.chan k).rate ≤ s.lt →
      exec (.sampleEmit k y) s = .next ((s.setChan k { s.chan k with last := none }).emitSample k e st y)) ∧
    ((s.chan k).last = none → (s.chan k).on = true → (s.chan k).next + latencyNs (s.chan k).rate ≤ s.lt → s.awaitsLead k = false →
      s.windowOk k (s.chan k).next = true →
      let u := s.mainsSample k y.mains
      exec (.sampleEmit k y) s = .next ((u.setChan k { s.chan k with next := (s.chan k).next + periodNs (s.chan k).rate }).emitSample k (s.chan k).next
        (u.stepOf (k / 4) (s.chan k).next) y)) ∧
    ((s.chan k).on = false → exec (.sampleEmit k y) s = .next s) ∧
    Completes .mainsSenseEdge s (fun t => t.mainsEdges.getLast? = some s.lt ∧ (∀ n, n < 8 → t.isSet (F.MAINS_STAT_USING_CH n) = false)) ∧
    (s.mainsSense = false → s.isSet (F.MAINS_CFG_SRC_CH_EN tile) = true → Completes (.mainsSourceFallback tile) s (fun t =>
      t = s.mainsUse tile true ∧ t.isSet (F.MAINS_STAT_USING_CH tile) = true)) ∧
    (s.mainsSense = true → exec (.mainsSourceFallback tile) s = .next s) ∧
    (let u := s.mainsSee tile mHz
     u.mainsEstimate tile = some e → s.isSet (F.MAINS_STAT_LOCKED tile) = false → 45000 ≤ e → e ≤ 65000 → s.mainsUsable tile = true →
      mainsSteady s.lt (u.mainsLog tile) = true →
      Completes (.mainsLock tile mHz) s (fun t => t.get (F.MAINS_STAT_LOCKED tile) = 1 ∧ t.get (F.MAINS_FREQ_FREQ_MILLIHZ tile) = e)) ∧
    (mainsSteady s.lt ((s.mainsSee tile mHz).mainsLog tile) = false → exec (.mainsLock tile mHz) s = .next (s.mainsSee tile mHz)) ∧
    (s.isSet (F.MAINS_STAT_USING_CH tile) = false → s.mainsSee tile mHz = s) ∧
    (s.isSet (F.MAINS_STAT_LOCKED tile) = true → (s.mainsOut tile = true ∨ (s.mainsSense = false ∧ (s.mainsChan tile && peak) = false)) →
      Completes (.mainsUnlock tile peak) s (fun t => t.get (F.MAINS_STAT_LOCKED tile) = 0 ∧
        t.core tile = (s.core tile).pend 7 ∧ t.get (F.MAINS_FREQ_FREQ_MILLIHZ tile) = s.get (F.MAINS_FREQ_FREQ_MILLIHZ tile))) ∧
    (s.mainsOut tile = false → (s.mainsSense = true ∨ (s.mainsChan tile = true ∧ peak = true)) → exec (.mainsUnlock tile peak) s = .next s)

/-- R69 to R71, R77, R80, R83 to R86, R89: a cell's scan and break-before-make sequence, the excitation monitor, lead measurements and the cold
junction. R78: a class of a source flips its confirmed state after DEBOUNCE checks in a row that disagree with it; a check that agrees ends the row.
The model's choices: assumptions 47, 49, 118, 124, 137, 149, 151 and 152. -/
def Obligations.CellEvents : Prop :=
  (∀ (s : State) (c : Fin 32) (n : Fin 3) (i : Fin 4) (cycle : Word) (a : Nat) (nv : Int) (l : LeadRun) (rs : List ExcRead) (r : Option Int)
     (vs : List ResetRead),
     ((s.cell c).configAt = some a → s.lt % 5120 = 0 → a < s.lt → exec (.scanStart c) s = .next (s.scanStart c)) ∧
     (((s.scanStart c).cell c).running = true ∧ ((s.scanStart c).cell c).stepAt = s.lt ∧ ((s.scanStart c).cell c).phase = 0 ∧
       ((s.scanStart c).cell c).configAt = none ∧ ((s.scanStart c).cell c).sw = s.stepSwitches c 0) ∧
     (s.lt % 5120 ≠ 0 → exec (.scanStart c) s = .next s) ∧ ((s.cell c).configAt = none → exec (.scanStart c) s = .next s) ∧
     ((s.cell c).running = true → (s.cell c).phase = 0 → s.get (F.CELL_CFG_LAST_STEP c) ≠ 0 →
       (s.cell c).stepAt + s.dwellNs c (s.stepNow c) ≤ s.lt → exec (.scanStepBoundary c) s = .next (s.boundary c)) ∧
     (let at_ := (s.cell c).stepAt + s.dwellNs c (s.stepNow c)
      ((s.boundary c).cell c).stepAt = at_ ∧ ((s.boundary c).cell c).phase = 1 ∧
        ((s.boundary c).cell c).sw = (s.cell c).sw.keep (s.withLead c at_ (s.stepSwitches c (s.stepNext c))) ∧
        ((s.boundary c).cell c).disCh = [0, 1, 2, 3].filter (fun j => (s.stepSwitches c (s.stepNow c)).routeDiffers (s.stepSwitches c (s.stepNext c)) j)) ∧
     (s.get (F.CELL_CFG_LAST_STEP c) = 0 → exec (.scanStepBoundary c) s = .next s) ∧
     (s.lt < (s.cell c).stepAt + s.dwellNs c (s.stepNow c) → exec (.scanStepBoundary c) s = .next s) ∧
     (s.seqAt c 1 20 = true → (s.cell c).disCh = [] → Completes (.dischargeStart c vs) s (fun t => t = s.seqTo c 2 ∧ (t.cell c).phase = 2)) ∧
     (s.seqAt c 1 20 = true → exec (.dischargeStart c vs) s =
       .next (((s.cell c).disCh.foldl (fun s i => s.dischargeReset (4 * c.val + i) (vs.getD i ⟨[], 0⟩)) s).seqTo c 2)) ∧
     (s.seqAt c 1 20 = false → exec (.dischargeStart c vs) s = .next s) ∧
     (s.seqAt c 2 (s.disNs c + 20) = true → Completes (.dischargeEnd c) s (fun t => t = s.setCell c { s.cell c with phase := 3 })) ∧
     (s.seqAt c 2 (s.disNs c + 20) = false → exec (.dischargeEnd c) s = .next s) ∧
     (s.seqAt c 3 (s.disNs c + 40) = true → Completes (.newSwitchesClose c) s (fun t => (t.cell c).phase = 4 ∧
       (t.cell c).sw = s.withLead c (s.cell c).stepAt (s.stepSwitches c (s.stepNow c)))) ∧
     (s.seqAt c 3 (s.disNs c + 40) = false → exec (.newSwitchesClose c) s = .next s) ∧
     (s.seqAt c 4 (s.disNs c + 60) = true → Completes (.switchingSequenceEnd c) s (fun t => (t.cell c).phase = 0 ∧ (t.cell c).disCh = [])) ∧
     (s.seqAt c 4 (s.disNs c + 60) = false → exec (.switchingSequenceEnd c) s = .next s) ∧
     (s.lt % 10240 = 0 → exec (.excCheck rs) s = .next (s.excCheck rs)) ∧ (s.lt % 10240 ≠ 0 → exec (.excCheck rs) s = .next s) ∧
     (((s.cell c).mon n).off = some a → s.get (F.CELL_EXC_TOL_RETRY_S c) ≠ 0 → a + s.get (F.CELL_EXC_TOL_RETRY_S c) * 1000000000 ≤ s.lt →
       exec (.sourceRetry c n) s = .next (s.srcBack c n)) ∧
     ((((s.srcBack c n).cell c).mon n).off = none ∧ (((s.srcBack c n).cell c).mon n).confirmed = []) ∧
     (s.get (F.CELL_EXC_TOL_RETRY_S c) = 0 → exec (.sourceRetry c n) s = .next s) ∧
     (((s.cell c).mon n).off = none → exec (.sourceRetry c n) s = .next s) ∧
     ((s.cell c).running = true → s.lt % 5120 = 0 → s.get (F.CELL_LEAD_CFG_WIRING c i) ≠ 0 → s.leadDue c i cycle = true →
       s.leadAngleCome c i cycle = true → s.leadTurn c i cycle = true → (s.cell c).lead.all (fun l => l.chan != i.val) = true →
       exec (.leadMeasurementStart c i cycle) s = .next (s.leadStart c i cycle)) ∧
     ((s.cell c).lead = none → s.leadBlocked c i = false → ((s.leadStart c i cycle).cell c).lead = some ⟨i, s.lt, 0, 0, 0, 0⟩ ∧
       (s.leadStart c i cycle).get (F.CELL_LEAD_STAT_MISSED c i) = 0 ∧ (s.leadStart c i cycle).bit (F.CELL_EXC_STAT_LEAD_BUSY c) i = true) ∧
     ((s.cell c).lead = none → s.leadBlocked c i = true → ((s.leadStart c i cycle).cell c).lead = none ∧
       (s.leadStart c i cycle).get (F.CELL_LEAD_STAT_MISSED c i) = 1) ∧
     ((s.cell c).lead = some l → ((s.leadStart c i cycle).cell c).lead = some l ∧ (((s.leadStart c i cycle).cell c).leadOf i).waits = true ∧
       (s.leadStart c i cycle).regs = s.regs) ∧
     (s.leadDue c i cycle = false → exec (.leadMeasurementStart c i cycle) s = .next s) ∧
     (s.leadStep c 0 1024000 = some l → exec (.leadBaselineEnd c nv) s = .next ((s.leadGo c { l with phase := 1, base := nv } 15).leadSettle c l)) ∧
     (s.leadStep c 1 1024040 = some l → exec (.leadSourceJoin c) s = .next (s.leadGo c { l with phase := 2 } (s.get (F.CELL_LEAD_CFG_LEAD_T c l.chan)))) ∧
     (s.leadStep c 2 1228800 = some l → exec (.leadIntegrationStart c) s =
       .next (s.leadGo c { l with phase := 3 } (s.get (F.CELL_LEAD_CFG_LEAD_T c l.chan)))) ∧
     (s.leadStep c 3 2252800 = some l → exec (.leadIntegrationEnd c nv none) s =
       .next (s.leadGo c { l with phase := 4, second := nv, iNa := s.measNa c ((s.leadSource c).getD 0) } 15)) ∧
     (s.leadStep c 3 2252800 = some l → l.at_ ≤ a → a ≤ s.lt → Completes (.leadIntegrationEnd c nv (some a)) s (fun t => a ∈ (t.cell c).cm ∧
       (t.cell c).lead = some { l with phase := 4, second := nv, iNa := s.measNa c ((s.leadSource c).getD 0) })) ∧
     (s.leadStep c 4 2252840 = some l → exec (.leadMeasurementEnd c) s = .next (s.leadEnd c l)) ∧
     (((s.leadEnd c l).cell c).lead = none ∧ ((s.leadEnd c l).cell c).leadFree = s.lt ∧ ((s.leadEnd c l).cell c).sw = s.sourceGoes c ((s.leadSource c).getD 0)) ∧
     ((s.cell c).lead = none → exec (.leadBaselineEnd c nv) s = .next s ∧ exec (.leadSourceJoin c) s = .next s ∧
       exec (.leadIntegrationStart c) s = .next s ∧ exec (.leadIntegrationEnd c nv (some a)) s = .next s ∧ exec (.leadMeasurementEnd c) s = .next s) ∧
     (∀ m, (s.cell c).lead = some l → (s.leadGo c l m).cell c = { s.cell c with lead := some l, sw := (s.cell c).sw.setSource ((s.leadSource c).getD 0) m }) ∧
     ((s.cell c).running = true → s.lt % 10240000 = 0 → exec (.cjUpdate c r) s = .next (s.cjUpdate c r)) ∧
     ((s.cell c).running = true → s.lt % 10240000 = 0 → (s.cell c).cjFault = false → (s.cell c).cjBad < 2 →
       Completes (.cjUpdate c none) s (fun t => (t.cell c).cjBad = (s.cell c).cjBad + 1 ∧ t.regs = s.regs)) ∧
     (∀ v, -5120 ≤ v → v ≤ 12800 → (s.cell c).running = true → s.lt % 10240000 = 0 → (s.cell c).cjFault = false →
       Completes (.cjUpdate c (some v)) s (fun t => t.get (F.CELL_CJ_CJ_TEMP c) = (v % 65536).toNat ∧ t.get (F.CELL_CJ_CJ_VALID c) = 1 ∧
         (t.cell c).cjBad = 0)) ∧
     ((s.cell c).running = true → s.lt % 10240000 = 0 → (s.cell c).cjFault = false → 2 ≤ (s.cell c).cjBad →
       Completes (.cjUpdate c none) s (fun t => (t.cell c).cjFault = true)) ∧
     (s.lt % 10240000 ≠ 0 → exec (.cjUpdate c r) s = .next s)) ∧
  (∀ (m : SrcMon) (cls d : Nat) (b : Bool), m.confirmed.Nodup →
     (m.confirmed.contains cls = b → m.step cls b d = ({ m with runs := tabSet (fun _ => 0) cls 0 m.runs }, false)) ∧
     (m.confirmed.contains cls ≠ b → tabGet (fun _ => 0) m.runs cls + 1 < d →
       (m.step cls b d).2 = false ∧ (m.step cls b d).1.confirmed = m.confirmed ∧
         tabGet (fun _ => 0) (m.step cls b d).1.runs cls = tabGet (fun _ => 0) m.runs cls + 1) ∧
     (m.confirmed.contains cls ≠ b → d ≤ tabGet (fun _ => 0) m.runs cls + 1 →
       (m.step cls b d).2 = true ∧ (m.step cls b d).1.confirmed.contains cls = b ∧ tabGet (fun _ => 0) (m.step cls b d).1.runs cls = 0 ∧
         ∀ x, x ≠ cls → (m.step cls b d).1.confirmed.contains x = m.confirmed.contains x))

/-- R212, R213, R215, R221: a change that lasted shorter than the filter is a glitch of an enabled input and nothing else; an open record closes CLOSE_US
after its first entry; an encoder without counts for STOP_MS is stopped. A time that has not come leaves the state as it is. R214: a stamp is kept while
the queue of 4 has room. R218: with MODE 1 every edge of A and B counts, forward where A leads B; both changing at once is an error; no count without a
change. R141: a stamp taken under throttle is marked so. R398: an encoder that stops or runs again may be WATCH_SRC. -/
def Obligations.CaptureAndEncoderEvents : Prop :=
  (∀ (s : State) (x : CapChange) (u : Fin 40) (e : Fin 4) (p : CapEntry),
     (x.held < s.filterNs x.input → (s.cap x.input).on = true → x.input.val < 24 →
       s.capChange x = s.incSat (F.CAP_IN_CNT_GLITCHES x.input)) ∧
     (∀ cs, exec (.captureEdge cs) s = .next (s.capChanges cs).watchBack) ∧
     ((∀ n, n < 4 → s.isSet (F.CAP_ENC_STAT_COUNTING n) = false) → (s.cap x.input).on = false → s.watch.byAuto = false →
       exec (.captureEdge [x]) s = .next (s.capChange x)) ∧
     (s.filterNs x.input ≤ x.held → (s.cap x.input).level ≠ x.level → (s.cap x.input).on = false →
       s.capChange x = (s.setCap x.input { s.cap x.input with level := x.level }).putB (F.CAP_IN_STAT_LEVEL x.input) x.level) ∧
     ((s.cap u).fifo.length < 4 → (s.capPut u p).2 = true ∧ ((s.capPut u p).1.cap u).fifo =
       (s.cap u).fifo ++ [{ p with lost := (s.cap u).dropped, lostFrom := (s.cap u).lastKept, thr := s.throttle != 0 }] ∧ (s.capPut u p).1.regs = s.regs) ∧
     ((s.cap u).entries ≠ [] → (s.cap u).openLt + s.get F.CAP_CFG_CLOSE_US * 1000 ≤ s.lt → exec (.captureRecordClose u) s = .next (s.capClose u)) ∧
     (s.lt < (s.cap u).openLt + s.get F.CAP_CFG_CLOSE_US * 1000 → exec (.captureRecordClose u) s = .next s) ∧
     ((s.cap u).entries = [] → exec (.captureRecordClose u) s = .next s) ∧
     (s.isSet (F.CAP_ENC_STAT_COUNTING e) = true → s.isSet (F.CAP_ENC_STAT_STOPPED e) = false →
       (s.enc e).lastLt + s.get (F.CAP_ENC_CFG_STOP_MS e) * 1000000 ≤ s.lt →
       let u := (s.put (F.CAP_ENC_STAT_STOPPED e) 1).put (F.CAP_ENC_PERIOD_PERIOD e) 0xFFFFFFFF
       exec (.encoderStopped e) s = .next ((u.setEnc e { s.enc e with stamps := [] }).reestimate e).watchNote) ∧
     (s.isSet (F.CAP_ENC_STAT_STOPPED e) = true → exec (.encoderStopped e) s = .next s) ∧
     (s.isSet (F.CAP_ENC_STAT_COUNTING e) = false → exec (.encoderStopped e) s = .next s) ∧
     (s.lt < (s.enc e).lastLt + s.get (F.CAP_ENC_CFG_STOP_MS e) * 1000000 → exec (.encoderStopped e) s = .next s)) ∧
  (∀ (a b a' b' : Bool),
     (a ≠ a' → b ≠ b' → ∀ m, m ≠ 4 → countOf m a b a' b' = .error) ∧
     (∀ m, countOf m a b a b = .none_) ∧
     (countOf 1 false false true false = .up true ∧ countOf 1 true false true true = .up true ∧ countOf 1 true true false true = .up true ∧
       countOf 1 false true false false = .up true) ∧
     (∀ d, countOf 1 a b a' b' = .up d → countOf 1 a' b' a b = .up (!d)) ∧
     (∀ m d, m ≠ 4 → countOf m a b a' b' = .up d → countOf 1 a b a' b' = .up d))

/-- R223 to R228: the timers' commands, and what a count advance does. R226: CMP matches where it lies in (old, new] modulo the period. The model's choices:
assumption 104. -/
def Obligations.TimerResults : Prop :=
  (∀ (s : State) (w : Fin 9) (t : Fin 8) (n : Fin 4) (v : Word) (p d : Nat),
     (tileWriter w t = true →
       exec (.timerStart w t n) s = .next (s.put (F.TT_STAT_RUNNING t n) 1) ∧ exec (.timerStop w t n) s = .next (s.put (F.TT_STAT_RUNNING t n) 0) ∧
       exec (.timerClear w t n) s = .next ((s.setTimer t n { s.timer t n with trunc := false }).put (F.TT_CNT_COUNT t n) 0) ∧
       Completes (.timerPerWrite w t n v) s (fun u => u.rd (R.TT_PER t n) = v ∧ (s.isSet (F.TT_CFG_PER_MODE t n) = false → u = s.wr (R.TT_PER t n) v) ∧
         (s.isSet (F.TT_CFG_PER_MODE t n) = true → (u.timer t n).per = v.toNat)) ∧
       Completes (.timerCmpWrite w t n v) s (fun u => u.rd (R.TT_CMP t n) = v ∧ u.mem = s.mem ∧ u.timers = s.timers)) ∧
     (tileWriter w t = false → exec (.timerStart w t n) s = .next s ∧ exec (.timerStop w t n) s = .next s ∧ exec (.timerClear w t n) s = .next s ∧
       exec (.timerPerWrite w t n v) s = .next s ∧ exec (.timerCmpWrite w t n v) s = .next s) ∧
     ((s.timer t n).matchDue = true → exec (.timerMatch t n) s = .next ((s.setTimer t n { s.timer t n with matchDue := false }).route t n false)) ∧
     ((s.timer t n).matchDue = false → exec (.timerMatch t n) s = .next s) ∧
     ((s.timer t n).endDue = true → (s.timer t n).matchDue = false →
       exec (.timerPeriodEnd t n) s = .next ((s.setTimer t n { s.timer t n with endDue := false }).route t n true)) ∧
     ((s.timer t n).endDue = false → exec (.timerPeriodEnd t n) s = .next s) ∧
     (s.timer t n = { Timer.reset with per := p } → s.isSet (F.TT_STAT_RUNNING t n) = false → (s.timerTick t n d).get (F.TT_CNT_COUNT t n) =
       s.get (F.TT_CNT_COUNT t n)) ∧
     (s.timer t n = { Timer.reset with per := p } → s.isSet (F.TT_STAT_RUNNING t n) = true → 0 < p → p ≤ 0xFFFFFFFF → d ≤ p → s.get (F.TT_CNT_COUNT t n) < p →
       let u := s.timerTick t n d
       (s.get (F.TT_CNT_COUNT t n) + d < p → u.get (F.TT_CNT_COUNT t n) = s.get (F.TT_CNT_COUNT t n) + d ∧ (u.timer t n).endDue = false) ∧
       (p ≤ s.get (F.TT_CNT_COUNT t n) + d → s.isSet (F.TT_CFG_ONE_SHOT t n) = false →
         u.get (F.TT_CNT_COUNT t n) = s.get (F.TT_CNT_COUNT t n) + d - p ∧ (u.timer t n).endDue = true) ∧
       (p ≤ s.get (F.TT_CNT_COUNT t n) + d → s.isSet (F.TT_CFG_ONE_SHOT t n) = true →
         u.get (F.TT_CNT_COUNT t n) = 0 ∧ u.get (F.TT_STAT_RUNNING t n) = 0 ∧ (u.timer t n).endDue = true))) ∧
  (∀ (p old step cmp : Nat), old < p → step ≤ p →
     (cmpPassed p old step cmp = true ↔ cmp < p ∧ ∃ j, 1 ≤ j ∧ j ≤ step ∧ (old + j) % p = cmp))

/-- R230, R232 to R237: entering actions, fixing and launching entries, settling retries, and the outputs' faults: without OUT_24V OUT0 to OUT15 and
the encoders' supplies are off. A time that has not come leaves the state as it is. The model's choices: assumptions 60, 61, 62 and 103. -/
def Obligations.ActionsAndOutputs : Prop :=
  ∀ (s : State) (w slot : Fin 9) (ctl : Word) (a : Fin 512) (n : Fin 24) (level : Bool) (r : Retry),
    (w ≠ slot → exec (.actEnterGo w slot ctl) s = .next s) ∧
    (ctl.getLsbD 31 = false → exec (.actEnterGo slot slot ctl) s = .next (s.wr (R.ACT_ENTER_CTL slot) (ctl &&& 0x1FFFF#32))) ∧
    (ctl.getLsbD 31 = true → s.isSet (F.ACT_ENTER_RES_BUSY slot) = true →
      exec (.actEnterGo slot slot ctl) s = .next (s.wr (R.ACT_ENTER_CTL slot) (ctl &&& 0x1FFFF#32))) ∧
    (ctl.getLsbD 31 = true → s.isSet (F.ACT_ENTER_RES_BUSY slot) = false →
      let u := s.wr (R.ACT_ENTER_CTL slot) (ctl &&& 0x1FFFF#32)
      exec (.actEnterGo slot slot ctl) s =
        .next (if u.isSet (F.ACT_ENTER_CTL_SELF slot) || u.get (F.ACT_ENTER_CTL_ADDR slot) == s.line then u.slotOwn slot else u.slotHerd slot)) ∧
    ((s.act a).state = 1 → (s.act a).est = true → (s.act a).launchLt ≤ s.lt + 2000 →
      Completes (.entryFix a) s (fun t => t = s.setAct a { s.act a with state := 2 } ∧ (t.act a).state = 2)) ∧
    ((s.act a).state ≠ 1 → exec (.entryFix a) s = .next s) ∧
    (s.lt + 2000 < (s.act a).launchLt → exec (.entryFix a) s = .next s) ∧
    ((s.act a).state = 2 → (s.act a).launchLt ≤ s.lt → exec (.launch a) s = .next (s.execute a (s.act a).late)) ∧
    (s.lt < (s.act a).launchLt → exec (.launch a) s = .next s) ∧
    ((s.outSt n).retry = some r → r.edgeLt + 100000 ≤ s.lt →
      let oc := if (s.outSt n).off then ocOutputFault else if r.entry.late then ocLate else ocOnTime
      let u := s.setOut n { s.outSt n with retry := none }
      let u := if (s.outSt n).off then u else u.clearBit F.OUT_FAULT_FAULT n
      exec (.retryOutcomeSettle n) s = .next ((u.settleCount oc).retryRecord n oc r)) ∧
    ((s.outSt n).retry = none → exec (.retryOutcomeSettle n) s = .next s) ∧
    ((s.outSt n).retry = some r → s.lt < r.edgeLt + 100000 → exec (.retryOutcomeSettle n) s = .next s) ∧
    (n.val < 16 → s.contact n = true →
      let u := (s.setBit F.OUT_FAULT_FAULT n).put F.OUT_EVT_OVERCURRENT_SEEN 1
      exec (.outputOvercurrent n) s = .next (((u.setOut n { u.outSt n with off := true }).drive).outFault n ofOvercurrent)) ∧
    (16 ≤ n.val → exec (.outputOvercurrent n) s = .next s) ∧
    (s.contact n = false → exec (.outputOvercurrent n) s = .next s) ∧
    (s.readbackTime n = true → level = s.bit F.OUT_LEVEL_LEVEL n → Completes (.outputReadbackCheck n level) s (fun t =>
      t.bit F.OUT_PIN_PIN n = level ∧ t.get F.OUT_CNT_FAULTS = s.get F.OUT_CNT_FAULTS)) ∧
    (s.readbackTime n = true → level ≠ s.bit F.OUT_LEVEL_LEVEL n → s.bit F.OUT_FAULT_FAULT n = false → (16 ≤ n.val ∨ s.noSupply = false) →
      let u := if level then s.setBit F.OUT_PIN_PIN n else s.clearBit F.OUT_PIN_PIN n
      exec (.outputReadbackCheck n level) s = .next (((u.setBit F.OUT_FAULT_FAULT n).put F.OUT_EVT_READBACK_SEEN 1).outFault n ofReadback)) ∧
    (s.readbackTime n = false → exec (.outputReadbackCheck n level) s = .next s) ∧
    (s.noSupply = false → exec .outSupplyLow s =
      .next ((((s.put F.OUT_FAULT_NO_SUPPLY 1).put F.OUT_EVT_NO_SUPPLY_SEEN 1).drive).outFault 0 ofNoSupply)) ∧
    (s.noSupply = true → exec .outSupplyLow s = .next s ∧ (n.val < 16 → s.outOn n = false) ∧ s.encSupply = false) ∧
    Completes .outSupplyReturn s (fun t => t = (s.put F.OUT_FAULT_NO_SUPPLY 0).drive ∧ t.noSupply = false)

/-! ## The churn engine -/

/-- R184, R185, R190, R198, R201 to R203: the engine's commands. A command whose time has not come, or that its writer may not give, changes nothing
(a refused table write is counted, and a group's registers follow its state). The model's choices: assumptions 5, 54, 55, 58, 59 and 110. -/
def Obligations.ChurnEvents : Prop :=
  ∀ (s : State) (w : Fin 9) (tile src : Fin 8) (i : Fin 16) (g : Fin 4) (e : Fin 3072) (v low : Word) (x : WaitSample) (l : List WaitSample) (c : CycWait)
    (cs : List CycWait) (j : Judge),
    ((s.eng tile).on = true → exec (.pointArrival tile src) s = .next ((s.pointsReach tile src).reestimate src)) ∧
    ((s.eng tile).on = false → exec (.pointArrival tile src) s = .next (s.reestimate src)) ∧
    ((∀ k, k < 4 → s.isSet (F.CHURN_GRP_CFG_EN tile k) = false ∨ s.grpSrc tile k ≠ src) →
      s.pointsReach tile src = s.setEng tile { s.eng tile with pts := tabSet (fun _ => []) src (s.src src).pts (s.eng tile).pts }) ∧
    (s.foldExpired tile (s.get (F.CHURN_STR_GROUP tile i)) i = true → s.waitingOf tile i = x :: l →
      let n := s.get (F.CHURN_STR_GROUP tile i)
      exec (.foldWaitExpiry tile i) s = .next ((((s.setWaiting tile i l).stillSample tile n i x).drainStream tile n i l.length).grpShow tile n)) ∧
    (s.waitingOf tile i = [] → exec (.foldWaitExpiry tile i) s = .next s) ∧
    (s.foldExpired tile (s.get (F.CHURN_STR_GROUP tile i)) i = false → exec (.foldWaitExpiry tile i) s = .next s) ∧
    ((s.grp tile g).waits = c :: cs → c.firstLt + s.get (F.CHURN_GRP_TIME_CLOSE_WAIT tile g) * 100000 ≤ s.lt →
      exec (.closeWaitExpiry tile g) s = .next ((s.closeUpTo tile g c.cycle false).grpShow tile g)) ∧
    ((s.grp tile g).waits = [] → exec (.closeWaitExpiry tile g) s = .next s) ∧
    ((s.grp tile g).waits = c :: cs → s.lt < c.firstLt + s.get (F.CHURN_GRP_TIME_CLOSE_WAIT tile g) * 100000 →
      exec (.closeWaitExpiry tile g) s = .next s) ∧
    exec (.maxCycleTimeout tile g) s = .next ((s.maxCycle tile g).grpShow tile g) ∧
    (s.openCycles tile g (s.srcView tile (s.grpSrc tile g)) = [] → exec (.maxCycleTimeout tile g) s = .next (s.grpShow tile g)) ∧
    ((s.grp tile g).startAt.isSome = true → s.srcAvailTo tile (s.grpSrc tile g) = false → exec (.cycleSourceLoss tile g) s = .next (s.groupLost tile g)) ∧
    ((s.grp tile g).startAt = none → exec (.cycleSourceLoss tile g) s = .next (s.grpShow tile g)) ∧
    (s.srcAvailTo tile (s.grpSrc tile g) = true → exec (.cycleSourceLoss tile g) s = .next (s.grpShow tile g)) ∧
    ((s.eng tile).judge = some j → j.until_ ≤ s.lt → exec (.judgementEnd tile) s = .next (s.judgeEnd tile j.group)) ∧
    (∀ (k : Closed) (ks : List Closed), (s.grp tile g).closed = k :: ks →
      let st := if k.incomplete then vIncomplete else if (s.grp tile g).teaching then vTeaching else vJudged
      let u := (s.setGrp tile g { s.grp tile g with closed := ks }).verdict tile g k st
      let z := (u.eng tile).commits.foldl (fun y m => y.envSet tile m.1 m.2) (u.setEng tile { u.eng tile with judge := none, commits := [] })
      s.judgeEnd tile g = (z.judgeNext tile).grpShow tile g) ∧
    ((s.eng tile).judge = none → exec (.judgementEnd tile) s = .next s) ∧
    ((s.eng tile).judge = some j → s.lt < j.until_ → exec (.judgementEnd tile) s = .next s) ∧
    (tileWriter w tile = true → s.isSet (F.CHURN_GRP_CFG_TEACH_CMD_EN tile g) = true → s.isSet (F.CHURN_GRP_CFG_EN tile g) = true →
      exec (.teach w tile g) s = .next (s.teachStart tile g)) ∧
    (((s.teachStart tile g).grp tile g).teaching = true ∧ ((s.teachStart tile g).grp tile g).teachDone = 0 ∧
      ∀ k ∈ ((s.teachStart tile g).grp tile g).closed, k.stale = true) ∧
    (s.isSet (F.CHURN_GRP_CFG_TEACH_CMD_EN tile g) = false → exec (.teach w tile g) s = .next s) ∧
    (tileWriter w tile = false → exec (.teach w tile g) s = .next s ∧ exec (.teachEnd w tile g) s = .next s) ∧
    (tileWriter w tile = true → (s.grp tile g).teaching = true → Completes (.teachEnd w tile g) s (fun t => t.env = s.env ∧ t.mem = s.mem ∧
      (t.grp tile g).teaching = false)) ∧
    ((s.grp tile g).teaching = false → exec (.teachEnd w tile g) s = .next s) ∧
    (∀ high, tileWriter w tile = false → exec (.envEntryWrite w tile e high v) s = .next (s.envRefuse tile) ∧ (s.envRefuse tile).env = s.env) ∧
    (∀ high, s.envMay tile (s.envGroup tile (s.envGet tile e)) = false → exec (.envEntryWrite w tile e high v) s = .next (s.envRefuse tile)) ∧
    (tileWriter w tile = true → s.envMay tile (s.envGroup tile (s.envGet tile e)) = true → Completes (.envEntryWrite w tile e false v) s (fun t =>
      t.env = s.env ∧ tabGet (fun _ => none) (t.eng tile).lowHeld e = some v)) ∧
    (tileWriter w tile = true → s.envMay tile (s.envGroup tile (s.envGet tile e)) = true → tabGet (fun _ => none) (s.eng tile).lowHeld e = some low →
      s.envMay tile (s.envGroup tile (v ++ low)) = true → (s.eng tile).judge = none →
      Completes (.envEntryWrite w tile e true v) s (fun t => t.envGet tile e = v ++ low ∧ ∀ n, n < 3072 → n ≠ e.val → t.envGet tile n = s.envGet tile n))

/-- R188: a sample with neither SETTLING nor EXC_FAULT is added to its bin's statistics and marks it STITCHED, OVERRANGE or HOLDOVER where it carries
the flag, or HOLDOVER where its anchor shows it; a sample with SETTLING or EXC_FAULT, whatever else it carries, is not added and marks SETTLING_SEEN or
EXC_SEEN alone. R189, R194: the statistics are the sum, the least and the greatest code, and the angles of the first of each. -/
def Obligations.BinsAccumulate : Prop :=
  ∀ (b : BinAcc) (w : Word) (angle : Nat) (hold : Bool),
    let x := b.add w angle hold
    (w.getLsbD 25 = false → w.getLsbD 27 = false →
      x.added = b.added + 1 ∧ x.placed = b.placed + 1 ∧ x.stitched = (b.stitched || w.getLsbD 24) ∧ x.overrange = (b.overrange || w.getLsbD 26) ∧
        x.holdover = (b.holdover || w.getLsbD 28 || hold) ∧ x.settling = b.settling ∧ x.exc = b.exc) ∧
    (w.getLsbD 25 = false → w.getLsbD 27 = false → 0 < b.added →
      x.sum = b.sum + wordCode w ∧ x.min = min b.min (wordCode w) ∧ x.max = max b.max (wordCode w) ∧
        x.minAt = (if wordCode w < b.min then angle / 256 else b.minAt) ∧ x.maxAt = (if b.max < wordCode w then angle / 256 else b.maxAt)) ∧
    (w.getLsbD 25 = false → w.getLsbD 27 = false → b.added = 0 →
      x.sum = wordCode w ∧ x.min = wordCode w ∧ x.max = wordCode w ∧ x.minAt = angle / 256 ∧ x.maxAt = angle / 256) ∧
    (w.getLsbD 25 = true ∨ w.getLsbD 27 = true →
      x = { b with placed := b.placed + 1, settling := b.settling || w.getLsbD 25, exc := b.exc || w.getLsbD 27 })

/-! ## Memory, records, queues and ladles -/

/-- R287: the bytes of every record whose fields fit spell that record again, with a CRC that holds. -/
def Obligations.RecordBytesSpellTheRecord : Prop :=
  ∀ r : Rec, r.ty < 256 → r.lt < 2 ^ 64 → r.length ≤ 4096 → r.length % 4 = 0 → Rec.ofBytes r.bytes = some (r, true)

/-- R294, R297, R303: a pending GAP loses no record. A dropped record counts once among its entries, at most 64 of them; a MARK is kept; a GAP's own
entries are merged. -/
def Obligations.PendingGapCountsEveryRecord : Prop :=
  ∀ (p : PendGap) (r : Rec), p.entries.length ≤ 64 →
    (r.isGapMark = false → ((p.add r).entries.map GapEntry.count).sum = (p.entries.map GapEntry.count).sum + 1 ∧ (p.add r).marks = p.marks) ∧
    (p.add r).entries.length ≤ 64 ∧
    (r.ty = tyMark → p.add r = { p with marks := p.marks ++ [r] }) ∧
    (r.ty = tyGap → ((p.add r).entries.map GapEntry.count).sum = (p.entries.map GapEntry.count).sum + (r.gapEntries.map GapEntry.count).sum)

/-- R298, R301 to R304: a record offered to a queue with room outside the reserve is committed behind the others; one offered to a queue that resets
goes into the reset's GAP. R283, R284, R303, R304, R306: scrubbing a line, the end of a queue's reset, pending GAPs, and a core's pushes and pops. The
model's choices: assumptions 68, 69 and 70. -/
def Obligations.QueueOffersAndEvents : Prop :=
  (∀ (s : State) (q : Nat) (r : Rec) (z : QReset), s.consumers q = [(consCore, true)] → ((s.queue q).consOf consCore).head ≤ (s.queue q).first →
     (s.queue q).pend = none → s.co.moved.contains q = false → (s.queue q).used + r.length + qReserve ≤ s.qSize q → r.typeOk = true → (s.queue q).agrees = true →
     ((s.queue q).resetting = none → (s.queue q).tooMany r = false →
       ((s.qOffer q r).queue q).recs = (s.queue q).recs ++ [s.carried r] ∧ ((s.qOffer q r).queue q).total = (s.queue q).total + 1 ∧
         ((s.qOffer q r).queue q).cons = (s.queue q).cons) ∧
     ((s.queue q).resetting = some z →
       ((s.qOffer q r).queue q).recs = (s.queue q).recs ∧
         ((s.qOffer q r).queue q).resetting = some { z with gap := resetAdd (s.queue q).passed z.gap r })) ∧
  (∀ (s : State) (m : Fin 19) (u : ScrubFind) (w : Fin 9) (q : Fin 64) (addr : Word) (r : Rec) (jp : PushJob) (jo : PopJob) (z : QReset),
     (memOn s m = true → 9 ≤ s.boot.stage →
       let v := ((s.put (F.MEMM_STAT_SCRUBBING m) 1).lineRead m (s.scrub m).next u.here).scrubNext m
       exec (.scrubLine m u) s = .next (u.others.foldl (fun t y => t.lineUpset m y.line y.upset) v)) ∧
     (memOn s m = true → 9 ≤ s.boot.stage → u.here.single = 0 → u.here.double = 0 → u.others = [] → (s.lineErr (lineKey m (s.scrub m).next)).single = 0 →
       (s.lineErr (lineKey m (s.scrub m).next)).double = 0 → Completes (.scrubLine m u) s (fun t => t.mem = s.mem ∧ t.queues = s.queues ∧
         t.cores = s.cores ∧ t.log = s.log ∧ t.get (F.MEMM_STAT_SCRUBBING m) = 1)) ∧
     (memOn s m = false → exec (.scrubLine m u) s = .next s) ∧
     ((s.queue q).resetting = some z → exec (.queueResetEnd q) s = .next (((s.qResetWrite q z).logWrite kQueueReset (24 + q / 8)
       (w32 (q + z.cause * 256)) (w32 z.gap.entries.length) 0#32).resetRuns q)) ∧
     ((s.qResetWrite q z).queue q).resetting = none ∧
     ((s.queue q).resetting = none → exec (.queueResetEnd q) s = .next s) ∧
     exec (.pendingGapWrite q) s = .next (s.qFlushFree q) ∧ ((s.queue q).pend = none → exec (.pendingGapWrite q) s = .next s) ∧
     (q.val < 48 → q.val % 6 ≠ 4 → exec (.queuePush w q addr) s = .next s) ∧
     ((q.val < 48 ∧ q.val % 6 = 4 ∧ w.val = q.val / 6 ∨ 48 ≤ q.val ∧ w.val = 8 ∧ s.isSet (F.Q_CFG_CORE_EN q) = true) → s.isSet (F.Q_PUSH_RES_BUSY q) = false →
       Completes (.queuePush w q addr) s (fun t => t.get (F.Q_PUSH_RES_BUSY q) = 1 ∧ (t.queue q).push = some ⟨w, addr.toNat⟩ ∧ t.mem = s.mem)) ∧
     (48 ≤ q.val → w.val = 8 → s.isSet (F.Q_CFG_CORE_EN q) = false → s.isSet (F.Q_PUSH_RES_BUSY q) = false →
       exec (.queuePush w q addr) s = .next (s.pushRefuse q 6)) ∧
     (s.isSet (F.Q_PUSH_RES_BUSY q) = true → exec (.queuePush w q addr) s = .next s) ∧
     ((s.queue q).push = none → exec (.queuePushDone q) s = .next s) ∧
     ((s.queue q).push = some jp → (s.queue q).resetting = none → (∀ x ∈ s.lines, x.2.single = 0 ∧ x.2.double = 0) →
       let v := s.setQueue q { s.queue q with push := none }
       let a := coreMem jp.core jp.addr
       let len := leAt (s.bytes a 24) 2 2
       let x := v.pushRec q (s.bytes a len)
       lengthOk len = true → pushAllowed q x.ty (leAt (s.bytes a 24) 6 1) x.payload = true →
       (tabGet (fun _ => ⟨[], 0⟩) s.routes x.key).lt ≤ x.lt → x.lt ≤ s.lt → s.poisoned a len = false →
       exec (.queuePushDone q) s = .next (v.pushEnter q x)) ∧
     (w.val ≠ portCore q → exec (.queuePop w q addr) s = .next s) ∧
     (w.val = portCore q → s.isSet (F.Q_POP_RES_BUSY q) = false → s.isSet (F.Q_CFG_CORE_EN q) = false →
       exec (.queuePop w q addr) s = .next (s.put (F.Q_POP_RES_RESULT q) 3)) ∧
     (w.val = portCore q → s.isSet (F.Q_POP_RES_BUSY q) = false → s.isSet (F.Q_CFG_CORE_EN q) = true → s.qNext q consCore = none →
       exec (.queuePop w q addr) s = .next (s.put (F.Q_POP_RES_RESULT q) 1)) ∧
     (w.val = portCore q → s.isSet (F.Q_POP_RES_BUSY q) = false → s.isSet (F.Q_CFG_CORE_EN q) = true → s.qNext q consCore = some r →
       Completes (.queuePop w q addr) s (fun t => t.get (F.Q_POP_RES_BUSY q) = 1 ∧ (t.queue q).pop = some ⟨w, addr.toNat / 8 * 8, r⟩)) ∧
     ((s.queue q).pop = none → exec (.queuePopDone q) s = .next s) ∧
     ((s.queue q).pop = some jo → ((s.queue q).consOf consCore).agrees = true → s.qTouch q consCore = s →
       let v := (s.setQueue q { s.queue q with pop := none }).put (F.Q_POP_RES_BUSY q) 0
       v.qNext q consCore = some r → r.key = jo.record.key → r.seq = jo.record.seq →
       exec (.queuePopDone q) s = .next ((((v.qPass q consCore).coreStore jo.core jo.addr r.bytes).put (F.Q_POP_RES_RESULT q) 0).put
         (F.Q_POP_RES_LENGTH q) r.length)) ∧
     ((∀ x ∈ s.lines, x.2.single = 0 ∧ x.2.double = 0) → s.qTouch q consCore = s) ∧
     ((s.queue q).pop = some jo → ((s.queue q).consOf consCore).agrees = false → s.qTouch q consCore = s → exec (.queuePopDone q) s = .next (s.qReset q causeReset)))

/-- R307 to R310: the descriptor whose turn it is moves one record; runs and their ends; pending GAPs; the cores' ring pointers. The model's
choices: assumptions 24, 65, 66, 67 and 75. -/
def Obligations.LadleEvents : Prop :=
  ∀ (s : State) (w : Fin 9) (l : Fin 40) (d : Fin 4) (dest n : Nat) (upset : PtrUpset) (v : Word) (p : PendGap) (u : State),
    (s.ladleOn l = true → s.descTurn l = some d.val →
      let x := s.setLadle l { s.ladle l with last := d }
      exec (.ladleRecordMove l d upset) s = .next (if x.ringSource l d then x.moveRing l d else x.moveQueue l d upset)) ∧
    (s.qNext (s.get (F.LAD_D_CTL_SRC_Q l d)) (ladleCons l d) = none → s.moveQueue l d upset = s) ∧
    (s.ladleOn l = false → exec (.ladleRecordMove l d upset) s = .next s) ∧
    (s.descTurn l ≠ some d.val → exec (.ladleRecordMove l d upset) s = .next s) ∧
    ((if l.val < 32 then tileWriter w (l / 4) else w.val == vat) = true → s.isSet (F.LAD_D_CTL_EN l d) = true → s.isSet (F.LAD_D_CTL_TRIGGERED l d) = true →
      (s.runLeft l d = none → exec (.ladleRun w l d) s = .next (s.setRunLeft l d (s.srcCount l d))) ∧
      (s.runLeft l d = some n →
        let x := s.setBit (F.LAD_STAT_PENDING l) d
        exec (.ladleRun w l d) s =
          .next (x.setLadle l { s.ladle l with again := tabInsert d.val (x.srcCount l d - n) (tabDrop d.val (s.ladle l).again) }))) ∧
    ((if l.val < 32 then tileWriter w (l / 4) else w.val == vat) = false → exec (.ladleRun w l d) s = .next s) ∧
    (s.isSet (F.LAD_D_CTL_TRIGGERED l d) = false → exec (.ladleRun w l d) s = .next s) ∧
    (s.runLeft l d = none → exec (.ladleRunEnd l d) s = .next s) ∧
    (s.runLeft l d = some (n + 1) → 0 < s.srcCount l d → exec (.ladleRunEnd l d) s = .next s) ∧
    (s.runLeft l d = some 0 →
      let x := (s.setLadle l { s.ladle l with runs := tabDrop d.val (s.ladle l).runs }).put (F.LAD_EVT_DONE_SEEN l) 1
      exec (.ladleRunEnd l d) s = .next ((x.ladleEvent l d).runAgain l d)) ∧
    (s.runLeft l d = some 0 → s.bit (F.LAD_STAT_PENDING l) d = false →
      Completes (.ladleRunEnd l d) s (fun t => t.runLeft l d = none ∧ t.get (F.LAD_EVT_DONE_SEEN l) = 1 ∧ t.mem = s.mem ∧ t.queues = s.queues)) ∧
    (s.ladPend l dest = none → exec (.ladleGapWrite l dest) s = .next s) ∧
    (s.ladPend l dest = some p → s.ladFlush l 0 dest [] = none → exec (.ladleGapWrite l dest) s = .next s) ∧
    (s.ladPend l dest = some p → s.ladFlush l 0 dest [] = some u → dest ≠ dCtrl → exec (.ladleGapWrite l dest) s = .next u) ∧
    (s.ladPend l dCtrl = some p → s.ladFlush l 0 dCtrl [] = some u → exec (.ladleGapWrite l dCtrl) s = .next (u.parksEnter 64).showParked) ∧
    ((32 ≤ l.val ∨ tileWriter w (l / 4) = true) →
      (s.ringDest l d = true → Completes (.ringPointerWrite w l d true v) s (fun t => t = s.put (F.LAD_D_RING_RD_RD l d) v.toNat)) ∧
      (s.ringDest l d = false → exec (.ringPointerWrite w l d true v) s = .next s) ∧
      (s.ringSource l d = true → Completes (.ringPointerWrite w l d false v) s (fun t => t = s.put (F.LAD_D_RING_WR_WR l d) v.toNat)) ∧
      (s.ringSource l d = false → exec (.ringPointerWrite w l d false v) s = .next s)) ∧
    (∀ rd, l.val < 32 → tileWriter w (l / 4) = false → exec (.ringPointerWrite w l d rd v) s = .next s)

/-! ## The key, reload and changeover -/

/-- R324, R325, R327 to R329, R334, R338, R379: the key's commands. A key read starts 5 ms after KEY_VCC came on, with a hang where a line is low; a block's
read is tried three times and then refused with NO_ANSWER; a check that fails refuses the image with its code; KEY_CMD obeys the vat core only; a hung
port answers a staging with HUNG, an insertion clears the hang, and a removal takes a hung port's supply away. A command whose step is not the running
one changes nothing. The model's choices: assumptions 5, 79, 81 and 161. -/
def Obligations.KeyReadsAndChecks : Prop :=
  ∀ (s : State) (w : Fin 9) (b scl sda : Bool) (cause : Fin 3) (bytes : List Byte) (r : Refuse),
    (s.boot.stage = 10 → exec (.keyLoadEntry b) s = .next ((((((s.setBoot { s.boot with stage := 11, warm := false }).putB F.KEY_STAT_PRESENT b).setCond
      mKeyLoad true).setDom domKey domOn)).keyBegin false 0)) ∧
    (s.boot.stage ≠ 10 → exec (.keyLoadEntry b) s = .next s) ∧
    (s.isSet F.KEY_STAT_PRESENT = true → exec .keyInsert s = .next s) ∧
    (s.isSet F.KEY_STAT_PRESENT = false → s.get F.KEY_STAT_STATE ≠ ksHung → s.get F.KEY_STAT_STATE ≠ ksCycling →
      let u := ((s.put F.KEY_STAT_PRESENT 1).put F.KEY_EVT_INSERT_SEEN 1).raise 56
      (s.isSet F.MOD_STATUS_RECIPE = true → (s.co.phase = 0 ∧ s.key.job = 0 ∧ s.domAgreed 3 = false) → exec .keyInsert s = .next (u.keyStage 0)) ∧
      (s.isSet F.MOD_STATUS_RECIPE = true → (s.co.phase ≠ 0 ∨ s.key.job ≠ 0 ∨ s.domAgreed 3 = true) →
        exec .keyInsert s = .next (u.setKey { s.key with waits := true })) ∧
      (s.isSet F.MOD_STATUS_RECIPE = false → s.get F.KEY_STAT_STATE = ksRefused → s.key.job = 0 → s.cond mFaultHold = false →
        exec .keyInsert s = .next (u.keyBegin false 0)) ∧
      (s.isSet F.MOD_STATUS_RECIPE = false → s.get F.KEY_STAT_STATE ≠ ksRefused → exec .keyInsert s = .next u)) ∧
    (s.isSet F.KEY_STAT_PRESENT = false → s.isSet F.MOD_STATUS_RECIPE = true → s.get F.KEY_STAT_STATE = ksHung → s.co.phase = 0 → s.key.job = 0 →
      s.domAgreed 3 = false →
      let u := ((s.put F.KEY_STAT_PRESENT 1).put F.KEY_EVT_INSERT_SEEN 1).raise 56
      exec .keyInsert s = .next ((((u.put F.KEY_STAT_STATE u.keyShows).put F.KEY_STAT_ATTEMPTS 0).setKey { s.key with cycle := none, hung := false }).keyStage 0)) ∧
    (s.isSet F.KEY_STAT_PRESENT = false → exec .keyRemove s = .next s) ∧
    (s.isSet F.KEY_STAT_PRESENT = true → s.get F.KEY_STAT_STATE ≠ ksHung → s.get F.KEY_STAT_STATE ≠ ksCycling →
      let u := ((s.put F.KEY_STAT_PRESENT 0).put F.KEY_EVT_REMOVE_SEEN 1).raise 56
      exec .keyRemove s = .next (if s.key.job = 1 ∨ s.key.job = 2 then u.keyRefuse (rcRemoved, 0xFF, s.key.img.length) else u)) ∧
    (s.isSet F.KEY_STAT_PRESENT = true → s.get F.KEY_STAT_STATE = ksHung → s.key.job = 0 → Completes .keyRemove s (fun t =>
      t.get F.KEY_STAT_PRESENT = 0 ∧ t.get F.KEY_STAT_STATE = ksHung ∧ t.key = { s.key with vcc := false, cycle := none, hung := false })) ∧
    (s.key.job = 1 → s.key.cycle = none → s.key.at_ + 5000000 ≤ s.lt →
      let u := (s.putB F.KEY_STAT_SCL scl).putB F.KEY_STAT_SDA sda
      exec (.keyReadStart scl sda) s = .next (if scl && sda then u.keyRead else u.keyHang (if sda then 1 else 0) [])) ∧
    (s.lt < s.key.at_ + 5000000 → exec (.keyReadStart scl sda) s = .next s) ∧
    (s.keyRead.key = { s.key with job := 2 } ∧ ∃ n, s.keyRead.out = s.out ++ [.keyRead (0x50 + s.key.block) s.key.got n]) ∧
    (∀ st n, s.isSet F.KEY_STAT_PRESENT = true → (s.keyBegin st n).key.job = 1 ∧ (s.keyBegin st n).key.img = [] ∧ (s.keyBegin st n).key.vcc = true ∧
      (s.keyBegin st n).key.staging = st ∧ (s.keyBegin st n).key.want = n ∧ (s.keyBegin st n).get F.KEY_STAT_STATE = ksReading) ∧
    (∀ st n, s.isSet F.KEY_STAT_PRESENT = false → s.keyBegin st n =
      (s.setKey { s.key with staging := st, want := n, tile := none, sects := [] }).keyRefuse (rcNoKey, 0xFF, 0)) ∧
    (s.key.tile = none → (s.keyRefuse r).key.job = 0 ∧ (s.keyRefuse r).key.vcc = false ∧ (s.keyRefuse r).key.img = [] ∧
      (s.key.staging = true → (s.keyRefuse r).key.staged = none)) ∧
    (s.isSet F.KEY_CFG_AUTO_CYCLE = true → s.get F.KEY_STAT_STATE ≠ ksHung → s.key.cycle = none → (s.keyHang cause.val bytes).key.img = s.key.img ++ bytes ∧
      (s.keyHang cause.val bytes).key.vcc = false ∧ (∃ n, (s.keyHang cause.val bytes).key.cycle = some (n, true)) ∧
      ((s.keyHang cause.val bytes).key.hung = (s.key.hung || s.key.job == 1 || s.key.job == 2))) ∧
    (s.isSet F.KEY_CFG_AUTO_CYCLE = false → s.key.hung = false → s.key.job ≠ 1 → s.key.job ≠ 2 → (s.keyHang cause.val bytes).key.cycle = none ∧
      (s.keyHang cause.val bytes).get F.KEY_STAT_STATE = ksHung) ∧
    ((s.key.img ++ bytes).length < s.key.head (s.key.img ++ bytes) → s.keyBlock bytes = s) ∧
    (s.key.job = 2 → s.key.cycle = none → exec (.keyBlockReadEnd bytes) s = .next (s.keyBlock bytes)) ∧
    (s.key.job = 2 → s.key.cycle = none → s.key.tries < 2 → exec (.keyReadFail bytes) s =
      .next (((s.put F.KEY_EVT_RETRY_SEEN 1).setKey { s.key with tries := s.key.tries + 1, img := s.key.img ++ bytes }).keyRead)) ∧
    (s.key.job = 2 → s.key.cycle = none → 2 ≤ s.key.tries → exec (.keyReadFail bytes) s =
      .next (s.keyRefuse (rcNoAnswer, 0xFF, s.key.img.length + bytes.length))) ∧
    (s.key.job ≠ 2 → exec (.keyBlockReadEnd bytes) s = .next s ∧ exec (.keyReadFail bytes) s = .next s) ∧
    (s.key.job = 3 → s.trustRefuse s.key.img = some r → exec .signatureCheckEnd s = .next (s.keyRefuse r).keyWaits) ∧
    (s.key.job = 3 → s.trustRefuse s.key.img = none → exec .signatureCheckEnd s = .next (s.setKey { s.key with job := 4, trusted := true })) ∧
    (s.key.job ≠ 3 → exec .signatureCheckEnd s = .next s) ∧
    (s.key.job = 4 → s.checkRefuse s.key.staging s.key.img = some r → exec .keyChecksEnd s = .next (s.keyRefuse r).keyWaits) ∧
    (s.key.job = 4 → s.checkRefuse false s.key.img = none → s.key.staging = false → exec .keyChecksEnd s =
      .next ((s.put F.KEY_STAT_STATE ksApplying).setKey { s.key with job := 5 })) ∧
    (s.key.job = 4 → s.checkRefuse true s.key.img = none → s.key.staging = true → Completes .keyChecksEnd s (fun t =>
      ∃ u : State, u.key.staged = some s.key.img.length ∧ u.key.job = 0 ∧ u.key.vcc = false ∧ u.get F.KEY_STAT_STATE = ksStaged ∧
        t = (u.stagedThen s.key.want).keyWaits)) ∧
    (s.key.job ≠ 4 → exec .keyChecksEnd s = .next s) ∧
    (w.val ≠ 8 → exec (.stage w) s = .next s ∧ exec (.keyPowerCycle w) s = .next s ∧ exec (.keyCmdChangeover w) s = .next s) ∧
    (w.val = 8 → s.key.job = 0 → s.co.phase = 0 → s.isSet F.MOD_STATUS_RECIPE = true → s.key.cycle = none → s.domAgreed 3 = false → exec (.stage w) s =
      .next (if s.get F.KEY_STAT_STATE = ksHung then (s.setKey { s.key with staging := true, want := 3 }).keyRefuseTo (rcHung, 0xFF, 0) ksHung
        else s.keyBegin true 3)) ∧
    (w.val = 8 → s.key.cycle = none → exec (.keyPowerCycle w) s =
      .next ((s.setKey { s.key with hung := s.key.hung || s.key.job == 1 || s.key.job == 2 }).keyCycle false)) ∧
    (w.val = 8 → s.key.cycle ≠ none → exec (.keyPowerCycle w) s = .next s) ∧
    (s.key.vcc = true → s.key.cycle = none → s.get F.KEY_STAT_STATE ≠ ksHung → exec (.keyPortHang cause bytes) s = .next (s.keyHang cause.val bytes)) ∧
    (s.key.vcc = false → exec (.keyPortHang cause bytes) s = .next s)

/-- R327, R408 to R412: the image is applied and the cores start; a reload drains for at most 100 ms; a changeover is asked for only with a staged
image that differs, is accepted where the mode allows it, and reloads the tiles in turn, each drained for at most 500 ms; a tile without sections in the
new image stays off. Outside its step, or while COMMISSION keeps the tiles off (R400), a command changes nothing. The model's choices: assumptions 5, 78, 80,
106 and 158. -/
def Obligations.ReloadAndChangeover : Prop :=
  ∀ (s : State) (w : Fin 9) (t : Fin 8),
    (s.key.job = 5 → s.cond mCommission = false →
      let u := (s.put F.KEY_STAT_BANK 0).imageApply s.key.img
      let v := u.store (u.bankAt 0) s.key.img
      exec .keyCommitEnd s = .next ((v.setKey { v.key with job := 6 }).keyVcc false)) ∧
    ((s.key.job ≠ 5 ∨ s.cond mCommission = true) → exec .keyCommitEnd s = .next s) ∧
    (s.key.job = 6 → s.cond mCommission = false → exec .coresStart s =
      .next (((((((s.coresStart s.key.img).put F.KEY_EVT_LOAD_SEEN 1).raise 57).keyRest ksIdle).setRun true).setCond mKeyLoad false).lanesHold.watchFollow)) ∧
    (s.key.job = 0 → s.co.phase = 6 → s.cond mCommission = false →
      exec .coresStart s =
        .next ((((((((s.coresStart s.co.img).put F.KEY_STAT_STATE ksIdle).setCo CoSt.rest).put F.KEY_EVT_LOAD_SEEN 1).raise 57).setRun true).setCond
          mKeyLoad false).lanesHold.watchFollow.keyWaits)) ∧
    (((s.key.job ≠ 6 ∧ s.co.phase ≠ 6) ∨ s.cond mCommission = true) → exec .coresStart s = .next s) ∧
    (s.co.phase = 1 → s.cond mCommission = false → exec .reloadStart s =
      .next (if s.key.staged.isSome then s.reloadStart else (s.setCo CoSt.rest).keyWaits)) ∧
    (s.reloadStart.get F.KEY_STAT_STATE = 3 ∧ (s.reloadStart.core 8).running = false ∧ s.reloadDrained.co.phase = 3 ∧ s.reloadApply.co.phase = 6 ∧
      (s.coAccept.core 8).running = false) ∧
    (s.tileTurn t).tileRun t = (if s.co.oldTiles.contains t.val then { phase := 4, at_ := s.lt, starts := (s.tileRun t).starts, failed := false }
      else { phase := 5, at_ := s.lt, starts := [], failed := false }) ∧
    ((s.tileTurnDrained t).tileRun t).phase = 5 ∧ (∀ img, ((s.tileTurnTake img t).tileRun t).phase = 6) ∧
    (s.co.phase = 2 → s.co.at_ + 100000000 ≤ s.lt → exec .reloadDrainEnd s = .next s.reloadDrained) ∧
    (s.co.phase = 2 → (∀ u, u < 8 → s.tileDrained u = true) → exec .reloadDrainEnd s = .next s.reloadDrained) ∧
    (s.co.phase = 2 → s.lt < s.co.at_ + 100000000 → (∃ u, u < 8 ∧ s.tileDrained u = false) → exec .reloadDrainEnd s = .next s) ∧
    (s.co.phase = 3 → s.cond mCommission = false → exec .reloadApply s = .next s.reloadApply) ∧
    ((s.co.phase ≠ 1 ∨ s.cond mCommission = true) → exec .reloadStart s = .next s) ∧ (s.co.phase ≠ 2 → exec .reloadDrainEnd s = .next s) ∧
    ((s.co.phase ≠ 3 ∨ s.cond mCommission = true) → exec .reloadApply s = .next s) ∧ (s.co.phase ≠ 4 → exec .hubSwitchEnd s = .next s) ∧
    (s.co.phase ≠ 5 → exec (.tileReloadStart t) s = .next s ∧ exec (.tileReloadApply t) s = .next s ∧ exec (.tileReloadEnd t) s = .next s) ∧
    (s.co.phase ≠ 7 → exec .changeoverAccept s = .next s) ∧
    (w.val = 8 → s.coMode = true → s.co.phase = 0 → s.key.staged.isSome = true → sameImage s.runningImage s.stagedImage = false →
      exec (.keyCmdChangeover w) s = .next (s.setCo { CoSt.rest with phase := 7, at_ := s.lt })) ∧
    (w.val = 8 → (s.coMode = false ∨ s.co.phase ≠ 0 ∨ s.key.staged = none ∨ sameImage s.runningImage s.stagedImage = true) →
      exec (.keyCmdChangeover w) s = .next s) ∧
    (s.co.phase = 7 → s.coMode = true → s.key.staged.isSome = true → exec .changeoverAccept s = .next s.coAccept) ∧
    (s.co.phase = 7 → (s.coMode = false ∨ s.key.staged = none) → exec .changeoverAccept s = .next (s.setCo CoSt.rest).keyWaits) ∧
    (s.co.phase = 4 → (s.co.at_ + 100000000 ≤ s.lt ∨ ∀ q ∈ s.co.moved, s.drained q = true) → exec .hubSwitchEnd s = .next s.hubSwitch.watchFollow.keyWaits) ∧
    (s.lt < s.co.at_ + 100000000 → (∃ q ∈ s.co.moved, s.drained q = false) → exec .hubSwitchEnd s = .next s) ∧
    (s.co.phase = 5 → s.coTurn = some t.val → (s.tileRun t).phase < 4 → (s.tileRun t).failed = false → s.pwr.run = 0 →
      exec (.tileReloadStart t) s = .next (s.tileTurn t)) ∧
    ((s.coTurn ≠ some t.val ∨ s.pwr.run ≠ 0) → exec (.tileReloadStart t) s = .next s) ∧
    ((s.tileRun t).phase = 4 → ((s.tileRun t).at_ + 500000000 ≤ s.lt ∨ s.tileDrained t = true) → exec (.tileReloadDrainEnd t) s = .next (s.tileTurnDrained t)) ∧
    ((s.tileRun t).phase = 4 → s.lt < (s.tileRun t).at_ + 500000000 → s.tileDrained t = false → s.domIsOn (domTile t) = true →
      exec (.tileReloadDrainEnd t) s = .next s) ∧
    ((s.tileRun t).phase ≠ 4 → exec (.tileReloadDrainEnd t) s = .next s) ∧
    ((s.tileRun t).phase = 5 → s.co.phase = 5 → exec (.tileReloadApply t) s = .next (s.tileTurnApply t).watchFollow.keyWaits ∧
      (hasTile s.co.img t = false → s.tileTurnApply t = (s.tileUnused t).tileTurnEnd t) ∧
      (hasTile s.co.img t = true → s.lines = [] → s.key.tile ≠ some t.val →
        let img := s.bytes (s.bankAt (1 - s.get F.KEY_STAT_BANK)) s.co.img.length
        s.sectsBad (s.bankAt (1 - s.get F.KEY_STAT_BANK)) img t = [] → s.tileTurnApply t = s.tileTurnTake img t)) ∧
    (s.co.phase = 5 → s.bit F.MOD_CO_TODO t = true → (s.tileRun t).phase = 6 → exec (.tileReloadEnd t) s =
      .next (((s.tileStart t).setTile t 1).tileTurnEnd t).watchFollow.keyWaits) ∧
    (s.co.phase = 5 → s.bit F.MOD_CO_TODO t = true → (s.tileRun t).phase = 0 → (s.tileRun t).failed = true → exec (.tileReloadEnd t) s =
      .next (s.tileTurnEnd t).watchFollow.keyWaits)

/-! ## Tile restarts, WATCH and the mode -/

/-- R283, R330, R398, R402, R415, R425: a restarting tile drains for at most 20 ms, takes its sections from the store where they can be read (the read finds what
has come to the lines of the store), else begins to read them from the inserted key or, without a key, stays out of service, and is back in service; WATCH is set and cleared by the vat core or, with
AUTO_WATCH, once WATCH_SRC has been away for WATCH_S seconds; an entry of WATCH that had to wait is asked for again. The model's choices: assumptions 88, 132 and 145. -/
def Obligations.RestartsAndWatch : Prop :=
  ∀ (s : State) (w : Fin 9) (t : Fin 8) (a : Nat) (ups : List StoreUpset),
    ((s.tileRun t).phase = 1 → ((s.tileRun t).at_ + 20000000 ≤ s.lt ∨ s.tileDrained t = true) → exec (.tileRestartDrainEnd t) s = .next (s.restartDrained t)) ∧
    ((s.tileRun t).phase = 1 → s.lt < (s.tileRun t).at_ + 20000000 → s.tileDrained t = false → exec (.tileRestartDrainEnd t) s = .next s) ∧
    ((s.tileRun t).phase = 2 → s.dom (domTile t) ≠ domOff → s.lines = [] → s.key.tile ≠ some t.val →
      let n := s.restartImage t
      let img := s.bytes (s.bankAt n.1) n.2
      let bad := s.sectsBad (s.bankAt n.1) img t
      (bad = [] → exec (.tileRestartApply t []) s = .next (s.restartTake img t)) ∧
      (bad ≠ [] → s.isSet F.KEY_STAT_PRESENT = false → exec (.tileRestartApply t []) s = .next (s.tileNoSection t)) ∧
      (bad ≠ [] → s.isSet F.KEY_STAT_PRESENT = true → s.key.job = 0 → s.key.cycle = none → s.domAgreed 3 = false → s.get F.KEY_STAT_STATE ≠ ksHung →
        exec (.tileRestartApply t []) s = .next (s.keyStart false 0 (some t) bad))) ∧
    ((s.tileRun t).phase = 2 → s.key.tile = some t.val → exec (.tileRestartApply t []) s = .next s) ∧
    ((s.tileRun t).phase = 2 → s.dom (domTile t) ≠ domOff → exec (.tileRestartApply t ups) s = exec (.tileRestartApply t []) (ups.foldl State.storeUpset s)) ∧
    (∀ u : StoreUpset, let x := 0x10000000 + 64 * u.line.val
      (s.get F.KEY_STORE_BASE ≤ x → x < s.get F.KEY_STORE_BASE + 0x100000 →
        s.storeUpset u = s.setLineErr (lineKey 16 u.line) ((s.lineErr (lineKey 16 u.line)).upset u.upset)) ∧
      ((x < s.get F.KEY_STORE_BASE ∨ s.get F.KEY_STORE_BASE + 0x100000 ≤ x) → s.storeUpset u = s)) ∧
    ((s.tileRun t).phase = 3 → s.domIsOn (domTile t) = true → s.dom (domAfe t) = domOn →
      let u := ((s.tileStart t).setTileRun t { s.tileRun t with phase := 0, failed := false }).markResumes t
      (s.tileState t ≠ 2 → exec (.tileBack t) s = .next (u.setTile t 1).watchFollow) ∧
      (s.tileState t = 2 → exec (.tileBack t) s =
        .next ((((u.logWrite kTileBack t (w32 t.val) (w32 (u.get (F.FLT_TILE_RESTARTS t))) 0#32).raise t).setTile t 1).watchFollow))) ∧
    (s.get (F.FLT_TILE_LAST_CAUSE t) ≠ tcLimit → ((s.restartDrained t).tileRun t).phase = 2) ∧ (∀ img, ((s.restartTake img t).tileRun t).phase = 3) ∧
    ((s.tileRun t).phase ≠ 1 → exec (.tileRestartDrainEnd t) s = .next s) ∧ ((s.tileRun t).phase ≠ 2 → exec (.tileRestartApply t ups) s = .next s) ∧
    ((s.tileRun t).phase ≠ 3 → exec (.tileBack t) s = .next s) ∧
    (w.val ≠ 8 → exec (.watchOn w) s = .next s ∧ exec (.watchOff w) s = .next s) ∧
    (w.val = 8 → s.cond mWatch = true → exec (.watchOn w) s = .next (s.setWatch { s.watch with byVat := true })) ∧
    (w.val = 8 → s.cond mWatch = false → s.watch.byVat = false → s.watch.byAuto = false → exec (.watchOff w) s = .next s) ∧
    (w.val = 8 → s.cond mWatch = false → exec (.watchOn w) s =
      .next ((s.setWatch { s.watch with byVat := true }).setCond mWatch true).rateRestarts.watchEnter) ∧
    (w.val = 8 → s.cond mWatch = true → exec (.watchOff w) s =
      .next ((s.setWatch { s.watch with byVat := false, byAuto := false }).setCond mWatch false).rateRestarts.watchLeave) ∧
    (s.isSet F.MOD_CFG_AUTO_WATCH = true → s.watchSrcAway = true →
      (s.watch.away = none → s.watchNote = { s with watch := { s.watch with away := some s.logLt } }) ∧ (s.watch.away = some a → s.watchNote = s)) ∧
    ((s.isSet F.MOD_CFG_AUTO_WATCH = false ∨ s.watchSrcAway = false) → s.watchNote = { s with watch := { s.watch with away := none } }) ∧
    (s.watch.byAuto = true → s.watchSrcAway = false → s.watchBack = (s.setWatch { s.watch with byAuto := false }).watchSettle) ∧
    ((s.watch.byAuto = false ∨ s.watchSrcAway = true) → s.watchBack = s) ∧
    (s.watchNote.watchBack.watch.away = none → exec .autoWatchExpiry s = .next s.watchNote.watchBack) ∧
    (s.watchNote.watchBack.watch.away = some a →
      let u := s.watchNote.watchBack
      exec .autoWatchExpiry s = .next (if a + u.get F.MOD_CFG_WATCH_S * 1000000000 ≤ u.logLt then
        (u.setWatch { u.watch with byAuto := true }).watchSettle else u)) ∧
    (s.watch.byVat = true → s.cond mWatch = true → s.watchSettle = s) ∧
    (s.watch.byVat = false → s.watch.byAuto = true → s.cond mWatch = false → s.watchSettle = (s.setCond mWatch true).rateRestarts.watchEnter) ∧
    (s.watch.byVat = false → s.watch.byAuto = false → s.cond mWatch = true → s.watchSettle = (s.setCond mWatch false).rateRestarts.watchLeave) ∧
    (s.watch.retryAt = some a → s.cond mWatch = true → a ≤ s.lt → exec .watchEntryRetry s = .next s.watchEnter) ∧
    (s.watch.retryAt = some a → s.lt < a → exec .watchEntryRetry s = .next s) ∧
    (s.watch.retryAt = none → exec .watchEntryRetry s = .next s)

/-- R397, R398, R431: the mode a change of conditions leads to is the first condition that is set, in the order FAULT_HOLD, FACTORY_TEST, SERVICE,
COMMISSION, KEY_LOAD, CHANGEOVER, HOLDOVER, DEGRADED, WATCH, RUN; a change of mode writes MODE and MOD_ENTER_LT, brings the outputs to what the new mode asks of
them, and then leaves one entry of its own in the trouble log, which names the old and the new mode. A mode that lets the action table run changes no output, and
its change writes that one entry alone. -/
def Obligations.ModePrecedence : Prop :=
  ∀ (s : State) (c : Nat) (b : Bool) (pre post : List Nat),
    (s.booting = true → s.modeDue = mPowerUp) ∧
    (s.booting = false → s.cond mFaultHold = true → s.modeDue = mFaultHold) ∧
    (s.booting = false → [mFaultHold, mFactory, mService, mCommission, mKeyLoad, mChangeover, mHoldover, mDegraded, mWatch, mRun] = pre ++ c :: post →
      s.cond c = true → (∀ d ∈ pre, s.cond d = false) → s.modeDue = c) ∧
    (s.booting = false → (∀ d, 2 ≤ d → d ≤ 11 → s.cond d = false) → s.modeDue = s.mode) ∧
    (s.modeDue = s.mode → s.modeSettle = s) ∧
    (s.modeDue ≠ s.mode →
      let u := (s.put F.MOD_STATUS_MODE s.modeDue).putPair R.MOD_ENTER_LT_LO s.logLt
      u.mode = s.modeDue ∧ u.getPair R.MOD_ENTER_LT_LO = s.logLt % 2 ^ 64 ∧
        s.modeSettle = (u.modeOutputs s.modeDue).logWrite kMode noEvent (w32 (s.mode + 16 * s.modeDue))
          ((u.modeOutputs s.modeDue).rd R.MOD_STATUS) 0#32) ∧
    (c ∈ [mChangeover, mHoldover, mDegraded, mWatch, mRun] → s.modeOutputs c = s) ∧
    (c ∈ [mKeyLoad, mFactory, mService, mFaultHold] → s.modeOutputs c = s.flushActs.commandAll s.com.sense) ∧
    (s.modeOutputs mCommission = s.flushActs.commandAll 0) ∧
    (s.modeDue ≠ s.mode → s.modeDue ∈ [mChangeover, mHoldover, mDegraded, mWatch, mRun] → s.isSet F.LOG_CFG_REC_EN = false →
      s.modeSettle.mode = s.modeDue ∧ s.modeSettle.getPair R.MOD_ENTER_LT_LO = s.logLt % 2 ^ 64 ∧
        s.modeSettle.get F.LOG_NEXT_INDEX = (s.get F.LOG_NEXT_INDEX + 1) % 0x100000000 ∧
        ∃ e, s.modeSettle.logEntry (s.get F.LOG_NEXT_INDEX) = some e ∧ e.kind = kMode ∧ e.event = noEvent ∧ e.lt = s.logLt ∧ e.mode = s.modeDue ∧
          e.d0 = w32 (s.mode + 16 * s.modeDue)) ∧
    (2 ≤ c → c ≤ 11 →
      let u := if b then s.setBit F.MOD_STATUS_FLAGS (c - 2) else s.clearBit F.MOD_STATUS_FLAGS (c - 2)
      u.cond c = b ∧ (∀ d, 2 ≤ d → d ≤ 11 → d ≠ c → u.cond d = s.cond d) ∧ s.setCond c b = u.modeSettle.healthySettle)

/-! ## The two-wire ports -/

/-- R332 to R338: GO on an idle port makes it BUSY and runs the list from descriptor 0; it counts a refusal on a busy or cycling one, and answers a hung or switched-off
port's list at once; POWER_CYCLE takes the supply away, on a port that is not hung with a new count of attempts; a transfer's end writes its bytes and its result and
goes on, behind the list's last one with DONE; a line that stays low is a hang, and so is a trip of a supply that is on; a supply cycle restores the supply after
20 ms and samples the lines STARTUP_MS later, on the key port 5 ms later. A time that has not come leaves the state as it is. The model's choices: assumptions 5,
82, 161 and 162. -/
def Obligations.TwoWirePorts : Prop :=
  ∀ (s : State) (w : Fin 9) (p : Fin 8) (q : Fin 9) (ctl : Word) (res : Fin 5) (n : Fin 257) (data : List Byte) (scl sda auto : Bool) (c : Nat),
    (w.val ≠ 8 → exec (.twGo w p ctl) s = .next s ∧ exec (.twPowerCycle w p ctl) s = .next s) ∧
    (w.val = 8 → ctl.getLsbD 6 = false →
      exec (.twGo w p ctl) s = .next (((s.put (F.TW_CTL_LAST p) ctl.toNat).put (F.TW_CTL_CONT p) (ctl.toNat / 16)).twGo p)) ∧
    (w.val = 8 → ctl.getLsbD 5 = false →
      exec (.twPowerCycle w p ctl) s = .next (((s.put (F.TW_CTL_LAST p) ctl.toNat).put (F.TW_CTL_CONT p) (ctl.toNat / 16)).twPowerCycle p)) ∧
    (w.val = 8 → ctl.getLsbD 5 = true → ctl.getLsbD 6 = true →
      let u := ((s.put (F.TW_CTL_LAST p) ctl.toNat).put (F.TW_CTL_CONT p) (ctl.toNat / 16)).twGo p
      exec (.twGo w p ctl) s = .next (u.twPowerCycle p) ∧ exec (.twPowerCycle w p ctl) s = .next (u.twPowerCycle p)) ∧
    (w.val = 8 → ctl.getLsbD 6 = false → s.get (F.TW_STAT_STATE p) = twIdle → s.twBad p 0 = false → Completes (.twGo w p ctl) s (fun t =>
      t.get (F.TW_STAT_STATE p) = twBusy ∧ t.get (F.TW_STAT_CUR p) = 0 ∧ t.get (F.TW_CTL_LAST p) = ctl.toNat % 16 ∧
        t.get (F.TW_XFER_RES_RESULT p 0) = trPending ∧ ∃ bytes : List Byte, bytes.length = s.get (F.TW_XFER_WLEN p 0) ∧
          t.out = s.out ++ [.twoWire p (s.get (F.TW_XFER_ADDR p 0)) bytes (s.get (F.TW_XFER_RLEN p 0))])) ∧
    (w.val = 8 → ctl.getLsbD 6 = false → (s.get (F.TW_STAT_STATE p) = twHung ∨ s.get (F.TW_STAT_STATE p) = twIsOff) →
      Completes (.twGo w p ctl) s (fun t => t.get (F.TW_STAT_STATE p) = s.get (F.TW_STAT_STATE p) ∧ t.get (F.TW_EVT_DONE_SEEN p) = 1 ∧ t.out = s.out)) ∧
    ((s.get (F.TW_STAT_STATE p) = twBusy ∨ s.get (F.TW_STAT_STATE p) = twCycling) → s.twGo p = s.incSat (F.TW_CNT1_REFUSED p)) ∧
    (s.get (F.TW_STAT_STATE p) = twHung → s.twGo p = s.twAnswer p 0 trHung) ∧
    (s.get (F.TW_STAT_STATE p) = twIsOff → s.twGo p = s.twAnswer p 0 trOff) ∧
    (s.isSet (F.TW_CFG_SUP_EN p) = false → s.twPowerCycle p = s) ∧
    (w.val = 8 → ctl.getLsbD 5 = false → s.isSet (F.TW_CFG_SUP_EN p) = true → s.get (F.TW_STAT_STATE p) ≠ twCycling →
      Completes (.twPowerCycle w p ctl) s (fun t => t.get (F.TW_STAT_STATE p) = twCycling ∧
        t.tw p = { supply := false, at_ := s.lt, auto := false, supplyBack := false, starting := false } ∧
        t.get (F.TW_STAT_ATTEMPTS p) = (if s.get (F.TW_STAT_STATE p) = twHung then s.get (F.TW_STAT_ATTEMPTS p) else 0))) ∧
    (s.get (F.TW_STAT_STATE p) = twBusy →
      let x := s.get (F.TW_STAT_CUR p)
      let wl := s.get (F.TW_XFER_WLEN p x)
      let rl := s.get (F.TW_XFER_RLEN p x)
      exec (.twTransferEnd p res n data) s = .next ((s.twFill p (s.get (F.TW_XFER_BOFF p x) + wl) (data.take rl)).twEnd p res
        (if res.val = 0 then wl + rl else n)) ∧
      exec (.twStretchTimeout p n) s = .next (s.twEnd p trTimeout n)) ∧
    (s.get (F.TW_STAT_STATE p) = twBusy → s.get (F.TW_CTL_LAST p) ≤ s.get (F.TW_STAT_CUR p) →
      let x := s.get (F.TW_STAT_CUR p)
      (n.val < 256 → Completes (.twStretchTimeout p n) s (fun t => t.get (F.TW_STAT_STATE p) = twIdle ∧ t.get (F.TW_XFER_RES_RESULT p x) = trTimeout ∧
        t.get (F.TW_XFER_RES_BYTES p x) = n ∧ t.get (F.TW_EVT_DONE_SEEN p) = 1)) ∧
      (s.get (F.TW_XFER_WLEN p x) + s.get (F.TW_XFER_RLEN p x) < 256 → Completes (.twTransferEnd p 0 n data) s (fun t =>
        t.get (F.TW_STAT_STATE p) = twIdle ∧ t.get (F.TW_XFER_RES_RESULT p x) = 0 ∧ t.get (F.TW_EVT_DONE_SEEN p) = 1 ∧
          t.get (F.TW_XFER_RES_BYTES p x) = s.get (F.TW_XFER_WLEN p x) + s.get (F.TW_XFER_RLEN p x)))) ∧
    (s.get (F.TW_STAT_STATE p) ≠ twBusy → exec (.twTransferEnd p res n data) s = .next s ∧ exec (.twStretchTimeout p n) s = .next s) ∧
    ((s.get (F.TW_STAT_STATE p) = twIdle ∨ s.get (F.TW_STAT_STATE p) = twBusy) →
      Completes (.twIdleCheck p true true) s (fun t => t = s.twLines p true true ∧ t.get (F.TW_STAT_SCL p) = 1 ∧ t.get (F.TW_STAT_SDA p) = 1 ∧
        t.get (F.TW_STAT_STATE p) = s.get (F.TW_STAT_STATE p)) ∧
      exec (.twIdleCheck p false sda) s = .next ((s.twLines p false sda).twHang p (if sda then 1 else 0)) ∧
      exec (.twIdleCheck p true false) s = .next ((s.twLines p true false).twHang p 0)) ∧
    (s.get (F.TW_STAT_STATE p) ≠ twIdle → s.get (F.TW_STAT_STATE p) ≠ twBusy → exec (.twIdleCheck p scl sda) s = .next s) ∧
    (q.val < 8 → (s.tw q).supply = true → exec (.twSupplyTrip q) s = .next (s.twHang q 2)) ∧
    (q.val < 8 → (s.tw q).supply = false → exec (.twSupplyTrip q) s = .next s) ∧
    (s.key.vcc = true → exec (.twSupplyTrip 8) s = .next (s.keyHang 2 [])) ∧
    (s.key.vcc = false → exec (.twSupplyTrip 8) s = .next s) ∧
    (q.val < 8 → s.get (F.TW_STAT_STATE q) = twCycling → (s.tw q).supplyBack = false → (s.tw q).at_ + 20000000 ≤ s.lt →
      Completes (.twCycleSupplyOn q) s (fun t => t = (s.setTw q { s.tw q with supply := true, supplyBack := true }).twRail q true ∧
        (t.tw q).supply = true ∧ (t.tw q).supplyBack = true)) ∧
    (q.val < 8 → s.lt < (s.tw q).at_ + 20000000 → exec (.twCycleSupplyOn q) s = .next s ∧ exec (.twCycleSample q scl sda) s = .next s) ∧
    (s.key.cycle = some (c, auto) → c + 20000000 ≤ s.lt → Completes (.twCycleSupplyOn 8) s (fun t => t = s.keyVcc true ∧ t.key.vcc = true)) ∧
    (s.key.cycle = some (c, auto) → s.key.vcc = true → c + 25000000 ≤ s.lt → exec (.twCycleSample 8 scl sda) s = .next (s.keySample scl sda)) ∧
    (s.key.cycle = none → exec (.twCycleSupplyOn 8) s = .next s ∧ exec (.twCycleSample 8 scl sda) s = .next s) ∧
    (q.val < 8 → s.get (F.TW_STAT_STATE q) = twCycling → (s.tw q).supplyBack = true →
      (s.tw q).at_ + 20000000 + s.get (F.TW_CFG_STARTUP_MS q) * 1000000 ≤ s.lt →
      exec (.twCycleSample q true true) s =
        .next (((((s.twLines q true true).put (F.TW_STAT_STATE q) twIdle).put (F.TW_EVT_CYCLE_OK_SEEN q) 1).put (F.TW_STAT_AUTO_SPENT q) 0).twLog q 1) ∧
      ((scl && sda) = false → (s.tw q).auto = false → exec (.twCycleSample q scl sda) s =
        .next ((((s.twLines q scl sda).put (F.TW_EVT_CYCLE_FAIL_SEEN q) 1).twLog q 2).put (F.TW_STAT_STATE q) twHung))) ∧
    ((s.tw p).starting = true → (s.tw p).at_ + s.get (F.TW_CFG_STARTUP_MS p) * 1000000 ≤ s.lt →
      let u := (s.twLines p scl sda).setTw p { s.tw p with starting := false }
      exec (.twPortStart p scl sda) s = .next (if scl && sda then u.put (F.TW_STAT_STATE p) twIdle else u.twHang p (if sda then 1 else 0))) ∧
    ((s.tw p).starting = true → (s.tw p).at_ + s.get (F.TW_CFG_STARTUP_MS p) * 1000000 ≤ s.lt → Completes (.twPortStart p true true) s (fun t =>
      t.get (F.TW_STAT_STATE p) = twIdle ∧ (t.tw p).starting = false)) ∧
    ((s.tw p).starting = false → exec (.twPortStart p scl sda) s = .next s)

/-! ## The host link -/

/-- R342 to R344, R358, R367: the link's speed and its event; a frame that the port does not take is dropped with the event, a bad one and an IPv4 packet
that is not supported; ARP's claims of the module's own address, its cache, defence and answers; echo answers of at most 1,472 bytes, at most 100 a
second. With the host interface silent a frame changes nothing. The model's choices: assumptions 96 and 127. -/
def Obligations.EthernetAndArp : Prop :=
  ∀ (s : State) (h : HostFrame) (x : IpPacket) (p : ArpPacket) (i : Fin 8) (a : Nat) (e : ArpEnt),
    (s.domIsOn domHost = true → s.isSet F.LT_CLK_STAT_PLL_LOCK = true → s.booting = false →
      exec (.linkUp true) s = .next (s.setSpeed 2).arpGratuitous ∧ exec (.linkUp false) s = .next (s.setSpeed 1).arpGratuitous) ∧
    ((s.domIsOn domHost = false ∨ s.booting = true) → ∀ g, exec (.linkUp g) s = .next s) ∧
    exec .linkDown s = .next ((s.setSpeed 0).setHost { s.host with speedWas := 0 }) ∧
    (s.setSpeed a).host = s.host ∧
    (s.get F.HOST_STAT_SPEED ≠ a → s.setSpeed a = ((s.put F.HOST_STAT_SPEED a).put F.HOST_EVT_LINK_SEEN 1).raise 16) ∧
    (s.get F.HOST_STAT_SPEED = a → s.setSpeed a = s) ∧
    (s.hostHears = false → exec (.arpRx p) s = .next s ∧ exec (.echoRequest h x) s = .next s) ∧
    (s.hostHears = true → frameSound p.frame = false → exec (.arpRx p) s = .next s.jack.badFrame) ∧
    (s.hostHears = true → frameSound h = false → exec (.echoRequest h x) s = .next s.jack.badFrame) ∧
    (s.hostHears = true → frameSound p.frame = true → s.isSet F.HOST_STAT_ADDR_OK = false → exec (.arpRx p) s = .next s.jack) ∧
    (s.hostHears = true → frameSound h = true → s.isSet F.HOST_STAT_ADDR_OK = false → exec (.echoRequest h x) s = .next s.jack) ∧
    (s.hostTalks = true → frameSound p.frame = true → p.senderIp = (s.rd R.HOST_IP).toNat → p.senderMac = s.ownMac → exec (.arpRx p) s = .next s.jack) ∧
    (s.hostTalks = true → frameSound p.frame = true → p.senderIp = (s.rd R.HOST_IP).toNat → p.senderMac ≠ s.ownMac →
      let u := (((s.jack.put F.HOST_STAT_ADDR_CONFLICT 1).put F.HOST_EVT_CONFLICT_SEEN 1).logWrite kHost 23 0#32 (w32 p.senderIp) 0#32).raise 23
      exec (.arpRx p) s = .next (u.setHost { u.host with claimAt := u.lt })) ∧
    (s.hostTalks = true → frameSound p.frame = true → p.senderIp ≠ (s.rd R.HOST_IP).toNat → p.targetIp = (s.rd R.HOST_IP).toNat →
      let u := s.jack.setHost { s.jack.host with arp := arpTake s.host.arp p.senderIp p.senderMac s.lt }
      exec (.arpRx p) s = .next (if p.request then u.hostEmit (.arp 1 p.senderIp p.senderMac) else u)) ∧
    (s.isSet F.HOST_STAT_ADDR_CONFLICT = true → s.hostTalks = true → s.host.defendAt = none →
      Completes .arpDefend s (fun t => t.host.defendAt = some s.lt ∧ t.out = s.out ++ [.arp 2 (s.rd R.HOST_IP).toNat 0])) ∧
    (s.isSet F.HOST_STAT_ADDR_CONFLICT = true → s.hostTalks = true → s.host.defendAt = some a →
      exec .arpDefend s = .next (if a + 10000000000 ≤ s.lt then (s.setHost { s.host with defendAt := some s.lt }).arpGratuitous else s)) ∧
    (s.isSet F.HOST_STAT_ADDR_CONFLICT = false → exec .arpDefend s = .next s ∧ exec .addrConflictClear s = .next s) ∧
    (s.isSet F.HOST_STAT_ADDR_CONFLICT = true → exec .addrConflictClear s =
      .next (if s.host.claimAt + 60000000000 ≤ s.lt then s.put F.HOST_STAT_ADDR_CONFLICT 0 else s)) ∧
    (s.host.arp[i.val]? = none → exec (.arpCacheTimeout i) s = .next s) ∧
    (s.host.arp[i.val]? = some e → e.used + 60000000000 ≤ s.lt →
      exec (.arpCacheTimeout i) s = .next (s.setHost { s.host with arp := s.host.arp.erase e })) ∧
    (s.host.arp[i.val]? = some e → s.lt < e.used + 60000000000 → s.hostTalks = true → e.fresh + 20000000000 ≤ s.lt →
      exec (.arpCacheTimeout i) s = .next ((s.setHost { s.host with arp := s.host.arp.set i.val { e with fresh := s.lt } }).hostEmit (.arp 0 e.ip 0))) ∧
    (s.hostTalks = true → frameSound h = true → (packetSound h = false ∨ x.kind ≠ .echoRequest ∨ 1472 < x.data.length) →
      exec (.echoRequest h x) s = .next s.jack.badDgram) ∧
    (s.hostTalks = true → frameSound h = true → packetSound h = true → x.kind = .echoRequest → x.data.length ≤ 1472 →
      let recent := s.host.echoAt.filter (fun y => decide (s.lt < y + 1000000000))
      exec (.echoRequest h x) s = .next (if recent.length < 100 then
        ((s.jack.setHost { s.jack.host with echoAt := recent ++ [s.lt] }).arpUse x.ip).hostEmit (.echo x.ip x.idSeq x.data) else s.jack))

/-- R343, R345, R347 to R349, R360, R361, R366: sessions and requests. A datagram that does not verify, or is not of the session, is counted as a bad
datagram; an OPEN is answered BUSY while another host's session is open, resumes with the session number it names, and otherwise opens a new session,
closing the idle one of another host first; CLOSE ends it; at most 50 requests a second are taken, none in POWER_UP and FACTORY_TEST; a code that the
table does not list is a bad request. The model's choices: assumptions 93 and 94. -/
def Obligations.SessionsAndRequests : Prop :=
  ∀ (s : State) (dg : Dgram) (w : Fin 9) (window : Nat) (raw resv : Bool) (prev req a0 a1 : Word) (form : ReqForm) (f : State → State),
    (s.hostHears = false → exec (.openSession dg window raw prev) s = .next s ∧ exec (.closeSession dg) s = .next s ∧ s.request dg f = s) ∧
    (s.hostHears = true → frameSound dg.frame = false → exec (.openSession dg window raw prev) s = .next s.jack.badFrame ∧
      exec (.closeSession dg) s = .next s.jack.badFrame ∧ s.request dg f = s.jack.badFrame) ∧
    (s.hostTalks = true → frameSound dg.frame = true → (packetSound dg.frame = false ∨ dg.toPort ≠ 40128 ∨ dg.sum = false ∨ dg.good = false) →
      exec (.openSession dg window raw prev) s = .next s.jack.badDgram ∧
        exec (.closeSession dg) s = .next s.jack.badDgram ∧ s.request dg f = s.jack.badDgram) ∧
    (s.takes dg → s.ofSession dg = false → exec (.closeSession dg) s = .next s.jack.badDgram ∧ s.request dg f = s.jack.badDgram) ∧
    (s.takes dg → s.get F.HOST_STAT_SESSION = ssOpen → s.isPeer dg = false → exec (.openSession dg window raw prev) s =
      .next (s.jack.udpTo dg.ip dg.port (message mtOpenReply (s.rd R.HOST_SESSION) (s.jack.openReply 2)))) ∧
    (s.takes dg → s.get F.HOST_STAT_SESSION ≠ ssNone → s.isPeer dg = true → prev = s.rd R.HOST_SESSION →
      let u := (s.jack.put F.HOST_PEER_WINDOW (min window 64)).heard dg
      let v := (u.setHost { u.host with rawWanted := raw }).setSession ssOpen
      exec (.openSession dg window raw prev) s =
        .next ((v.udpTo dg.ip dg.port (message mtOpenReply (v.rd R.HOST_SESSION) (v.openReply 1))).sessionResume false)) ∧
    (s.takes dg → (s.get F.HOST_STAT_SESSION = ssNone ∨ (s.isPeer dg = true ∧ prev ≠ s.rd R.HOST_SESSION)) →
      let u := ((s.jack.newSession dg).put F.HOST_PEER_WINDOW (min window 64)).heard dg
      let o := (u.setHost { u.host with rawWanted := raw }).setSession ssOpen
      let v := if s.get F.HOST_STAT_SESSION = ssOpen then o.wakeEnd else o
      exec (.openSession dg window raw prev) s =
        .next ((v.udpTo dg.ip dg.port (message mtOpenReply (v.rd R.HOST_SESSION) (v.openReply 0))).sessionResume true)) ∧
    (s.takes dg → s.get F.HOST_STAT_SESSION = ssIdle → s.isPeer dg = false →
      let u := (((s.jack.sendClose 1).newSession dg).put F.HOST_PEER_WINDOW (min window 64)).heard dg
      let v := (u.setHost { u.host with rawWanted := raw }).setSession ssOpen
      exec (.openSession dg window raw prev) s =
        .next ((v.udpTo dg.ip dg.port (message mtOpenReply (v.rd R.HOST_SESSION) (v.openReply 0))).sessionResume true)) ∧
    (s.takes dg → s.ofSession dg = true → exec (.closeSession dg) s = .next ((s.jack.heard dg).setSession ssNone)) ∧
    (s.get F.HOST_STAT_SESSION = ssOpen → exec .sessionIdle s =
      .next (if s.host.lastRx + s.get F.HOST_CFG_SESSION_S * 1000000000 ≤ s.lt then s.setSession ssIdle else s)) ∧
    (s.get F.HOST_STAT_SESSION ≠ ssOpen → exec .sessionIdle s = .next s) ∧
    (w.val = 8 → exec (.hostCmdClose w) s = .next (s.moduleClose 3)) ∧ (w.val ≠ 8 → exec (.hostCmdClose w) s = .next s) ∧
    (s.takes dg → s.ofSession dg = true → (s.mode = mPowerUp ∨ s.mode = mFactory) → s.request dg f = s.jack.heard dg) ∧
    (s.takes dg → s.ofSession dg = true → s.mode ≠ mPowerUp → s.mode ≠ mFactory →
      let u := s.jack.heard dg
      let recent := s.host.reqAt.filter (fun x => decide (s.lt < x + 1000000000))
      s.request dg f = if recent.length < 50 then f ((u.incSat F.HOST_CNT1_REQUESTS).setHost { u.host with reqAt := recent ++ [s.lt] }) else u.badDgram) ∧
    (∃ g, exec (.logRead dg req a0 a1 resv) s = .next (s.request dg g) ∧ ∀ u : State,
      ((resv = true ∨ a1 = 0#32 ∨ 40 < a1.toNat) → g u = u.reply req 1 rqBad []) ∧
      (resv = false → a1 ≠ 0#32 → a1.toNat ≤ 40 → u.logFirst a0 = none → g u = u.reply req 1 rqNoData []) ∧
      (∀ first, resv = false → a1 ≠ 0#32 → a1.toNat ≤ 40 → u.logFirst a0 = some first →
        let n := min a1.toNat (u.rd R.LOG_NEXT - first).toNat
        let z := (List.range n).foldl (fun x i => x.logTouch (first.toNat + i)) u
        g u = z.reply req 1 rqOk (leBytes 4 (z.rd R.LOG_OLDEST).toNat ++ leBytes 4 first.toNat ++ leBytes 2 n ++ leBytes 2 0
          ++ (List.range n).flatMap (fun i => z.logBytes (first.toNat + i))) ∧
        ((∀ x ∈ u.lines, x.2.single = 0 ∧ x.2.double = 0) → z = u))) ∧
    (∃ g, exec (.health dg req form) s = .next (s.request dg g) ∧
      ∀ (u : State) (h : Rec), (form.code ≠ 2#8 → g u = u.reply req form.code.toNat rqBad []) ∧ (form.code = 2#8 → form.resv = true → g u = u.reply req 2 rqBad []) ∧
        (form.code = 2#8 → form.resv = false → u.host.health = none → g u = u.reply req 2 rqNoData []) ∧
        (form.code = 2#8 → form.resv = false → u.host.health = some h → h.length ≤ 1448 → g u = u.reply req 2 rqOk h.bytes) ∧
        (form.code = 2#8 → form.resv = false → u.host.health = some h → 1448 < h.length → g u = u.reply req 2 rqTooLong [])) ∧
    exec (.reload dg req resv) s = .next (s.request dg (fun u => u.hostKey req resv false)) ∧
    exec (.hostReqChangeover dg req resv) s = .next (s.request dg (fun u => u.hostKey req resv true)) ∧
    (∀ (u : State) (x : Word × Nat × Nat) (co : Bool),
      let n := if co then 4 else 3
      let v := ((u.logWrite kHost 18 (w32 (n - 2)) (u.rd R.HOST_PEER_IP) 0#32).put F.HOST_EVT_REQUEST_SEEN 1).raise 18
      (v.host.answers.find? (fun y => y.1 == req && y.2.1 == n) = some x → u.hostKey req resv co = v.reply req n x.2.2 []) ∧
      (v.host.answers.find? (fun y => y.1 == req && y.2.1 == n) = none →
        u.hostKey req true co = v.reply req n rqBad [] ∧ u.hostKey req false co = (v.hostKeyDo co).2.reply req n (v.hostKeyDo co).1 []))

/-- R350, R353 to R357, R359, R363, R364: batches close BATCH_TIME after their first record, leave slice by slice, end with their acknowledgement and are
sent again after RTO_MS; a heartbeat leaves at every 100 ms of line time; waking the host sends three packets 100 ms apart, holds HOST_WAKE for PIN_MS
and repeats while its cause holds. The model's choices: assumptions 95 and 97. -/
def Obligations.BatchesHeartbeatAndWake : Prop :=
  ∀ (s : State) (dg : Dgram) (w : Fin 9) (raw : Bool) (cum : Word) (window a : Nat) (l : List AckEntry) (b : Batch) (p : Parked),
    (s.host.open_ raw ≠ [] → exec (.batchClose raw) s =
      .next (if s.host.openAt raw + s.get F.HOST_BATCH_BATCH_TIME * 100000 ≤ s.lt then s.batchClose raw else s)) ∧
    (s.host.open_ raw = [] → exec (.batchClose raw) s = .next s) ∧
    (s.takes dg → (s.ofSession dg = false ∨ 16 < l.length ∨ seqLater cum (s.rd R.HOST_NEXT_BSEQ) = true) →
      exec (.hostAck dg cum window l) s = .next s.jack.badDgram) ∧
    (s.takes dg → s.ofSession dg = true → l.length ≤ 16 → seqLater cum (s.rd R.HOST_NEXT_BSEQ) = false → seqLater (s.rd R.HOST_CUM_BSEQ) cum = false →
      Completes (.hostAck dg cum window l) s (fun t => t.host.batches = s.host.batches.filterMap (ackBatch cum l) ∧ t.host.lastRx = s.lt)) ∧
    (s.hostHears = false → exec (.hostAck dg cum window l) s = .next s) ∧
    (s.recordsGo = true ↔ s.hostTalks = true ∧ s.mode ≠ mPowerUp ∧ s.mode ≠ mFactory) ∧
    (s.recordsGo = true → s.get F.HOST_STAT_SESSION = ssOpen → s.nextBatch = none → exec .dataSend s = .next s) ∧
    (s.recordsGo = true → s.get F.HOST_STAT_SESSION = ssOpen → s.nextBatch = some b →
      let u := s.toPeer mtData (s.rd R.HOST_SESSION) (b.data b.next)
      let more := decide (b.next + 1 < b.slices)
      let b' : Batch := { b with out := true, next := b.next + 1, left := b.leftWith u.lt, resent := b.resent && more, first := b.first && more }
      exec .dataSend s = .next (u.setHost { u.host with batches := u.host.batches.map (fun x => if x.bseq = b.bseq then b' else x) }).showOutstanding) ∧
    (s.get F.HOST_STAT_SESSION ≠ ssOpen → exec .dataSend s = .next s ∧ exec .retransmit s = .next s) ∧
    (s.recordsGo = true → s.get F.HOST_STAT_SESSION = ssOpen → s.host.batches.find? s.rtoDue = some b → exec .retransmit s = .next (s.batchAgain b)) ∧
    (s.recordsGo = false → exec .dataSend s = .next s ∧ exec .retransmit s = .next s) ∧ (s.hostTalks = false → exec .heartbeat s = .next s) ∧
    (s.get F.HOST_STAT_SESSION = ssOpen → (∀ x ∈ s.host.batches, s.rtoDue x = false) → exec .retransmit s = .next s) ∧
    (s.host.parks = [p] → p.record.ty = tyVerdict → exec .parkExpiry s =
      .next (if p.since + s.get F.HOST_CFG_PARK_MS * 1000000 ≤ s.lt then s.parkExpire p else s)) ∧
    (s.host.parks = [] → exec .parkExpiry s = .next s) ∧
    (s.hostTalks = true → s.lt % 100000000 = 0 → s.get F.HOST_STAT_SESSION ≠ ssNone →
      exec .heartbeat s = .next (s.toPeer mtHeartbeat (s.rd R.HOST_SESSION) s.heartbeat)) ∧
    (s.hostTalks = true → s.lt % 100000000 = 0 → s.get F.HOST_STAT_SESSION = ssNone → exec .heartbeat s =
      .next (if s.isSet F.HOST_CFG_HB_BCAST then s.udpTo s.bcastIp 40128 (message mtHeartbeat 0#32 s.heartbeat) else s)) ∧
    (s.lt % 100000000 ≠ 0 → exec .heartbeat s = .next s) ∧ s.heartbeat.length = 40 ∧
    (w.val ≠ 8 → exec (.hostCmdWake w) s = .next s) ∧
    (w.val = 8 → (s.host.attempt = none ∨ 3 ≤ s.host.packets ∨ s.domIsOn domHost = false) → exec (.hostCmdWake w) s =
      .next (s.setHost { s.host with wakeCmd := s.get F.HOST_STAT_SESSION != ssOpen }).wakeStart) ∧
    (w.val = 8 → s.host.attempt = some a → s.host.packets < 3 → s.domIsOn domHost = true → Completes (.hostCmdWake w) s (fun t => t.out = s.out ∧
      t.isSet F.HOST_STAT_WAKING = (s.get F.HOST_STAT_SESSION != ssOpen))) ∧
    (s.host.attempt = some a → s.domIsOn domHost = true → s.host.packets < 3 → a + s.host.packets * 100000000 ≤ s.logLt →
      exec .magicPacketRepeat s = .next (s.setHost { s.host with packets := s.host.packets + 1 }).magicSend) ∧
    (s.host.attempt = some a → s.domIsOn domHost = false → s.host.packets < 3 → a + s.host.packets * 100000000 ≤ s.logLt →
      exec .magicPacketRepeat s = .next (s.setHost { s.host with packets := s.host.packets + 1 })) ∧
    (s.host.attempt = some a → 3 ≤ s.host.packets → exec .magicPacketRepeat s = .next s) ∧
    (s.host.attempt = some a → s.logLt < a + s.host.packets * 100000000 → exec .magicPacketRepeat s = .next s) ∧
    (s.host.pinAt = some a → exec .hostWakeRelease s =
      .next (if s.get F.HOST_WAKE_CFG_PIN_MS ≠ 0 ∧ a + s.get F.HOST_WAKE_CFG_PIN_MS * 10000000 ≤ s.logLt then
        (s.put F.HOST_STAT_WAKE_PIN 0).setHost { s.host with pinAt := none } else s)) ∧
    (s.host.pinAt = none → exec .hostWakeRelease s = .next s) ∧
    (s.isSet F.HOST_STAT_WAKING = true → s.host.lastWake + s.get F.HOST_WAKE_CFG_REPEAT_S * 1000000000 ≤ s.logLt →
      exec .wakeRepeat s = .next (if s.host.wakeCmd || s.fillCause then s.wakeStart else s.put F.HOST_STAT_WAKING 0)) ∧
    (s.logLt < s.host.lastWake + s.get F.HOST_WAKE_CFG_REPEAT_S * 1000000000 → exec .wakeRepeat s = .next s) ∧
    (s.isSet F.HOST_STAT_WAKING = false → exec .wakeRepeat s = .next s)

/-! ## Trouble log, module events, HEALTH head -/

/-- R431, R432, R434, R436 to R438: a module event sets its SEEN bit, its source at the vat core and its counter; an entry takes the next INDEX in one
of 2,048 slots and the time and mode of its writing; LOG_SEL selects an entry; the vat core may write at most 1,000 entries a second; FLT_SNAP writes
the 48-byte head at its address and is busy until it is done. Another core's write does nothing. The model's choices: assumption 92. -/
def Obligations.EventsAndTroubleLog : Prop :=
  ∀ (s : State) (w : Fin 9) (n kind event : Nat) (v d0 d1 d2 : Word),
    (n < 32 → (s.raise n).core 8 = (s.core 8).pend n ∧ (s.raise n).bit F.EVT_SEEN_LO_SEEN n = true ∧
      (s.raise n).get (F.EVT_CNT_RAISED n) = min (s.get (F.EVT_CNT_RAISED n) + 1) 0xFFFF) ∧
    (32 ≤ n → n < 64 → (s.raise n).core 8 = (s.core 8).pend n ∧ (s.raise n).bit F.EVT_SEEN_HI_SEEN (n - 32) = true ∧
      (s.raise n).get (F.EVT_CNT_RAISED n) = min (s.get (F.EVT_CNT_RAISED n) + 1) 0xFFFF) ∧
    (s.isSet F.LOG_CFG_REC_EN = false →
      let i := s.get F.LOG_NEXT_INDEX
      let t := s.logWrite kind event d0 d1 d2
      t.get F.LOG_NEXT_INDEX = (i + 1) % 0x100000000 ∧ t.mem = s.mem ∧
        ∃ e, t.logEntry i = some e ∧ e.index = i ∧ e.lt = s.logLt ∧ e.event = event ∧ e.mode = s.mode ∧ e.kind = kind ∧ e.gen = s.gen ∧ e.lost = false ∧
          e.d0 = d0 ∧ e.d1 = d1 ∧ e.d2 = d2) ∧
    (∀ e : LogEntry, e.bytes.length = 32) ∧ s.healthHead.length = 48 ∧
    (w.val ≠ 8 → exec (.logSelWrite w v) s = .next s ∧ exec (.logUserWrite w) s = .next s ∧ exec (.fltSnap w v) s = .next s) ∧
    (w.val = 8 → exec (.logSelWrite w v) s = .next (s.wr R.LOG_SEL v)) ∧
    (w.val = 8 →
      let recent := s.userLts.filter (fun a => decide (s.lt < a + 1000000000))
      (1000 ≤ recent.length → exec (.logUserWrite w) s = .next (s.incSat F.LOG_STAT_USER_DROPPED)) ∧
      (recent.length < 1000 → Completes (.logUserWrite w) s (fun t => t.userLts = recent ++ [s.lt] ∧
        t.log = (s.logWrite kUser noEvent (s.rd (R.LOG_USER_D 0)) (s.rd (R.LOG_USER_D 1)) (s.rd (R.LOG_USER_D 2))).log))) ∧
    (w.val = 8 → s.isSet F.FLT_STAT_SNAP_BUSY = false →
      exec (.fltSnap w v) s = .next ((s.coreStore vat (v.toNat / 8 * 8) s.healthHead).put F.FLT_STAT_SNAP_BUSY 1)) ∧
    (s.isSet F.FLT_STAT_SNAP_BUSY = true → exec (.fltSnap w v) s = .next s) ∧
    exec .snapDone s = .next (s.put F.FLT_STAT_SNAP_BUSY 0)

/-! ## Service port, commissioning, HEALTHY_N -/

/-- R443 to R447, R453 to R455: a write transfer's first byte sets the pointer, further bytes go to positions of the selected page and the pointer
counts on modulo 256, position 0xFF selects the page, during a burn (R460) at its end; a read returns bytes from the pointer on; a command takes effect only behind its complement and
in the conditions that R453 gives it; before AON runs the port answers nothing (R56). The model's choices: assumption 91. -/
def Obligations.ServiceTransfersAndCommands : Prop :=
  ∀ (s : State) (en : Bool) (p b x : Byte) (l : List Byte) (n e : Nat),
    (s.svcAnswers = false → exec (.svcWriteTransfer en l) s = .next s ∧ exec (.svcReadTransfer en n) s = .next s ∧ exec .svcTake s = .next s ∧
      exec .svcRelease s = .next s ∧ exec .svcAlive s = .next s ∧ exec (.svcCommission en) s = .next s ∧ exec .svcWarmReset s = .next s) ∧
    (s.svcAnswers = true → exec (.svcWriteTransfer en []) s = .next ((s.enabled en).incWrap F.SVC_CNT_TRANSFERS)) ∧
    (s.svcAnswers = true →
     let u := (s.enabled en).incWrap F.SVC_CNT_TRANSFERS
     exec (.svcWriteTransfer en (p :: l)) s = .next ((u.setSvc { u.svc with ptr := p.toNat }).svcWrite none l)) ∧
    (s.svc.ptr = 0xFF → b.toNat ≤ 6 → s.isSet F.SVC_STAT_BURNING = false →
      ∃ t, s.svcWrite none [b] = t ∧ t.svc.page = b.toNat ∧ t.svc.ptr = 0 ∧ t.svc.pageDue = none) ∧
    (s.svc.ptr = 0xFF → b.toNat ≤ 6 → s.isSet F.SVC_STAT_BURNING = true →
      ∃ t, s.svcWrite none [b] = t ∧ t.svc.page = s.svc.page ∧ t.svc.ptr = 0 ∧ t.svc.pageDue = some b.toNat) ∧
    (s.svc.ptr = 0xFF → 6 < b.toNat → s.svcWrite none [b] = s.setSvc { s.svc with ptr := 0 }) ∧
    (s.svc.page = 4 → s.svc.ptr = 0 → s.svcWrite none [b, x] = (s.setSvc { s.svc with ptr := 2 }).svcCommand b.toNat x.toNat) ∧
    (b.toNat + x.toNat ≠ 255 → s.svcCommand b.toNat x.toNat = s.svcResult 1) ∧
    (s.svcAnswers = true →
      Completes (.svcReadTransfer en n) s (fun t => t.svc.ptr = (s.svc.ptr + n) % 256 ∧ ∃ r : List Byte, r.length = n ∧ t.out = s.out ++ [.service r])) ∧
    exec .svcSclStuck s = .next s ∧
    (s.svcCommand 1 254 = s.svcTake ∧ s.svcCommand 2 253 = s.svcRelease ∧ s.svcCommand 3 252 = s.svcAlive ∧ s.svcCommand 4 251 = s.svcCommission ∧
      s.svcCommand 5 250 = s.svcWarmReset) ∧
    (s.svcAnswers = true → (s.cond mCommission = true ∨ s.booting = true) → exec .svcTake s = .next (s.svcResult 3)) ∧
    (s.svcAnswers = true → s.cond mCommission = false → s.booting = false → exec .svcTake s = .next (s.takeStart.svcResult 0)) ∧
    (s.svcAnswers = true → s.cond mCommission = false → s.isSet F.SVC_STAT_TAKEN = true → exec .svcRelease s = .next (s.takeStop.svcResult 0)) ∧
    (s.svcAnswers = true → s.cond mCommission = false → s.isSet F.SVC_STAT_TAKEN = false → exec .svcRelease s = .next (s.svcResult 4)) ∧
    (s.svcAnswers = true → s.cond mCommission = true → exec .svcRelease s = .next (s.commissionLeave.svcResult 0)) ∧
    (s.svcAnswers = true → s.isSet F.SVC_STAT_TAKEN = true → exec .svcAlive s = .next (s.takeStart.svcResult 0)) ∧
    (s.svcAnswers = true → s.isSet F.SVC_STAT_TAKEN = false → exec .svcAlive s = .next (s.svcResult 4)) ∧
    (s.svcAnswers = true → s.isSet F.SVC_STAT_TAKEN = true ∨ s.cond mFaultHold = true →
      exec .svcWarmReset s = .next (((s.raise62 F.SVC_EVT_RESET_REQ_SEEN).wantReset 1).svcResult 0)) ∧
    (s.svcAnswers = true → s.isSet F.SVC_STAT_TAKEN = false → s.cond mFaultHold = false → exec .svcWarmReset s = .next (s.svcResult 4)) ∧
    (s.svcAnswers = true → exec (.svcCommission false) s = .next ((s.enabled false).svcResult 2)) ∧
    (s.svcAnswers = true → s.co.phase ≠ 0 → exec (.svcCommission true) s = .next ((s.enabled true).svcResult 3)) ∧
    (s.svcAnswers = true → s.co.phase = 0 → exec (.svcCommission true) s = .next ((s.enabled true).commissionStart.svcResult 0)) ∧
    (s.svc.takeEnd = some e → exec .takeExpiry s = .next (if e < s.logLt then s.takeStop else s)) ∧
    (s.svc.takeEnd = none → exec .takeExpiry s = .next s)

/-- R398, R406, R407, R456 to R462: a GO answers the first check that fails, or burns the next slot; a burn's end logs its result, and only a verified
value becomes the field's or trim's newest; COMMISSION is left when SERVICE_EN_N reads high; HEALTHY_N is held only while every condition holds and
after a release for at least 10 ms not again. The model's choices: assumptions 90 and 91. -/
def Obligations.CommissioningAndHealthy : Prop :=
  ∀ (s : State) (w : Fin 9) (en ok : Bool) (sel id a : Nat) (value : List Byte) (v : Nat),
    (s.isSet F.SVC_STAT_BURNING = true → s.fieldGo = s ∧ s.trimGo = s) ∧
    (s.svcAnswers = true → exec (.commissionGo en) s = .next (s.enabled en).fieldGo ∧ exec (.trimGo en) s = .next (s.enabled en).trimGo) ∧
    (s.svcAnswers = false → exec (.commissionGo en) s = .next s ∧ exec (.trimGo en) s = .next s) ∧
    (s.isSet F.SVC_STAT_BURNING = false → s.fieldCheck ≠ 0 → s.fieldGo = s.fieldLog s.svc.sel s.fieldCheck 8 s.svc.newValue) ∧
    (s.isSet F.SVC_STAT_BURNING = false → s.fieldCheck = 0 →
      s.fieldGo = (s.put F.SVC_STAT_BURNING 1).setSvc { s.svc with burn := some ⟨false, s.svc.sel, s.svc.newValue⟩ }) ∧
    (s.mode ≠ mCommission → s.fieldCheck = 1 ∧ s.trimCheck = 1) ∧
    (s.svc.burn = none → exec (.burnEnd ok) s = .next s) ∧
    (s.svc.burn = some ⟨false, sel, value⟩ → s.svc.ending = false → Completes (.burnEnd ok) s (fun t =>
      t.svc.fieldResult = (if ok then 0 else 8) ∧ t.svc.burn = none ∧ t.svc.written = (s.svc.written || ok) ∧
        t.fieldSlots sel = s.fieldSlots sel ++ [if ok then some value else none] ∧
        t.fieldNow sel = if ok then some value else s.fieldNow sel)) ∧
    (s.svc.burn = some ⟨true, id, leBytes 4 v⟩ → s.svc.ending = false → v < 0x100000000 → Completes (.burnEnd ok) s (fun t =>
      t.svc.trimResult = (if ok then 0 else 8) ∧ t.trimNow id = if ok then w32 v else s.trimNow id)) ∧
    exec (.commissionEnd true) s = .next (s.enabled true) ∧ exec (.commissionEnd false) s = .next (s.enabled false).commissionLeave ∧
    (w.val ≠ 8 → exec (.svcKick w) s = .next s) ∧
    (w.val = 8 → exec (.svcKick w) s = .next (s.setSvc { s.svc with kickAt := some s.logLt }).healthySettle) ∧
    exec .kickTimeout s = .next s.healthySettle ∧ exec .healthyHoldEnd s = .next s.healthySettle ∧
    exec .factoryFixtureTake s = .next (s.setCond mFactory true) ∧
    (s.healthyMay = true → s.svc.releaseAt = none → s.healthySettle.isSet F.SVC_STAT_HEALTHY = true) ∧
    (s.healthyMay = true → s.svc.releaseAt = some a → s.logLt < a + 10000000 → s.healthySettle = s) ∧
    (s.healthyMay = false → s.healthySettle.isSet F.SVC_STAT_HEALTHY = false) ∧
    (s.healthyMay = false → s.isSet F.SVC_STAT_HEALTHY = true → s.healthySettle.svc.releaseAt = some s.logLt) ∧
    (s.isSet F.MOD_STATUS_RECIPE = false → s.healthyMay = false)

/-! ## Registers -/

/-- R9 to R12, R440, R451: a word written at an address on no word boundary is none; in the windows without commands a write of the vat core sets the
fields that are RW and clears the W1C bits written as 1, another core's write clears W1C bits alone and none of EVT_SEEN, every other bit and register
stays, and an address without a register takes nothing. The model's choices: assumptions 24 and 25. -/
def Obligations.RegisterWrites : Prop :=
  ∀ (c : Fin 9) (addr v : Word) (s : State) (a : Nat) (r : RegRow),
    (addr.toNat % 4 ≠ 0 ∨ addr.toNat < 0x40000000 → exec (.registerWrite c addr v) s = .next s) ∧
    (addr.toNat % 4 = 0 → 0x40000000 ≤ addr.toNat → exec (.registerWrite c addr v) s = .next (s.busWrite c addr.toNat v)) ∧
    ((0x500A0000 ≤ a ∧ a < 0x500B0000) ∨ (0x500B0100 ≤ a ∧ a < 0x500B010C) ∨ (0x50060000 ≤ a ∧ a < 0x5006004C) ∨ (0x50050010 ≤ a ∧ a < 0x50060000) →
      s.busWrite c a v = s.plainWrite c a v) ∧
    (regRow a = none → s.plainWrite c a v = s) ∧
    (regRow a = some r → ∀ m, m ≠ a → (s.plainWrite c a v).rd m = s.rd m) ∧
    (regRow a = some r → c.val = 8 → a < R.ACT_ENTER_CTL 0 ∨ R.ACT_ENTER_CTL 9 ≤ a →
      (s.plainWrite c a v).rd a =
        ((s.rd a &&& ~~~(BitVec.ofNat 32 r.rw)) ||| (v &&& BitVec.ofNat 32 r.rw)) &&& ~~~(v &&& BitVec.ofNat 32 r.w1c)) ∧
    (regRow a = some r → c.val ≠ 8 → a < R.ACT_ENTER_CTL 0 ∨ R.ACT_ENTER_CTL 9 ≤ a → a ≠ R.EVT_SEEN_LO → a ≠ R.EVT_SEEN_HI →
      (s.plainWrite c a v).rd a = s.rd a &&& ~~~(v &&& BitVec.ofNat 32 r.w1c)) ∧
    (c.val ≠ 8 → (a = R.EVT_SEEN_LO ∨ a = R.EVT_SEEN_HI) → ∀ m, (s.plainWrite c a v).rd m = s.rd m) ∧
    exec (.registerWrite 8 (BitVec.ofNat 32 R.PWR_WAKE_INEDGE) v) s = .next (s.plainWrite 8 R.PWR_WAKE_INEDGE v)

/-! ## Reset and invariants -/

/-- R13, R284, R397, R431: after power-on every register holds its reset word (among them the mode POWER_UP, an agreement time of 10 ms and an empty
log), every byte of memory reads 0 (the model's choice for memory that nothing has written: bring-up writes it with zeros), no queue, table or log
holds anything, line time stands, and every core is as R243 to R264 keep it. The model's choices: assumptions 2 and 4. -/
def Obligations.ResetState : Prop :=
  (∀ a, State.reset.rd a = regReset a) ∧ State.reset.mode = mPowerUp ∧ State.reset.booting = true ∧ State.reset.get F.PWR_CFG_AGREE_MS = 10 ∧
    State.reset.get F.LOG_NEXT_INDEX = 0 ∧ (∀ i, State.reset.logEntry i = none) ∧ (∀ m, State.reset.byte m = 0#8) ∧
    (∀ q, (State.reset.queue q).recs = []) ∧ State.reset.acts = [] ∧ State.reset.time = false ∧ State.reset.pending = [] ∧
    (∀ k, k < 9 → (State.reset.core k).sound k ∧ (State.reset.core k).running = false)

/-- R243, R245, R251, R264, R271, R273: whatever Filsy instruction a core is given, it leaves every core's PROF, reserved FLAGS bits, return stack of
at most 64 entries, at most 4 posted stores and iteration count as they have to be. (Where no memory line is disturbed and the next fault does not
halt the core, so that no tile restart comes into it.) -/
def Obligations.FilsyKeepsCoreSound : Prop :=
  ∀ (i : Instr) (c : Fin 9) (s t : State), i.filsyCore = some c → (∀ k, k < 9 → (s.core k).sound k) → (s.core c).faultsOpen → s.lines = [] →
    exec i s = .next t → ∀ k, k < 9 → (t.core k).sound k

/-! ## What every step keeps -/

/-- R249 and the canonical form of the model's data (assumption 2): whatever state the block is in, a step takes the command at the front of the queue
away and no other, and leaves memory, registers and cores in their canonical form, so that equal contents stay equal data. -/
def Obligations.StepKeepsCanonicalForm : Prop :=
  ∀ s t : State, s.formed s.pending → step s = .next t → t.formed s.pending.tail

/-- The canonical form (assumption 2) holds after reset, with no command waiting, and of every state that a command put in front of it leaves (R13); the opcode
table gives no row any bits, so that no word puts one there (assumption 7). -/
def Obligations.ResetIsCanonical : Prop :=
  State.reset.formed [] ∧ (∀ i : Instr, (State.reset.push i).formed [i]) ∧ ∀ nbits w, (State.reset.withFetchWord nbits w) = State.reset

/-- R247, R270, R438: every command but a Filsy instruction, an entry or end of WAIT, a posted store, a fault of memory, a domain's or clock's loss
and a start, stop or reset of cores leaves every core as it was, but that sources may become pending; no pending bit of a core is lost, and no waiting
command. -/
def Obligations.CommandsLeaveCores : Prop :=
  ∀ (i : Instr) (s t : State), i.mayMoveCores = false → exec i s = .next t → t.pending = s.pending ∧
    ∀ k, ∃ p0 p1 p2, t.core k =
      { s.core k with pend0 := (s.core k).pend0 ||| p0, pend1 := (s.core k).pend1 ||| p1, pend2 := (s.core k).pend2 ||| p2 }

/-- R174, R188, R196, R249, R284, R300, R327: a command that is none of the named ones that can store leaves every byte of memory as it was, and its
form. -/
def Obligations.CommandsLeaveMemory : Prop :=
  ∀ (i : Instr) (s t : State), i.mayStore = false → exec i s = .next t → t.mem = s.mem ∧ ∀ a, t.byte a = s.byte a

end Statements
end

