-- ==== Sys2Proof/Laws/Decode.lean ====
section
/-! SUPPORT. The fields of a Filsy word read from the word that holds them (R253). -/

namespace Sys2Proof

theorem packA_toNat (op fn : Nat) (d a b : BitVec 4) (k : BitVec 8) (ho : op < 64) (hf : fn < 64) :
    (packA op fn d a b k).toNat = op * 67108864 + d.toNat * 4194304 + a.toNat * 262144 + b.toNat * 16384 + k.toNat * 64 + fn := by
  have := d.isLt; have := a.isLt; have := b.isLt; have := k.isLt
  simp only [packA, BitVec.toNat_ofNat]
  omega

theorem packI_toNat (op : Nat) (d a : BitVec 4) (i : BitVec 18) (ho : op < 64) :
    (packI op d a i).toNat = op * 67108864 + d.toNat * 4194304 + a.toNat * 262144 + i.toNat := by
  have := d.isLt; have := a.isLt; have := i.isLt
  simp only [packI, BitVec.toNat_ofNat]
  omega

theorem packU_toNat (op : Nat) (d : BitVec 4) (i : BitVec 22) (ho : op < 64) :
    (packU op d i).toNat = op * 67108864 + d.toNat * 4194304 + i.toNat := by
  have := d.isLt; have := i.isLt
  simp only [packU, BitVec.toNat_ofNat]
  omega

/-- The fields of an A-format word. -/
theorem packA_read (op fn : Nat) (d a b : BitVec 4) (k : BitVec 8) (ho : op < 64) (hf : fn < 64) :
    (packA op fn d a b k).toNat / 67108864 = op ∧ (packA op fn d a b k).toNat % 64 = fn ∧ fieldD (packA op fn d a b k).toNat = d ∧
      fieldA (packA op fn d a b k).toNat = a ∧ fieldB (packA op fn d a b k).toNat = b ∧ fieldK (packA op fn d a b k).toNat = k := by
  rw [packA_toNat op fn d a b k ho hf]
  have := d.isLt; have := a.isLt; have := b.isLt; have := k.isLt
  refine ⟨by omega, by omega, ?_, ?_, ?_, ?_⟩ <;>
  · apply BitVec.eq_of_toNat_eq
    simp only [fieldD, fieldA, fieldB, fieldK, BitVec.toNat_ofNat]
    omega

/-- The fields of an I-format word. -/
theorem packI_read (op : Nat) (d a : BitVec 4) (i : BitVec 18) (ho : op < 64) :
    (packI op d a i).toNat / 67108864 = op ∧ fieldD (packI op d a i).toNat = d ∧ fieldA (packI op d a i).toNat = a ∧
      fieldI (packI op d a i).toNat = i := by
  rw [packI_toNat op d a i ho]
  have := d.isLt; have := a.isLt; have := i.isLt
  refine ⟨by omega, ?_, ?_, ?_⟩ <;>
  · apply BitVec.eq_of_toNat_eq
    simp only [fieldD, fieldA, fieldI, BitVec.toNat_ofNat]
    omega

/-- The fields of a U- or J-format word. -/
theorem packU_read (op : Nat) (d : BitVec 4) (i : BitVec 22) (ho : op < 64) :
    (packU op d i).toNat / 67108864 = op ∧ fieldD (packU op d i).toNat = d ∧ fieldU (packU op d i).toNat = i := by
  rw [packU_toNat op d i ho]
  have := d.isLt; have := i.isLt
  refine ⟨by omega, ?_, ?_⟩ <;>
  · apply BitVec.eq_of_toNat_eq
    simp only [fieldD, fieldU, BitVec.toNat_ofNat]
    omega

end Sys2Proof
end

