-- ==== Sys2Proof/Laws/State.lean ====
section
/-! SUPPORT. What each update of the state leaves as it was: one lemma per field per update, true by computation. -/

namespace Sys2Proof.Machine

variable (s : State)

@[simp] theorem State.wr_booting (a : Nat) (v : Word) : (s.wr a v).booting = s.booting := rfl
@[simp] theorem State.wr_mem (a : Nat) (v : Word) : (s.wr a v).mem = s.mem := rfl
@[simp] theorem State.wr_lines (a : Nat) (v : Word) : (s.wr a v).lines = s.lines := rfl
@[simp] theorem State.wr_scrubs (a : Nat) (v : Word) : (s.wr a v).scrubs = s.scrubs := rfl
@[simp] theorem State.wr_lt (a : Nat) (v : Word) : (s.wr a v).lt = s.lt := rfl
@[simp] theorem State.wr_vco (a : Nat) (v : Word) : (s.wr a v).vco = s.vco := rfl
@[simp] theorem State.wr_tileAt (a : Nat) (v : Word) : (s.wr a v).tileAt = s.tileAt := rfl
@[simp] theorem State.wr_time (a : Nat) (v : Word) : (s.wr a v).time = s.time := rfl
@[simp] theorem State.wr_uncertain (a : Nat) (v : Word) : (s.wr a v).uncertain = s.uncertain := rfl
@[simp] theorem State.wr_spans (a : Nat) (v : Word) : (s.wr a v).spans = s.spans := rfl
@[simp] theorem State.wr_spanFrom (a : Nat) (v : Word) : (s.wr a v).spanFrom = s.spanFrom := rfl
@[simp] theorem State.wr_ticks (a : Nat) (v : Word) : (s.wr a v).ticks = s.ticks := rfl
@[simp] theorem State.wr_sleepNs (a : Nat) (v : Word) : (s.wr a v).sleepNs = s.sleepNs := rfl
@[simp] theorem State.wr_com (a : Nat) (v : Word) : (s.wr a v).com = s.com := rfl
@[simp] theorem State.wr_queues (a : Nat) (v : Word) : (s.wr a v).queues = s.queues := rfl
@[simp] theorem State.wr_ladles (a : Nat) (v : Word) : (s.wr a v).ladles = s.ladles := rfl
@[simp] theorem State.wr_seqs (a : Nat) (v : Word) : (s.wr a v).seqs = s.seqs := rfl
@[simp] theorem State.wr_log (a : Nat) (v : Word) : (s.wr a v).log = s.log := rfl
@[simp] theorem State.wr_logUnsent (a : Nat) (v : Word) : (s.wr a v).logUnsent = s.logUnsent := rfl
@[simp] theorem State.wr_userLts (a : Nat) (v : Word) : (s.wr a v).userLts = s.userLts := rfl
@[simp] theorem State.wr_acts (a : Nat) (v : Word) : (s.wr a v).acts = s.acts := rfl
@[simp] theorem State.wr_actOrder (a : Nat) (v : Word) : (s.wr a v).actOrder = s.actOrder := rfl
@[simp] theorem State.wr_outs (a : Nat) (v : Word) : (s.wr a v).outs = s.outs := rfl
@[simp] theorem State.wr_evts (a : Nat) (v : Word) : (s.wr a v).evts = s.evts := rfl
@[simp] theorem State.wr_caps (a : Nat) (v : Word) : (s.wr a v).caps = s.caps := rfl
@[simp] theorem State.wr_encs (a : Nat) (v : Word) : (s.wr a v).encs = s.encs := rfl
@[simp] theorem State.wr_srcs (a : Nat) (v : Word) : (s.wr a v).srcs = s.srcs := rfl
@[simp] theorem State.wr_timers (a : Nat) (v : Word) : (s.wr a v).timers = s.timers := rfl
@[simp] theorem State.wr_herd (a : Nat) (v : Word) : (s.wr a v).herd = s.herd := rfl
@[simp] theorem State.wr_churn (a : Nat) (v : Word) : (s.wr a v).churn = s.churn := rfl
@[simp] theorem State.wr_env (a : Nat) (v : Word) : (s.wr a v).env = s.env := rfl
@[simp] theorem State.wr_cores (a : Nat) (v : Word) : (s.wr a v).cores = s.cores := rfl
@[simp] theorem State.wr_cells (a : Nat) (v : Word) : (s.wr a v).cells = s.cells := rfl
@[simp] theorem State.wr_chans (a : Nat) (v : Word) : (s.wr a v).chans = s.chans := rfl
@[simp] theorem State.wr_moduleAt (a : Nat) (v : Word) : (s.wr a v).moduleAt = s.moduleAt := rfl
@[simp] theorem State.wr_mainsMoved (a : Nat) (v : Word) : (s.wr a v).mainsMoved = s.mainsMoved := rfl
@[simp] theorem State.wr_mainsRun (a : Nat) (v : Word) : (s.wr a v).mainsRun = s.mainsRun := rfl
@[simp] theorem State.wr_mainsEdges (a : Nat) (v : Word) : (s.wr a v).mainsEdges = s.mainsEdges := rfl
@[simp] theorem State.wr_tiles (a : Nat) (v : Word) : (s.wr a v).tiles = s.tiles := rfl
@[simp] theorem State.wr_stopped (a : Nat) (v : Word) : (s.wr a v).stopped = s.stopped := rfl
@[simp] theorem State.wr_routes (a : Nat) (v : Word) : (s.wr a v).routes = s.routes := rfl
@[simp] theorem State.wr_key (a : Nat) (v : Word) : (s.wr a v).key = s.key := rfl
@[simp] theorem State.wr_co (a : Nat) (v : Word) : (s.wr a v).co = s.co := rfl
@[simp] theorem State.wr_tws (a : Nat) (v : Word) : (s.wr a v).tws = s.tws := rfl
@[simp] theorem State.wr_link (a : Nat) (v : Word) : (s.wr a v).link = s.link := rfl
@[simp] theorem State.wr_pwr (a : Nat) (v : Word) : (s.wr a v).pwr = s.pwr := rfl
@[simp] theorem State.wr_thr (a : Nat) (v : Word) : (s.wr a v).thr = s.thr := rfl
@[simp] theorem State.wr_watch (a : Nat) (v : Word) : (s.wr a v).watch = s.watch := rfl
@[simp] theorem State.wr_boot (a : Nat) (v : Word) : (s.wr a v).boot = s.boot := rfl
@[simp] theorem State.wr_host (a : Nat) (v : Word) : (s.wr a v).host = s.host := rfl
@[simp] theorem State.wr_svc (a : Nat) (v : Word) : (s.wr a v).svc = s.svc := rfl
@[simp] theorem State.wr_freeCtr (a : Nat) (v : Word) : (s.wr a v).freeCtr = s.freeCtr := rfl
@[simp] theorem State.wr_out (a : Nat) (v : Word) : (s.wr a v).out = s.out := rfl
@[simp] theorem State.wr_pending (a : Nat) (v : Word) : (s.wr a v).pending = s.pending := rfl

@[simp] theorem State.put_booting (f : Fld) (n : Nat) : (s.put f n).booting = s.booting := rfl
@[simp] theorem State.put_mem (f : Fld) (n : Nat) : (s.put f n).mem = s.mem := rfl
@[simp] theorem State.put_lines (f : Fld) (n : Nat) : (s.put f n).lines = s.lines := rfl
@[simp] theorem State.put_scrubs (f : Fld) (n : Nat) : (s.put f n).scrubs = s.scrubs := rfl
@[simp] theorem State.put_lt (f : Fld) (n : Nat) : (s.put f n).lt = s.lt := rfl
@[simp] theorem State.put_vco (f : Fld) (n : Nat) : (s.put f n).vco = s.vco := rfl
@[simp] theorem State.put_tileAt (f : Fld) (n : Nat) : (s.put f n).tileAt = s.tileAt := rfl
@[simp] theorem State.put_time (f : Fld) (n : Nat) : (s.put f n).time = s.time := rfl
@[simp] theorem State.put_uncertain (f : Fld) (n : Nat) : (s.put f n).uncertain = s.uncertain := rfl
@[simp] theorem State.put_spans (f : Fld) (n : Nat) : (s.put f n).spans = s.spans := rfl
@[simp] theorem State.put_spanFrom (f : Fld) (n : Nat) : (s.put f n).spanFrom = s.spanFrom := rfl
@[simp] theorem State.put_ticks (f : Fld) (n : Nat) : (s.put f n).ticks = s.ticks := rfl
@[simp] theorem State.put_sleepNs (f : Fld) (n : Nat) : (s.put f n).sleepNs = s.sleepNs := rfl
@[simp] theorem State.put_com (f : Fld) (n : Nat) : (s.put f n).com = s.com := rfl
@[simp] theorem State.put_queues (f : Fld) (n : Nat) : (s.put f n).queues = s.queues := rfl
@[simp] theorem State.put_ladles (f : Fld) (n : Nat) : (s.put f n).ladles = s.ladles := rfl
@[simp] theorem State.put_seqs (f : Fld) (n : Nat) : (s.put f n).seqs = s.seqs := rfl
@[simp] theorem State.put_log (f : Fld) (n : Nat) : (s.put f n).log = s.log := rfl
@[simp] theorem State.put_logUnsent (f : Fld) (n : Nat) : (s.put f n).logUnsent = s.logUnsent := rfl
@[simp] theorem State.put_userLts (f : Fld) (n : Nat) : (s.put f n).userLts = s.userLts := rfl
@[simp] theorem State.put_acts (f : Fld) (n : Nat) : (s.put f n).acts = s.acts := rfl
@[simp] theorem State.put_actOrder (f : Fld) (n : Nat) : (s.put f n).actOrder = s.actOrder := rfl
@[simp] theorem State.put_outs (f : Fld) (n : Nat) : (s.put f n).outs = s.outs := rfl
@[simp] theorem State.put_evts (f : Fld) (n : Nat) : (s.put f n).evts = s.evts := rfl
@[simp] theorem State.put_caps (f : Fld) (n : Nat) : (s.put f n).caps = s.caps := rfl
@[simp] theorem State.put_encs (f : Fld) (n : Nat) : (s.put f n).encs = s.encs := rfl
@[simp] theorem State.put_srcs (f : Fld) (n : Nat) : (s.put f n).srcs = s.srcs := rfl
@[simp] theorem State.put_timers (f : Fld) (n : Nat) : (s.put f n).timers = s.timers := rfl
@[simp] theorem State.put_herd (f : Fld) (n : Nat) : (s.put f n).herd = s.herd := rfl
@[simp] theorem State.put_churn (f : Fld) (n : Nat) : (s.put f n).churn = s.churn := rfl
@[simp] theorem State.put_env (f : Fld) (n : Nat) : (s.put f n).env = s.env := rfl
@[simp] theorem State.put_cores (f : Fld) (n : Nat) : (s.put f n).cores = s.cores := rfl
@[simp] theorem State.put_cells (f : Fld) (n : Nat) : (s.put f n).cells = s.cells := rfl
@[simp] theorem State.put_chans (f : Fld) (n : Nat) : (s.put f n).chans = s.chans := rfl
@[simp] theorem State.put_moduleAt (f : Fld) (n : Nat) : (s.put f n).moduleAt = s.moduleAt := rfl
@[simp] theorem State.put_mainsMoved (f : Fld) (n : Nat) : (s.put f n).mainsMoved = s.mainsMoved := rfl
@[simp] theorem State.put_mainsRun (f : Fld) (n : Nat) : (s.put f n).mainsRun = s.mainsRun := rfl
@[simp] theorem State.put_mainsEdges (f : Fld) (n : Nat) : (s.put f n).mainsEdges = s.mainsEdges := rfl
@[simp] theorem State.put_tiles (f : Fld) (n : Nat) : (s.put f n).tiles = s.tiles := rfl
@[simp] theorem State.put_stopped (f : Fld) (n : Nat) : (s.put f n).stopped = s.stopped := rfl
@[simp] theorem State.put_routes (f : Fld) (n : Nat) : (s.put f n).routes = s.routes := rfl
@[simp] theorem State.put_key (f : Fld) (n : Nat) : (s.put f n).key = s.key := rfl
@[simp] theorem State.put_co (f : Fld) (n : Nat) : (s.put f n).co = s.co := rfl
@[simp] theorem State.put_tws (f : Fld) (n : Nat) : (s.put f n).tws = s.tws := rfl
@[simp] theorem State.put_link (f : Fld) (n : Nat) : (s.put f n).link = s.link := rfl
@[simp] theorem State.put_pwr (f : Fld) (n : Nat) : (s.put f n).pwr = s.pwr := rfl
@[simp] theorem State.put_thr (f : Fld) (n : Nat) : (s.put f n).thr = s.thr := rfl
@[simp] theorem State.put_watch (f : Fld) (n : Nat) : (s.put f n).watch = s.watch := rfl
@[simp] theorem State.put_boot (f : Fld) (n : Nat) : (s.put f n).boot = s.boot := rfl
@[simp] theorem State.put_host (f : Fld) (n : Nat) : (s.put f n).host = s.host := rfl
@[simp] theorem State.put_svc (f : Fld) (n : Nat) : (s.put f n).svc = s.svc := rfl
@[simp] theorem State.put_freeCtr (f : Fld) (n : Nat) : (s.put f n).freeCtr = s.freeCtr := rfl
@[simp] theorem State.put_out (f : Fld) (n : Nat) : (s.put f n).out = s.out := rfl
@[simp] theorem State.put_pending (f : Fld) (n : Nat) : (s.put f n).pending = s.pending := rfl

@[simp] theorem State.putB_booting (f : Fld) (b : Bool) : (s.putB f b).booting = s.booting := rfl
@[simp] theorem State.putB_mem (f : Fld) (b : Bool) : (s.putB f b).mem = s.mem := rfl
@[simp] theorem State.putB_lines (f : Fld) (b : Bool) : (s.putB f b).lines = s.lines := rfl
@[simp] theorem State.putB_scrubs (f : Fld) (b : Bool) : (s.putB f b).scrubs = s.scrubs := rfl
@[simp] theorem State.putB_lt (f : Fld) (b : Bool) : (s.putB f b).lt = s.lt := rfl
@[simp] theorem State.putB_vco (f : Fld) (b : Bool) : (s.putB f b).vco = s.vco := rfl
@[simp] theorem State.putB_tileAt (f : Fld) (b : Bool) : (s.putB f b).tileAt = s.tileAt := rfl
@[simp] theorem State.putB_time (f : Fld) (b : Bool) : (s.putB f b).time = s.time := rfl
@[simp] theorem State.putB_uncertain (f : Fld) (b : Bool) : (s.putB f b).uncertain = s.uncertain := rfl
@[simp] theorem State.putB_spans (f : Fld) (b : Bool) : (s.putB f b).spans = s.spans := rfl
@[simp] theorem State.putB_spanFrom (f : Fld) (b : Bool) : (s.putB f b).spanFrom = s.spanFrom := rfl
@[simp] theorem State.putB_ticks (f : Fld) (b : Bool) : (s.putB f b).ticks = s.ticks := rfl
@[simp] theorem State.putB_sleepNs (f : Fld) (b : Bool) : (s.putB f b).sleepNs = s.sleepNs := rfl
@[simp] theorem State.putB_com (f : Fld) (b : Bool) : (s.putB f b).com = s.com := rfl
@[simp] theorem State.putB_queues (f : Fld) (b : Bool) : (s.putB f b).queues = s.queues := rfl
@[simp] theorem State.putB_ladles (f : Fld) (b : Bool) : (s.putB f b).ladles = s.ladles := rfl
@[simp] theorem State.putB_seqs (f : Fld) (b : Bool) : (s.putB f b).seqs = s.seqs := rfl
@[simp] theorem State.putB_log (f : Fld) (b : Bool) : (s.putB f b).log = s.log := rfl
@[simp] theorem State.putB_logUnsent (f : Fld) (b : Bool) : (s.putB f b).logUnsent = s.logUnsent := rfl
@[simp] theorem State.putB_userLts (f : Fld) (b : Bool) : (s.putB f b).userLts = s.userLts := rfl
@[simp] theorem State.putB_acts (f : Fld) (b : Bool) : (s.putB f b).acts = s.acts := rfl
@[simp] theorem State.putB_actOrder (f : Fld) (b : Bool) : (s.putB f b).actOrder = s.actOrder := rfl
@[simp] theorem State.putB_outs (f : Fld) (b : Bool) : (s.putB f b).outs = s.outs := rfl
@[simp] theorem State.putB_evts (f : Fld) (b : Bool) : (s.putB f b).evts = s.evts := rfl
@[simp] theorem State.putB_caps (f : Fld) (b : Bool) : (s.putB f b).caps = s.caps := rfl
@[simp] theorem State.putB_encs (f : Fld) (b : Bool) : (s.putB f b).encs = s.encs := rfl
@[simp] theorem State.putB_srcs (f : Fld) (b : Bool) : (s.putB f b).srcs = s.srcs := rfl
@[simp] theorem State.putB_timers (f : Fld) (b : Bool) : (s.putB f b).timers = s.timers := rfl
@[simp] theorem State.putB_herd (f : Fld) (b : Bool) : (s.putB f b).herd = s.herd := rfl
@[simp] theorem State.putB_churn (f : Fld) (b : Bool) : (s.putB f b).churn = s.churn := rfl
@[simp] theorem State.putB_env (f : Fld) (b : Bool) : (s.putB f b).env = s.env := rfl
@[simp] theorem State.putB_cores (f : Fld) (b : Bool) : (s.putB f b).cores = s.cores := rfl
@[simp] theorem State.putB_cells (f : Fld) (b : Bool) : (s.putB f b).cells = s.cells := rfl
@[simp] theorem State.putB_chans (f : Fld) (b : Bool) : (s.putB f b).chans = s.chans := rfl
@[simp] theorem State.putB_moduleAt (f : Fld) (b : Bool) : (s.putB f b).moduleAt = s.moduleAt := rfl
@[simp] theorem State.putB_mainsMoved (f : Fld) (b : Bool) : (s.putB f b).mainsMoved = s.mainsMoved := rfl
@[simp] theorem State.putB_mainsRun (f : Fld) (b : Bool) : (s.putB f b).mainsRun = s.mainsRun := rfl
@[simp] theorem State.putB_mainsEdges (f : Fld) (b : Bool) : (s.putB f b).mainsEdges = s.mainsEdges := rfl
@[simp] theorem State.putB_tiles (f : Fld) (b : Bool) : (s.putB f b).tiles = s.tiles := rfl
@[simp] theorem State.putB_stopped (f : Fld) (b : Bool) : (s.putB f b).stopped = s.stopped := rfl
@[simp] theorem State.putB_routes (f : Fld) (b : Bool) : (s.putB f b).routes = s.routes := rfl
@[simp] theorem State.putB_key (f : Fld) (b : Bool) : (s.putB f b).key = s.key := rfl
@[simp] theorem State.putB_co (f : Fld) (b : Bool) : (s.putB f b).co = s.co := rfl
@[simp] theorem State.putB_tws (f : Fld) (b : Bool) : (s.putB f b).tws = s.tws := rfl
@[simp] theorem State.putB_link (f : Fld) (b : Bool) : (s.putB f b).link = s.link := rfl
@[simp] theorem State.putB_pwr (f : Fld) (b : Bool) : (s.putB f b).pwr = s.pwr := rfl
@[simp] theorem State.putB_thr (f : Fld) (b : Bool) : (s.putB f b).thr = s.thr := rfl
@[simp] theorem State.putB_watch (f : Fld) (b : Bool) : (s.putB f b).watch = s.watch := rfl
@[simp] theorem State.putB_boot (f : Fld) (b : Bool) : (s.putB f b).boot = s.boot := rfl
@[simp] theorem State.putB_host (f : Fld) (b : Bool) : (s.putB f b).host = s.host := rfl
@[simp] theorem State.putB_svc (f : Fld) (b : Bool) : (s.putB f b).svc = s.svc := rfl
@[simp] theorem State.putB_freeCtr (f : Fld) (b : Bool) : (s.putB f b).freeCtr = s.freeCtr := rfl
@[simp] theorem State.putB_out (f : Fld) (b : Bool) : (s.putB f b).out = s.out := rfl
@[simp] theorem State.putB_pending (f : Fld) (b : Bool) : (s.putB f b).pending = s.pending := rfl

@[simp] theorem State.setBit_booting (f : Fld) (n : Nat) : (s.setBit f n).booting = s.booting := rfl
@[simp] theorem State.setBit_mem (f : Fld) (n : Nat) : (s.setBit f n).mem = s.mem := rfl
@[simp] theorem State.setBit_lines (f : Fld) (n : Nat) : (s.setBit f n).lines = s.lines := rfl
@[simp] theorem State.setBit_scrubs (f : Fld) (n : Nat) : (s.setBit f n).scrubs = s.scrubs := rfl
@[simp] theorem State.setBit_lt (f : Fld) (n : Nat) : (s.setBit f n).lt = s.lt := rfl
@[simp] theorem State.setBit_vco (f : Fld) (n : Nat) : (s.setBit f n).vco = s.vco := rfl
@[simp] theorem State.setBit_tileAt (f : Fld) (n : Nat) : (s.setBit f n).tileAt = s.tileAt := rfl
@[simp] theorem State.setBit_time (f : Fld) (n : Nat) : (s.setBit f n).time = s.time := rfl
@[simp] theorem State.setBit_uncertain (f : Fld) (n : Nat) : (s.setBit f n).uncertain = s.uncertain := rfl
@[simp] theorem State.setBit_spans (f : Fld) (n : Nat) : (s.setBit f n).spans = s.spans := rfl
@[simp] theorem State.setBit_spanFrom (f : Fld) (n : Nat) : (s.setBit f n).spanFrom = s.spanFrom := rfl
@[simp] theorem State.setBit_ticks (f : Fld) (n : Nat) : (s.setBit f n).ticks = s.ticks := rfl
@[simp] theorem State.setBit_sleepNs (f : Fld) (n : Nat) : (s.setBit f n).sleepNs = s.sleepNs := rfl
@[simp] theorem State.setBit_com (f : Fld) (n : Nat) : (s.setBit f n).com = s.com := rfl
@[simp] theorem State.setBit_queues (f : Fld) (n : Nat) : (s.setBit f n).queues = s.queues := rfl
@[simp] theorem State.setBit_ladles (f : Fld) (n : Nat) : (s.setBit f n).ladles = s.ladles := rfl
@[simp] theorem State.setBit_seqs (f : Fld) (n : Nat) : (s.setBit f n).seqs = s.seqs := rfl
@[simp] theorem State.setBit_log (f : Fld) (n : Nat) : (s.setBit f n).log = s.log := rfl
@[simp] theorem State.setBit_logUnsent (f : Fld) (n : Nat) : (s.setBit f n).logUnsent = s.logUnsent := rfl
@[simp] theorem State.setBit_userLts (f : Fld) (n : Nat) : (s.setBit f n).userLts = s.userLts := rfl
@[simp] theorem State.setBit_acts (f : Fld) (n : Nat) : (s.setBit f n).acts = s.acts := rfl
@[simp] theorem State.setBit_actOrder (f : Fld) (n : Nat) : (s.setBit f n).actOrder = s.actOrder := rfl
@[simp] theorem State.setBit_outs (f : Fld) (n : Nat) : (s.setBit f n).outs = s.outs := rfl
@[simp] theorem State.setBit_evts (f : Fld) (n : Nat) : (s.setBit f n).evts = s.evts := rfl
@[simp] theorem State.setBit_caps (f : Fld) (n : Nat) : (s.setBit f n).caps = s.caps := rfl
@[simp] theorem State.setBit_encs (f : Fld) (n : Nat) : (s.setBit f n).encs = s.encs := rfl
@[simp] theorem State.setBit_srcs (f : Fld) (n : Nat) : (s.setBit f n).srcs = s.srcs := rfl
@[simp] theorem State.setBit_timers (f : Fld) (n : Nat) : (s.setBit f n).timers = s.timers := rfl
@[simp] theorem State.setBit_herd (f : Fld) (n : Nat) : (s.setBit f n).herd = s.herd := rfl
@[simp] theorem State.setBit_churn (f : Fld) (n : Nat) : (s.setBit f n).churn = s.churn := rfl
@[simp] theorem State.setBit_env (f : Fld) (n : Nat) : (s.setBit f n).env = s.env := rfl
@[simp] theorem State.setBit_cores (f : Fld) (n : Nat) : (s.setBit f n).cores = s.cores := rfl
@[simp] theorem State.setBit_cells (f : Fld) (n : Nat) : (s.setBit f n).cells = s.cells := rfl
@[simp] theorem State.setBit_chans (f : Fld) (n : Nat) : (s.setBit f n).chans = s.chans := rfl
@[simp] theorem State.setBit_moduleAt (f : Fld) (n : Nat) : (s.setBit f n).moduleAt = s.moduleAt := rfl
@[simp] theorem State.setBit_mainsMoved (f : Fld) (n : Nat) : (s.setBit f n).mainsMoved = s.mainsMoved := rfl
@[simp] theorem State.setBit_mainsRun (f : Fld) (n : Nat) : (s.setBit f n).mainsRun = s.mainsRun := rfl
@[simp] theorem State.setBit_mainsEdges (f : Fld) (n : Nat) : (s.setBit f n).mainsEdges = s.mainsEdges := rfl
@[simp] theorem State.setBit_tiles (f : Fld) (n : Nat) : (s.setBit f n).tiles = s.tiles := rfl
@[simp] theorem State.setBit_stopped (f : Fld) (n : Nat) : (s.setBit f n).stopped = s.stopped := rfl
@[simp] theorem State.setBit_routes (f : Fld) (n : Nat) : (s.setBit f n).routes = s.routes := rfl
@[simp] theorem State.setBit_key (f : Fld) (n : Nat) : (s.setBit f n).key = s.key := rfl
@[simp] theorem State.setBit_co (f : Fld) (n : Nat) : (s.setBit f n).co = s.co := rfl
@[simp] theorem State.setBit_tws (f : Fld) (n : Nat) : (s.setBit f n).tws = s.tws := rfl
@[simp] theorem State.setBit_link (f : Fld) (n : Nat) : (s.setBit f n).link = s.link := rfl
@[simp] theorem State.setBit_pwr (f : Fld) (n : Nat) : (s.setBit f n).pwr = s.pwr := rfl
@[simp] theorem State.setBit_thr (f : Fld) (n : Nat) : (s.setBit f n).thr = s.thr := rfl
@[simp] theorem State.setBit_watch (f : Fld) (n : Nat) : (s.setBit f n).watch = s.watch := rfl
@[simp] theorem State.setBit_boot (f : Fld) (n : Nat) : (s.setBit f n).boot = s.boot := rfl
@[simp] theorem State.setBit_host (f : Fld) (n : Nat) : (s.setBit f n).host = s.host := rfl
@[simp] theorem State.setBit_svc (f : Fld) (n : Nat) : (s.setBit f n).svc = s.svc := rfl
@[simp] theorem State.setBit_freeCtr (f : Fld) (n : Nat) : (s.setBit f n).freeCtr = s.freeCtr := rfl
@[simp] theorem State.setBit_out (f : Fld) (n : Nat) : (s.setBit f n).out = s.out := rfl
@[simp] theorem State.setBit_pending (f : Fld) (n : Nat) : (s.setBit f n).pending = s.pending := rfl

@[simp] theorem State.incSat_booting (f : Fld) (n : Nat) : (s.incSat f n).booting = s.booting := rfl
@[simp] theorem State.incSat_mem (f : Fld) (n : Nat) : (s.incSat f n).mem = s.mem := rfl
@[simp] theorem State.incSat_lines (f : Fld) (n : Nat) : (s.incSat f n).lines = s.lines := rfl
@[simp] theorem State.incSat_scrubs (f : Fld) (n : Nat) : (s.incSat f n).scrubs = s.scrubs := rfl
@[simp] theorem State.incSat_lt (f : Fld) (n : Nat) : (s.incSat f n).lt = s.lt := rfl
@[simp] theorem State.incSat_vco (f : Fld) (n : Nat) : (s.incSat f n).vco = s.vco := rfl
@[simp] theorem State.incSat_tileAt (f : Fld) (n : Nat) : (s.incSat f n).tileAt = s.tileAt := rfl
@[simp] theorem State.incSat_time (f : Fld) (n : Nat) : (s.incSat f n).time = s.time := rfl
@[simp] theorem State.incSat_uncertain (f : Fld) (n : Nat) : (s.incSat f n).uncertain = s.uncertain := rfl
@[simp] theorem State.incSat_spans (f : Fld) (n : Nat) : (s.incSat f n).spans = s.spans := rfl
@[simp] theorem State.incSat_spanFrom (f : Fld) (n : Nat) : (s.incSat f n).spanFrom = s.spanFrom := rfl
@[simp] theorem State.incSat_ticks (f : Fld) (n : Nat) : (s.incSat f n).ticks = s.ticks := rfl
@[simp] theorem State.incSat_sleepNs (f : Fld) (n : Nat) : (s.incSat f n).sleepNs = s.sleepNs := rfl
@[simp] theorem State.incSat_com (f : Fld) (n : Nat) : (s.incSat f n).com = s.com := rfl
@[simp] theorem State.incSat_queues (f : Fld) (n : Nat) : (s.incSat f n).queues = s.queues := rfl
@[simp] theorem State.incSat_ladles (f : Fld) (n : Nat) : (s.incSat f n).ladles = s.ladles := rfl
@[simp] theorem State.incSat_seqs (f : Fld) (n : Nat) : (s.incSat f n).seqs = s.seqs := rfl
@[simp] theorem State.incSat_log (f : Fld) (n : Nat) : (s.incSat f n).log = s.log := rfl
@[simp] theorem State.incSat_logUnsent (f : Fld) (n : Nat) : (s.incSat f n).logUnsent = s.logUnsent := rfl
@[simp] theorem State.incSat_userLts (f : Fld) (n : Nat) : (s.incSat f n).userLts = s.userLts := rfl
@[simp] theorem State.incSat_acts (f : Fld) (n : Nat) : (s.incSat f n).acts = s.acts := rfl
@[simp] theorem State.incSat_actOrder (f : Fld) (n : Nat) : (s.incSat f n).actOrder = s.actOrder := rfl
@[simp] theorem State.incSat_outs (f : Fld) (n : Nat) : (s.incSat f n).outs = s.outs := rfl
@[simp] theorem State.incSat_evts (f : Fld) (n : Nat) : (s.incSat f n).evts = s.evts := rfl
@[simp] theorem State.incSat_caps (f : Fld) (n : Nat) : (s.incSat f n).caps = s.caps := rfl
@[simp] theorem State.incSat_encs (f : Fld) (n : Nat) : (s.incSat f n).encs = s.encs := rfl
@[simp] theorem State.incSat_srcs (f : Fld) (n : Nat) : (s.incSat f n).srcs = s.srcs := rfl
@[simp] theorem State.incSat_timers (f : Fld) (n : Nat) : (s.incSat f n).timers = s.timers := rfl
@[simp] theorem State.incSat_herd (f : Fld) (n : Nat) : (s.incSat f n).herd = s.herd := rfl
@[simp] theorem State.incSat_churn (f : Fld) (n : Nat) : (s.incSat f n).churn = s.churn := rfl
@[simp] theorem State.incSat_env (f : Fld) (n : Nat) : (s.incSat f n).env = s.env := rfl
@[simp] theorem State.incSat_cores (f : Fld) (n : Nat) : (s.incSat f n).cores = s.cores := rfl
@[simp] theorem State.incSat_cells (f : Fld) (n : Nat) : (s.incSat f n).cells = s.cells := rfl
@[simp] theorem State.incSat_chans (f : Fld) (n : Nat) : (s.incSat f n).chans = s.chans := rfl
@[simp] theorem State.incSat_moduleAt (f : Fld) (n : Nat) : (s.incSat f n).moduleAt = s.moduleAt := rfl
@[simp] theorem State.incSat_mainsMoved (f : Fld) (n : Nat) : (s.incSat f n).mainsMoved = s.mainsMoved := rfl
@[simp] theorem State.incSat_mainsRun (f : Fld) (n : Nat) : (s.incSat f n).mainsRun = s.mainsRun := rfl
@[simp] theorem State.incSat_mainsEdges (f : Fld) (n : Nat) : (s.incSat f n).mainsEdges = s.mainsEdges := rfl
@[simp] theorem State.incSat_tiles (f : Fld) (n : Nat) : (s.incSat f n).tiles = s.tiles := rfl
@[simp] theorem State.incSat_stopped (f : Fld) (n : Nat) : (s.incSat f n).stopped = s.stopped := rfl
@[simp] theorem State.incSat_routes (f : Fld) (n : Nat) : (s.incSat f n).routes = s.routes := rfl
@[simp] theorem State.incSat_key (f : Fld) (n : Nat) : (s.incSat f n).key = s.key := rfl
@[simp] theorem State.incSat_co (f : Fld) (n : Nat) : (s.incSat f n).co = s.co := rfl
@[simp] theorem State.incSat_tws (f : Fld) (n : Nat) : (s.incSat f n).tws = s.tws := rfl
@[simp] theorem State.incSat_link (f : Fld) (n : Nat) : (s.incSat f n).link = s.link := rfl
@[simp] theorem State.incSat_pwr (f : Fld) (n : Nat) : (s.incSat f n).pwr = s.pwr := rfl
@[simp] theorem State.incSat_thr (f : Fld) (n : Nat) : (s.incSat f n).thr = s.thr := rfl
@[simp] theorem State.incSat_watch (f : Fld) (n : Nat) : (s.incSat f n).watch = s.watch := rfl
@[simp] theorem State.incSat_boot (f : Fld) (n : Nat) : (s.incSat f n).boot = s.boot := rfl
@[simp] theorem State.incSat_host (f : Fld) (n : Nat) : (s.incSat f n).host = s.host := rfl
@[simp] theorem State.incSat_svc (f : Fld) (n : Nat) : (s.incSat f n).svc = s.svc := rfl
@[simp] theorem State.incSat_freeCtr (f : Fld) (n : Nat) : (s.incSat f n).freeCtr = s.freeCtr := rfl
@[simp] theorem State.incSat_out (f : Fld) (n : Nat) : (s.incSat f n).out = s.out := rfl
@[simp] theorem State.incSat_pending (f : Fld) (n : Nat) : (s.incSat f n).pending = s.pending := rfl

@[simp] theorem State.setByte_booting (a : Nat) (b : Byte) : (s.setByte a b).booting = s.booting := rfl
@[simp] theorem State.setByte_regs (a : Nat) (b : Byte) : (s.setByte a b).regs = s.regs := rfl
@[simp] theorem State.setByte_lines (a : Nat) (b : Byte) : (s.setByte a b).lines = s.lines := rfl
@[simp] theorem State.setByte_scrubs (a : Nat) (b : Byte) : (s.setByte a b).scrubs = s.scrubs := rfl
@[simp] theorem State.setByte_lt (a : Nat) (b : Byte) : (s.setByte a b).lt = s.lt := rfl
@[simp] theorem State.setByte_vco (a : Nat) (b : Byte) : (s.setByte a b).vco = s.vco := rfl
@[simp] theorem State.setByte_tileAt (a : Nat) (b : Byte) : (s.setByte a b).tileAt = s.tileAt := rfl
@[simp] theorem State.setByte_time (a : Nat) (b : Byte) : (s.setByte a b).time = s.time := rfl
@[simp] theorem State.setByte_uncertain (a : Nat) (b : Byte) : (s.setByte a b).uncertain = s.uncertain := rfl
@[simp] theorem State.setByte_spans (a : Nat) (b : Byte) : (s.setByte a b).spans = s.spans := rfl
@[simp] theorem State.setByte_spanFrom (a : Nat) (b : Byte) : (s.setByte a b).spanFrom = s.spanFrom := rfl
@[simp] theorem State.setByte_ticks (a : Nat) (b : Byte) : (s.setByte a b).ticks = s.ticks := rfl
@[simp] theorem State.setByte_sleepNs (a : Nat) (b : Byte) : (s.setByte a b).sleepNs = s.sleepNs := rfl
@[simp] theorem State.setByte_com (a : Nat) (b : Byte) : (s.setByte a b).com = s.com := rfl
@[simp] theorem State.setByte_queues (a : Nat) (b : Byte) : (s.setByte a b).queues = s.queues := rfl
@[simp] theorem State.setByte_ladles (a : Nat) (b : Byte) : (s.setByte a b).ladles = s.ladles := rfl
@[simp] theorem State.setByte_seqs (a : Nat) (b : Byte) : (s.setByte a b).seqs = s.seqs := rfl
@[simp] theorem State.setByte_log (a : Nat) (b : Byte) : (s.setByte a b).log = s.log := rfl
@[simp] theorem State.setByte_logUnsent (a : Nat) (b : Byte) : (s.setByte a b).logUnsent = s.logUnsent := rfl
@[simp] theorem State.setByte_userLts (a : Nat) (b : Byte) : (s.setByte a b).userLts = s.userLts := rfl
@[simp] theorem State.setByte_acts (a : Nat) (b : Byte) : (s.setByte a b).acts = s.acts := rfl
@[simp] theorem State.setByte_actOrder (a : Nat) (b : Byte) : (s.setByte a b).actOrder = s.actOrder := rfl
@[simp] theorem State.setByte_outs (a : Nat) (b : Byte) : (s.setByte a b).outs = s.outs := rfl
@[simp] theorem State.setByte_evts (a : Nat) (b : Byte) : (s.setByte a b).evts = s.evts := rfl
@[simp] theorem State.setByte_caps (a : Nat) (b : Byte) : (s.setByte a b).caps = s.caps := rfl
@[simp] theorem State.setByte_encs (a : Nat) (b : Byte) : (s.setByte a b).encs = s.encs := rfl
@[simp] theorem State.setByte_srcs (a : Nat) (b : Byte) : (s.setByte a b).srcs = s.srcs := rfl
@[simp] theorem State.setByte_timers (a : Nat) (b : Byte) : (s.setByte a b).timers = s.timers := rfl
@[simp] theorem State.setByte_herd (a : Nat) (b : Byte) : (s.setByte a b).herd = s.herd := rfl
@[simp] theorem State.setByte_churn (a : Nat) (b : Byte) : (s.setByte a b).churn = s.churn := rfl
@[simp] theorem State.setByte_env (a : Nat) (b : Byte) : (s.setByte a b).env = s.env := rfl
@[simp] theorem State.setByte_cores (a : Nat) (b : Byte) : (s.setByte a b).cores = s.cores := rfl
@[simp] theorem State.setByte_cells (a : Nat) (b : Byte) : (s.setByte a b).cells = s.cells := rfl
@[simp] theorem State.setByte_chans (a : Nat) (b : Byte) : (s.setByte a b).chans = s.chans := rfl
@[simp] theorem State.setByte_moduleAt (a : Nat) (b : Byte) : (s.setByte a b).moduleAt = s.moduleAt := rfl
@[simp] theorem State.setByte_mainsMoved (a : Nat) (b : Byte) : (s.setByte a b).mainsMoved = s.mainsMoved := rfl
@[simp] theorem State.setByte_mainsRun (a : Nat) (b : Byte) : (s.setByte a b).mainsRun = s.mainsRun := rfl
@[simp] theorem State.setByte_mainsEdges (a : Nat) (b : Byte) : (s.setByte a b).mainsEdges = s.mainsEdges := rfl
@[simp] theorem State.setByte_tiles (a : Nat) (b : Byte) : (s.setByte a b).tiles = s.tiles := rfl
@[simp] theorem State.setByte_stopped (a : Nat) (b : Byte) : (s.setByte a b).stopped = s.stopped := rfl
@[simp] theorem State.setByte_routes (a : Nat) (b : Byte) : (s.setByte a b).routes = s.routes := rfl
@[simp] theorem State.setByte_key (a : Nat) (b : Byte) : (s.setByte a b).key = s.key := rfl
@[simp] theorem State.setByte_co (a : Nat) (b : Byte) : (s.setByte a b).co = s.co := rfl
@[simp] theorem State.setByte_tws (a : Nat) (b : Byte) : (s.setByte a b).tws = s.tws := rfl
@[simp] theorem State.setByte_link (a : Nat) (b : Byte) : (s.setByte a b).link = s.link := rfl
@[simp] theorem State.setByte_pwr (a : Nat) (b : Byte) : (s.setByte a b).pwr = s.pwr := rfl
@[simp] theorem State.setByte_thr (a : Nat) (b : Byte) : (s.setByte a b).thr = s.thr := rfl
@[simp] theorem State.setByte_watch (a : Nat) (b : Byte) : (s.setByte a b).watch = s.watch := rfl
@[simp] theorem State.setByte_boot (a : Nat) (b : Byte) : (s.setByte a b).boot = s.boot := rfl
@[simp] theorem State.setByte_host (a : Nat) (b : Byte) : (s.setByte a b).host = s.host := rfl
@[simp] theorem State.setByte_svc (a : Nat) (b : Byte) : (s.setByte a b).svc = s.svc := rfl
@[simp] theorem State.setByte_freeCtr (a : Nat) (b : Byte) : (s.setByte a b).freeCtr = s.freeCtr := rfl
@[simp] theorem State.setByte_out (a : Nat) (b : Byte) : (s.setByte a b).out = s.out := rfl
@[simp] theorem State.setByte_pending (a : Nat) (b : Byte) : (s.setByte a b).pending = s.pending := rfl

@[simp] theorem State.memCut_booting (p : Nat → Bool) : (s.memCut p).booting = s.booting := rfl
@[simp] theorem State.memCut_regs (p : Nat → Bool) : (s.memCut p).regs = s.regs := rfl
@[simp] theorem State.memCut_lines (p : Nat → Bool) : (s.memCut p).lines = s.lines := rfl
@[simp] theorem State.memCut_scrubs (p : Nat → Bool) : (s.memCut p).scrubs = s.scrubs := rfl
@[simp] theorem State.memCut_lt (p : Nat → Bool) : (s.memCut p).lt = s.lt := rfl
@[simp] theorem State.memCut_vco (p : Nat → Bool) : (s.memCut p).vco = s.vco := rfl
@[simp] theorem State.memCut_tileAt (p : Nat → Bool) : (s.memCut p).tileAt = s.tileAt := rfl
@[simp] theorem State.memCut_time (p : Nat → Bool) : (s.memCut p).time = s.time := rfl
@[simp] theorem State.memCut_uncertain (p : Nat → Bool) : (s.memCut p).uncertain = s.uncertain := rfl
@[simp] theorem State.memCut_spans (p : Nat → Bool) : (s.memCut p).spans = s.spans := rfl
@[simp] theorem State.memCut_spanFrom (p : Nat → Bool) : (s.memCut p).spanFrom = s.spanFrom := rfl
@[simp] theorem State.memCut_ticks (p : Nat → Bool) : (s.memCut p).ticks = s.ticks := rfl
@[simp] theorem State.memCut_sleepNs (p : Nat → Bool) : (s.memCut p).sleepNs = s.sleepNs := rfl
@[simp] theorem State.memCut_com (p : Nat → Bool) : (s.memCut p).com = s.com := rfl
@[simp] theorem State.memCut_queues (p : Nat → Bool) : (s.memCut p).queues = s.queues := rfl
@[simp] theorem State.memCut_ladles (p : Nat → Bool) : (s.memCut p).ladles = s.ladles := rfl
@[simp] theorem State.memCut_seqs (p : Nat → Bool) : (s.memCut p).seqs = s.seqs := rfl
@[simp] theorem State.memCut_log (p : Nat → Bool) : (s.memCut p).log = s.log := rfl
@[simp] theorem State.memCut_logUnsent (p : Nat → Bool) : (s.memCut p).logUnsent = s.logUnsent := rfl
@[simp] theorem State.memCut_userLts (p : Nat → Bool) : (s.memCut p).userLts = s.userLts := rfl
@[simp] theorem State.memCut_acts (p : Nat → Bool) : (s.memCut p).acts = s.acts := rfl
@[simp] theorem State.memCut_actOrder (p : Nat → Bool) : (s.memCut p).actOrder = s.actOrder := rfl
@[simp] theorem State.memCut_outs (p : Nat → Bool) : (s.memCut p).outs = s.outs := rfl
@[simp] theorem State.memCut_evts (p : Nat → Bool) : (s.memCut p).evts = s.evts := rfl
@[simp] theorem State.memCut_caps (p : Nat → Bool) : (s.memCut p).caps = s.caps := rfl
@[simp] theorem State.memCut_encs (p : Nat → Bool) : (s.memCut p).encs = s.encs := rfl
@[simp] theorem State.memCut_srcs (p : Nat → Bool) : (s.memCut p).srcs = s.srcs := rfl
@[simp] theorem State.memCut_timers (p : Nat → Bool) : (s.memCut p).timers = s.timers := rfl
@[simp] theorem State.memCut_herd (p : Nat → Bool) : (s.memCut p).herd = s.herd := rfl
@[simp] theorem State.memCut_churn (p : Nat → Bool) : (s.memCut p).churn = s.churn := rfl
@[simp] theorem State.memCut_env (p : Nat → Bool) : (s.memCut p).env = s.env := rfl
@[simp] theorem State.memCut_cores (p : Nat → Bool) : (s.memCut p).cores = s.cores := rfl
@[simp] theorem State.memCut_cells (p : Nat → Bool) : (s.memCut p).cells = s.cells := rfl
@[simp] theorem State.memCut_chans (p : Nat → Bool) : (s.memCut p).chans = s.chans := rfl
@[simp] theorem State.memCut_moduleAt (p : Nat → Bool) : (s.memCut p).moduleAt = s.moduleAt := rfl
@[simp] theorem State.memCut_mainsMoved (p : Nat → Bool) : (s.memCut p).mainsMoved = s.mainsMoved := rfl
@[simp] theorem State.memCut_mainsRun (p : Nat → Bool) : (s.memCut p).mainsRun = s.mainsRun := rfl
@[simp] theorem State.memCut_mainsEdges (p : Nat → Bool) : (s.memCut p).mainsEdges = s.mainsEdges := rfl
@[simp] theorem State.memCut_tiles (p : Nat → Bool) : (s.memCut p).tiles = s.tiles := rfl
@[simp] theorem State.memCut_stopped (p : Nat → Bool) : (s.memCut p).stopped = s.stopped := rfl
@[simp] theorem State.memCut_routes (p : Nat → Bool) : (s.memCut p).routes = s.routes := rfl
@[simp] theorem State.memCut_key (p : Nat → Bool) : (s.memCut p).key = s.key := rfl
@[simp] theorem State.memCut_co (p : Nat → Bool) : (s.memCut p).co = s.co := rfl
@[simp] theorem State.memCut_tws (p : Nat → Bool) : (s.memCut p).tws = s.tws := rfl
@[simp] theorem State.memCut_link (p : Nat → Bool) : (s.memCut p).link = s.link := rfl
@[simp] theorem State.memCut_pwr (p : Nat → Bool) : (s.memCut p).pwr = s.pwr := rfl
@[simp] theorem State.memCut_thr (p : Nat → Bool) : (s.memCut p).thr = s.thr := rfl
@[simp] theorem State.memCut_watch (p : Nat → Bool) : (s.memCut p).watch = s.watch := rfl
@[simp] theorem State.memCut_boot (p : Nat → Bool) : (s.memCut p).boot = s.boot := rfl
@[simp] theorem State.memCut_host (p : Nat → Bool) : (s.memCut p).host = s.host := rfl
@[simp] theorem State.memCut_svc (p : Nat → Bool) : (s.memCut p).svc = s.svc := rfl
@[simp] theorem State.memCut_freeCtr (p : Nat → Bool) : (s.memCut p).freeCtr = s.freeCtr := rfl
@[simp] theorem State.memCut_out (p : Nat → Bool) : (s.memCut p).out = s.out := rfl
@[simp] theorem State.memCut_pending (p : Nat → Bool) : (s.memCut p).pending = s.pending := rfl

@[simp] theorem State.setCore_booting (k : Nat) (c : Core) : (s.setCore k c).booting = s.booting := rfl
@[simp] theorem State.setCore_regs (k : Nat) (c : Core) : (s.setCore k c).regs = s.regs := rfl
@[simp] theorem State.setCore_mem (k : Nat) (c : Core) : (s.setCore k c).mem = s.mem := rfl
@[simp] theorem State.setCore_lines (k : Nat) (c : Core) : (s.setCore k c).lines = s.lines := rfl
@[simp] theorem State.setCore_scrubs (k : Nat) (c : Core) : (s.setCore k c).scrubs = s.scrubs := rfl
@[simp] theorem State.setCore_lt (k : Nat) (c : Core) : (s.setCore k c).lt = s.lt := rfl
@[simp] theorem State.setCore_vco (k : Nat) (c : Core) : (s.setCore k c).vco = s.vco := rfl
@[simp] theorem State.setCore_tileAt (k : Nat) (c : Core) : (s.setCore k c).tileAt = s.tileAt := rfl
@[simp] theorem State.setCore_time (k : Nat) (c : Core) : (s.setCore k c).time = s.time := rfl
@[simp] theorem State.setCore_uncertain (k : Nat) (c : Core) : (s.setCore k c).uncertain = s.uncertain := rfl
@[simp] theorem State.setCore_spans (k : Nat) (c : Core) : (s.setCore k c).spans = s.spans := rfl
@[simp] theorem State.setCore_spanFrom (k : Nat) (c : Core) : (s.setCore k c).spanFrom = s.spanFrom := rfl
@[simp] theorem State.setCore_ticks (k : Nat) (c : Core) : (s.setCore k c).ticks = s.ticks := rfl
@[simp] theorem State.setCore_sleepNs (k : Nat) (c : Core) : (s.setCore k c).sleepNs = s.sleepNs := rfl
@[simp] theorem State.setCore_com (k : Nat) (c : Core) : (s.setCore k c).com = s.com := rfl
@[simp] theorem State.setCore_queues (k : Nat) (c : Core) : (s.setCore k c).queues = s.queues := rfl
@[simp] theorem State.setCore_ladles (k : Nat) (c : Core) : (s.setCore k c).ladles = s.ladles := rfl
@[simp] theorem State.setCore_seqs (k : Nat) (c : Core) : (s.setCore k c).seqs = s.seqs := rfl
@[simp] theorem State.setCore_log (k : Nat) (c : Core) : (s.setCore k c).log = s.log := rfl
@[simp] theorem State.setCore_logUnsent (k : Nat) (c : Core) : (s.setCore k c).logUnsent = s.logUnsent := rfl
@[simp] theorem State.setCore_userLts (k : Nat) (c : Core) : (s.setCore k c).userLts = s.userLts := rfl
@[simp] theorem State.setCore_acts (k : Nat) (c : Core) : (s.setCore k c).acts = s.acts := rfl
@[simp] theorem State.setCore_actOrder (k : Nat) (c : Core) : (s.setCore k c).actOrder = s.actOrder := rfl
@[simp] theorem State.setCore_outs (k : Nat) (c : Core) : (s.setCore k c).outs = s.outs := rfl
@[simp] theorem State.setCore_evts (k : Nat) (c : Core) : (s.setCore k c).evts = s.evts := rfl
@[simp] theorem State.setCore_caps (k : Nat) (c : Core) : (s.setCore k c).caps = s.caps := rfl
@[simp] theorem State.setCore_encs (k : Nat) (c : Core) : (s.setCore k c).encs = s.encs := rfl
@[simp] theorem State.setCore_srcs (k : Nat) (c : Core) : (s.setCore k c).srcs = s.srcs := rfl
@[simp] theorem State.setCore_timers (k : Nat) (c : Core) : (s.setCore k c).timers = s.timers := rfl
@[simp] theorem State.setCore_herd (k : Nat) (c : Core) : (s.setCore k c).herd = s.herd := rfl
@[simp] theorem State.setCore_churn (k : Nat) (c : Core) : (s.setCore k c).churn = s.churn := rfl
@[simp] theorem State.setCore_env (k : Nat) (c : Core) : (s.setCore k c).env = s.env := rfl
@[simp] theorem State.setCore_cells (k : Nat) (c : Core) : (s.setCore k c).cells = s.cells := rfl
@[simp] theorem State.setCore_chans (k : Nat) (c : Core) : (s.setCore k c).chans = s.chans := rfl
@[simp] theorem State.setCore_moduleAt (k : Nat) (c : Core) : (s.setCore k c).moduleAt = s.moduleAt := rfl
@[simp] theorem State.setCore_mainsMoved (k : Nat) (c : Core) : (s.setCore k c).mainsMoved = s.mainsMoved := rfl
@[simp] theorem State.setCore_mainsRun (k : Nat) (c : Core) : (s.setCore k c).mainsRun = s.mainsRun := rfl
@[simp] theorem State.setCore_mainsEdges (k : Nat) (c : Core) : (s.setCore k c).mainsEdges = s.mainsEdges := rfl
@[simp] theorem State.setCore_tiles (k : Nat) (c : Core) : (s.setCore k c).tiles = s.tiles := rfl
@[simp] theorem State.setCore_stopped (k : Nat) (c : Core) : (s.setCore k c).stopped = s.stopped := rfl
@[simp] theorem State.setCore_routes (k : Nat) (c : Core) : (s.setCore k c).routes = s.routes := rfl
@[simp] theorem State.setCore_key (k : Nat) (c : Core) : (s.setCore k c).key = s.key := rfl
@[simp] theorem State.setCore_co (k : Nat) (c : Core) : (s.setCore k c).co = s.co := rfl
@[simp] theorem State.setCore_tws (k : Nat) (c : Core) : (s.setCore k c).tws = s.tws := rfl
@[simp] theorem State.setCore_link (k : Nat) (c : Core) : (s.setCore k c).link = s.link := rfl
@[simp] theorem State.setCore_pwr (k : Nat) (c : Core) : (s.setCore k c).pwr = s.pwr := rfl
@[simp] theorem State.setCore_thr (k : Nat) (c : Core) : (s.setCore k c).thr = s.thr := rfl
@[simp] theorem State.setCore_watch (k : Nat) (c : Core) : (s.setCore k c).watch = s.watch := rfl
@[simp] theorem State.setCore_boot (k : Nat) (c : Core) : (s.setCore k c).boot = s.boot := rfl
@[simp] theorem State.setCore_host (k : Nat) (c : Core) : (s.setCore k c).host = s.host := rfl
@[simp] theorem State.setCore_svc (k : Nat) (c : Core) : (s.setCore k c).svc = s.svc := rfl
@[simp] theorem State.setCore_freeCtr (k : Nat) (c : Core) : (s.setCore k c).freeCtr = s.freeCtr := rfl
@[simp] theorem State.setCore_out (k : Nat) (c : Core) : (s.setCore k c).out = s.out := rfl
@[simp] theorem State.setCore_pending (k : Nat) (c : Core) : (s.setCore k c).pending = s.pending := rfl

@[simp] theorem State.takeSeq_booting (k : Nat) : (s.takeSeq k).booting = s.booting := rfl
@[simp] theorem State.takeSeq_regs (k : Nat) : (s.takeSeq k).regs = s.regs := rfl
@[simp] theorem State.takeSeq_mem (k : Nat) : (s.takeSeq k).mem = s.mem := rfl
@[simp] theorem State.takeSeq_lines (k : Nat) : (s.takeSeq k).lines = s.lines := rfl
@[simp] theorem State.takeSeq_scrubs (k : Nat) : (s.takeSeq k).scrubs = s.scrubs := rfl
@[simp] theorem State.takeSeq_lt (k : Nat) : (s.takeSeq k).lt = s.lt := rfl
@[simp] theorem State.takeSeq_vco (k : Nat) : (s.takeSeq k).vco = s.vco := rfl
@[simp] theorem State.takeSeq_tileAt (k : Nat) : (s.takeSeq k).tileAt = s.tileAt := rfl
@[simp] theorem State.takeSeq_time (k : Nat) : (s.takeSeq k).time = s.time := rfl
@[simp] theorem State.takeSeq_uncertain (k : Nat) : (s.takeSeq k).uncertain = s.uncertain := rfl
@[simp] theorem State.takeSeq_spans (k : Nat) : (s.takeSeq k).spans = s.spans := rfl
@[simp] theorem State.takeSeq_spanFrom (k : Nat) : (s.takeSeq k).spanFrom = s.spanFrom := rfl
@[simp] theorem State.takeSeq_ticks (k : Nat) : (s.takeSeq k).ticks = s.ticks := rfl
@[simp] theorem State.takeSeq_sleepNs (k : Nat) : (s.takeSeq k).sleepNs = s.sleepNs := rfl
@[simp] theorem State.takeSeq_com (k : Nat) : (s.takeSeq k).com = s.com := rfl
@[simp] theorem State.takeSeq_queues (k : Nat) : (s.takeSeq k).queues = s.queues := rfl
@[simp] theorem State.takeSeq_ladles (k : Nat) : (s.takeSeq k).ladles = s.ladles := rfl
@[simp] theorem State.takeSeq_log (k : Nat) : (s.takeSeq k).log = s.log := rfl
@[simp] theorem State.takeSeq_logUnsent (k : Nat) : (s.takeSeq k).logUnsent = s.logUnsent := rfl
@[simp] theorem State.takeSeq_userLts (k : Nat) : (s.takeSeq k).userLts = s.userLts := rfl
@[simp] theorem State.takeSeq_acts (k : Nat) : (s.takeSeq k).acts = s.acts := rfl
@[simp] theorem State.takeSeq_actOrder (k : Nat) : (s.takeSeq k).actOrder = s.actOrder := rfl
@[simp] theorem State.takeSeq_outs (k : Nat) : (s.takeSeq k).outs = s.outs := rfl
@[simp] theorem State.takeSeq_evts (k : Nat) : (s.takeSeq k).evts = s.evts := rfl
@[simp] theorem State.takeSeq_caps (k : Nat) : (s.takeSeq k).caps = s.caps := rfl
@[simp] theorem State.takeSeq_encs (k : Nat) : (s.takeSeq k).encs = s.encs := rfl
@[simp] theorem State.takeSeq_srcs (k : Nat) : (s.takeSeq k).srcs = s.srcs := rfl
@[simp] theorem State.takeSeq_timers (k : Nat) : (s.takeSeq k).timers = s.timers := rfl
@[simp] theorem State.takeSeq_herd (k : Nat) : (s.takeSeq k).herd = s.herd := rfl
@[simp] theorem State.takeSeq_churn (k : Nat) : (s.takeSeq k).churn = s.churn := rfl
@[simp] theorem State.takeSeq_env (k : Nat) : (s.takeSeq k).env = s.env := rfl
@[simp] theorem State.takeSeq_cores (k : Nat) : (s.takeSeq k).cores = s.cores := rfl
@[simp] theorem State.takeSeq_cells (k : Nat) : (s.takeSeq k).cells = s.cells := rfl
@[simp] theorem State.takeSeq_chans (k : Nat) : (s.takeSeq k).chans = s.chans := rfl
@[simp] theorem State.takeSeq_moduleAt (k : Nat) : (s.takeSeq k).moduleAt = s.moduleAt := rfl
@[simp] theorem State.takeSeq_mainsMoved (k : Nat) : (s.takeSeq k).mainsMoved = s.mainsMoved := rfl
@[simp] theorem State.takeSeq_mainsRun (k : Nat) : (s.takeSeq k).mainsRun = s.mainsRun := rfl
@[simp] theorem State.takeSeq_mainsEdges (k : Nat) : (s.takeSeq k).mainsEdges = s.mainsEdges := rfl
@[simp] theorem State.takeSeq_tiles (k : Nat) : (s.takeSeq k).tiles = s.tiles := rfl
@[simp] theorem State.takeSeq_stopped (k : Nat) : (s.takeSeq k).stopped = s.stopped := rfl
@[simp] theorem State.takeSeq_routes (k : Nat) : (s.takeSeq k).routes = s.routes := rfl
@[simp] theorem State.takeSeq_key (k : Nat) : (s.takeSeq k).key = s.key := rfl
@[simp] theorem State.takeSeq_co (k : Nat) : (s.takeSeq k).co = s.co := rfl
@[simp] theorem State.takeSeq_tws (k : Nat) : (s.takeSeq k).tws = s.tws := rfl
@[simp] theorem State.takeSeq_link (k : Nat) : (s.takeSeq k).link = s.link := rfl
@[simp] theorem State.takeSeq_pwr (k : Nat) : (s.takeSeq k).pwr = s.pwr := rfl
@[simp] theorem State.takeSeq_thr (k : Nat) : (s.takeSeq k).thr = s.thr := rfl
@[simp] theorem State.takeSeq_watch (k : Nat) : (s.takeSeq k).watch = s.watch := rfl
@[simp] theorem State.takeSeq_boot (k : Nat) : (s.takeSeq k).boot = s.boot := rfl
@[simp] theorem State.takeSeq_host (k : Nat) : (s.takeSeq k).host = s.host := rfl
@[simp] theorem State.takeSeq_svc (k : Nat) : (s.takeSeq k).svc = s.svc := rfl
@[simp] theorem State.takeSeq_freeCtr (k : Nat) : (s.takeSeq k).freeCtr = s.freeCtr := rfl
@[simp] theorem State.takeSeq_out (k : Nat) : (s.takeSeq k).out = s.out := rfl
@[simp] theorem State.takeSeq_pending (k : Nat) : (s.takeSeq k).pending = s.pending := rfl

@[simp] theorem State.freeNext_booting : (s.freeNext).booting = s.booting := rfl
@[simp] theorem State.freeNext_regs : (s.freeNext).regs = s.regs := rfl
@[simp] theorem State.freeNext_mem : (s.freeNext).mem = s.mem := rfl
@[simp] theorem State.freeNext_lines : (s.freeNext).lines = s.lines := rfl
@[simp] theorem State.freeNext_scrubs : (s.freeNext).scrubs = s.scrubs := rfl
@[simp] theorem State.freeNext_lt : (s.freeNext).lt = s.lt := rfl
@[simp] theorem State.freeNext_vco : (s.freeNext).vco = s.vco := rfl
@[simp] theorem State.freeNext_tileAt : (s.freeNext).tileAt = s.tileAt := rfl
@[simp] theorem State.freeNext_time : (s.freeNext).time = s.time := rfl
@[simp] theorem State.freeNext_uncertain : (s.freeNext).uncertain = s.uncertain := rfl
@[simp] theorem State.freeNext_spans : (s.freeNext).spans = s.spans := rfl
@[simp] theorem State.freeNext_spanFrom : (s.freeNext).spanFrom = s.spanFrom := rfl
@[simp] theorem State.freeNext_ticks : (s.freeNext).ticks = s.ticks := rfl
@[simp] theorem State.freeNext_sleepNs : (s.freeNext).sleepNs = s.sleepNs := rfl
@[simp] theorem State.freeNext_com : (s.freeNext).com = s.com := rfl
@[simp] theorem State.freeNext_queues : (s.freeNext).queues = s.queues := rfl
@[simp] theorem State.freeNext_ladles : (s.freeNext).ladles = s.ladles := rfl
@[simp] theorem State.freeNext_seqs : (s.freeNext).seqs = s.seqs := rfl
@[simp] theorem State.freeNext_log : (s.freeNext).log = s.log := rfl
@[simp] theorem State.freeNext_logUnsent : (s.freeNext).logUnsent = s.logUnsent := rfl
@[simp] theorem State.freeNext_userLts : (s.freeNext).userLts = s.userLts := rfl
@[simp] theorem State.freeNext_acts : (s.freeNext).acts = s.acts := rfl
@[simp] theorem State.freeNext_actOrder : (s.freeNext).actOrder = s.actOrder := rfl
@[simp] theorem State.freeNext_outs : (s.freeNext).outs = s.outs := rfl
@[simp] theorem State.freeNext_evts : (s.freeNext).evts = s.evts := rfl
@[simp] theorem State.freeNext_caps : (s.freeNext).caps = s.caps := rfl
@[simp] theorem State.freeNext_encs : (s.freeNext).encs = s.encs := rfl
@[simp] theorem State.freeNext_srcs : (s.freeNext).srcs = s.srcs := rfl
@[simp] theorem State.freeNext_timers : (s.freeNext).timers = s.timers := rfl
@[simp] theorem State.freeNext_herd : (s.freeNext).herd = s.herd := rfl
@[simp] theorem State.freeNext_churn : (s.freeNext).churn = s.churn := rfl
@[simp] theorem State.freeNext_env : (s.freeNext).env = s.env := rfl
@[simp] theorem State.freeNext_cores : (s.freeNext).cores = s.cores := rfl
@[simp] theorem State.freeNext_cells : (s.freeNext).cells = s.cells := rfl
@[simp] theorem State.freeNext_chans : (s.freeNext).chans = s.chans := rfl
@[simp] theorem State.freeNext_moduleAt : (s.freeNext).moduleAt = s.moduleAt := rfl
@[simp] theorem State.freeNext_mainsMoved : (s.freeNext).mainsMoved = s.mainsMoved := rfl
@[simp] theorem State.freeNext_mainsRun : (s.freeNext).mainsRun = s.mainsRun := rfl
@[simp] theorem State.freeNext_mainsEdges : (s.freeNext).mainsEdges = s.mainsEdges := rfl
@[simp] theorem State.freeNext_tiles : (s.freeNext).tiles = s.tiles := rfl
@[simp] theorem State.freeNext_stopped : (s.freeNext).stopped = s.stopped := rfl
@[simp] theorem State.freeNext_routes : (s.freeNext).routes = s.routes := rfl
@[simp] theorem State.freeNext_key : (s.freeNext).key = s.key := rfl
@[simp] theorem State.freeNext_co : (s.freeNext).co = s.co := rfl
@[simp] theorem State.freeNext_tws : (s.freeNext).tws = s.tws := rfl
@[simp] theorem State.freeNext_link : (s.freeNext).link = s.link := rfl
@[simp] theorem State.freeNext_pwr : (s.freeNext).pwr = s.pwr := rfl
@[simp] theorem State.freeNext_thr : (s.freeNext).thr = s.thr := rfl
@[simp] theorem State.freeNext_watch : (s.freeNext).watch = s.watch := rfl
@[simp] theorem State.freeNext_boot : (s.freeNext).boot = s.boot := rfl
@[simp] theorem State.freeNext_host : (s.freeNext).host = s.host := rfl
@[simp] theorem State.freeNext_svc : (s.freeNext).svc = s.svc := rfl
@[simp] theorem State.freeNext_out : (s.freeNext).out = s.out := rfl
@[simp] theorem State.freeNext_pending : (s.freeNext).pending = s.pending := rfl

@[simp] theorem State.emit_booting (e : Emission) : (s.emit e).booting = s.booting := rfl
@[simp] theorem State.emit_regs (e : Emission) : (s.emit e).regs = s.regs := rfl
@[simp] theorem State.emit_mem (e : Emission) : (s.emit e).mem = s.mem := rfl
@[simp] theorem State.emit_lines (e : Emission) : (s.emit e).lines = s.lines := rfl
@[simp] theorem State.emit_scrubs (e : Emission) : (s.emit e).scrubs = s.scrubs := rfl
@[simp] theorem State.emit_lt (e : Emission) : (s.emit e).lt = s.lt := rfl
@[simp] theorem State.emit_vco (e : Emission) : (s.emit e).vco = s.vco := rfl
@[simp] theorem State.emit_tileAt (e : Emission) : (s.emit e).tileAt = s.tileAt := rfl
@[simp] theorem State.emit_time (e : Emission) : (s.emit e).time = s.time := rfl
@[simp] theorem State.emit_uncertain (e : Emission) : (s.emit e).uncertain = s.uncertain := rfl
@[simp] theorem State.emit_spans (e : Emission) : (s.emit e).spans = s.spans := rfl
@[simp] theorem State.emit_spanFrom (e : Emission) : (s.emit e).spanFrom = s.spanFrom := rfl
@[simp] theorem State.emit_ticks (e : Emission) : (s.emit e).ticks = s.ticks := rfl
@[simp] theorem State.emit_sleepNs (e : Emission) : (s.emit e).sleepNs = s.sleepNs := rfl
@[simp] theorem State.emit_com (e : Emission) : (s.emit e).com = s.com := rfl
@[simp] theorem State.emit_queues (e : Emission) : (s.emit e).queues = s.queues := rfl
@[simp] theorem State.emit_ladles (e : Emission) : (s.emit e).ladles = s.ladles := rfl
@[simp] theorem State.emit_seqs (e : Emission) : (s.emit e).seqs = s.seqs := rfl
@[simp] theorem State.emit_log (e : Emission) : (s.emit e).log = s.log := rfl
@[simp] theorem State.emit_logUnsent (e : Emission) : (s.emit e).logUnsent = s.logUnsent := rfl
@[simp] theorem State.emit_userLts (e : Emission) : (s.emit e).userLts = s.userLts := rfl
@[simp] theorem State.emit_acts (e : Emission) : (s.emit e).acts = s.acts := rfl
@[simp] theorem State.emit_actOrder (e : Emission) : (s.emit e).actOrder = s.actOrder := rfl
@[simp] theorem State.emit_outs (e : Emission) : (s.emit e).outs = s.outs := rfl
@[simp] theorem State.emit_evts (e : Emission) : (s.emit e).evts = s.evts := rfl
@[simp] theorem State.emit_caps (e : Emission) : (s.emit e).caps = s.caps := rfl
@[simp] theorem State.emit_encs (e : Emission) : (s.emit e).encs = s.encs := rfl
@[simp] theorem State.emit_srcs (e : Emission) : (s.emit e).srcs = s.srcs := rfl
@[simp] theorem State.emit_timers (e : Emission) : (s.emit e).timers = s.timers := rfl
@[simp] theorem State.emit_herd (e : Emission) : (s.emit e).herd = s.herd := rfl
@[simp] theorem State.emit_churn (e : Emission) : (s.emit e).churn = s.churn := rfl
@[simp] theorem State.emit_env (e : Emission) : (s.emit e).env = s.env := rfl
@[simp] theorem State.emit_cores (e : Emission) : (s.emit e).cores = s.cores := rfl
@[simp] theorem State.emit_cells (e : Emission) : (s.emit e).cells = s.cells := rfl
@[simp] theorem State.emit_chans (e : Emission) : (s.emit e).chans = s.chans := rfl
@[simp] theorem State.emit_moduleAt (e : Emission) : (s.emit e).moduleAt = s.moduleAt := rfl
@[simp] theorem State.emit_mainsMoved (e : Emission) : (s.emit e).mainsMoved = s.mainsMoved := rfl
@[simp] theorem State.emit_mainsRun (e : Emission) : (s.emit e).mainsRun = s.mainsRun := rfl
@[simp] theorem State.emit_mainsEdges (e : Emission) : (s.emit e).mainsEdges = s.mainsEdges := rfl
@[simp] theorem State.emit_tiles (e : Emission) : (s.emit e).tiles = s.tiles := rfl
@[simp] theorem State.emit_stopped (e : Emission) : (s.emit e).stopped = s.stopped := rfl
@[simp] theorem State.emit_routes (e : Emission) : (s.emit e).routes = s.routes := rfl
@[simp] theorem State.emit_key (e : Emission) : (s.emit e).key = s.key := rfl
@[simp] theorem State.emit_co (e : Emission) : (s.emit e).co = s.co := rfl
@[simp] theorem State.emit_tws (e : Emission) : (s.emit e).tws = s.tws := rfl
@[simp] theorem State.emit_link (e : Emission) : (s.emit e).link = s.link := rfl
@[simp] theorem State.emit_pwr (e : Emission) : (s.emit e).pwr = s.pwr := rfl
@[simp] theorem State.emit_thr (e : Emission) : (s.emit e).thr = s.thr := rfl
@[simp] theorem State.emit_watch (e : Emission) : (s.emit e).watch = s.watch := rfl
@[simp] theorem State.emit_boot (e : Emission) : (s.emit e).boot = s.boot := rfl
@[simp] theorem State.emit_host (e : Emission) : (s.emit e).host = s.host := rfl
@[simp] theorem State.emit_svc (e : Emission) : (s.emit e).svc = s.svc := rfl
@[simp] theorem State.emit_freeCtr (e : Emission) : (s.emit e).freeCtr = s.freeCtr := rfl
@[simp] theorem State.emit_pending (e : Emission) : (s.emit e).pending = s.pending := rfl

end Sys2Proof.Machine
end

