-- ==== Sys2Proof/Laws/Tab.lean ====
section
/-! SUPPORT. The laws of sparse tables: a read after a write, and that a write keeps the canonical form. -/

namespace Sys2Proof.Machine

variable {α : Type}

@[simp] theorem tabGet_nil (d : Nat → α) (k : Nat) : tabGet d [] k = d k := rfl

theorem tabGet_tabDrop_same (d : Nat → α) (k : Nat) (l : List (Nat × α)) : tabGet d (tabDrop k l) k = d k := by
  induction l with
  | nil => rfl
  | cons c t ih =>
    obtain ⟨j, v⟩ := c
    simp only [tabDrop]
    split
    · exact ih
    · simp only [tabGet]
      split
      · contradiction
      · exact ih

theorem tabGet_tabDrop_other (d : Nat → α) {k m : Nat} (h : m ≠ k) (l : List (Nat × α)) :
    tabGet d (tabDrop k l) m = tabGet d l m := by
  induction l with
  | nil => rfl
  | cons c t ih =>
    obtain ⟨j, v⟩ := c
    simp only [tabDrop]
    split
    · rename_i hj
      simp only [tabGet]
      split
      · omega
      · exact ih
    · simp only [tabGet]
      split
      · rfl
      · exact ih

theorem tabGet_tabInsert_other (d : Nat → α) {k m : Nat} (v : α) (h : m ≠ k) (l : List (Nat × α)) :
    tabGet d (tabInsert k v l) m = tabGet d l m := by
  induction l with
  | nil =>
    simp only [tabInsert, tabGet]
    split
    · omega
    · rfl
  | cons c t ih =>
    obtain ⟨j, u⟩ := c
    simp only [tabInsert]
    split
    · simp only [tabGet]
      split
      · omega
      · rfl
    · simp only [tabGet]
      split
      · rfl
      · exact ih

theorem tabGet_tabInsert_drop (d : Nat → α) (k : Nat) (v : α) (l : List (Nat × α)) :
    tabGet d (tabInsert k v (tabDrop k l)) k = v := by
  induction l with
  | nil => simp [tabDrop, tabInsert, tabGet]
  | cons c t ih =>
    obtain ⟨j, u⟩ := c
    simp only [tabDrop]
    split
    · exact ih
    · simp only [tabInsert]
      split
      · simp [tabGet]
      · simp only [tabGet]
        split
        · contradiction
        · exact ih

/-- A read after a write to the same key gives the value written. -/
@[simp] theorem tabGet_tabSet_same [DecidableEq α] (d : Nat → α) (k : Nat) (v : α) (l : List (Nat × α)) :
    tabGet d (tabSet d k v l) k = v := by
  unfold tabSet
  split
  · rename_i h; rw [tabGet_tabDrop_same, h]
  · exact tabGet_tabInsert_drop d k v l

/-- A write leaves every other key alone. -/
theorem tabGet_tabSet_other [DecidableEq α] (d : Nat → α) {k m : Nat} (v : α) (h : m ≠ k) (l : List (Nat × α)) :
    tabGet d (tabSet d k v l) m = tabGet d l m := by
  unfold tabSet
  split
  · exact tabGet_tabDrop_other d h l
  · rw [tabGet_tabInsert_other d v h, tabGet_tabDrop_other d h]

theorem tabAbove_mono {j k : Nat} (h : k ≤ j) {l : List (Nat × α)} (hl : tabAbove j l = true) : tabAbove k l = true := by
  induction l with
  | nil => rfl
  | cons c t ih =>
    simp only [tabAbove, Bool.and_eq_true, Nat.blt_eq] at hl ⊢
    exact ⟨by omega, ih hl.2⟩

theorem tabAbove_tabDrop {j : Nat} (k : Nat) {l : List (Nat × α)} (hl : tabAbove j l = true) :
    tabAbove j (tabDrop k l) = true := by
  induction l with
  | nil => rfl
  | cons c t ih =>
    simp only [tabAbove, Bool.and_eq_true] at hl
    simp only [tabDrop]
    split
    · exact ih hl.2
    · simp only [tabAbove, Bool.and_eq_true]
      exact ⟨hl.1, ih hl.2⟩

theorem tabAbove_tabInsert {j k : Nat} (v : α) (h : j < k) {l : List (Nat × α)} (hl : tabAbove j l = true) :
    tabAbove j (tabInsert k v l) = true := by
  induction l with
  | nil => simp [tabInsert, tabAbove, h]
  | cons c t ih =>
    simp only [tabAbove, Bool.and_eq_true] at hl
    simp only [tabInsert]
    split
    · simp [tabAbove, h, hl.1, hl.2] at *
    · simp only [tabAbove, Bool.and_eq_true]
      exact ⟨hl.1, ih hl.2⟩

theorem tabWf_tabDrop [DecidableEq α] (d : Nat → α) (k : Nat) {l : List (Nat × α)} (hl : tabWf d l = true) :
    tabWf d (tabDrop k l) = true := by
  induction l with
  | nil => rfl
  | cons c t ih =>
    simp only [tabWf, Bool.and_eq_true] at hl
    simp only [tabDrop]
    split
    · exact ih hl.2
    · simp only [tabWf, Bool.and_eq_true]
      exact ⟨⟨tabAbove_tabDrop k hl.1.1, hl.1.2⟩, ih hl.2⟩

theorem tabWf_tabInsert [DecidableEq α] (d : Nat → α) (k : Nat) (v : α) (hv : v ≠ d k) {l : List (Nat × α)}
    (hl : tabWf d l = true) : tabWf d (tabInsert k v (tabDrop k l)) = true := by
  induction l with
  | nil => simp [tabDrop, tabInsert, tabWf, tabAbove, hv]
  | cons c t ih =>
    obtain ⟨j, u⟩ := c
    simp only [tabWf, Bool.and_eq_true] at hl
    simp only [tabDrop]
    split
    · exact ih hl.2
    · rename_i hj
      simp only [tabInsert]
      split
      · rename_i hk
        simp only [tabWf, tabAbove, Bool.and_eq_true, Nat.blt_eq]
        exact ⟨⟨⟨hk, tabAbove_mono (Nat.le_of_lt hk) (tabAbove_tabDrop k hl.1.1)⟩, by simpa using hv⟩,
          ⟨tabAbove_tabDrop k hl.1.1, hl.1.2⟩, tabWf_tabDrop d k hl.2⟩
      · rename_i hk
        simp only [tabWf, Bool.and_eq_true]
        exact ⟨⟨tabAbove_tabInsert v (by omega) (tabAbove_tabDrop k hl.1.1), hl.1.2⟩, ih hl.2⟩

/-- A write keeps the canonical form. -/
theorem tabWf_tabSet [DecidableEq α] (d : Nat → α) (k : Nat) (v : α) {l : List (Nat × α)} (hl : tabWf d l = true) :
    tabWf d (tabSet d k v l) = true := by
  unfold tabSet
  split
  · exact tabWf_tabDrop d k hl
  · rename_i h; exact tabWf_tabInsert d k v h hl

theorem tabDrop_tabDrop (k : Nat) (l : List (Nat × α)) : tabDrop k (tabDrop k l) = tabDrop k l := by
  induction l with
  | nil => rfl
  | cons c t ih =>
    obtain ⟨j, u⟩ := c
    simp only [tabDrop]
    split
    · exact ih
    · rename_i h; simp only [tabDrop, h, if_false, ih]

theorem tabDrop_tabInsert (k : Nat) (v : α) (l : List (Nat × α)) : tabDrop k (tabInsert k v l) = tabDrop k l := by
  induction l with
  | nil => simp [tabInsert, tabDrop]
  | cons c t ih =>
    obtain ⟨j, u⟩ := c
    simp only [tabInsert]
    split
    · simp [tabDrop]
    · simp only [tabDrop, ih]

/-- What a change of the entries, which keeps their keys or takes them out, leaves of the order. -/
theorem tabAbove_filterMap {k : Nat} (f : Nat × α → Option (Nat × α)) (hf : ∀ c x, f c = some x → x.1 = c.1) {l : List (Nat × α)}
    (hl : tabAbove k l = true) : tabAbove k (l.filterMap f) = true := by
  induction l with
  | nil => rfl
  | cons c t ih =>
    obtain ⟨j, u⟩ := c
    simp only [tabAbove, Bool.and_eq_true] at hl
    rw [List.filterMap_cons]
    split
    · exact ih hl.2
    · rename_i x hx
      obtain ⟨m, v⟩ := x
      have hm : m = j := hf _ _ hx
      subst hm
      simp only [tabAbove, Bool.and_eq_true]
      exact ⟨hl.1, ih hl.2⟩

/-- Entries changed under their keys, or taken out, leave the canonical form where no entry becomes what an unlisted key reads as. -/
theorem tabWf_filterMap [DecidableEq α] (d : Nat → α) (f : Nat × α → Option (Nat × α)) (hf : ∀ c x, f c = some x → x.1 = c.1)
    (hd : ∀ c x, c.2 ≠ d c.1 → f c = some x → x.2 ≠ d x.1) {l : List (Nat × α)} (hl : tabWf d l = true) : tabWf d (l.filterMap f) = true := by
  induction l with
  | nil => rfl
  | cons c t ih =>
    obtain ⟨j, u⟩ := c
    simp only [tabWf, Bool.and_eq_true, Bool.not_eq_true', decide_eq_false_iff_not] at hl
    rw [List.filterMap_cons]
    split
    · exact ih hl.2
    · rename_i x hx
      obtain ⟨m, v⟩ := x
      have hm : m = j := hf _ _ hx
      have hv : v ≠ d m := hd (j, u) _ hl.1.2 hx
      subst hm
      simp only [tabWf, Bool.and_eq_true, Bool.not_eq_true', decide_eq_false_iff_not]
      exact ⟨⟨tabAbove_filterMap f hf hl.1.1, hv⟩, ih hl.2⟩

/-- Entries taken out leave the canonical form. -/
theorem tabWf_filter [DecidableEq α] (d : Nat → α) (p : Nat × α → Bool) {l : List (Nat × α)} (hl : tabWf d l = true) : tabWf d (l.filter p) = true := by
  rw [← List.filterMap_eq_filter]
  refine tabWf_filterMap d _ ?_ ?_ hl
  · intro c x h; simp [Option.guard] at h; rw [← h.2]
  · intro c x h1 h2; simp [Option.guard] at h2; rw [← h2.2]; exact h1

/-- Of two writes to the same key the later one stands. -/
theorem tabSet_tabSet [DecidableEq α] (d : Nat → α) (k : Nat) (v w : α) (l : List (Nat × α)) :
    tabSet d k w (tabSet d k v l) = tabSet d k w l := by
  have h : tabDrop k (tabSet d k v l) = tabDrop k l := by
    unfold tabSet
    split
    · exact tabDrop_tabDrop k l
    · rw [tabDrop_tabInsert, tabDrop_tabDrop]
  simp only [tabSet] at h ⊢
  rw [h]

end Sys2Proof.Machine
end

