-- ==== Sys2Proof/Laws/Ops.lean ====
section
/-! SUPPORT. Laws of the named operations: a read after a write to the same place gives the value written, and a write leaves every other place
alone; writes of memory keep its canonical form. -/

namespace Sys2Proof.Machine

variable (s : State)

/-! ## Registers -/

@[simp] theorem State.rd_wr_same (a : Nat) (v : Word) : (s.wr a v).rd a = v := by simp [State.rd, State.wr]

theorem State.rd_wr_other {a m : Nat} (v : Word) (h : m ≠ a) : (s.wr a v).rd m = s.rd m := tabGet_tabSet_other _ _ h _

theorem Fld.ofWord_lt (f : Fld) (w : Word) : f.ofWord w < 2 ^ f.width := Nat.mod_lt _ (Nat.pos_of_ne_zero (by simp))

theorem Fld.ofWord_shift_le (f : Fld) (w : Word) : f.ofWord w * 2 ^ f.lo ≤ w.toNat := by
  have h : f.ofWord w ≤ w.toNat / 2 ^ f.lo := Nat.mod_le _ _
  exact Nat.le_trans (Nat.mul_le_mul_right _ h) (Nat.div_mul_le_self _ _)

/-- A number splits into what lies above a field, the field, and what lies below. -/
theorem Fld.split (f : Fld) (n : Nat) :
    n = n / 2 ^ (f.lo + f.width) * 2 ^ (f.lo + f.width) + n / 2 ^ f.lo % 2 ^ f.width * 2 ^ f.lo + n % 2 ^ f.lo := by
  have h1 := Nat.div_add_mod n (2 ^ f.lo)
  have h2 := Nat.div_add_mod (n / 2 ^ f.lo) (2 ^ f.width)
  rw [Nat.div_div_eq_div_mul, ← Nat.pow_add] at h2
  have h3 : n / 2 ^ (f.lo + f.width) * 2 ^ (f.lo + f.width) = 2 ^ f.lo * (2 ^ f.width * (n / 2 ^ (f.lo + f.width))) := by
    rw [Nat.pow_add, Nat.mul_comm, Nat.mul_assoc]
  rw [h3]
  have h4 : 2 ^ f.lo * (2 ^ f.width * (n / 2 ^ (f.lo + f.width)) + n / 2 ^ f.lo % 2 ^ f.width) + n % 2 ^ f.lo = n := by rw [h2]; exact h1
  rw [Nat.mul_add] at h4
  rw [Nat.mul_comm (n / 2 ^ f.lo % 2 ^ f.width)]
  exact h4.symm

/-- The number that `Fld.into` makes. -/
theorem Fld.into_toNat (f : Fld) (w : Word) (n : Nat) (hf : f.lo + f.width ≤ 32) :
    (f.into w n).toNat
      = w.toNat / 2 ^ (f.lo + f.width) * 2 ^ (f.lo + f.width) + n % 2 ^ f.width * 2 ^ f.lo + w.toNat % 2 ^ f.lo := by
  have hs := Fld.split f w.toNat
  have hn : n % 2 ^ f.width < 2 ^ f.width := Nat.mod_lt _ (Nat.pos_of_ne_zero (by simp))
  have hb : w.toNat % 2 ^ f.lo < 2 ^ f.lo := Nat.mod_lt _ (Nat.pos_of_ne_zero (by simp))
  have hmid : n % 2 ^ f.width * 2 ^ f.lo + 2 ^ f.lo ≤ 2 ^ (f.lo + f.width) := by
    have : (n % 2 ^ f.width + 1) * 2 ^ f.lo ≤ 2 ^ f.width * 2 ^ f.lo := Nat.mul_le_mul_right _ hn
    rw [Nat.add_comm f.lo, Nat.pow_add]
    rw [Nat.add_mul, Nat.one_mul] at this
    exact this
  have htop : w.toNat / 2 ^ (f.lo + f.width) * 2 ^ (f.lo + f.width) + 2 ^ (f.lo + f.width) ≤ 2 ^ 32 := by
    have hlt : w.toNat / 2 ^ (f.lo + f.width) < 2 ^ (32 - (f.lo + f.width)) := by
      rw [Nat.div_lt_iff_lt_mul (Nat.pos_of_ne_zero (by simp)), ← Nat.pow_add]
      rw [show 32 - (f.lo + f.width) + (f.lo + f.width) = 32 by omega]
      exact w.isLt
    have := Nat.mul_le_mul_right (2 ^ (f.lo + f.width)) hlt
    rw [← Nat.pow_add, show 32 - (f.lo + f.width) + (f.lo + f.width) = 32 by omega, Nat.succ_mul] at this
    exact this
  simp only [Fld.into, Fld.ofWord, BitVec.toNat_ofNat]
  have hk : w.toNat - w.toNat / 2 ^ f.lo % 2 ^ f.width * 2 ^ f.lo
      = w.toNat / 2 ^ (f.lo + f.width) * 2 ^ (f.lo + f.width) + w.toNat % 2 ^ f.lo := by omega
  rw [hk, Nat.mod_eq_of_lt (by omega)]
  omega

/-- A field read after it was set. -/
theorem Fld.ofWord_into (f : Fld) (w : Word) (n : Nat) (hf : f.lo + f.width ≤ 32) : f.ofWord (f.into w n) = n % 2 ^ f.width := by
  have hb : w.toNat % 2 ^ f.lo < 2 ^ f.lo := Nat.mod_lt _ (Nat.pos_of_ne_zero (by simp))
  unfold Fld.ofWord
  rw [Fld.into_toNat f w n hf]
  have h1 : w.toNat / 2 ^ (f.lo + f.width) * 2 ^ (f.lo + f.width) + n % 2 ^ f.width * 2 ^ f.lo + w.toNat % 2 ^ f.lo
      = w.toNat % 2 ^ f.lo + 2 ^ f.lo * (n % 2 ^ f.width + 2 ^ f.width * (w.toNat / 2 ^ (f.lo + f.width))) := by
    rw [Nat.mul_add, Nat.pow_add, Nat.mul_comm (n % 2 ^ f.width)]
    rw [Nat.mul_comm (w.toNat / (2 ^ f.lo * 2 ^ f.width)), Nat.mul_assoc]
    omega
  rw [h1, Nat.add_mul_div_left _ _ (Nat.pos_of_ne_zero (by simp)), Nat.div_eq_of_lt hb, Nat.zero_add, Nat.add_mul_mod_self_left, Nat.mod_mod]

/-- A field that fits its register, read after it was set. -/
theorem State.get_put_same (f : Fld) (n : Nat) (hf : f.lo + f.width ≤ 32) : (s.put f n).get f = n % 2 ^ f.width := by
  simp [State.get, State.put, Fld.ofWord_into f _ n hf]

/-- A field of another register stays. -/
theorem State.get_put_other (f g : Fld) (n : Nat) (h : g.addr ≠ f.addr) : (s.put f n).get g = s.get g := by
  unfold State.get State.put
  rw [State.rd_wr_other _ _ h]

theorem State.get_wr_other (g : Fld) {a : Nat} (v : Word) (h : g.addr ≠ a) : (s.wr a v).get g = s.get g := by
  unfold State.get
  rw [State.rd_wr_other _ _ h]

theorem State.rd_put_other {a : Nat} (f : Fld) (n : Nat) (h : a ≠ f.addr) : (s.put f n).rd a = s.rd a := State.rd_wr_other _ _ h

@[simp] theorem State.rd_setByte (a m : Nat) (v : Byte) : (s.setByte m v).rd a = s.rd a := rfl
@[simp] theorem State.rd_setCore (a k : Nat) (c : Core) : (s.setCore k c).rd a = s.rd a := rfl
@[simp] theorem State.get_setByte (f : Fld) (m : Nat) (v : Byte) : (s.setByte m v).get f = s.get f := rfl
@[simp] theorem State.get_setCore (f : Fld) (k : Nat) (c : Core) : (s.setCore k c).get f = s.get f := rfl
@[simp] theorem State.get_freeNext (f : Fld) : s.freeNext.get f = s.get f := rfl
@[simp] theorem State.get_emit (f : Fld) (e : Emission) : (s.emit e).get f = s.get f := rfl
@[simp] theorem State.rd_emit (a : Nat) (e : Emission) : (s.emit e).rd a = s.rd a := rfl

/-! ## Memory -/

@[simp] theorem State.byte_setByte_same (a : Nat) (v : Byte) : (s.setByte a v).byte a = v := by simp [State.byte, State.setByte]

theorem State.byte_setByte_other {a m : Nat} (v : Byte) (h : m ≠ a) : (s.setByte a v).byte m = s.byte m := tabGet_tabSet_other _ _ h _

@[simp] theorem State.byte_wr (a m : Nat) (v : Word) : (s.wr a v).byte m = s.byte m := rfl
@[simp] theorem State.byte_put (f : Fld) (n m : Nat) : (s.put f n).byte m = s.byte m := rfl
@[simp] theorem State.byte_setCore (k m : Nat) (c : Core) : (s.setCore k c).byte m = s.byte m := rfl

/-- Bytes written from `a` on leave the bytes below `a` and behind the last one. -/
theorem State.byte_setBytes_other (l : List Byte) (a m : Nat) (h : m < a ∨ a + l.length ≤ m) : (s.setBytes a l).byte m = s.byte m := by
  induction l generalizing s a with
  | nil => rfl
  | cons b t ih =>
    simp only [List.length_cons] at h
    simp only [State.setBytes]
    rw [ih _ _ (by omega), State.byte_setByte_other _ _ (by omega)]

/-- The bytes written are read again. -/
theorem State.byte_setBytes_same (l : List Byte) (a i : Nat) (h : i < l.length) : (s.setBytes a l).byte (a + i) = l[i] := by
  induction l generalizing s a i with
  | nil => simp at h
  | cons b t ih =>
    cases i with
    | zero => simp only [State.setBytes, Nat.add_zero]; rw [State.byte_setBytes_other _ _ _ _ (by omega)]; simp
    | succ i =>
      simp only [State.setBytes]
      have := ih (s.setByte a b) (a + 1) i (by simpa using h)
      rw [show a + 1 + i = a + (i + 1) by omega] at this
      simpa using this

/-- Every write of memory keeps its canonical form. -/
theorem State.setByte_wf (a : Nat) (v : Byte) (h : Memory.wf s.mem = true) : Memory.wf (s.setByte a v).mem = true := tabWf_tabSet _ _ _ h

theorem State.setBytes_wf (l : List Byte) (a : Nat) (h : Memory.wf s.mem = true) : Memory.wf (s.setBytes a l).mem = true := by
  induction l generalizing s a with
  | nil => exact h
  | cons b t ih => exact ih _ _ (State.setByte_wf s a b h)

theorem State.storeLe_wf (a n v : Nat) (h : Memory.wf s.mem = true) : Memory.wf (s.storeLe a n v).mem = true := State.setBytes_wf s _ _ h

/-! ## Cores -/

@[simp] theorem State.core_setCore_same (k : Nat) (c : Core) : (s.setCore k c).core k = c := by simp [State.core, State.setCore]

theorem State.core_setCore_other {k m : Nat} (c : Core) (h : m ≠ k) : (s.setCore k c).core m = s.core m := tabGet_tabSet_other _ _ h _

@[simp] theorem State.core_wr (a k : Nat) (v : Word) : (s.wr a v).core k = s.core k := rfl
@[simp] theorem State.core_put (f : Fld) (n k : Nat) : (s.put f n).core k = s.core k := rfl
@[simp] theorem State.core_setByte (a k : Nat) (v : Byte) : (s.setByte a v).core k = s.core k := rfl
@[simp] theorem State.core_emit (k : Nat) (e : Emission) : (s.emit e).core k = s.core k := rfl

end Sys2Proof.Machine
end

