-- ==== Sys2Proof/Laws/Filsy.lean ====
section
/-! SUPPORT. Laws of the shared operations of Filsy instructions: what issuing one comes to, completion, loads, stores, jumps and faults. -/

namespace Sys2Proof.Machine

/-! ## Reading a word of memory (R283) -/

/-- A word without an error does nothing to its reader. -/
theorem State.wordLost_sound {s : State} {a : Nat} (h : s.wordSound a = true) : s.wordLost a = false := by
  simp only [State.wordSound, Bool.and_eq_true, Bool.not_eq_true'] at h
  simp [State.wordLost, h.2]

/-- A word without an error is read as it stands. -/
theorem State.wordReadAt_sound {s : State} {a : Nat} (h : s.wordSound a = true) : s.wordReadAt a = s := by
  simp only [State.wordSound, State.errAt, Bool.and_eq_true, Bool.not_eq_true'] at h
  simp [State.wordReadAt, State.wordRead, h.1, h.2]

/-! ## Issue -/

/-- An instruction that nothing stands in the way of has its own effect. -/
theorem State.issue_run {s : State} {c : Fin 9} {i : Instr} (h : s.canRun c i) (body : State → Eff) :
    s.issue c i body = .next ((body s).finish c s) := by
  obtain ⟨h1, h2, h3, h4, h5⟩ := h
  simp [State.issue, State.fetched, h1, h2, h3, h4, State.wordReadAt_sound h5, State.wordLost_sound h5]

/-- A core that cannot issue is left as it is, and so is everything else. -/
theorem State.issue_idle {s : State} {k : Nat} (h : s.coreIssues k = false) (i : Instr) (body : State → Eff) : s.issue k i body = .next s := by
  simp [State.issue, h]

/-- Issuing always answers a next state. -/
theorem State.issue_next (s : State) (k : Nat) (i : Instr) (body : State → Eff) : ∃ t, s.issue k i body = .next t := by
  unfold State.issue
  split
  · dsimp only
    split <;> exact ⟨_, rfl⟩
  · exact ⟨_, rfl⟩

/-- Every Filsy instruction is issued by the core that it names. -/
theorem exec_filsy {i : Instr} {c : Fin 9} (h : i.filsyCore = some c) : ∃ body, ∀ s, exec i s = s.issue c i body := by
  cases i <;> simp only [Instr.filsyCore, Option.some.injEq, reduceCtorEq] at h <;> subst h <;> exact ⟨_, fun _ => rfl⟩

@[simp] theorem Eff.finish_done (k : Nat) (s t : State) : (Eff.done t).finish k s = t.setCore k (t.core k).retire := rfl
@[simp] theorem Eff.finish_stall (k : Nat) (s : State) : Eff.stall.finish k s = s.setCore k { s.core k with stalled := true } := rfl
@[simp] theorem Eff.finish_rest (k : Nat) (s t : State) : (Eff.rest t).finish k s = t := rfl
@[simp] theorem Eff.finish_go (k : Nat) (s t : State) (a : Word) (r : Option Nat) (h : Bool) :
    (Eff.go t a r h).finish k s = t.setCore k { t.core k with pc := a, rep := r, stalled := false, held := h } := rfl
@[simp] theorem Eff.finish_fault (k : Nat) (s : State) (a : Word) (e d : Nat) (x : Option Word) :
    (Eff.fault a e d x).finish k s = s.coreFault k a e d x := rfl
@[simp] theorem Eff.finish_poison (k : Nat) (s : State) (a : Word) : (Eff.poison a).finish k s = s.corePoison k a := rfl

@[simp] theorem State.setCore_setCore (s : State) (k : Nat) (c x : Core) : (s.setCore k c).setCore k x = s.setCore k x := by
  simp only [State.setCore]
  congr 1
  exact tabSet_tabSet _ _ _ _ _

/-- An instruction that only changes its core. -/
theorem State.coreOnly_finish (s : State) (k : Nat) (f : Core → Core) : (s.coreOnly k f).finish k s = s.setCore k (f (s.core k)).retire := by
  simp [State.coreOnly]

/-- An instruction that writes a result and FLAGS. -/
theorem State.alu_finish (s : State) (k : Nat) (d : BitVec 4) (f : Core → Alu) :
    (s.alu k d f).finish k s = s.setCore k ((s.core k).result d (f (s.core k))).retire := State.coreOnly_finish _ _ _

/-- A jump to a target of the fetch area. -/
theorem State.jump_good {s : State} {k : Nat} {a : Word} (f : Core → Core) (h : goodTarget (s.core k).large a = true) :
    (s.jump k a f).finish k s = s.setCore k { f (s.core k) with pc := a, rep := none, stalled := false, held := false } := by
  simp [State.jump, h]

/-- A fault that does not halt its core is taken (R271). -/
theorem State.coreFault_open {s : State} {k : Nat} (h : (s.core k).faultHalts = false) (a : Word) (e d : Nat) (x : Option Word) :
    s.coreFault k a e d x = s.setCore k ((s.core k).faultEntry a e d x) := by
  simp [State.coreFault, h]

/-! ## General registers -/

@[simp] theorem Core.reg_zero (c : Core) : c.reg 0#4 = 0#32 := by simp [Core.reg]

@[simp] theorem Core.setReg_zero (c : Core) (v : Word) : c.setReg 0#4 v = c := by simp [Core.setReg]

theorem Core.reg_setReg_same {r : BitVec 4} (c : Core) (v : Word) (h : r ≠ 0#4) : (c.setReg r v).reg r = v := by simp [Core.reg, Core.setReg, h]

theorem Core.reg_setReg_other {r q : BitVec 4} (c : Core) (v : Word) (h : q ≠ r) : (c.setReg r v).reg q = c.reg q := by
  by_cases hr : r = 0#4
  · simp [Core.setReg, hr]
  · by_cases hq : q = 0#4
    · simp [Core.reg, hq]
    · simp only [Core.reg, Core.setReg, hr, hq, if_false]
      exact tabGet_tabSet_other _ _ (by simpa [BitVec.toNat_eq] using h) _

/-! ## Loads and stores -/

/-- A load of memory that it can read now has the little-endian value. -/
theorem State.coreLoads_mem {s : State} {c : Fin 9} {m n : Nat} (h : s.memReads c m n) (f : State → Nat → Eff) :
    s.coreLoads c m n f = f s (s.loadLe (coreMem c m) n) := by
  obtain ⟨h1, h2, h3, h4, h5⟩ := h
  simp [State.coreLoads, State.coreLoad, h1, h2, h3, h4, State.wordReadAt_sound h5, State.wordLost_sound h5]

/-- A word load of a register window has the register's value. -/
theorem State.coreLoads_reg {s : State} {c : Fin 9} {m : Nat} (h : s.regReads c m) (f : State → Nat → Eff) :
    s.coreLoads c m 4 f = f s (s.busRead m).toNat := by
  obtain ⟨h1, h2, h3⟩ := h
  simp [State.coreLoads, State.coreLoad, h1, h2, h3]

theorem State.loadLe_one (s : State) (a : Nat) : s.loadLe a 1 = (s.byte a).toNat := by simp [State.loadLe, State.bytes, leVal]

theorem State.loadLe_two (s : State) (a : Nat) : s.loadLe a 2 = (s.byte a).toNat + 256 * (s.byte (a + 1)).toNat := by
  simp [State.loadLe, State.bytes, leVal]

theorem State.loadLe_four (s : State) (a : Nat) :
    s.loadLe a 4 = (s.byte a).toNat + 256 * (s.byte (a + 1)).toNat
      + 65536 * ((s.byte (a + 2)).toNat + 256 * (s.byte (a + 3)).toNat) := by
  simp only [State.loadLe, State.bytes, leVal]
  rw [show a + 1 + 1 = a + 2 by omega, show a + 2 + 1 = a + 3 by omega]
  omega

/-- A store to the core's own fetch memory is written at once. -/
theorem State.coreStores_own {s : State} {c : Fin 9} {m n : Nat} (h : s.memWrites c m n) (v : Word) (f : State → Eff) :
    s.coreStores c m n v f = f (s.storeNow c ⟨m, n, v⟩) := by
  obtain ⟨h1, h2, -⟩ := h
  simp [State.coreStores, h1, h2]

/-- A store to another window is posted while fewer than 4 are. -/
theorem State.coreStores_posted {s : State} {c : Fin 9} {m n : Nat} (h : s.posts c m n) (v : Word) (f : State → Eff) :
    s.coreStores c m n v f = f (s.setCore c ((s.core c).post m n v)) := by
  obtain ⟨h1, h2, h3⟩ := h
  simp [State.coreStores, h1, h2, h3, Core.post]

@[simp] theorem State.byte_putB (s : State) (f : Fld) (b : Bool) (m : Nat) : (s.putB f b).byte m = s.byte m := rfl
@[simp] theorem State.byte_setLineErr (s : State) (k m : Nat) (e : LineErr) : (s.setLineErr k e).byte m = s.byte m := rfl
@[simp] theorem State.core_putB (s : State) (f : Fld) (b : Bool) (k : Nat) : (s.putB f b).core k = s.core k := rfl
@[simp] theorem State.core_setLineErr (s : State) (j k : Nat) (e : LineErr) : (s.setLineErr j e).core k = s.core k := rfl

@[simp] theorem State.byte_unpoison (s : State) (a m : Nat) : (s.unpoison a).byte m = s.byte m := by
  unfold State.unpoison
  split <;> simp

@[simp] theorem State.core_unpoison (s : State) (a k : Nat) : (s.unpoison a).core k = s.core k := by
  unfold State.unpoison
  split <;> simp

/-- What a fold of steps that each keep a view keeps. -/
theorem foldl_keeps {α β γ : Type} (v : β → γ) (f : β → α → β) (h : ∀ b x, v (f b x) = v b) (l : List α) (b : β) : v (l.foldl f b) = v b := by
  induction l generalizing b with
  | nil => rfl
  | cons x t ih => rw [List.foldl_cons, ih, h]

theorem State.byte_store (s : State) (a : Nat) (l : List Byte) (m : Nat) : (s.store a l).byte m = (s.setBytes a l).byte m :=
  foldl_keeps (fun (t : State) => t.byte m) _ (fun _ _ => State.byte_unpoison _ _ _) _ _

theorem State.core_setBytes (s : State) (l : List Byte) (a k : Nat) : (s.setBytes a l).core k = s.core k := by
  induction l generalizing s a with
  | nil => rfl
  | cons b t ih => rw [State.setBytes, ih]; rfl

theorem State.core_store (s : State) (a k : Nat) (l : List Byte) : (s.store a l).core k = s.core k :=
  (foldl_keeps (fun (t : State) => t.core k) _ (fun _ _ => State.core_unpoison _ _ _) _ _).trans (State.core_setBytes s l a k)

theorem State.rd_unpoison (s : State) (a : Nat) {x : Nat} (h : x ≠ R.MEMM_STAT 16) : (s.unpoison a).rd x = s.rd x := by
  unfold State.unpoison
  split
  · exact State.rd_put_other _ _ _ h
  · rfl

theorem State.rd_setBytes (s : State) (l : List Byte) (a x : Nat) : (s.setBytes a l).rd x = s.rd x := by
  induction l generalizing s a with
  | nil => rfl
  | cons b t ih => rw [State.setBytes, ih]; rfl

theorem State.rd_store (s : State) (a : Nat) (l : List Byte) {x : Nat} (h : x ≠ R.MEMM_STAT 16) : (s.store a l).rd x = s.rd x :=
  (foldl_keeps (fun (t : State) => t.rd x) _ (fun _ _ => State.rd_unpoison _ _ h) _ _).trans (State.rd_setBytes s l a x)

/-- What a store leaves beside memory, cores and registers. -/
theorem State.rest_unpoison (s : State) (a : Nat) :
    ((s.unpoison a).lt, (s.unpoison a).queues, (s.unpoison a).env, (s.unpoison a).out, (s.unpoison a).pending) =
      (s.lt, s.queues, s.env, s.out, s.pending) := by
  unfold State.unpoison
  split <;> rfl

theorem State.rest_store (s : State) (a : Nat) (l : List Byte) :
    ((s.store a l).lt, (s.store a l).queues, (s.store a l).env, (s.store a l).out, (s.store a l).pending) =
      (s.lt, s.queues, s.env, s.out, s.pending) := by
  refine (foldl_keeps (fun (t : State) => (t.lt, t.queues, t.env, t.out, t.pending)) _ (fun _ _ => State.rest_unpoison _ _) _ _).trans ?_
  induction l generalizing s a with
  | nil => rfl
  | cons b t ih => rw [State.setBytes, ih]; rfl

@[simp] theorem leBytes_length (n v : Nat) : (leBytes n v).length = n := by
  induction n generalizing v with
  | zero => rfl
  | succ n ih => simp [leBytes, ih]

theorem leBytes_get (n v j : Nat) (h : j < n) : (leBytes n v)[j]'(by simpa using h) = BitVec.ofNat 8 (v / 256 ^ j) := by
  induction n generalizing v j with
  | zero => omega
  | succ n ih =>
    cases j with
    | zero => simp [leBytes]
    | succ j =>
      simp only [leBytes, List.getElem_cons_succ]
      rw [ih _ _ (by omega), Nat.div_div_eq_div_mul, Nat.pow_succ', ]

/-- Bytes stored where every write takes effect. -/
theorem State.storeNow_stored {s : State} {c : Fin 9} {p : Posted} (hm : memAddr c p.addr = true)
    (h : ∀ j, j < p.width → s.storable c (p.addr + j) = true) (hs : p.width < 4 → s.wordSound (coreMem c p.addr) = true) :
    s.stored (s.storeNow c p) c p.addr p.width p.data ∧ ∀ k, (s.storeNow c p).core k = s.core k := by
  have hall : (List.range (leBytes p.width p.data.toNat).length).all (fun i => s.storable c (p.addr + i)) = true := by
    simp only [leBytes_length, List.all_eq_true, List.mem_range]
    exact h
  have he : s.storeNow c p = s.store (coreMem c p.addr) (leBytes p.width p.data.toNat) := by
    have hr : (if p.width < 4 then s.wordReadAt (coreMem c p.addr) else s) = s := by
      split
      · exact State.wordReadAt_sound (hs ‹_›)
      · rfl
    unfold State.storeNow State.coreStore
    rw [hr, if_pos hm, if_pos hall]
  rw [he]
  refine ⟨⟨fun j hj => ?_, fun x hx => ?_, fun k _ => State.core_store _ _ _ _, fun x hx => State.rd_store _ _ _ hx, ?_⟩, fun k => State.core_store _ _ _ _⟩
  · rw [State.byte_store, State.byte_setBytes_same _ _ _ _ (by simpa using hj), leBytes_get _ _ _ hj]
  · rw [State.byte_store, State.byte_setBytes_other]
    simpa using hx
  · have := State.rest_store s (coreMem c p.addr) (leBytes p.width p.data.toNat)
    simp only [Prod.mk.injEq] at this
    exact this

end Sys2Proof.Machine
end

