-- ==== Sys2Proof/Laws/Units.lean ====
section
/-! SUPPORT. What each update of one unit's state leaves as it was: one lemma per field per update, true by computation. -/

set_option Elab.async false

namespace Sys2Proof.Machine

variable (s : State)

@[simp] theorem State.setBoot_regs (b : BootSt) : (s.setBoot b).regs = s.regs := rfl
@[simp] theorem State.setBoot_mem (b : BootSt) : (s.setBoot b).mem = s.mem := rfl
@[simp] theorem State.setBoot_lt (b : BootSt) : (s.setBoot b).lt = s.lt := rfl
@[simp] theorem State.setBoot_vco (b : BootSt) : (s.setBoot b).vco = s.vco := rfl
@[simp] theorem State.setBoot_tileAt (b : BootSt) : (s.setBoot b).tileAt = s.tileAt := rfl
@[simp] theorem State.setBoot_sleepNs (b : BootSt) : (s.setBoot b).sleepNs = s.sleepNs := rfl
@[simp] theorem State.setBoot_time (b : BootSt) : (s.setBoot b).time = s.time := rfl
@[simp] theorem State.setBoot_ticks (b : BootSt) : (s.setBoot b).ticks = s.ticks := rfl
@[simp] theorem State.setBoot_com (b : BootSt) : (s.setBoot b).com = s.com := rfl
@[simp] theorem State.setBoot_cores (b : BootSt) : (s.setBoot b).cores = s.cores := rfl
@[simp] theorem State.setBoot_out (b : BootSt) : (s.setBoot b).out = s.out := rfl
@[simp] theorem State.setBoot_herd (b : BootSt) : (s.setBoot b).herd = s.herd := rfl
@[simp] theorem State.setBoot_link (b : BootSt) : (s.setBoot b).link = s.link := rfl
@[simp] theorem State.setBoot_pwr (b : BootSt) : (s.setBoot b).pwr = s.pwr := rfl
@[simp] theorem State.setBoot_queues (b : BootSt) : (s.setBoot b).queues = s.queues := rfl
@[simp] theorem State.setBoot_log (b : BootSt) : (s.setBoot b).log = s.log := rfl
@[simp] theorem State.setBoot_logUnsent (b : BootSt) : (s.setBoot b).logUnsent = s.logUnsent := rfl
@[simp] theorem State.setBoot_acts (b : BootSt) : (s.setBoot b).acts = s.acts := rfl
@[simp] theorem State.setBoot_key (b : BootSt) : (s.setBoot b).key = s.key := rfl
@[simp] theorem State.setBoot_tws (b : BootSt) : (s.setBoot b).tws = s.tws := rfl
@[simp] theorem State.setBoot_freeCtr (b : BootSt) : (s.setBoot b).freeCtr = s.freeCtr := rfl
@[simp] theorem State.setBoot_pending (b : BootSt) : (s.setBoot b).pending = s.pending := rfl
@[simp] theorem State.setBoot_thr (b : BootSt) : (s.setBoot b).thr = s.thr := rfl
@[simp] theorem State.setBoot_host (b : BootSt) : (s.setBoot b).host = s.host := rfl
@[simp] theorem State.setBoot_svc (b : BootSt) : (s.setBoot b).svc = s.svc := rfl
@[simp] theorem State.setBoot_watch (b : BootSt) : (s.setBoot b).watch = s.watch := rfl
@[simp] theorem State.setBoot_co (b : BootSt) : (s.setBoot b).co = s.co := rfl
@[simp] theorem State.setBoot_tiles (b : BootSt) : (s.setBoot b).tiles = s.tiles := rfl
@[simp] theorem State.setBoot_spanFrom (b : BootSt) : (s.setBoot b).spanFrom = s.spanFrom := rfl
@[simp] theorem State.setBoot_spans (b : BootSt) : (s.setBoot b).spans = s.spans := rfl
@[simp] theorem State.setBoot_uncertain (b : BootSt) : (s.setBoot b).uncertain = s.uncertain := rfl
@[simp] theorem State.rd_setBoot (a0 : Nat) (b : BootSt) : (s.setBoot b).rd a0 = s.rd a0 := rfl
@[simp] theorem State.get_setBoot (g0 : Fld) (b : BootSt) : (s.setBoot b).get g0 = s.get g0 := rfl
@[simp] theorem State.isSet_setBoot (g0 : Fld) (b : BootSt) : (s.setBoot b).isSet g0 = s.isSet g0 := rfl
@[simp] theorem State.core_setBoot (k0 : Nat) (b : BootSt) : (s.setBoot b).core k0 = s.core k0 := rfl
@[simp] theorem State.byte_setBoot (a0 : Nat) (b : BootSt) : (s.setBoot b).byte a0 = s.byte a0 := rfl

@[simp] theorem State.setPwr_regs (b : PwrSt) : (s.setPwr b).regs = s.regs := rfl
@[simp] theorem State.setPwr_mem (b : PwrSt) : (s.setPwr b).mem = s.mem := rfl
@[simp] theorem State.setPwr_lt (b : PwrSt) : (s.setPwr b).lt = s.lt := rfl
@[simp] theorem State.setPwr_vco (b : PwrSt) : (s.setPwr b).vco = s.vco := rfl
@[simp] theorem State.setPwr_tileAt (b : PwrSt) : (s.setPwr b).tileAt = s.tileAt := rfl
@[simp] theorem State.setPwr_sleepNs (b : PwrSt) : (s.setPwr b).sleepNs = s.sleepNs := rfl
@[simp] theorem State.setPwr_time (b : PwrSt) : (s.setPwr b).time = s.time := rfl
@[simp] theorem State.setPwr_ticks (b : PwrSt) : (s.setPwr b).ticks = s.ticks := rfl
@[simp] theorem State.setPwr_com (b : PwrSt) : (s.setPwr b).com = s.com := rfl
@[simp] theorem State.setPwr_cores (b : PwrSt) : (s.setPwr b).cores = s.cores := rfl
@[simp] theorem State.setPwr_out (b : PwrSt) : (s.setPwr b).out = s.out := rfl
@[simp] theorem State.setPwr_herd (b : PwrSt) : (s.setPwr b).herd = s.herd := rfl
@[simp] theorem State.setPwr_link (b : PwrSt) : (s.setPwr b).link = s.link := rfl
@[simp] theorem State.setPwr_boot (b : PwrSt) : (s.setPwr b).boot = s.boot := rfl
@[simp] theorem State.setPwr_queues (b : PwrSt) : (s.setPwr b).queues = s.queues := rfl
@[simp] theorem State.setPwr_log (b : PwrSt) : (s.setPwr b).log = s.log := rfl
@[simp] theorem State.setPwr_logUnsent (b : PwrSt) : (s.setPwr b).logUnsent = s.logUnsent := rfl
@[simp] theorem State.setPwr_acts (b : PwrSt) : (s.setPwr b).acts = s.acts := rfl
@[simp] theorem State.setPwr_key (b : PwrSt) : (s.setPwr b).key = s.key := rfl
@[simp] theorem State.setPwr_tws (b : PwrSt) : (s.setPwr b).tws = s.tws := rfl
@[simp] theorem State.setPwr_freeCtr (b : PwrSt) : (s.setPwr b).freeCtr = s.freeCtr := rfl
@[simp] theorem State.setPwr_pending (b : PwrSt) : (s.setPwr b).pending = s.pending := rfl
@[simp] theorem State.setPwr_thr (b : PwrSt) : (s.setPwr b).thr = s.thr := rfl
@[simp] theorem State.setPwr_host (b : PwrSt) : (s.setPwr b).host = s.host := rfl
@[simp] theorem State.setPwr_svc (b : PwrSt) : (s.setPwr b).svc = s.svc := rfl
@[simp] theorem State.setPwr_watch (b : PwrSt) : (s.setPwr b).watch = s.watch := rfl
@[simp] theorem State.setPwr_co (b : PwrSt) : (s.setPwr b).co = s.co := rfl
@[simp] theorem State.setPwr_tiles (b : PwrSt) : (s.setPwr b).tiles = s.tiles := rfl
@[simp] theorem State.setPwr_spanFrom (b : PwrSt) : (s.setPwr b).spanFrom = s.spanFrom := rfl
@[simp] theorem State.setPwr_spans (b : PwrSt) : (s.setPwr b).spans = s.spans := rfl
@[simp] theorem State.setPwr_uncertain (b : PwrSt) : (s.setPwr b).uncertain = s.uncertain := rfl
@[simp] theorem State.rd_setPwr (a0 : Nat) (b : PwrSt) : (s.setPwr b).rd a0 = s.rd a0 := rfl
@[simp] theorem State.get_setPwr (g0 : Fld) (b : PwrSt) : (s.setPwr b).get g0 = s.get g0 := rfl
@[simp] theorem State.isSet_setPwr (g0 : Fld) (b : PwrSt) : (s.setPwr b).isSet g0 = s.isSet g0 := rfl
@[simp] theorem State.core_setPwr (k0 : Nat) (b : PwrSt) : (s.setPwr b).core k0 = s.core k0 := rfl
@[simp] theorem State.byte_setPwr (a0 : Nat) (b : PwrSt) : (s.setPwr b).byte a0 = s.byte a0 := rfl

@[simp] theorem State.herdMap_regs (g : HerdSt → HerdSt) : (s.herdMap g).regs = s.regs := rfl
@[simp] theorem State.herdMap_mem (g : HerdSt → HerdSt) : (s.herdMap g).mem = s.mem := rfl
@[simp] theorem State.herdMap_lt (g : HerdSt → HerdSt) : (s.herdMap g).lt = s.lt := rfl
@[simp] theorem State.herdMap_vco (g : HerdSt → HerdSt) : (s.herdMap g).vco = s.vco := rfl
@[simp] theorem State.herdMap_tileAt (g : HerdSt → HerdSt) : (s.herdMap g).tileAt = s.tileAt := rfl
@[simp] theorem State.herdMap_sleepNs (g : HerdSt → HerdSt) : (s.herdMap g).sleepNs = s.sleepNs := rfl
@[simp] theorem State.herdMap_time (g : HerdSt → HerdSt) : (s.herdMap g).time = s.time := rfl
@[simp] theorem State.herdMap_ticks (g : HerdSt → HerdSt) : (s.herdMap g).ticks = s.ticks := rfl
@[simp] theorem State.herdMap_com (g : HerdSt → HerdSt) : (s.herdMap g).com = s.com := rfl
@[simp] theorem State.herdMap_cores (g : HerdSt → HerdSt) : (s.herdMap g).cores = s.cores := rfl
@[simp] theorem State.herdMap_out (g : HerdSt → HerdSt) : (s.herdMap g).out = s.out := rfl
@[simp] theorem State.herdMap_link (g : HerdSt → HerdSt) : (s.herdMap g).link = s.link := rfl
@[simp] theorem State.herdMap_boot (g : HerdSt → HerdSt) : (s.herdMap g).boot = s.boot := rfl
@[simp] theorem State.herdMap_pwr (g : HerdSt → HerdSt) : (s.herdMap g).pwr = s.pwr := rfl
@[simp] theorem State.herdMap_queues (g : HerdSt → HerdSt) : (s.herdMap g).queues = s.queues := rfl
@[simp] theorem State.herdMap_log (g : HerdSt → HerdSt) : (s.herdMap g).log = s.log := rfl
@[simp] theorem State.herdMap_logUnsent (g : HerdSt → HerdSt) : (s.herdMap g).logUnsent = s.logUnsent := rfl
@[simp] theorem State.herdMap_acts (g : HerdSt → HerdSt) : (s.herdMap g).acts = s.acts := rfl
@[simp] theorem State.herdMap_key (g : HerdSt → HerdSt) : (s.herdMap g).key = s.key := rfl
@[simp] theorem State.herdMap_tws (g : HerdSt → HerdSt) : (s.herdMap g).tws = s.tws := rfl
@[simp] theorem State.herdMap_freeCtr (g : HerdSt → HerdSt) : (s.herdMap g).freeCtr = s.freeCtr := rfl
@[simp] theorem State.herdMap_pending (g : HerdSt → HerdSt) : (s.herdMap g).pending = s.pending := rfl
@[simp] theorem State.herdMap_thr (g : HerdSt → HerdSt) : (s.herdMap g).thr = s.thr := rfl
@[simp] theorem State.herdMap_host (g : HerdSt → HerdSt) : (s.herdMap g).host = s.host := rfl
@[simp] theorem State.herdMap_svc (g : HerdSt → HerdSt) : (s.herdMap g).svc = s.svc := rfl
@[simp] theorem State.herdMap_watch (g : HerdSt → HerdSt) : (s.herdMap g).watch = s.watch := rfl
@[simp] theorem State.herdMap_co (g : HerdSt → HerdSt) : (s.herdMap g).co = s.co := rfl
@[simp] theorem State.herdMap_tiles (g : HerdSt → HerdSt) : (s.herdMap g).tiles = s.tiles := rfl
@[simp] theorem State.herdMap_spanFrom (g : HerdSt → HerdSt) : (s.herdMap g).spanFrom = s.spanFrom := rfl
@[simp] theorem State.herdMap_spans (g : HerdSt → HerdSt) : (s.herdMap g).spans = s.spans := rfl
@[simp] theorem State.herdMap_uncertain (g : HerdSt → HerdSt) : (s.herdMap g).uncertain = s.uncertain := rfl
@[simp] theorem State.rd_herdMap (a0 : Nat) (g : HerdSt → HerdSt) : (s.herdMap g).rd a0 = s.rd a0 := rfl
@[simp] theorem State.get_herdMap (g0 : Fld) (g : HerdSt → HerdSt) : (s.herdMap g).get g0 = s.get g0 := rfl
@[simp] theorem State.isSet_herdMap (g0 : Fld) (g : HerdSt → HerdSt) : (s.herdMap g).isSet g0 = s.isSet g0 := rfl
@[simp] theorem State.core_herdMap (k0 : Nat) (g : HerdSt → HerdSt) : (s.herdMap g).core k0 = s.core k0 := rfl
@[simp] theorem State.byte_herdMap (a0 : Nat) (g : HerdSt → HerdSt) : (s.herdMap g).byte a0 = s.byte a0 := rfl

@[simp] theorem State.setKey_regs (b : KeySt) : (s.setKey b).regs = s.regs := rfl
@[simp] theorem State.setKey_mem (b : KeySt) : (s.setKey b).mem = s.mem := rfl
@[simp] theorem State.setKey_lt (b : KeySt) : (s.setKey b).lt = s.lt := rfl
@[simp] theorem State.setKey_vco (b : KeySt) : (s.setKey b).vco = s.vco := rfl
@[simp] theorem State.setKey_tileAt (b : KeySt) : (s.setKey b).tileAt = s.tileAt := rfl
@[simp] theorem State.setKey_sleepNs (b : KeySt) : (s.setKey b).sleepNs = s.sleepNs := rfl
@[simp] theorem State.setKey_time (b : KeySt) : (s.setKey b).time = s.time := rfl
@[simp] theorem State.setKey_ticks (b : KeySt) : (s.setKey b).ticks = s.ticks := rfl
@[simp] theorem State.setKey_com (b : KeySt) : (s.setKey b).com = s.com := rfl
@[simp] theorem State.setKey_cores (b : KeySt) : (s.setKey b).cores = s.cores := rfl
@[simp] theorem State.setKey_out (b : KeySt) : (s.setKey b).out = s.out := rfl
@[simp] theorem State.setKey_herd (b : KeySt) : (s.setKey b).herd = s.herd := rfl
@[simp] theorem State.setKey_link (b : KeySt) : (s.setKey b).link = s.link := rfl
@[simp] theorem State.setKey_boot (b : KeySt) : (s.setKey b).boot = s.boot := rfl
@[simp] theorem State.setKey_pwr (b : KeySt) : (s.setKey b).pwr = s.pwr := rfl
@[simp] theorem State.setKey_queues (b : KeySt) : (s.setKey b).queues = s.queues := rfl
@[simp] theorem State.setKey_log (b : KeySt) : (s.setKey b).log = s.log := rfl
@[simp] theorem State.setKey_logUnsent (b : KeySt) : (s.setKey b).logUnsent = s.logUnsent := rfl
@[simp] theorem State.setKey_acts (b : KeySt) : (s.setKey b).acts = s.acts := rfl
@[simp] theorem State.setKey_tws (b : KeySt) : (s.setKey b).tws = s.tws := rfl
@[simp] theorem State.setKey_freeCtr (b : KeySt) : (s.setKey b).freeCtr = s.freeCtr := rfl
@[simp] theorem State.setKey_pending (b : KeySt) : (s.setKey b).pending = s.pending := rfl
@[simp] theorem State.setKey_thr (b : KeySt) : (s.setKey b).thr = s.thr := rfl
@[simp] theorem State.setKey_host (b : KeySt) : (s.setKey b).host = s.host := rfl
@[simp] theorem State.setKey_svc (b : KeySt) : (s.setKey b).svc = s.svc := rfl
@[simp] theorem State.setKey_watch (b : KeySt) : (s.setKey b).watch = s.watch := rfl
@[simp] theorem State.setKey_co (b : KeySt) : (s.setKey b).co = s.co := rfl
@[simp] theorem State.setKey_tiles (b : KeySt) : (s.setKey b).tiles = s.tiles := rfl
@[simp] theorem State.setKey_spanFrom (b : KeySt) : (s.setKey b).spanFrom = s.spanFrom := rfl
@[simp] theorem State.setKey_spans (b : KeySt) : (s.setKey b).spans = s.spans := rfl
@[simp] theorem State.setKey_uncertain (b : KeySt) : (s.setKey b).uncertain = s.uncertain := rfl
@[simp] theorem State.rd_setKey (a0 : Nat) (b : KeySt) : (s.setKey b).rd a0 = s.rd a0 := rfl
@[simp] theorem State.get_setKey (g0 : Fld) (b : KeySt) : (s.setKey b).get g0 = s.get g0 := rfl
@[simp] theorem State.isSet_setKey (g0 : Fld) (b : KeySt) : (s.setKey b).isSet g0 = s.isSet g0 := rfl
@[simp] theorem State.core_setKey (k0 : Nat) (b : KeySt) : (s.setKey b).core k0 = s.core k0 := rfl
@[simp] theorem State.byte_setKey (a0 : Nat) (b : KeySt) : (s.setKey b).byte a0 = s.byte a0 := rfl

@[simp] theorem State.setWatch_regs (b : WatchSt) : (s.setWatch b).regs = s.regs := rfl
@[simp] theorem State.setWatch_mem (b : WatchSt) : (s.setWatch b).mem = s.mem := rfl
@[simp] theorem State.setWatch_lt (b : WatchSt) : (s.setWatch b).lt = s.lt := rfl
@[simp] theorem State.setWatch_vco (b : WatchSt) : (s.setWatch b).vco = s.vco := rfl
@[simp] theorem State.setWatch_tileAt (b : WatchSt) : (s.setWatch b).tileAt = s.tileAt := rfl
@[simp] theorem State.setWatch_sleepNs (b : WatchSt) : (s.setWatch b).sleepNs = s.sleepNs := rfl
@[simp] theorem State.setWatch_time (b : WatchSt) : (s.setWatch b).time = s.time := rfl
@[simp] theorem State.setWatch_ticks (b : WatchSt) : (s.setWatch b).ticks = s.ticks := rfl
@[simp] theorem State.setWatch_com (b : WatchSt) : (s.setWatch b).com = s.com := rfl
@[simp] theorem State.setWatch_cores (b : WatchSt) : (s.setWatch b).cores = s.cores := rfl
@[simp] theorem State.setWatch_out (b : WatchSt) : (s.setWatch b).out = s.out := rfl
@[simp] theorem State.setWatch_herd (b : WatchSt) : (s.setWatch b).herd = s.herd := rfl
@[simp] theorem State.setWatch_link (b : WatchSt) : (s.setWatch b).link = s.link := rfl
@[simp] theorem State.setWatch_boot (b : WatchSt) : (s.setWatch b).boot = s.boot := rfl
@[simp] theorem State.setWatch_pwr (b : WatchSt) : (s.setWatch b).pwr = s.pwr := rfl
@[simp] theorem State.setWatch_queues (b : WatchSt) : (s.setWatch b).queues = s.queues := rfl
@[simp] theorem State.setWatch_log (b : WatchSt) : (s.setWatch b).log = s.log := rfl
@[simp] theorem State.setWatch_logUnsent (b : WatchSt) : (s.setWatch b).logUnsent = s.logUnsent := rfl
@[simp] theorem State.setWatch_acts (b : WatchSt) : (s.setWatch b).acts = s.acts := rfl
@[simp] theorem State.setWatch_key (b : WatchSt) : (s.setWatch b).key = s.key := rfl
@[simp] theorem State.setWatch_tws (b : WatchSt) : (s.setWatch b).tws = s.tws := rfl
@[simp] theorem State.setWatch_freeCtr (b : WatchSt) : (s.setWatch b).freeCtr = s.freeCtr := rfl
@[simp] theorem State.setWatch_pending (b : WatchSt) : (s.setWatch b).pending = s.pending := rfl
@[simp] theorem State.setWatch_thr (b : WatchSt) : (s.setWatch b).thr = s.thr := rfl
@[simp] theorem State.setWatch_host (b : WatchSt) : (s.setWatch b).host = s.host := rfl
@[simp] theorem State.setWatch_svc (b : WatchSt) : (s.setWatch b).svc = s.svc := rfl
@[simp] theorem State.setWatch_co (b : WatchSt) : (s.setWatch b).co = s.co := rfl
@[simp] theorem State.setWatch_tiles (b : WatchSt) : (s.setWatch b).tiles = s.tiles := rfl
@[simp] theorem State.setWatch_spanFrom (b : WatchSt) : (s.setWatch b).spanFrom = s.spanFrom := rfl
@[simp] theorem State.setWatch_spans (b : WatchSt) : (s.setWatch b).spans = s.spans := rfl
@[simp] theorem State.setWatch_uncertain (b : WatchSt) : (s.setWatch b).uncertain = s.uncertain := rfl
@[simp] theorem State.rd_setWatch (a0 : Nat) (b : WatchSt) : (s.setWatch b).rd a0 = s.rd a0 := rfl
@[simp] theorem State.get_setWatch (g0 : Fld) (b : WatchSt) : (s.setWatch b).get g0 = s.get g0 := rfl
@[simp] theorem State.isSet_setWatch (g0 : Fld) (b : WatchSt) : (s.setWatch b).isSet g0 = s.isSet g0 := rfl
@[simp] theorem State.core_setWatch (k0 : Nat) (b : WatchSt) : (s.setWatch b).core k0 = s.core k0 := rfl
@[simp] theorem State.byte_setWatch (a0 : Nat) (b : WatchSt) : (s.setWatch b).byte a0 = s.byte a0 := rfl

@[simp] theorem State.setCo_regs (b : CoSt) : (s.setCo b).regs = s.regs := rfl
@[simp] theorem State.setCo_mem (b : CoSt) : (s.setCo b).mem = s.mem := rfl
@[simp] theorem State.setCo_lt (b : CoSt) : (s.setCo b).lt = s.lt := rfl
@[simp] theorem State.setCo_vco (b : CoSt) : (s.setCo b).vco = s.vco := rfl
@[simp] theorem State.setCo_tileAt (b : CoSt) : (s.setCo b).tileAt = s.tileAt := rfl
@[simp] theorem State.setCo_sleepNs (b : CoSt) : (s.setCo b).sleepNs = s.sleepNs := rfl
@[simp] theorem State.setCo_time (b : CoSt) : (s.setCo b).time = s.time := rfl
@[simp] theorem State.setCo_ticks (b : CoSt) : (s.setCo b).ticks = s.ticks := rfl
@[simp] theorem State.setCo_com (b : CoSt) : (s.setCo b).com = s.com := rfl
@[simp] theorem State.setCo_cores (b : CoSt) : (s.setCo b).cores = s.cores := rfl
@[simp] theorem State.setCo_out (b : CoSt) : (s.setCo b).out = s.out := rfl
@[simp] theorem State.setCo_herd (b : CoSt) : (s.setCo b).herd = s.herd := rfl
@[simp] theorem State.setCo_link (b : CoSt) : (s.setCo b).link = s.link := rfl
@[simp] theorem State.setCo_boot (b : CoSt) : (s.setCo b).boot = s.boot := rfl
@[simp] theorem State.setCo_pwr (b : CoSt) : (s.setCo b).pwr = s.pwr := rfl
@[simp] theorem State.setCo_queues (b : CoSt) : (s.setCo b).queues = s.queues := rfl
@[simp] theorem State.setCo_log (b : CoSt) : (s.setCo b).log = s.log := rfl
@[simp] theorem State.setCo_logUnsent (b : CoSt) : (s.setCo b).logUnsent = s.logUnsent := rfl
@[simp] theorem State.setCo_acts (b : CoSt) : (s.setCo b).acts = s.acts := rfl
@[simp] theorem State.setCo_key (b : CoSt) : (s.setCo b).key = s.key := rfl
@[simp] theorem State.setCo_tws (b : CoSt) : (s.setCo b).tws = s.tws := rfl
@[simp] theorem State.setCo_freeCtr (b : CoSt) : (s.setCo b).freeCtr = s.freeCtr := rfl
@[simp] theorem State.setCo_pending (b : CoSt) : (s.setCo b).pending = s.pending := rfl
@[simp] theorem State.setCo_thr (b : CoSt) : (s.setCo b).thr = s.thr := rfl
@[simp] theorem State.setCo_host (b : CoSt) : (s.setCo b).host = s.host := rfl
@[simp] theorem State.setCo_svc (b : CoSt) : (s.setCo b).svc = s.svc := rfl
@[simp] theorem State.setCo_watch (b : CoSt) : (s.setCo b).watch = s.watch := rfl
@[simp] theorem State.setCo_tiles (b : CoSt) : (s.setCo b).tiles = s.tiles := rfl
@[simp] theorem State.setCo_spanFrom (b : CoSt) : (s.setCo b).spanFrom = s.spanFrom := rfl
@[simp] theorem State.setCo_spans (b : CoSt) : (s.setCo b).spans = s.spans := rfl
@[simp] theorem State.setCo_uncertain (b : CoSt) : (s.setCo b).uncertain = s.uncertain := rfl
@[simp] theorem State.rd_setCo (a0 : Nat) (b : CoSt) : (s.setCo b).rd a0 = s.rd a0 := rfl
@[simp] theorem State.get_setCo (g0 : Fld) (b : CoSt) : (s.setCo b).get g0 = s.get g0 := rfl
@[simp] theorem State.isSet_setCo (g0 : Fld) (b : CoSt) : (s.setCo b).isSet g0 = s.isSet g0 := rfl
@[simp] theorem State.core_setCo (k0 : Nat) (b : CoSt) : (s.setCo b).core k0 = s.core k0 := rfl
@[simp] theorem State.byte_setCo (a0 : Nat) (b : CoSt) : (s.setCo b).byte a0 = s.byte a0 := rfl

@[simp] theorem State.setTw_regs (n : Nat) (b : TwSt) : (s.setTw n b).regs = s.regs := rfl
@[simp] theorem State.setTw_mem (n : Nat) (b : TwSt) : (s.setTw n b).mem = s.mem := rfl
@[simp] theorem State.setTw_lt (n : Nat) (b : TwSt) : (s.setTw n b).lt = s.lt := rfl
@[simp] theorem State.setTw_vco (n : Nat) (b : TwSt) : (s.setTw n b).vco = s.vco := rfl
@[simp] theorem State.setTw_tileAt (n : Nat) (b : TwSt) : (s.setTw n b).tileAt = s.tileAt := rfl
@[simp] theorem State.setTw_sleepNs (n : Nat) (b : TwSt) : (s.setTw n b).sleepNs = s.sleepNs := rfl
@[simp] theorem State.setTw_time (n : Nat) (b : TwSt) : (s.setTw n b).time = s.time := rfl
@[simp] theorem State.setTw_ticks (n : Nat) (b : TwSt) : (s.setTw n b).ticks = s.ticks := rfl
@[simp] theorem State.setTw_com (n : Nat) (b : TwSt) : (s.setTw n b).com = s.com := rfl
@[simp] theorem State.setTw_cores (n : Nat) (b : TwSt) : (s.setTw n b).cores = s.cores := rfl
@[simp] theorem State.setTw_out (n : Nat) (b : TwSt) : (s.setTw n b).out = s.out := rfl
@[simp] theorem State.setTw_herd (n : Nat) (b : TwSt) : (s.setTw n b).herd = s.herd := rfl
@[simp] theorem State.setTw_link (n : Nat) (b : TwSt) : (s.setTw n b).link = s.link := rfl
@[simp] theorem State.setTw_boot (n : Nat) (b : TwSt) : (s.setTw n b).boot = s.boot := rfl
@[simp] theorem State.setTw_pwr (n : Nat) (b : TwSt) : (s.setTw n b).pwr = s.pwr := rfl
@[simp] theorem State.setTw_queues (n : Nat) (b : TwSt) : (s.setTw n b).queues = s.queues := rfl
@[simp] theorem State.setTw_log (n : Nat) (b : TwSt) : (s.setTw n b).log = s.log := rfl
@[simp] theorem State.setTw_logUnsent (n : Nat) (b : TwSt) : (s.setTw n b).logUnsent = s.logUnsent := rfl
@[simp] theorem State.setTw_acts (n : Nat) (b : TwSt) : (s.setTw n b).acts = s.acts := rfl
@[simp] theorem State.setTw_key (n : Nat) (b : TwSt) : (s.setTw n b).key = s.key := rfl
@[simp] theorem State.setTw_freeCtr (n : Nat) (b : TwSt) : (s.setTw n b).freeCtr = s.freeCtr := rfl
@[simp] theorem State.setTw_pending (n : Nat) (b : TwSt) : (s.setTw n b).pending = s.pending := rfl
@[simp] theorem State.setTw_thr (n : Nat) (b : TwSt) : (s.setTw n b).thr = s.thr := rfl
@[simp] theorem State.setTw_host (n : Nat) (b : TwSt) : (s.setTw n b).host = s.host := rfl
@[simp] theorem State.setTw_svc (n : Nat) (b : TwSt) : (s.setTw n b).svc = s.svc := rfl
@[simp] theorem State.setTw_watch (n : Nat) (b : TwSt) : (s.setTw n b).watch = s.watch := rfl
@[simp] theorem State.setTw_co (n : Nat) (b : TwSt) : (s.setTw n b).co = s.co := rfl
@[simp] theorem State.setTw_tiles (n : Nat) (b : TwSt) : (s.setTw n b).tiles = s.tiles := rfl
@[simp] theorem State.setTw_spanFrom (n : Nat) (b : TwSt) : (s.setTw n b).spanFrom = s.spanFrom := rfl
@[simp] theorem State.setTw_spans (n : Nat) (b : TwSt) : (s.setTw n b).spans = s.spans := rfl
@[simp] theorem State.setTw_uncertain (n : Nat) (b : TwSt) : (s.setTw n b).uncertain = s.uncertain := rfl
@[simp] theorem State.rd_setTw (a0 : Nat) (n : Nat) (b : TwSt) : (s.setTw n b).rd a0 = s.rd a0 := rfl
@[simp] theorem State.get_setTw (g0 : Fld) (n : Nat) (b : TwSt) : (s.setTw n b).get g0 = s.get g0 := rfl
@[simp] theorem State.isSet_setTw (g0 : Fld) (n : Nat) (b : TwSt) : (s.setTw n b).isSet g0 = s.isSet g0 := rfl
@[simp] theorem State.core_setTw (k0 : Nat) (n : Nat) (b : TwSt) : (s.setTw n b).core k0 = s.core k0 := rfl
@[simp] theorem State.byte_setTw (a0 : Nat) (n : Nat) (b : TwSt) : (s.setTw n b).byte a0 = s.byte a0 := rfl

@[simp] theorem State.setQueue_regs (n : Nat) (b : Queue) : (s.setQueue n b).regs = s.regs := rfl
@[simp] theorem State.setQueue_mem (n : Nat) (b : Queue) : (s.setQueue n b).mem = s.mem := rfl
@[simp] theorem State.setQueue_lt (n : Nat) (b : Queue) : (s.setQueue n b).lt = s.lt := rfl
@[simp] theorem State.setQueue_vco (n : Nat) (b : Queue) : (s.setQueue n b).vco = s.vco := rfl
@[simp] theorem State.setQueue_tileAt (n : Nat) (b : Queue) : (s.setQueue n b).tileAt = s.tileAt := rfl
@[simp] theorem State.setQueue_sleepNs (n : Nat) (b : Queue) : (s.setQueue n b).sleepNs = s.sleepNs := rfl
@[simp] theorem State.setQueue_time (n : Nat) (b : Queue) : (s.setQueue n b).time = s.time := rfl
@[simp] theorem State.setQueue_ticks (n : Nat) (b : Queue) : (s.setQueue n b).ticks = s.ticks := rfl
@[simp] theorem State.setQueue_com (n : Nat) (b : Queue) : (s.setQueue n b).com = s.com := rfl
@[simp] theorem State.setQueue_cores (n : Nat) (b : Queue) : (s.setQueue n b).cores = s.cores := rfl
@[simp] theorem State.setQueue_out (n : Nat) (b : Queue) : (s.setQueue n b).out = s.out := rfl
@[simp] theorem State.setQueue_herd (n : Nat) (b : Queue) : (s.setQueue n b).herd = s.herd := rfl
@[simp] theorem State.setQueue_link (n : Nat) (b : Queue) : (s.setQueue n b).link = s.link := rfl
@[simp] theorem State.setQueue_boot (n : Nat) (b : Queue) : (s.setQueue n b).boot = s.boot := rfl
@[simp] theorem State.setQueue_pwr (n : Nat) (b : Queue) : (s.setQueue n b).pwr = s.pwr := rfl
@[simp] theorem State.setQueue_log (n : Nat) (b : Queue) : (s.setQueue n b).log = s.log := rfl
@[simp] theorem State.setQueue_logUnsent (n : Nat) (b : Queue) : (s.setQueue n b).logUnsent = s.logUnsent := rfl
@[simp] theorem State.setQueue_acts (n : Nat) (b : Queue) : (s.setQueue n b).acts = s.acts := rfl
@[simp] theorem State.setQueue_key (n : Nat) (b : Queue) : (s.setQueue n b).key = s.key := rfl
@[simp] theorem State.setQueue_tws (n : Nat) (b : Queue) : (s.setQueue n b).tws = s.tws := rfl
@[simp] theorem State.setQueue_freeCtr (n : Nat) (b : Queue) : (s.setQueue n b).freeCtr = s.freeCtr := rfl
@[simp] theorem State.setQueue_pending (n : Nat) (b : Queue) : (s.setQueue n b).pending = s.pending := rfl
@[simp] theorem State.setQueue_thr (n : Nat) (b : Queue) : (s.setQueue n b).thr = s.thr := rfl
@[simp] theorem State.setQueue_host (n : Nat) (b : Queue) : (s.setQueue n b).host = s.host := rfl
@[simp] theorem State.setQueue_svc (n : Nat) (b : Queue) : (s.setQueue n b).svc = s.svc := rfl
@[simp] theorem State.setQueue_watch (n : Nat) (b : Queue) : (s.setQueue n b).watch = s.watch := rfl
@[simp] theorem State.setQueue_co (n : Nat) (b : Queue) : (s.setQueue n b).co = s.co := rfl
@[simp] theorem State.setQueue_tiles (n : Nat) (b : Queue) : (s.setQueue n b).tiles = s.tiles := rfl
@[simp] theorem State.setQueue_spanFrom (n : Nat) (b : Queue) : (s.setQueue n b).spanFrom = s.spanFrom := rfl
@[simp] theorem State.setQueue_spans (n : Nat) (b : Queue) : (s.setQueue n b).spans = s.spans := rfl
@[simp] theorem State.setQueue_uncertain (n : Nat) (b : Queue) : (s.setQueue n b).uncertain = s.uncertain := rfl
@[simp] theorem State.rd_setQueue (a0 : Nat) (n : Nat) (b : Queue) : (s.setQueue n b).rd a0 = s.rd a0 := rfl
@[simp] theorem State.get_setQueue (g0 : Fld) (n : Nat) (b : Queue) : (s.setQueue n b).get g0 = s.get g0 := rfl
@[simp] theorem State.isSet_setQueue (g0 : Fld) (n : Nat) (b : Queue) : (s.setQueue n b).isSet g0 = s.isSet g0 := rfl
@[simp] theorem State.core_setQueue (k0 : Nat) (n : Nat) (b : Queue) : (s.setQueue n b).core k0 = s.core k0 := rfl
@[simp] theorem State.byte_setQueue (a0 : Nat) (n : Nat) (b : Queue) : (s.setQueue n b).byte a0 = s.byte a0 := rfl

@[simp] theorem State.setTimer_regs (m n : Nat) (b : Timer) : (s.setTimer m n b).regs = s.regs := rfl
@[simp] theorem State.setTimer_mem (m n : Nat) (b : Timer) : (s.setTimer m n b).mem = s.mem := rfl
@[simp] theorem State.setTimer_lt (m n : Nat) (b : Timer) : (s.setTimer m n b).lt = s.lt := rfl
@[simp] theorem State.setTimer_vco (m n : Nat) (b : Timer) : (s.setTimer m n b).vco = s.vco := rfl
@[simp] theorem State.setTimer_tileAt (m n : Nat) (b : Timer) : (s.setTimer m n b).tileAt = s.tileAt := rfl
@[simp] theorem State.setTimer_sleepNs (m n : Nat) (b : Timer) : (s.setTimer m n b).sleepNs = s.sleepNs := rfl
@[simp] theorem State.setTimer_time (m n : Nat) (b : Timer) : (s.setTimer m n b).time = s.time := rfl
@[simp] theorem State.setTimer_ticks (m n : Nat) (b : Timer) : (s.setTimer m n b).ticks = s.ticks := rfl
@[simp] theorem State.setTimer_com (m n : Nat) (b : Timer) : (s.setTimer m n b).com = s.com := rfl
@[simp] theorem State.setTimer_cores (m n : Nat) (b : Timer) : (s.setTimer m n b).cores = s.cores := rfl
@[simp] theorem State.setTimer_out (m n : Nat) (b : Timer) : (s.setTimer m n b).out = s.out := rfl
@[simp] theorem State.setTimer_herd (m n : Nat) (b : Timer) : (s.setTimer m n b).herd = s.herd := rfl
@[simp] theorem State.setTimer_link (m n : Nat) (b : Timer) : (s.setTimer m n b).link = s.link := rfl
@[simp] theorem State.setTimer_boot (m n : Nat) (b : Timer) : (s.setTimer m n b).boot = s.boot := rfl
@[simp] theorem State.setTimer_pwr (m n : Nat) (b : Timer) : (s.setTimer m n b).pwr = s.pwr := rfl
@[simp] theorem State.setTimer_queues (m n : Nat) (b : Timer) : (s.setTimer m n b).queues = s.queues := rfl
@[simp] theorem State.setTimer_log (m n : Nat) (b : Timer) : (s.setTimer m n b).log = s.log := rfl
@[simp] theorem State.setTimer_logUnsent (m n : Nat) (b : Timer) : (s.setTimer m n b).logUnsent = s.logUnsent := rfl
@[simp] theorem State.setTimer_acts (m n : Nat) (b : Timer) : (s.setTimer m n b).acts = s.acts := rfl
@[simp] theorem State.setTimer_key (m n : Nat) (b : Timer) : (s.setTimer m n b).key = s.key := rfl
@[simp] theorem State.setTimer_tws (m n : Nat) (b : Timer) : (s.setTimer m n b).tws = s.tws := rfl
@[simp] theorem State.setTimer_freeCtr (m n : Nat) (b : Timer) : (s.setTimer m n b).freeCtr = s.freeCtr := rfl
@[simp] theorem State.setTimer_pending (m n : Nat) (b : Timer) : (s.setTimer m n b).pending = s.pending := rfl
@[simp] theorem State.setTimer_thr (m n : Nat) (b : Timer) : (s.setTimer m n b).thr = s.thr := rfl
@[simp] theorem State.setTimer_host (m n : Nat) (b : Timer) : (s.setTimer m n b).host = s.host := rfl
@[simp] theorem State.setTimer_svc (m n : Nat) (b : Timer) : (s.setTimer m n b).svc = s.svc := rfl
@[simp] theorem State.setTimer_watch (m n : Nat) (b : Timer) : (s.setTimer m n b).watch = s.watch := rfl
@[simp] theorem State.setTimer_co (m n : Nat) (b : Timer) : (s.setTimer m n b).co = s.co := rfl
@[simp] theorem State.setTimer_tiles (m n : Nat) (b : Timer) : (s.setTimer m n b).tiles = s.tiles := rfl
@[simp] theorem State.setTimer_spanFrom (m n : Nat) (b : Timer) : (s.setTimer m n b).spanFrom = s.spanFrom := rfl
@[simp] theorem State.setTimer_spans (m n : Nat) (b : Timer) : (s.setTimer m n b).spans = s.spans := rfl
@[simp] theorem State.setTimer_uncertain (m n : Nat) (b : Timer) : (s.setTimer m n b).uncertain = s.uncertain := rfl
@[simp] theorem State.rd_setTimer (a0 : Nat) (m n : Nat) (b : Timer) : (s.setTimer m n b).rd a0 = s.rd a0 := rfl
@[simp] theorem State.get_setTimer (g0 : Fld) (m n : Nat) (b : Timer) : (s.setTimer m n b).get g0 = s.get g0 := rfl
@[simp] theorem State.isSet_setTimer (g0 : Fld) (m n : Nat) (b : Timer) : (s.setTimer m n b).isSet g0 = s.isSet g0 := rfl
@[simp] theorem State.core_setTimer (k0 : Nat) (m n : Nat) (b : Timer) : (s.setTimer m n b).core k0 = s.core k0 := rfl
@[simp] theorem State.byte_setTimer (a0 : Nat) (m n : Nat) (b : Timer) : (s.setTimer m n b).byte a0 = s.byte a0 := rfl

@[simp] theorem State.setChan_regs (n : Nat) (b : ChanSt) : (s.setChan n b).regs = s.regs := rfl
@[simp] theorem State.setChan_mem (n : Nat) (b : ChanSt) : (s.setChan n b).mem = s.mem := rfl
@[simp] theorem State.setChan_lt (n : Nat) (b : ChanSt) : (s.setChan n b).lt = s.lt := rfl
@[simp] theorem State.setChan_vco (n : Nat) (b : ChanSt) : (s.setChan n b).vco = s.vco := rfl
@[simp] theorem State.setChan_tileAt (n : Nat) (b : ChanSt) : (s.setChan n b).tileAt = s.tileAt := rfl
@[simp] theorem State.setChan_sleepNs (n : Nat) (b : ChanSt) : (s.setChan n b).sleepNs = s.sleepNs := rfl
@[simp] theorem State.setChan_time (n : Nat) (b : ChanSt) : (s.setChan n b).time = s.time := rfl
@[simp] theorem State.setChan_ticks (n : Nat) (b : ChanSt) : (s.setChan n b).ticks = s.ticks := rfl
@[simp] theorem State.setChan_com (n : Nat) (b : ChanSt) : (s.setChan n b).com = s.com := rfl
@[simp] theorem State.setChan_cores (n : Nat) (b : ChanSt) : (s.setChan n b).cores = s.cores := rfl
@[simp] theorem State.setChan_out (n : Nat) (b : ChanSt) : (s.setChan n b).out = s.out := rfl
@[simp] theorem State.setChan_herd (n : Nat) (b : ChanSt) : (s.setChan n b).herd = s.herd := rfl
@[simp] theorem State.setChan_link (n : Nat) (b : ChanSt) : (s.setChan n b).link = s.link := rfl
@[simp] theorem State.setChan_boot (n : Nat) (b : ChanSt) : (s.setChan n b).boot = s.boot := rfl
@[simp] theorem State.setChan_pwr (n : Nat) (b : ChanSt) : (s.setChan n b).pwr = s.pwr := rfl
@[simp] theorem State.setChan_queues (n : Nat) (b : ChanSt) : (s.setChan n b).queues = s.queues := rfl
@[simp] theorem State.setChan_log (n : Nat) (b : ChanSt) : (s.setChan n b).log = s.log := rfl
@[simp] theorem State.setChan_logUnsent (n : Nat) (b : ChanSt) : (s.setChan n b).logUnsent = s.logUnsent := rfl
@[simp] theorem State.setChan_acts (n : Nat) (b : ChanSt) : (s.setChan n b).acts = s.acts := rfl
@[simp] theorem State.setChan_key (n : Nat) (b : ChanSt) : (s.setChan n b).key = s.key := rfl
@[simp] theorem State.setChan_tws (n : Nat) (b : ChanSt) : (s.setChan n b).tws = s.tws := rfl
@[simp] theorem State.setChan_freeCtr (n : Nat) (b : ChanSt) : (s.setChan n b).freeCtr = s.freeCtr := rfl
@[simp] theorem State.setChan_pending (n : Nat) (b : ChanSt) : (s.setChan n b).pending = s.pending := rfl
@[simp] theorem State.setChan_thr (n : Nat) (b : ChanSt) : (s.setChan n b).thr = s.thr := rfl
@[simp] theorem State.setChan_host (n : Nat) (b : ChanSt) : (s.setChan n b).host = s.host := rfl
@[simp] theorem State.setChan_svc (n : Nat) (b : ChanSt) : (s.setChan n b).svc = s.svc := rfl
@[simp] theorem State.setChan_watch (n : Nat) (b : ChanSt) : (s.setChan n b).watch = s.watch := rfl
@[simp] theorem State.setChan_co (n : Nat) (b : ChanSt) : (s.setChan n b).co = s.co := rfl
@[simp] theorem State.setChan_tiles (n : Nat) (b : ChanSt) : (s.setChan n b).tiles = s.tiles := rfl
@[simp] theorem State.setChan_spanFrom (n : Nat) (b : ChanSt) : (s.setChan n b).spanFrom = s.spanFrom := rfl
@[simp] theorem State.setChan_spans (n : Nat) (b : ChanSt) : (s.setChan n b).spans = s.spans := rfl
@[simp] theorem State.setChan_uncertain (n : Nat) (b : ChanSt) : (s.setChan n b).uncertain = s.uncertain := rfl
@[simp] theorem State.rd_setChan (a0 : Nat) (n : Nat) (b : ChanSt) : (s.setChan n b).rd a0 = s.rd a0 := rfl
@[simp] theorem State.get_setChan (g0 : Fld) (n : Nat) (b : ChanSt) : (s.setChan n b).get g0 = s.get g0 := rfl
@[simp] theorem State.isSet_setChan (g0 : Fld) (n : Nat) (b : ChanSt) : (s.setChan n b).isSet g0 = s.isSet g0 := rfl
@[simp] theorem State.core_setChan (k0 : Nat) (n : Nat) (b : ChanSt) : (s.setChan n b).core k0 = s.core k0 := rfl
@[simp] theorem State.byte_setChan (a0 : Nat) (n : Nat) (b : ChanSt) : (s.setChan n b).byte a0 = s.byte a0 := rfl

@[simp] theorem State.setCell_regs (n : Nat) (b : CellSt) : (s.setCell n b).regs = s.regs := rfl
@[simp] theorem State.setCell_mem (n : Nat) (b : CellSt) : (s.setCell n b).mem = s.mem := rfl
@[simp] theorem State.setCell_lt (n : Nat) (b : CellSt) : (s.setCell n b).lt = s.lt := rfl
@[simp] theorem State.setCell_vco (n : Nat) (b : CellSt) : (s.setCell n b).vco = s.vco := rfl
@[simp] theorem State.setCell_tileAt (n : Nat) (b : CellSt) : (s.setCell n b).tileAt = s.tileAt := rfl
@[simp] theorem State.setCell_sleepNs (n : Nat) (b : CellSt) : (s.setCell n b).sleepNs = s.sleepNs := rfl
@[simp] theorem State.setCell_time (n : Nat) (b : CellSt) : (s.setCell n b).time = s.time := rfl
@[simp] theorem State.setCell_ticks (n : Nat) (b : CellSt) : (s.setCell n b).ticks = s.ticks := rfl
@[simp] theorem State.setCell_com (n : Nat) (b : CellSt) : (s.setCell n b).com = s.com := rfl
@[simp] theorem State.setCell_cores (n : Nat) (b : CellSt) : (s.setCell n b).cores = s.cores := rfl
@[simp] theorem State.setCell_out (n : Nat) (b : CellSt) : (s.setCell n b).out = s.out := rfl
@[simp] theorem State.setCell_herd (n : Nat) (b : CellSt) : (s.setCell n b).herd = s.herd := rfl
@[simp] theorem State.setCell_link (n : Nat) (b : CellSt) : (s.setCell n b).link = s.link := rfl
@[simp] theorem State.setCell_boot (n : Nat) (b : CellSt) : (s.setCell n b).boot = s.boot := rfl
@[simp] theorem State.setCell_pwr (n : Nat) (b : CellSt) : (s.setCell n b).pwr = s.pwr := rfl
@[simp] theorem State.setCell_queues (n : Nat) (b : CellSt) : (s.setCell n b).queues = s.queues := rfl
@[simp] theorem State.setCell_log (n : Nat) (b : CellSt) : (s.setCell n b).log = s.log := rfl
@[simp] theorem State.setCell_logUnsent (n : Nat) (b : CellSt) : (s.setCell n b).logUnsent = s.logUnsent := rfl
@[simp] theorem State.setCell_acts (n : Nat) (b : CellSt) : (s.setCell n b).acts = s.acts := rfl
@[simp] theorem State.setCell_key (n : Nat) (b : CellSt) : (s.setCell n b).key = s.key := rfl
@[simp] theorem State.setCell_tws (n : Nat) (b : CellSt) : (s.setCell n b).tws = s.tws := rfl
@[simp] theorem State.setCell_freeCtr (n : Nat) (b : CellSt) : (s.setCell n b).freeCtr = s.freeCtr := rfl
@[simp] theorem State.setCell_pending (n : Nat) (b : CellSt) : (s.setCell n b).pending = s.pending := rfl
@[simp] theorem State.setCell_thr (n : Nat) (b : CellSt) : (s.setCell n b).thr = s.thr := rfl
@[simp] theorem State.setCell_host (n : Nat) (b : CellSt) : (s.setCell n b).host = s.host := rfl
@[simp] theorem State.setCell_svc (n : Nat) (b : CellSt) : (s.setCell n b).svc = s.svc := rfl
@[simp] theorem State.setCell_watch (n : Nat) (b : CellSt) : (s.setCell n b).watch = s.watch := rfl
@[simp] theorem State.setCell_co (n : Nat) (b : CellSt) : (s.setCell n b).co = s.co := rfl
@[simp] theorem State.setCell_tiles (n : Nat) (b : CellSt) : (s.setCell n b).tiles = s.tiles := rfl
@[simp] theorem State.setCell_spanFrom (n : Nat) (b : CellSt) : (s.setCell n b).spanFrom = s.spanFrom := rfl
@[simp] theorem State.setCell_spans (n : Nat) (b : CellSt) : (s.setCell n b).spans = s.spans := rfl
@[simp] theorem State.setCell_uncertain (n : Nat) (b : CellSt) : (s.setCell n b).uncertain = s.uncertain := rfl
@[simp] theorem State.rd_setCell (a0 : Nat) (n : Nat) (b : CellSt) : (s.setCell n b).rd a0 = s.rd a0 := rfl
@[simp] theorem State.get_setCell (g0 : Fld) (n : Nat) (b : CellSt) : (s.setCell n b).get g0 = s.get g0 := rfl
@[simp] theorem State.isSet_setCell (g0 : Fld) (n : Nat) (b : CellSt) : (s.setCell n b).isSet g0 = s.isSet g0 := rfl
@[simp] theorem State.core_setCell (k0 : Nat) (n : Nat) (b : CellSt) : (s.setCell n b).core k0 = s.core k0 := rfl
@[simp] theorem State.byte_setCell (a0 : Nat) (n : Nat) (b : CellSt) : (s.setCell n b).byte a0 = s.byte a0 := rfl

@[simp] theorem State.setSrc_regs (n : Nat) (b : Source) : (s.setSrc n b).regs = s.regs := rfl
@[simp] theorem State.setSrc_mem (n : Nat) (b : Source) : (s.setSrc n b).mem = s.mem := rfl
@[simp] theorem State.setSrc_lt (n : Nat) (b : Source) : (s.setSrc n b).lt = s.lt := rfl
@[simp] theorem State.setSrc_vco (n : Nat) (b : Source) : (s.setSrc n b).vco = s.vco := rfl
@[simp] theorem State.setSrc_tileAt (n : Nat) (b : Source) : (s.setSrc n b).tileAt = s.tileAt := rfl
@[simp] theorem State.setSrc_sleepNs (n : Nat) (b : Source) : (s.setSrc n b).sleepNs = s.sleepNs := rfl
@[simp] theorem State.setSrc_time (n : Nat) (b : Source) : (s.setSrc n b).time = s.time := rfl
@[simp] theorem State.setSrc_ticks (n : Nat) (b : Source) : (s.setSrc n b).ticks = s.ticks := rfl
@[simp] theorem State.setSrc_com (n : Nat) (b : Source) : (s.setSrc n b).com = s.com := rfl
@[simp] theorem State.setSrc_cores (n : Nat) (b : Source) : (s.setSrc n b).cores = s.cores := rfl
@[simp] theorem State.setSrc_out (n : Nat) (b : Source) : (s.setSrc n b).out = s.out := rfl
@[simp] theorem State.setSrc_herd (n : Nat) (b : Source) : (s.setSrc n b).herd = s.herd := rfl
@[simp] theorem State.setSrc_link (n : Nat) (b : Source) : (s.setSrc n b).link = s.link := rfl
@[simp] theorem State.setSrc_boot (n : Nat) (b : Source) : (s.setSrc n b).boot = s.boot := rfl
@[simp] theorem State.setSrc_pwr (n : Nat) (b : Source) : (s.setSrc n b).pwr = s.pwr := rfl
@[simp] theorem State.setSrc_queues (n : Nat) (b : Source) : (s.setSrc n b).queues = s.queues := rfl
@[simp] theorem State.setSrc_log (n : Nat) (b : Source) : (s.setSrc n b).log = s.log := rfl
@[simp] theorem State.setSrc_logUnsent (n : Nat) (b : Source) : (s.setSrc n b).logUnsent = s.logUnsent := rfl
@[simp] theorem State.setSrc_acts (n : Nat) (b : Source) : (s.setSrc n b).acts = s.acts := rfl
@[simp] theorem State.setSrc_key (n : Nat) (b : Source) : (s.setSrc n b).key = s.key := rfl
@[simp] theorem State.setSrc_tws (n : Nat) (b : Source) : (s.setSrc n b).tws = s.tws := rfl
@[simp] theorem State.setSrc_freeCtr (n : Nat) (b : Source) : (s.setSrc n b).freeCtr = s.freeCtr := rfl
@[simp] theorem State.setSrc_pending (n : Nat) (b : Source) : (s.setSrc n b).pending = s.pending := rfl
@[simp] theorem State.setSrc_thr (n : Nat) (b : Source) : (s.setSrc n b).thr = s.thr := rfl
@[simp] theorem State.setSrc_host (n : Nat) (b : Source) : (s.setSrc n b).host = s.host := rfl
@[simp] theorem State.setSrc_svc (n : Nat) (b : Source) : (s.setSrc n b).svc = s.svc := rfl
@[simp] theorem State.setSrc_watch (n : Nat) (b : Source) : (s.setSrc n b).watch = s.watch := rfl
@[simp] theorem State.setSrc_co (n : Nat) (b : Source) : (s.setSrc n b).co = s.co := rfl
@[simp] theorem State.setSrc_tiles (n : Nat) (b : Source) : (s.setSrc n b).tiles = s.tiles := rfl
@[simp] theorem State.setSrc_spanFrom (n : Nat) (b : Source) : (s.setSrc n b).spanFrom = s.spanFrom := rfl
@[simp] theorem State.setSrc_spans (n : Nat) (b : Source) : (s.setSrc n b).spans = s.spans := rfl
@[simp] theorem State.setSrc_uncertain (n : Nat) (b : Source) : (s.setSrc n b).uncertain = s.uncertain := rfl
@[simp] theorem State.rd_setSrc (a0 : Nat) (n : Nat) (b : Source) : (s.setSrc n b).rd a0 = s.rd a0 := rfl
@[simp] theorem State.get_setSrc (g0 : Fld) (n : Nat) (b : Source) : (s.setSrc n b).get g0 = s.get g0 := rfl
@[simp] theorem State.isSet_setSrc (g0 : Fld) (n : Nat) (b : Source) : (s.setSrc n b).isSet g0 = s.isSet g0 := rfl
@[simp] theorem State.core_setSrc (k0 : Nat) (n : Nat) (b : Source) : (s.setSrc n b).core k0 = s.core k0 := rfl
@[simp] theorem State.byte_setSrc (a0 : Nat) (n : Nat) (b : Source) : (s.setSrc n b).byte a0 = s.byte a0 := rfl

@[simp] theorem State.setAct_regs (n : Nat) (b : ActEntry) : (s.setAct n b).regs = s.regs := rfl
@[simp] theorem State.setAct_mem (n : Nat) (b : ActEntry) : (s.setAct n b).mem = s.mem := rfl
@[simp] theorem State.setAct_lt (n : Nat) (b : ActEntry) : (s.setAct n b).lt = s.lt := rfl
@[simp] theorem State.setAct_vco (n : Nat) (b : ActEntry) : (s.setAct n b).vco = s.vco := rfl
@[simp] theorem State.setAct_tileAt (n : Nat) (b : ActEntry) : (s.setAct n b).tileAt = s.tileAt := rfl
@[simp] theorem State.setAct_sleepNs (n : Nat) (b : ActEntry) : (s.setAct n b).sleepNs = s.sleepNs := rfl
@[simp] theorem State.setAct_time (n : Nat) (b : ActEntry) : (s.setAct n b).time = s.time := rfl
@[simp] theorem State.setAct_ticks (n : Nat) (b : ActEntry) : (s.setAct n b).ticks = s.ticks := rfl
@[simp] theorem State.setAct_com (n : Nat) (b : ActEntry) : (s.setAct n b).com = s.com := rfl
@[simp] theorem State.setAct_cores (n : Nat) (b : ActEntry) : (s.setAct n b).cores = s.cores := rfl
@[simp] theorem State.setAct_out (n : Nat) (b : ActEntry) : (s.setAct n b).out = s.out := rfl
@[simp] theorem State.setAct_herd (n : Nat) (b : ActEntry) : (s.setAct n b).herd = s.herd := rfl
@[simp] theorem State.setAct_link (n : Nat) (b : ActEntry) : (s.setAct n b).link = s.link := rfl
@[simp] theorem State.setAct_boot (n : Nat) (b : ActEntry) : (s.setAct n b).boot = s.boot := rfl
@[simp] theorem State.setAct_pwr (n : Nat) (b : ActEntry) : (s.setAct n b).pwr = s.pwr := rfl
@[simp] theorem State.setAct_queues (n : Nat) (b : ActEntry) : (s.setAct n b).queues = s.queues := rfl
@[simp] theorem State.setAct_log (n : Nat) (b : ActEntry) : (s.setAct n b).log = s.log := rfl
@[simp] theorem State.setAct_logUnsent (n : Nat) (b : ActEntry) : (s.setAct n b).logUnsent = s.logUnsent := rfl
@[simp] theorem State.setAct_key (n : Nat) (b : ActEntry) : (s.setAct n b).key = s.key := rfl
@[simp] theorem State.setAct_tws (n : Nat) (b : ActEntry) : (s.setAct n b).tws = s.tws := rfl
@[simp] theorem State.setAct_freeCtr (n : Nat) (b : ActEntry) : (s.setAct n b).freeCtr = s.freeCtr := rfl
@[simp] theorem State.setAct_pending (n : Nat) (b : ActEntry) : (s.setAct n b).pending = s.pending := rfl
@[simp] theorem State.setAct_thr (n : Nat) (b : ActEntry) : (s.setAct n b).thr = s.thr := rfl
@[simp] theorem State.setAct_host (n : Nat) (b : ActEntry) : (s.setAct n b).host = s.host := rfl
@[simp] theorem State.setAct_svc (n : Nat) (b : ActEntry) : (s.setAct n b).svc = s.svc := rfl
@[simp] theorem State.setAct_watch (n : Nat) (b : ActEntry) : (s.setAct n b).watch = s.watch := rfl
@[simp] theorem State.setAct_co (n : Nat) (b : ActEntry) : (s.setAct n b).co = s.co := rfl
@[simp] theorem State.setAct_tiles (n : Nat) (b : ActEntry) : (s.setAct n b).tiles = s.tiles := rfl
@[simp] theorem State.setAct_spanFrom (n : Nat) (b : ActEntry) : (s.setAct n b).spanFrom = s.spanFrom := rfl
@[simp] theorem State.setAct_spans (n : Nat) (b : ActEntry) : (s.setAct n b).spans = s.spans := rfl
@[simp] theorem State.setAct_uncertain (n : Nat) (b : ActEntry) : (s.setAct n b).uncertain = s.uncertain := rfl
@[simp] theorem State.rd_setAct (a0 : Nat) (n : Nat) (b : ActEntry) : (s.setAct n b).rd a0 = s.rd a0 := rfl
@[simp] theorem State.get_setAct (g0 : Fld) (n : Nat) (b : ActEntry) : (s.setAct n b).get g0 = s.get g0 := rfl
@[simp] theorem State.isSet_setAct (g0 : Fld) (n : Nat) (b : ActEntry) : (s.setAct n b).isSet g0 = s.isSet g0 := rfl
@[simp] theorem State.core_setAct (k0 : Nat) (n : Nat) (b : ActEntry) : (s.setAct n b).core k0 = s.core k0 := rfl
@[simp] theorem State.byte_setAct (a0 : Nat) (n : Nat) (b : ActEntry) : (s.setAct n b).byte a0 = s.byte a0 := rfl

@[simp] theorem State.setOut_regs (n : Nat) (b : OutSt) : (s.setOut n b).regs = s.regs := rfl
@[simp] theorem State.setOut_mem (n : Nat) (b : OutSt) : (s.setOut n b).mem = s.mem := rfl
@[simp] theorem State.setOut_lt (n : Nat) (b : OutSt) : (s.setOut n b).lt = s.lt := rfl
@[simp] theorem State.setOut_vco (n : Nat) (b : OutSt) : (s.setOut n b).vco = s.vco := rfl
@[simp] theorem State.setOut_tileAt (n : Nat) (b : OutSt) : (s.setOut n b).tileAt = s.tileAt := rfl
@[simp] theorem State.setOut_sleepNs (n : Nat) (b : OutSt) : (s.setOut n b).sleepNs = s.sleepNs := rfl
@[simp] theorem State.setOut_time (n : Nat) (b : OutSt) : (s.setOut n b).time = s.time := rfl
@[simp] theorem State.setOut_ticks (n : Nat) (b : OutSt) : (s.setOut n b).ticks = s.ticks := rfl
@[simp] theorem State.setOut_com (n : Nat) (b : OutSt) : (s.setOut n b).com = s.com := rfl
@[simp] theorem State.setOut_cores (n : Nat) (b : OutSt) : (s.setOut n b).cores = s.cores := rfl
@[simp] theorem State.setOut_out (n : Nat) (b : OutSt) : (s.setOut n b).out = s.out := rfl
@[simp] theorem State.setOut_herd (n : Nat) (b : OutSt) : (s.setOut n b).herd = s.herd := rfl
@[simp] theorem State.setOut_link (n : Nat) (b : OutSt) : (s.setOut n b).link = s.link := rfl
@[simp] theorem State.setOut_boot (n : Nat) (b : OutSt) : (s.setOut n b).boot = s.boot := rfl
@[simp] theorem State.setOut_pwr (n : Nat) (b : OutSt) : (s.setOut n b).pwr = s.pwr := rfl
@[simp] theorem State.setOut_queues (n : Nat) (b : OutSt) : (s.setOut n b).queues = s.queues := rfl
@[simp] theorem State.setOut_log (n : Nat) (b : OutSt) : (s.setOut n b).log = s.log := rfl
@[simp] theorem State.setOut_logUnsent (n : Nat) (b : OutSt) : (s.setOut n b).logUnsent = s.logUnsent := rfl
@[simp] theorem State.setOut_acts (n : Nat) (b : OutSt) : (s.setOut n b).acts = s.acts := rfl
@[simp] theorem State.setOut_key (n : Nat) (b : OutSt) : (s.setOut n b).key = s.key := rfl
@[simp] theorem State.setOut_tws (n : Nat) (b : OutSt) : (s.setOut n b).tws = s.tws := rfl
@[simp] theorem State.setOut_freeCtr (n : Nat) (b : OutSt) : (s.setOut n b).freeCtr = s.freeCtr := rfl
@[simp] theorem State.setOut_pending (n : Nat) (b : OutSt) : (s.setOut n b).pending = s.pending := rfl
@[simp] theorem State.setOut_thr (n : Nat) (b : OutSt) : (s.setOut n b).thr = s.thr := rfl
@[simp] theorem State.setOut_host (n : Nat) (b : OutSt) : (s.setOut n b).host = s.host := rfl
@[simp] theorem State.setOut_svc (n : Nat) (b : OutSt) : (s.setOut n b).svc = s.svc := rfl
@[simp] theorem State.setOut_watch (n : Nat) (b : OutSt) : (s.setOut n b).watch = s.watch := rfl
@[simp] theorem State.setOut_co (n : Nat) (b : OutSt) : (s.setOut n b).co = s.co := rfl
@[simp] theorem State.setOut_tiles (n : Nat) (b : OutSt) : (s.setOut n b).tiles = s.tiles := rfl
@[simp] theorem State.setOut_spanFrom (n : Nat) (b : OutSt) : (s.setOut n b).spanFrom = s.spanFrom := rfl
@[simp] theorem State.setOut_spans (n : Nat) (b : OutSt) : (s.setOut n b).spans = s.spans := rfl
@[simp] theorem State.setOut_uncertain (n : Nat) (b : OutSt) : (s.setOut n b).uncertain = s.uncertain := rfl
@[simp] theorem State.rd_setOut (a0 : Nat) (n : Nat) (b : OutSt) : (s.setOut n b).rd a0 = s.rd a0 := rfl
@[simp] theorem State.get_setOut (g0 : Fld) (n : Nat) (b : OutSt) : (s.setOut n b).get g0 = s.get g0 := rfl
@[simp] theorem State.isSet_setOut (g0 : Fld) (n : Nat) (b : OutSt) : (s.setOut n b).isSet g0 = s.isSet g0 := rfl
@[simp] theorem State.core_setOut (k0 : Nat) (n : Nat) (b : OutSt) : (s.setOut n b).core k0 = s.core k0 := rfl
@[simp] theorem State.byte_setOut (a0 : Nat) (n : Nat) (b : OutSt) : (s.setOut n b).byte a0 = s.byte a0 := rfl

@[simp] theorem State.setCap_regs (n : Nat) (b : CapUnit) : (s.setCap n b).regs = s.regs := rfl
@[simp] theorem State.setCap_mem (n : Nat) (b : CapUnit) : (s.setCap n b).mem = s.mem := rfl
@[simp] theorem State.setCap_lt (n : Nat) (b : CapUnit) : (s.setCap n b).lt = s.lt := rfl
@[simp] theorem State.setCap_vco (n : Nat) (b : CapUnit) : (s.setCap n b).vco = s.vco := rfl
@[simp] theorem State.setCap_tileAt (n : Nat) (b : CapUnit) : (s.setCap n b).tileAt = s.tileAt := rfl
@[simp] theorem State.setCap_sleepNs (n : Nat) (b : CapUnit) : (s.setCap n b).sleepNs = s.sleepNs := rfl
@[simp] theorem State.setCap_time (n : Nat) (b : CapUnit) : (s.setCap n b).time = s.time := rfl
@[simp] theorem State.setCap_ticks (n : Nat) (b : CapUnit) : (s.setCap n b).ticks = s.ticks := rfl
@[simp] theorem State.setCap_com (n : Nat) (b : CapUnit) : (s.setCap n b).com = s.com := rfl
@[simp] theorem State.setCap_cores (n : Nat) (b : CapUnit) : (s.setCap n b).cores = s.cores := rfl
@[simp] theorem State.setCap_out (n : Nat) (b : CapUnit) : (s.setCap n b).out = s.out := rfl
@[simp] theorem State.setCap_herd (n : Nat) (b : CapUnit) : (s.setCap n b).herd = s.herd := rfl
@[simp] theorem State.setCap_link (n : Nat) (b : CapUnit) : (s.setCap n b).link = s.link := rfl
@[simp] theorem State.setCap_boot (n : Nat) (b : CapUnit) : (s.setCap n b).boot = s.boot := rfl
@[simp] theorem State.setCap_pwr (n : Nat) (b : CapUnit) : (s.setCap n b).pwr = s.pwr := rfl
@[simp] theorem State.setCap_queues (n : Nat) (b : CapUnit) : (s.setCap n b).queues = s.queues := rfl
@[simp] theorem State.setCap_log (n : Nat) (b : CapUnit) : (s.setCap n b).log = s.log := rfl
@[simp] theorem State.setCap_logUnsent (n : Nat) (b : CapUnit) : (s.setCap n b).logUnsent = s.logUnsent := rfl
@[simp] theorem State.setCap_acts (n : Nat) (b : CapUnit) : (s.setCap n b).acts = s.acts := rfl
@[simp] theorem State.setCap_key (n : Nat) (b : CapUnit) : (s.setCap n b).key = s.key := rfl
@[simp] theorem State.setCap_tws (n : Nat) (b : CapUnit) : (s.setCap n b).tws = s.tws := rfl
@[simp] theorem State.setCap_freeCtr (n : Nat) (b : CapUnit) : (s.setCap n b).freeCtr = s.freeCtr := rfl
@[simp] theorem State.setCap_pending (n : Nat) (b : CapUnit) : (s.setCap n b).pending = s.pending := rfl
@[simp] theorem State.setCap_thr (n : Nat) (b : CapUnit) : (s.setCap n b).thr = s.thr := rfl
@[simp] theorem State.setCap_host (n : Nat) (b : CapUnit) : (s.setCap n b).host = s.host := rfl
@[simp] theorem State.setCap_svc (n : Nat) (b : CapUnit) : (s.setCap n b).svc = s.svc := rfl
@[simp] theorem State.setCap_watch (n : Nat) (b : CapUnit) : (s.setCap n b).watch = s.watch := rfl
@[simp] theorem State.setCap_co (n : Nat) (b : CapUnit) : (s.setCap n b).co = s.co := rfl
@[simp] theorem State.setCap_tiles (n : Nat) (b : CapUnit) : (s.setCap n b).tiles = s.tiles := rfl
@[simp] theorem State.setCap_spanFrom (n : Nat) (b : CapUnit) : (s.setCap n b).spanFrom = s.spanFrom := rfl
@[simp] theorem State.setCap_spans (n : Nat) (b : CapUnit) : (s.setCap n b).spans = s.spans := rfl
@[simp] theorem State.setCap_uncertain (n : Nat) (b : CapUnit) : (s.setCap n b).uncertain = s.uncertain := rfl
@[simp] theorem State.rd_setCap (a0 : Nat) (n : Nat) (b : CapUnit) : (s.setCap n b).rd a0 = s.rd a0 := rfl
@[simp] theorem State.get_setCap (g0 : Fld) (n : Nat) (b : CapUnit) : (s.setCap n b).get g0 = s.get g0 := rfl
@[simp] theorem State.isSet_setCap (g0 : Fld) (n : Nat) (b : CapUnit) : (s.setCap n b).isSet g0 = s.isSet g0 := rfl
@[simp] theorem State.core_setCap (k0 : Nat) (n : Nat) (b : CapUnit) : (s.setCap n b).core k0 = s.core k0 := rfl
@[simp] theorem State.byte_setCap (a0 : Nat) (n : Nat) (b : CapUnit) : (s.setCap n b).byte a0 = s.byte a0 := rfl

@[simp] theorem State.setEnc_regs (n : Nat) (b : EncSt) : (s.setEnc n b).regs = s.regs := rfl
@[simp] theorem State.setEnc_mem (n : Nat) (b : EncSt) : (s.setEnc n b).mem = s.mem := rfl
@[simp] theorem State.setEnc_lt (n : Nat) (b : EncSt) : (s.setEnc n b).lt = s.lt := rfl
@[simp] theorem State.setEnc_vco (n : Nat) (b : EncSt) : (s.setEnc n b).vco = s.vco := rfl
@[simp] theorem State.setEnc_tileAt (n : Nat) (b : EncSt) : (s.setEnc n b).tileAt = s.tileAt := rfl
@[simp] theorem State.setEnc_sleepNs (n : Nat) (b : EncSt) : (s.setEnc n b).sleepNs = s.sleepNs := rfl
@[simp] theorem State.setEnc_time (n : Nat) (b : EncSt) : (s.setEnc n b).time = s.time := rfl
@[simp] theorem State.setEnc_ticks (n : Nat) (b : EncSt) : (s.setEnc n b).ticks = s.ticks := rfl
@[simp] theorem State.setEnc_com (n : Nat) (b : EncSt) : (s.setEnc n b).com = s.com := rfl
@[simp] theorem State.setEnc_cores (n : Nat) (b : EncSt) : (s.setEnc n b).cores = s.cores := rfl
@[simp] theorem State.setEnc_out (n : Nat) (b : EncSt) : (s.setEnc n b).out = s.out := rfl
@[simp] theorem State.setEnc_herd (n : Nat) (b : EncSt) : (s.setEnc n b).herd = s.herd := rfl
@[simp] theorem State.setEnc_link (n : Nat) (b : EncSt) : (s.setEnc n b).link = s.link := rfl
@[simp] theorem State.setEnc_boot (n : Nat) (b : EncSt) : (s.setEnc n b).boot = s.boot := rfl
@[simp] theorem State.setEnc_pwr (n : Nat) (b : EncSt) : (s.setEnc n b).pwr = s.pwr := rfl
@[simp] theorem State.setEnc_queues (n : Nat) (b : EncSt) : (s.setEnc n b).queues = s.queues := rfl
@[simp] theorem State.setEnc_log (n : Nat) (b : EncSt) : (s.setEnc n b).log = s.log := rfl
@[simp] theorem State.setEnc_logUnsent (n : Nat) (b : EncSt) : (s.setEnc n b).logUnsent = s.logUnsent := rfl
@[simp] theorem State.setEnc_acts (n : Nat) (b : EncSt) : (s.setEnc n b).acts = s.acts := rfl
@[simp] theorem State.setEnc_key (n : Nat) (b : EncSt) : (s.setEnc n b).key = s.key := rfl
@[simp] theorem State.setEnc_tws (n : Nat) (b : EncSt) : (s.setEnc n b).tws = s.tws := rfl
@[simp] theorem State.setEnc_freeCtr (n : Nat) (b : EncSt) : (s.setEnc n b).freeCtr = s.freeCtr := rfl
@[simp] theorem State.setEnc_pending (n : Nat) (b : EncSt) : (s.setEnc n b).pending = s.pending := rfl
@[simp] theorem State.setEnc_thr (n : Nat) (b : EncSt) : (s.setEnc n b).thr = s.thr := rfl
@[simp] theorem State.setEnc_host (n : Nat) (b : EncSt) : (s.setEnc n b).host = s.host := rfl
@[simp] theorem State.setEnc_svc (n : Nat) (b : EncSt) : (s.setEnc n b).svc = s.svc := rfl
@[simp] theorem State.setEnc_watch (n : Nat) (b : EncSt) : (s.setEnc n b).watch = s.watch := rfl
@[simp] theorem State.setEnc_co (n : Nat) (b : EncSt) : (s.setEnc n b).co = s.co := rfl
@[simp] theorem State.setEnc_tiles (n : Nat) (b : EncSt) : (s.setEnc n b).tiles = s.tiles := rfl
@[simp] theorem State.setEnc_spanFrom (n : Nat) (b : EncSt) : (s.setEnc n b).spanFrom = s.spanFrom := rfl
@[simp] theorem State.setEnc_spans (n : Nat) (b : EncSt) : (s.setEnc n b).spans = s.spans := rfl
@[simp] theorem State.setEnc_uncertain (n : Nat) (b : EncSt) : (s.setEnc n b).uncertain = s.uncertain := rfl
@[simp] theorem State.rd_setEnc (a0 : Nat) (n : Nat) (b : EncSt) : (s.setEnc n b).rd a0 = s.rd a0 := rfl
@[simp] theorem State.get_setEnc (g0 : Fld) (n : Nat) (b : EncSt) : (s.setEnc n b).get g0 = s.get g0 := rfl
@[simp] theorem State.isSet_setEnc (g0 : Fld) (n : Nat) (b : EncSt) : (s.setEnc n b).isSet g0 = s.isSet g0 := rfl
@[simp] theorem State.core_setEnc (k0 : Nat) (n : Nat) (b : EncSt) : (s.setEnc n b).core k0 = s.core k0 := rfl
@[simp] theorem State.byte_setEnc (a0 : Nat) (n : Nat) (b : EncSt) : (s.setEnc n b).byte a0 = s.byte a0 := rfl

@[simp] theorem State.setEng_regs (n : Nat) (b : ChurnSt) : (s.setEng n b).regs = s.regs := rfl
@[simp] theorem State.setEng_mem (n : Nat) (b : ChurnSt) : (s.setEng n b).mem = s.mem := rfl
@[simp] theorem State.setEng_lt (n : Nat) (b : ChurnSt) : (s.setEng n b).lt = s.lt := rfl
@[simp] theorem State.setEng_vco (n : Nat) (b : ChurnSt) : (s.setEng n b).vco = s.vco := rfl
@[simp] theorem State.setEng_tileAt (n : Nat) (b : ChurnSt) : (s.setEng n b).tileAt = s.tileAt := rfl
@[simp] theorem State.setEng_sleepNs (n : Nat) (b : ChurnSt) : (s.setEng n b).sleepNs = s.sleepNs := rfl
@[simp] theorem State.setEng_time (n : Nat) (b : ChurnSt) : (s.setEng n b).time = s.time := rfl
@[simp] theorem State.setEng_ticks (n : Nat) (b : ChurnSt) : (s.setEng n b).ticks = s.ticks := rfl
@[simp] theorem State.setEng_com (n : Nat) (b : ChurnSt) : (s.setEng n b).com = s.com := rfl
@[simp] theorem State.setEng_cores (n : Nat) (b : ChurnSt) : (s.setEng n b).cores = s.cores := rfl
@[simp] theorem State.setEng_out (n : Nat) (b : ChurnSt) : (s.setEng n b).out = s.out := rfl
@[simp] theorem State.setEng_herd (n : Nat) (b : ChurnSt) : (s.setEng n b).herd = s.herd := rfl
@[simp] theorem State.setEng_link (n : Nat) (b : ChurnSt) : (s.setEng n b).link = s.link := rfl
@[simp] theorem State.setEng_boot (n : Nat) (b : ChurnSt) : (s.setEng n b).boot = s.boot := rfl
@[simp] theorem State.setEng_pwr (n : Nat) (b : ChurnSt) : (s.setEng n b).pwr = s.pwr := rfl
@[simp] theorem State.setEng_queues (n : Nat) (b : ChurnSt) : (s.setEng n b).queues = s.queues := rfl
@[simp] theorem State.setEng_log (n : Nat) (b : ChurnSt) : (s.setEng n b).log = s.log := rfl
@[simp] theorem State.setEng_logUnsent (n : Nat) (b : ChurnSt) : (s.setEng n b).logUnsent = s.logUnsent := rfl
@[simp] theorem State.setEng_acts (n : Nat) (b : ChurnSt) : (s.setEng n b).acts = s.acts := rfl
@[simp] theorem State.setEng_key (n : Nat) (b : ChurnSt) : (s.setEng n b).key = s.key := rfl
@[simp] theorem State.setEng_tws (n : Nat) (b : ChurnSt) : (s.setEng n b).tws = s.tws := rfl
@[simp] theorem State.setEng_freeCtr (n : Nat) (b : ChurnSt) : (s.setEng n b).freeCtr = s.freeCtr := rfl
@[simp] theorem State.setEng_pending (n : Nat) (b : ChurnSt) : (s.setEng n b).pending = s.pending := rfl
@[simp] theorem State.setEng_thr (n : Nat) (b : ChurnSt) : (s.setEng n b).thr = s.thr := rfl
@[simp] theorem State.setEng_host (n : Nat) (b : ChurnSt) : (s.setEng n b).host = s.host := rfl
@[simp] theorem State.setEng_svc (n : Nat) (b : ChurnSt) : (s.setEng n b).svc = s.svc := rfl
@[simp] theorem State.setEng_watch (n : Nat) (b : ChurnSt) : (s.setEng n b).watch = s.watch := rfl
@[simp] theorem State.setEng_co (n : Nat) (b : ChurnSt) : (s.setEng n b).co = s.co := rfl
@[simp] theorem State.setEng_tiles (n : Nat) (b : ChurnSt) : (s.setEng n b).tiles = s.tiles := rfl
@[simp] theorem State.setEng_spanFrom (n : Nat) (b : ChurnSt) : (s.setEng n b).spanFrom = s.spanFrom := rfl
@[simp] theorem State.setEng_spans (n : Nat) (b : ChurnSt) : (s.setEng n b).spans = s.spans := rfl
@[simp] theorem State.setEng_uncertain (n : Nat) (b : ChurnSt) : (s.setEng n b).uncertain = s.uncertain := rfl
@[simp] theorem State.rd_setEng (a0 : Nat) (n : Nat) (b : ChurnSt) : (s.setEng n b).rd a0 = s.rd a0 := rfl
@[simp] theorem State.get_setEng (g0 : Fld) (n : Nat) (b : ChurnSt) : (s.setEng n b).get g0 = s.get g0 := rfl
@[simp] theorem State.isSet_setEng (g0 : Fld) (n : Nat) (b : ChurnSt) : (s.setEng n b).isSet g0 = s.isSet g0 := rfl
@[simp] theorem State.core_setEng (k0 : Nat) (n : Nat) (b : ChurnSt) : (s.setEng n b).core k0 = s.core k0 := rfl
@[simp] theorem State.byte_setEng (a0 : Nat) (n : Nat) (b : ChurnSt) : (s.setEng n b).byte a0 = s.byte a0 := rfl

@[simp] theorem State.setHost_regs (b : HostSt) : (s.setHost b).regs = s.regs := rfl
@[simp] theorem State.setHost_mem (b : HostSt) : (s.setHost b).mem = s.mem := rfl
@[simp] theorem State.setHost_lt (b : HostSt) : (s.setHost b).lt = s.lt := rfl
@[simp] theorem State.setHost_vco (b : HostSt) : (s.setHost b).vco = s.vco := rfl
@[simp] theorem State.setHost_tileAt (b : HostSt) : (s.setHost b).tileAt = s.tileAt := rfl
@[simp] theorem State.setHost_sleepNs (b : HostSt) : (s.setHost b).sleepNs = s.sleepNs := rfl
@[simp] theorem State.setHost_time (b : HostSt) : (s.setHost b).time = s.time := rfl
@[simp] theorem State.setHost_ticks (b : HostSt) : (s.setHost b).ticks = s.ticks := rfl
@[simp] theorem State.setHost_com (b : HostSt) : (s.setHost b).com = s.com := rfl
@[simp] theorem State.setHost_cores (b : HostSt) : (s.setHost b).cores = s.cores := rfl
@[simp] theorem State.setHost_out (b : HostSt) : (s.setHost b).out = s.out := rfl
@[simp] theorem State.setHost_herd (b : HostSt) : (s.setHost b).herd = s.herd := rfl
@[simp] theorem State.setHost_link (b : HostSt) : (s.setHost b).link = s.link := rfl
@[simp] theorem State.setHost_boot (b : HostSt) : (s.setHost b).boot = s.boot := rfl
@[simp] theorem State.setHost_pwr (b : HostSt) : (s.setHost b).pwr = s.pwr := rfl
@[simp] theorem State.setHost_queues (b : HostSt) : (s.setHost b).queues = s.queues := rfl
@[simp] theorem State.setHost_log (b : HostSt) : (s.setHost b).log = s.log := rfl
@[simp] theorem State.setHost_logUnsent (b : HostSt) : (s.setHost b).logUnsent = s.logUnsent := rfl
@[simp] theorem State.setHost_acts (b : HostSt) : (s.setHost b).acts = s.acts := rfl
@[simp] theorem State.setHost_key (b : HostSt) : (s.setHost b).key = s.key := rfl
@[simp] theorem State.setHost_tws (b : HostSt) : (s.setHost b).tws = s.tws := rfl
@[simp] theorem State.setHost_freeCtr (b : HostSt) : (s.setHost b).freeCtr = s.freeCtr := rfl
@[simp] theorem State.setHost_pending (b : HostSt) : (s.setHost b).pending = s.pending := rfl
@[simp] theorem State.setHost_thr (b : HostSt) : (s.setHost b).thr = s.thr := rfl
@[simp] theorem State.setHost_svc (b : HostSt) : (s.setHost b).svc = s.svc := rfl
@[simp] theorem State.setHost_watch (b : HostSt) : (s.setHost b).watch = s.watch := rfl
@[simp] theorem State.setHost_co (b : HostSt) : (s.setHost b).co = s.co := rfl
@[simp] theorem State.setHost_tiles (b : HostSt) : (s.setHost b).tiles = s.tiles := rfl
@[simp] theorem State.setHost_spanFrom (b : HostSt) : (s.setHost b).spanFrom = s.spanFrom := rfl
@[simp] theorem State.setHost_spans (b : HostSt) : (s.setHost b).spans = s.spans := rfl
@[simp] theorem State.setHost_uncertain (b : HostSt) : (s.setHost b).uncertain = s.uncertain := rfl
@[simp] theorem State.rd_setHost (a0 : Nat) (b : HostSt) : (s.setHost b).rd a0 = s.rd a0 := rfl
@[simp] theorem State.get_setHost (g0 : Fld) (b : HostSt) : (s.setHost b).get g0 = s.get g0 := rfl
@[simp] theorem State.isSet_setHost (g0 : Fld) (b : HostSt) : (s.setHost b).isSet g0 = s.isSet g0 := rfl
@[simp] theorem State.core_setHost (k0 : Nat) (b : HostSt) : (s.setHost b).core k0 = s.core k0 := rfl
@[simp] theorem State.byte_setHost (a0 : Nat) (b : HostSt) : (s.setHost b).byte a0 = s.byte a0 := rfl

@[simp] theorem State.setLadle_regs (n : Nat) (b : Ladle) : (s.setLadle n b).regs = s.regs := rfl
@[simp] theorem State.setLadle_mem (n : Nat) (b : Ladle) : (s.setLadle n b).mem = s.mem := rfl
@[simp] theorem State.setLadle_lt (n : Nat) (b : Ladle) : (s.setLadle n b).lt = s.lt := rfl
@[simp] theorem State.setLadle_vco (n : Nat) (b : Ladle) : (s.setLadle n b).vco = s.vco := rfl
@[simp] theorem State.setLadle_tileAt (n : Nat) (b : Ladle) : (s.setLadle n b).tileAt = s.tileAt := rfl
@[simp] theorem State.setLadle_sleepNs (n : Nat) (b : Ladle) : (s.setLadle n b).sleepNs = s.sleepNs := rfl
@[simp] theorem State.setLadle_time (n : Nat) (b : Ladle) : (s.setLadle n b).time = s.time := rfl
@[simp] theorem State.setLadle_ticks (n : Nat) (b : Ladle) : (s.setLadle n b).ticks = s.ticks := rfl
@[simp] theorem State.setLadle_com (n : Nat) (b : Ladle) : (s.setLadle n b).com = s.com := rfl
@[simp] theorem State.setLadle_cores (n : Nat) (b : Ladle) : (s.setLadle n b).cores = s.cores := rfl
@[simp] theorem State.setLadle_out (n : Nat) (b : Ladle) : (s.setLadle n b).out = s.out := rfl
@[simp] theorem State.setLadle_herd (n : Nat) (b : Ladle) : (s.setLadle n b).herd = s.herd := rfl
@[simp] theorem State.setLadle_link (n : Nat) (b : Ladle) : (s.setLadle n b).link = s.link := rfl
@[simp] theorem State.setLadle_boot (n : Nat) (b : Ladle) : (s.setLadle n b).boot = s.boot := rfl
@[simp] theorem State.setLadle_pwr (n : Nat) (b : Ladle) : (s.setLadle n b).pwr = s.pwr := rfl
@[simp] theorem State.setLadle_queues (n : Nat) (b : Ladle) : (s.setLadle n b).queues = s.queues := rfl
@[simp] theorem State.setLadle_log (n : Nat) (b : Ladle) : (s.setLadle n b).log = s.log := rfl
@[simp] theorem State.setLadle_logUnsent (n : Nat) (b : Ladle) : (s.setLadle n b).logUnsent = s.logUnsent := rfl
@[simp] theorem State.setLadle_acts (n : Nat) (b : Ladle) : (s.setLadle n b).acts = s.acts := rfl
@[simp] theorem State.setLadle_key (n : Nat) (b : Ladle) : (s.setLadle n b).key = s.key := rfl
@[simp] theorem State.setLadle_tws (n : Nat) (b : Ladle) : (s.setLadle n b).tws = s.tws := rfl
@[simp] theorem State.setLadle_freeCtr (n : Nat) (b : Ladle) : (s.setLadle n b).freeCtr = s.freeCtr := rfl
@[simp] theorem State.setLadle_pending (n : Nat) (b : Ladle) : (s.setLadle n b).pending = s.pending := rfl
@[simp] theorem State.setLadle_thr (n : Nat) (b : Ladle) : (s.setLadle n b).thr = s.thr := rfl
@[simp] theorem State.setLadle_host (n : Nat) (b : Ladle) : (s.setLadle n b).host = s.host := rfl
@[simp] theorem State.setLadle_svc (n : Nat) (b : Ladle) : (s.setLadle n b).svc = s.svc := rfl
@[simp] theorem State.setLadle_watch (n : Nat) (b : Ladle) : (s.setLadle n b).watch = s.watch := rfl
@[simp] theorem State.setLadle_co (n : Nat) (b : Ladle) : (s.setLadle n b).co = s.co := rfl
@[simp] theorem State.setLadle_tiles (n : Nat) (b : Ladle) : (s.setLadle n b).tiles = s.tiles := rfl
@[simp] theorem State.setLadle_spanFrom (n : Nat) (b : Ladle) : (s.setLadle n b).spanFrom = s.spanFrom := rfl
@[simp] theorem State.setLadle_spans (n : Nat) (b : Ladle) : (s.setLadle n b).spans = s.spans := rfl
@[simp] theorem State.setLadle_uncertain (n : Nat) (b : Ladle) : (s.setLadle n b).uncertain = s.uncertain := rfl
@[simp] theorem State.rd_setLadle (a0 : Nat) (n : Nat) (b : Ladle) : (s.setLadle n b).rd a0 = s.rd a0 := rfl
@[simp] theorem State.get_setLadle (g0 : Fld) (n : Nat) (b : Ladle) : (s.setLadle n b).get g0 = s.get g0 := rfl
@[simp] theorem State.isSet_setLadle (g0 : Fld) (n : Nat) (b : Ladle) : (s.setLadle n b).isSet g0 = s.isSet g0 := rfl
@[simp] theorem State.core_setLadle (k0 : Nat) (n : Nat) (b : Ladle) : (s.setLadle n b).core k0 = s.core k0 := rfl
@[simp] theorem State.byte_setLadle (a0 : Nat) (n : Nat) (b : Ladle) : (s.setLadle n b).byte a0 = s.byte a0 := rfl

@[simp] theorem State.setTileRun_regs (n : Nat) (b : TileRun) : (s.setTileRun n b).regs = s.regs := rfl
@[simp] theorem State.setTileRun_mem (n : Nat) (b : TileRun) : (s.setTileRun n b).mem = s.mem := rfl
@[simp] theorem State.setTileRun_lt (n : Nat) (b : TileRun) : (s.setTileRun n b).lt = s.lt := rfl
@[simp] theorem State.setTileRun_vco (n : Nat) (b : TileRun) : (s.setTileRun n b).vco = s.vco := rfl
@[simp] theorem State.setTileRun_tileAt (n : Nat) (b : TileRun) : (s.setTileRun n b).tileAt = s.tileAt := rfl
@[simp] theorem State.setTileRun_sleepNs (n : Nat) (b : TileRun) : (s.setTileRun n b).sleepNs = s.sleepNs := rfl
@[simp] theorem State.setTileRun_time (n : Nat) (b : TileRun) : (s.setTileRun n b).time = s.time := rfl
@[simp] theorem State.setTileRun_ticks (n : Nat) (b : TileRun) : (s.setTileRun n b).ticks = s.ticks := rfl
@[simp] theorem State.setTileRun_com (n : Nat) (b : TileRun) : (s.setTileRun n b).com = s.com := rfl
@[simp] theorem State.setTileRun_cores (n : Nat) (b : TileRun) : (s.setTileRun n b).cores = s.cores := rfl
@[simp] theorem State.setTileRun_out (n : Nat) (b : TileRun) : (s.setTileRun n b).out = s.out := rfl
@[simp] theorem State.setTileRun_herd (n : Nat) (b : TileRun) : (s.setTileRun n b).herd = s.herd := rfl
@[simp] theorem State.setTileRun_link (n : Nat) (b : TileRun) : (s.setTileRun n b).link = s.link := rfl
@[simp] theorem State.setTileRun_boot (n : Nat) (b : TileRun) : (s.setTileRun n b).boot = s.boot := rfl
@[simp] theorem State.setTileRun_pwr (n : Nat) (b : TileRun) : (s.setTileRun n b).pwr = s.pwr := rfl
@[simp] theorem State.setTileRun_queues (n : Nat) (b : TileRun) : (s.setTileRun n b).queues = s.queues := rfl
@[simp] theorem State.setTileRun_log (n : Nat) (b : TileRun) : (s.setTileRun n b).log = s.log := rfl
@[simp] theorem State.setTileRun_logUnsent (n : Nat) (b : TileRun) : (s.setTileRun n b).logUnsent = s.logUnsent := rfl
@[simp] theorem State.setTileRun_acts (n : Nat) (b : TileRun) : (s.setTileRun n b).acts = s.acts := rfl
@[simp] theorem State.setTileRun_key (n : Nat) (b : TileRun) : (s.setTileRun n b).key = s.key := rfl
@[simp] theorem State.setTileRun_tws (n : Nat) (b : TileRun) : (s.setTileRun n b).tws = s.tws := rfl
@[simp] theorem State.setTileRun_freeCtr (n : Nat) (b : TileRun) : (s.setTileRun n b).freeCtr = s.freeCtr := rfl
@[simp] theorem State.setTileRun_pending (n : Nat) (b : TileRun) : (s.setTileRun n b).pending = s.pending := rfl
@[simp] theorem State.setTileRun_thr (n : Nat) (b : TileRun) : (s.setTileRun n b).thr = s.thr := rfl
@[simp] theorem State.setTileRun_host (n : Nat) (b : TileRun) : (s.setTileRun n b).host = s.host := rfl
@[simp] theorem State.setTileRun_svc (n : Nat) (b : TileRun) : (s.setTileRun n b).svc = s.svc := rfl
@[simp] theorem State.setTileRun_watch (n : Nat) (b : TileRun) : (s.setTileRun n b).watch = s.watch := rfl
@[simp] theorem State.setTileRun_co (n : Nat) (b : TileRun) : (s.setTileRun n b).co = s.co := rfl
@[simp] theorem State.setTileRun_spanFrom (n : Nat) (b : TileRun) : (s.setTileRun n b).spanFrom = s.spanFrom := rfl
@[simp] theorem State.setTileRun_spans (n : Nat) (b : TileRun) : (s.setTileRun n b).spans = s.spans := rfl
@[simp] theorem State.setTileRun_uncertain (n : Nat) (b : TileRun) : (s.setTileRun n b).uncertain = s.uncertain := rfl
@[simp] theorem State.rd_setTileRun (a0 : Nat) (n : Nat) (b : TileRun) : (s.setTileRun n b).rd a0 = s.rd a0 := rfl
@[simp] theorem State.get_setTileRun (g0 : Fld) (n : Nat) (b : TileRun) : (s.setTileRun n b).get g0 = s.get g0 := rfl
@[simp] theorem State.isSet_setTileRun (g0 : Fld) (n : Nat) (b : TileRun) : (s.setTileRun n b).isSet g0 = s.isSet g0 := rfl
@[simp] theorem State.core_setTileRun (k0 : Nat) (n : Nat) (b : TileRun) : (s.setTileRun n b).core k0 = s.core k0 := rfl
@[simp] theorem State.byte_setTileRun (a0 : Nat) (n : Nat) (b : TileRun) : (s.setTileRun n b).byte a0 = s.byte a0 := rfl

@[simp] theorem State.setSvc_regs (b : SvcSt) : (s.setSvc b).regs = s.regs := rfl
@[simp] theorem State.setSvc_mem (b : SvcSt) : (s.setSvc b).mem = s.mem := rfl
@[simp] theorem State.setSvc_lt (b : SvcSt) : (s.setSvc b).lt = s.lt := rfl
@[simp] theorem State.setSvc_vco (b : SvcSt) : (s.setSvc b).vco = s.vco := rfl
@[simp] theorem State.setSvc_tileAt (b : SvcSt) : (s.setSvc b).tileAt = s.tileAt := rfl
@[simp] theorem State.setSvc_sleepNs (b : SvcSt) : (s.setSvc b).sleepNs = s.sleepNs := rfl
@[simp] theorem State.setSvc_time (b : SvcSt) : (s.setSvc b).time = s.time := rfl
@[simp] theorem State.setSvc_ticks (b : SvcSt) : (s.setSvc b).ticks = s.ticks := rfl
@[simp] theorem State.setSvc_com (b : SvcSt) : (s.setSvc b).com = s.com := rfl
@[simp] theorem State.setSvc_cores (b : SvcSt) : (s.setSvc b).cores = s.cores := rfl
@[simp] theorem State.setSvc_out (b : SvcSt) : (s.setSvc b).out = s.out := rfl
@[simp] theorem State.setSvc_herd (b : SvcSt) : (s.setSvc b).herd = s.herd := rfl
@[simp] theorem State.setSvc_link (b : SvcSt) : (s.setSvc b).link = s.link := rfl
@[simp] theorem State.setSvc_boot (b : SvcSt) : (s.setSvc b).boot = s.boot := rfl
@[simp] theorem State.setSvc_pwr (b : SvcSt) : (s.setSvc b).pwr = s.pwr := rfl
@[simp] theorem State.setSvc_queues (b : SvcSt) : (s.setSvc b).queues = s.queues := rfl
@[simp] theorem State.setSvc_log (b : SvcSt) : (s.setSvc b).log = s.log := rfl
@[simp] theorem State.setSvc_logUnsent (b : SvcSt) : (s.setSvc b).logUnsent = s.logUnsent := rfl
@[simp] theorem State.setSvc_acts (b : SvcSt) : (s.setSvc b).acts = s.acts := rfl
@[simp] theorem State.setSvc_key (b : SvcSt) : (s.setSvc b).key = s.key := rfl
@[simp] theorem State.setSvc_tws (b : SvcSt) : (s.setSvc b).tws = s.tws := rfl
@[simp] theorem State.setSvc_freeCtr (b : SvcSt) : (s.setSvc b).freeCtr = s.freeCtr := rfl
@[simp] theorem State.setSvc_pending (b : SvcSt) : (s.setSvc b).pending = s.pending := rfl
@[simp] theorem State.setSvc_thr (b : SvcSt) : (s.setSvc b).thr = s.thr := rfl
@[simp] theorem State.setSvc_host (b : SvcSt) : (s.setSvc b).host = s.host := rfl
@[simp] theorem State.setSvc_watch (b : SvcSt) : (s.setSvc b).watch = s.watch := rfl
@[simp] theorem State.setSvc_co (b : SvcSt) : (s.setSvc b).co = s.co := rfl
@[simp] theorem State.setSvc_tiles (b : SvcSt) : (s.setSvc b).tiles = s.tiles := rfl
@[simp] theorem State.setSvc_spanFrom (b : SvcSt) : (s.setSvc b).spanFrom = s.spanFrom := rfl
@[simp] theorem State.setSvc_spans (b : SvcSt) : (s.setSvc b).spans = s.spans := rfl
@[simp] theorem State.setSvc_uncertain (b : SvcSt) : (s.setSvc b).uncertain = s.uncertain := rfl
@[simp] theorem State.rd_setSvc (a0 : Nat) (b : SvcSt) : (s.setSvc b).rd a0 = s.rd a0 := rfl
@[simp] theorem State.get_setSvc (g0 : Fld) (b : SvcSt) : (s.setSvc b).get g0 = s.get g0 := rfl
@[simp] theorem State.isSet_setSvc (g0 : Fld) (b : SvcSt) : (s.setSvc b).isSet g0 = s.isSet g0 := rfl
@[simp] theorem State.core_setSvc (k0 : Nat) (b : SvcSt) : (s.setSvc b).core k0 = s.core k0 := rfl
@[simp] theorem State.byte_setSvc (a0 : Nat) (b : SvcSt) : (s.setSvc b).byte a0 = s.byte a0 := rfl

@[simp] theorem State.setPort_regs (b : Bool) (x : PortSt) : (s.setPort b x).regs = s.regs := rfl
@[simp] theorem State.setPort_mem (b : Bool) (x : PortSt) : (s.setPort b x).mem = s.mem := rfl
@[simp] theorem State.setPort_lt (b : Bool) (x : PortSt) : (s.setPort b x).lt = s.lt := rfl
@[simp] theorem State.setPort_vco (b : Bool) (x : PortSt) : (s.setPort b x).vco = s.vco := rfl
@[simp] theorem State.setPort_tileAt (b : Bool) (x : PortSt) : (s.setPort b x).tileAt = s.tileAt := rfl
@[simp] theorem State.setPort_sleepNs (b : Bool) (x : PortSt) : (s.setPort b x).sleepNs = s.sleepNs := rfl
@[simp] theorem State.setPort_time (b : Bool) (x : PortSt) : (s.setPort b x).time = s.time := rfl
@[simp] theorem State.setPort_ticks (b : Bool) (x : PortSt) : (s.setPort b x).ticks = s.ticks := rfl
@[simp] theorem State.setPort_com (b : Bool) (x : PortSt) : (s.setPort b x).com = s.com := rfl
@[simp] theorem State.setPort_cores (b : Bool) (x : PortSt) : (s.setPort b x).cores = s.cores := rfl
@[simp] theorem State.setPort_out (b : Bool) (x : PortSt) : (s.setPort b x).out = s.out := rfl
@[simp] theorem State.setPort_link (b : Bool) (x : PortSt) : (s.setPort b x).link = s.link := rfl
@[simp] theorem State.setPort_boot (b : Bool) (x : PortSt) : (s.setPort b x).boot = s.boot := rfl
@[simp] theorem State.setPort_pwr (b : Bool) (x : PortSt) : (s.setPort b x).pwr = s.pwr := rfl
@[simp] theorem State.setPort_queues (b : Bool) (x : PortSt) : (s.setPort b x).queues = s.queues := rfl
@[simp] theorem State.setPort_log (b : Bool) (x : PortSt) : (s.setPort b x).log = s.log := rfl
@[simp] theorem State.setPort_logUnsent (b : Bool) (x : PortSt) : (s.setPort b x).logUnsent = s.logUnsent := rfl
@[simp] theorem State.setPort_acts (b : Bool) (x : PortSt) : (s.setPort b x).acts = s.acts := rfl
@[simp] theorem State.setPort_key (b : Bool) (x : PortSt) : (s.setPort b x).key = s.key := rfl
@[simp] theorem State.setPort_tws (b : Bool) (x : PortSt) : (s.setPort b x).tws = s.tws := rfl
@[simp] theorem State.setPort_freeCtr (b : Bool) (x : PortSt) : (s.setPort b x).freeCtr = s.freeCtr := rfl
@[simp] theorem State.setPort_pending (b : Bool) (x : PortSt) : (s.setPort b x).pending = s.pending := rfl
@[simp] theorem State.setPort_thr (b : Bool) (x : PortSt) : (s.setPort b x).thr = s.thr := rfl
@[simp] theorem State.setPort_host (b : Bool) (x : PortSt) : (s.setPort b x).host = s.host := rfl
@[simp] theorem State.setPort_svc (b : Bool) (x : PortSt) : (s.setPort b x).svc = s.svc := rfl
@[simp] theorem State.setPort_watch (b : Bool) (x : PortSt) : (s.setPort b x).watch = s.watch := rfl
@[simp] theorem State.setPort_co (b : Bool) (x : PortSt) : (s.setPort b x).co = s.co := rfl
@[simp] theorem State.setPort_tiles (b : Bool) (x : PortSt) : (s.setPort b x).tiles = s.tiles := rfl
@[simp] theorem State.setPort_spanFrom (b : Bool) (x : PortSt) : (s.setPort b x).spanFrom = s.spanFrom := rfl
@[simp] theorem State.setPort_spans (b : Bool) (x : PortSt) : (s.setPort b x).spans = s.spans := rfl
@[simp] theorem State.setPort_uncertain (b : Bool) (x : PortSt) : (s.setPort b x).uncertain = s.uncertain := rfl
@[simp] theorem State.rd_setPort (a0 : Nat) (b : Bool) (x : PortSt) : (s.setPort b x).rd a0 = s.rd a0 := rfl
@[simp] theorem State.get_setPort (g0 : Fld) (b : Bool) (x : PortSt) : (s.setPort b x).get g0 = s.get g0 := rfl
@[simp] theorem State.isSet_setPort (g0 : Fld) (b : Bool) (x : PortSt) : (s.setPort b x).isSet g0 = s.isSet g0 := rfl
@[simp] theorem State.core_setPort (k0 : Nat) (b : Bool) (x : PortSt) : (s.setPort b x).core k0 = s.core k0 := rfl
@[simp] theorem State.byte_setPort (a0 : Nat) (b : Bool) (x : PortSt) : (s.setPort b x).byte a0 = s.byte a0 := rfl

@[simp] theorem State.setLane_regs (n : Nat) (b : Lane) : (s.setLane n b).regs = s.regs := rfl
@[simp] theorem State.setLane_mem (n : Nat) (b : Lane) : (s.setLane n b).mem = s.mem := rfl
@[simp] theorem State.setLane_lt (n : Nat) (b : Lane) : (s.setLane n b).lt = s.lt := rfl
@[simp] theorem State.setLane_vco (n : Nat) (b : Lane) : (s.setLane n b).vco = s.vco := rfl
@[simp] theorem State.setLane_tileAt (n : Nat) (b : Lane) : (s.setLane n b).tileAt = s.tileAt := rfl
@[simp] theorem State.setLane_sleepNs (n : Nat) (b : Lane) : (s.setLane n b).sleepNs = s.sleepNs := rfl
@[simp] theorem State.setLane_time (n : Nat) (b : Lane) : (s.setLane n b).time = s.time := rfl
@[simp] theorem State.setLane_ticks (n : Nat) (b : Lane) : (s.setLane n b).ticks = s.ticks := rfl
@[simp] theorem State.setLane_com (n : Nat) (b : Lane) : (s.setLane n b).com = s.com := rfl
@[simp] theorem State.setLane_cores (n : Nat) (b : Lane) : (s.setLane n b).cores = s.cores := rfl
@[simp] theorem State.setLane_out (n : Nat) (b : Lane) : (s.setLane n b).out = s.out := rfl
@[simp] theorem State.setLane_link (n : Nat) (b : Lane) : (s.setLane n b).link = s.link := rfl
@[simp] theorem State.setLane_boot (n : Nat) (b : Lane) : (s.setLane n b).boot = s.boot := rfl
@[simp] theorem State.setLane_pwr (n : Nat) (b : Lane) : (s.setLane n b).pwr = s.pwr := rfl
@[simp] theorem State.setLane_queues (n : Nat) (b : Lane) : (s.setLane n b).queues = s.queues := rfl
@[simp] theorem State.setLane_log (n : Nat) (b : Lane) : (s.setLane n b).log = s.log := rfl
@[simp] theorem State.setLane_logUnsent (n : Nat) (b : Lane) : (s.setLane n b).logUnsent = s.logUnsent := rfl
@[simp] theorem State.setLane_acts (n : Nat) (b : Lane) : (s.setLane n b).acts = s.acts := rfl
@[simp] theorem State.setLane_key (n : Nat) (b : Lane) : (s.setLane n b).key = s.key := rfl
@[simp] theorem State.setLane_tws (n : Nat) (b : Lane) : (s.setLane n b).tws = s.tws := rfl
@[simp] theorem State.setLane_freeCtr (n : Nat) (b : Lane) : (s.setLane n b).freeCtr = s.freeCtr := rfl
@[simp] theorem State.setLane_pending (n : Nat) (b : Lane) : (s.setLane n b).pending = s.pending := rfl
@[simp] theorem State.setLane_thr (n : Nat) (b : Lane) : (s.setLane n b).thr = s.thr := rfl
@[simp] theorem State.setLane_host (n : Nat) (b : Lane) : (s.setLane n b).host = s.host := rfl
@[simp] theorem State.setLane_svc (n : Nat) (b : Lane) : (s.setLane n b).svc = s.svc := rfl
@[simp] theorem State.setLane_watch (n : Nat) (b : Lane) : (s.setLane n b).watch = s.watch := rfl
@[simp] theorem State.setLane_co (n : Nat) (b : Lane) : (s.setLane n b).co = s.co := rfl
@[simp] theorem State.setLane_tiles (n : Nat) (b : Lane) : (s.setLane n b).tiles = s.tiles := rfl
@[simp] theorem State.setLane_spanFrom (n : Nat) (b : Lane) : (s.setLane n b).spanFrom = s.spanFrom := rfl
@[simp] theorem State.setLane_spans (n : Nat) (b : Lane) : (s.setLane n b).spans = s.spans := rfl
@[simp] theorem State.setLane_uncertain (n : Nat) (b : Lane) : (s.setLane n b).uncertain = s.uncertain := rfl
@[simp] theorem State.rd_setLane (a0 : Nat) (n : Nat) (b : Lane) : (s.setLane n b).rd a0 = s.rd a0 := rfl
@[simp] theorem State.get_setLane (g0 : Fld) (n : Nat) (b : Lane) : (s.setLane n b).get g0 = s.get g0 := rfl
@[simp] theorem State.isSet_setLane (g0 : Fld) (n : Nat) (b : Lane) : (s.setLane n b).isSet g0 = s.isSet g0 := rfl
@[simp] theorem State.core_setLane (k0 : Nat) (n : Nat) (b : Lane) : (s.setLane n b).core k0 = s.core k0 := rfl
@[simp] theorem State.byte_setLane (a0 : Nat) (n : Nat) (b : Lane) : (s.setLane n b).byte a0 = s.byte a0 := rfl

@[simp] theorem State.raiseTile_regs (t n : Nat) : (s.raiseTile t n).regs = s.regs := rfl
@[simp] theorem State.raiseTile_mem (t n : Nat) : (s.raiseTile t n).mem = s.mem := rfl
@[simp] theorem State.raiseTile_lt (t n : Nat) : (s.raiseTile t n).lt = s.lt := rfl
@[simp] theorem State.raiseTile_vco (t n : Nat) : (s.raiseTile t n).vco = s.vco := rfl
@[simp] theorem State.raiseTile_tileAt (t n : Nat) : (s.raiseTile t n).tileAt = s.tileAt := rfl
@[simp] theorem State.raiseTile_sleepNs (t n : Nat) : (s.raiseTile t n).sleepNs = s.sleepNs := rfl
@[simp] theorem State.raiseTile_time (t n : Nat) : (s.raiseTile t n).time = s.time := rfl
@[simp] theorem State.raiseTile_ticks (t n : Nat) : (s.raiseTile t n).ticks = s.ticks := rfl
@[simp] theorem State.raiseTile_com (t n : Nat) : (s.raiseTile t n).com = s.com := rfl
@[simp] theorem State.raiseTile_out (t n : Nat) : (s.raiseTile t n).out = s.out := rfl
@[simp] theorem State.raiseTile_herd (t n : Nat) : (s.raiseTile t n).herd = s.herd := rfl
@[simp] theorem State.raiseTile_link (t n : Nat) : (s.raiseTile t n).link = s.link := rfl
@[simp] theorem State.raiseTile_boot (t n : Nat) : (s.raiseTile t n).boot = s.boot := rfl
@[simp] theorem State.raiseTile_pwr (t n : Nat) : (s.raiseTile t n).pwr = s.pwr := rfl
@[simp] theorem State.raiseTile_queues (t n : Nat) : (s.raiseTile t n).queues = s.queues := rfl
@[simp] theorem State.raiseTile_log (t n : Nat) : (s.raiseTile t n).log = s.log := rfl
@[simp] theorem State.raiseTile_logUnsent (t n : Nat) : (s.raiseTile t n).logUnsent = s.logUnsent := rfl
@[simp] theorem State.raiseTile_acts (t n : Nat) : (s.raiseTile t n).acts = s.acts := rfl
@[simp] theorem State.raiseTile_key (t n : Nat) : (s.raiseTile t n).key = s.key := rfl
@[simp] theorem State.raiseTile_tws (t n : Nat) : (s.raiseTile t n).tws = s.tws := rfl
@[simp] theorem State.raiseTile_freeCtr (t n : Nat) : (s.raiseTile t n).freeCtr = s.freeCtr := rfl
@[simp] theorem State.raiseTile_pending (t n : Nat) : (s.raiseTile t n).pending = s.pending := rfl
@[simp] theorem State.raiseTile_thr (t n : Nat) : (s.raiseTile t n).thr = s.thr := rfl
@[simp] theorem State.raiseTile_host (t n : Nat) : (s.raiseTile t n).host = s.host := rfl
@[simp] theorem State.raiseTile_svc (t n : Nat) : (s.raiseTile t n).svc = s.svc := rfl
@[simp] theorem State.raiseTile_watch (t n : Nat) : (s.raiseTile t n).watch = s.watch := rfl
@[simp] theorem State.raiseTile_co (t n : Nat) : (s.raiseTile t n).co = s.co := rfl
@[simp] theorem State.raiseTile_tiles (t n : Nat) : (s.raiseTile t n).tiles = s.tiles := rfl
@[simp] theorem State.raiseTile_spanFrom (t n : Nat) : (s.raiseTile t n).spanFrom = s.spanFrom := rfl
@[simp] theorem State.raiseTile_spans (t n : Nat) : (s.raiseTile t n).spans = s.spans := rfl
@[simp] theorem State.raiseTile_uncertain (t n : Nat) : (s.raiseTile t n).uncertain = s.uncertain := rfl
@[simp] theorem State.rd_raiseTile (a0 : Nat) (t n : Nat) : (s.raiseTile t n).rd a0 = s.rd a0 := rfl
@[simp] theorem State.get_raiseTile (g0 : Fld) (t n : Nat) : (s.raiseTile t n).get g0 = s.get g0 := rfl
@[simp] theorem State.isSet_raiseTile (g0 : Fld) (t n : Nat) : (s.raiseTile t n).isSet g0 = s.isSet g0 := rfl
@[simp] theorem State.byte_raiseTile (a0 : Nat) (t n : Nat) : (s.raiseTile t n).byte a0 = s.byte a0 := rfl

@[simp] theorem State.putPair_mem (a n : Nat) : (s.putPair a n).mem = s.mem := rfl
@[simp] theorem State.putPair_lt (a n : Nat) : (s.putPair a n).lt = s.lt := rfl
@[simp] theorem State.putPair_vco (a n : Nat) : (s.putPair a n).vco = s.vco := rfl
@[simp] theorem State.putPair_tileAt (a n : Nat) : (s.putPair a n).tileAt = s.tileAt := rfl
@[simp] theorem State.putPair_sleepNs (a n : Nat) : (s.putPair a n).sleepNs = s.sleepNs := rfl
@[simp] theorem State.putPair_time (a n : Nat) : (s.putPair a n).time = s.time := rfl
@[simp] theorem State.putPair_ticks (a n : Nat) : (s.putPair a n).ticks = s.ticks := rfl
@[simp] theorem State.putPair_com (a n : Nat) : (s.putPair a n).com = s.com := rfl
@[simp] theorem State.putPair_cores (a n : Nat) : (s.putPair a n).cores = s.cores := rfl
@[simp] theorem State.putPair_out (a n : Nat) : (s.putPair a n).out = s.out := rfl
@[simp] theorem State.putPair_herd (a n : Nat) : (s.putPair a n).herd = s.herd := rfl
@[simp] theorem State.putPair_link (a n : Nat) : (s.putPair a n).link = s.link := rfl
@[simp] theorem State.putPair_boot (a n : Nat) : (s.putPair a n).boot = s.boot := rfl
@[simp] theorem State.putPair_pwr (a n : Nat) : (s.putPair a n).pwr = s.pwr := rfl
@[simp] theorem State.putPair_queues (a n : Nat) : (s.putPair a n).queues = s.queues := rfl
@[simp] theorem State.putPair_log (a n : Nat) : (s.putPair a n).log = s.log := rfl
@[simp] theorem State.putPair_logUnsent (a n : Nat) : (s.putPair a n).logUnsent = s.logUnsent := rfl
@[simp] theorem State.putPair_acts (a n : Nat) : (s.putPair a n).acts = s.acts := rfl
@[simp] theorem State.putPair_key (a n : Nat) : (s.putPair a n).key = s.key := rfl
@[simp] theorem State.putPair_tws (a n : Nat) : (s.putPair a n).tws = s.tws := rfl
@[simp] theorem State.putPair_freeCtr (a n : Nat) : (s.putPair a n).freeCtr = s.freeCtr := rfl
@[simp] theorem State.putPair_pending (a n : Nat) : (s.putPair a n).pending = s.pending := rfl
@[simp] theorem State.putPair_thr (a n : Nat) : (s.putPair a n).thr = s.thr := rfl
@[simp] theorem State.putPair_host (a n : Nat) : (s.putPair a n).host = s.host := rfl
@[simp] theorem State.putPair_svc (a n : Nat) : (s.putPair a n).svc = s.svc := rfl
@[simp] theorem State.putPair_watch (a n : Nat) : (s.putPair a n).watch = s.watch := rfl
@[simp] theorem State.putPair_co (a n : Nat) : (s.putPair a n).co = s.co := rfl
@[simp] theorem State.putPair_tiles (a n : Nat) : (s.putPair a n).tiles = s.tiles := rfl
@[simp] theorem State.putPair_spanFrom (a n : Nat) : (s.putPair a n).spanFrom = s.spanFrom := rfl
@[simp] theorem State.putPair_spans (a n : Nat) : (s.putPair a n).spans = s.spans := rfl
@[simp] theorem State.putPair_uncertain (a n : Nat) : (s.putPair a n).uncertain = s.uncertain := rfl
@[simp] theorem State.core_putPair (k0 : Nat) (a n : Nat) : (s.putPair a n).core k0 = s.core k0 := rfl
@[simp] theorem State.byte_putPair (a0 : Nat) (a n : Nat) : (s.putPair a n).byte a0 = s.byte a0 := rfl

@[simp] theorem State.incWrap_mem (f : Fld) (n : Nat) : (s.incWrap f n).mem = s.mem := rfl
@[simp] theorem State.incWrap_lt (f : Fld) (n : Nat) : (s.incWrap f n).lt = s.lt := rfl
@[simp] theorem State.incWrap_vco (f : Fld) (n : Nat) : (s.incWrap f n).vco = s.vco := rfl
@[simp] theorem State.incWrap_tileAt (f : Fld) (n : Nat) : (s.incWrap f n).tileAt = s.tileAt := rfl
@[simp] theorem State.incWrap_sleepNs (f : Fld) (n : Nat) : (s.incWrap f n).sleepNs = s.sleepNs := rfl
@[simp] theorem State.incWrap_time (f : Fld) (n : Nat) : (s.incWrap f n).time = s.time := rfl
@[simp] theorem State.incWrap_ticks (f : Fld) (n : Nat) : (s.incWrap f n).ticks = s.ticks := rfl
@[simp] theorem State.incWrap_com (f : Fld) (n : Nat) : (s.incWrap f n).com = s.com := rfl
@[simp] theorem State.incWrap_cores (f : Fld) (n : Nat) : (s.incWrap f n).cores = s.cores := rfl
@[simp] theorem State.incWrap_out (f : Fld) (n : Nat) : (s.incWrap f n).out = s.out := rfl
@[simp] theorem State.incWrap_herd (f : Fld) (n : Nat) : (s.incWrap f n).herd = s.herd := rfl
@[simp] theorem State.incWrap_link (f : Fld) (n : Nat) : (s.incWrap f n).link = s.link := rfl
@[simp] theorem State.incWrap_boot (f : Fld) (n : Nat) : (s.incWrap f n).boot = s.boot := rfl
@[simp] theorem State.incWrap_pwr (f : Fld) (n : Nat) : (s.incWrap f n).pwr = s.pwr := rfl
@[simp] theorem State.incWrap_queues (f : Fld) (n : Nat) : (s.incWrap f n).queues = s.queues := rfl
@[simp] theorem State.incWrap_log (f : Fld) (n : Nat) : (s.incWrap f n).log = s.log := rfl
@[simp] theorem State.incWrap_logUnsent (f : Fld) (n : Nat) : (s.incWrap f n).logUnsent = s.logUnsent := rfl
@[simp] theorem State.incWrap_acts (f : Fld) (n : Nat) : (s.incWrap f n).acts = s.acts := rfl
@[simp] theorem State.incWrap_key (f : Fld) (n : Nat) : (s.incWrap f n).key = s.key := rfl
@[simp] theorem State.incWrap_tws (f : Fld) (n : Nat) : (s.incWrap f n).tws = s.tws := rfl
@[simp] theorem State.incWrap_freeCtr (f : Fld) (n : Nat) : (s.incWrap f n).freeCtr = s.freeCtr := rfl
@[simp] theorem State.incWrap_pending (f : Fld) (n : Nat) : (s.incWrap f n).pending = s.pending := rfl
@[simp] theorem State.incWrap_thr (f : Fld) (n : Nat) : (s.incWrap f n).thr = s.thr := rfl
@[simp] theorem State.incWrap_host (f : Fld) (n : Nat) : (s.incWrap f n).host = s.host := rfl
@[simp] theorem State.incWrap_svc (f : Fld) (n : Nat) : (s.incWrap f n).svc = s.svc := rfl
@[simp] theorem State.incWrap_watch (f : Fld) (n : Nat) : (s.incWrap f n).watch = s.watch := rfl
@[simp] theorem State.incWrap_co (f : Fld) (n : Nat) : (s.incWrap f n).co = s.co := rfl
@[simp] theorem State.incWrap_tiles (f : Fld) (n : Nat) : (s.incWrap f n).tiles = s.tiles := rfl
@[simp] theorem State.incWrap_spanFrom (f : Fld) (n : Nat) : (s.incWrap f n).spanFrom = s.spanFrom := rfl
@[simp] theorem State.incWrap_spans (f : Fld) (n : Nat) : (s.incWrap f n).spans = s.spans := rfl
@[simp] theorem State.incWrap_uncertain (f : Fld) (n : Nat) : (s.incWrap f n).uncertain = s.uncertain := rfl
@[simp] theorem State.core_incWrap (k0 : Nat) (f : Fld) (n : Nat) : (s.incWrap f n).core k0 = s.core k0 := rfl
@[simp] theorem State.byte_incWrap (a0 : Nat) (f : Fld) (n : Nat) : (s.incWrap f n).byte a0 = s.byte a0 := rfl

@[simp] theorem State.clearBit_mem (f : Fld) (n : Nat) : (s.clearBit f n).mem = s.mem := rfl
@[simp] theorem State.clearBit_lt (f : Fld) (n : Nat) : (s.clearBit f n).lt = s.lt := rfl
@[simp] theorem State.clearBit_vco (f : Fld) (n : Nat) : (s.clearBit f n).vco = s.vco := rfl
@[simp] theorem State.clearBit_tileAt (f : Fld) (n : Nat) : (s.clearBit f n).tileAt = s.tileAt := rfl
@[simp] theorem State.clearBit_sleepNs (f : Fld) (n : Nat) : (s.clearBit f n).sleepNs = s.sleepNs := rfl
@[simp] theorem State.clearBit_time (f : Fld) (n : Nat) : (s.clearBit f n).time = s.time := rfl
@[simp] theorem State.clearBit_ticks (f : Fld) (n : Nat) : (s.clearBit f n).ticks = s.ticks := rfl
@[simp] theorem State.clearBit_com (f : Fld) (n : Nat) : (s.clearBit f n).com = s.com := rfl
@[simp] theorem State.clearBit_cores (f : Fld) (n : Nat) : (s.clearBit f n).cores = s.cores := rfl
@[simp] theorem State.clearBit_out (f : Fld) (n : Nat) : (s.clearBit f n).out = s.out := rfl
@[simp] theorem State.clearBit_herd (f : Fld) (n : Nat) : (s.clearBit f n).herd = s.herd := rfl
@[simp] theorem State.clearBit_link (f : Fld) (n : Nat) : (s.clearBit f n).link = s.link := rfl
@[simp] theorem State.clearBit_boot (f : Fld) (n : Nat) : (s.clearBit f n).boot = s.boot := rfl
@[simp] theorem State.clearBit_pwr (f : Fld) (n : Nat) : (s.clearBit f n).pwr = s.pwr := rfl
@[simp] theorem State.clearBit_queues (f : Fld) (n : Nat) : (s.clearBit f n).queues = s.queues := rfl
@[simp] theorem State.clearBit_log (f : Fld) (n : Nat) : (s.clearBit f n).log = s.log := rfl
@[simp] theorem State.clearBit_logUnsent (f : Fld) (n : Nat) : (s.clearBit f n).logUnsent = s.logUnsent := rfl
@[simp] theorem State.clearBit_acts (f : Fld) (n : Nat) : (s.clearBit f n).acts = s.acts := rfl
@[simp] theorem State.clearBit_key (f : Fld) (n : Nat) : (s.clearBit f n).key = s.key := rfl
@[simp] theorem State.clearBit_tws (f : Fld) (n : Nat) : (s.clearBit f n).tws = s.tws := rfl
@[simp] theorem State.clearBit_freeCtr (f : Fld) (n : Nat) : (s.clearBit f n).freeCtr = s.freeCtr := rfl
@[simp] theorem State.clearBit_pending (f : Fld) (n : Nat) : (s.clearBit f n).pending = s.pending := rfl
@[simp] theorem State.clearBit_thr (f : Fld) (n : Nat) : (s.clearBit f n).thr = s.thr := rfl
@[simp] theorem State.clearBit_host (f : Fld) (n : Nat) : (s.clearBit f n).host = s.host := rfl
@[simp] theorem State.clearBit_svc (f : Fld) (n : Nat) : (s.clearBit f n).svc = s.svc := rfl
@[simp] theorem State.clearBit_watch (f : Fld) (n : Nat) : (s.clearBit f n).watch = s.watch := rfl
@[simp] theorem State.clearBit_co (f : Fld) (n : Nat) : (s.clearBit f n).co = s.co := rfl
@[simp] theorem State.clearBit_tiles (f : Fld) (n : Nat) : (s.clearBit f n).tiles = s.tiles := rfl
@[simp] theorem State.clearBit_spanFrom (f : Fld) (n : Nat) : (s.clearBit f n).spanFrom = s.spanFrom := rfl
@[simp] theorem State.clearBit_spans (f : Fld) (n : Nat) : (s.clearBit f n).spans = s.spans := rfl
@[simp] theorem State.clearBit_uncertain (f : Fld) (n : Nat) : (s.clearBit f n).uncertain = s.uncertain := rfl
@[simp] theorem State.core_clearBit (k0 : Nat) (f : Fld) (n : Nat) : (s.clearBit f n).core k0 = s.core k0 := rfl
@[simp] theorem State.byte_clearBit (a0 : Nat) (f : Fld) (n : Nat) : (s.clearBit f n).byte a0 = s.byte a0 := rfl

@[simp] theorem State.putInt_mem (f : Fld) (n : Int) : (s.putInt f n).mem = s.mem := rfl
@[simp] theorem State.putInt_lt (f : Fld) (n : Int) : (s.putInt f n).lt = s.lt := rfl
@[simp] theorem State.putInt_vco (f : Fld) (n : Int) : (s.putInt f n).vco = s.vco := rfl
@[simp] theorem State.putInt_tileAt (f : Fld) (n : Int) : (s.putInt f n).tileAt = s.tileAt := rfl
@[simp] theorem State.putInt_sleepNs (f : Fld) (n : Int) : (s.putInt f n).sleepNs = s.sleepNs := rfl
@[simp] theorem State.putInt_time (f : Fld) (n : Int) : (s.putInt f n).time = s.time := rfl
@[simp] theorem State.putInt_ticks (f : Fld) (n : Int) : (s.putInt f n).ticks = s.ticks := rfl
@[simp] theorem State.putInt_com (f : Fld) (n : Int) : (s.putInt f n).com = s.com := rfl
@[simp] theorem State.putInt_cores (f : Fld) (n : Int) : (s.putInt f n).cores = s.cores := rfl
@[simp] theorem State.putInt_out (f : Fld) (n : Int) : (s.putInt f n).out = s.out := rfl
@[simp] theorem State.putInt_herd (f : Fld) (n : Int) : (s.putInt f n).herd = s.herd := rfl
@[simp] theorem State.putInt_link (f : Fld) (n : Int) : (s.putInt f n).link = s.link := rfl
@[simp] theorem State.putInt_boot (f : Fld) (n : Int) : (s.putInt f n).boot = s.boot := rfl
@[simp] theorem State.putInt_pwr (f : Fld) (n : Int) : (s.putInt f n).pwr = s.pwr := rfl
@[simp] theorem State.putInt_queues (f : Fld) (n : Int) : (s.putInt f n).queues = s.queues := rfl
@[simp] theorem State.putInt_log (f : Fld) (n : Int) : (s.putInt f n).log = s.log := rfl
@[simp] theorem State.putInt_logUnsent (f : Fld) (n : Int) : (s.putInt f n).logUnsent = s.logUnsent := rfl
@[simp] theorem State.putInt_acts (f : Fld) (n : Int) : (s.putInt f n).acts = s.acts := rfl
@[simp] theorem State.putInt_key (f : Fld) (n : Int) : (s.putInt f n).key = s.key := rfl
@[simp] theorem State.putInt_tws (f : Fld) (n : Int) : (s.putInt f n).tws = s.tws := rfl
@[simp] theorem State.putInt_freeCtr (f : Fld) (n : Int) : (s.putInt f n).freeCtr = s.freeCtr := rfl
@[simp] theorem State.putInt_pending (f : Fld) (n : Int) : (s.putInt f n).pending = s.pending := rfl
@[simp] theorem State.putInt_thr (f : Fld) (n : Int) : (s.putInt f n).thr = s.thr := rfl
@[simp] theorem State.putInt_host (f : Fld) (n : Int) : (s.putInt f n).host = s.host := rfl
@[simp] theorem State.putInt_svc (f : Fld) (n : Int) : (s.putInt f n).svc = s.svc := rfl
@[simp] theorem State.putInt_watch (f : Fld) (n : Int) : (s.putInt f n).watch = s.watch := rfl
@[simp] theorem State.putInt_co (f : Fld) (n : Int) : (s.putInt f n).co = s.co := rfl
@[simp] theorem State.putInt_tiles (f : Fld) (n : Int) : (s.putInt f n).tiles = s.tiles := rfl
@[simp] theorem State.putInt_spanFrom (f : Fld) (n : Int) : (s.putInt f n).spanFrom = s.spanFrom := rfl
@[simp] theorem State.putInt_spans (f : Fld) (n : Int) : (s.putInt f n).spans = s.spans := rfl
@[simp] theorem State.putInt_uncertain (f : Fld) (n : Int) : (s.putInt f n).uncertain = s.uncertain := rfl
@[simp] theorem State.core_putInt (k0 : Nat) (f : Fld) (n : Int) : (s.putInt f n).core k0 = s.core k0 := rfl
@[simp] theorem State.byte_putInt (a0 : Nat) (f : Fld) (n : Int) : (s.putInt f n).byte a0 = s.byte a0 := rfl

@[simp] theorem State.raise_mem (n : Nat) : (s.raise n).mem = s.mem := by unfold State.raise; split <;> rfl
@[simp] theorem State.raise_lt (n : Nat) : (s.raise n).lt = s.lt := by unfold State.raise; split <;> rfl
@[simp] theorem State.raise_vco (n : Nat) : (s.raise n).vco = s.vco := by unfold State.raise; split <;> rfl
@[simp] theorem State.raise_tileAt (n : Nat) : (s.raise n).tileAt = s.tileAt := by unfold State.raise; split <;> rfl
@[simp] theorem State.raise_sleepNs (n : Nat) : (s.raise n).sleepNs = s.sleepNs := by unfold State.raise; split <;> rfl
@[simp] theorem State.raise_time (n : Nat) : (s.raise n).time = s.time := by unfold State.raise; split <;> rfl
@[simp] theorem State.raise_ticks (n : Nat) : (s.raise n).ticks = s.ticks := by unfold State.raise; split <;> rfl
@[simp] theorem State.raise_com (n : Nat) : (s.raise n).com = s.com := by unfold State.raise; split <;> rfl
@[simp] theorem State.raise_out (n : Nat) : (s.raise n).out = s.out := by unfold State.raise; split <;> rfl
@[simp] theorem State.raise_herd (n : Nat) : (s.raise n).herd = s.herd := by unfold State.raise; split <;> rfl
@[simp] theorem State.raise_link (n : Nat) : (s.raise n).link = s.link := by unfold State.raise; split <;> rfl
@[simp] theorem State.raise_boot (n : Nat) : (s.raise n).boot = s.boot := by unfold State.raise; split <;> rfl
@[simp] theorem State.raise_pwr (n : Nat) : (s.raise n).pwr = s.pwr := by unfold State.raise; split <;> rfl
@[simp] theorem State.raise_queues (n : Nat) : (s.raise n).queues = s.queues := by unfold State.raise; split <;> rfl
@[simp] theorem State.raise_log (n : Nat) : (s.raise n).log = s.log := by unfold State.raise; split <;> rfl
@[simp] theorem State.raise_logUnsent (n : Nat) : (s.raise n).logUnsent = s.logUnsent := by unfold State.raise; split <;> rfl
@[simp] theorem State.raise_acts (n : Nat) : (s.raise n).acts = s.acts := by unfold State.raise; split <;> rfl
@[simp] theorem State.raise_key (n : Nat) : (s.raise n).key = s.key := by unfold State.raise; split <;> rfl
@[simp] theorem State.raise_tws (n : Nat) : (s.raise n).tws = s.tws := by unfold State.raise; split <;> rfl
@[simp] theorem State.raise_freeCtr (n : Nat) : (s.raise n).freeCtr = s.freeCtr := by unfold State.raise; split <;> rfl
@[simp] theorem State.raise_pending (n : Nat) : (s.raise n).pending = s.pending := by unfold State.raise; split <;> rfl
@[simp] theorem State.raise_thr (n : Nat) : (s.raise n).thr = s.thr := by unfold State.raise; split <;> rfl
@[simp] theorem State.raise_host (n : Nat) : (s.raise n).host = s.host := by unfold State.raise; split <;> rfl
@[simp] theorem State.raise_svc (n : Nat) : (s.raise n).svc = s.svc := by unfold State.raise; split <;> rfl
@[simp] theorem State.raise_watch (n : Nat) : (s.raise n).watch = s.watch := by unfold State.raise; split <;> rfl
@[simp] theorem State.raise_co (n : Nat) : (s.raise n).co = s.co := by unfold State.raise; split <;> rfl
@[simp] theorem State.raise_tiles (n : Nat) : (s.raise n).tiles = s.tiles := by unfold State.raise; split <;> rfl
@[simp] theorem State.raise_spanFrom (n : Nat) : (s.raise n).spanFrom = s.spanFrom := by unfold State.raise; split <;> rfl
@[simp] theorem State.raise_spans (n : Nat) : (s.raise n).spans = s.spans := by unfold State.raise; split <;> rfl
@[simp] theorem State.raise_uncertain (n : Nat) : (s.raise n).uncertain = s.uncertain := by unfold State.raise; split <;> rfl

/-- Raising an event makes its source pending at the vat core (R269, R438). -/
@[simp] theorem State.core_raise_vat (n : Nat) : (s.raise n).core 8 = (s.core 8).pend n := by
  unfold State.raise
  split <;> simp only [State.core_setCore_same, State.incSat, State.setBit, State.core_put]

/-- Raising an event leaves the other cores. -/
theorem State.core_raise_other {k : Nat} (n : Nat) (h : k ≠ 8) : (s.raise n).core k = s.core k := by
  unfold State.raise
  split <;> rw [State.core_setCore_other _ _ h] <;> simp only [State.incSat, State.setBit, State.core_put]

/-- Raising an event writes EVT_SEEN and the event's counter alone among the registers (R438). -/
theorem State.get_raise_other (f : Fld) (n : Nat) (h1 : f.addr ≠ R.EVT_SEEN_LO) (h2 : f.addr ≠ R.EVT_SEEN_HI) (h3 : f.addr ≠ R.EVT_CNT n) :
    (s.raise n).get f = s.get f := by
  unfold State.raise
  split
  · rw [State.get_setCore, State.incSat, State.get_put_other _ _ _ _ h3, State.setBit, State.get_put_other _ _ _ _ h1]
  · rw [State.get_setCore, State.incSat, State.get_put_other _ _ _ _ h3, State.setBit, State.get_put_other _ _ _ _ h2]

/-- A field beside another one of the same register stays. -/
theorem Fld.ofWord_into_apart (f g : Fld) (w : Word) (n : Nat) (hf : f.lo + f.width ≤ 32) (h : g.lo + g.width ≤ f.lo ∨ f.lo + f.width ≤ g.lo) :
    g.ofWord (f.into w n) = g.ofWord w := by
  unfold Fld.ofWord
  rw [Fld.into_toNat f w n hf]
  have hs := Fld.split f w.toNat
  have hb : w.toNat % 2 ^ f.lo < 2 ^ f.lo := Nat.mod_lt _ (Nat.pos_of_ne_zero (by simp))
  have hn : n % 2 ^ f.width < 2 ^ f.width := Nat.mod_lt _ (Nat.pos_of_ne_zero (by simp))
  have hm : w.toNat / 2 ^ f.lo % 2 ^ f.width < 2 ^ f.width := Nat.mod_lt _ (Nat.pos_of_ne_zero (by simp))
  generalize w.toNat / 2 ^ f.lo % 2 ^ f.width = m at hs hm
  generalize w.toNat / 2 ^ (f.lo + f.width) = q at hs ⊢
  generalize w.toNat % 2 ^ f.lo = b at hs hb ⊢
  generalize n % 2 ^ f.width = k at hn ⊢
  rw [hs]
  clear hs
  rcases h with h | h
  · have key : ∀ j, (q * 2 ^ (f.lo + f.width) + j * 2 ^ f.lo + b) / 2 ^ g.lo % 2 ^ g.width = b / 2 ^ g.lo % 2 ^ g.width := by
      intro j
      have e : q * 2 ^ (f.lo + f.width) + j * 2 ^ f.lo + b
          = b + 2 ^ g.lo * (2 ^ g.width * (2 ^ (f.lo - (g.lo + g.width)) * (q * 2 ^ f.width + j))) := by
        have e1 : 2 ^ g.lo * (2 ^ g.width * 2 ^ (f.lo - (g.lo + g.width))) = 2 ^ f.lo := by
          rw [← Nat.pow_add, ← Nat.pow_add]; congr 1; omega
        rw [← Nat.mul_assoc (2 ^ g.width), ← Nat.mul_assoc (2 ^ g.lo), e1, Nat.pow_add]
        ring
      rw [e, Nat.add_mul_div_left _ _ (Nat.pos_of_ne_zero (by simp)), Nat.add_mul_mod_self_left]
    rw [key, key]
  · have key : ∀ j, j < 2 ^ f.width → (q * 2 ^ (f.lo + f.width) + j * 2 ^ f.lo + b) / 2 ^ g.lo = q / 2 ^ (g.lo - (f.lo + f.width)) := by
      intro j hj
      have e1 : 2 ^ g.lo = 2 ^ (f.lo + f.width) * 2 ^ (g.lo - (f.lo + f.width)) := by rw [← Nat.pow_add]; congr 1; omega
      have lt : j * 2 ^ f.lo + b < 2 ^ (f.lo + f.width) := by
        have : (j + 1) * 2 ^ f.lo ≤ 2 ^ f.width * 2 ^ f.lo := Nat.mul_le_mul_right _ hj
        rw [Nat.pow_add, Nat.mul_comm (2 ^ f.lo)]
        rw [Nat.add_mul, Nat.one_mul] at this
        omega
      rw [e1, ← Nat.div_div_eq_div_mul, Nat.add_assoc, Nat.add_comm, Nat.mul_comm q, Nat.add_mul_div_left _ _ (Nat.pos_of_ne_zero (by simp)),
        Nat.div_eq_of_lt lt, Nat.zero_add]
    rw [key k hn, key m hm]

/-- A field beside another one of the same register, read after that one was set. -/
theorem State.get_put_apart (f g : Fld) (n : Nat) (hf : f.lo + f.width ≤ 32) (h : g.lo + g.width ≤ f.lo ∨ f.lo + f.width ≤ g.lo) :
    (s.put f n).get g = s.get g := by
  by_cases e : g.addr = f.addr
  · unfold State.get State.put
    rw [e, State.rd_wr_same, Fld.ofWord_into_apart f g _ n hf h]
  · exact State.get_put_other _ _ _ _ e

@[simp] theorem State.setDom_booting (n st : Nat) : (s.setDom n st).booting = s.booting := rfl
@[simp] theorem State.setDom_regs (n st : Nat) : (s.setDom n st).regs = (s.put (domFld n) st).regs := rfl
@[simp] theorem State.setDom_mem (n st : Nat) : (s.setDom n st).mem = s.mem := rfl
@[simp] theorem State.setDom_lines (n st : Nat) : (s.setDom n st).lines = s.lines := rfl
@[simp] theorem State.setDom_scrubs (n st : Nat) : (s.setDom n st).scrubs = s.scrubs := rfl
@[simp] theorem State.setDom_lt (n st : Nat) : (s.setDom n st).lt = s.lt := rfl
@[simp] theorem State.setDom_vco (n st : Nat) : (s.setDom n st).vco = s.vco := rfl
@[simp] theorem State.setDom_tileAt (n st : Nat) : (s.setDom n st).tileAt = s.tileAt := rfl
@[simp] theorem State.setDom_time (n st : Nat) : (s.setDom n st).time = s.time := rfl
@[simp] theorem State.setDom_uncertain (n st : Nat) : (s.setDom n st).uncertain = s.uncertain := rfl
@[simp] theorem State.setDom_spans (n st : Nat) : (s.setDom n st).spans = s.spans := rfl
@[simp] theorem State.setDom_spanFrom (n st : Nat) : (s.setDom n st).spanFrom = s.spanFrom := rfl
@[simp] theorem State.setDom_ticks (n st : Nat) : (s.setDom n st).ticks = s.ticks := rfl
@[simp] theorem State.setDom_sleepNs (n st : Nat) : (s.setDom n st).sleepNs = s.sleepNs := rfl
@[simp] theorem State.setDom_com (n st : Nat) : (s.setDom n st).com = s.com := rfl
@[simp] theorem State.setDom_queues (n st : Nat) : (s.setDom n st).queues = s.queues := rfl
@[simp] theorem State.setDom_ladles (n st : Nat) : (s.setDom n st).ladles = s.ladles := rfl
@[simp] theorem State.setDom_seqs (n st : Nat) : (s.setDom n st).seqs = s.seqs := rfl
@[simp] theorem State.setDom_log (n st : Nat) : (s.setDom n st).log = s.log := rfl
@[simp] theorem State.setDom_logUnsent (n st : Nat) : (s.setDom n st).logUnsent = s.logUnsent := rfl
@[simp] theorem State.setDom_userLts (n st : Nat) : (s.setDom n st).userLts = s.userLts := rfl
@[simp] theorem State.setDom_acts (n st : Nat) : (s.setDom n st).acts = s.acts := rfl
@[simp] theorem State.setDom_actOrder (n st : Nat) : (s.setDom n st).actOrder = s.actOrder := rfl
@[simp] theorem State.setDom_outs (n st : Nat) : (s.setDom n st).outs = s.outs := rfl
@[simp] theorem State.setDom_evts (n st : Nat) : (s.setDom n st).evts = s.evts := rfl
@[simp] theorem State.setDom_caps (n st : Nat) : (s.setDom n st).caps = s.caps := rfl
@[simp] theorem State.setDom_encs (n st : Nat) : (s.setDom n st).encs = s.encs := rfl
@[simp] theorem State.setDom_srcs (n st : Nat) : (s.setDom n st).srcs = s.srcs := rfl
@[simp] theorem State.setDom_timers (n st : Nat) : (s.setDom n st).timers = s.timers := rfl
@[simp] theorem State.setDom_herd (n st : Nat) : (s.setDom n st).herd = s.herd := rfl
@[simp] theorem State.setDom_churn (n st : Nat) : (s.setDom n st).churn = s.churn := rfl
@[simp] theorem State.setDom_env (n st : Nat) : (s.setDom n st).env = s.env := rfl
@[simp] theorem State.setDom_cores (n st : Nat) : (s.setDom n st).cores = s.cores := rfl
@[simp] theorem State.setDom_cells (n st : Nat) : (s.setDom n st).cells = s.cells := rfl
@[simp] theorem State.setDom_chans (n st : Nat) : (s.setDom n st).chans = s.chans := rfl
@[simp] theorem State.setDom_moduleAt (n st : Nat) : (s.setDom n st).moduleAt = s.moduleAt := rfl
@[simp] theorem State.setDom_mainsMoved (n st : Nat) : (s.setDom n st).mainsMoved = s.mainsMoved := rfl
@[simp] theorem State.setDom_mainsRun (n st : Nat) : (s.setDom n st).mainsRun = s.mainsRun := rfl
@[simp] theorem State.setDom_mainsEdges (n st : Nat) : (s.setDom n st).mainsEdges = s.mainsEdges := rfl
@[simp] theorem State.setDom_tiles (n st : Nat) : (s.setDom n st).tiles = s.tiles := rfl
@[simp] theorem State.setDom_stopped (n st : Nat) : (s.setDom n st).stopped = s.stopped := rfl
@[simp] theorem State.setDom_routes (n st : Nat) : (s.setDom n st).routes = s.routes := rfl
@[simp] theorem State.setDom_key (n st : Nat) : (s.setDom n st).key = s.key := rfl
@[simp] theorem State.setDom_co (n st : Nat) : (s.setDom n st).co = s.co := rfl
@[simp] theorem State.setDom_tws (n st : Nat) : (s.setDom n st).tws = s.tws := rfl
@[simp] theorem State.setDom_pwr (n st : Nat) : (s.setDom n st).pwr = s.pwr := rfl
@[simp] theorem State.setDom_thr (n st : Nat) : (s.setDom n st).thr = s.thr := rfl
@[simp] theorem State.setDom_watch (n st : Nat) : (s.setDom n st).watch = s.watch := rfl
@[simp] theorem State.setDom_boot (n st : Nat) : (s.setDom n st).boot = s.boot := rfl
@[simp] theorem State.setDom_host (n st : Nat) : (s.setDom n st).host = s.host := rfl
@[simp] theorem State.setDom_svc (n st : Nat) : (s.setDom n st).svc = s.svc := rfl
@[simp] theorem State.setDom_freeCtr (n st : Nat) : (s.setDom n st).freeCtr = s.freeCtr := rfl
@[simp] theorem State.setDom_pending (n st : Nat) : (s.setDom n st).pending = s.pending := rfl

end Sys2Proof.Machine
end

