-- ==== Sys2Proof/Laws/Herd.lean ====
section
/-! SUPPORT. The Herd link: a frame formed here is good where it arrives, a frame of class 0 leaves an idle port at once, and a port that takes no ring frame drops
what arrives. -/

namespace Sys2Proof.Machine

/-- Header and payload do not depend on the CRC field, so a sealed frame's CRC holds (R149). -/
theorem Frame.seal_crcOk (f : Frame) : f.seal.crcOk = true := by
  simp only [Frame.crcOk, Frame.seal, Frame.crcOf, Frame.header, beq_self_eq_true]

/-- A frame formed here with a number of entries that R150 allows is good where its copy ends with EOF. -/
theorem Frame.form_seen (origin dest : Nat) (bcast : Bool) (q : Word) (b : Body) (h : b.countOk = true) :
    (Frame.form origin dest bcast q b).seen .good = .good := by
  have hc : (Frame.form origin dest bcast q b).crcOk = true := Frame.seal_crcOk _
  have hf : (Frame.form origin dest bcast q b).formOk = true := by
    simp only [Frame.formOk, Frame.form, Frame.seal, beq_self_eq_true, h, Bool.and_self]
  simp only [Frame.seen, hc, hf, Bool.not_true, Bool.false_eq_true, if_false]

/-- Both ports are apart: a port reads what was put there last. -/
@[simp] theorem State.setPort_port (s : State) (b : Bool) (p : PortSt) : (s.setPort b p).port b = p := by cases b <;> rfl

/-- A port's state does not move the port's clock. -/
@[simp] theorem State.setPort_portNow (s : State) (b : Bool) (p : PortSt) : (s.setPort b p).portNow = s.portNow := by cases b <;> rfl

/-- A frame of class 0 whose time has come leaves an idle port at once (R151). -/
theorem State.txPut_idle {s : State} {b : Bool} {f : TxFrame} (h : (s.port b).tx = .idle) (hc : f.frame.body.cls = 0) (hf : f.from_ ≤ s.vco) :
    (s.txPut b f).out = s.out ++ [.frame b s.portNow f.frame f.how] := by
  unfold State.txPut
  simp [h, hc, PortTx.idle, State.txStep, PortTx.next, hf]
  rfl

/-- A module of a line counts nothing for a good copy (R147, R150). -/
theorem State.arrived_good (s : State) (h : s.role ≠ 3) : s.arrived .good = s := by
  simp only [State.arrived, h, if_false, State.copyErr, ite_self]

/-- A port that takes no ring frame drops every copy (R147, R153). -/
theorem State.fate_drop (s : State) (b : Bool) (f : Frame) (how : CopyEnd) (h : s.ringTakes b = false) : s.fate b f how = .drop := by
  simp [State.fate, h]

/-- A good ring frame at such a port of a line module has no effect. -/
theorem State.ringRx_drop (s : State) (b : Bool) (f : Frame) (take : State → State) (hg : f.seen .good = .good) (h : s.ringTakes b = false)
    (hr : s.role ≠ 3) : s.ringRx b f .good take = s := by
  simp [State.ringRx, hg, State.arrived_good s hr, State.fate_drop s b f .good h]

end Sys2Proof.Machine
end

