-- ==== Sys2Proof/Laws/KeepBase.lean ====
section
/-! SUPPORT. Properties of states that the shared operations keep: what such a property has to be kept by, and how it passes through folds and pairs. -/

set_option Elab.async false
set_option linter.unusedTactic false
set_option linter.unreachableTactic false
set_option linter.unusedVariables false

namespace Sys2Proof.Machine

/-- A property of states that every update keeps which writes registers, makes a core's source pending, or changes what is neither register, memory, core nor
waiting command. -/
structure Keep where
  P : State → Prop
  wr : ∀ s a v, P s → P (s.wr a v)
  clear : ∀ s p, P s → P (s.clearRegs p)
  lk : ∀ s p, P s → P (s.lkReset p)
  pend : ∀ s k n, P s → P (s.setCore k ((s.core k).pend n))
  lit : ∀ (u : State) (x_booting : Bool) (x_lines : List (Nat × LineErr)) (x_scrubs : List (Nat × Scrub)) (x_lt : Nat) (x_vco : Nat) (x_tileAt : Nat) (x_time : Bool) (x_uncertain : Bool) (x_spans : List (Nat × Nat)) (x_spanFrom : Option Nat) (x_ticks : Option Nat) (x_sleepNs : Nat) (x_com : Com) (x_queues : List (Nat × Queue)) (x_ladles : List (Nat × Ladle)) (x_seqs : List (Nat × Nat)) (x_log : List (Nat × Option LogEntry)) (x_logUnsent : List LogEntry) (x_userLts : List Nat) (x_acts : List (Nat × ActEntry)) (x_actOrder : Nat) (x_outs : List (Nat × OutSt)) (x_evts : List EvtRec) (x_caps : List (Nat × CapUnit)) (x_encs : List (Nat × EncSt)) (x_srcs : List (Nat × Source)) (x_timers : List (Nat × Timer)) (x_herd : HerdSt) (x_churn : List (Nat × ChurnSt)) (x_env : List (Nat × BitVec 64)) (x_cells : List (Nat × CellSt)) (x_chans : List (Nat × ChanSt)) (x_moduleAt : Option Nat) (x_mainsMoved : List (Nat × Nat)) (x_mainsRun : List (Nat × List (Nat × Nat))) (x_mainsEdges : List Nat) (x_tiles : List (Nat × TileRun)) (x_stopped : List Nat) (x_routes : List (Nat × Route)) (x_key : KeySt) (x_co : CoSt) (x_tws : List (Nat × TwSt)) (x_link : LinkSt) (x_pwr : PwrSt) (x_thr : ThrSt) (x_watch : WatchSt) (x_boot : BootSt) (x_host : HostSt) (x_svc : SvcSt) (x_freeCtr : Nat) (x_out : List Emission), P u →
    P ⟨x_booting, u.regs, u.mem, x_lines, x_scrubs, x_lt, x_vco, x_tileAt, x_time, x_uncertain, x_spans, x_spanFrom, x_ticks, x_sleepNs, x_com, x_queues, x_ladles, x_seqs, x_log, x_logUnsent, x_userLts, x_acts, x_actOrder, x_outs, x_evts, x_caps, x_encs, x_srcs, x_timers, x_herd, x_churn, x_env, u.cores, x_cells, x_chans, x_moduleAt, x_mainsMoved, x_mainsRun, x_mainsEdges, x_tiles, x_stopped, x_routes, x_key, x_co, x_tws, x_link, x_pwr, x_thr, x_watch, x_boot, x_host, x_svc, x_freeCtr, x_out, u.pending⟩

/-- A property that updates of memory keep too. -/
class Keep.Mem (K : Keep) : Prop where
  setByte : ∀ s a b, K.P s → K.P (s.setByte a b)
  cut : ∀ s p, K.P s → K.P (s.memCut p)

/-- A property that updates of cores keep too. -/
class Keep.Cores (K : Keep) : Prop where
  setCore : ∀ s k c, K.P s → K.P (s.setCore k c)

/-- A property that the resets keep too. -/
class Keep.Resets (K : Keep) : Prop where
  wipe : ∀ s : State, K.P s → K.P s.wipe
  power : ∀ s : State, K.P s → K.P s.powerLost
  zero : ∀ s : State, K.P s → K.P { s with mem := [] }

variable {K : Keep}

theorem foldl_kept {α : Type} (f : State → α → State) (h : ∀ s x, K.P s → K.P (f s x)) (l : List α) (s : State) (hs : K.P s) : K.P (l.foldl f s) := by
  induction l generalizing s with
  | nil => exact hs
  | cons a l ih => exact ih _ (h s a hs)

theorem State.wr_kept (s : State) (a : Nat) (v : Word) (h : K.P s) : K.P (s.wr a v) := K.wr _ _ _ h
theorem State.setByte_kept [K.Mem] (s : State) (a : Nat) (v : Byte) (h : K.P s) : K.P (s.setByte a v) := Keep.Mem.setByte _ _ _ h
theorem State.memCut_kept [K.Mem] (s : State) (p : Nat → Bool) (h : K.P s) : K.P (s.memCut p) := Keep.Mem.cut _ _ h
theorem State.setCore_kept [K.Cores] (s : State) (a : Nat) (v : Core) (h : K.P s) : K.P (s.setCore a v) := Keep.Cores.setCore _ _ _ h
theorem State.setBytes_kept [K.Mem] (s : State) (a : Nat) (l : List Byte) (h : K.P s) : K.P (s.setBytes a l) := by
  induction l generalizing s a with
  | nil => exact h
  | cons b l ih => exact ih _ _ (State.setByte_kept _ _ _ h)
theorem State.storeLe_kept [K.Mem] (s : State) (a n v : Nat) (h : K.P s) : K.P (s.storeLe a n v) := State.setBytes_kept _ _ _ h
theorem State.clearRegs_kept (s : State) (p : Nat → Bool) (h : K.P s) : K.P (s.clearRegs p) := K.clear _ _ h
theorem State.lkReset_kept (s : State) (p : Nat → Bool) (h : K.P s) : K.P (s.lkReset p) := K.lk _ _ h
theorem State.lit_kept {u : State} (x_booting : Bool) (x_lines : List (Nat × LineErr)) (x_scrubs : List (Nat × Scrub)) (x_lt : Nat) (x_vco : Nat) (x_tileAt : Nat) (x_time : Bool) (x_uncertain : Bool) (x_spans : List (Nat × Nat)) (x_spanFrom : Option Nat) (x_ticks : Option Nat) (x_sleepNs : Nat) (x_com : Com) (x_queues : List (Nat × Queue)) (x_ladles : List (Nat × Ladle)) (x_seqs : List (Nat × Nat)) (x_log : List (Nat × Option LogEntry)) (x_logUnsent : List LogEntry) (x_userLts : List Nat) (x_acts : List (Nat × ActEntry)) (x_actOrder : Nat) (x_outs : List (Nat × OutSt)) (x_evts : List EvtRec) (x_caps : List (Nat × CapUnit)) (x_encs : List (Nat × EncSt)) (x_srcs : List (Nat × Source)) (x_timers : List (Nat × Timer)) (x_herd : HerdSt) (x_churn : List (Nat × ChurnSt)) (x_env : List (Nat × BitVec 64)) (x_cells : List (Nat × CellSt)) (x_chans : List (Nat × ChanSt)) (x_moduleAt : Option Nat) (x_mainsMoved : List (Nat × Nat)) (x_mainsRun : List (Nat × List (Nat × Nat))) (x_mainsEdges : List Nat) (x_tiles : List (Nat × TileRun)) (x_stopped : List Nat) (x_routes : List (Nat × Route)) (x_key : KeySt) (x_co : CoSt) (x_tws : List (Nat × TwSt)) (x_link : LinkSt) (x_pwr : PwrSt) (x_thr : ThrSt) (x_watch : WatchSt) (x_boot : BootSt) (x_host : HostSt) (x_svc : SvcSt) (x_freeCtr : Nat) (x_out : List Emission) (h : K.P u) :
    K.P ⟨x_booting, u.regs, u.mem, x_lines, x_scrubs, x_lt, x_vco, x_tileAt, x_time, x_uncertain, x_spans, x_spanFrom, x_ticks, x_sleepNs, x_com, x_queues, x_ladles, x_seqs, x_log, x_logUnsent, x_userLts, x_acts, x_actOrder, x_outs, x_evts, x_caps, x_encs, x_srcs, x_timers, x_herd, x_churn, x_env, u.cores, x_cells, x_chans, x_moduleAt, x_mainsMoved, x_mainsRun, x_mainsEdges, x_tiles, x_stopped, x_routes, x_key, x_co, x_tws, x_link, x_pwr, x_thr, x_watch, x_boot, x_host, x_svc, x_freeCtr, x_out, u.pending⟩ := K.lit u _ _ _ _ _ _ _ _ _ _ _ _ _ _ _ _ _ _ _ _ _ _ _ _ _ _ _ _ _ _ _ _ _ _ _ _ _ _ _ _ _ _ _ _ _ _ _ _ _ _ _ h

theorem fst_kept {α : Type} {p : State × α} {a : State} {b : α} (he : p = (a, b)) (h : K.P p.1) : K.P a := by
  rw [he] at h; exact h

theorem foldl_fst_kept {α β : Type} (f : State × β → α → State × β) (h : ∀ a x, K.P a.1 → K.P (f a x).1) (l : List α)
    (a : State × β) (hs : K.P a.1) : K.P (l.foldl f a).1 := by
  induction l generalizing a with
  | nil => exact hs
  | cons x l ih => exact ih _ (h a x hs)

theorem ite_kept {c : Prop} [Decidable c] {a b : State} (ha : K.P a) (hb : K.P b) : K.P (if c then a else b) := by
  split
  · exact ha
  · exact hb

theorem ite_fst_kept {α : Type} {c : Prop} [Decidable c] {a b : State × α} (ha : K.P a.1) (hb : K.P b.1) : K.P (if c then a else b).1 := by
  split
  · exact ha
  · exact hb

end Sys2Proof.Machine
end

