-- ==== Sys2Proof/Laws/KeepA.lean ====
section
/-! SUPPORT. The shared operations of Ops, Groups, Queues, Log, LadleRuns, Actions, Modes, HerdSend, Fold, Churn, ChurnCmds, Samples, Channels: what each keeps. -/

set_option Elab.async false
set_option linter.unusedTactic false
set_option linter.unreachableTactic false
set_option linter.unusedVariables false

namespace Sys2Proof.Machine

variable {K : Keep}

theorem State.put_kept (s : State) (f : Fld) (n : Nat) (hw : K.P s) : K.P (State.put s f n) := by
  unfold State.put
  try dsimp only
  repeat' with_reducible first | assumption | apply State.wr_kept

theorem State.putB_kept (s : State) (f : Fld) (b : Bool) (hw : K.P s) : K.P (State.putB s f b) := by
  unfold State.putB
  try dsimp only
  repeat' with_reducible first | assumption | apply ite_kept | apply State.put_kept

theorem State.setBit_kept (s : State) (f : Fld) (i : Nat) (hw : K.P s) : K.P (State.setBit s f i) := by
  unfold State.setBit
  try dsimp only
  repeat' with_reducible first | assumption | apply State.put_kept

theorem State.clearBit_kept (s : State) (f : Fld) (i : Nat) (hw : K.P s) : K.P (State.clearBit s f i) := by
  unfold State.clearBit
  try dsimp only
  repeat' with_reducible first | assumption | apply ite_kept | apply State.put_kept

theorem State.incSat_kept (s : State) (f : Fld) (n : Nat) (hw : K.P s) : K.P (State.incSat s f n) := by
  unfold State.incSat
  try dsimp only
  repeat' with_reducible first | assumption | apply State.put_kept

theorem State.incWrap_kept (s : State) (f : Fld) (n : Nat) (hw : K.P s) : K.P (State.incWrap s f n) := by
  unfold State.incWrap
  try dsimp only
  repeat' with_reducible first | assumption | apply State.put_kept

theorem State.putInt_kept (s : State) (f : Fld) (i : Int) (hw : K.P s) : K.P (State.putInt s f i) := by
  unfold State.putInt
  try dsimp only
  repeat' with_reducible first | assumption | apply ite_kept | apply State.put_kept

theorem State.putPair_kept (s : State) (a n : Nat) (hw : K.P s) : K.P (State.putPair s a n) := by
  unfold State.putPair
  try dsimp only
  repeat' with_reducible first | assumption | apply State.wr_kept

theorem State.raise_kept (s : State) (n : Nat) (hw : K.P s) : K.P (s.raise n) := by
  unfold State.raise
  dsimp only
  refine K.pend _ _ _ ?_
  repeat' first | (with_reducible first | assumption | apply ite_kept | apply State.setCore_kept | apply State.setBit_kept | apply State.incSat_kept) | split | dsimp only

theorem State.raiseTile_kept (s : State) (t n : Nat) (hw : K.P s) : K.P (s.raiseTile t n) := K.pend _ _ _ hw

theorem State.takeSeq_kept (s : State) (key : Nat) (hw : K.P s) : K.P (State.takeSeq s key) := by
  unfold State.takeSeq
  try dsimp only
  repeat' first | (with_reducible first | assumption) | with_reducible apply State.lit_kept | dsimp only

theorem State.freeNext_kept (s : State) (hw : K.P s) : K.P (State.freeNext s) := by
  unfold State.freeNext
  try dsimp only
  repeat' first | (with_reducible first | assumption) | with_reducible apply State.lit_kept

theorem State.emit_kept (s : State) (e : Emission) (hw : K.P s) : K.P (State.emit s e) := by
  unfold State.emit
  try dsimp only
  repeat' first | (with_reducible first | assumption) | with_reducible apply State.lit_kept

theorem State.setEng_kept (s : State) (t : Nat) (x : ChurnSt) (hw : K.P s) : K.P (State.setEng s t x) := by
  unfold State.setEng
  try dsimp only
  repeat' first | (with_reducible first | assumption) | with_reducible apply State.lit_kept | dsimp only

theorem State.setGrp_kept (s : State) (t g : Nat) (x : GroupSt) (hw : K.P s) : K.P (State.setGrp s t g x) := by
  unfold State.setGrp
  try dsimp only
  repeat' first | (with_reducible first | assumption | apply State.setEng_kept) | with_reducible apply State.lit_kept | dsimp only

theorem State.gapCovers_kept (s : State) (t : Nat) (es : List GapEntry) (hw : K.P s) : K.P (State.gapCovers s t es) := by
  unfold State.gapCovers
  try dsimp only
  repeat' first | (with_reducible first | assumption | apply ite_kept | apply State.setEng_kept | apply State.setGrp_kept | (apply foldl_kept; intro _ _ _)) | split | with_reducible apply State.lit_kept | dsimp only

theorem State.setQueue_kept (s : State) (q : Nat) (x : Queue) (hw : K.P s) : K.P (State.setQueue s q x) := by
  unfold State.setQueue
  try dsimp only
  repeat' first | (with_reducible first | assumption) | with_reducible apply State.lit_kept | dsimp only

theorem State.raiseQueue_kept (s : State) (q : Nat) (hw : K.P s) : K.P (State.raiseQueue s q) := by
  unfold State.raiseQueue
  try dsimp only
  repeat' with_reducible first | assumption | apply State.raise_kept

theorem State.qThreshold_kept (s : State) (q : Nat) (hw : K.P s) : K.P (State.qThreshold s q) := by
  unfold State.qThreshold
  try dsimp only
  repeat' with_reducible first | assumption | apply ite_kept | apply State.put_kept | apply State.raiseTile_kept | apply State.raiseQueue_kept

theorem State.qCommit_kept (s : State) (q : Nat) (r : Rec) (hw : K.P s) : K.P (State.qCommit s q r) := by
  unfold State.qCommit
  try dsimp only
  repeat' first | (with_reducible first | assumption | apply ite_kept | apply State.setQueue_kept | apply State.qThreshold_kept) | split | with_reducible apply State.lit_kept | dsimp only

theorem State.qWriteGaps_kept (q cause : Nat) (l : List (List GapEntry)) : ∀ (s : State), K.P s → K.P (s.qWriteGaps q cause l) := by
  induction l with
  | nil => intro s hw; exact hw
  | cons e t ih =>
    intro s hw
    unfold State.qWriteGaps
    dsimp only
    refine ih _ ?_
    repeat' first | (with_reducible first | assumption | apply ite_kept | apply ih | apply State.takeSeq_kept | apply State.gapCovers_kept | apply State.qCommit_kept) | split | dsimp only

theorem State.qWriteMarks_kept (q : Nat) (l : List Rec) : ∀ (s : State), K.P s → K.P (s.qWriteMarks q l) := by
  induction l with
  | nil => intro s hw; exact hw
  | cons e t ih => intro s hw; exact ih _ (State.qCommit_kept _ _ _ hw)

theorem State.qWritePend_kept (s : State) (q : Nat) (p : PendGap) (hw : K.P s) : K.P (State.qWritePend s q p) := by
  unfold State.qWritePend
  try dsimp only
  repeat' first | (with_reducible first | assumption | apply State.setQueue_kept | apply State.qWriteGaps_kept | apply State.qWriteMarks_kept) | with_reducible apply State.lit_kept

theorem State.qRoom_kept (s : State) (q before : Nat) (hw : K.P s) : K.P (State.qRoom s q before) := by
  unfold State.qRoom
  try dsimp only
  repeat' with_reducible first | assumption | apply ite_kept | apply State.put_kept | apply State.raiseTile_kept | apply State.raiseQueue_kept

theorem State.setLadle_kept (s : State) (l : Nat) (x : Ladle) (hw : K.P s) : K.P (State.setLadle s l x) := by
  unfold State.setLadle
  try dsimp only
  repeat' first | (with_reducible first | assumption) | with_reducible apply State.lit_kept | dsimp only

theorem State.evictRuns_kept (s : State) (q : Nat) (old : Queue) (hw : K.P s) : K.P (State.evictRuns s q old) := by
  unfold State.evictRuns
  try dsimp only
  repeat' first | (with_reducible first | assumption | apply ite_kept | apply State.setLadle_kept | (apply foldl_kept; intro _ _ _)) | dsimp only

theorem State.qMakeRoom_kept (s : State) (q need limit : Nat) (hw : K.P s) : K.P (State.qMakeRoom s q need limit) := by
  unfold State.qMakeRoom
  try dsimp only
  repeat' with_reducible first | assumption | apply ite_kept | apply State.setQueue_kept | apply State.qRoom_kept | apply State.evictRuns_kept

theorem State.qDrop_kept (s : State) (q : Nat) (r : Rec) (hw : K.P s) : K.P (State.qDrop s q r) := by
  unfold State.qDrop
  try dsimp only
  repeat' first | (with_reducible first | assumption | apply ite_kept | apply State.put_kept | apply State.incSat_kept | apply State.setQueue_kept | apply State.raiseQueue_kept) | split | with_reducible apply State.lit_kept | dsimp only

theorem State.qFlushFor_kept (s : State) (q : Nat) (r : Rec) (hw : K.P s) : K.P (State.qFlushFor s q r).1 := by
  unfold State.qFlushFor
  try dsimp only
  repeat' first | (with_reducible first | assumption | apply ite_kept | apply State.qWritePend_kept | apply State.qMakeRoom_kept) | split | with_reducible apply State.lit_kept | dsimp only

theorem State.qAdmit_kept (s : State) (q : Nat) (r : Rec) (hw : K.P s) : K.P (State.qAdmit s q r) := by
  unfold State.qAdmit
  try dsimp only
  repeat' first | (with_reducible first | assumption | apply ite_kept | apply State.qCommit_kept | apply State.qMakeRoom_kept | apply State.qDrop_kept | apply State.qFlushFor_kept) | (apply fst_kept (by assumption)) | split | dsimp only

theorem State.qPassHead_kept (s : State) (q id : Nat) (hw : K.P s) : K.P (State.qPassHead s q id) := by
  unfold State.qPassHead
  try dsimp only
  repeat' first | (with_reducible first | assumption | apply ite_kept | apply State.setQueue_kept | apply State.qRoom_kept) | split | with_reducible apply State.lit_kept | dsimp only

theorem State.qPass_kept (s : State) (q id : Nat) (hw : K.P s) : K.P (State.qPass s q id) := by
  unfold State.qPass
  try dsimp only
  repeat' first | (with_reducible first | assumption | apply ite_kept | apply State.takeSeq_kept | apply State.setQueue_kept | apply State.qPassHead_kept) | split | with_reducible apply State.lit_kept | dsimp only

theorem State.resetOpens_kept (q : Nat) (l : List (Nat × OpenSamples)) :
    ∀ (s : State) (p : PendGap), K.P s → K.P (s.resetOpens q l p).1 := by
  induction l with
  | nil => intro s p hw; exact hw
  | cons e t ih => intro s p hw; exact ih _ _ (State.takeSeq_kept _ _ hw)

theorem State.resetGap_kept (s : State) (q : Nat) (hw : K.P s) : K.P (s.resetGap q).1 := State.resetOpens_kept _ _ _ _ hw

theorem State.resetPorts_kept (s : State) (q : Nat) (hw : K.P s) : K.P (State.resetPorts s q) := by
  unfold State.resetPorts
  try dsimp only
  repeat' with_reducible first | assumption | apply ite_kept | apply State.put_kept

theorem State.qReset_kept (s : State) (q cause : Nat) (hw : K.P s) : K.P (State.qReset s q cause) := by
  unfold State.qReset
  try dsimp only
  repeat' first | (with_reducible first | assumption | apply ite_kept | apply State.setQueue_kept | apply State.qRoom_kept | apply State.resetGap_kept | apply State.resetPorts_kept) | (apply fst_kept (by assumption)) | split | with_reducible apply State.lit_kept | dsimp only

theorem State.qCompare_kept (s : State) (q : Nat) (hw : K.P s) : K.P (State.qCompare s q) := by
  unfold State.qCompare
  try dsimp only
  repeat' with_reducible first | assumption | apply ite_kept | apply State.qReset_kept

theorem State.qFlushFree_kept (s : State) (q : Nat) (hw : K.P s) : K.P (State.qFlushFree s q) := by
  unfold State.qFlushFree
  try dsimp only
  repeat' first | (with_reducible first | assumption | apply ite_kept | apply State.qWritePend_kept | apply State.qMakeRoom_kept | apply State.qCompare_kept) | split | with_reducible apply State.lit_kept | dsimp only

theorem State.qOffer_kept (s : State) (q : Nat) (r : Rec) (hw : K.P s) : K.P (State.qOffer s q r) := by
  unfold State.qOffer
  try dsimp only
  repeat' with_reducible first | assumption | apply State.qAdmit_kept | apply State.qCompare_kept

theorem State.qResetWrite_kept (s : State) (q : Nat) (z : QReset) (hw : K.P s) : K.P (State.qResetWrite s q z) := by
  unfold State.qResetWrite
  try dsimp only
  repeat' first | (with_reducible first | assumption | apply State.put_kept | apply State.incSat_kept | apply State.setQueue_kept | apply State.raiseQueue_kept | apply State.qWriteGaps_kept | apply State.qWriteMarks_kept) | with_reducible apply State.lit_kept

theorem State.offerNew_kept (s : State) (q : Nat) (r : Rec) (hw : K.P s) : K.P (State.offerNew s q r) := by
  unfold State.offerNew
  try dsimp only
  repeat' first | (with_reducible first | assumption | apply State.takeSeq_kept | apply State.qOffer_kept) | with_reducible apply State.lit_kept

theorem State.offerAll_kept (s : State) (qs : List Nat) (r : Rec) (hw : K.P s) : K.P (State.offerAll s qs r) := by
  unfold State.offerAll
  try dsimp only
  repeat' first | (with_reducible first | assumption | apply State.takeSeq_kept | apply State.qOffer_kept | (apply foldl_kept; intro _ _ _)) | with_reducible apply State.lit_kept | dsimp only

theorem State.logRecord_kept (s : State) (e : LogEntry) (hw : K.P s) : K.P (State.logRecord s e) := by
  unfold State.logRecord
  try dsimp only
  repeat' with_reducible first | assumption | apply State.offerNew_kept

theorem State.logGone_kept (s : State) (e : LogEntry) (hw : K.P s) : K.P (State.logGone s e) := by
  unfold State.logGone
  try dsimp only
  repeat' first | (with_reducible first | assumption | apply State.takeSeq_kept | apply State.qDrop_kept) | with_reducible apply State.lit_kept

theorem State.logOut_kept (s : State) (e : LogEntry) (hw : K.P s) : K.P (State.logOut s e) := by
  unfold State.logOut
  try dsimp only
  repeat' first | (with_reducible first | assumption | apply ite_kept | apply State.logRecord_kept) | with_reducible apply State.lit_kept

theorem State.logLeave_kept (s : State) (hw : K.P s) : K.P (State.logLeave s) := by
  unfold State.logLeave
  try dsimp only
  repeat' first | (with_reducible first | assumption | apply State.logRecord_kept | apply State.logGone_kept | (apply foldl_kept; intro _ _ _)) | split | with_reducible apply State.lit_kept | dsimp only

theorem State.logWrite_kept (s : State) (kind event : Nat) (d0 d1 d2 : Word) (hw : K.P s) : K.P (State.logWrite s kind event d0 d1 d2) := by
  unfold State.logWrite
  try dsimp only
  repeat' first | (with_reducible first | assumption | apply ite_kept | apply State.put_kept | apply State.incSat_kept | apply State.incWrap_kept | apply State.logOut_kept) | with_reducible apply State.lit_kept | dsimp only

theorem State.qResetEnd_kept (s : State) (q : Nat) (hw : K.P s) : K.P (State.qResetEnd s q) := by
  unfold State.qResetEnd
  try dsimp only
  repeat' first | (with_reducible first | assumption | apply State.qResetWrite_kept | apply State.logWrite_kept) | split | with_reducible apply State.lit_kept | dsimp only

theorem State.ladleEvent_kept (s : State) (l d : Nat) (hw : K.P s) : K.P (State.ladleEvent s l d) := by
  unfold State.ladleEvent
  try dsimp only
  repeat' with_reducible first | assumption | apply ite_kept | apply State.raiseTile_kept | apply State.raiseQueue_kept

theorem State.setRunLeft_kept (s : State) (l d n : Nat) (hw : K.P s) : K.P (State.setRunLeft s l d n) := by
  unfold State.setRunLeft
  try dsimp only
  repeat' first | (with_reducible first | assumption | apply State.setLadle_kept) | with_reducible apply State.lit_kept

theorem State.ladleRequest_kept (s : State) (l d : Nat) (hw : K.P s) : K.P (State.ladleRequest s l d) := by
  unfold State.ladleRequest
  try dsimp only
  repeat' first | (with_reducible first | assumption | apply ite_kept | apply State.setBit_kept | apply State.setLadle_kept | apply State.setRunLeft_kept) | split | with_reducible apply State.lit_kept | dsimp only

theorem State.runAgain_kept (s : State) (l d : Nat) (hw : K.P s) : K.P (State.runAgain s l d) := by
  unfold State.runAgain
  try dsimp only
  repeat' first | (with_reducible first | assumption | apply ite_kept | apply State.clearBit_kept | apply State.setLadle_kept | apply State.setRunLeft_kept) | split | with_reducible apply State.lit_kept | dsimp only

theorem State.resetRuns_kept (s : State) (q : Nat) (hw : K.P s) : K.P (State.resetRuns s q) := by
  unfold State.resetRuns
  try dsimp only
  repeat' first | (with_reducible first | assumption | apply ite_kept | apply State.setLadle_kept | apply State.setRunLeft_kept | (apply foldl_kept; intro _ _ _)) | with_reducible apply State.lit_kept | dsimp only

theorem State.qResetDone_kept (s : State) (q : Nat) (hw : K.P s) : K.P (State.qResetDone s q) := by
  unfold State.qResetDone
  try dsimp only
  repeat' with_reducible first | assumption | apply ite_kept | apply State.qResetEnd_kept | apply State.resetRuns_kept

theorem State.setSrc_kept (s : State) (n : Nat) (x : Source) (hw : K.P s) : K.P (State.setSrc s n x) := by
  unfold State.setSrc
  try dsimp only
  repeat' first | (with_reducible first | assumption) | with_reducible apply State.lit_kept | dsimp only

theorem State.setAct_kept (s : State) (a : Nat) (e : ActEntry) (hw : K.P s) : K.P (State.setAct s a e) := by
  unfold State.setAct
  try dsimp only
  repeat' first | (with_reducible first | assumption) | with_reducible apply State.lit_kept | dsimp only

theorem State.setOut_kept (s : State) (n : Nat) (o : OutSt) (hw : K.P s) : K.P (State.setOut s n o) := by
  unfold State.setOut
  try dsimp only
  repeat' first | (with_reducible first | assumption) | with_reducible apply State.lit_kept | dsimp only

theorem State.pins_kept (s : State) (n : Nat) (hw : K.P s) : K.P (s.pins n) := by
  induction n with
  | zero => exact hw
  | succ n ih =>
    unfold State.pins
    dsimp only
    repeat' first | (with_reducible first | assumption | apply ite_kept | apply ih | apply State.setBit_kept | apply State.clearBit_kept) | split | dsimp only

theorem State.drive_kept (s : State) (hw : K.P s) : K.P (State.drive s) := by
  unfold State.drive
  try dsimp only
  repeat' with_reducible first | assumption | apply State.pins_kept

theorem State.landEdges_kept (s : State) (hw : K.P s) : K.P (State.landEdges s) := by
  unfold State.landEdges
  try dsimp only
  repeat' first | (with_reducible first | assumption | apply ite_kept | apply State.setOut_kept | apply State.drive_kept | (apply foldl_kept; intro _ _ _) | (apply foldl_fst_kept; intro _ _ _)) | split | with_reducible apply State.lit_kept | dsimp only

theorem State.command_kept (s : State) (n : Nat) (level : Bool) (hw : K.P s) : K.P (State.command s n level) := by
  unfold State.command
  try dsimp only
  repeat' with_reducible first | assumption | apply ite_kept | apply State.setBit_kept | apply State.clearBit_kept | apply State.drive_kept

theorem State.eventRecord_kept (s : State) (e : EvtRec) (hw : K.P s) : K.P (State.eventRecord s e) := by
  unfold State.eventRecord
  try dsimp only
  repeat' with_reducible first | assumption | apply ite_kept | apply State.offerNew_kept

theorem State.evtFlush_kept (l : List EvtRec) : ∀ (s : State), K.P s → K.P (s.evtFlush l) := by
  induction l with
  | nil => intro s hw; exact K.lit s _ _ _ _ _ _ _ _ _ _ _ _ _ _ _ _ _ _ _ _ _ _ _ _ _ _ _ _ _ _ _ _ _ _ _ _ _ _ _ _ _ _ _ _ _ _ _ _ _ _ _ hw
  | cons e t ih =>
    intro s hw
    unfold State.evtFlush
    split
    · exact ih _ (State.eventRecord_kept _ _ hw)
    · exact K.lit s _ _ _ _ _ _ _ _ _ _ _ _ _ _ _ _ _ _ _ _ _ _ _ _ _ _ _ _ _ _ _ _ _ _ _ _ _ _ _ _ _ _ _ _ _ _ _ _ _ _ _ hw

theorem State.evtPut_kept (s : State) (e : ActEntry) (outcome lt : Nat) (ready : Bool) (hw : K.P s) : K.P (State.evtPut s e outcome lt ready) := by
  unfold State.evtPut
  try dsimp only
  repeat' with_reducible first | assumption | apply ite_kept | apply State.evtFlush_kept

theorem State.settleCount_kept (s : State) (outcome : Nat) (hw : K.P s) : K.P (State.settleCount s outcome) := by
  unfold State.settleCount
  try dsimp only
  repeat' with_reducible first | assumption | apply ite_kept | apply State.put_kept | apply State.incSat_kept | apply State.raise_kept

theorem State.freeAct_kept (s : State) (a : Nat) (hw : K.P s) : K.P (State.freeAct s a) := by
  unfold State.freeAct
  try dsimp only
  repeat' first | (with_reducible first | assumption | apply ite_kept | apply State.setAct_kept) | with_reducible apply State.lit_kept

theorem State.settle_kept (s : State) (a outcome lt : Nat) (hw : K.P s) : K.P (State.settle s a outcome lt) := by
  unfold State.settle
  try dsimp only
  repeat' with_reducible first | assumption | apply State.evtPut_kept | apply State.settleCount_kept | apply State.freeAct_kept

theorem State.edge_kept (s : State) (n : Nat) (level : Bool) (target : Nat) (hw : K.P s) : K.P (State.edge s n level target) := by
  unfold State.edge
  try dsimp only
  repeat' first | (with_reducible first | assumption | apply ite_kept | apply State.clearBit_kept | apply State.incSat_kept | apply State.emit_kept | apply State.setOut_kept | apply State.command_kept) | split | with_reducible apply State.lit_kept | dsimp only

theorem State.execute_kept (s : State) (a : Nat) (late : Bool) (hw : K.P s) : K.P (State.execute s a late) := by
  unfold State.execute
  try dsimp only
  repeat' first | (with_reducible first | assumption | apply ite_kept | apply State.incSat_kept | apply State.setOut_kept | apply State.evtPut_kept | apply State.freeAct_kept | apply State.settle_kept | apply State.edge_kept | (apply foldl_kept; intro _ _ _) | (apply foldl_fst_kept; intro _ _ _)) | split | with_reducible apply State.lit_kept | dsimp only

theorem State.executeLate_kept (s : State) (l : List Nat) (hw : K.P s) : K.P (State.executeLate s l) := by
  unfold State.executeLate
  try dsimp only
  repeat' first | (with_reducible first | assumption | apply ite_kept | apply State.execute_kept | (apply foldl_kept; intro _ _ _)) | dsimp only

theorem State.estimateAct_kept (s : State) (a : Nat) (hw : K.P s) : K.P (State.estimateAct s a) := by
  unfold State.estimateAct
  try dsimp only
  repeat' first | (with_reducible first | assumption | apply State.setAct_kept) | split | with_reducible apply State.lit_kept | dsimp only

theorem State.estimate_kept (s : State) (a : Nat) (hw : K.P s) : K.P (State.estimate s a) := by
  unfold State.estimate
  try dsimp only
  repeat' with_reducible first | assumption | apply ite_kept | apply State.execute_kept | apply State.estimateAct_kept

theorem State.reestimate_kept (s : State) (n : Nat) (hw : K.P s) : K.P (State.reestimate s n) := by
  unfold State.reestimate
  try dsimp only
  repeat' first | (with_reducible first | assumption | apply State.executeLate_kept | apply State.estimateAct_kept | (apply foldl_kept; intro _ _ _)) | dsimp only

theorem State.srcLost_kept (s : State) (n : Nat) (hw : K.P s) : K.P (State.srcLost s n) := by
  unfold State.srcLost
  try dsimp only
  repeat' first | (with_reducible first | assumption | apply State.settle_kept | (apply foldl_kept; intro _ _ _)) | dsimp only

theorem State.placeAct_kept (s : State) (a : Nat) (r : ActAsk) (lane : Bool) (laneNo : Nat) (hw : K.P s) : K.P (State.placeAct s a r lane laneNo) := by
  unfold State.placeAct
  try dsimp only
  repeat' first | (with_reducible first | assumption | apply ite_kept | apply State.put_kept | apply State.setAct_kept | apply State.execute_kept | apply State.estimate_kept) | with_reducible apply State.lit_kept

theorem State.askOwn_kept (s : State) (r : ActAsk) (hw : K.P s) : K.P (State.askOwn s r) := by
  unfold State.askOwn
  try dsimp only
  repeat' first | (with_reducible first | assumption | apply ite_kept | apply State.put_kept | apply State.incSat_kept | apply State.raise_kept | apply State.placeAct_kept) | split | with_reducible apply State.lit_kept | dsimp only

theorem State.flushAs_kept (s : State) (m : Nat) (hw : K.P s) : K.P (State.flushAs s m) := by
  unfold State.flushAs
  try dsimp only
  repeat' first | (with_reducible first | assumption | apply ite_kept | apply State.logWrite_kept | apply State.settle_kept | (apply foldl_kept; intro _ _ _) | (apply foldl_fst_kept; intro _ _ _)) | split | dsimp only

theorem State.flushActs_kept (s : State) (hw : K.P s) : K.P (State.flushActs s) := by
  unfold State.flushActs
  try dsimp only
  repeat' with_reducible first | assumption | apply State.flushAs_kept

theorem State.commandAll_kept (s : State) (levels : Nat) (hw : K.P s) : K.P (State.commandAll s levels) := by
  unfold State.commandAll
  try dsimp only
  repeat' first | (with_reducible first | assumption | apply State.put_kept | apply State.setOut_kept | apply State.drive_kept | (apply foldl_kept; intro _ _ _)) | with_reducible apply State.lit_kept | dsimp only

theorem State.setLane_kept (s : State) (n : Nat) (l : Lane) (hw : K.P s) : K.P (State.setLane s n l) := by
  unfold State.setLane
  try dsimp only
  repeat' first | (with_reducible first | assumption) | with_reducible apply State.lit_kept | dsimp only

theorem State.clearAct_kept (s : State) (output src clearer : Nat) (c : Word) (hw : K.P s) : K.P (State.clearAct s output src clearer c) := by
  unfold State.clearAct
  try dsimp only
  repeat' first | (with_reducible first | assumption | apply ite_kept | apply State.incSat_kept | apply State.setLane_kept) | split | with_reducible apply State.lit_kept | dsimp only

theorem State.laneArm_kept (s : State) (n : Nat) (level : Bool) (c angle : Word) (hw : K.P s) : K.P (State.laneArm s n level c angle) := by
  unfold State.laneArm
  try dsimp only
  repeat' first | (with_reducible first | assumption | apply State.placeAct_kept) | split | with_reducible apply State.lit_kept | dsimp only

theorem State.laneWait_kept (s : State) (n : Nat) (hw : K.P s) : K.P (State.laneWait s n) := by
  unfold State.laneWait
  try dsimp only
  repeat' first | (with_reducible first | assumption | apply State.setLane_kept) | with_reducible apply State.lit_kept

theorem State.laneHold_kept (s : State) (n : Nat) (hw : K.P s) : K.P (State.laneHold s n) := by
  unfold State.laneHold
  try dsimp only
  repeat' first | (with_reducible first | assumption | apply ite_kept | apply State.edge_kept | apply State.setLane_kept) | with_reducible apply State.lit_kept

theorem State.laneReserve_kept (s : State) (n : Nat) (hw : K.P s) : K.P (State.laneReserve s n) := by
  unfold State.laneReserve
  try dsimp only
  repeat' first | (with_reducible first | assumption | apply State.setAct_kept) | split | with_reducible apply State.lit_kept | dsimp only

theorem State.laneStart_kept (s : State) (n : Nat) (hw : K.P s) : K.P (State.laneStart s n) := by
  unfold State.laneStart
  try dsimp only
  repeat' with_reducible first | assumption | apply ite_kept | apply State.put_kept | apply State.setLane_kept | apply State.laneHold_kept | apply State.laneReserve_kept

theorem State.modeOutputs_kept (s : State) (m : Nat) (hw : K.P s) : K.P (State.modeOutputs s m) := by
  unfold State.modeOutputs
  try dsimp only
  repeat' with_reducible first | assumption | apply ite_kept | apply State.flushActs_kept | apply State.commandAll_kept

theorem State.modeSettle_kept (s : State) (hw : K.P s) : K.P (State.modeSettle s) := by
  unfold State.modeSettle
  try dsimp only
  repeat' with_reducible first | assumption | apply ite_kept | apply State.put_kept | apply State.putPair_kept | apply State.logWrite_kept | apply State.modeOutputs_kept

theorem State.healthySettle_kept (s : State) (hw : K.P s) : K.P (State.healthySettle s) := by
  unfold State.healthySettle
  try dsimp only
  repeat' first | (with_reducible first | assumption | apply ite_kept | apply State.put_kept | apply State.incSat_kept) | split | with_reducible apply State.lit_kept | dsimp only

theorem State.setCond_kept (s : State) (c : Nat) (b : Bool) (hw : K.P s) : K.P (State.setCond s c b) := by
  unfold State.setCond
  try dsimp only
  repeat' with_reducible first | assumption | apply ite_kept | apply State.setBit_kept | apply State.clearBit_kept | apply State.modeSettle_kept | apply State.healthySettle_kept

theorem State.setRun_kept (s : State) (b : Bool) (hw : K.P s) : K.P (State.setRun s b) := by
  unfold State.setRun
  try dsimp only
  repeat' with_reducible first | assumption | apply State.putB_kept | apply State.setCond_kept

theorem State.setTile_kept (s : State) (t st : Nat) (hw : K.P s) : K.P (State.setTile s t st) := by
  unfold State.setTile
  try dsimp only
  repeat' first | (with_reducible first | assumption | apply State.put_kept | apply State.setCond_kept) | dsimp only

theorem State.setHoldover_kept (s : State) (b : Bool) (hw : K.P s) : K.P (State.setHoldover s b) := by
  unfold State.setHoldover
  try dsimp only
  repeat' with_reducible first | assumption | apply ite_kept | apply State.put_kept | apply State.putB_kept | apply State.incSat_kept | apply State.raise_kept | apply State.setCond_kept

theorem State.raiseHerd_kept (s : State) (seen : Fld) (n : Nat) (hw : K.P s) : K.P (State.raiseHerd s seen n) := by
  unfold State.raiseHerd
  try dsimp only
  repeat' with_reducible first | assumption | apply State.put_kept | apply State.raise_kept

theorem State.frameErr_kept (s : State) (hw : K.P s) : K.P (State.frameErr s) := by
  unfold State.frameErr
  try dsimp only
  repeat' with_reducible first | assumption | apply State.raiseHerd_kept

theorem State.setPort_kept (s : State) (portB : Bool) (p : PortSt) (hw : K.P s) : K.P (State.setPort s portB p) := by
  unfold State.setPort
  try dsimp only
  repeat' first | (with_reducible first | assumption | apply ite_kept) | with_reducible apply State.lit_kept

theorem State.txStep_kept (s : State) (portB : Bool) (hw : K.P s) : K.P (State.txStep s portB) := by
  unfold State.txStep
  try dsimp only
  repeat' first | (with_reducible first | assumption | apply ite_kept | apply State.emit_kept | apply State.setPort_kept) | split | with_reducible apply State.lit_kept | dsimp only

theorem State.txTick_kept (s : State) (hw : K.P s) : K.P (State.txTick s) := by
  unfold State.txTick
  try dsimp only
  repeat' with_reducible first | assumption | apply ite_kept | apply State.txStep_kept

theorem State.txPut_kept (s : State) (portB : Bool) (f : TxFrame) (hw : K.P s) : K.P (State.txPut s portB f) := by
  unfold State.txPut
  try dsimp only
  repeat' first | (with_reducible first | assumption | apply ite_kept | apply State.incSat_kept | apply State.frameErr_kept | apply State.setPort_kept | apply State.txStep_kept) | with_reducible apply State.lit_kept | dsimp only

theorem State.sendOn_kept (s : State) (portB : Bool) (f : Frame) (how : CopyEnd) (from_ : Nat) (hw : K.P s) : K.P (State.sendOn s portB f how from_) := by
  unfold State.sendOn
  try dsimp only
  repeat' first | (with_reducible first | assumption | apply ite_kept | apply State.txPut_kept) | with_reducible apply State.lit_kept

theorem State.herdSend_kept (s : State) (dest : Nat) (bcast : Bool) (body : Body) (hw : K.P s) : K.P (State.herdSend s dest bcast body) := by
  unfold State.herdSend
  try dsimp only
  repeat' first | (with_reducible first | assumption | apply ite_kept | apply State.sendOn_kept) | with_reducible apply State.lit_kept | dsimp only

theorem State.sendOne_kept (s : State) (hw : K.P s) : K.P (State.sendOne s) := by
  unfold State.sendOne
  try dsimp only
  repeat' first | (with_reducible first | assumption | apply ite_kept | apply State.herdSend_kept) | split | with_reducible apply State.lit_kept | dsimp only

theorem State.sendReqs_kept (n : Nat) : ∀ (s : State), K.P s → K.P (s.sendReqs n) := by
  induction n with
  | zero => intro s hw; exact hw
  | succ n ih => intro s hw; exact ih _ (State.sendOne_kept _ hw)

theorem State.askOne_kept (s : State) (dest slot batch : Nat) (r : ActReq) (hw : K.P s) : K.P (State.askOne s dest slot batch r) := by
  unfold State.askOne
  try dsimp only
  repeat' first | (with_reducible first | assumption) | with_reducible apply State.lit_kept

theorem State.askHerd_kept (s : State) (dest slot : Nat) (l : List ActReq) (hw : K.P s) : K.P (State.askHerd s dest slot l) := by
  unfold State.askHerd
  try dsimp only
  repeat' first | (with_reducible first | assumption | apply State.sendReqs_kept | apply State.askOne_kept | (apply foldl_kept; intro _ _ _)) | with_reducible apply State.lit_kept | dsimp only

theorem State.writeCycle_kept (s : State) (t g : Nat) (incomplete : Bool) (r : CycRec) (hw : K.P s) : K.P (State.writeCycle s t g incomplete r) := by
  unfold State.writeCycle
  try dsimp only
  repeat' first | (with_reducible first | assumption | apply State.offerNew_kept | (apply foldl_kept; intro _ _ _)) | dsimp only

theorem State.envSet_kept (s : State) (t e : Nat) (w : BitVec 64) (hw : K.P s) : K.P (State.envSet s t e w) := by
  unfold State.envSet
  try dsimp only
  repeat' first | (with_reducible first | assumption) | with_reducible apply State.lit_kept | dsimp only

theorem State.diffKeep_kept [K.Mem] (s : State) (t g : Nat) (c : Closed) (hw : K.P s) : K.P (State.diffKeep s t g c) := by
  unfold State.diffKeep
  try dsimp only
  repeat' first | (with_reducible first | assumption | apply ite_kept | apply State.storeLe_kept | (apply foldl_kept; intro _ _ _)) | split | with_reducible apply State.lit_kept | dsimp only

theorem State.accClear_kept [K.Mem] (s : State) (t g : Nat) (hw : K.P s) : K.P (State.accClear s t g) := by
  unfold State.accClear
  try dsimp only
  repeat' first | (with_reducible first | assumption | apply State.storeLe_kept | (apply foldl_kept; intro _ _ _) | (apply foldl_fst_kept; intro _ _ _)) | dsimp only

theorem State.accTake_kept [K.Mem] (s : State) (t g : Nat) (c : Closed) (feats : List (Nat × Int)) (hw : K.P s) :
    K.P (State.accTake s t g c feats) := by
  unfold State.accTake
  try dsimp only
  repeat' first | (with_reducible first | assumption | apply State.storeLe_kept | (apply foldl_kept; intro _ _ _) | (apply foldl_fst_kept; intro _ _ _)) | split | with_reducible apply State.lit_kept | dsimp only

theorem State.setAnchor_kept [K.Mem] (s : State) (t e : Nat) (lower upper : Int) (hw : K.P s) : K.P (State.setAnchor s t e lower upper) := by
  unfold State.setAnchor
  try dsimp only
  repeat' with_reducible first | assumption | apply State.storeLe_kept

theorem State.churnEvent_kept (s : State) (t : Nat) (hw : K.P s) : K.P (State.churnEvent s t) := by
  unfold State.churnEvent
  try dsimp only
  repeat' with_reducible first | assumption | apply State.raiseTile_kept

theorem State.clearHist_kept (s : State) (t g : Nat) (hw : K.P s) : K.P (State.clearHist s t g) := by
  unfold State.clearHist
  try dsimp only
  repeat' first | (with_reducible first | assumption | apply State.setEng_kept) | with_reducible apply State.lit_kept | dsimp only

theorem State.grpShow_kept (s : State) (t g : Nat) (hw : K.P s) : K.P (State.grpShow s t g) := by
  unfold State.grpShow
  try dsimp only
  repeat' with_reducible first | assumption | apply ite_kept | apply State.put_kept | apply State.putB_kept | apply State.setBit_kept | apply State.clearBit_kept

theorem State.teachStart_kept [K.Mem] (s : State) (t g : Nat) (hw : K.P s) : K.P (State.teachStart s t g) := by
  unfold State.teachStart
  try dsimp only
  repeat' first | (with_reducible first | assumption | apply State.setGrp_kept | apply State.accClear_kept | apply State.clearHist_kept | apply State.grpShow_kept) | with_reducible apply State.lit_kept | dsimp only

theorem State.teachRestart_kept [K.Mem] (s : State) (t g : Nat) (hw : K.P s) : K.P (State.teachRestart s t g) := by
  unfold State.teachRestart
  try dsimp only
  repeat' with_reducible first | assumption | apply ite_kept | apply State.setBit_kept | apply State.incSat_kept | apply State.raise_kept | apply State.logWrite_kept | apply State.churnEvent_kept | apply State.teachStart_kept

theorem State.teachComplete_kept [K.Mem] (s : State) (t g : Nat) (hw : K.P s) : K.P (State.teachComplete s t g) := by
  unfold State.teachComplete
  try dsimp only
  repeat' first | (with_reducible first | assumption | apply ite_kept | apply State.setBit_kept | apply State.setGrp_kept | apply State.envSet_kept | apply State.setAnchor_kept | apply State.churnEvent_kept | apply State.grpShow_kept | (apply foldl_kept; intro _ _ _) | (apply foldl_fst_kept; intro _ _ _)) | split | with_reducible apply State.lit_kept | dsimp only

theorem State.driftMove_kept (s : State) (t g : Nat) (hw : K.P s) : K.P (State.driftMove s t g).1 := by
  unfold State.driftMove
  try dsimp only
  repeat' first | (with_reducible first | assumption | apply ite_kept | apply State.envSet_kept | (apply foldl_kept; intro _ _ _) | (apply foldl_fst_kept; intro _ _ _)) | split | dsimp only

theorem State.drift_kept [K.Mem] (s : State) (t g : Nat) (c : Closed) (feats : List (Nat × Int)) (hw : K.P s) :
    K.P (State.drift s t g c feats).1 := by
  unfold State.drift
  try dsimp only
  repeat' first | (with_reducible first | assumption | apply ite_kept | apply State.putB_kept | apply State.setBit_kept | apply State.raise_kept | apply State.setGrp_kept | apply State.logWrite_kept | apply State.accClear_kept | apply State.accTake_kept | apply State.churnEvent_kept | apply State.driftMove_kept) | (apply fst_kept (by assumption)) | split | with_reducible apply State.lit_kept | dsimp only

theorem State.ruleAsk_kept (s : State) (t r : Nat) (kind : Nat) (level : Bool) (cycle : Int) (angle : Nat) (l : List (Nat × ActReq)) (hw : K.P s) :
    K.P (State.ruleAsk s t r kind level cycle angle l).1 := by
  unfold State.ruleAsk
  try dsimp only
  repeat' first | (with_reducible first | assumption | apply ite_kept | apply State.askOwn_kept | apply State.clearAct_kept) | split | dsimp only

theorem State.ruleDo_kept (s : State) (t r op : Nat) (k : Int) (l : List (Nat × ActReq)) (hw : K.P s) :
    K.P (s.ruleDo t r op k l).1 := by
  unfold State.ruleDo
  dsimp only
  split
  · exact State.ruleAsk_kept _ _ _ _ _ _ _ _ (State.ruleAsk_kept _ _ _ _ _ _ _ _ hw)
  · exact State.ruleAsk_kept _ _ _ _ _ _ _ _ hw
  · exact State.ruleAsk_kept _ _ _ _ _ _ _ _ hw
  · exact State.put_kept _ _ _ (State.raiseTile_kept _ _ _ hw)
  · exact hw

theorem State.ruleFire_kept (s : State) (t r : Nat) (k : Int) (l : List (Nat × ActReq)) (hw : K.P s) :
    K.P (s.ruleFire t r k l).1 := by
  rw [State.ruleFire]
  exact State.ruleDo_kept _ _ _ _ _ _ (State.incSat_kept _ _ _ hw)

theorem State.ruleStep_kept (s : State) (t r : Nat) (k : Int) (skip status codes : Nat) (stop : Bool) (l : List (Nat × ActReq))
    (hw : K.P s) : K.P (s.ruleStep t r k skip status codes stop l).1 := by
  rw [State.ruleStep]
  exact ite_fst_kept (State.ruleFire_kept _ _ _ _ _ (State.setEng_kept _ _ _ hw)) (State.setEng_kept _ _ _ hw)

theorem State.rules_kept (s : State) (t g : Nat) (k : Int) (skip status codes : Nat) (hw : K.P s) :
    K.P (s.rules t g k skip status codes) := by
  rw [State.rules]
  exact foldl_kept _ (fun u x h => State.askHerd_kept _ _ _ _ h) _ _
    (foldl_fst_kept _ (fun _ _ h => State.ruleStep_kept _ _ _ _ _ _ _ _ _ h) _ _ hw)

theorem State.verdictCount_kept (s : State) (t g status code : Nat) (hw : K.P s) : K.P (State.verdictCount s t g status code) := by
  unfold State.verdictCount
  try dsimp only
  repeat' with_reducible first | assumption | apply ite_kept | apply State.setBit_kept | apply State.incSat_kept

theorem State.teachTake_kept [K.Mem] (s : State) (t g : Nat) (c : Closed) (feats : List (Nat × Int)) (hw : K.P s) :
    K.P (State.teachTake s t g c feats) := by
  unfold State.teachTake
  try dsimp only
  repeat' first | (with_reducible first | assumption | apply ite_kept | apply State.setGrp_kept | apply State.accTake_kept | apply State.teachComplete_kept) | split | with_reducible apply State.lit_kept | dsimp only

theorem State.verdict_kept [K.Mem] (s : State) (t g : Nat) (c : Closed) (status : Nat) (hw : K.P s) : K.P (State.verdict s t g c status) := by
  unfold State.verdict
  try dsimp only
  repeat' first | (with_reducible first | assumption | apply ite_kept | apply State.setGrp_kept | apply State.offerNew_kept | apply State.diffKeep_kept | apply State.grpShow_kept | apply State.drift_kept | apply State.rules_kept | apply State.verdictCount_kept | apply State.teachTake_kept) | (apply fst_kept (by assumption)) | split | with_reducible apply State.lit_kept | dsimp only

theorem State.judgeNext_kept (s : State) (t : Nat) (hw : K.P s) : K.P (State.judgeNext s t) := by
  unfold State.judgeNext
  try dsimp only
  repeat' first | (with_reducible first | assumption | apply State.put_kept | apply State.setEng_kept) | split | with_reducible apply State.lit_kept | dsimp only

theorem State.skipOldest_kept [K.Mem] (s : State) (t g : Nat) (hw : K.P s) : K.P (State.skipOldest s t g) := by
  unfold State.skipOldest
  try dsimp only
  repeat' first | (with_reducible first | assumption | apply ite_kept | apply State.setEng_kept | apply State.setGrp_kept | apply State.verdict_kept) | split | with_reducible apply State.lit_kept | dsimp only

theorem State.groupClose_kept [K.Mem] (s : State) (t g : Nat) (hw : K.P s) : K.P (State.groupClose s t g) := by
  unfold State.groupClose
  try dsimp only
  repeat' first | (with_reducible first | assumption | apply State.setEng_kept | apply State.setGrp_kept | apply State.srcLost_kept | apply State.writeCycle_kept | apply State.judgeNext_kept | apply State.skipOldest_kept | (apply foldl_kept; intro _ _ _)) | split | with_reducible apply State.lit_kept | dsimp only

theorem State.closeReady_kept [K.Mem] (t g n : Nat) : ∀ (s : State), K.P s → K.P (s.closeReady t g n) := by
  induction n with
  | zero => intro s hw; exact hw
  | succ n ih =>
    intro s hw
    unfold State.closeReady
    split
    · split
      · exact ih _ (State.groupClose_kept _ _ _ hw)
      · exact hw
    · exact hw

theorem State.closeUpTo_kept [K.Mem] (s : State) (t g : Nat) (k : Int) (lost : Bool) (hw : K.P s) : K.P (State.closeUpTo s t g k lost) := by
  unfold State.closeUpTo
  try dsimp only
  repeat' first | (with_reducible first | assumption | apply ite_kept | apply State.setGrp_kept | apply State.closeReady_kept | (apply foldl_kept; intro _ _ _)) | split | with_reducible apply State.lit_kept | dsimp only

theorem State.groupStart_kept [K.Mem] (s : State) (t g : Nat) (k : Int) (hw : K.P s) : K.P (State.groupStart s t g k) := by
  unfold State.groupStart
  try dsimp only
  repeat' first | (with_reducible first | assumption | apply ite_kept | apply State.setGrp_kept | apply State.clearHist_kept | apply State.grpShow_kept | apply State.teachStart_kept | (apply foldl_kept; intro _ _ _)) | with_reducible apply State.lit_kept | dsimp only

theorem State.tryStart_kept [K.Mem] (s : State) (t g : Nat) (hw : K.P s) : K.P (State.tryStart s t g) := by
  unfold State.tryStart
  try dsimp only
  repeat' first | (with_reducible first | assumption | apply ite_kept | apply State.setGrp_kept | apply State.groupStart_kept) | split | with_reducible apply State.lit_kept | dsimp only

theorem State.placeSample_kept [K.Mem] (s : State) (t g i : Nat) (v : Source) (w : WaitSample) (p : Pos) (hold : Bool) (hw : K.P s) :
    K.P (State.placeSample s t g i v w p hold) := by
  unfold State.placeSample
  try dsimp only
  repeat' first | (with_reducible first | assumption | apply ite_kept | apply State.setGrp_kept | apply State.closeReady_kept) | split | with_reducible apply State.lit_kept | dsimp only

theorem State.foldSample_kept [K.Mem] (s : State) (t g i : Nat) (v : Source) (w : WaitSample) (p : Pos) (hold : Bool) (hw : K.P s) :
    K.P (State.foldSample s t g i v w p hold) := by
  unfold State.foldSample
  try dsimp only
  repeat' first | (with_reducible first | assumption | apply ite_kept | apply State.incSat_kept | apply State.setGrp_kept | apply State.placeSample_kept) | split | with_reducible apply State.lit_kept | dsimp only

theorem State.stillSample_kept (s : State) (t g i : Nat) (w : WaitSample) (hw : K.P s) : K.P (State.stillSample s t g i w) := by
  unfold State.stillSample
  try dsimp only
  repeat' first | (with_reducible first | assumption | apply ite_kept | apply State.incSat_kept | apply State.setGrp_kept) | split | with_reducible apply State.lit_kept | dsimp only

theorem State.setWaiting_kept (s : State) (t i : Nat) (l : List WaitSample) (hw : K.P s) : K.P (State.setWaiting s t i l) := by
  unfold State.setWaiting
  try dsimp only
  repeat' first | (with_reducible first | assumption | apply State.setEng_kept) | with_reducible apply State.lit_kept | dsimp only

theorem State.drainStream_kept [K.Mem] (t g i n : Nat) : ∀ (s : State), K.P s → K.P (s.drainStream t g i n) := by
  induction n with
  | zero => intro s hw; exact hw
  | succ n ih =>
    intro s hw
    unfold State.drainStream
    dsimp only
    repeat' first | (with_reducible first | assumption | apply ite_kept | apply ih | apply State.foldSample_kept | apply State.stillSample_kept | apply State.setWaiting_kept) | split | with_reducible apply State.lit_kept | dsimp only

theorem State.drainGroup_kept [K.Mem] (s : State) (t g : Nat) (hw : K.P s) : K.P (State.drainGroup s t g) := by
  unfold State.drainGroup
  try dsimp only
  repeat' first | (with_reducible first | assumption | apply State.drainStream_kept | (apply foldl_kept; intro _ _ _)) | dsimp only

theorem State.sampleArrive_kept [K.Mem] (s : State) (t i step lt : Nat) (word : Word) (lost : Bool) (hw : K.P s) :
    K.P (State.sampleArrive s t i step lt word lost) := by
  unfold State.sampleArrive
  try dsimp only
  repeat' with_reducible first | assumption | apply ite_kept | apply State.grpShow_kept | apply State.tryStart_kept | apply State.setWaiting_kept | apply State.drainStream_kept

theorem State.maxCycle_kept [K.Mem] (s : State) (t g : Nat) (hw : K.P s) : K.P (State.maxCycle s t g) := by
  unfold State.maxCycle
  try dsimp only
  repeat' first | (with_reducible first | assumption | apply ite_kept | apply State.closeUpTo_kept | (apply foldl_kept; intro _ _ _)) | split | with_reducible apply State.lit_kept | dsimp only

theorem State.pointsReach_kept [K.Mem] (s : State) (t n : Nat) (hw : K.P s) : K.P (State.pointsReach s t n) := by
  unfold State.pointsReach
  try dsimp only
  repeat' first | (with_reducible first | assumption | apply ite_kept | apply State.setEng_kept | apply State.setGrp_kept | apply State.grpShow_kept | apply State.teachRestart_kept | apply State.tryStart_kept | apply State.drainGroup_kept | apply State.maxCycle_kept | (apply foldl_kept; intro _ _ _)) | split | with_reducible apply State.lit_kept | dsimp only

theorem State.groupLost_kept [K.Mem] (s : State) (t g : Nat) (hw : K.P s) : K.P (State.groupLost s t g) := by
  unfold State.groupLost
  try dsimp only
  repeat' first | (with_reducible first | assumption | apply State.setGrp_kept | apply State.grpShow_kept | apply State.teachRestart_kept | apply State.closeUpTo_kept | apply State.setWaiting_kept | apply State.drainGroup_kept | (apply foldl_kept; intro _ _ _)) | split | with_reducible apply State.lit_kept | dsimp only

theorem State.chanRestart_kept [K.Mem] (s : State) (t i : Nat) (hw : K.P s) : K.P (State.chanRestart s t i) := by
  unfold State.chanRestart
  try dsimp only
  repeat' first | (with_reducible first | assumption | apply ite_kept | apply State.setGrp_kept | apply State.closeReady_kept) | split | with_reducible apply State.lit_kept | dsimp only

theorem State.churnStep_kept (s : State) (t : Nat) (hw : K.P s) : K.P (State.churnStep s t) := by
  unfold State.churnStep
  try dsimp only
  repeat' first | (with_reducible first | assumption | apply ite_kept | apply State.setGrp_kept | (apply foldl_kept; intro _ _ _) | (apply foldl_fst_kept; intro _ _ _)) | split | with_reducible apply State.lit_kept | dsimp only

theorem State.churnStart_kept (s : State) (t : Nat) (teach : Bool) (hw : K.P s) : K.P (State.churnStart s t teach) := by
  unfold State.churnStart
  try dsimp only
  repeat' first | (with_reducible first | assumption | apply State.setEng_kept | apply State.setGrp_kept | apply State.grpShow_kept | (apply foldl_kept; intro _ _ _)) | with_reducible apply State.lit_kept | dsimp only

theorem State.churnStop_kept (s : State) (t : Nat) (hw : K.P s) : K.P (State.churnStop s t) := by
  unfold State.churnStop
  try dsimp only
  repeat' first | (with_reducible first | assumption | apply State.setEng_kept | apply State.grpShow_kept | (apply foldl_kept; intro _ _ _)) | dsimp only

theorem State.churnPause_kept (s : State) (t : Nat) (hw : K.P s) : K.P (State.churnPause s t) := by
  unfold State.churnPause
  try dsimp only
  repeat' first | (with_reducible first | assumption | apply State.setEng_kept | apply State.setGrp_kept | apply State.grpShow_kept | (apply foldl_kept; intro _ _ _)) | with_reducible apply State.lit_kept | dsimp only

theorem State.churnResume_kept (s : State) (t : Nat) (hw : K.P s) : K.P (State.churnResume s t) := by
  unfold State.churnResume
  try dsimp only
  repeat' first | (with_reducible first | assumption | apply State.setEng_kept) | with_reducible apply State.lit_kept

theorem State.envCommit_kept (s : State) (t e : Nat) (w : BitVec 64) (hw : K.P s) : K.P (State.envCommit s t e w) := by
  unfold State.envCommit
  try dsimp only
  repeat' first | (with_reducible first | assumption | apply ite_kept | apply State.setEng_kept | apply State.envSet_kept) | split | with_reducible apply State.lit_kept | dsimp only

theorem State.envRefuse_kept (s : State) (t : Nat) (hw : K.P s) : K.P (State.envRefuse s t) := by
  unfold State.envRefuse
  try dsimp only
  repeat' with_reducible first | assumption | apply State.put_kept | apply State.incSat_kept | apply State.churnEvent_kept

theorem State.envWrite_kept (s : State) (w t e : Nat) (high : Bool) (v : Word) (hw : K.P s) : K.P (State.envWrite s w t e high v) := by
  unfold State.envWrite
  try dsimp only
  repeat' first | (with_reducible first | assumption | apply ite_kept | apply State.setEng_kept | apply State.envCommit_kept | apply State.envRefuse_kept) | with_reducible apply State.lit_kept | dsimp only

theorem State.judgeEnd_kept [K.Mem] (s : State) (t g : Nat) (hw : K.P s) : K.P (State.judgeEnd s t g) := by
  unfold State.judgeEnd
  try dsimp only
  repeat' first | (with_reducible first | assumption | apply ite_kept | apply State.setEng_kept | apply State.setGrp_kept | apply State.envSet_kept | apply State.grpShow_kept | apply State.verdict_kept | apply State.judgeNext_kept | (apply foldl_kept; intro _ _ _) | (apply foldl_fst_kept; intro _ _ _)) | split | with_reducible apply State.lit_kept | dsimp only

theorem State.cmdTeach_kept [K.Mem] (s : State) (w t g : Nat) (hw : K.P s) : K.P (State.cmdTeach s w t g) := by
  unfold State.cmdTeach
  try dsimp only
  repeat' with_reducible first | assumption | apply ite_kept | apply State.teachStart_kept

theorem State.cmdTeachEnd_kept (s : State) (w t g : Nat) (hw : K.P s) : K.P (State.cmdTeachEnd s w t g) := by
  unfold State.cmdTeachEnd
  try dsimp only
  repeat' first | (with_reducible first | assumption | apply ite_kept | apply State.setGrp_kept | apply State.grpShow_kept) | with_reducible apply State.lit_kept

theorem State.closeSamples_kept (s : State) (t i : Nat) (hw : K.P s) : K.P (State.closeSamples s t i) := by
  unfold State.closeSamples
  try dsimp only
  repeat' first | (with_reducible first | assumption | apply ite_kept | apply State.takeSeq_kept | apply State.setQueue_kept | apply State.qCommit_kept | apply State.qCompare_kept) | split | with_reducible apply State.lit_kept | dsimp only

theorem State.endRun_kept (s : State) (t i : Nat) (hw : K.P s) : K.P (State.endRun s t i) := by
  unfold State.endRun
  try dsimp only
  repeat' first | (with_reducible first | assumption | apply ite_kept | apply State.put_kept | apply State.incSat_kept | apply State.takeSeq_kept | apply State.setQueue_kept | apply State.raiseQueue_kept) | split | with_reducible apply State.lit_kept | dsimp only

theorem State.sampleFlush_kept (s : State) (t : Nat) (hw : K.P s) : K.P (State.sampleFlush s t) := by
  unfold State.sampleFlush
  try dsimp only
  repeat' first | (with_reducible first | assumption | apply State.qWritePend_kept) | split | with_reducible apply State.lit_kept | dsimp only

theorem State.samplePut_kept [K.Mem] (s : State) (t i lt step rate mode : Nat) (burst : Bool) (word : Word) (hw : K.P s) :
    K.P (State.samplePut s t i lt step rate mode burst word) := by
  unfold State.samplePut
  try dsimp only
  repeat' first | (with_reducible first | assumption | apply ite_kept | apply State.freeNext_kept | apply State.setQueue_kept | apply State.qMakeRoom_kept | apply State.qCompare_kept | apply State.sampleArrive_kept | apply State.closeSamples_kept | apply State.endRun_kept | apply State.sampleFlush_kept) | split | with_reducible apply State.lit_kept | dsimp only

theorem State.samplesStop_kept (s : State) (t i : Nat) (hw : K.P s) : K.P (State.samplesStop s t i) := by
  unfold State.samplesStop
  try dsimp only
  repeat' with_reducible first | assumption | apply State.closeSamples_kept | apply State.endRun_kept

theorem State.setCell_kept (s : State) (c : Nat) (x : CellSt) (hw : K.P s) : K.P (State.setCell s c x) := by
  unfold State.setCell
  try dsimp only
  repeat' first | (with_reducible first | assumption) | with_reducible apply State.lit_kept | dsimp only

theorem State.setChan_kept (s : State) (k : Nat) (x : ChanSt) (hw : K.P s) : K.P (State.setChan s k x) := by
  unfold State.setChan
  try dsimp only
  repeat' first | (with_reducible first | assumption) | with_reducible apply State.lit_kept | dsimp only

theorem State.showFilter_kept (s : State) (k : Nat) (hw : K.P s) : K.P (State.showFilter s k) := by
  unfold State.showFilter
  try dsimp only
  repeat' with_reducible first | assumption | apply State.putPair_kept

theorem State.chainFrom_kept (s : State) (k from_ : Nat) (hw : K.P s) : K.P (State.chainFrom s k from_) := by
  unfold State.chainFrom
  try dsimp only
  repeat' first | (with_reducible first | assumption | apply State.setChan_kept) | with_reducible apply State.lit_kept

theorem State.ratioFree_kept (s : State) (q : Int × Int) (hw : K.P s) : K.P (State.ratioFree s q) := by
  unfold State.ratioFree
  try dsimp only
  repeat' first | (with_reducible first | assumption | apply ite_kept | apply State.freeNext_kept) | split | dsimp only

theorem State.beginReset_kept (s : State) (k : Nat) (code : Int) (r : ResetRead) (before dst : Nat) (quiet : Bool) (hw : K.P s) :
    K.P (State.beginReset s k code r before dst quiet) := by
  unfold State.beginReset
  try dsimp only
  repeat' first | (with_reducible first | assumption | apply ite_kept | apply State.put_kept | apply State.incSat_kept | apply State.putPair_kept | apply State.setChan_kept) | with_reducible apply State.lit_kept

theorem State.upUndo_kept (s : State) (k : Nat) (hw : K.P s) : K.P (State.upUndo s k) := by
  unfold State.upUndo
  try dsimp only
  repeat' first | (with_reducible first | assumption | apply ite_kept | apply State.put_kept | apply State.edge_kept | apply State.setChan_kept) | split | with_reducible apply State.lit_kept | dsimp only

theorem State.resetNow_kept (s : State) (k : Nat) (r : ResetRead) (dst : State → Nat) (quiet : Bool) (hw : K.P s) :
    K.P (State.resetNow s k r dst quiet) := by
  unfold State.resetNow
  try dsimp only
  repeat' with_reducible first | assumption | apply State.ratioFree_kept | apply State.beginReset_kept | apply State.upUndo_kept

theorem State.chanReset_kept (s : State) (k : Nat) (r : ResetRead) (hw : K.P s) : K.P (State.chanReset s k r) := by
  unfold State.chanReset
  try dsimp only
  repeat' first | (with_reducible first | assumption | apply ite_kept | apply State.resetNow_kept) | dsimp only

theorem State.schedReset_kept (s : State) (k : Nat) (r : ResetRead) (hw : K.P s) : K.P (State.schedReset s k r) := by
  unfold State.schedReset
  try dsimp only
  repeat' first | (with_reducible first | assumption | apply ite_kept | apply State.setChan_kept | apply State.chanReset_kept) | with_reducible apply State.lit_kept

theorem State.chanStart_kept (s : State) (k : Nat) (hw : K.P s) : K.P (State.chanStart s k) := by
  unfold State.chanStart
  try dsimp only
  repeat' first | (with_reducible first | assumption | apply ite_kept | apply State.put_kept | apply State.setChan_kept | apply State.showFilter_kept | apply State.chainFrom_kept | apply State.beginReset_kept) | with_reducible apply State.lit_kept

theorem State.chanStop_kept [K.Mem] (s : State) (k : Nat) (hw : K.P s) : K.P (State.chanStop s k) := by
  unfold State.chanStop
  try dsimp only
  repeat' with_reducible first | assumption | apply ite_kept | apply State.put_kept | apply State.chanRestart_kept | apply State.samplesStop_kept | apply State.setChan_kept

theorem State.leadAnew_kept (s : State) (n c : Nat) (hw : K.P s) : K.P (State.leadAnew s n c) := by
  unfold State.leadAnew
  try dsimp only
  repeat' first | (with_reducible first | assumption | apply ite_kept | apply State.setCell_kept | (apply foldl_kept; intro _ _ _)) | with_reducible apply State.lit_kept | dsimp only

theorem State.schedMissed_kept (s : State) (n : Nat) (hw : K.P s) : K.P (State.schedMissed s n) := by
  unfold State.schedMissed
  try dsimp only
  repeat' first | (with_reducible first | assumption | apply ite_kept | apply State.put_kept | apply State.incSat_kept | apply State.setChan_kept | apply State.leadAnew_kept | (apply foldl_kept; intro _ _ _)) | with_reducible apply State.lit_kept | dsimp only

theorem State.sampleNote_kept (s : State) (k : Nat) (w : Word) (hw : K.P s) : K.P (State.sampleNote s k w) := by
  unfold State.sampleNote
  try dsimp only
  repeat' first | (with_reducible first | assumption | apply ite_kept | apply State.wr_kept | apply State.put_kept | apply State.incSat_kept | apply State.raiseTile_kept | apply State.setChan_kept) | with_reducible apply State.lit_kept

theorem State.modeNote_kept (s : State) (c : Nat) (a : Option Nat) (hw : K.P s) : K.P (State.modeNote s c a) := by
  unfold State.modeNote
  try dsimp only
  repeat' first | (with_reducible first | assumption | apply ite_kept | apply State.setCell_kept) | split | with_reducible apply State.lit_kept | dsimp only

theorem State.modeDrop_kept (s : State) (c : Nat) (hw : K.P s) : K.P (State.modeDrop s c) := by
  unfold State.modeDrop
  try dsimp only
  repeat' first | (with_reducible first | assumption | apply State.setCell_kept) | with_reducible apply State.lit_kept | dsimp only

theorem State.emitSample_kept [K.Mem] (s : State) (k t step : Nat) (r : SampleRead) (hw : K.P s) : K.P (State.emitSample s k t step r) := by
  unfold State.emitSample
  try dsimp only
  repeat' first | (with_reducible first | assumption | apply State.samplePut_kept | apply State.setChan_kept | apply State.ratioFree_kept | apply State.sampleNote_kept | apply State.modeNote_kept | apply State.modeDrop_kept) | (apply fst_kept (by assumption)) | split | with_reducible apply State.lit_kept | dsimp only

end Sys2Proof.Machine
end

