-- ==== Sys2Proof/Laws/KeepB.lean ====
section
/-! SUPPORT. The shared operations of Captures, HostStore, Ladles, Marks, Timers, Cells, CellCmds, HostSend, Link, Domains, PowerOps: what each keeps. -/

set_option Elab.async false
set_option linter.unusedTactic false
set_option linter.unreachableTactic false
set_option linter.unusedVariables false

namespace Sys2Proof.Machine

variable {K : Keep}

theorem State.setCap_kept (s : State) (u : Nat) (x : CapUnit) (hw : K.P s) : K.P (State.setCap s u x) := by
  unfold State.setCap
  try dsimp only
  repeat' first | (with_reducible first | assumption) | with_reducible apply State.lit_kept | dsimp only

theorem State.setEnc_kept (s : State) (e : Nat) (x : EncSt) (hw : K.P s) : K.P (State.setEnc s e x) := by
  unfold State.setEnc
  try dsimp only
  repeat' first | (with_reducible first | assumption) | with_reducible apply State.lit_kept | dsimp only

theorem State.capClose_kept (s : State) (u : Nat) (hw : K.P s) : K.P (State.capClose s u) := by
  unfold State.capClose
  try dsimp only
  repeat' first | (with_reducible first | assumption | apply ite_kept | apply State.offerAll_kept | apply State.setCap_kept) | split | with_reducible apply State.lit_kept | dsimp only

theorem State.capGap_kept (s : State) (u count from_ dst : Nat) (hw : K.P s) : K.P (State.capGap s u count from_ dst) := by
  unfold State.capGap
  try dsimp only
  repeat' first | (with_reducible first | assumption | apply State.takeSeq_kept | apply State.qOffer_kept | (apply foldl_kept; intro _ _ _)) | dsimp only

theorem State.capDrain_kept (s : State) (u : Nat) (hw : K.P s) : K.P (State.capDrain s u) := by
  unfold State.capDrain
  try dsimp only
  repeat' first | (with_reducible first | assumption | apply ite_kept | apply State.setCap_kept | apply State.capClose_kept | apply State.capGap_kept) | split | with_reducible apply State.lit_kept | dsimp only

theorem State.capDrainAll_kept (u n : Nat) : ∀ (s : State), K.P s → K.P (s.capDrainAll u n) := by
  induction n with
  | zero => intro s hw; exact hw
  | succ n ih => intro s hw; exact ih _ (State.capDrain_kept _ _ hw)

theorem State.capsTick_kept (s : State) (hw : K.P s) : K.P (State.capsTick s) := by
  unfold State.capsTick
  try dsimp only
  repeat' first | (with_reducible first | assumption | apply State.capDrain_kept | (apply foldl_kept; intro _ _ _) | (apply foldl_fst_kept; intro _ _ _)) | dsimp only

theorem State.capPut_kept (s : State) (u : Nat) (e : CapEntry) (hw : K.P s) : K.P (State.capPut s u e).1 := by
  unfold State.capPut
  try dsimp only
  repeat' first | (with_reducible first | assumption | apply ite_kept | apply State.put_kept | apply State.incSat_kept | apply State.raise_kept | apply State.setCap_kept | apply State.capClose_kept) | split | with_reducible apply State.lit_kept | dsimp only

theorem State.sourceGone_kept (s : State) (n : Nat) (hw : K.P s) : K.P (State.sourceGone s n) := by
  unfold State.sourceGone
  try dsimp only
  repeat' first | (with_reducible first | assumption | apply ite_kept | apply State.srcLost_kept | apply State.laneWait_kept | apply State.schedMissed_kept | (apply foldl_kept; intro _ _ _)) | dsimp only

theorem State.watchNote_kept (s : State) (hw : K.P s) : K.P (State.watchNote s) := by
  unfold State.watchNote
  try dsimp only
  repeat' first | (with_reducible first | assumption | apply ite_kept) | with_reducible apply State.lit_kept

theorem State.putPos_kept (s : State) (e : Nat) (p : Int) (hw : K.P s) : K.P (State.putPos s e p) := by
  unfold State.putPos
  try dsimp only
  repeat' with_reducible first | assumption | apply State.putPair_kept

theorem State.indexCount_kept (s : State) (e : Nat) (up : Bool) (counted : Int) (hw : K.P s) : K.P (State.indexCount s e up counted).1 := by
  unfold State.indexCount
  try dsimp only
  repeat' first | (with_reducible first | assumption | apply ite_kept | apply State.put_kept | apply State.incSat_kept | apply State.putInt_kept | apply State.raise_kept | apply State.logWrite_kept) | split | dsimp only

theorem State.encCount_kept (s : State) (e : Nat) (up : Bool) (stamp : Nat) (level : Bool) (hw : K.P s) : K.P (State.encCount s e up stamp level) := by
  unfold State.encCount
  try dsimp only
  repeat' first | (with_reducible first | assumption | apply ite_kept | apply State.put_kept | apply State.putB_kept | apply State.putPair_kept | apply State.setSrc_kept | apply State.reestimate_kept | apply State.setEnc_kept | apply State.capPut_kept | apply State.watchNote_kept | apply State.putPos_kept | apply State.indexCount_kept) | (apply fst_kept (by assumption)) | split | with_reducible apply State.lit_kept | dsimp only

theorem State.encTick_kept (s : State) (e : Nat) (z : Bool) (hw : K.P s) : K.P (State.encTick s e z) := by
  unfold State.encTick
  try dsimp only
  repeat' first | (with_reducible first | assumption | apply ite_kept | apply State.put_kept | apply State.incSat_kept | apply State.raise_kept | apply State.setEnc_kept | apply State.encCount_kept) | split | with_reducible apply State.lit_kept | dsimp only

theorem State.capChange_kept (s : State) (c : CapChange) (hw : K.P s) : K.P (State.capChange s c) := by
  unfold State.capChange
  try dsimp only
  repeat' first | (with_reducible first | assumption | apply ite_kept | apply State.putB_kept | apply State.incSat_kept | apply State.incWrap_kept | apply State.setCap_kept | apply State.capPut_kept) | split | with_reducible apply State.lit_kept

theorem State.capChanges_kept (s : State) (cs : List CapChange) (hw : K.P s) : K.P (State.capChanges s cs) := by
  unfold State.capChanges
  try dsimp only
  repeat' first | (with_reducible first | assumption | apply State.encTick_kept | apply State.capChange_kept | (apply foldl_kept; intro _ _ _)) | dsimp only

theorem State.inputStart_kept (s : State) (i : Nat) (hw : K.P s) : K.P (State.inputStart s i) := by
  unfold State.inputStart
  try dsimp only
  repeat' first | (with_reducible first | assumption | apply State.putB_kept | apply State.setCap_kept) | with_reducible apply State.lit_kept

theorem State.lanesAnew_kept (s : State) (n : Nat) (hw : K.P s) : K.P (State.lanesAnew s n) := by
  unfold State.lanesAnew
  try dsimp only
  repeat' first | (with_reducible first | assumption | apply ite_kept | apply State.setLane_kept | (apply foldl_kept; intro _ _ _)) | with_reducible apply State.lit_kept | dsimp only

theorem State.encStart_kept (s : State) (e : Nat) (hw : K.P s) : K.P (State.encStart s e) := by
  unfold State.encStart
  try dsimp only
  repeat' first | (with_reducible first | assumption | apply ite_kept | apply State.put_kept | apply State.putB_kept | apply State.putPair_kept | apply State.setSrc_kept | apply State.setCap_kept | apply State.setEnc_kept | apply State.sourceGone_kept | apply State.watchNote_kept | apply State.putPos_kept | apply State.lanesAnew_kept) | with_reducible apply State.lit_kept

theorem State.capsStart_kept (s : State) (hw : K.P s) : K.P (State.capsStart s) := by
  unfold State.capsStart
  try dsimp only
  repeat' first | (with_reducible first | assumption | apply State.inputStart_kept | apply State.encStart_kept | (apply foldl_kept; intro _ _ _)) | dsimp only

theorem State.capsResume_kept (s : State) (hw : K.P s) : K.P (State.capsResume s) := by
  unfold State.capsResume
  try dsimp only
  repeat' first | (with_reducible first | assumption | apply State.put_kept | apply State.putB_kept | apply State.setSrc_kept | apply State.setCap_kept | apply State.setEnc_kept | apply State.inputStart_kept | apply State.lanesAnew_kept | (apply foldl_kept; intro _ _ _)) | with_reducible apply State.lit_kept | dsimp only

theorem State.capStop_kept (s : State) (u : Nat) (hw : K.P s) : K.P (State.capStop s u) := by
  unfold State.capStop
  try dsimp only
  repeat' first | (with_reducible first | assumption | apply State.setCap_kept | apply State.capClose_kept | apply State.capDrainAll_kept) | with_reducible apply State.lit_kept

theorem State.capsDeliver_kept (s : State) (hw : K.P s) : K.P (State.capsDeliver s) := by
  unfold State.capsDeliver
  try dsimp only
  repeat' first | (with_reducible first | assumption | apply State.capStop_kept | (apply foldl_kept; intro _ _ _)) | dsimp only

theorem State.capsStop_kept (s : State) (hw : K.P s) : K.P (State.capsStop s) := by
  unfold State.capsStop
  try dsimp only
  repeat' first | (with_reducible first | assumption | apply ite_kept | apply State.put_kept | apply State.sourceGone_kept | apply State.watchNote_kept | apply State.capsDeliver_kept | (apply foldl_kept; intro _ _ _)) | dsimp only

theorem State.setHost_kept (s : State) (h : HostSt) (hw : K.P s) : K.P (State.setHost s h) := by
  unfold State.setHost
  try dsimp only
  repeat' first | (with_reducible first | assumption) | with_reducible apply State.lit_kept

theorem State.setFill_kept (s : State) (raw : Bool) (n : Nat) (hw : K.P s) : K.P (State.setFill s raw n) := by
  unfold State.setFill
  try dsimp only
  repeat' with_reducible first | assumption | apply ite_kept | apply State.put_kept

theorem State.jack_kept (s : State) (hw : K.P s) : K.P (State.jack s) := by
  unfold State.jack
  try dsimp only
  repeat' first | (with_reducible first | assumption | apply State.setHost_kept) | with_reducible apply State.lit_kept

theorem State.hostEmit_kept (s : State) (e : Emission) (hw : K.P s) : K.P (State.hostEmit s e) := by
  unfold State.hostEmit
  try dsimp only
  repeat' with_reducible first | assumption | apply State.emit_kept | apply State.jack_kept

theorem State.magicSend_kept (s : State) (hw : K.P s) : K.P (State.magicSend s) := by
  unfold State.magicSend
  try dsimp only
  repeat' with_reducible first | assumption | apply ite_kept | apply State.hostEmit_kept

theorem State.wakeStart_kept (s : State) (hw : K.P s) : K.P (State.wakeStart s) := by
  unfold State.wakeStart
  try dsimp only
  repeat' first | (with_reducible first | assumption | apply ite_kept | apply State.put_kept | apply State.putB_kept | apply State.incSat_kept | apply State.raise_kept | apply State.freeNext_kept | apply State.logWrite_kept | apply State.setHost_kept | apply State.magicSend_kept) | with_reducible apply State.lit_kept

theorem State.wakeFill_kept (before : Bool) (s : State) (hw : K.P s) : K.P (State.wakeFill before s) := by
  unfold State.wakeFill
  try dsimp only
  repeat' with_reducible first | assumption | apply ite_kept | apply State.wakeStart_kept

theorem State.wakeCheck_kept (s : State) (hw : K.P s) : K.P (State.wakeCheck s) := by
  unfold State.wakeCheck
  try dsimp only
  repeat' with_reducible first | assumption | apply State.wakeFill_kept

theorem State.wakeEnd_kept (s : State) (hw : K.P s) : K.P (State.wakeEnd s) := by
  unfold State.wakeEnd
  try dsimp only
  repeat' first | (with_reducible first | assumption | apply ite_kept | apply State.put_kept | apply State.setHost_kept) | with_reducible apply State.lit_kept

theorem State.batchClose_kept (s : State) (raw : Bool) (hw : K.P s) : K.P (State.batchClose s raw) := by
  unfold State.batchClose
  try dsimp only
  repeat' first | (with_reducible first | assumption | apply ite_kept | apply State.wr_kept | apply State.setHost_kept) | with_reducible apply State.lit_kept

theorem State.areaEnter_kept (s : State) (raw : Bool) (r : Rec) (hw : K.P s) : K.P (State.areaEnter s raw r) := by
  unfold State.areaEnter
  try dsimp only
  repeat' first | (with_reducible first | assumption | apply ite_kept | apply State.setHost_kept | apply State.setFill_kept | apply State.wakeFill_kept | apply State.batchClose_kept) | with_reducible apply State.lit_kept

theorem State.showParked_kept (s : State) (hw : K.P s) : K.P (State.showParked s) := by
  unfold State.showParked
  try dsimp only
  repeat' with_reducible first | assumption | apply State.put_kept

theorem State.setLineErr_kept (s : State) (k : Nat) (e : LineErr) (hw : K.P s) : K.P (State.setLineErr s k e) := by
  unfold State.setLineErr
  try dsimp only
  repeat' first | (with_reducible first | assumption) | with_reducible apply State.lit_kept | dsimp only

theorem State.unpoison_kept (s : State) (a : Nat) (hw : K.P s) : K.P (State.unpoison s a) := by
  unfold State.unpoison
  try dsimp only
  repeat' first | (with_reducible first | assumption | apply ite_kept | apply State.putB_kept | apply State.setLineErr_kept) | with_reducible apply State.lit_kept | dsimp only

theorem State.store_kept [K.Mem] (s : State) (a : Nat) (l : List Byte) (hw : K.P s) : K.P (State.store s a l) := by
  unfold State.store
  try dsimp only
  repeat' first | (with_reducible first | assumption | apply State.setBytes_kept | apply State.unpoison_kept | (apply foldl_kept; intro _ _ _)) | dsimp only

theorem State.raiseMem_kept (s : State) (n : Nat) (hw : K.P s) : K.P (State.raiseMem s n) := by
  unfold State.raiseMem
  try dsimp only
  repeat' with_reducible first | assumption | apply State.setBit_kept | apply State.raise_kept

theorem State.ringWrite_kept [K.Mem] (s : State) (l d begin_ : Nat) (r : Rec) (hw : K.P s) : K.P (State.ringWrite s l d begin_ r) := by
  unfold State.ringWrite
  try dsimp only
  repeat' with_reducible first | assumption | apply ite_kept | apply State.put_kept | apply State.store_kept

theorem State.ringPut_kept [K.Mem] (s : State) (l d : Nat) (rs : List Rec) {u : State} (he : s.ringPut l d rs = some u) (hw : K.P s) : K.P u := by
  unfold State.ringPut at he
  dsimp only at he
  split at he
  · cases he
  · injection he with he
    subst he
    repeat' first | (with_reducible first | assumption | apply ite_kept | apply State.put_kept | apply State.ladleEvent_kept | apply State.ringWrite_kept | (apply foldl_kept; intro _ _ _) | (apply foldl_fst_kept; intro _ _ _)) | split | with_reducible apply State.lit_kept | dsimp only

theorem State.destPut_kept [K.Mem] (s : State) (l d code : Nat) (rs : List Rec) {u : State} (he : s.destPut l d code rs = some u) (hw : K.P s) : K.P u := by
  unfold State.destPut at he
  split at he
  · exact State.ringPut_kept _ _ _ _ he hw
  · split at he
    · split at he
      · injection he with he
        subst he
        repeat' first | (with_reducible first | assumption | apply ite_kept | apply State.herdSend_kept | apply State.areaEnter_kept | (apply foldl_kept; intro _ _ _)) | split | dsimp only
      · cases he
    · dsimp only at he
      split at he
      · injection he with he
        subst he
        repeat' first | (with_reducible first | assumption | apply ite_kept | apply State.herdSend_kept | apply State.areaEnter_kept | (apply foldl_kept; intro _ _ _)) | split | dsimp only
      · cases he

theorem State.setLadPend_kept (s : State) (l code : Nat) (p : Option PendGap) (hw : K.P s) : K.P (State.setLadPend s l code p) := by
  unfold State.setLadPend
  try dsimp only
  repeat' first | (with_reducible first | assumption | apply State.setLadle_kept) | split | with_reducible apply State.lit_kept | dsimp only

theorem State.ladGaps_kept (s : State) (l : Nat) (es : List GapEntry) (hw : K.P s) : K.P (s.ladGaps l es).1 := by
  unfold State.ladGaps
  refine foldl_fst_kept _ ?_ _ _ hw
  intro a x h
  exact State.takeSeq_kept _ _ h

theorem State.noteRoute_kept (s : State) (key dest : Nat) (hw : K.P s) : K.P (State.noteRoute s key dest) := by
  unfold State.noteRoute
  try dsimp only
  repeat' first | (with_reducible first | assumption | apply ite_kept) | with_reducible apply State.lit_kept | dsimp only

theorem State.ladDrop_kept (s : State) (l d code : Nat) (r : Rec) (hw : K.P s) : K.P (State.ladDrop s l d code r) := by
  unfold State.ladDrop
  try dsimp only
  repeat' first | (with_reducible first | assumption | apply ite_kept | apply State.put_kept | apply State.incSat_kept | apply State.ladleEvent_kept | apply State.setHost_kept | apply State.setLadPend_kept) | with_reducible apply State.lit_kept

theorem State.ladFlush_kept [K.Mem] (s : State) (l d code : Nat) (rs : List Rec) {u : State} (he : s.ladFlush l d code rs = some u) (hw : K.P s) : K.P u := by
  unfold State.ladFlush at he
  split at he
  · split at he
    · cases he
    · exact State.destPut_kept _ _ _ _ _ he hw
  · rename_i p _
    have h := State.ladGaps_kept (s.setLadPend l code none) l p.entries (State.setLadPend_kept _ _ _ _ hw)
    generalize (s.setLadPend l code none).ladGaps l p.entries = x at he h
    obtain ⟨a, gs⟩ := x
    exact State.destPut_kept _ _ _ _ _ he (ite_kept h (State.noteRoute_kept _ _ _ h))

theorem State.ladPut_kept [K.Mem] (s : State) (l d code : Nat) (r : Rec) (hw : K.P s) : K.P (State.ladPut s l d code r) := by
  unfold State.ladPut
  try dsimp only
  repeat' first | (with_reducible first | assumption | apply State.ladDrop_kept | (apply State.ladFlush_kept _ _ _ _ _ (by assumption))) | split | with_reducible apply State.lit_kept | dsimp only

theorem State.parksEnter_kept [K.Mem] (n : Nat) : ∀ (s : State), K.P s → K.P (s.parksEnter n) := by
  induction n with
  | zero => intro s hw; exact hw
  | succ n ih =>
    intro s hw
    unfold State.parksEnter
    split
    · exact hw
    · exact ih _ (State.ladPut_kept _ _ _ _ _ (State.setHost_kept _ _ hw))

theorem State.parkExpire_kept [K.Mem] (s : State) (p : Parked) (hw : K.P s) : K.P (State.parkExpire s p) := by
  unfold State.parkExpire
  try dsimp only
  repeat' first | (with_reducible first | assumption | apply State.put_kept | apply State.incSat_kept | apply State.raise_kept | apply State.setHost_kept | apply State.showParked_kept | apply State.ladPut_kept | apply State.parksEnter_kept) | with_reducible apply State.lit_kept

theorem State.hostDeliver_kept [K.Mem] (s : State) (l d : Nat) (r : Rec) (hw : K.P s) : K.P (State.hostDeliver s l d r) := by
  unfold State.hostDeliver
  try dsimp only
  repeat' first | (with_reducible first | assumption | apply ite_kept | apply State.put_kept | apply State.incSat_kept | apply State.raise_kept | apply State.setHost_kept | apply State.batchClose_kept | apply State.showParked_kept | apply State.ladDrop_kept | apply State.ladPut_kept | apply State.parksEnter_kept | apply State.parkExpire_kept | (apply foldl_kept; intro _ _ _)) | split | with_reducible apply State.lit_kept | dsimp only

theorem State.descDeliver_kept [K.Mem] (s : State) (l d : Nat) (r : Rec) (hw : K.P s) : K.P (State.descDeliver s l d r) := by
  unfold State.descDeliver
  try dsimp only
  repeat' first | (with_reducible first | assumption | apply ite_kept | apply State.qOffer_kept | apply State.ladPut_kept | apply State.hostDeliver_kept) | split | with_reducible apply State.lit_kept | dsimp only

theorem State.viaHub_kept [K.Mem] (s : State) (q : Nat) (r : Rec) (hw : K.P s) : K.P (State.viaHub s q r) := by
  unfold State.viaHub
  try dsimp only
  repeat' first | (with_reducible first | assumption | apply ite_kept | apply State.descDeliver_kept | (apply foldl_kept; intro _ _ _)) | dsimp only

theorem State.placePut_kept [K.Mem] (s : State) (r : Rec) (place : Nat) (hw : K.P s) : K.P (State.placePut s r place) := by
  unfold State.placePut
  try dsimp only
  repeat' first | (with_reducible first | assumption | apply ite_kept | apply State.qOffer_kept | apply State.ladPut_kept | apply State.viaHub_kept | (apply foldl_kept; intro _ _ _)) | dsimp only

theorem State.mark_kept [K.Mem] (s : State) (kind nextGen : Nat) (key : Nat) (hw : K.P s) : K.P (State.mark s kind nextGen key) := by
  unfold State.mark
  try dsimp only
  repeat' first | (with_reducible first | assumption | apply State.takeSeq_kept | apply State.placePut_kept | (apply foldl_kept; intro _ _ _)) | dsimp only

theorem State.markAll_kept [K.Mem] (s : State) (kind nextGen : Nat) (keys : List Nat) (hw : K.P s) : K.P (State.markAll s kind nextGen keys) := by
  unfold State.markAll
  try dsimp only
  repeat' first | (with_reducible first | assumption | apply State.mark_kept | (apply foldl_kept; intro _ _ _)) | dsimp only

theorem State.markStops_kept [K.Mem] (s : State) (keys : List Nat) (hw : K.P s) : K.P (State.markStops s keys) := by
  unfold State.markStops
  try dsimp only
  repeat' first | (with_reducible first | assumption | apply State.markAll_kept) | with_reducible apply State.lit_kept | dsimp only

theorem State.markResumes_kept [K.Mem] (s : State) (t : Nat) (hw : K.P s) : K.P (State.markResumes s t) := by
  unfold State.markResumes
  try dsimp only
  repeat' first | (with_reducible first | assumption | apply State.markAll_kept) | with_reducible apply State.lit_kept | dsimp only

theorem State.markGen_kept [K.Mem] (s : State) (next : Nat) (keys : List Nat) (hw : K.P s) : K.P (State.markGen s next keys) := by
  unfold State.markGen
  try dsimp only
  repeat' with_reducible first | assumption | apply State.markAll_kept

theorem State.freshStreams_kept (s : State) (keys : List Nat) (hw : K.P s) : K.P (State.freshStreams s keys) := by
  unfold State.freshStreams
  try dsimp only
  repeat' first | (with_reducible first | assumption) | with_reducible apply State.lit_kept | dsimp only

theorem State.setTimer_kept (s : State) (t n : Nat) (x : Timer) (hw : K.P s) : K.P (State.setTimer s t n x) := by
  unfold State.setTimer
  try dsimp only
  repeat' first | (with_reducible first | assumption) | with_reducible apply State.lit_kept | dsimp only

theorem State.unreach_kept (s : State) (t n : Nat) (hw : K.P s) : K.P (State.unreach s t n) := by
  unfold State.unreach
  try dsimp only
  repeat' with_reducible first | assumption | apply State.putB_kept

theorem State.newPeriod_kept (s : State) (t n : Nat) (hw : K.P s) : K.P (State.newPeriod s t n) := by
  unfold State.newPeriod
  try dsimp only
  repeat' first | (with_reducible first | assumption | apply State.setTimer_kept | apply State.unreach_kept) | with_reducible apply State.lit_kept

theorem State.timerTick_kept (s : State) (t n step : Nat) (hw : K.P s) : K.P (State.timerTick s t n step) := by
  unfold State.timerTick
  try dsimp only
  repeat' first | (with_reducible first | assumption | apply ite_kept | apply State.put_kept | apply State.setTimer_kept | apply State.newPeriod_kept) | with_reducible apply State.lit_kept

theorem State.burst_kept (s : State) (t n : Nat) (hw : K.P s) : K.P (State.burst s t n) := by
  unfold State.burst
  try dsimp only
  repeat' first | (with_reducible first | assumption | apply State.setChan_kept | (apply foldl_kept; intro _ _ _)) | with_reducible apply State.lit_kept | dsimp only

theorem State.ladleReqAll_kept (s : State) (l : Nat) (hw : K.P s) : K.P (State.ladleReqAll s l) := by
  unfold State.ladleReqAll
  try dsimp only
  repeat' first | (with_reducible first | assumption | apply State.ladleRequest_kept | (apply foldl_kept; intro _ _ _)) | dsimp only

theorem State.route_kept (s : State) (t n : Nat) (hi : Bool) (hw : K.P s) : K.P (State.route s t n hi) := by
  unfold State.route
  try dsimp only
  repeat' first | (with_reducible first | assumption | apply ite_kept | apply State.put_kept | apply State.raiseTile_kept | apply State.setTimer_kept | apply State.burst_kept | apply State.ladleReqAll_kept | (apply foldl_kept; intro _ _ _)) | with_reducible apply State.lit_kept | dsimp only

theorem State.timerMatch_kept (s : State) (t n : Nat) (hw : K.P s) : K.P (State.timerMatch s t n) := by
  unfold State.timerMatch
  try dsimp only
  repeat' first | (with_reducible first | assumption | apply ite_kept | apply State.setTimer_kept | apply State.route_kept) | with_reducible apply State.lit_kept

theorem State.timerEnd_kept (s : State) (t n : Nat) (hw : K.P s) : K.P (State.timerEnd s t n) := by
  unfold State.timerEnd
  try dsimp only
  repeat' first | (with_reducible first | assumption | apply ite_kept | apply State.setTimer_kept | apply State.route_kept | apply State.timerMatch_kept) | with_reducible apply State.lit_kept

theorem State.cmdTimerStart_kept (s : State) (t n : Nat) (hw : K.P s) : K.P (State.cmdTimerStart s t n) := by
  unfold State.cmdTimerStart
  try dsimp only
  repeat' with_reducible first | assumption | apply State.put_kept

theorem State.cmdTimerStop_kept (s : State) (t n : Nat) (hw : K.P s) : K.P (State.cmdTimerStop s t n) := by
  unfold State.cmdTimerStop
  try dsimp only
  repeat' with_reducible first | assumption | apply State.put_kept

theorem State.cmdTimerClear_kept (s : State) (t n : Nat) (hw : K.P s) : K.P (State.cmdTimerClear s t n) := by
  unfold State.cmdTimerClear
  try dsimp only
  repeat' first | (with_reducible first | assumption | apply State.put_kept | apply State.setTimer_kept) | with_reducible apply State.lit_kept

theorem State.cmdTimerPer_kept (s : State) (t n : Nat) (v : Word) (hw : K.P s) : K.P (State.cmdTimerPer s t n v) := by
  unfold State.cmdTimerPer
  try dsimp only
  repeat' first | (with_reducible first | assumption | apply ite_kept | apply State.wr_kept | apply State.setTimer_kept | apply State.unreach_kept) | with_reducible apply State.lit_kept

theorem State.cmdTimerCmp_kept (s : State) (t n : Nat) (v : Word) (hw : K.P s) : K.P (State.cmdTimerCmp s t n v) := by
  unfold State.cmdTimerCmp
  try dsimp only
  repeat' with_reducible first | assumption | apply ite_kept | apply State.wr_kept | apply State.put_kept | apply State.unreach_kept

theorem State.ifTimerWriter_kept (s : State) (w t : Nat) (f : State → State) (hf_f : ∀ u : State, K.P u → K.P (f u)) (hw : K.P s) :
    K.P (State.ifTimerWriter s w t f) := by
  unfold State.ifTimerWriter
  try dsimp only
  repeat' with_reducible first | assumption | apply ite_kept | apply hf_f

theorem State.timersStart_kept (s : State) (t : Nat) (hw : K.P s) : K.P (State.timersStart s t) := by
  unfold State.timersStart
  try dsimp only
  repeat' first | (with_reducible first | assumption | apply ite_kept | apply State.put_kept | apply State.setTimer_kept | apply State.unreach_kept | (apply foldl_kept; intro _ _ _)) | with_reducible apply State.lit_kept | dsimp only

theorem State.tileTick_kept (s : State) (t step : Nat) (hw : K.P s) : K.P (State.tileTick s t step) := by
  unfold State.tileTick
  try dsimp only
  repeat' first | (with_reducible first | assumption | apply ite_kept | apply State.timerTick_kept | (apply foldl_kept; intro _ _ _)) | dsimp only

theorem State.timersAct_kept (s : State) (hw : K.P s) : K.P (State.timersAct s) := by
  unfold State.timersAct
  try dsimp only
  repeat' first | (with_reducible first | assumption | apply State.timerMatch_kept | apply State.timerEnd_kept | (apply foldl_kept; intro _ _ _)) | dsimp only

theorem State.boundaryChan_kept [K.Mem] (s : State) (k at_ from_ : Nat) (hw : K.P s) : K.P (State.boundaryChan s k at_ from_) := by
  unfold State.boundaryChan
  try dsimp only
  repeat' first | (with_reducible first | assumption | apply ite_kept | apply State.chanRestart_kept | apply State.setChan_kept | apply State.chainFrom_kept) | with_reducible apply State.lit_kept

theorem State.boundary_kept [K.Mem] (s : State) (c : Nat) (hw : K.P s) : K.P (State.boundary s c) := by
  unfold State.boundary
  try dsimp only
  repeat' first | (with_reducible first | assumption | apply ite_kept | apply State.put_kept | apply State.settle_kept | apply State.setCell_kept | apply State.setChan_kept | apply State.boundaryChan_kept | (apply foldl_kept; intro _ _ _)) | with_reducible apply State.lit_kept | dsimp only

theorem State.cellStop_kept [K.Mem] (s : State) (c : Nat) (hw : K.P s) : K.P (State.cellStop s c) := by
  unfold State.cellStop
  try dsimp only
  repeat' first | (with_reducible first | assumption | apply State.put_kept | apply State.setCell_kept | apply State.chanStop_kept | (apply foldl_kept; intro _ _ _)) | dsimp only

theorem State.cellConfigure_kept (s : State) (c : Nat) (hw : K.P s) : K.P (State.cellConfigure s c) := by
  unfold State.cellConfigure
  try dsimp only
  repeat' first | (with_reducible first | assumption | apply State.setCell_kept | apply State.showFilter_kept | (apply foldl_kept; intro _ _ _)) | with_reducible apply State.lit_kept | dsimp only

theorem State.cellRestart_kept [K.Mem] (s : State) (c : Nat) (hw : K.P s) : K.P (State.cellRestart s c) := by
  unfold State.cellRestart
  try dsimp only
  repeat' with_reducible first | assumption | apply ite_kept | apply State.cellStop_kept | apply State.cellConfigure_kept

theorem State.scanStart_kept (s : State) (c : Nat) (hw : K.P s) : K.P (State.scanStart s c) := by
  unfold State.scanStart
  try dsimp only
  repeat' first | (with_reducible first | assumption | apply State.put_kept | apply State.setCell_kept | apply State.chanStart_kept | (apply foldl_kept; intro _ _ _)) | with_reducible apply State.lit_kept | dsimp only

theorem State.excReport_kept (s : State) (c what cls : Nat) (confirm : Bool) (chan : Nat) (hw : K.P s) : K.P (State.excReport s c what cls confirm chan) := by
  unfold State.excReport
  try dsimp only
  repeat' with_reducible first | assumption | apply ite_kept | apply State.put_kept | apply State.setBit_kept | apply State.incSat_kept | apply State.raise_kept | apply State.raiseTile_kept | apply State.logWrite_kept

theorem State.faultEnds_kept (s : State) (before : List Nat) (hw : K.P s) : K.P (State.faultEnds s before) := by
  unfold State.faultEnds
  try dsimp only
  repeat' first | (with_reducible first | assumption | apply State.setChan_kept | (apply foldl_kept; intro _ _ _)) | with_reducible apply State.lit_kept | dsimp only

theorem State.srcOff_kept (s : State) (c n : Nat) (hw : K.P s) : K.P (State.srcOff s c n) := by
  unfold State.srcOff
  try dsimp only
  repeat' first | (with_reducible first | assumption | apply State.put_kept | apply State.setBit_kept | apply State.setCell_kept) | with_reducible apply State.lit_kept

theorem State.leadAbort_kept (s : State) (c : Nat) (hw : K.P s) : K.P (State.leadAbort s c) := by
  unfold State.leadAbort
  try dsimp only
  repeat' first | (with_reducible first | assumption | apply ite_kept | apply State.put_kept | apply State.clearBit_kept | apply State.settle_kept | apply State.setCell_kept | apply State.setChan_kept | (apply foldl_kept; intro _ _ _) | (apply foldl_fst_kept; intro _ _ _)) | split | with_reducible apply State.lit_kept | dsimp only

theorem State.excClass_kept (s : State) (c n : Nat) (holds : List Nat) (cls : Nat) (hw : K.P s) : K.P (State.excClass s c n holds cls) := by
  unfold State.excClass
  try dsimp only
  repeat' first | (with_reducible first | assumption | apply ite_kept | apply State.put_kept | apply State.setCell_kept | apply State.excReport_kept | apply State.srcOff_kept | apply State.leadAbort_kept) | (apply fst_kept (by assumption)) | split | dsimp only

theorem State.moduleForce_kept (s : State) (c : Nat) (hw : K.P s) : K.P (State.moduleForce s c) := by
  unfold State.moduleForce
  try dsimp only
  repeat' first | (with_reducible first | assumption | apply ite_kept | apply State.setCell_kept | apply State.excReport_kept | apply State.faultEnds_kept | apply State.srcOff_kept | apply State.leadAbort_kept) | with_reducible apply State.lit_kept

theorem State.moduleRun_kept (s : State) (c : Nat) (high : Bool) (hw : K.P s) : K.P (State.moduleRun s c high).1 := by
  unfold State.moduleRun
  try dsimp only
  repeat' first | (with_reducible first | assumption | apply ite_kept | apply State.setCell_kept) | split | with_reducible apply State.lit_kept | dsimp only

theorem State.moduleRuns_kept (high : Bool) (n : Nat) (s : State) (hw : K.P s) : K.P (s.moduleRuns high n).1 := by
  induction n with
  | zero => exact hw
  | succ n ih => exact State.moduleRun_kept _ _ _ ih

theorem State.moduleCheck_kept (s : State) (hw : K.P s) : K.P s.moduleCheck := by
  have hm : ∀ n, K.P (s.moduleRuns (decide (s.bridgeSum > 400000)) n).1 := fun n => State.moduleRuns_kept _ n s hw
  have hl : ∀ (u : State) (x : Option Nat), K.P u → K.P { u with moduleAt := x } := fun u x hu => State.lit_kept (u := u) _ _ _ _ _ _ _ _ _ _ _ _ _ _ _ _ _ _ _ _ _ _ _ _ _ _ _ _ _ _ _ _ _ _ _ _ _ _ _ _ _ _ _ _ _ _ _ _ _ _ _ hu
  unfold State.moduleCheck
  dsimp only
  split
  · exact foldl_kept _ (fun u c hu => State.moduleForce_kept u c hu) _ _ (hl _ _ hw)
  · split
    · refine foldl_kept _ (fun u c hu => ?_) _ _ (hl _ _ (hm 32))
      exact ite_kept (State.moduleForce_kept u c hu) hu
    · exact hm 32

theorem State.excMeasure_kept (s : State) (r : ExcRead) (hw : K.P s) : K.P (State.excMeasure s r) := by
  unfold State.excMeasure
  try dsimp only
  repeat' with_reducible first | assumption | apply State.put_kept

theorem State.excCell_kept (s : State) (r : ExcRead) (hw : K.P s) : K.P (State.excCell s r) := by
  unfold State.excCell
  try dsimp only
  repeat' first | (with_reducible first | assumption | apply ite_kept | apply State.faultEnds_kept | apply State.excClass_kept | (apply foldl_kept; intro _ _ _)) | dsimp only

theorem State.excCheck_kept (s : State) (rs : List ExcRead) (hw : K.P s) : K.P (State.excCheck s rs) := by
  unfold State.excCheck
  try dsimp only
  repeat' first | (with_reducible first | assumption | apply State.moduleCheck_kept | apply State.excMeasure_kept | apply State.excCell_kept | (apply foldl_kept; intro _ _ _)) | dsimp only

theorem State.srcBack_kept (s : State) (c n : Nat) (hw : K.P s) : K.P (State.srcBack s c n) := by
  unfold State.srcBack
  try dsimp only
  repeat' first | (with_reducible first | assumption | apply ite_kept | apply State.put_kept | apply State.incSat_kept | apply State.setCell_kept | apply State.faultEnds_kept) | with_reducible apply State.lit_kept

theorem State.leadStart_kept (s : State) (c i : Nat) (cycle : Word) (hw : K.P s) : K.P (State.leadStart s c i cycle) := by
  unfold State.leadStart
  try dsimp only
  repeat' first | (with_reducible first | assumption | apply ite_kept | apply State.put_kept | apply State.setBit_kept | apply State.incSat_kept | apply State.setCell_kept) | with_reducible apply State.lit_kept

theorem State.leadGo_kept (s : State) (c : Nat) (l : LeadRun) (terminal : Nat) (hw : K.P s) : K.P (State.leadGo s c l terminal) := by
  unfold State.leadGo
  try dsimp only
  repeat' first | (with_reducible first | assumption | apply State.setCell_kept) | with_reducible apply State.lit_kept

theorem State.leadEnd_kept (s : State) (c : Nat) (l : LeadRun) (hw : K.P s) : K.P (State.leadEnd s c l) := by
  unfold State.leadEnd
  try dsimp only
  repeat' first | (with_reducible first | assumption | apply ite_kept | apply State.put_kept | apply State.putB_kept | apply State.clearBit_kept | apply State.incWrap_kept | apply State.freeNext_kept | apply State.setCell_kept | apply State.setChan_kept | apply State.excReport_kept | apply State.faultEnds_kept) | split | with_reducible apply State.lit_kept | dsimp only

theorem State.leadSettle_kept (s : State) (c : Nat) (l : LeadRun) (hw : K.P s) : K.P (State.leadSettle s c l) := by
  unfold State.leadSettle
  try dsimp only
  repeat' first | (with_reducible first | assumption | apply State.settle_kept | apply State.setChan_kept | (apply foldl_kept; intro _ _ _)) | with_reducible apply State.lit_kept | dsimp only

theorem State.cjUpdate_kept (s : State) (c : Nat) (r : Option Int) (hw : K.P s) : K.P (State.cjUpdate s c r) := by
  unfold State.cjUpdate
  try dsimp only
  repeat' first | (with_reducible first | assumption | apply ite_kept | apply State.put_kept | apply State.setCell_kept | apply State.excReport_kept | apply State.faultEnds_kept) | split | with_reducible apply State.lit_kept | dsimp only

theorem State.seqTo_kept (s : State) (c phase : Nat) (hw : K.P s) : K.P (State.seqTo s c phase) := by
  unfold State.seqTo
  try dsimp only
  repeat' first | (with_reducible first | assumption | apply State.setCell_kept) | with_reducible apply State.lit_kept

theorem State.dischargeReset_kept (s : State) (k : Nat) (r : ResetRead) (hw : K.P s) : K.P (State.dischargeReset s k r) := by
  unfold State.dischargeReset
  try dsimp only
  repeat' first | (with_reducible first | assumption | apply ite_kept | apply State.resetNow_kept) | dsimp only

theorem State.arpUse_kept (s : State) (ip : Nat) (hw : K.P s) : K.P (State.arpUse s ip) := by
  unfold State.arpUse
  try dsimp only
  repeat' first | (with_reducible first | assumption | apply ite_kept | apply State.setHost_kept | apply State.hostEmit_kept) | with_reducible apply State.lit_kept | dsimp only

theorem State.udpTo_kept (s : State) (ip port : Nat) (payload : List Byte) (hw : K.P s) : K.P (State.udpTo s ip port payload) := by
  unfold State.udpTo
  try dsimp only
  repeat' with_reducible first | assumption | apply ite_kept | apply State.hostEmit_kept | apply State.arpUse_kept

theorem State.arpGratuitous_kept (s : State) (hw : K.P s) : K.P (State.arpGratuitous s) := by
  unfold State.arpGratuitous
  try dsimp only
  repeat' with_reducible first | assumption | apply ite_kept | apply State.hostEmit_kept

theorem State.toPeer_kept (s : State) (mtype : Nat) (session : Word) (body : List Byte) (hw : K.P s) : K.P (State.toPeer s mtype session body) := by
  unfold State.toPeer
  try dsimp only
  repeat' with_reducible first | assumption | apply State.udpTo_kept

theorem State.setSession_kept (s : State) (st : Nat) (hw : K.P s) : K.P (State.setSession s st) := by
  unfold State.setSession
  try dsimp only
  repeat' with_reducible first | assumption | apply ite_kept | apply State.put_kept | apply State.raise_kept | apply State.wakeCheck_kept | apply State.wakeEnd_kept

theorem State.sendClose_kept (s : State) (reason : Nat) (hw : K.P s) : K.P (State.sendClose s reason) := by
  unfold State.sendClose
  try dsimp only
  repeat' with_reducible first | assumption | apply State.toPeer_kept

theorem State.moduleClose_kept (s : State) (reason : Nat) (hw : K.P s) : K.P (State.moduleClose s reason) := by
  unfold State.moduleClose
  try dsimp only
  repeat' with_reducible first | assumption | apply ite_kept | apply State.setSession_kept | apply State.sendClose_kept

theorem State.setSpeed_kept (s : State) (n : Nat) (hw : K.P s) : K.P (State.setSpeed s n) := by
  unfold State.setSpeed
  try dsimp only
  repeat' with_reducible first | assumption | apply ite_kept | apply State.put_kept | apply State.raise_kept

theorem State.showOutstanding_kept (s : State) (hw : K.P s) : K.P (State.showOutstanding s) := by
  unfold State.showOutstanding
  try dsimp only
  repeat' first | (with_reducible first | assumption | apply State.put_kept) | dsimp only

theorem State.showCum_kept (s : State) (hw : K.P s) : K.P (State.showCum s) := by
  unfold State.showCum
  try dsimp only
  repeat' first | (with_reducible first | assumption | apply State.wr_kept) | split | with_reducible apply State.lit_kept | dsimp only

theorem State.linkSend_kept (s : State) (op target arg : Nat) (hw : K.P s) : K.P (State.linkSend s op target arg) := by
  unfold State.linkSend
  try dsimp only
  repeat' first | (with_reducible first | assumption) | with_reducible apply State.lit_kept

theorem State.linkNext_kept (s : State) (hw : K.P s) : K.P (State.linkNext s) := by
  unfold State.linkNext
  try dsimp only
  repeat' first | (with_reducible first | assumption | apply State.linkSend_kept) | split | with_reducible apply State.lit_kept | dsimp only

theorem State.setDom_kept (s : State) (n st : Nat) (hw : K.P s) : K.P (State.setDom s n st) := by
  unfold State.setDom
  try dsimp only
  repeat' first | (with_reducible first | assumption | apply State.put_kept) | with_reducible apply State.lit_kept

theorem State.twRail_kept (s : State) (p : Nat) (on : Bool) (hw : K.P s) : K.P (State.twRail s p on) := by
  unfold State.twRail
  try dsimp only
  repeat' with_reducible first | assumption | apply ite_kept | apply State.linkSend_kept

theorem State.keyVcc_kept (s : State) (on : Bool) (hw : K.P s) : K.P (State.keyVcc s on) := by
  unfold State.keyVcc
  try dsimp only
  repeat' first | (with_reducible first | assumption | apply ite_kept | apply State.linkSend_kept) | with_reducible apply State.lit_kept

theorem State.coreStart_kept [K.Cores] (s : State) (k : Nat) (base : Word) (hw : K.P s) : K.P (State.coreStart s k base) := by
  unfold State.coreStart
  try dsimp only
  repeat' first | (with_reducible first | assumption | apply State.setCore_kept) | with_reducible apply State.lit_kept

theorem State.coreStop_kept [K.Cores] (s : State) (k : Nat) (hw : K.P s) : K.P (State.coreStop s k) := by
  unfold State.coreStop
  try dsimp only
  repeat' first | (with_reducible first | assumption | apply State.setCore_kept) | with_reducible apply State.lit_kept

theorem State.afeLower_kept [K.Mem] (s : State) (t st : Nat) (hw : K.P s) : K.P (State.afeLower s t st) := by
  unfold State.afeLower
  try dsimp only
  repeat' first | (with_reducible first | assumption | apply ite_kept | apply State.clearRegs_kept | apply State.cellStop_kept | apply State.setDom_kept | (apply foldl_kept; intro _ _ _)) | dsimp only

theorem State.afeRaise_kept (s : State) (t : Nat) (hw : K.P s) : K.P (State.afeRaise s t) := by
  unfold State.afeRaise
  try dsimp only
  repeat' first | (with_reducible first | assumption | apply State.cellConfigure_kept | apply State.setDom_kept | (apply foldl_kept; intro _ _ _)) | dsimp only

theorem State.scrubStop_kept (s : State) (m : Nat) (hw : K.P s) : K.P (State.scrubStop s m) := by
  unfold State.scrubStop
  try dsimp only
  repeat' first | (with_reducible first | assumption | apply State.put_kept) | with_reducible apply State.lit_kept | dsimp only

theorem State.scrubGo_kept (s : State) (m : Nat) (hw : K.P s) : K.P (State.scrubGo s m) := by
  unfold State.scrubGo
  try dsimp only
  repeat' first | (with_reducible first | assumption | apply State.put_kept) | with_reducible apply State.lit_kept | dsimp only

theorem State.tileForget_kept [K.Mem] [K.Cores] (s : State) (t : Nat) (hw : K.P s) : K.P (State.tileForget s t) := by
  unfold State.tileForget
  try dsimp only
  repeat' first | (with_reducible first | assumption | apply State.setCore_kept | apply State.clearRegs_kept | apply State.memCut_kept | apply State.setQueue_kept | apply State.setLadle_kept | apply State.setTimer_kept | (apply foldl_kept; intro _ _ _) | (apply foldl_fst_kept; intro _ _ _)) | with_reducible apply State.lit_kept | dsimp only

theorem State.tileDown_kept (s : State) (t st : Nat) (hw : K.P s) : K.P (State.tileDown s t st) := by
  unfold State.tileDown
  try dsimp only
  repeat' with_reducible first | assumption | apply State.putPair_kept | apply State.setDom_kept | apply State.scrubStop_kept

theorem State.tileLower_kept [K.Mem] [K.Cores] (s : State) (t st : Nat) (hw : K.P s) : K.P (State.tileLower s t st) := by
  unfold State.tileLower
  try dsimp only
  repeat' with_reducible first | assumption | apply ite_kept | apply State.churnStop_kept | apply State.churnPause_kept | apply State.tileForget_kept | apply State.tileDown_kept

theorem State.tilePowered_kept (s : State) (t : Nat) (hw : K.P s) : K.P (State.tilePowered s t) := by
  unfold State.tilePowered
  try dsimp only
  repeat' with_reducible first | assumption | apply State.putPair_kept | apply State.setDom_kept | apply State.scrubGo_kept

theorem State.tileUp_kept (s : State) (t : Nat) (hw : K.P s) : K.P (State.tileUp s t) := by
  unfold State.tileUp
  try dsimp only
  repeat' with_reducible first | assumption | apply ite_kept | apply State.tilePowered_kept

theorem State.tileWake_kept (s : State) (t : Nat) (hw : K.P s) : K.P (State.tileWake s t) := by
  unfold State.tileWake
  try dsimp only
  repeat' first | (with_reducible first | assumption | apply State.put_kept | apply State.churnResume_kept | apply State.tilePowered_kept | (apply foldl_kept; intro _ _ _)) | dsimp only

theorem State.tileForceOff_kept [K.Mem] [K.Cores] (s : State) (t : Nat) (hw : K.P s) : K.P (State.tileForceOff s t) := by
  unfold State.tileForceOff
  try dsimp only
  repeat' with_reducible first | assumption | apply ite_kept | apply State.afeLower_kept | apply State.tileLower_kept

theorem State.hostForget_kept (s : State) (hw : K.P s) : K.P (State.hostForget s) := by
  unfold State.hostForget
  try dsimp only
  repeat' first | (with_reducible first | assumption | apply State.clearRegs_kept | apply State.put_kept | apply State.setHost_kept | apply State.setSession_kept | apply State.setSpeed_kept | (apply foldl_kept; intro _ _ _)) | with_reducible apply State.lit_kept | dsimp only

theorem State.hostLower_kept (s : State) (st : Nat) (hw : K.P s) : K.P (State.hostLower s st) := by
  unfold State.hostLower
  try dsimp only
  repeat' with_reducible first | assumption | apply ite_kept | apply State.moduleClose_kept | apply State.setDom_kept | apply State.hostForget_kept

theorem State.hostRaise_kept (s : State) (hw : K.P s) : K.P (State.hostRaise s) := by
  unfold State.hostRaise
  try dsimp only
  repeat' with_reducible first | assumption | apply State.setDom_kept

theorem State.keyLower_kept (s : State) (hw : K.P s) : K.P (State.keyLower s) := by
  unfold State.keyLower
  try dsimp only
  repeat' first | (with_reducible first | assumption | apply ite_kept | apply State.put_kept | apply State.setDom_kept | apply State.keyVcc_kept | (apply foldl_kept; intro _ _ _)) | with_reducible apply State.lit_kept | dsimp only

theorem State.keyRaise_kept (s : State) (hw : K.P s) : K.P (State.keyRaise s) := by
  unfold State.keyRaise
  try dsimp only
  repeat' with_reducible first | assumption | apply State.setDom_kept | apply State.keyVcc_kept

theorem State.refTo_kept (s : State) (r : Nat) (hw : K.P s) : K.P (State.refTo s r) := by
  unfold State.refTo
  try dsimp only
  repeat' with_reducible first | assumption | apply ite_kept | apply State.put_kept

theorem State.portWrapOn_kept (s : State) (portB : Bool) (hw : K.P s) : K.P (State.portWrapOn s portB) := by
  unfold State.portWrapOn
  try dsimp only
  repeat' with_reducible first | assumption | apply ite_kept | apply State.put_kept | apply State.incSat_kept | apply State.raise_kept

theorem State.portJoin_kept (s : State) (portB : Bool) (hw : K.P s) : K.P (State.portJoin s portB) := by
  unfold State.portJoin
  try dsimp only
  repeat' with_reducible first | assumption | apply ite_kept | apply State.put_kept | apply State.raise_kept

theorem State.portTo_kept (s : State) (portB : Bool) (st : Nat) (hw : K.P s) : K.P (State.portTo s portB st) := by
  unfold State.portTo
  try dsimp only
  repeat' first | (with_reducible first | assumption | apply ite_kept | apply State.put_kept | apply State.raise_kept | apply State.logWrite_kept | apply State.setPort_kept | apply State.sendOn_kept | apply State.portWrapOn_kept | (apply foldl_kept; intro _ _ _)) | dsimp only

theorem State.herdForget_kept (s : State) (hw : K.P s) : K.P (State.herdForget s) := by
  unfold State.herdForget
  try dsimp only
  repeat' first | (with_reducible first | assumption | apply State.clearRegs_kept | apply State.put_kept | apply State.putB_kept | (apply foldl_kept; intro _ _ _)) | with_reducible apply State.lit_kept | dsimp only

theorem State.subsGone_kept (s : State) (hw : K.P s) : K.P (State.subsGone s) := by
  unfold State.subsGone
  try dsimp only
  repeat' first | (with_reducible first | assumption | apply ite_kept | apply State.put_kept | apply State.sourceGone_kept | apply State.watchNote_kept | (apply foldl_kept; intro _ _ _)) | dsimp only

theorem State.herdLower_kept (s : State) (st : Nat) (hw : K.P s) : K.P (State.herdLower s st) := by
  unfold State.herdLower
  try dsimp only
  repeat' first | (with_reducible first | assumption | apply ite_kept | apply State.put_kept | apply State.raise_kept | apply State.setDom_kept | apply State.portTo_kept | apply State.herdForget_kept | apply State.subsGone_kept) | with_reducible apply State.lit_kept

theorem State.herdRaise_kept (s : State) (hw : K.P s) : K.P (State.herdRaise s) := by
  unfold State.herdRaise
  try dsimp only
  repeat' first | (with_reducible first | assumption | apply ite_kept | apply State.setDom_kept | apply State.portTo_kept) | with_reducible apply State.lit_kept

theorem State.twOff_kept (s : State) (p : Nat) (hw : K.P s) : K.P (State.twOff s p) := by
  unfold State.twOff
  try dsimp only
  repeat' first | (with_reducible first | assumption | apply ite_kept | apply State.put_kept | apply State.raise_kept | apply State.freeNext_kept | apply State.twRail_kept | (apply foldl_kept; intro _ _ _)) | with_reducible apply State.lit_kept | dsimp only

theorem State.hubMemForget_kept [K.Mem] (s : State) (hw : K.P s) : K.P (State.hubMemForget s) := by
  unfold State.hubMemForget
  try dsimp only
  repeat' first | (with_reducible first | assumption | apply State.memCut_kept | apply State.putB_kept) | with_reducible apply State.lit_kept | dsimp only

theorem State.hubForget_kept [K.Mem] [K.Cores] (s : State) (hw : K.P s) : K.P (State.hubForget s) := by
  unfold State.hubForget
  try dsimp only
  repeat' first | (with_reducible first | assumption | apply State.setCore_kept | apply State.clearRegs_kept | apply State.put_kept | apply State.setQueue_kept | apply State.setLadle_kept | apply State.commandAll_kept | apply State.setHost_kept | apply State.setFill_kept | apply State.showOutstanding_kept | apply State.showCum_kept | apply State.hubMemForget_kept | (apply foldl_kept; intro _ _ _)) | with_reducible apply State.lit_kept | dsimp only

theorem State.lanesRest_kept (s : State) (hw : K.P s) : K.P (State.lanesRest s) := by
  unfold State.lanesRest
  try dsimp only
  repeat' first | (with_reducible first | assumption | apply ite_kept | apply State.setLane_kept | (apply foldl_kept; intro _ _ _)) | with_reducible apply State.lit_kept | dsimp only

theorem State.hubLower_kept [K.Mem] [K.Cores] (s : State) (st : Nat) (hw : K.P s) : K.P (State.hubLower s st) := by
  unfold State.hubLower
  try dsimp only
  repeat' first | (with_reducible first | assumption | apply ite_kept | apply State.setLane_kept | apply State.capsStop_kept | apply State.setDom_kept | apply State.scrubStop_kept | apply State.twOff_kept | apply State.hubForget_kept | apply State.lanesRest_kept | (apply foldl_kept; intro _ _ _)) | dsimp only

theorem State.setWatch_kept (s : State) (b : WatchSt) (hw : K.P s) : K.P (State.setWatch s b) := by
  unfold State.setWatch
  try dsimp only
  repeat' first | (with_reducible first | assumption) | with_reducible apply State.lit_kept

theorem State.setTileRun_kept (s : State) (t : Nat) (x : TileRun) (hw : K.P s) : K.P (State.setTileRun s t x) := by
  unfold State.setTileRun
  try dsimp only
  repeat' first | (with_reducible first | assumption) | with_reducible apply State.lit_kept | dsimp only

theorem State.dumpQueue_kept (s : State) (q : Nat) (hw : K.P s) : K.P (s.dumpQueue q).1 := by
  unfold State.dumpQueue
  dsimp only
  repeat' first | (with_reducible first | assumption | apply ite_kept | apply State.put_kept | apply State.incSat_kept | apply State.takeSeq_kept | apply State.setQueue_kept | apply State.raiseQueue_kept | apply State.resetGap_kept | apply State.resetPorts_kept | (apply foldl_kept; intro _ _ _) | (apply foldl_fst_kept; intro _ _ _)) | (apply fst_kept (by assumption)) | split | dsimp only

theorem State.tileDrop_kept (s : State) (t : Nat) (hw : K.P s) : K.P (State.tileDrop s t) := by
  unfold State.tileDrop
  try dsimp only
  repeat' first | (with_reducible first | assumption | apply ite_kept | apply State.qCommit_kept | apply State.dumpQueue_kept | (apply foldl_kept; intro _ _ _) | (apply foldl_fst_kept; intro _ _ _)) | (apply fst_kept (by assumption)) | split | dsimp only

theorem State.lostOut_kept [K.Mem] (s : State) (q : Nat) (hw : K.P s) : K.P (State.lostOut s q) := by
  unfold State.lostOut
  try dsimp only
  repeat' first | (with_reducible first | assumption | apply ite_kept | apply State.takeSeq_kept | apply State.descDeliver_kept | (apply foldl_kept; intro _ _ _)) | dsimp only

theorem State.tileEmpty_kept [K.Mem] [K.Cores] (s : State) (t : Nat) (hw : K.P s) : K.P (State.tileEmpty s t) := by
  unfold State.tileEmpty
  try dsimp only
  repeat' first | (with_reducible first | assumption | apply State.viaHub_kept | apply State.tileForceOff_kept | apply State.dumpQueue_kept | apply State.lostOut_kept | (apply foldl_kept; intro _ _ _) | (apply foldl_fst_kept; intro _ _ _)) | (apply fst_kept (by assumption)) | split | dsimp only

theorem State.railsAsk_kept (s : State) (n : Nat) (hw : K.P s) : K.P (State.railsAsk s n) := by
  unfold State.railsAsk
  try dsimp only
  repeat' first | (with_reducible first | assumption | apply ite_kept | apply State.linkSend_kept | (apply foldl_kept; intro _ _ _)) | dsimp only

theorem State.tileFromOff_kept (s : State) (t : Nat) (hw : K.P s) : K.P (State.tileFromOff s t) := by
  unfold State.tileFromOff
  try dsimp only
  repeat' first | (with_reducible first | assumption | apply ite_kept | apply State.tilePowered_kept | apply State.setTileRun_kept) | with_reducible apply State.lit_kept

theorem State.domRaise_kept (s : State) (n dst : Nat) (hw : K.P s) : K.P (State.domRaise s n dst) := by
  unfold State.domRaise
  try dsimp only
  repeat' with_reducible first | assumption | apply ite_kept | apply State.setDom_kept | apply State.afeRaise_kept | apply State.tileDown_kept | apply State.tileWake_kept | apply State.hostRaise_kept | apply State.keyRaise_kept | apply State.herdRaise_kept | apply State.tileFromOff_kept

theorem State.domLower_kept [K.Mem] [K.Cores] (s : State) (n dst : Nat) (hw : K.P s) : K.P (State.domLower s n dst) := by
  unfold State.domLower
  try dsimp only
  repeat' with_reducible first | assumption | apply ite_kept | apply State.markStops_kept | apply State.afeLower_kept | apply State.tileLower_kept | apply State.hostLower_kept | apply State.keyLower_kept | apply State.herdLower_kept | apply State.hubLower_kept | apply State.tileEmpty_kept

theorem State.setPwr_kept (s : State) (p : PwrSt) (hw : K.P s) : K.P (State.setPwr s p) := by
  unfold State.setPwr
  try dsimp only
  repeat' first | (with_reducible first | assumption) | with_reducible apply State.lit_kept

theorem State.refuseCount_kept (s : State) (n reason part : Nat) (hw : K.P s) : K.P (State.refuseCount s n reason part) := by
  unfold State.refuseCount
  try dsimp only
  repeat' with_reducible first | assumption | apply ite_kept | apply State.put_kept | apply State.incSat_kept | apply State.raise_kept | apply State.logWrite_kept

theorem State.pwrIdle_kept (s : State) (hw : K.P s) : K.P (State.pwrIdle s) := by
  unfold State.pwrIdle
  try dsimp only
  repeat' first | (with_reducible first | assumption | apply State.put_kept | apply State.setPwr_kept) | with_reducible apply State.lit_kept

theorem State.pwrRolled_kept (s : State) (hw : K.P s) : K.P (State.pwrRolled s) := by
  unfold State.pwrRolled
  try dsimp only
  repeat' first | (with_reducible first | assumption | apply ite_kept | apply State.put_kept | apply State.setWatch_kept | apply State.refuseCount_kept | apply State.pwrIdle_kept) | split | with_reducible apply State.lit_kept | dsimp only

theorem State.pwrRefuse_kept (s : State) (reason part : Nat) (hw : K.P s) : K.P (State.pwrRefuse s reason part) := by
  unfold State.pwrRefuse
  try dsimp only
  repeat' first | (with_reducible first | assumption | apply ite_kept | apply State.put_kept | apply State.capsResume_kept | apply State.capsStop_kept | apply State.railsAsk_kept | apply State.setPwr_kept | apply State.pwrRolled_kept | (apply foldl_kept; intro _ _ _) | (apply foldl_fst_kept; intro _ _ _)) | split | with_reducible apply State.lit_kept | dsimp only

theorem State.pwrForce_kept (s : State) (hw : K.P s) : K.P (State.pwrForce s) := by
  unfold State.pwrForce
  try dsimp only
  repeat' with_reducible first | assumption | apply State.pwrRefuse_kept

theorem State.tileCut_kept [K.Mem] [K.Cores] (s : State) (t : Nat) (hw : K.P s) : K.P (State.tileCut s t) := by
  unfold State.tileCut
  try dsimp only
  repeat' with_reducible first | assumption | apply State.tileEmpty_kept | apply State.pwrForce_kept

end Sys2Proof.Machine
end

