-- ==== Sys2Proof/Laws/KeepC.lean ====
section
/-! SUPPORT. The shared operations of Faults, Memory, Load, Changeover, Key, TwoWire, ChannelCmds, Power, Boot: what each keeps. -/

set_option Elab.async false
set_option linter.unusedTactic false
set_option linter.unreachableTactic false
set_option linter.unusedVariables false

namespace Sys2Proof.Machine

variable {K : Keep}

theorem State.tileHalt_kept [K.Mem] [K.Cores] (s : State) (t : Nat) (hw : K.P s) : K.P (State.tileHalt s t) := by
  unfold State.tileHalt
  try dsimp only
  repeat' first | (with_reducible first | assumption | apply State.churnStop_kept | apply State.cellStop_kept | apply State.coreStop_kept | (apply foldl_kept; intro _ _ _)) | dsimp only

theorem State.tileOutLog_kept (s : State) (t cause : Nat) (addr : Word) (hw : K.P s) : K.P (State.tileOutLog s t cause addr) := by
  unfold State.tileOutLog
  try dsimp only
  repeat' with_reducible first | assumption | apply State.put_kept | apply State.raise_kept | apply State.logWrite_kept

theorem State.tileFinal_kept [K.Mem] [K.Cores] (s : State) (t : Nat) (hw : K.P s) : K.P (State.tileFinal s t) := by
  unfold State.tileFinal
  try dsimp only
  repeat' first | (with_reducible first | assumption | apply State.markStops_kept | apply State.setTileRun_kept | apply State.tileCut_kept) | with_reducible apply State.lit_kept

theorem State.tileOut_kept [K.Mem] [K.Cores] (s : State) (t cause : Nat) (addr : Word) (hw : K.P s) : K.P (State.tileOut s t cause addr) := by
  unfold State.tileOut
  try dsimp only
  repeat' first | (with_reducible first | assumption | apply ite_kept | apply State.put_kept | apply State.incSat_kept | apply State.setTile_kept | apply State.setTileRun_kept | apply State.pwrForce_kept | apply State.tileHalt_kept | apply State.tileOutLog_kept | apply State.tileFinal_kept) | with_reducible apply State.lit_kept

theorem State.restartDrained_kept [K.Mem] [K.Cores] (s : State) (t : Nat) (hw : K.P s) : K.P (State.restartDrained s t) := by
  unfold State.restartDrained
  try dsimp only
  repeat' first | (with_reducible first | assumption | apply ite_kept | apply State.markStops_kept | apply State.setTileRun_kept | apply State.tileDrop_kept | apply State.tileFinal_kept) | with_reducible apply State.lit_kept

theorem State.tileNoSection_kept [K.Mem] [K.Cores] (s : State) (t : Nat) (hw : K.P s) : K.P (State.tileNoSection s t) := by
  unfold State.tileNoSection
  try dsimp only
  repeat' with_reducible first | assumption | apply State.setTile_kept | apply State.pwrForce_kept | apply State.tileHalt_kept | apply State.tileOutLog_kept | apply State.tileFinal_kept

theorem State.coAbandon_kept (s : State) (hw : K.P s) : K.P (State.coAbandon s) := by
  unfold State.coAbandon
  try dsimp only
  repeat' first | (with_reducible first | assumption | apply ite_kept | apply State.put_kept | apply State.setCond_kept) | with_reducible apply State.lit_kept

theorem State.holdStops_kept [K.Mem] [K.Cores] (s : State) (hw : K.P s) : K.P (State.holdStops s) := by
  unfold State.holdStops
  try dsimp only
  repeat' first | (with_reducible first | assumption | apply State.tileHalt_kept | (apply foldl_kept; intro _ _ _)) | dsimp only

theorem State.holdTiles_kept [K.Mem] [K.Cores] (s : State) (hw : K.P s) : K.P (State.holdTiles s) := by
  unfold State.holdTiles
  try dsimp only
  repeat' first | (with_reducible first | assumption | apply State.setTileRun_kept | apply State.tileCut_kept | (apply foldl_kept; intro _ _ _)) | with_reducible apply State.lit_kept | dsimp only

theorem State.holdFirst_kept (s : State) (event : Nat) (hw : K.P s) : K.P (State.holdFirst s event) := by
  unfold State.holdFirst
  try dsimp only
  repeat' with_reducible first | assumption | apply ite_kept | apply State.flushAs_kept | apply State.pwrForce_kept

theorem State.faultHold_kept [K.Mem] [K.Cores] (s : State) (cause : Nat) (detail : Word) (event : Nat) (hw : K.P s) :
    K.P (State.faultHold s cause detail event) := by
  unfold State.faultHold
  try dsimp only
  repeat' first | (with_reducible first | assumption | apply ite_kept | apply State.put_kept | apply State.incSat_kept | apply State.logWrite_kept | apply State.setCond_kept | apply State.setRun_kept | apply State.capsDeliver_kept | apply State.capsStop_kept | apply State.markStops_kept | apply State.keyVcc_kept | apply State.coreStop_kept | apply State.twOff_kept | apply State.pwrForce_kept | apply State.coAbandon_kept | apply State.holdStops_kept | apply State.holdTiles_kept | apply State.holdFirst_kept | (apply foldl_kept; intro _ _ _)) | with_reducible apply State.lit_kept | dsimp only

theorem State.setScrub_kept (s : State) (m : Nat) (x : Scrub) (hw : K.P s) : K.P (State.setScrub s m x) := by
  unfold State.setScrub
  try dsimp only
  repeat' first | (with_reducible first | assumption) | with_reducible apply State.lit_kept | dsimp only

theorem State.logLose_kept (s : State) (slot : Nat) (hw : K.P s) : K.P (State.logLose s slot) := by
  unfold State.logLose
  try dsimp only
  repeat' first | (with_reducible first | assumption | apply ite_kept | apply State.put_kept | apply State.incSat_kept) | split | with_reducible apply State.lit_kept | dsimp only

theorem State.memUe_kept [K.Mem] [K.Cores] (s : State) (m i bad : Nat) (hw : K.P s) : K.P (State.memUe s m i bad) := by
  unfold State.memUe
  try dsimp only
  repeat' first | (with_reducible first | assumption | apply ite_kept | apply State.wr_kept | apply State.put_kept | apply State.incSat_kept | apply State.putPair_kept | apply State.qReset_kept | apply State.logWrite_kept | apply State.setLineErr_kept | apply State.raiseMem_kept | apply State.tileOut_kept | apply State.holdFirst_kept | apply State.faultHold_kept | apply State.logLose_kept | (apply foldl_kept; intro _ _ _)) | split | with_reducible apply State.lit_kept | dsimp only

theorem State.raiseCorrected_kept (n : Nat) : ∀ (s : State), K.P s → K.P (s.raiseCorrected n) := by
  induction n with
  | zero => intro s hw; exact hw
  | succ n ih => intro s hw; exact ih _ (State.raiseMem_kept _ _ hw)

theorem State.memCorrect_kept (s : State) (m n : Nat) (hw : K.P s) : K.P (State.memCorrect s m n) := by
  unfold State.memCorrect
  try dsimp only
  repeat' first | (with_reducible first | assumption | apply ite_kept | apply State.incSat_kept | apply State.raiseMem_kept | apply State.setScrub_kept | apply State.raiseCorrected_kept) | with_reducible apply State.lit_kept

theorem State.memRebuild_kept (s : State) (m : Nat) (hw : K.P s) : K.P (State.memRebuild s m) := by
  unfold State.memRebuild
  try dsimp only
  repeat' with_reducible first | assumption | apply State.incSat_kept | apply State.raiseMem_kept

theorem State.lineRead_kept [K.Mem] [K.Cores] (s : State) (m i : Nat) (u : LineUpset) (hw : K.P s) : K.P (State.lineRead s m i u) := by
  unfold State.lineRead
  try dsimp only
  repeat' first | (with_reducible first | assumption | apply ite_kept | apply State.setLineErr_kept | apply State.memUe_kept | apply State.memCorrect_kept | apply State.memRebuild_kept | (apply foldl_kept; intro _ _ _)) | with_reducible apply State.lit_kept | dsimp only

theorem State.wordRead_kept [K.Mem] [K.Cores] (s : State) (m i w : Nat) (hw : K.P s) : K.P (State.wordRead s m i w) := by
  unfold State.wordRead
  try dsimp only
  repeat' first | (with_reducible first | assumption | apply ite_kept | apply State.setLineErr_kept | apply State.memUe_kept | apply State.memCorrect_kept | apply State.memRebuild_kept | (apply foldl_kept; intro _ _ _)) | with_reducible apply State.lit_kept | dsimp only

theorem State.wordReadAt_kept [K.Mem] [K.Cores] (s : State) (a : Nat) (hw : K.P s) : K.P (State.wordReadAt s a) := by
  unfold State.wordReadAt
  try dsimp only
  repeat' with_reducible first | assumption | apply State.wordRead_kept

theorem State.ramTouch_kept [K.Mem] [K.Cores] (s : State) (m o n : Nat) (hw : K.P s) : K.P (State.ramTouch s m o n) := by
  unfold State.ramTouch
  try dsimp only
  repeat' first | (with_reducible first | assumption | apply ite_kept | apply State.wordRead_kept | (apply foldl_kept; intro _ _ _) | (apply foldl_fst_kept; intro _ _ _)) | split | dsimp only

theorem State.memTouch_kept [K.Mem] [K.Cores] (s : State) (a n : Nat) (hw : K.P s) : K.P (State.memTouch s a n) := by
  unfold State.memTouch
  try dsimp only
  repeat' with_reducible first | assumption | apply State.ramTouch_kept

theorem State.lineUpset_kept (s : State) (m i : Nat) (u : LineUpset) (hw : K.P s) : K.P (State.lineUpset s m i u) := by
  unfold State.lineUpset
  try dsimp only
  repeat' with_reducible first | assumption | apply ite_kept | apply State.setLineErr_kept

/-- An uncorrectable line of queue RAM, hub memory or the log moves no core and writes no memory (R285). -/
theorem State.memUe_kept_ram (s : State) (m i bad : Nat) (h : 8 ≤ m) (h' : m < 18) (hw : K.P s) : K.P (State.memUe s m i bad) := by
  unfold State.memUe
  dsimp only
  rw [if_neg (show ¬ m < 8 by omega)]
  by_cases h16 : m < 16
  · rw [if_pos h16]
    repeat' first | (with_reducible first | assumption | apply ite_kept | apply State.wr_kept | apply State.put_kept | apply State.incSat_kept | apply State.putPair_kept | apply State.qReset_kept | apply State.logWrite_kept | apply State.setLineErr_kept | apply State.raiseMem_kept | apply State.holdFirst_kept | apply State.logLose_kept | (apply foldl_kept; intro _ _ _)) | split | dsimp only
  · rw [if_neg h16]
    by_cases e : m = 16
    · rw [if_pos e]
      repeat' first | (with_reducible first | assumption | apply ite_kept | apply State.wr_kept | apply State.put_kept | apply State.incSat_kept | apply State.putPair_kept | apply State.qReset_kept | apply State.logWrite_kept | apply State.setLineErr_kept | apply State.raiseMem_kept | apply State.holdFirst_kept | apply State.logLose_kept | (apply foldl_kept; intro _ _ _)) | split | dsimp only
    · rw [if_neg e, if_pos (show m = 17 by omega)]
      repeat' first | (with_reducible first | assumption | apply ite_kept | apply State.wr_kept | apply State.put_kept | apply State.incSat_kept | apply State.putPair_kept | apply State.qReset_kept | apply State.logWrite_kept | apply State.setLineErr_kept | apply State.raiseMem_kept | apply State.holdFirst_kept | apply State.logLose_kept | (apply foldl_kept; intro _ _ _)) | split | dsimp only

theorem State.ramTouch_kept_ram (s : State) (m o n : Nat) (h : 8 ≤ m) (h' : m < 18) (hw : K.P s) : K.P (State.ramTouch s m o n) := by
  unfold State.ramTouch
  refine foldl_kept _ (fun s l hs => foldl_kept _ (fun s w hs => ?_) _ _ hs) _ _ hw
  dsimp only
  refine ite_kept ?_ hs
  unfold State.wordRead
  dsimp only
  repeat' with_reducible first | assumption | apply ite_kept | apply State.setLineErr_kept | apply State.memUe_kept_ram | apply State.memCorrect_kept | apply State.memRebuild_kept

theorem State.qStore_ram (s : State) (q : Nat) : 8 ≤ (s.qStore q).1 ∧ (s.qStore q).1 < 18 := by
  unfold State.qStore
  split
  · dsimp only; omega
  · dsimp only; omega

theorem State.qTouch_kept (s : State) (q id : Nat) (hw : K.P s) : K.P (State.qTouch s q id) := by
  have h := s.qStore_ram q
  unfold State.qTouch
  dsimp only
  split
  · exact hw
  · refine ite_kept hw (State.ramTouch_kept_ram _ _ _ _ ?_ ?_ (State.ramTouch_kept_ram _ _ _ _ h.1 h.2 hw)) <;> first | exact (State.qStore_ram _ q).1 | exact (State.qStore_ram _ q).2

theorem State.logTouch_kept (s : State) (i : Nat) (hw : K.P s) : K.P (State.logTouch s i) := by
  unfold State.logTouch
  exact ite_kept (State.ramTouch_kept_ram _ _ _ _ (by decide) (by decide) hw) hw

theorem State.scrubNext_kept (s : State) (m : Nat) (hw : K.P s) : K.P (State.scrubNext s m) := by
  unfold State.scrubNext
  try dsimp only
  repeat' first | (with_reducible first | assumption | apply ite_kept | apply State.incWrap_kept | apply State.setScrub_kept) | with_reducible apply State.lit_kept

theorem State.loadWord_kept (s : State) (c : Nat × Word) (hw : K.P s) : K.P (State.loadWord s c) := by
  unfold State.loadWord
  try dsimp only
  repeat' first | (with_reducible first | assumption | apply ite_kept | apply State.wr_kept | apply State.envSet_kept) | split | dsimp only

theorem State.hubRegs_kept (s : State) (img : List Byte) (hw : K.P s) : K.P (State.hubRegs s img) := by
  unfold State.hubRegs
  try dsimp only
  repeat' first | (with_reducible first | assumption | apply ite_kept | apply State.lkReset_kept | apply State.put_kept | apply State.loadWord_kept | (apply foldl_kept; intro _ _ _) | (apply foldl_fst_kept; intro _ _ _)) | split | dsimp only

theorem State.tileRegs_kept (s : State) (img : List Byte) (t : Nat) (hw : K.P s) : K.P (State.tileRegs s img t) := by
  unfold State.tileRegs
  try dsimp only
  repeat' first | (with_reducible first | assumption | apply State.lkReset_kept | apply State.showFilter_kept | apply State.loadWord_kept | (apply foldl_kept; intro _ _ _) | (apply foldl_fst_kept; intro _ _ _)) | with_reducible apply State.lit_kept | dsimp only

theorem State.hubPlace_kept [K.Mem] (s : State) (img : List Byte) (hw : K.P s) : K.P (State.hubPlace s img) := by
  unfold State.hubPlace
  try dsimp only
  repeat' first | (with_reducible first | assumption | apply State.store_kept | (apply foldl_kept; intro _ _ _)) | dsimp only

theorem State.tileFill_kept [K.Mem] (s : State) (img : List Byte) (t : Nat) (hw : K.P s) : K.P (State.tileFill s img t) := by
  unfold State.tileFill
  try dsimp only
  repeat' first | (with_reducible first | assumption | apply ite_kept | apply State.setBytes_kept | apply State.memCut_kept | apply State.setAnchor_kept | (apply foldl_kept; intro _ _ _) | (apply foldl_fst_kept; intro _ _ _)) | split | with_reducible apply State.lit_kept | dsimp only

theorem State.storeTouch_kept [K.Mem] [K.Cores] (s : State) (a n : Nat) (hw : K.P s) : K.P (State.storeTouch s a n) := by
  unfold State.storeTouch
  try dsimp only
  repeat' with_reducible first | assumption | apply ite_kept | apply State.raiseMem_kept | apply State.memTouch_kept

theorem State.runningTouch_kept [K.Mem] [K.Cores] (s : State) (hw : K.P s) : K.P (State.runningTouch s) := by
  unfold State.runningTouch
  try dsimp only
  repeat' with_reducible first | assumption | apply State.storeTouch_kept

theorem State.stagedTouch_kept [K.Mem] [K.Cores] (s : State) (hw : K.P s) : K.P (State.stagedTouch s) := by
  unfold State.stagedTouch
  try dsimp only
  repeat' first | (with_reducible first | assumption | apply State.storeTouch_kept) | split | with_reducible apply State.lit_kept | dsimp only

theorem State.storeRead_kept [K.Mem] [K.Cores] (s : State) (base : Nat) (img : List Byte) (t : Nat) (hw : K.P s) :
    K.P (State.storeRead s base img t) := by
  unfold State.storeRead
  try dsimp only
  repeat' first | (with_reducible first | assumption | apply ite_kept | apply State.raiseMem_kept | apply State.memTouch_kept | (apply foldl_kept; intro _ _ _) | (apply foldl_fst_kept; intro _ _ _)) | split | dsimp only

theorem State.imageShow_kept (s : State) (img : List Byte) (hw : K.P s) : K.P (State.imageShow s img) := by
  unfold State.imageShow
  try dsimp only
  repeat' first | (with_reducible first | assumption | apply State.wr_kept | apply State.put_kept | apply State.putB_kept | (apply foldl_kept; intro _ _ _)) | dsimp only

theorem State.loadDone_kept (s : State) (hw : K.P s) : K.P (State.loadDone s) := by
  unfold State.loadDone
  try dsimp only
  repeat' with_reducible first | assumption | apply State.put_kept | apply State.incSat_kept | apply State.putPair_kept

theorem State.keepShow_kept (s : State) (img : List Byte) (hw : K.P s) : K.P (State.keepShow s img) := by
  unfold State.keepShow
  try dsimp only
  repeat' first | (with_reducible first | assumption | apply State.put_kept | (apply foldl_kept; intro _ _ _)) | dsimp only

theorem State.tileStart_kept [K.Cores] (s : State) (t : Nat) (hw : K.P s) : K.P (State.tileStart s t) := by
  unfold State.tileStart
  try dsimp only
  repeat' first | (with_reducible first | assumption | apply ite_kept | apply State.put_kept | apply State.churnStart_kept | apply State.timersStart_kept | apply State.cellConfigure_kept | apply State.setDom_kept | apply State.coreStart_kept | apply State.tileUp_kept | (apply foldl_kept; intro _ _ _)) | with_reducible apply State.lit_kept | dsimp only

theorem State.vatStart_kept [K.Cores] (s : State) (img : List Byte) (hw : K.P s) : K.P (State.vatStart s img) := by
  unfold State.vatStart
  try dsimp only
  repeat' first | (with_reducible first | assumption | apply State.coreStart_kept) | dsimp only

theorem State.twStart_kept (s : State) (p : Nat) (hw : K.P s) : K.P (State.twStart s p) := by
  unfold State.twStart
  try dsimp only
  repeat' first | (with_reducible first | assumption | apply ite_kept | apply State.put_kept | apply State.twRail_kept) | with_reducible apply State.lit_kept | dsimp only

theorem State.storeMoved_kept (s : State) (hw : K.P s) : K.P (State.storeMoved s) := by
  unfold State.storeMoved
  try dsimp only
  repeat' first | (with_reducible first | assumption | apply State.takeSeq_kept | apply State.logWrite_kept | apply State.setHost_kept | apply State.setFill_kept | apply State.areaEnter_kept | apply State.setSession_kept | apply State.showOutstanding_kept | apply State.showCum_kept | (apply foldl_kept; intro _ _ _)) | with_reducible apply State.lit_kept | dsimp only

theorem State.subsChanged_kept (old s : State) (hw : K.P s) : K.P (State.subsChanged old s) := by
  unfold State.subsChanged
  try dsimp only
  repeat' first | (with_reducible first | assumption | apply ite_kept | apply State.put_kept | apply State.setSrc_kept | apply State.sourceGone_kept | apply State.watchNote_kept | (apply foldl_kept; intro _ _ _)) | dsimp only

theorem State.hubChanged_kept (old s : State) (hw : K.P s) : K.P (State.hubChanged old s) := by
  unfold State.hubChanged
  try dsimp only
  repeat' first | (with_reducible first | assumption | apply ite_kept | apply State.twOff_kept | apply State.twStart_kept | apply State.storeMoved_kept | apply State.subsChanged_kept | (apply foldl_kept; intro _ _ _)) | dsimp only

theorem State.setCo_kept (s : State) (c : CoSt) (hw : K.P s) : K.P (State.setCo s c) := by
  unfold State.setCo
  try dsimp only
  repeat' first | (with_reducible first | assumption) | with_reducible apply State.lit_kept

theorem State.setKey_kept (s : State) (k : KeySt) (hw : K.P s) : K.P (State.setKey s k) := by
  unfold State.setKey
  try dsimp only
  repeat' first | (with_reducible first | assumption) | with_reducible apply State.lit_kept

theorem State.coAsk_kept (s : State) (hw : K.P s) : K.P (State.coAsk s) := by
  unfold State.coAsk
  try dsimp only
  repeat' first | (with_reducible first | assumption | apply ite_kept | apply State.setCo_kept) | with_reducible apply State.lit_kept

theorem State.reloadAsk_kept (s : State) (hw : K.P s) : K.P (State.reloadAsk s) := by
  unfold State.reloadAsk
  try dsimp only
  repeat' first | (with_reducible first | assumption | apply ite_kept | apply State.setCo_kept) | with_reducible apply State.lit_kept

theorem State.tileUnused_kept [K.Mem] [K.Cores] (s : State) (t : Nat) (hw : K.P s) : K.P (State.tileUnused s t) := by
  unfold State.tileUnused
  try dsimp only
  repeat' with_reducible first | assumption | apply ite_kept | apply State.setTile_kept | apply State.afeLower_kept | apply State.tileLower_kept | apply State.setTileRun_kept

theorem State.tileTake_kept [K.Mem] [K.Cores] (s : State) (img : List Byte) (t : Nat) (hw : K.P s) : K.P (State.tileTake s img t) := by
  unfold State.tileTake
  try dsimp only
  repeat' with_reducible first | assumption | apply ite_kept | apply State.setTile_kept | apply State.setDom_kept | apply State.tileUp_kept | apply State.tileForceOff_kept | apply State.setTileRun_kept | apply State.tileOutLog_kept | apply State.tileRegs_kept | apply State.tileFill_kept

theorem State.reqShow_kept (s : State) (hw : K.P s) : K.P (State.reqShow s) := by
  unfold State.reqShow
  try dsimp only
  repeat' with_reducible first | assumption | apply State.put_kept

theorem State.imageApply_kept [K.Mem] [K.Cores] (s : State) (img : List Byte) (hw : K.P s) : K.P (State.imageApply s img) := by
  unfold State.imageApply
  try dsimp only
  repeat' first | (with_reducible first | assumption | apply ite_kept | apply State.logLeave_kept | apply State.freshStreams_kept | apply State.hubRegs_kept | apply State.hubPlace_kept | apply State.imageShow_kept | apply State.loadDone_kept | apply State.keepShow_kept | apply State.hubChanged_kept | apply State.tileUnused_kept | apply State.tileTake_kept | apply State.reqShow_kept | (apply foldl_kept; intro _ _ _)) | with_reducible apply State.lit_kept | dsimp only

theorem State.laneDrop_kept (s : State) (n : Nat) (hw : K.P s) : K.P (State.laneDrop s n) := by
  unfold State.laneDrop
  try dsimp only
  repeat' first | (with_reducible first | assumption | apply State.setLane_kept) | with_reducible apply State.lit_kept | dsimp only

theorem State.coresStart_kept [K.Cores] (s : State) (img : List Byte) (hw : K.P s) : K.P (State.coresStart s img) := by
  unfold State.coresStart
  try dsimp only
  repeat' first | (with_reducible first | assumption | apply ite_kept | apply State.laneStart_kept | apply State.capsStart_kept | apply State.tileStart_kept | apply State.vatStart_kept | apply State.laneDrop_kept | (apply foldl_kept; intro _ _ _)) | dsimp only

theorem State.lanesHold_kept (s : State) (hw : K.P s) : K.P (State.lanesHold s) := by
  unfold State.lanesHold
  try dsimp only
  repeat' first | (with_reducible first | assumption | apply ite_kept | apply State.laneHold_kept | (apply foldl_kept; intro _ _ _)) | dsimp only

theorem State.bankSwap_kept (s : State) (hw : K.P s) : K.P (State.bankSwap s) := by
  unfold State.bankSwap
  try dsimp only
  repeat' first | (with_reducible first | assumption | apply State.wr_kept | apply State.put_kept | apply State.setKey_kept) | with_reducible apply State.lit_kept

theorem State.reloadStart_kept [K.Mem] [K.Cores] (s : State) (hw : K.P s) : K.P (State.reloadStart s) := by
  unfold State.reloadStart
  try dsimp only
  repeat' first | (with_reducible first | assumption | apply ite_kept | apply State.put_kept | apply State.flushActs_kept | apply State.setCond_kept | apply State.setRun_kept | apply State.capsStop_kept | apply State.coreStop_kept | apply State.afeLower_kept | apply State.setTileRun_kept | apply State.pwrForce_kept | apply State.tileHalt_kept | apply State.stagedTouch_kept | apply State.setCo_kept | (apply foldl_kept; intro _ _ _)) | dsimp only

theorem State.reloadDrained_kept [K.Mem] [K.Cores] (s : State) (hw : K.P s) : K.P (State.reloadDrained s) := by
  unfold State.reloadDrained
  try dsimp only
  repeat' first | (with_reducible first | assumption | apply ite_kept | apply State.markGen_kept | apply State.tileCut_kept | apply State.setCo_kept | (apply foldl_kept; intro _ _ _)) | with_reducible apply State.lit_kept | dsimp only

theorem State.reloadApply_kept [K.Mem] [K.Cores] (s : State) (hw : K.P s) : K.P (State.reloadApply s) := by
  unfold State.reloadApply
  try dsimp only
  repeat' first | (with_reducible first | assumption | apply State.setCo_kept | apply State.imageApply_kept | apply State.bankSwap_kept) | with_reducible apply State.lit_kept

theorem State.coAccept_kept [K.Mem] [K.Cores] (s : State) (hw : K.P s) : K.P (State.coAccept s) := by
  unfold State.coAccept
  try dsimp only
  repeat' first | (with_reducible first | assumption | apply State.put_kept | apply State.setCond_kept | apply State.coreStop_kept | apply State.runningTouch_kept | apply State.stagedTouch_kept | apply State.setCo_kept | (apply foldl_kept; intro _ _ _)) | dsimp only

theorem State.coEnd_kept (s : State) (hw : K.P s) : K.P (State.coEnd s) := by
  unfold State.coEnd
  try dsimp only
  repeat' with_reducible first | assumption | apply State.put_kept | apply State.incSat_kept | apply State.putPair_kept | apply State.raise_kept | apply State.setCond_kept | apply State.imageShow_kept | apply State.setCo_kept | apply State.reqShow_kept | apply State.bankSwap_kept

theorem State.coCheck_kept (s : State) (hw : K.P s) : K.P (State.coCheck s) := by
  unfold State.coCheck
  try dsimp only
  repeat' with_reducible first | assumption | apply ite_kept | apply State.coEnd_kept

theorem State.unitsStop_kept (s new : State) (hw : K.P s) : K.P (State.unitsStop s new) := by
  unfold State.unitsStop
  try dsimp only
  repeat' first | (with_reducible first | assumption | apply ite_kept | apply State.capStop_kept | (apply foldl_kept; intro _ _ _)) | dsimp only

theorem State.hubRestarts_kept (old s : State) (hw : K.P s) : K.P (State.hubRestarts old s) := by
  unfold State.hubRestarts
  try dsimp only
  repeat' first | (with_reducible first | assumption | apply ite_kept | apply State.laneStart_kept | apply State.inputStart_kept | apply State.encStart_kept | apply State.laneDrop_kept | (apply foldl_kept; intro _ _ _)) | dsimp only

theorem State.queuesMoved_kept (s : State) (hw : K.P s) : K.P (State.queuesMoved s).1 := by
  unfold State.queuesMoved
  try dsimp only
  repeat' first | (with_reducible first | assumption | apply State.dumpQueue_kept | (apply foldl_kept; intro _ _ _) | (apply foldl_fst_kept; intro _ _ _)) | (apply fst_kept (by assumption)) | split | dsimp only

theorem State.hubSwitch_kept [K.Mem] [K.Cores] (s : State) (hw : K.P s) : K.P (State.hubSwitch s) := by
  unfold State.hubSwitch
  try dsimp only
  repeat' first | (with_reducible first | assumption | apply State.put_kept | apply State.qCommit_kept | apply State.markGen_kept | apply State.freshStreams_kept | apply State.hubRegs_kept | apply State.hubPlace_kept | apply State.keepShow_kept | apply State.vatStart_kept | apply State.hubChanged_kept | apply State.setCo_kept | apply State.coCheck_kept | apply State.unitsStop_kept | apply State.hubRestarts_kept | apply State.queuesMoved_kept | (apply foldl_kept; intro _ _ _) | (apply foldl_fst_kept; intro _ _ _)) | (apply fst_kept (by assumption)) | split | with_reducible apply State.lit_kept | dsimp only

theorem State.tileTurn_kept [K.Mem] [K.Cores] (s : State) (t : Nat) (hw : K.P s) : K.P (State.tileTurn s t) := by
  unfold State.tileTurn
  try dsimp only
  repeat' with_reducible first | assumption | apply ite_kept | apply State.put_kept | apply State.setTile_kept | apply State.setDom_kept | apply State.tileUp_kept | apply State.setTileRun_kept | apply State.tileHalt_kept

theorem State.tileTurnDrained_kept [K.Mem] (s : State) (t : Nat) (hw : K.P s) : K.P (State.tileTurnDrained s t) := by
  unfold State.tileTurnDrained
  try dsimp only
  repeat' first | (with_reducible first | assumption | apply ite_kept | apply State.markGen_kept | apply State.freshStreams_kept | apply State.setTileRun_kept | apply State.tileDrop_kept) | with_reducible apply State.lit_kept

theorem State.tileTurnEnd_kept (s : State) (t : Nat) (hw : K.P s) : K.P (State.tileTurnEnd s t) := by
  unfold State.tileTurnEnd
  try dsimp only
  repeat' first | (with_reducible first | assumption | apply ite_kept | apply State.put_kept | apply State.setBit_kept | apply State.clearBit_kept | apply State.setTileRun_kept | apply State.coCheck_kept) | with_reducible apply State.lit_kept

theorem State.tileTurnTake_kept [K.Mem] (s : State) (img : List Byte) (t : Nat) (hw : K.P s) : K.P (State.tileTurnTake s img t) := by
  unfold State.tileTurnTake
  try dsimp only
  repeat' first | (with_reducible first | assumption | apply State.setDom_kept | apply State.tileUp_kept | apply State.setTileRun_kept | apply State.tileRegs_kept | apply State.tileFill_kept) | with_reducible apply State.lit_kept

theorem State.restartTake_kept [K.Mem] (s : State) (img : List Byte) (t : Nat) (hw : K.P s) : K.P (State.restartTake s img t) := by
  unfold State.restartTake
  try dsimp only
  repeat' first | (with_reducible first | assumption | apply State.setTileRun_kept | apply State.tileRegs_kept | apply State.tileFill_kept) | with_reducible apply State.lit_kept

theorem State.keyRest_kept (s : State) (st : Nat) (hw : K.P s) : K.P (State.keyRest s st) := by
  unfold State.keyRest
  try dsimp only
  repeat' first | (with_reducible first | assumption | apply State.put_kept | apply State.keyVcc_kept | apply State.setKey_kept) | with_reducible apply State.lit_kept

theorem State.tileLost_kept [K.Mem] [K.Cores] (s : State) (t : Nat) (hw : K.P s) : K.P (State.tileLost s t) := by
  unfold State.tileLost
  try dsimp only
  repeat' first | (with_reducible first | assumption | apply ite_kept | apply State.setTileRun_kept | apply State.tileNoSection_kept) | with_reducible apply State.lit_kept

theorem State.tileUnread_kept [K.Mem] [K.Cores] (s : State) (t : Option Nat) (hw : K.P s) : K.P (State.tileUnread s t) := by
  unfold State.tileUnread
  try dsimp only
  repeat' first | (with_reducible first | assumption | apply State.tileLost_kept) | split | with_reducible apply State.lit_kept | dsimp only

theorem State.keyRefuseTo_kept [K.Mem] [K.Cores] (s : State) (r : Refuse) (st : Nat) (hw : K.P s) : K.P (State.keyRefuseTo s r st) := by
  unfold State.keyRefuseTo
  try dsimp only
  repeat' first | (with_reducible first | assumption | apply ite_kept | apply State.wr_kept | apply State.put_kept | apply State.putB_kept | apply State.incSat_kept | apply State.raise_kept | apply State.logWrite_kept | apply State.setKey_kept | apply State.keyRest_kept | apply State.tileUnread_kept) | split | with_reducible apply State.lit_kept

theorem State.keyRefuse_kept [K.Mem] [K.Cores] (s : State) (r : Refuse) (hw : K.P s) : K.P (State.keyRefuse s r) := by
  unfold State.keyRefuse
  try dsimp only
  repeat' with_reducible first | assumption | apply ite_kept | apply State.keyRefuseTo_kept

theorem State.keyStart_kept [K.Mem] [K.Cores] (s : State) (staging : Bool) (want : Nat) (tile : Option Nat) (sects : List Nat) (hw : K.P s) :
    K.P (State.keyStart s staging want tile sects) := by
  unfold State.keyStart
  try dsimp only
  repeat' first | (with_reducible first | assumption | apply ite_kept | apply State.put_kept | apply State.keyVcc_kept | apply State.keyRaise_kept | apply State.setKey_kept | apply State.keyRefuse_kept) | with_reducible apply State.lit_kept

theorem State.keyBegin_kept [K.Mem] [K.Cores] (s : State) (staging : Bool) (want : Nat) (hw : K.P s) : K.P (State.keyBegin s staging want) := by
  unfold State.keyBegin
  try dsimp only
  repeat' with_reducible first | assumption | apply State.keyStart_kept

theorem State.keyStage_kept [K.Mem] [K.Cores] (s : State) (want : Nat) (hw : K.P s) : K.P (State.keyStage s want) := by
  unfold State.keyStage
  try dsimp only
  repeat' first | (with_reducible first | assumption | apply ite_kept | apply State.setKey_kept | apply State.keyRefuseTo_kept | apply State.keyBegin_kept) | with_reducible apply State.lit_kept

theorem State.keyWaits_kept [K.Mem] [K.Cores] (s : State) (hw : K.P s) : K.P (State.keyWaits s) := by
  unfold State.keyWaits
  try dsimp only
  repeat' first | (with_reducible first | assumption | apply ite_kept | apply State.setKey_kept | apply State.keyStage_kept) | with_reducible apply State.lit_kept

theorem State.keyRead_kept (s : State) (hw : K.P s) : K.P (State.keyRead s) := by
  unfold State.keyRead
  try dsimp only
  repeat' first | (with_reducible first | assumption | apply ite_kept | apply State.emit_kept | apply State.setKey_kept) | with_reducible apply State.lit_kept | dsimp only

theorem State.keyRetry_kept (s : State) (k : KeySt) (hw : K.P s) : K.P (State.keyRetry s k) := by
  unfold State.keyRetry
  try dsimp only
  repeat' with_reducible first | assumption | apply State.put_kept | apply State.setKey_kept | apply State.keyRead_kept

theorem State.tileSections_kept [K.Mem] (s : State) (img : List Byte) (t : Nat) (hw : K.P s) : K.P (State.tileSections s img t) := by
  unfold State.tileSections
  try dsimp only
  repeat' with_reducible first | assumption | apply ite_kept | apply State.tileTurnTake_kept | apply State.restartTake_kept

theorem State.keyTileEnd_kept [K.Mem] [K.Cores] (s : State) (t : Nat) (hw : K.P s) : K.P (State.keyTileEnd s t) := by
  unfold State.keyTileEnd
  try dsimp only
  repeat' first | (with_reducible first | assumption | apply ite_kept | apply State.put_kept | apply State.raise_kept | apply State.store_kept | apply State.keyRest_kept | apply State.tileLost_kept | apply State.tileSections_kept | (apply foldl_kept; intro _ _ _) | (apply foldl_fst_kept; intro _ _ _)) | (apply fst_kept (by assumption)) | split | dsimp only

theorem State.keyReadAll_kept [K.Mem] [K.Cores] (s : State) (hw : K.P s) : K.P (State.keyReadAll s) := by
  unfold State.keyReadAll
  try dsimp only
  repeat' first | (with_reducible first | assumption | apply ite_kept | apply State.put_kept | apply State.setKey_kept | apply State.keyRefuse_kept | apply State.keyRetry_kept | apply State.keyTileEnd_kept) | split | with_reducible apply State.lit_kept | dsimp only

theorem State.keyBlock_kept [K.Mem] [K.Cores] (s : State) (bytes : List Byte) (hw : K.P s) : K.P (State.keyBlock s bytes) := by
  unfold State.keyBlock
  try dsimp only
  repeat' first | (with_reducible first | assumption | apply ite_kept | apply State.setKey_kept | apply State.keyRefuse_kept | apply State.keyRead_kept | apply State.keyRetry_kept | apply State.keyReadAll_kept) | split | with_reducible apply State.lit_kept | dsimp only

theorem State.keyFail_kept [K.Mem] [K.Cores] (s : State) (got : List Byte) (hw : K.P s) : K.P (State.keyFail s got) := by
  unfold State.keyFail
  try dsimp only
  repeat' first | (with_reducible first | assumption | apply ite_kept | apply State.keyRefuse_kept | apply State.keyRetry_kept) | with_reducible apply State.lit_kept

theorem State.keyForTile_kept [K.Mem] [K.Cores] (s : State) (t : Nat) (l : List Nat) (hw : K.P s) : K.P (State.keyForTile s t l) := by
  unfold State.keyForTile
  try dsimp only
  repeat' first | (with_reducible first | assumption | apply ite_kept | apply State.setKey_kept | apply State.tileLost_kept | apply State.keyRefuseTo_kept | apply State.keyStart_kept) | with_reducible apply State.lit_kept

theorem State.tileApply_kept [K.Mem] [K.Cores] (s : State) (t : Nat) (hw : K.P s) : K.P (State.tileApply s t) := by
  unfold State.tileApply
  try dsimp only
  repeat' first | (with_reducible first | assumption | apply ite_kept | apply State.storeRead_kept | apply State.tileLost_kept | apply State.tileSections_kept | apply State.keyForTile_kept) | split

theorem State.tileTurnApply_kept [K.Mem] [K.Cores] (s : State) (t : Nat) (hw : K.P s) : K.P (State.tileTurnApply s t) := by
  unfold State.tileTurnApply
  try dsimp only
  repeat' with_reducible first | assumption | apply ite_kept | apply State.tileUnused_kept | apply State.tileTurnEnd_kept | apply State.tileApply_kept

theorem State.keyCycle_kept (s : State) (auto : Bool) (hw : K.P s) : K.P (State.keyCycle s auto) := by
  unfold State.keyCycle
  try dsimp only
  repeat' first | (with_reducible first | assumption | apply ite_kept | apply State.put_kept | apply State.incSat_kept | apply State.keyVcc_kept | apply State.setKey_kept) | with_reducible apply State.lit_kept

theorem State.keyTwLog_kept (s : State) (what cause : Nat) (hw : K.P s) : K.P (State.keyTwLog s what cause) := by
  unfold State.keyTwLog
  try dsimp only
  repeat' with_reducible first | assumption | apply State.raise_kept | apply State.logWrite_kept

theorem State.keyHungEnd_kept [K.Mem] [K.Cores] (s : State) (hw : K.P s) : K.P (State.keyHungEnd s) := by
  unfold State.keyHungEnd
  try dsimp only
  repeat' first | (with_reducible first | assumption | apply ite_kept | apply State.put_kept | apply State.setKey_kept | apply State.keyRefuseTo_kept) | with_reducible apply State.lit_kept

theorem State.keyLines_kept (s : State) (cause : Nat) (hw : K.P s) : K.P (State.keyLines s cause) := by
  unfold State.keyLines
  try dsimp only
  repeat' with_reducible first | assumption | apply ite_kept | apply State.put_kept

theorem State.keyHang_kept [K.Mem] [K.Cores] (s : State) (cause : Nat) (got : List Byte) (hw : K.P s) : K.P (State.keyHang s cause got) := by
  unfold State.keyHang
  try dsimp only
  repeat' first | (with_reducible first | assumption | apply ite_kept | apply State.put_kept | apply State.incSat_kept | apply State.keyVcc_kept | apply State.setKey_kept | apply State.keyCycle_kept | apply State.keyTwLog_kept | apply State.keyHungEnd_kept | apply State.keyLines_kept) | with_reducible apply State.lit_kept

theorem State.keySample_kept [K.Mem] [K.Cores] (s : State) (scl sda : Bool) (hw : K.P s) : K.P (State.keySample s scl sda) := by
  unfold State.keySample
  try dsimp only
  repeat' first | (with_reducible first | assumption | apply ite_kept | apply State.put_kept | apply State.putB_kept | apply State.setKey_kept | apply State.keyRefuse_kept | apply State.keyRetry_kept | apply State.keyCycle_kept | apply State.keyTwLog_kept | apply State.keyHungEnd_kept) | split | with_reducible apply State.lit_kept | dsimp only

theorem State.setTw_kept (s : State) (p : Nat) (x : TwSt) (hw : K.P s) : K.P (State.setTw s p x) := by
  unfold State.setTw
  try dsimp only
  repeat' first | (with_reducible first | assumption) | with_reducible apply State.lit_kept | dsimp only

theorem State.twFill_kept (s : State) (p k : Nat) (l : List Byte) (hw : K.P s) : K.P (State.twFill s p k l) := by
  unfold State.twFill
  try dsimp only
  repeat' first | (with_reducible first | assumption | apply State.put_kept | (apply foldl_kept; intro _ _ _) | (apply foldl_fst_kept; intro _ _ _)) | dsimp only

theorem State.twBytes_kept (s : State) (p x n : Nat) (hw : K.P s) : K.P (State.twBytes s p x n) := by
  unfold State.twBytes
  try dsimp only
  repeat' with_reducible first | assumption | apply ite_kept | apply State.put_kept | apply State.freeNext_kept

theorem State.twResult_kept (s : State) (p x res : Nat) (hw : K.P s) : K.P (State.twResult s p x res) := by
  unfold State.twResult
  try dsimp only
  repeat' with_reducible first | assumption | apply ite_kept | apply State.put_kept | apply State.incSat_kept | apply State.raise_kept

theorem State.twListEnd_kept (s : State) (p : Nat) (hw : K.P s) : K.P (State.twListEnd s p) := by
  unfold State.twListEnd
  try dsimp only
  repeat' with_reducible first | assumption | apply ite_kept | apply State.put_kept | apply State.raise_kept

theorem State.twUnrun_kept (s : State) (p x res : Nat) (hw : K.P s) : K.P (State.twUnrun s p x res) := by
  unfold State.twUnrun
  try dsimp only
  repeat' with_reducible first | assumption | apply State.put_kept | apply State.twResult_kept

theorem State.twRest_kept (s : State) (p x res : Nat) (hw : K.P s) : K.P (State.twRest s p x res) := by
  unfold State.twRest
  try dsimp only
  repeat' first | (with_reducible first | assumption | apply State.twUnrun_kept | (apply foldl_kept; intro _ _ _)) | dsimp only

theorem State.twFrom_kept (p n : Nat) : ∀ (s : State) (x : Nat), K.P s → K.P (s.twFrom p n x) := by
  induction n with
  | zero => intro s x hw; exact State.twListEnd_kept _ _ hw
  | succ n ih =>
    intro s x hw
    unfold State.twFrom
    dsimp only
    repeat' first | (with_reducible first | assumption | apply ite_kept | apply ih | apply State.put_kept | apply State.emit_kept | apply State.twResult_kept | apply State.twListEnd_kept | apply State.twRest_kept) | split | dsimp only

theorem State.twEnd_kept (s : State) (p res n : Nat) (hw : K.P s) : K.P (State.twEnd s p res n) := by
  unfold State.twEnd
  try dsimp only
  repeat' with_reducible first | assumption | apply ite_kept | apply State.incSat_kept | apply State.twBytes_kept | apply State.twResult_kept | apply State.twListEnd_kept | apply State.twRest_kept | apply State.twFrom_kept

theorem State.twAnswer_kept (s : State) (p x res : Nat) (hw : K.P s) : K.P (State.twAnswer s p x res) := by
  unfold State.twAnswer
  try dsimp only
  repeat' with_reducible first | assumption | apply ite_kept | apply State.twListEnd_kept | apply State.twUnrun_kept | apply State.twRest_kept

theorem State.twLog_kept (s : State) (p what : Nat) (hw : K.P s) : K.P (State.twLog s p what) := by
  unfold State.twLog
  try dsimp only
  repeat' with_reducible first | assumption | apply State.raise_kept | apply State.logWrite_kept

theorem State.twCycle_kept (s : State) (p : Nat) (auto : Bool) (hw : K.P s) : K.P (State.twCycle s p auto) := by
  unfold State.twCycle
  try dsimp only
  repeat' with_reducible first | assumption | apply ite_kept | apply State.put_kept | apply State.incSat_kept | apply State.twRail_kept | apply State.setTw_kept

theorem State.twBreak_kept (s : State) (p : Nat) (hw : K.P s) : K.P (State.twBreak s p) := by
  unfold State.twBreak
  try dsimp only
  repeat' with_reducible first | assumption | apply ite_kept | apply State.put_kept | apply State.incSat_kept | apply State.freeNext_kept | apply State.twAnswer_kept

theorem State.twHang_kept (s : State) (p cause : Nat) (hw : K.P s) : K.P (State.twHang s p cause) := by
  unfold State.twHang
  try dsimp only
  repeat' first | (with_reducible first | assumption | apply ite_kept | apply State.put_kept | apply State.incSat_kept | apply State.putPair_kept | apply State.setTw_kept | apply State.twLog_kept | apply State.twCycle_kept | apply State.twBreak_kept) | with_reducible apply State.lit_kept

theorem State.twLines_kept (s : State) (p : Nat) (scl sda : Bool) (hw : K.P s) : K.P (State.twLines s p scl sda) := by
  unfold State.twLines
  try dsimp only
  repeat' with_reducible first | assumption | apply State.putB_kept

theorem State.twGo_kept (s : State) (p : Nat) (hw : K.P s) : K.P (State.twGo s p) := by
  unfold State.twGo
  try dsimp only
  repeat' first | (with_reducible first | assumption | apply ite_kept | apply State.put_kept | apply State.incSat_kept | apply State.twFrom_kept | apply State.twAnswer_kept | (apply foldl_kept; intro _ _ _)) | dsimp only

theorem State.twPowerCycle_kept (s : State) (p : Nat) (hw : K.P s) : K.P (State.twPowerCycle s p) := by
  unfold State.twPowerCycle
  try dsimp only
  repeat' with_reducible first | assumption | apply ite_kept | apply State.put_kept | apply State.twCycle_kept | apply State.twBreak_kept

theorem State.cmdTwCtl_kept (s : State) (w p : Nat) (v : Word) (hw : K.P s) : K.P (State.cmdTwCtl s w p v) := by
  unfold State.cmdTwCtl
  try dsimp only
  repeat' with_reducible first | assumption | apply ite_kept | apply State.put_kept | apply State.twGo_kept | apply State.twPowerCycle_kept

theorem State.cmdChReset_kept (s : State) (w k : Nat) (r : ResetRead) (hw : K.P s) : K.P (State.cmdChReset s w k r) := by
  unfold State.cmdChReset
  try dsimp only
  repeat' with_reducible first | assumption | apply ite_kept | apply State.chanReset_kept

theorem State.setMainsLog_kept (s : State) (t : Nat) (l : List (Nat × Nat)) (hw : K.P s) : K.P (State.setMainsLog s t l) := by
  unfold State.setMainsLog
  try dsimp only
  repeat' first | (with_reducible first | assumption) | with_reducible apply State.lit_kept | dsimp only

theorem State.mainsNote_kept (s : State) (t mHz : Nat) (hw : K.P s) : K.P (State.mainsNote s t mHz) := by
  unfold State.mainsNote
  try dsimp only
  repeat' with_reducible first | assumption | apply State.setMainsLog_kept

theorem State.mainsTrack_kept (s : State) (t : Nat) (hw : K.P s) : K.P (State.mainsTrack s t) := by
  unfold State.mainsTrack
  try dsimp only
  repeat' first | (with_reducible first | assumption | apply ite_kept | apply State.put_kept) | split | with_reducible apply State.lit_kept | dsimp only

theorem State.mainsSample_kept (s : State) (k mHz : Nat) (hw : K.P s) : K.P (State.mainsSample s k mHz) := by
  unfold State.mainsSample
  try dsimp only
  repeat' with_reducible first | assumption | apply ite_kept | apply State.mainsNote_kept | apply State.mainsTrack_kept

theorem State.mainsUse_kept (s : State) (t : Nat) (ch : Bool) (hw : K.P s) : K.P (State.mainsUse s t ch) := by
  unfold State.mainsUse
  try dsimp only
  repeat' with_reducible first | assumption | apply ite_kept | apply State.putB_kept | apply State.setMainsLog_kept

theorem State.mainsSee_kept (s : State) (t mHz : Nat) (hw : K.P s) : K.P (State.mainsSee s t mHz) := by
  unfold State.mainsSee
  try dsimp only
  repeat' with_reducible first | assumption | apply ite_kept | apply State.mainsNote_kept

theorem State.mainsLock_kept (s : State) (t : Nat) (hw : K.P s) : K.P (State.mainsLock s t) := by
  unfold State.mainsLock
  try dsimp only
  repeat' first | (with_reducible first | assumption | apply ite_kept | apply State.put_kept) | split | with_reducible apply State.lit_kept | dsimp only

theorem State.pwrDone_kept (s : State) (hw : K.P s) : K.P (State.pwrDone s) := by
  unfold State.pwrDone
  try dsimp only
  repeat' with_reducible first | assumption | apply ite_kept | apply State.put_kept | apply State.raise_kept | apply State.pwrIdle_kept

theorem State.pwrAsk_kept (s : State) (hw : K.P s) : K.P (State.pwrAsk s) := by
  unfold State.pwrAsk
  try dsimp only
  repeat' first | (with_reducible first | assumption | apply ite_kept | apply State.put_kept | apply State.incSat_kept | apply State.moduleClose_kept | apply State.setPwr_kept | apply State.pwrDone_kept) | split | with_reducible apply State.lit_kept | dsimp only

theorem State.pwrNext_kept (s : State) (hw : K.P s) : K.P (State.pwrNext s) := by
  unfold State.pwrNext
  try dsimp only
  repeat' with_reducible first | assumption | apply ite_kept | apply State.pwrRolled_kept | apply State.pwrDone_kept | apply State.pwrAsk_kept

theorem State.pwrBegin_kept (s : State) (run : Nat) (raising asks : List (Nat × Nat)) (hw : K.P s) : K.P (State.pwrBegin s run raising asks) := by
  unfold State.pwrBegin
  try dsimp only
  repeat' first | (with_reducible first | assumption | apply ite_kept | apply State.put_kept | apply State.railsAsk_kept | apply State.setPwr_kept | apply State.pwrNext_kept | (apply foldl_kept; intro _ _ _) | (apply foldl_fst_kept; intro _ _ _)) | split | with_reducible apply State.lit_kept | dsimp only

theorem State.cmdGo_kept (s : State) (w : Nat) (hw : K.P s) : K.P (State.cmdGo s w) := by
  unfold State.cmdGo
  try dsimp only
  repeat' first | (with_reducible first | assumption | apply ite_kept | apply State.put_kept | apply State.pwrBegin_kept) | dsimp only

theorem State.hubAgreed_kept (s : State) (hw : K.P s) : K.P (State.hubAgreed s) := by
  unfold State.hubAgreed
  try dsimp only
  repeat' with_reducible first | assumption | apply State.flushActs_kept | apply State.capsDeliver_kept

theorem State.noteSpan_kept (s : State) (hw : K.P s) : K.P (State.noteSpan s) := by
  unfold State.noteSpan
  try dsimp only
  repeat' first | (with_reducible first | assumption) | split | with_reducible apply State.lit_kept | dsimp only

theorem State.timeStop_kept (s : State) (hw : K.P s) : K.P (State.timeStop s) := by
  unfold State.timeStop
  try dsimp only
  repeat' first | (with_reducible first | assumption | apply State.put_kept | apply State.putPair_kept) | with_reducible apply State.lit_kept

theorem State.sleepCheck_kept (s : State) (hw : K.P s) : K.P (State.sleepCheck s) := by
  unfold State.sleepCheck
  try dsimp only
  repeat' first | (with_reducible first | assumption | apply ite_kept | apply State.timeStop_kept) | dsimp only

theorem State.timeGo_kept (s : State) (hw : K.P s) : K.P (State.timeGo s) := by
  unfold State.timeGo
  try dsimp only
  repeat' first | (with_reducible first | assumption) | with_reducible apply State.lit_kept

theorem State.pwrStop_kept [K.Mem] [K.Cores] (s : State) (hw : K.P s) : K.P (State.pwrStop s) := by
  unfold State.pwrStop
  try dsimp only
  repeat' first | (with_reducible first | assumption | apply ite_kept | apply State.domLower_kept | apply State.setPwr_kept | apply State.keyWaits_kept | apply State.pwrAsk_kept | apply State.sleepCheck_kept) | split | with_reducible apply State.lit_kept | dsimp only

theorem State.hubWake_kept [K.Mem] [K.Cores] (s : State) (hw : K.P s) : K.P (State.hubWake s) := by
  unfold State.hubWake
  try dsimp only
  repeat' first | (with_reducible first | assumption | apply ite_kept | apply State.setCore_kept | apply State.laneStart_kept | apply State.capsStart_kept | apply State.capsResume_kept | apply State.setDom_kept | apply State.scrubGo_kept | apply State.hubPlace_kept | apply State.runningTouch_kept | apply State.vatStart_kept | apply State.twStart_kept | (apply foldl_kept; intro _ _ _)) | dsimp only

theorem State.rateRestart_kept [K.Mem] (s : State) (k : Nat) (hw : K.P s) : K.P (State.rateRestart s k) := by
  unfold State.rateRestart
  try dsimp only
  repeat' with_reducible first | assumption | apply ite_kept | apply State.chanRestart_kept | apply State.closeSamples_kept | apply State.showFilter_kept | apply State.chainFrom_kept

theorem State.watchEnter_kept (s : State) (hw : K.P s) : K.P (State.watchEnter s) := by
  unfold State.watchEnter
  try dsimp only
  repeat' first | (with_reducible first | assumption | apply ite_kept | apply State.setWatch_kept | apply State.pwrBegin_kept) | with_reducible apply State.lit_kept

theorem State.watchDrop_kept (s : State) (hw : K.P s) : K.P (State.watchDrop s) := by
  unfold State.watchDrop
  try dsimp only
  repeat' first | (with_reducible first | assumption | apply ite_kept | apply State.setPwr_kept | apply State.pwrIdle_kept | apply State.pwrRolled_kept) | with_reducible apply State.lit_kept

theorem State.rateRestarts_kept [K.Mem] (s : State) (hw : K.P s) : K.P (State.rateRestarts s) := by
  unfold State.rateRestarts
  try dsimp only
  repeat' first | (with_reducible first | assumption | apply State.rateRestart_kept | (apply foldl_kept; intro _ _ _)) | dsimp only

theorem State.watchLeave_kept (s : State) (hw : K.P s) : K.P (State.watchLeave s) := by
  unfold State.watchLeave
  try dsimp only
  repeat' first | (with_reducible first | assumption | apply ite_kept | apply State.setWatch_kept | apply State.domRaise_kept | apply State.setPwr_kept | apply State.watchDrop_kept | (apply foldl_kept; intro _ _ _) | (apply foldl_fst_kept; intro _ _ _)) | split | with_reducible apply State.lit_kept | dsimp only

theorem State.watchSettle_kept [K.Mem] (s : State) (hw : K.P s) : K.P (State.watchSettle s) := by
  unfold State.watchSettle
  try dsimp only
  repeat' with_reducible first | assumption | apply ite_kept | apply State.setCond_kept | apply State.watchEnter_kept | apply State.rateRestarts_kept | apply State.watchLeave_kept

theorem State.watchBack_kept [K.Mem] (s : State) (hw : K.P s) : K.P (State.watchBack s) := by
  unfold State.watchBack
  try dsimp only
  repeat' first | (with_reducible first | assumption | apply ite_kept | apply State.setWatch_kept | apply State.watchSettle_kept) | with_reducible apply State.lit_kept

theorem State.watchFollow_kept [K.Mem] (s : State) (hw : K.P s) : K.P (State.watchFollow s) := by
  unfold State.watchFollow
  try dsimp only
  repeat' with_reducible first | assumption | apply ite_kept | apply State.watchNote_kept | apply State.watchEnter_kept | apply State.watchBack_kept

theorem State.setBoot_kept (s : State) (b : BootSt) (hw : K.P s) : K.P (State.setBoot s b) := by
  unfold State.setBoot
  try dsimp only
  repeat' first | (with_reducible first | assumption) | with_reducible apply State.lit_kept

theorem State.comTake_kept (s : State) (hw : K.P s) : K.P (State.comTake s) := by
  unfold State.comTake
  try dsimp only
  repeat' first | (with_reducible first | assumption | apply State.wr_kept | apply State.put_kept | apply State.putB_kept | (apply foldl_kept; intro _ _ _) | (apply foldl_fst_kept; intro _ _ _)) | split | with_reducible apply State.lit_kept | dsimp only

theorem State.powerLost_kept [K.Resets] (s : State) (hw : K.P s) : K.P (s.powerLost) := Keep.Resets.power _ hw

theorem State.wipe_kept [K.Resets] (s : State) (hw : K.P s) : K.P (s.wipe) := Keep.Resets.wipe _ hw

theorem State.raise62_kept (s : State) (f : Fld) (hw : K.P s) : K.P (State.raise62 s f) := by
  unfold State.raise62
  try dsimp only
  repeat' with_reducible first | assumption | apply State.put_kept | apply State.raise_kept

theorem State.warmReset_kept [K.Resets] (s : State) (cause : Nat) (hw : K.P s) : K.P (State.warmReset s cause) := by
  unfold State.warmReset
  try dsimp only
  repeat' first | (with_reducible first | assumption | apply ite_kept | apply State.put_kept | apply State.incSat_kept | apply State.logWrite_kept | apply State.modeSettle_kept | apply State.healthySettle_kept | apply State.timeStop_kept | apply State.setBoot_kept | apply State.wipe_kept | apply State.raise62_kept) | with_reducible apply State.lit_kept

theorem State.allDoms_kept (s : State) (st : Nat) (hw : K.P s) : K.P (State.allDoms s st) := by
  unfold State.allDoms
  try dsimp only
  repeat' first | (with_reducible first | assumption | apply ite_kept | apply State.putPair_kept | apply State.setDom_kept | (apply foldl_kept; intro _ _ _)) | dsimp only

theorem State.bootTo_kept (s : State) (stage : Nat) (hw : K.P s) : K.P (State.bootTo s stage) := by
  unfold State.bootTo
  try dsimp only
  repeat' first | (with_reducible first | assumption | apply State.setBoot_kept) | with_reducible apply State.lit_kept

theorem State.railsOn_kept (s : State) (hw : K.P s) : K.P (State.railsOn s) := by
  unfold State.railsOn
  try dsimp only
  repeat' first | (with_reducible first | assumption | apply State.linkSend_kept | (apply foldl_kept; intro _ _ _)) | dsimp only

theorem State.bootFail_kept (s : State) (step : Nat) (hw : K.P s) : K.P (State.bootFail s step) := by
  unfold State.bootFail
  try dsimp only
  repeat' first | (with_reducible first | assumption | apply ite_kept | apply State.put_kept | apply State.logWrite_kept | apply State.setSpeed_kept | apply State.allDoms_kept | apply State.bootTo_kept) | with_reducible apply State.lit_kept

theorem State.baselineLine_kept (s : State) (m i : Nat) (u : LineUpset) (hw : K.P s) : K.P (State.baselineLine s m i u) := by
  unfold State.baselineLine
  try dsimp only
  repeat' first | (with_reducible first | assumption | apply ite_kept | apply State.wr_kept | apply State.put_kept | apply State.incSat_kept | apply State.putPair_kept | apply State.logWrite_kept | apply State.raiseMem_kept | apply State.logLose_kept | apply State.memCorrect_kept | apply State.memRebuild_kept | apply State.setBoot_kept) | with_reducible apply State.lit_kept

theorem State.ltStart_kept (s : State) (hw : K.P s) : K.P (State.ltStart s) := by
  unfold State.ltStart
  try dsimp only
  repeat' first | (with_reducible first | assumption | apply State.put_kept | apply State.putPair_kept | apply State.timeGo_kept) | split | with_reducible apply State.lit_kept | dsimp only

theorem State.bootId_kept (s : State) (hw : K.P s) : K.P (State.bootId s) := by
  unfold State.bootId
  try dsimp only
  repeat' with_reducible first | assumption | apply ite_kept | apply State.wr_kept | apply State.freeNext_kept

theorem State.logicRelease_kept (s : State) (hw : K.P s) : K.P (State.logicRelease s) := by
  unfold State.logicRelease
  try dsimp only
  repeat' first | (with_reducible first | assumption | apply ite_kept | apply State.put_kept | apply State.putB_kept | apply State.logWrite_kept | apply State.setDom_kept | apply State.tileDown_kept | apply State.portTo_kept | apply State.noteSpan_kept | apply State.comTake_kept | apply State.bootTo_kept | apply State.ltStart_kept | apply State.bootId_kept | (apply foldl_kept; intro _ _ _)) | with_reducible apply State.lit_kept | dsimp only

end Sys2Proof.Machine
end

