-- ==== Sys2Proof/Laws/KeepD.lean ====
section
/-! SUPPORT. The shared operations of BootCmds, Herd, Follow, TimedCmds, HerdCmds, KeyCmds, HostCmds, RestartCmds, Service, ServiceCmds, QueueCmds, LogCmds, LadleCmds, Bus, Filsy, PowerCmds, Tick: what each keeps. -/

set_option Elab.async false
set_option linter.unusedTactic false
set_option linter.unreachableTactic false
set_option linter.unusedVariables false

namespace Sys2Proof.Machine

variable {K : Keep}

theorem State.wantReset_kept (s : State) (cause : Nat) (hw : K.P s) : K.P (State.wantReset s cause) := by
  unfold State.wantReset
  try dsimp only
  repeat' first | (with_reducible first | assumption | apply State.setBoot_kept) | with_reducible apply State.lit_kept

theorem State.herdMap_kept (s : State) (f : HerdSt → HerdSt) (hw : K.P s) : K.P (State.herdMap s f) := by
  unfold State.herdMap
  try dsimp only
  repeat' first | (with_reducible first | assumption) | with_reducible apply State.lit_kept

theorem State.copyErr_kept (s : State) (how : CopyEnd) (hw : K.P s) : K.P (State.copyErr s how) := by
  unfold State.copyErr
  try dsimp only
  repeat' first | (with_reducible first | assumption | apply State.incSat_kept | apply State.frameErr_kept) | split | with_reducible apply State.lit_kept | dsimp only

theorem State.arrived_kept (s : State) (how : CopyEnd) (hw : K.P s) : K.P (State.arrived s how) := by
  unfold State.arrived
  try dsimp only
  repeat' first | (with_reducible first | assumption | apply ite_kept | apply State.herdMap_kept | apply State.copyErr_kept) | with_reducible apply State.lit_kept | dsimp only

theorem State.forward_kept (s : State) (portB : Bool) (f : Frame) (how : CopyEnd) (hw : K.P s) : K.P (State.forward s portB f how) := by
  unfold State.forward
  try dsimp only
  repeat' first | (with_reducible first | assumption | apply ite_kept | apply State.incSat_kept | apply State.frameErr_kept | apply State.sendOn_kept) | with_reducible apply State.lit_kept

theorem State.ringRx_kept (s : State) (portB : Bool) (f : Frame) (how : CopyEnd) (take : State → State) (hf_take : ∀ u : State, K.P u → K.P (take u)) (hw : K.P s) :
    K.P (State.ringRx s portB f how take) := by
  unfold State.ringRx
  try dsimp only
  repeat' first | (with_reducible first | assumption | apply ite_kept | apply hf_take | apply State.arrived_kept | apply State.forward_kept) | split | with_reducible apply State.lit_kept | dsimp only

theorem State.sendPulse_kept (s : State) (portB : Bool) (frac : Nat) (hw : K.P s) : K.P (State.sendPulse s portB frac) := by
  unfold State.sendPulse
  try dsimp only
  repeat' first | (with_reducible first | assumption | apply ite_kept | apply State.setPort_kept | apply State.txPut_kept | apply State.herdMap_kept) | with_reducible apply State.lit_kept | dsimp only

theorem State.sendCal_kept (s : State) (portB : Bool) (step delay : Nat) (hw : K.P s) : K.P (State.sendCal s portB step delay) := by
  unfold State.sendCal
  try dsimp only
  repeat' first | (with_reducible first | assumption | apply State.txPut_kept | apply State.herdMap_kept) | with_reducible apply State.lit_kept | dsimp only

theorem State.calProbe_kept (s : State) (step : Nat) (hw : K.P s) : K.P (State.calProbe s step) := by
  unfold State.calProbe
  try dsimp only
  repeat' first | (with_reducible first | assumption | apply State.setPort_kept | apply State.sendCal_kept) | with_reducible apply State.lit_kept

theorem State.showPeer_kept (s : State) (portB : Bool) (a : Nat) (hw : K.P s) : K.P (State.showPeer s portB a) := by
  unfold State.showPeer
  try dsimp only
  repeat' with_reducible first | assumption | apply State.put_kept

theorem State.calHold_kept (s : State) (portB : Bool) (ab ba : Nat) (hw : K.P s) : K.P (State.calHold s portB ab ba) := by
  unfold State.calHold
  try dsimp only
  repeat' first | (with_reducible first | assumption | apply State.putInt_kept | apply State.setPort_kept) | with_reducible apply State.lit_kept

theorem State.calTake_kept (s : State) (portB : Bool) (c : Cal) (stamp : Nat) (hw : K.P s) : K.P (State.calTake s portB c stamp) := by
  unfold State.calTake
  try dsimp only
  repeat' first | (with_reducible first | assumption | apply ite_kept | apply State.setPort_kept | apply State.portTo_kept | apply State.sendCal_kept | apply State.calProbe_kept | apply State.showPeer_kept | apply State.calHold_kept) | with_reducible apply State.lit_kept

theorem State.showDelay_kept (s : State) (portB : Bool) (hw : K.P s) : K.P (State.showDelay s portB) := by
  unfold State.showDelay
  try dsimp only
  repeat' with_reducible first | assumption | apply ite_kept | apply State.put_kept

theorem State.pulseTake_kept (s : State) (portB : Bool) (x : Pulse) (stamp : Nat) (hw : K.P s) : K.P (State.pulseTake s portB x stamp) := by
  unfold State.pulseTake
  try dsimp only
  repeat' first | (with_reducible first | assumption | apply ite_kept | apply State.setPort_kept | apply State.portTo_kept | apply State.showPeer_kept | apply State.showDelay_kept) | split | with_reducible apply State.lit_kept | dsimp only

theorem State.joinPorts_kept (s : State) (hw : K.P s) : K.P (State.joinPorts s) := by
  unfold State.joinPorts
  try dsimp only
  repeat' first | (with_reducible first | assumption | apply ite_kept | apply State.portJoin_kept | (apply foldl_kept; intro _ _ _)) | dsimp only

theorem State.addrConflict_kept (s : State) (hw : K.P s) : K.P (State.addrConflict s) := by
  unfold State.addrConflict
  try dsimp only
  repeat' with_reducible first | assumption | apply ite_kept | apply State.put_kept | apply State.raiseHerd_kept

theorem State.slotConflicts_kept (s : State) (b : Beacon) (hw : K.P s) : K.P (State.slotConflicts s b) := by
  unfold State.slotConflicts
  try dsimp only
  repeat' first | (with_reducible first | assumption | apply ite_kept | apply State.put_kept | apply State.raiseHerd_kept | (apply foldl_kept; intro _ _ _)) | dsimp only

theorem State.anchorRecord_kept (s : State) (n : Nat) (m : Model) (pos : Int) (hw : K.P s) : K.P (State.anchorRecord s n m pos) := by
  unfold State.anchorRecord
  try dsimp only
  repeat' with_reducible first | assumption | apply ite_kept | apply State.offerAll_kept

theorem State.subAvail_kept [K.Mem] (s : State) (n : Nat) (b : Bool) (hw : K.P s) : K.P (State.subAvail s n b) := by
  unfold State.subAvail
  try dsimp only
  repeat' first | (with_reducible first | assumption | apply ite_kept | apply State.putB_kept | apply State.setSrc_kept | apply State.sourceGone_kept | apply State.watchNote_kept | apply State.watchBack_kept) | with_reducible apply State.lit_kept

theorem State.anchorTake_kept [K.Mem] (s : State) (n : Nat) (m : Model) (hw : K.P s) : K.P (State.anchorTake s n m) := by
  unfold State.anchorTake
  try dsimp only
  repeat' first | (with_reducible first | assumption | apply ite_kept | apply State.put_kept | apply State.setSrc_kept | apply State.reestimate_kept | apply State.watchNote_kept | apply State.watchBack_kept | apply State.herdMap_kept | apply State.anchorRecord_kept | apply State.subAvail_kept) | split | with_reducible apply State.lit_kept | dsimp only

theorem State.anchorsTake_kept [K.Mem] (s : State) (b : Beacon) (hw : K.P s) : K.P (State.anchorsTake s b) := by
  unfold State.anchorsTake
  try dsimp only
  repeat' first | (with_reducible first | assumption | apply ite_kept | apply State.anchorTake_kept | (apply foldl_kept; intro _ _ _)) | split | with_reducible apply State.lit_kept | dsimp only

theorem State.originsCheck_kept (s : State) (roster : Word) (hw : K.P s) : K.P (State.originsCheck s roster) := by
  unfold State.originsCheck
  try dsimp only
  repeat' first | (with_reducible first | assumption | apply State.herdMap_kept) | with_reducible apply State.lit_kept | dsimp only

theorem State.deputiesNote_kept (s : State) (b : Beacon) (hw : K.P s) : K.P (State.deputiesNote s b) := by
  unfold State.deputiesNote
  try dsimp only
  repeat' first | (with_reducible first | assumption | apply ite_kept | apply State.herdMap_kept) | split | with_reducible apply State.lit_kept | dsimp only

theorem State.rosterSet_kept (s : State) (r : Word) (hw : K.P s) : K.P (State.rosterSet s r) := by
  unfold State.rosterSet
  try dsimp only
  repeat' with_reducible first | assumption | apply ite_kept | apply State.wr_kept | apply State.raiseHerd_kept

theorem State.ltStep_kept [K.Mem] (s : State) (n : Nat) (hw : K.P s) : K.P (State.ltStep s n) := by
  unfold State.ltStep
  try dsimp only
  repeat' first | (with_reducible first | assumption | apply State.put_kept | apply State.incSat_kept | apply State.putPair_kept | apply State.raise_kept | apply State.logWrite_kept | apply State.executeLate_kept | apply State.churnStep_kept | apply State.cellRestart_kept | (apply foldl_kept; intro _ _ _) | (apply foldl_fst_kept; intro _ _ _)) | with_reducible apply State.lit_kept | dsimp only

theorem State.walkBegin_kept (s : State) (e : Int) (hw : K.P s) : K.P (State.walkBegin s e) := by
  unfold State.walkBegin
  try dsimp only
  repeat' first | (with_reducible first | assumption | apply State.putB_kept | apply State.herdMap_kept) | with_reducible apply State.lit_kept | dsimp only

theorem State.realigned_kept (s : State) (hw : K.P s) : K.P (State.realigned s) := by
  unfold State.realigned
  try dsimp only
  repeat' first | (with_reducible first | assumption | apply State.setHoldover_kept | apply State.noteSpan_kept) | with_reducible apply State.lit_kept

theorem State.walkError_kept (s : State) (e : Int) (hw : K.P s) : K.P (State.walkError s e) := by
  unfold State.walkError
  try dsimp only
  repeat' with_reducible first | assumption | apply ite_kept | apply State.put_kept | apply State.walkBegin_kept | apply State.realigned_kept

theorem State.epochConflict_kept (s : State) (hw : K.P s) : K.P (State.epochConflict s) := by
  unfold State.epochConflict
  try dsimp only
  repeat' with_reducible first | assumption | apply ite_kept | apply State.put_kept | apply State.raise_kept | apply State.setHoldover_kept | apply State.noteSpan_kept | apply State.walkBegin_kept

theorem State.followError_kept [K.Mem] (s : State) (e : Int) (hw : K.P s) : K.P (State.followError s e) := by
  unfold State.followError
  try dsimp only
  repeat' with_reducible first | assumption | apply ite_kept | apply State.putInt_kept | apply State.ltStep_kept | apply State.walkError_kept | apply State.epochConflict_kept

theorem State.hear_kept (s : State) (addr role : Nat) (portB : Bool) (hw : K.P s) : K.P (State.hear s addr role portB) := by
  unfold State.hear
  try dsimp only
  repeat' first | (with_reducible first | assumption | apply State.herdMap_kept) | with_reducible apply State.lit_kept | dsimp only

theorem State.showSource_kept (s : State) (c : Option Nat) (hw : K.P s) : K.P (State.showSource s c) := by
  unfold State.showSource
  try dsimp only
  repeat' first | (with_reducible first | assumption | apply ite_kept | apply State.put_kept | apply State.putB_kept | apply State.raiseHerd_kept | apply State.herdMap_kept) | with_reducible apply State.lit_kept | dsimp only

theorem State.showRoles_kept (s : State) (hw : K.P s) : K.P (State.showRoles s) := by
  unfold State.showRoles
  try dsimp only
  repeat' first | (with_reducible first | assumption | apply ite_kept | apply State.put_kept | apply State.raiseHerd_kept) | dsimp only

theorem State.refPort_kept (s : State) (portB : Bool) (hw : K.P s) : K.P (State.refPort s portB) := by
  unfold State.refPort
  try dsimp only
  repeat' first | (with_reducible first | assumption | apply ite_kept | apply State.refTo_kept | apply State.herdMap_kept) | with_reducible apply State.lit_kept | dsimp only

theorem State.lineHold_kept (s : State) (b : Bool) (hw : K.P s) : K.P (State.lineHold s b) := by
  unfold State.lineHold
  try dsimp only
  repeat' with_reducible first | assumption | apply ite_kept | apply State.putB_kept | apply State.raise_kept | apply State.noteSpan_kept

theorem State.beaconBegin_kept (s : State) (hw : K.P s) : K.P (State.beaconBegin s) := by
  unfold State.beaconBegin
  try dsimp only
  repeat' first | (with_reducible first | assumption | apply State.put_kept | apply State.raiseHerd_kept | apply State.refTo_kept | apply State.herdMap_kept | apply State.showSource_kept) | with_reducible apply State.lit_kept | dsimp only

theorem State.beaconEnd_kept (s : State) (hw : K.P s) : K.P (State.beaconEnd s) := by
  unfold State.beaconEnd
  try dsimp only
  repeat' first | (with_reducible first | assumption | apply State.put_kept | apply State.raiseHerd_kept | apply State.herdMap_kept) | with_reducible apply State.lit_kept | dsimp only

theorem State.formStop_kept (s : State) (hw : K.P s) : K.P (State.formStop s) := by
  unfold State.formStop
  try dsimp only
  repeat' first | (with_reducible first | assumption | apply ite_kept | apply State.put_kept | apply State.raiseHerd_kept | apply State.herdMap_kept) | with_reducible apply State.lit_kept | dsimp only

theorem State.giveWay_kept (s : State) (role addr : Nat) (hw : K.P s) : K.P (State.giveWay s role addr) := by
  unfold State.giveWay
  try dsimp only
  repeat' first | (with_reducible first | assumption | apply ite_kept | apply State.herdMap_kept | apply State.beaconEnd_kept | apply State.formStop_kept) | with_reducible apply State.lit_kept | dsimp only

theorem State.claimCheck_kept (s : State) (e : Int) (b : Beacon) (hw : K.P s) : K.P (State.claimCheck s e b) := by
  unfold State.claimCheck
  try dsimp only
  repeat' first | (with_reducible first | assumption | apply ite_kept | apply State.herdSend_kept | apply State.herdMap_kept) | with_reducible apply State.lit_kept | dsimp only

theorem State.followBeacon_kept [K.Mem] (s : State) (b : Beacon) (a : Nat) (hw : K.P s) : K.P (State.followBeacon s b a) := by
  unfold State.followBeacon
  try dsimp only
  repeat' first | (with_reducible first | assumption | apply ite_kept | apply State.wr_kept | apply State.put_kept | apply State.incSat_kept | apply State.herdMap_kept | apply State.rosterSet_kept | apply State.followError_kept | apply State.lineHold_kept | apply State.claimCheck_kept) | split | with_reducible apply State.lit_kept | dsimp only

theorem State.beaconGood_kept [K.Mem] (s : State) (portB : Bool) (b : Beacon) (a : Nat) (hw : K.P s) : K.P (State.beaconGood s portB b a) := by
  unfold State.beaconGood
  try dsimp only
  repeat' first | (with_reducible first | assumption | apply ite_kept | apply State.herdMap_kept | apply State.joinPorts_kept | apply State.anchorsTake_kept | apply State.originsCheck_kept | apply State.deputiesNote_kept | apply State.hear_kept | apply State.showSource_kept | apply State.showRoles_kept | apply State.refPort_kept | apply State.giveWay_kept | apply State.followBeacon_kept) | with_reducible apply State.lit_kept | dsimp only

theorem State.beaconMarks_kept (s : State) (b : Beacon) (hw : K.P s) : K.P (State.beaconMarks s b) := by
  unfold State.beaconMarks
  try dsimp only
  repeat' with_reducible first | assumption | apply ite_kept | apply State.addrConflict_kept | apply State.slotConflicts_kept

theorem State.sendBeacon_kept (s : State) (frac : Nat) (hw : K.P s) : K.P (State.sendBeacon s frac) := by
  unfold State.sendBeacon
  try dsimp only
  repeat' first | (with_reducible first | assumption | apply ite_kept | apply State.herdSend_kept | apply State.herdMap_kept | apply State.joinPorts_kept | apply State.originsCheck_kept | apply State.rosterSet_kept) | with_reducible apply State.lit_kept | dsimp only

theorem State.slotResult_kept (s : State) (slot res : Nat) (hw : K.P s) : K.P (State.slotResult s slot res) := by
  unfold State.slotResult
  try dsimp only
  repeat' with_reducible first | assumption | apply State.put_kept

theorem State.slotOwn_kept (s : State) (slot : Nat) (hw : K.P s) : K.P (State.slotOwn s slot) := by
  unfold State.slotOwn
  try dsimp only
  repeat' with_reducible first | assumption | apply ite_kept | apply State.askOwn_kept | apply State.clearAct_kept | apply State.slotResult_kept

theorem State.slotHerd_kept (s : State) (slot : Nat) (hw : K.P s) : K.P (State.slotHerd s slot) := by
  unfold State.slotHerd
  try dsimp only
  repeat' first | (with_reducible first | assumption | apply ite_kept | apply State.put_kept | apply State.askHerd_kept) | split

theorem State.cmdEnter_kept (s : State) (w slot : Nat) (ctl : Word) (hw : K.P s) : K.P (State.cmdEnter s w slot ctl) := by
  unfold State.cmdEnter
  try dsimp only
  repeat' with_reducible first | assumption | apply ite_kept | apply State.wr_kept | apply State.slotOwn_kept | apply State.slotHerd_kept

theorem State.retryRecord_kept (s : State) (n oc : Nat) (r : Retry) (hw : K.P s) : K.P (State.retryRecord s n oc r) := by
  unfold State.retryRecord
  try dsimp only
  repeat' first | (with_reducible first | assumption | apply ite_kept | apply State.evtFlush_kept) | with_reducible apply State.lit_kept | dsimp only

theorem State.outFault_kept (s : State) (n cls : Nat) (hw : K.P s) : K.P (State.outFault s n cls) := by
  unfold State.outFault
  try dsimp only
  repeat' with_reducible first | assumption | apply State.incSat_kept | apply State.raise_kept | apply State.logWrite_kept

theorem State.setOrigin_kept (s : State) (a : Nat) (o : OriginSt) (hw : K.P s) : K.P (State.setOrigin s a o) := by
  unfold State.setOrigin
  try dsimp only
  repeat' first | (with_reducible first | assumption | apply State.herdMap_kept) | with_reducible apply State.lit_kept | dsimp only

theorem State.reqAct_kept (s : State) (origin : Nat) (r : ActReq) (hw : K.P s) : K.P (State.reqAct s origin r) := by
  unfold State.reqAct
  try dsimp only
  repeat' with_reducible first | assumption | apply ite_kept | apply State.askOwn_kept | apply State.clearAct_kept

theorem State.reqAnswer_kept (s : State) (origin : Nat) (r : ActReq) (hw : K.P s) : K.P (s.reqAnswer origin r).1 := by
  unfold State.reqAnswer
  dsimp only
  repeat' first | (with_reducible first | assumption | apply ite_kept | apply State.setOrigin_kept | apply State.reqAct_kept) | split | with_reducible apply State.lit_kept | dsimp only

theorem State.reqsAnswer_kept (origin : Nat) (l : List ActReq) : ∀ (s : State), K.P s → K.P (s.reqsAnswer origin l).1 := by
  induction l with
  | nil => intro s hw; exact hw
  | cons r t ih => intro s hw; exact ih _ (State.reqAnswer_kept _ _ _ hw)

theorem State.actionTake_kept (s : State) (f : Frame) (hw : K.P s) : K.P (State.actionTake s f) := by
  unfold State.actionTake
  try dsimp only
  repeat' first | (with_reducible first | assumption | apply State.herdSend_kept | apply State.reqsAnswer_kept) | split | with_reducible apply State.lit_kept | dsimp only

theorem State.reqFailed_kept (s : State) (p : PendReq) (res : Nat) (hw : K.P s) : K.P (State.reqFailed s p res) := by
  unfold State.reqFailed
  try dsimp only
  repeat' with_reducible first | assumption | apply ite_kept | apply State.logWrite_kept | apply State.raiseHerd_kept

theorem State.reqEnd_kept (s : State) (p : PendReq) (res : Nat) (hw : K.P s) : K.P (State.reqEnd s p res) := by
  unfold State.reqEnd
  try dsimp only
  repeat' first | (with_reducible first | assumption | apply ite_kept | apply State.herdMap_kept | apply State.slotResult_kept | apply State.reqFailed_kept) | with_reducible apply State.lit_kept | dsimp only

theorem State.acksTake_kept (origin : Nat) (l : List (Word × Nat)) : ∀ (s : State), K.P s → K.P (s.acksTake origin l) := by
  induction l with
  | nil => intro s hw; exact hw
  | cons x t ih =>
    intro s hw
    unfold State.acksTake
    refine ih _ ?_
    repeat' first | (with_reducible first | assumption | apply ih | apply State.reqEnd_kept) | split | with_reducible apply State.lit_kept | dsimp only

theorem State.frameEnd_kept (s : State) (ids : List Word) (hw : K.P s) : K.P (State.frameEnd s ids) := by
  unfold State.frameEnd
  try dsimp only
  repeat' first | (with_reducible first | assumption | apply State.herdMap_kept) | split | with_reducible apply State.lit_kept | dsimp only

theorem State.ackTake_kept (s : State) (f : Frame) (hw : K.P s) : K.P (State.ackTake s f) := by
  unfold State.ackTake
  try dsimp only
  repeat' first | (with_reducible first | assumption | apply State.sendReqs_kept | apply State.acksTake_kept | apply State.frameEnd_kept) | split | with_reducible apply State.lit_kept | dsimp only

theorem State.rxOffer_kept (s : State) (q : Nat) (r : Rec) (hw : K.P s) : K.P (State.rxOffer s q r) := by
  unfold State.rxOffer
  try dsimp only
  repeat' with_reducible first | assumption | apply ite_kept | apply State.qOffer_kept | apply State.frameErr_kept

theorem State.recordCheck_kept (s : State) (r : Rec) (crc : Word) (hw : K.P s) : K.P (State.recordCheck s r crc).1 := by
  unfold State.recordCheck
  try dsimp only
  repeat' first | (with_reducible first | assumption | apply ite_kept | apply State.incSat_kept) | split | dsimp only

theorem State.recordTake_kept (s : State) (r : Rec) (hw : K.P s) : K.P (State.recordTake s r) := by
  unfold State.recordTake
  try dsimp only
  repeat' first | (with_reducible first | assumption | apply ite_kept | apply State.herdMap_kept | apply State.rxOffer_kept) | split | with_reducible apply State.lit_kept | dsimp only

theorem State.recordAccept_kept (s : State) (f : Frame) (hw : K.P s) : K.P (State.recordAccept s f) := by
  unfold State.recordAccept
  try dsimp only
  repeat' first | (with_reducible first | assumption | apply ite_kept | apply State.setOrigin_kept | apply State.recordCheck_kept | apply State.recordTake_kept) | split | with_reducible apply State.lit_kept | dsimp only

theorem State.recordCut_kept (s : State) (portB : Bool) (f : Frame) (how : CopyEnd) (hw : K.P s) : K.P (State.recordCut s portB f how) := by
  unfold State.recordCut
  try dsimp only
  repeat' first | (with_reducible first | assumption | apply ite_kept | apply State.freeNext_kept | apply State.recordAccept_kept) | split | with_reducible apply State.lit_kept | dsimp only

theorem State.laneDecide_kept (s : State) (n : Nat) (c : Word) (hw : K.P s) : K.P (State.laneDecide s n c) := by
  unfold State.laneDecide
  try dsimp only
  repeat' first | (with_reducible first | assumption | apply ite_kept | apply State.setLane_kept | apply State.laneArm_kept) | with_reducible apply State.lit_kept | dsimp only

theorem State.stagedThen_kept (s : State) (want : Nat) (hw : K.P s) : K.P (State.stagedThen s want) := by
  unfold State.stagedThen
  try dsimp only
  repeat' with_reducible first | assumption | apply ite_kept | apply State.coAsk_kept | apply State.reloadAsk_kept

theorem State.cmdStage_kept [K.Mem] [K.Cores] (s : State) (w : Nat) (hw : K.P s) : K.P (State.cmdStage s w) := by
  unfold State.cmdStage
  try dsimp only
  repeat' with_reducible first | assumption | apply ite_kept | apply State.keyStage_kept

theorem State.cmdKeyCycle_kept (s : State) (w : Nat) (hw : K.P s) : K.P (State.cmdKeyCycle s w) := by
  unfold State.cmdKeyCycle
  try dsimp only
  repeat' first | (with_reducible first | assumption | apply ite_kept | apply State.setKey_kept | apply State.keyCycle_kept) | with_reducible apply State.lit_kept

theorem State.cmdChangeover_kept (s : State) (w : Nat) (hw : K.P s) : K.P (State.cmdChangeover s w) := by
  unfold State.cmdChangeover
  try dsimp only
  repeat' with_reducible first | assumption | apply ite_kept | apply State.coAsk_kept

theorem State.badDgram_kept (s : State) (hw : K.P s) : K.P (State.badDgram s) := by
  unfold State.badDgram
  try dsimp only
  repeat' with_reducible first | assumption | apply State.put_kept | apply State.incSat_kept | apply State.raise_kept

theorem State.badFrame_kept (s : State) (hw : K.P s) : K.P (State.badFrame s) := by
  unfold State.badFrame
  try dsimp only
  repeat' with_reducible first | assumption | apply State.put_kept | apply State.raise_kept

theorem State.frameTake_kept (s : State) (f : HostFrame) (k : State → State) (hf_k : ∀ u : State, K.P u → K.P (k u)) (hw : K.P s) :
    K.P (State.frameTake s f k) := by
  unfold State.frameTake
  try dsimp only
  repeat' with_reducible first | assumption | apply ite_kept | apply hf_k | apply State.jack_kept | apply State.badFrame_kept

theorem State.dgramTake_kept (s : State) (dg : Dgram) (k : State → State) (hf_k : ∀ u : State, K.P u → K.P (k u)) (hw : K.P s) :
    K.P (State.dgramTake s dg k) := by
  unfold State.dgramTake
  try dsimp only
  repeat' first | (with_reducible first | assumption | apply ite_kept | apply hf_k | apply State.badDgram_kept | (apply State.frameTake_kept; intro _ _)) | dsimp only

theorem State.arpRx_kept (s : State) (p : ArpPacket) (hw : K.P s) : K.P (State.arpRx s p) := by
  unfold State.arpRx
  try dsimp only
  repeat' first | (with_reducible first | assumption | apply ite_kept | apply State.put_kept | apply State.raise_kept | apply State.logWrite_kept | apply State.setHost_kept | apply State.hostEmit_kept) | with_reducible apply State.lit_kept | dsimp only

theorem State.echoAnswer_kept (s : State) (ip : Nat) (idSeq : Word) (data : List Byte) (hw : K.P s) : K.P (State.echoAnswer s ip idSeq data) := by
  unfold State.echoAnswer
  try dsimp only
  repeat' first | (with_reducible first | assumption | apply ite_kept | apply State.setHost_kept | apply State.hostEmit_kept | apply State.arpUse_kept) | with_reducible apply State.lit_kept | dsimp only

theorem State.sessionTake_kept (s : State) (dg : Dgram) (k : State → State) (hf_k : ∀ u : State, K.P u → K.P (k u)) (hw : K.P s) :
    K.P (State.sessionTake s dg k) := by
  unfold State.sessionTake
  try dsimp only
  repeat' first | (with_reducible first | assumption | apply ite_kept | apply hf_k | apply State.badDgram_kept | (apply State.dgramTake_kept; intro _ _)) | dsimp only

theorem State.heard_kept (s : State) (dg : Dgram) (hw : K.P s) : K.P (State.heard s dg) := by
  unfold State.heard
  try dsimp only
  repeat' first | (with_reducible first | assumption | apply State.setHost_kept) | with_reducible apply State.lit_kept

theorem State.batchAgain_kept (s : State) (b : Batch) (hw : K.P s) : K.P (State.batchAgain s b) := by
  unfold State.batchAgain
  try dsimp only
  repeat' first | (with_reducible first | assumption | apply ite_kept | apply State.put_kept | apply State.incSat_kept | apply State.raise_kept | apply State.setHost_kept) | with_reducible apply State.lit_kept | dsimp only

theorem State.sessionResume_kept (s : State) (fresh : Bool) (hw : K.P s) : K.P (State.sessionResume s fresh) := by
  unfold State.sessionResume
  try dsimp only
  repeat' first | (with_reducible first | assumption | apply ite_kept | apply State.setHost_kept | apply State.batchAgain_kept | (apply foldl_kept; intro _ _ _)) | with_reducible apply State.lit_kept | dsimp only

theorem State.newSession_kept (s : State) (dg : Dgram) (hw : K.P s) : K.P (State.newSession s dg) := by
  unfold State.newSession
  try dsimp only
  repeat' first | (with_reducible first | assumption | apply State.wr_kept | apply State.put_kept | apply State.incSat_kept | apply State.freeNext_kept | apply State.setHost_kept) | with_reducible apply State.lit_kept

theorem State.replyOpen_kept (s : State) (dg : Dgram) (result : Nat) (hw : K.P s) : K.P (State.replyOpen s dg result) := by
  unfold State.replyOpen
  try dsimp only
  repeat' with_reducible first | assumption | apply State.udpTo_kept

theorem State.openTake_kept (s : State) (dg : Dgram) (window : Nat) (raw : Bool) (prev : Word) (hw : K.P s) : K.P (State.openTake s dg window raw prev) := by
  unfold State.openTake
  try dsimp only
  repeat' first | (with_reducible first | assumption | apply ite_kept | apply State.put_kept | apply State.setHost_kept | apply State.wakeEnd_kept | apply State.setSession_kept | apply State.sendClose_kept | apply State.heard_kept | apply State.sessionResume_kept | apply State.newSession_kept | apply State.replyOpen_kept) | with_reducible apply State.lit_kept

theorem State.cmdHostClose_kept (s : State) (w : Nat) (hw : K.P s) : K.P (State.cmdHostClose s w) := by
  unfold State.cmdHostClose
  try dsimp only
  repeat' with_reducible first | assumption | apply ite_kept | apply State.moduleClose_kept

theorem State.hostAckTake_kept (s : State) (dg : Dgram) (cum : Word) (window : Nat) (entries : List AckEntry) (hw : K.P s) :
    K.P (State.hostAckTake s dg cum window entries) := by
  unfold State.hostAckTake
  try dsimp only
  repeat' first | (with_reducible first | assumption | apply ite_kept | apply State.put_kept | apply State.setHost_kept | apply State.setFill_kept | apply State.showOutstanding_kept | apply State.showCum_kept | apply State.badDgram_kept | apply State.heard_kept | (apply foldl_kept; intro _ _ _)) | with_reducible apply State.lit_kept | dsimp only

theorem State.request_kept (s : State) (dg : Dgram) (f : State → State) (hf_f : ∀ u : State, K.P u → K.P (f u)) (hw : K.P s) :
    K.P (State.request s dg f) := by
  unfold State.request
  try dsimp only
  repeat' first | (with_reducible first | assumption | apply ite_kept | apply hf_f | apply State.incSat_kept | apply State.setHost_kept | apply State.badDgram_kept | (apply State.sessionTake_kept; intro _ _) | apply State.heard_kept) | with_reducible apply State.lit_kept | dsimp only

theorem State.reply_kept (s : State) (req : Word) (code result : Nat) (data : List Byte) (hw : K.P s) : K.P (State.reply s req code result data) := by
  unfold State.reply
  try dsimp only
  repeat' first | (with_reducible first | assumption | apply State.setHost_kept | apply State.toPeer_kept) | with_reducible apply State.lit_kept | dsimp only

theorem State.hostKeyDo_kept [K.Mem] [K.Cores] (s : State) (changeover : Bool) (hw : K.P s) : K.P (s.hostKeyDo changeover).2 := by
  unfold State.hostKeyDo
  dsimp only
  repeat' first | (with_reducible first | assumption | apply ite_kept | apply State.coAsk_kept | apply State.reloadAsk_kept | apply State.keyBegin_kept | apply State.keyStage_kept) | split | dsimp only

theorem State.hostKey_kept [K.Mem] [K.Cores] (s : State) (req : Word) (resv changeover : Bool) (hw : K.P s) : K.P (State.hostKey s req resv changeover) := by
  unfold State.hostKey
  try dsimp only
  repeat' first | (with_reducible first | assumption | apply ite_kept | apply State.put_kept | apply State.raise_kept | apply State.logWrite_kept | apply State.reply_kept | apply State.hostKeyDo_kept) | (apply fst_kept (by assumption)) | split | with_reducible apply State.lit_kept | dsimp only

theorem State.cmdHostWake_kept (s : State) (w : Nat) (hw : K.P s) : K.P (State.cmdHostWake s w) := by
  unfold State.cmdHostWake
  try dsimp only
  repeat' first | (with_reducible first | assumption | apply ite_kept | apply State.putB_kept | apply State.setHost_kept | apply State.wakeStart_kept) | with_reducible apply State.lit_kept

theorem State.storeUpset_kept (s : State) (u : StoreUpset) (hw : K.P s) : K.P (State.storeUpset s u) := by
  unfold State.storeUpset
  try dsimp only
  repeat' with_reducible first | assumption | apply ite_kept | apply State.setLineErr_kept

theorem State.cmdMod_kept [K.Mem] (s : State) (w : Nat) (v : Word) (hw : K.P s) : K.P (State.cmdMod s w v) := by
  unfold State.cmdMod
  try dsimp only
  repeat' first | (with_reducible first | assumption | apply ite_kept | apply State.setWatch_kept | apply State.watchSettle_kept) | with_reducible apply State.lit_kept

theorem State.setSvc_kept (s : State) (v : SvcSt) (hw : K.P s) : K.P (State.setSvc s v) := by
  unfold State.setSvc
  try dsimp only
  repeat' first | (with_reducible first | assumption) | with_reducible apply State.lit_kept

theorem State.enabled_kept (s : State) (e : Bool) (hw : K.P s) : K.P (State.enabled s e) := by
  unfold State.enabled
  try dsimp only
  repeat' with_reducible first | assumption | apply State.putB_kept

theorem State.takeStart_kept (s : State) (hw : K.P s) : K.P (State.takeStart s) := by
  unfold State.takeStart
  try dsimp only
  repeat' first | (with_reducible first | assumption | apply ite_kept | apply State.put_kept | apply State.setCond_kept | apply State.raise62_kept | apply State.setSvc_kept) | with_reducible apply State.lit_kept

theorem State.takeStop_kept (s : State) (hw : K.P s) : K.P (State.takeStop s) := by
  unfold State.takeStop
  try dsimp only
  repeat' first | (with_reducible first | assumption | apply ite_kept | apply State.put_kept | apply State.setCond_kept | apply State.raise62_kept | apply State.setSvc_kept) | with_reducible apply State.lit_kept

theorem State.commissionTile_kept [K.Mem] [K.Cores] (s : State) (t : Nat) (hw : K.P s) : K.P (State.commissionTile s t) := by
  unfold State.commissionTile
  try dsimp only
  repeat' first | (with_reducible first | assumption | apply ite_kept | apply State.markStops_kept | apply State.setTileRun_kept | apply State.tileCut_kept | apply State.tileHalt_kept) | with_reducible apply State.lit_kept

theorem State.commissionStart_kept [K.Mem] [K.Cores] (s : State) (hw : K.P s) : K.P (State.commissionStart s) := by
  unfold State.commissionStart
  try dsimp only
  repeat' first | (with_reducible first | assumption | apply ite_kept | apply State.setCond_kept | apply State.pwrForce_kept | apply State.raise62_kept | apply State.setSvc_kept | apply State.takeStop_kept | apply State.commissionTile_kept | (apply foldl_kept; intro _ _ _) | (apply foldl_fst_kept; intro _ _ _)) | split | with_reducible apply State.lit_kept | dsimp only

theorem State.commissionEnd_kept [K.Mem] (s : State) (hw : K.P s) : K.P (State.commissionEnd s) := by
  unfold State.commissionEnd
  try dsimp only
  repeat' first | (with_reducible first | assumption | apply ite_kept | apply State.setCond_kept | apply State.domRaise_kept | apply State.watchFollow_kept | apply State.raise62_kept | apply State.wantReset_kept | apply State.setSvc_kept | (apply foldl_kept; intro _ _ _) | (apply foldl_fst_kept; intro _ _ _)) | split | with_reducible apply State.lit_kept | dsimp only

theorem State.commissionLeave_kept [K.Mem] (s : State) (hw : K.P s) : K.P (State.commissionLeave s) := by
  unfold State.commissionLeave
  try dsimp only
  repeat' first | (with_reducible first | assumption | apply ite_kept | apply State.setSvc_kept | apply State.commissionEnd_kept) | with_reducible apply State.lit_kept

theorem State.svcResult_kept (s : State) (r : Nat) (hw : K.P s) : K.P (State.svcResult s r) := by
  unfold State.svcResult
  try dsimp only
  repeat' first | (with_reducible first | assumption | apply ite_kept | apply State.incSat_kept | apply State.setSvc_kept) | with_reducible apply State.lit_kept

theorem State.svcTake_kept (s : State) (hw : K.P s) : K.P (State.svcTake s) := by
  unfold State.svcTake
  try dsimp only
  repeat' with_reducible first | assumption | apply ite_kept | apply State.takeStart_kept | apply State.svcResult_kept

theorem State.svcRelease_kept [K.Mem] (s : State) (hw : K.P s) : K.P (State.svcRelease s) := by
  unfold State.svcRelease
  try dsimp only
  repeat' with_reducible first | assumption | apply ite_kept | apply State.takeStop_kept | apply State.commissionLeave_kept | apply State.svcResult_kept

theorem State.svcAlive_kept (s : State) (hw : K.P s) : K.P (State.svcAlive s) := by
  unfold State.svcAlive
  try dsimp only
  repeat' with_reducible first | assumption | apply ite_kept | apply State.takeStart_kept | apply State.svcResult_kept

theorem State.svcCommission_kept [K.Mem] [K.Cores] (s : State) (hw : K.P s) : K.P (State.svcCommission s) := by
  unfold State.svcCommission
  try dsimp only
  repeat' with_reducible first | assumption | apply ite_kept | apply State.commissionStart_kept | apply State.svcResult_kept

theorem State.svcWarmReset_kept (s : State) (hw : K.P s) : K.P (State.svcWarmReset s) := by
  unfold State.svcWarmReset
  try dsimp only
  repeat' with_reducible first | assumption | apply ite_kept | apply State.raise62_kept | apply State.wantReset_kept | apply State.svcResult_kept

theorem State.svcCommand_kept [K.Mem] [K.Cores] (s : State) (cmd inv : Nat) (hw : K.P s) : K.P (State.svcCommand s cmd inv) := by
  unfold State.svcCommand
  try dsimp only
  repeat' first | (with_reducible first | assumption | apply ite_kept | apply State.svcResult_kept | apply State.svcTake_kept | apply State.svcRelease_kept | apply State.svcAlive_kept | apply State.svcCommission_kept | apply State.svcWarmReset_kept) | split | with_reducible apply State.lit_kept | dsimp only

theorem State.fieldLog_kept (s : State) (sel r slot : Nat) (l : List Byte) (hw : K.P s) : K.P (State.fieldLog s sel r slot l) := by
  unfold State.fieldLog
  try dsimp only
  repeat' first | (with_reducible first | assumption | apply ite_kept | apply State.put_kept | apply State.raise_kept | apply State.logWrite_kept | apply State.setSvc_kept) | with_reducible apply State.lit_kept

theorem State.fieldGo_kept (s : State) (hw : K.P s) : K.P (State.fieldGo s) := by
  unfold State.fieldGo
  try dsimp only
  repeat' first | (with_reducible first | assumption | apply ite_kept | apply State.put_kept | apply State.setSvc_kept | apply State.fieldLog_kept) | with_reducible apply State.lit_kept

theorem State.trimLog_kept (s : State) (id r slot : Nat) (new old : Word) (hw : K.P s) : K.P (State.trimLog s id r slot new old) := by
  unfold State.trimLog
  try dsimp only
  repeat' first | (with_reducible first | assumption | apply ite_kept | apply State.put_kept | apply State.raise_kept | apply State.logWrite_kept | apply State.setSvc_kept) | with_reducible apply State.lit_kept

theorem State.trimGo_kept (s : State) (hw : K.P s) : K.P (State.trimGo s) := by
  unfold State.trimGo
  try dsimp only
  repeat' first | (with_reducible first | assumption | apply ite_kept | apply State.put_kept | apply State.setSvc_kept | apply State.trimLog_kept) | with_reducible apply State.lit_kept

theorem State.setPage_kept (s : State) (p : Nat) (hw : K.P s) : K.P (State.setPage s p) := by
  unfold State.setPage
  try dsimp only
  repeat' first | (with_reducible first | assumption | apply State.put_kept | apply State.setSvc_kept) | with_reducible apply State.lit_kept

theorem State.burnEnd_kept [K.Mem] (s : State) (verified : Bool) (hw : K.P s) : K.P (State.burnEnd s verified) := by
  unfold State.burnEnd
  try dsimp only
  repeat' first | (with_reducible first | assumption | apply ite_kept | apply State.put_kept | apply State.setSvc_kept | apply State.commissionEnd_kept | apply State.fieldLog_kept | apply State.trimLog_kept | apply State.setPage_kept) | split | with_reducible apply State.lit_kept | dsimp only

theorem State.pageSelect_kept (s : State) (p : Nat) (hw : K.P s) : K.P (State.pageSelect s p) := by
  unfold State.pageSelect
  try dsimp only
  repeat' first | (with_reducible first | assumption | apply ite_kept | apply State.setSvc_kept | apply State.setPage_kept) | with_reducible apply State.lit_kept

theorem State.pageWrite_kept (s : State) (p a : Nat) (b : Byte) (hw : K.P s) : K.P (State.pageWrite s p a b) := by
  unfold State.pageWrite
  try dsimp only
  repeat' first | (with_reducible first | assumption | apply ite_kept | apply State.setSvc_kept | apply State.fieldGo_kept | apply State.trimGo_kept) | split | with_reducible apply State.lit_kept | dsimp only

theorem State.svcWrite_kept [K.Mem] [K.Cores] (l : List Byte) : ∀ (s : State) (cmd : Option Nat), K.P s → K.P (s.svcWrite cmd l) := by
  induction l with
  | nil => intro s cmd hw; exact hw
  | cons b t ih =>
    intro s cmd hw
    unfold State.svcWrite
    dsimp only
    repeat' first | (with_reducible first | assumption | apply ite_kept | apply ih | apply State.setSvc_kept | apply State.svcCommand_kept | apply State.pageSelect_kept | apply State.pageWrite_kept) | split | with_reducible apply State.lit_kept | dsimp only

theorem State.svcDo_kept (s : State) (f : State → State) (hf_f : ∀ u : State, K.P u → K.P (f u)) (hw : K.P s) :
    K.P (State.svcDo s f) := by
  unfold State.svcDo
  try dsimp only
  repeat' with_reducible first | assumption | apply ite_kept | apply hf_f

theorem State.cmdKick_kept (s : State) (w : Nat) (hw : K.P s) : K.P (State.cmdKick s w) := by
  unfold State.cmdKick
  try dsimp only
  repeat' first | (with_reducible first | assumption | apply ite_kept | apply State.healthySettle_kept | apply State.setSvc_kept) | with_reducible apply State.lit_kept

theorem State.coreStore_kept [K.Mem] (s : State) (c a : Nat) (l : List Byte) (hw : K.P s) : K.P (State.coreStore s c a l) := by
  unfold State.coreStore
  try dsimp only
  repeat' first | (with_reducible first | assumption | apply ite_kept | apply State.setByte_kept | apply State.store_kept | (apply foldl_kept; intro _ _ _)) | dsimp only

theorem State.pushRefuse_kept (s : State) (q result : Nat) (hw : K.P s) : K.P (State.pushRefuse s q result) := by
  unfold State.pushRefuse
  try dsimp only
  repeat' with_reducible first | assumption | apply State.put_kept | apply State.incSat_kept

theorem State.cmdPush_kept (s : State) (w q : Nat) (addr : Word) (hw : K.P s) : K.P (State.cmdPush s w q addr) := by
  unfold State.cmdPush
  try dsimp only
  repeat' first | (with_reducible first | assumption | apply ite_kept | apply State.put_kept | apply State.setQueue_kept | apply State.pushRefuse_kept) | with_reducible apply State.lit_kept

theorem State.pushEnter_kept (s : State) (q : Nat) (r : Rec) (hw : K.P s) : K.P (State.pushEnter s q r) := by
  unfold State.pushEnter
  try dsimp only
  repeat' first | (with_reducible first | assumption | apply ite_kept | apply State.put_kept | apply State.takeSeq_kept | apply State.qCommit_kept | apply State.qMakeRoom_kept | apply State.qFlushFor_kept | apply State.qCompare_kept | apply State.setHost_kept | apply State.pushRefuse_kept) | (apply fst_kept (by assumption)) | split | with_reducible apply State.lit_kept | dsimp only

theorem State.cmdPop_kept (s : State) (w q : Nat) (addr : Word) (hw : K.P s) : K.P (State.cmdPop s w q addr) := by
  unfold State.cmdPop
  try dsimp only
  repeat' first | (with_reducible first | assumption | apply ite_kept | apply State.put_kept | apply State.setQueue_kept) | split | with_reducible apply State.lit_kept | dsimp only

theorem State.cmdLogSel_kept (s : State) (w : Nat) (index : Word) (hw : K.P s) : K.P (State.cmdLogSel s w index) := by
  unfold State.cmdLogSel
  try dsimp only
  repeat' with_reducible first | assumption | apply ite_kept | apply State.wr_kept | apply State.logTouch_kept

theorem State.cmdLogUser_kept (s : State) (w : Nat) (hw : K.P s) : K.P (State.cmdLogUser s w) := by
  unfold State.cmdLogUser
  try dsimp only
  repeat' first | (with_reducible first | assumption | apply ite_kept | apply State.incSat_kept | apply State.logWrite_kept) | with_reducible apply State.lit_kept | dsimp only

theorem State.cmdSnap_kept [K.Mem] (s : State) (w : Nat) (addr : Word) (hw : K.P s) : K.P (State.cmdSnap s w addr) := by
  unfold State.cmdSnap
  try dsimp only
  repeat' with_reducible first | assumption | apply ite_kept | apply State.put_kept | apply State.coreStore_kept

theorem State.runCount_kept (s : State) (l d : Nat) (hw : K.P s) : K.P (State.runCount s l d) := by
  unfold State.runCount
  try dsimp only
  repeat' first | (with_reducible first | assumption | apply State.setRunLeft_kept) | split | with_reducible apply State.lit_kept | dsimp only

theorem State.ladleMove_kept [K.Mem] (s : State) (l d : Nat) (r : Rec) (hw : K.P s) : K.P (State.ladleMove s l d r) := by
  unfold State.ladleMove
  try dsimp only
  repeat' with_reducible first | assumption | apply ite_kept | apply State.incWrap_kept | apply State.descDeliver_kept

theorem State.ladleAbort_kept [K.Mem] (s : State) (l d : Nat) (r : Rec) (hw : K.P s) : K.P (State.ladleAbort s l d r) := by
  unfold State.ladleAbort
  try dsimp only
  repeat' with_reducible first | assumption | apply ite_kept | apply State.put_kept | apply State.incSat_kept | apply State.ladleMove_kept

theorem State.ladleErr_kept (s : State) (l d : Nat) (how : SrcEnd) (hw : K.P s) : K.P (State.ladleErr s l d how) := by
  unfold State.ladleErr
  try dsimp only
  repeat' first | (with_reducible first | assumption | apply ite_kept | apply State.put_kept | apply State.incSat_kept | apply State.ladleEvent_kept | apply State.raiseMem_kept) | split | with_reducible apply State.lit_kept | dsimp only

theorem State.ringTouch_kept [K.Mem] [K.Cores] (s : State) (l d : Nat) (hw : K.P s) : K.P (State.ringTouch s l d) := by
  unfold State.ringTouch
  try dsimp only
  repeat' with_reducible first | assumption | apply ite_kept | apply State.memTouch_kept

theorem State.moveRing_kept [K.Mem] [K.Cores] (s : State) (l d : Nat) (hw : K.P s) : K.P (State.moveRing s l d) := by
  unfold State.moveRing
  try dsimp only
  repeat' first | (with_reducible first | assumption | apply ite_kept | apply State.put_kept | apply State.ladleEvent_kept | apply State.raiseMem_kept | apply State.runCount_kept | apply State.ladleMove_kept | apply State.ladleAbort_kept | apply State.ladleErr_kept | apply State.ringTouch_kept) | split | with_reducible apply State.lit_kept | dsimp only

theorem State.moveQueue_kept [K.Mem] (s : State) (l d : Nat) (upset : PtrUpset) (hw : K.P s) : K.P (State.moveQueue s l d upset) := by
  unfold State.moveQueue
  try dsimp only
  repeat' first | (with_reducible first | assumption | apply ite_kept | apply State.setQueue_kept | apply State.qPass_kept | apply State.qReset_kept | apply State.qTouch_kept | apply State.runCount_kept | apply State.ladleMove_kept | apply State.ladleAbort_kept) | split | with_reducible apply State.lit_kept | dsimp only

theorem State.cmdRun_kept (s : State) (w l d : Nat) (hw : K.P s) : K.P (State.cmdRun s w l d) := by
  unfold State.cmdRun
  try dsimp only
  repeat' with_reducible first | assumption | apply ite_kept | apply State.ladleRequest_kept

theorem State.cmdRingPtr_kept (s : State) (w l d : Nat) (read : Bool) (value : Word) (hw : K.P s) : K.P (State.cmdRingPtr s w l d read value) := by
  unfold State.cmdRingPtr
  try dsimp only
  repeat' with_reducible first | assumption | apply ite_kept | apply State.put_kept

theorem State.plainWrite_kept (s : State) (w a : Nat) (v : Word) (hw : K.P s) : K.P (State.plainWrite s w a v) := by
  unfold State.plainWrite
  try dsimp only
  repeat' first | (with_reducible first | assumption | apply ite_kept | apply State.wr_kept) | split | with_reducible apply State.lit_kept | dsimp only

theorem State.queueWrite_kept (s : State) (w q off a : Nat) (v : Word) (hw : K.P s) : K.P (State.queueWrite s w q off a v) := by
  unfold State.queueWrite
  try dsimp only
  repeat' with_reducible first | assumption | apply ite_kept | apply State.cmdPush_kept | apply State.cmdPop_kept | apply State.plainWrite_kept

theorem State.ladleWrite_kept (s : State) (w l off a : Nat) (v : Word) (hw : K.P s) : K.P (State.ladleWrite s w l off a v) := by
  unfold State.ladleWrite
  try dsimp only
  repeat' first | (with_reducible first | assumption | apply ite_kept | apply State.cmdRun_kept | apply State.cmdRingPtr_kept | apply State.plainWrite_kept | (apply foldl_kept; intro _ _ _)) | dsimp only

theorem State.timerWrite_kept (s : State) (w t n off a : Nat) (v : Word) (hw : K.P s) : K.P (State.timerWrite s w t n off a v) := by
  unfold State.timerWrite
  try dsimp only
  repeat' first | (with_reducible first | assumption | apply ite_kept | apply State.cmdTimerStart_kept | apply State.cmdTimerStop_kept | apply State.cmdTimerClear_kept | apply State.cmdTimerPer_kept | apply State.cmdTimerCmp_kept | (apply State.ifTimerWriter_kept; intro _ _) | apply State.plainWrite_kept) | dsimp only

theorem State.chCmdWrite_kept (s : State) (w k : Nat) (v : Word) (hw : K.P s) : K.P (State.chCmdWrite s w k v) := by
  unfold State.chCmdWrite
  try dsimp only
  repeat' first | (with_reducible first | assumption | apply ite_kept | apply State.cmdChReset_kept) | with_reducible apply State.lit_kept

theorem State.teachWrite_kept [K.Mem] (s : State) (w t g : Nat) (v : Word) (hw : K.P s) : K.P (State.teachWrite s w t g v) := by
  unfold State.teachWrite
  try dsimp only
  repeat' with_reducible first | assumption | apply ite_kept | apply State.cmdTeach_kept | apply State.cmdTeachEnd_kept

theorem State.tileWrite_kept [K.Mem] (s : State) (w t o a : Nat) (v : Word) (hw : K.P s) : K.P (State.tileWrite s w t o a v) := by
  unfold State.tileWrite
  try dsimp only
  repeat' with_reducible first | assumption | apply ite_kept | apply State.plainWrite_kept | apply State.queueWrite_kept | apply State.ladleWrite_kept | apply State.timerWrite_kept | apply State.chCmdWrite_kept | apply State.teachWrite_kept

theorem State.hostCmdWrite_kept (s : State) (w : Nat) (v : Word) (hw : K.P s) : K.P (State.hostCmdWrite s w v) := by
  unfold State.hostCmdWrite
  try dsimp only
  repeat' with_reducible first | assumption | apply ite_kept | apply State.cmdHostClose_kept | apply State.cmdHostWake_kept

theorem State.keyCmdWrite_kept [K.Mem] [K.Cores] (s : State) (w : Nat) (v : Word) (hw : K.P s) : K.P (State.keyCmdWrite s w v) := by
  unfold State.keyCmdWrite
  try dsimp only
  repeat' with_reducible first | assumption | apply ite_kept | apply State.cmdStage_kept | apply State.cmdKeyCycle_kept | apply State.cmdChangeover_kept

theorem State.hubWrite_kept [K.Mem] [K.Cores] (s : State) (w a : Nat) (v : Word) (hw : K.P s) : K.P (State.hubWrite s w a v) := by
  unfold State.hubWrite
  try dsimp only
  repeat' with_reducible first | assumption | apply ite_kept | apply State.cmdTwCtl_kept | apply State.cmdGo_kept | apply State.cmdEnter_kept | apply State.cmdMod_kept | apply State.cmdKick_kept | apply State.cmdLogUser_kept | apply State.cmdSnap_kept | apply State.plainWrite_kept | apply State.queueWrite_kept | apply State.ladleWrite_kept | apply State.hostCmdWrite_kept | apply State.keyCmdWrite_kept

theorem State.busWrite_kept [K.Mem] [K.Cores] (s : State) (w a : Nat) (v : Word) (hw : K.P s) : K.P (State.busWrite s w a v) := by
  unfold State.busWrite
  try dsimp only
  repeat' with_reducible first | assumption | apply ite_kept | apply State.envWrite_kept | apply State.tileWrite_kept | apply State.hubWrite_kept

theorem State.coreHalt_kept [K.Mem] [K.Cores] (s : State) (k : Nat) (hw : K.P s) : K.P (State.coreHalt s k) := by
  unfold State.coreHalt
  try dsimp only
  repeat' first | (with_reducible first | assumption | apply ite_kept | apply State.setCore_kept | apply State.logWrite_kept | apply State.tileOut_kept | apply State.holdFirst_kept | apply State.faultHold_kept) | with_reducible apply State.lit_kept

theorem State.corePoison_kept [K.Mem] [K.Cores] (s : State) (k : Nat) (addr : Word) (hw : K.P s) : K.P (State.corePoison s k addr) := by
  unfold State.corePoison
  try dsimp only
  repeat' first | (with_reducible first | assumption | apply ite_kept | apply State.setCore_kept | apply State.logWrite_kept | apply State.raiseMem_kept | apply State.tileOut_kept | apply State.holdFirst_kept | apply State.faultHold_kept) | with_reducible apply State.lit_kept

theorem State.coreFault_kept [K.Mem] [K.Cores] (s : State) (k : Nat) (at_ : Word) (code detail : Nat) (addr : Option Word) (hw : K.P s) :
    K.P (State.coreFault s k at_ code detail addr) := by
  unfold State.coreFault
  try dsimp only
  repeat' with_reducible first | assumption | apply ite_kept | apply State.setCore_kept | apply State.coreHalt_kept

theorem State.readLost_kept [K.Mem] [K.Cores] (s : State) (k a : Nat) (andThen : State → State) (hf_andThen : ∀ u : State, K.P u → K.P (andThen u)) (hw : K.P s) :
    K.P (State.readLost s k a andThen) := by
  unfold State.readLost
  try dsimp only
  repeat' with_reducible first | assumption | apply ite_kept | apply hf_andThen | apply State.wordReadAt_kept | apply State.corePoison_kept

theorem State.storeNow_kept [K.Mem] [K.Cores] (s : State) (k : Nat) (p : Posted) (hw : K.P s) : K.P (State.storeNow s k p) := by
  unfold State.storeNow
  try dsimp only
  repeat' with_reducible first | assumption | apply ite_kept | apply State.wordReadAt_kept | apply State.coreStore_kept | apply State.busWrite_kept

theorem State.supplyNote_kept (s : State) (what : Nat) (hw : K.P s) : K.P (State.supplyNote s what) := by
  unfold State.supplyNote
  try dsimp only
  repeat' with_reducible first | assumption | apply State.put_kept | apply State.raise_kept | apply State.logWrite_kept

theorem State.statusTake_kept [K.Mem] [K.Cores] [K.Resets] (s : State) (data : Nat) (hw : K.P s) : K.P (State.statusTake s data) := by
  unfold State.statusTake
  try dsimp only
  repeat' with_reducible first | assumption | apply ite_kept | apply State.put_kept | apply State.healthySettle_kept | apply State.holdFirst_kept | apply State.faultHold_kept | apply State.powerLost_kept | apply State.supplyNote_kept

theorem State.powerTake_kept (s : State) (data : Nat) (hw : K.P s) : K.P (State.powerTake s data) := by
  unfold State.powerTake
  try dsimp only
  repeat' first | (with_reducible first | assumption | apply ite_kept | apply State.put_kept | apply State.raise_kept | apply State.pins_kept) | with_reducible apply State.lit_kept

theorem State.linkTake_kept [K.Mem] [K.Cores] [K.Resets] (s : State) (r : LinkReq) (data : Nat) (hw : K.P s) :
    K.P (State.linkTake s r data) := by
  unfold State.linkTake
  try dsimp only
  repeat' first | (with_reducible first | assumption | apply ite_kept | apply State.put_kept | apply State.statusTake_kept | apply State.powerTake_kept) | with_reducible apply State.lit_kept | dsimp only

theorem State.throttleTime_kept (s : State) (hw : K.P s) : K.P (State.throttleTime s) := by
  unfold State.throttleTime
  try dsimp only
  repeat' first | (with_reducible first | assumption) | with_reducible apply State.lit_kept

theorem State.throttleEvent_kept (s : State) (hw : K.P s) : K.P (State.throttleEvent s) := by
  unfold State.throttleEvent
  try dsimp only
  repeat' with_reducible first | assumption | apply State.put_kept | apply State.raise_kept

theorem State.throttleHeld_kept (s : State) (hw : K.P s) : K.P (State.throttleHeld s) := by
  unfold State.throttleHeld
  try dsimp only
  repeat' first | (with_reducible first | assumption | apply State.setHost_kept) | with_reducible apply State.lit_kept | dsimp only

theorem State.fabricTick_kept (s : State) (hw : K.P s) : K.P (State.fabricTick s) := by
  unfold State.fabricTick
  try dsimp only
  repeat' first | (with_reducible first | assumption | apply State.evtFlush_kept | apply State.capsTick_kept | apply State.tileTick_kept | (apply foldl_kept; intro _ _ _)) | with_reducible apply State.lit_kept | dsimp only

theorem State.timeTick_kept (s : State) (hw : K.P s) : K.P (State.timeTick s) := by
  unfold State.timeTick
  try dsimp only
  repeat' first | (with_reducible first | assumption | apply ite_kept | apply State.landEdges_kept | apply State.txTick_kept | apply State.fabricTick_kept) | with_reducible apply State.lit_kept

theorem State.aonTick_kept (s : State) (hw : K.P s) : K.P (State.aonTick s) := by
  unfold State.aonTick
  try dsimp only
  repeat' first | (with_reducible first | assumption) | with_reducible apply State.lit_kept | dsimp only

theorem State.refTick_kept (s : State) (hw : K.P s) : K.P (State.refTick s) := by
  unfold State.refTick
  try dsimp only
  repeat' first | (with_reducible first | assumption | apply ite_kept | apply State.txTick_kept | apply State.aonTick_kept) | with_reducible apply State.lit_kept

theorem State.idle_kept (s : State) (hw : K.P s) : K.P (State.idle s) := by
  unfold State.idle
  try dsimp only
  repeat' with_reducible first | assumption | apply ite_kept | apply State.timersAct_kept | apply State.timeTick_kept | apply State.refTick_kept

end Sys2Proof.Machine
end

