-- ==== Sys2Proof/Laws/KeepEff.lean ====
section
/-! SUPPORT. What a Filsy instruction comes to, and what it keeps. -/

set_option Elab.async false
set_option linter.unusedTactic false
set_option linter.unreachableTactic false
set_option linter.unusedVariables false

namespace Sys2Proof.Machine

variable {K : Keep}

/-- Where the outcome is a next state, it has the property. -/
def Leads (K : Keep) (o : Out) : Prop := ∀ t, o = .next t → K.P t

/-- Whatever core and state it finishes from, what an instruction comes to has the property. -/
def Eff.Kept (K : Keep) (e : Eff) : Prop := ∀ k s, K.P s → K.P (e.finish k s)

theorem next_leads {u : State} (h : K.P u) : Leads K (.next u) := by
  intro t ht; cases ht; exact h
theorem ite_leads {c : Prop} [Decidable c] {a b : Out} (ha : Leads K a) (hb : Leads K b) : Leads K (if c then a else b) := by
  split
  · exact ha
  · exact hb
theorem Eff.ite_kept {c : Prop} [Decidable c] {a b : Eff} (ha : Eff.Kept K a) (hb : Eff.Kept K b) : Eff.Kept K (if c then a else b) := by
  split
  · exact ha
  · exact hb
theorem Eff.done_kept [K.Mem] [K.Cores] {t : State} (h : K.P t) : Eff.Kept K (Eff.done t) := fun _ _ _ => State.setCore_kept _ _ _ h
theorem Eff.go_kept [K.Mem] [K.Cores] {t : State} (a : Word) (r : Option Nat) (b : Bool) (h : K.P t) : Eff.Kept K (Eff.go t a r b) :=
  fun _ _ _ => State.setCore_kept _ _ _ h
theorem Eff.rest_kept [K.Mem] [K.Cores] {t : State} (h : K.P t) : Eff.Kept K (Eff.rest t) := fun _ _ _ => h
theorem Eff.stall_kept [K.Mem] [K.Cores] : Eff.Kept K Eff.stall := fun _ _ h => State.setCore_kept _ _ _ h
theorem Eff.fault_kept [K.Mem] [K.Cores] (a : Word) (e d : Nat) (x : Option Word) : Eff.Kept K (Eff.fault a e d x) := fun _ _ h => State.coreFault_kept _ _ _ _ _ _ h
theorem Eff.poison_kept [K.Mem] [K.Cores] (a : Word) : Eff.Kept K (Eff.poison a) := fun _ _ h => State.corePoison_kept _ _ _ h
theorem State.faultNow_kept [K.Mem] [K.Cores] (s : State) (k c d : Nat) : Eff.Kept K (s.faultNow k c d) := Eff.fault_kept _ _ _ _
theorem State.coreOnly_kept [K.Mem] [K.Cores] (s : State) (k : Nat) (f : Core → Core) (h : K.P s) : Eff.Kept K (s.coreOnly k f) :=
  Eff.done_kept (State.setCore_kept _ _ _ h)
theorem State.alu_kept [K.Mem] [K.Cores] (s : State) (k : Nat) (d : BitVec 4) (f : Core → Alu) (h : K.P s) : Eff.Kept K (s.alu k d f) :=
  State.coreOnly_kept _ _ _ h
theorem State.divide_kept [K.Mem] [K.Cores] (s : State) (k : Nat) (d a b : BitVec 4) (f : Word → Word → Word → Alu) (h : K.P s) :
    Eff.Kept K (s.divide k d a b f) := State.coreOnly_kept _ _ _ h
theorem State.jump_kept [K.Mem] [K.Cores] (s : State) (k : Nat) (a : Word) (f : Core → Core) (h : K.P s) : Eff.Kept K (s.jump k a f) := by
  unfold State.jump
  dsimp only
  exact Eff.ite_kept (Eff.go_kept _ _ _ (State.setCore_kept _ _ _ h)) (Eff.fault_kept _ _ _ _)
theorem State.coreLoads_kept [K.Mem] [K.Cores] (s : State) (k a n : Nat) (f : State → Nat → Eff) (h : ∀ u v, K.P u → Eff.Kept K (f u v)) (hs : K.P s) :
    Eff.Kept K (s.coreLoads k a n f) := by
  unfold State.coreLoads
  split
  · split
    · split
      · exact Eff.rest_kept (State.readLost_kept _ _ _ _ (fun u hu => h _ _ (State.freeNext_kept _ hu) _ _ hu) hs)
      · exact h _ _ (State.wordReadAt_kept _ _ hs)
    · exact h _ _ hs
  · exact Eff.stall_kept
  · exact Eff.fault_kept _ _ _ _
  · exact Eff.poison_kept _
theorem State.coreStores_kept [K.Mem] [K.Cores] (s : State) (k a n : Nat) (v : Word) (f : State → Eff) (hf : ∀ u : State, K.P u → Eff.Kept K (f u)) (h : K.P s) :
    Eff.Kept K (s.coreStores k a n v f) := by
  unfold State.coreStores
  dsimp only
  split
  · exact Eff.fault_kept _ _ _ _
  · exact Eff.ite_kept (hf _ (State.storeNow_kept _ _ _ h)) (Eff.ite_kept (hf _ (State.setCore_kept _ _ _ h)) Eff.stall_kept)
theorem State.callTo_kept [K.Mem] [K.Cores] (s : State) (k : Nat) (a : Word) (h : K.P s) : Eff.Kept K (s.callTo k a) := by
  unfold State.callTo
  dsimp only
  exact Eff.ite_kept (State.faultNow_kept _ _ _ _) (State.jump_kept _ _ _ _ h)
theorem State.prefixed_kept [K.Mem] [K.Cores] (s : State) (k : Fin 9) (n : Nat) (h : K.P s) : Eff.Kept K (s.prefixed k n) := by
  unfold State.prefixed
  dsimp only
  repeat' (first | (with_reducible apply Eff.ite_kept) | (with_reducible apply Eff.fault_kept) | (with_reducible apply Eff.poison_kept) | (with_reducible apply State.faultNow_kept) | (with_reducible apply Eff.go_kept) | (with_reducible assumption))
theorem State.loadInto_kept [K.Mem] [K.Cores] (s : State) (k : Nat) (d a : BitVec 4) (i : BitVec 18) (n : Nat) (e : Nat → Word) (h : K.P s) :
    Eff.Kept K (s.loadInto k d a i n e) := State.coreLoads_kept _ _ _ _ _ (fun _ _ hu => State.coreOnly_kept _ _ _ hu) h
theorem State.loadPost_kept [K.Mem] [K.Cores] (s : State) (k : Nat) (d a : BitVec 4) (i : BitVec 18) (n : Nat) (h : K.P s) :
    Eff.Kept K (s.loadPost k d a i n) := State.coreLoads_kept _ _ _ _ _ (fun _ _ hu => State.coreOnly_kept _ _ _ hu) h
theorem State.storeFrom_kept [K.Mem] [K.Cores] (s : State) (k : Nat) (d a : BitVec 4) (i : BitVec 18) (n : Nat) (h : K.P s) :
    Eff.Kept K (s.storeFrom k d a i n) := State.coreStores_kept _ _ _ _ _ _ (fun _ hu => Eff.done_kept hu) h
theorem State.storePost_kept [K.Mem] [K.Cores] (s : State) (k : Nat) (d a : BitVec 4) (i : BitVec 18) (n : Nat) (h : K.P s) :
    Eff.Kept K (s.storePost k d a i n) := State.coreStores_kept _ _ _ _ _ _ (fun _ hu => State.coreOnly_kept _ _ _ hu) h
theorem State.issue_kept [K.Mem] [K.Cores] (s : State) (k : Nat) (i : Instr) (body : State → Eff) (hb : ∀ u : State, K.P u → Eff.Kept K (body u)) (h : K.P s) :
    Leads K (s.issue k i body) := by
  have hf : ∀ u : State, K.P u → K.P ((u.fetched k i body).finish k u) := by
    intro u hu
    refine (?_ : Eff.Kept K _) k u hu
    unfold State.fetched
    dsimp only
    exact Eff.ite_kept (Eff.fault_kept _ _ _ _) (Eff.ite_kept (Eff.poison_kept _) (Eff.ite_kept (Eff.fault_kept _ _ _ _) (hb _ hu)))
  unfold State.issue
  dsimp only
  refine ite_leads (ite_leads (next_leads (State.readLost_kept _ _ _ _ hf h)) (next_leads (hf _ ?_))) (next_leads h)
  exact ite_kept (State.wordReadAt_kept _ _ h) h

end Sys2Proof.Machine
end

