-- ==== Sys2Proof/Laws/KeepExecA.lean ====
section
/-! SUPPORT. What each meaning keeps, first half. -/

set_option Elab.async false
set_option linter.unusedTactic false
set_option linter.unreachableTactic false
set_option linter.unusedVariables false

namespace Sys2Proof.Machine

variable {K : Keep}

theorem execPointArrival_leads [K.Mem] (t src : Fin 8) (s : State) (hw : K.P s) : Leads K (execPointArrival t src s) := by
  unfold execPointArrival
  try dsimp only
  repeat' first | (with_reducible first | assumption | apply next_leads | apply ite_leads | apply ite_kept | apply State.reestimate_kept | apply State.pointsReach_kept | (apply foldl_kept; intro _ _ _)) | (apply fst_kept (by assumption)) | split | with_reducible apply State.lit_kept | dsimp only

theorem execFoldWaitExpiry_leads [K.Mem] (t : Fin 8) (i : Fin 16) (s : State) (hw : K.P s) : Leads K (execFoldWaitExpiry t i s) := by
  unfold execFoldWaitExpiry
  try dsimp only
  repeat' first | (with_reducible first | assumption | apply next_leads | apply ite_leads | apply ite_kept | apply State.grpShow_kept | apply State.stillSample_kept | apply State.setWaiting_kept | apply State.drainStream_kept | (apply foldl_kept; intro _ _ _)) | (apply fst_kept (by assumption)) | split | with_reducible apply State.lit_kept | dsimp only

theorem execCloseWaitExpiry_leads [K.Mem] (t : Fin 8) (g : Fin 4) (s : State) (hw : K.P s) : Leads K (execCloseWaitExpiry t g s) := by
  unfold execCloseWaitExpiry
  try dsimp only
  repeat' first | (with_reducible first | assumption | apply next_leads | apply ite_leads | apply ite_kept | apply State.grpShow_kept | apply State.closeUpTo_kept | (apply foldl_kept; intro _ _ _)) | (apply fst_kept (by assumption)) | split | with_reducible apply State.lit_kept | dsimp only

theorem execMaxCycleTimeout_leads [K.Mem] (t : Fin 8) (g : Fin 4) (s : State) (hw : K.P s) : Leads K (execMaxCycleTimeout t g s) := by
  unfold execMaxCycleTimeout
  try dsimp only
  repeat' first | (with_reducible first | assumption | apply next_leads | apply ite_leads | apply ite_kept | apply State.grpShow_kept | apply State.maxCycle_kept | (apply foldl_kept; intro _ _ _)) | (apply fst_kept (by assumption)) | split | with_reducible apply State.lit_kept | dsimp only

theorem execCycleSourceLoss_leads [K.Mem] (t : Fin 8) (g : Fin 4) (s : State) (hw : K.P s) : Leads K (execCycleSourceLoss t g s) := by
  unfold execCycleSourceLoss
  try dsimp only
  repeat' first | (with_reducible first | assumption | apply next_leads | apply ite_leads | apply ite_kept | apply State.grpShow_kept | apply State.groupLost_kept | (apply foldl_kept; intro _ _ _)) | (apply fst_kept (by assumption)) | split | with_reducible apply State.lit_kept | dsimp only

theorem execJudgementEnd_leads [K.Mem] (t : Fin 8) (s : State) (hw : K.P s) : Leads K (execJudgementEnd t s) := by
  unfold execJudgementEnd
  try dsimp only
  repeat' first | (with_reducible first | assumption | apply next_leads | apply ite_leads | apply ite_kept | apply State.judgeEnd_kept | (apply foldl_kept; intro _ _ _)) | (apply fst_kept (by assumption)) | split | with_reducible apply State.lit_kept | dsimp only

theorem execTeach_leads [K.Mem] (w : Fin 9) (t : Fin 8) (g : Fin 4) (s : State) (hw : K.P s) : Leads K (execTeach w t g s) := by
  unfold execTeach
  try dsimp only
  repeat' first | (with_reducible first | assumption | apply next_leads | apply ite_leads | apply ite_kept | apply State.cmdTeach_kept | (apply foldl_kept; intro _ _ _)) | (apply fst_kept (by assumption)) | split | with_reducible apply State.lit_kept | dsimp only

theorem execTeachEnd_leads (w : Fin 9) (t : Fin 8) (g : Fin 4) (s : State) (hw : K.P s) : Leads K (execTeachEnd w t g s) := by
  unfold execTeachEnd
  try dsimp only
  repeat' first | (with_reducible first | assumption | apply next_leads | apply ite_leads | apply ite_kept | apply State.cmdTeachEnd_kept | (apply foldl_kept; intro _ _ _)) | (apply fst_kept (by assumption)) | split | with_reducible apply State.lit_kept | dsimp only

theorem execEnvEntryWrite_leads (w : Fin 9) (t : Fin 8) (e : Fin 3072) (high : Bool) (value : Word) (s : State) (hw : K.P s) :
    Leads K (execEnvEntryWrite w t e high value s) := by
  unfold execEnvEntryWrite
  try dsimp only
  repeat' first | (with_reducible first | assumption | apply next_leads | apply ite_leads | apply ite_kept | apply State.envWrite_kept | (apply foldl_kept; intro _ _ _)) | (apply fst_kept (by assumption)) | split | with_reducible apply State.lit_kept | dsimp only

theorem execScanStart_leads (c : Fin 32) (s : State) (hw : K.P s) : Leads K (execScanStart c s) := by
  unfold execScanStart
  try dsimp only
  repeat' first | (with_reducible first | assumption | apply next_leads | apply ite_leads | apply ite_kept | apply State.scanStart_kept | (apply foldl_kept; intro _ _ _)) | (apply fst_kept (by assumption)) | split | with_reducible apply State.lit_kept | dsimp only

theorem execScanStepBoundary_leads [K.Mem] (c : Fin 32) (s : State) (hw : K.P s) : Leads K (execScanStepBoundary c s) := by
  unfold execScanStepBoundary
  try dsimp only
  repeat' first | (with_reducible first | assumption | apply next_leads | apply ite_leads | apply ite_kept | apply State.boundary_kept | (apply foldl_kept; intro _ _ _)) | (apply fst_kept (by assumption)) | split | with_reducible apply State.lit_kept | dsimp only

theorem execDischargeStart_leads (c : Fin 32) (rs : List ResetRead) (s : State) (hw : K.P s) : Leads K (execDischargeStart c rs s) := by
  unfold execDischargeStart
  try dsimp only
  repeat' first | (with_reducible first | assumption | apply next_leads | apply ite_leads | apply ite_kept | apply State.seqTo_kept | apply State.dischargeReset_kept | (apply foldl_kept; intro _ _ _)) | (apply fst_kept (by assumption)) | split | with_reducible apply State.lit_kept | dsimp only

theorem execDischargeEnd_leads (c : Fin 32) (s : State) (hw : K.P s) : Leads K (execDischargeEnd c s) := by
  unfold execDischargeEnd
  try dsimp only
  repeat' first | (with_reducible first | assumption | apply next_leads | apply ite_leads | apply ite_kept | apply State.seqTo_kept | (apply foldl_kept; intro _ _ _)) | (apply fst_kept (by assumption)) | split | with_reducible apply State.lit_kept | dsimp only

theorem execNewSwitchesClose_leads (c : Fin 32) (s : State) (hw : K.P s) : Leads K (execNewSwitchesClose c s) := by
  unfold execNewSwitchesClose
  try dsimp only
  repeat' first | (with_reducible first | assumption | apply next_leads | apply ite_leads | apply ite_kept | apply State.setCell_kept | (apply foldl_kept; intro _ _ _)) | (apply fst_kept (by assumption)) | split | with_reducible apply State.lit_kept | dsimp only

theorem execSwitchingSequenceEnd_leads (c : Fin 32) (s : State) (hw : K.P s) : Leads K (execSwitchingSequenceEnd c s) := by
  unfold execSwitchingSequenceEnd
  try dsimp only
  repeat' first | (with_reducible first | assumption | apply next_leads | apply ite_leads | apply ite_kept | apply State.setCell_kept | (apply foldl_kept; intro _ _ _)) | (apply fst_kept (by assumption)) | split | with_reducible apply State.lit_kept | dsimp only

theorem execExcCheck_leads (rs : List ExcRead) (s : State) (hw : K.P s) : Leads K (execExcCheck rs s) := by
  unfold execExcCheck
  try dsimp only
  repeat' first | (with_reducible first | assumption | apply next_leads | apply ite_leads | apply ite_kept | apply State.excCheck_kept | (apply foldl_kept; intro _ _ _)) | (apply fst_kept (by assumption)) | split | with_reducible apply State.lit_kept | dsimp only

theorem execSourceRetry_leads (c : Fin 32) (n : Fin 3) (s : State) (hw : K.P s) : Leads K (execSourceRetry c n s) := by
  unfold execSourceRetry
  try dsimp only
  repeat' first | (with_reducible first | assumption | apply next_leads | apply ite_leads | apply ite_kept | apply State.srcBack_kept | (apply foldl_kept; intro _ _ _)) | (apply fst_kept (by assumption)) | split | with_reducible apply State.lit_kept | dsimp only

theorem execLeadMeasurementStart_leads (c : Fin 32) (i : Fin 4) (cycle : Word) (s : State) (hw : K.P s) : Leads K (execLeadMeasurementStart c i cycle s) := by
  unfold execLeadMeasurementStart
  try dsimp only
  repeat' first | (with_reducible first | assumption | apply next_leads | apply ite_leads | apply ite_kept | apply State.leadStart_kept | (apply foldl_kept; intro _ _ _)) | (apply fst_kept (by assumption)) | split | with_reducible apply State.lit_kept | dsimp only

theorem execLeadBaselineEnd_leads (c : Fin 32) (nv : Int) (s : State) (hw : K.P s) : Leads K (execLeadBaselineEnd c nv s) := by
  unfold execLeadBaselineEnd
  try dsimp only
  repeat' first | (with_reducible first | assumption | apply next_leads | apply ite_leads | apply ite_kept | apply State.leadGo_kept | apply State.leadSettle_kept | (apply foldl_kept; intro _ _ _)) | (apply fst_kept (by assumption)) | split | with_reducible apply State.lit_kept | dsimp only

theorem execLeadSourceJoin_leads (c : Fin 32) (s : State) (hw : K.P s) : Leads K (execLeadSourceJoin c s) := by
  unfold execLeadSourceJoin
  try dsimp only
  repeat' first | (with_reducible first | assumption | apply next_leads | apply ite_leads | apply ite_kept | apply State.leadGo_kept | (apply foldl_kept; intro _ _ _)) | (apply fst_kept (by assumption)) | split | with_reducible apply State.lit_kept | dsimp only

theorem execLeadIntegrationStart_leads (c : Fin 32) (s : State) (hw : K.P s) : Leads K (execLeadIntegrationStart c s) := by
  unfold execLeadIntegrationStart
  try dsimp only
  repeat' first | (with_reducible first | assumption | apply next_leads | apply ite_leads | apply ite_kept | apply State.leadGo_kept | (apply foldl_kept; intro _ _ _)) | (apply fst_kept (by assumption)) | split | with_reducible apply State.lit_kept | dsimp only

theorem execLeadIntegrationEnd_leads (c : Fin 32) (nv : Int) (cm : Option Nat) (s : State) (hw : K.P s) : Leads K (execLeadIntegrationEnd c nv cm s) := by
  unfold execLeadIntegrationEnd
  try dsimp only
  repeat' first | (with_reducible first | assumption | apply next_leads | apply ite_leads | apply ite_kept | apply State.modeNote_kept | apply State.leadGo_kept | (apply foldl_kept; intro _ _ _)) | (apply fst_kept (by assumption)) | split | with_reducible apply State.lit_kept | dsimp only

theorem execLeadMeasurementEnd_leads (c : Fin 32) (s : State) (hw : K.P s) : Leads K (execLeadMeasurementEnd c s) := by
  unfold execLeadMeasurementEnd
  try dsimp only
  repeat' first | (with_reducible first | assumption | apply next_leads | apply ite_leads | apply ite_kept | apply State.leadEnd_kept | (apply foldl_kept; intro _ _ _)) | (apply fst_kept (by assumption)) | split | with_reducible apply State.lit_kept | dsimp only

theorem execCjUpdate_leads (c : Fin 32) (r : Option Int) (s : State) (hw : K.P s) : Leads K (execCjUpdate c r s) := by
  unfold execCjUpdate
  try dsimp only
  repeat' first | (with_reducible first | assumption | apply next_leads | apply ite_leads | apply ite_kept | apply State.cjUpdate_kept | (apply foldl_kept; intro _ _ _)) | (apply fst_kept (by assumption)) | split | with_reducible apply State.lit_kept | dsimp only

theorem execTwGo_leads (w : Fin 9) (p : Fin 8) (ctl : Word) (s : State) (hw : K.P s) : Leads K (execTwGo w p ctl s) := by
  unfold execTwGo
  try dsimp only
  repeat' first | (with_reducible first | assumption | apply next_leads | apply ite_leads | apply ite_kept | apply State.cmdTwCtl_kept | (apply foldl_kept; intro _ _ _)) | (apply fst_kept (by assumption)) | split | with_reducible apply State.lit_kept | dsimp only

theorem execTwPowerCycle_leads (w : Fin 9) (p : Fin 8) (ctl : Word) (s : State) (hw : K.P s) : Leads K (execTwPowerCycle w p ctl s) := by
  unfold execTwPowerCycle
  try dsimp only
  repeat' first | (with_reducible first | assumption | apply next_leads | apply ite_leads | apply ite_kept | apply State.cmdTwCtl_kept | (apply foldl_kept; intro _ _ _)) | (apply fst_kept (by assumption)) | split | with_reducible apply State.lit_kept | dsimp only

theorem execTwTransferEnd_leads (p : Fin 8) (result : Fin 5) (n : Fin 257) (data : List Byte) (s : State) (hw : K.P s) :
    Leads K (execTwTransferEnd p result n data s) := by
  unfold execTwTransferEnd
  try dsimp only
  repeat' first | (with_reducible first | assumption | apply next_leads | apply ite_leads | apply ite_kept | apply State.twFill_kept | apply State.twEnd_kept | (apply foldl_kept; intro _ _ _)) | (apply fst_kept (by assumption)) | split | with_reducible apply State.lit_kept | dsimp only

theorem execTwStretchTimeout_leads (p : Fin 8) (n : Fin 257) (s : State) (hw : K.P s) : Leads K (execTwStretchTimeout p n s) := by
  unfold execTwStretchTimeout
  try dsimp only
  repeat' first | (with_reducible first | assumption | apply next_leads | apply ite_leads | apply ite_kept | apply State.twEnd_kept | (apply foldl_kept; intro _ _ _)) | (apply fst_kept (by assumption)) | split | with_reducible apply State.lit_kept | dsimp only

theorem execTwIdleCheck_leads (p : Fin 8) (scl sda : Bool) (s : State) (hw : K.P s) : Leads K (execTwIdleCheck p scl sda s) := by
  unfold execTwIdleCheck
  try dsimp only
  repeat' first | (with_reducible first | assumption | apply next_leads | apply ite_leads | apply ite_kept | apply State.twHang_kept | apply State.twLines_kept | (apply foldl_kept; intro _ _ _)) | (apply fst_kept (by assumption)) | split | with_reducible apply State.lit_kept | dsimp only

theorem execTwSupplyTrip_leads [K.Mem] [K.Cores] (p : Fin 9) (s : State) (hw : K.P s) : Leads K (execTwSupplyTrip p s) := by
  unfold execTwSupplyTrip
  try dsimp only
  repeat' first | (with_reducible first | assumption | apply next_leads | apply ite_leads | apply ite_kept | apply State.keyHang_kept | apply State.twHang_kept | (apply foldl_kept; intro _ _ _)) | (apply fst_kept (by assumption)) | split | with_reducible apply State.lit_kept | dsimp only

theorem execTwCycleSupplyOn_leads (p : Fin 9) (s : State) (hw : K.P s) : Leads K (execTwCycleSupplyOn p s) := by
  unfold execTwCycleSupplyOn
  try dsimp only
  repeat' first | (with_reducible first | assumption | apply next_leads | apply ite_leads | apply ite_kept | apply State.twRail_kept | apply State.keyVcc_kept | apply State.setTw_kept | (apply foldl_kept; intro _ _ _)) | (apply fst_kept (by assumption)) | split | with_reducible apply State.lit_kept | dsimp only

theorem execTwCycleSample_leads [K.Mem] [K.Cores] (p : Fin 9) (scl sda : Bool) (s : State) (hw : K.P s) : Leads K (execTwCycleSample p scl sda s) := by
  unfold execTwCycleSample
  try dsimp only
  repeat' first | (with_reducible first | assumption | apply next_leads | apply ite_leads | apply ite_kept | apply State.put_kept | apply State.keySample_kept | apply State.twLog_kept | apply State.twCycle_kept | apply State.twLines_kept | (apply foldl_kept; intro _ _ _)) | (apply fst_kept (by assumption)) | split | with_reducible apply State.lit_kept | dsimp only

theorem execTwPortStart_leads (p : Fin 8) (scl sda : Bool) (s : State) (hw : K.P s) : Leads K (execTwPortStart p scl sda s) := by
  unfold execTwPortStart
  try dsimp only
  repeat' first | (with_reducible first | assumption | apply next_leads | apply ite_leads | apply ite_kept | apply State.put_kept | apply State.setTw_kept | apply State.twHang_kept | apply State.twLines_kept | (apply foldl_kept; intro _ _ _)) | (apply fst_kept (by assumption)) | split | with_reducible apply State.lit_kept | dsimp only

theorem execModClockUprange_leads (k : Fin 128) (s : State) (hw : K.P s) : Leads K (execModClockUprange k s) := by
  unfold execModClockUprange
  try dsimp only
  repeat' first | (with_reducible first | assumption | apply next_leads | apply ite_leads | apply ite_kept | apply State.put_kept | apply State.incSat_kept | apply State.setChan_kept | (apply foldl_kept; intro _ _ _)) | (apply fst_kept (by assumption)) | split | with_reducible apply State.lit_kept | dsimp only

theorem execScheduledReset_leads (k : Fin 128) (cycle : Word) (r : ResetRead) (s : State) (hw : K.P s) : Leads K (execScheduledReset k cycle r s) := by
  unfold execScheduledReset
  try dsimp only
  repeat' first | (with_reducible first | assumption | apply next_leads | apply ite_leads | apply ite_kept | apply State.setChan_kept | apply State.schedReset_kept | (apply foldl_kept; intro _ _ _)) | (apply fst_kept (by assumption)) | split | with_reducible apply State.lit_kept | dsimp only

theorem execChCmdReset_leads (w : Fin 9) (k : Fin 128) (r : ResetRead) (s : State) (hw : K.P s) : Leads K (execChCmdReset w k r s) := by
  unfold execChCmdReset
  try dsimp only
  repeat' first | (with_reducible first | assumption | apply next_leads | apply ite_leads | apply ite_kept | apply State.cmdChReset_kept | (apply foldl_kept; intro _ _ _)) | (apply fst_kept (by assumption)) | split | with_reducible apply State.lit_kept | dsimp only

theorem execQuietWindowEnd_leads (k : Fin 128) (since : Nat) (r : ResetRead) (s : State) (hw : K.P s) : Leads K (execQuietWindowEnd k since r s) := by
  unfold execQuietWindowEnd
  try dsimp only
  repeat' first | (with_reducible first | assumption | apply next_leads | apply ite_leads | apply ite_kept | apply State.setChan_kept | apply State.resetNow_kept | (apply foldl_kept; intro _ _ _)) | (apply fst_kept (by assumption)) | split | with_reducible apply State.lit_kept | dsimp only

theorem execBlankEnd_leads (k : Fin 128) (s : State) (hw : K.P s) : Leads K (execBlankEnd k s) := by
  unfold execBlankEnd
  try dsimp only
  repeat' first | (with_reducible first | assumption | apply next_leads | apply ite_leads | apply ite_kept | apply State.put_kept | apply State.setChan_kept | (apply foldl_kept; intro _ _ _)) | (apply fst_kept (by assumption)) | split | with_reducible apply State.lit_kept | dsimp only

theorem execMainsSenseEdge_leads (s : State) (hw : K.P s) : Leads K (execMainsSenseEdge s) := by
  unfold execMainsSenseEdge
  try dsimp only
  repeat' first | (with_reducible first | assumption | apply next_leads | apply ite_leads | apply ite_kept | apply State.mainsNote_kept | apply State.mainsUse_kept | (apply foldl_kept; intro _ _ _)) | (apply fst_kept (by assumption)) | split | with_reducible apply State.lit_kept | dsimp only

theorem execMainsSourceFallback_leads (t : Fin 8) (s : State) (hw : K.P s) : Leads K (execMainsSourceFallback t s) := by
  unfold execMainsSourceFallback
  try dsimp only
  repeat' first | (with_reducible first | assumption | apply next_leads | apply ite_leads | apply ite_kept | apply State.mainsUse_kept | (apply foldl_kept; intro _ _ _)) | (apply fst_kept (by assumption)) | split | with_reducible apply State.lit_kept | dsimp only

theorem execMainsLock_leads (t : Fin 8) (mHz : Nat) (s : State) (hw : K.P s) : Leads K (execMainsLock t mHz s) := by
  unfold execMainsLock
  try dsimp only
  repeat' first | (with_reducible first | assumption | apply next_leads | apply ite_leads | apply ite_kept | apply State.mainsSee_kept | apply State.mainsLock_kept | (apply foldl_kept; intro _ _ _)) | (apply fst_kept (by assumption)) | split | with_reducible apply State.lit_kept | dsimp only

theorem execMainsUnlock_leads (t : Fin 8) (peak : Bool) (s : State) (hw : K.P s) : Leads K (execMainsUnlock t peak s) := by
  unfold execMainsUnlock
  try dsimp only
  repeat' first | (with_reducible first | assumption | apply next_leads | apply ite_leads | apply ite_kept | apply State.put_kept | apply State.raiseTile_kept | (apply foldl_kept; intro _ _ _)) | (apply fst_kept (by assumption)) | split | with_reducible apply State.lit_kept | dsimp only

theorem execSampleEmit_leads [K.Mem] (k : Fin 128) (r : SampleRead) (s : State) (hw : K.P s) : Leads K (execSampleEmit k r s) := by
  unfold execSampleEmit
  try dsimp only
  repeat' first | (with_reducible first | assumption | apply next_leads | apply ite_leads | apply ite_kept | apply State.setChan_kept | apply State.emitSample_kept | apply State.mainsSample_kept | (apply foldl_kept; intro _ _ _)) | (apply fst_kept (by assumption)) | split | with_reducible apply State.lit_kept | dsimp only

theorem execSupplyValid_leads (s : State) (hw : K.P s) : Leads K (execSupplyValid s) := by
  unfold execSupplyValid
  try dsimp only
  repeat' first | (with_reducible first | assumption | apply next_leads | apply ite_leads | apply ite_kept | apply State.put_kept | apply State.bootTo_kept | (apply foldl_kept; intro _ _ _)) | (apply fst_kept (by assumption)) | split | with_reducible apply State.lit_kept | dsimp only

theorem execAonRailGood_leads (s : State) (hw : K.P s) : Leads K (execAonRailGood s) := by
  unfold execAonRailGood
  try dsimp only
  repeat' first | (with_reducible first | assumption | apply next_leads | apply ite_leads | apply ite_kept | apply State.bootTo_kept | (apply foldl_kept; intro _ _ _)) | (apply fst_kept (by assumption)) | split | with_reducible apply State.lit_kept | dsimp only

theorem execResonatorOscillating_leads (s : State) (hw : K.P s) : Leads K (execResonatorOscillating s) := by
  unfold execResonatorOscillating
  try dsimp only
  repeat' first | (with_reducible first | assumption | apply next_leads | apply ite_leads | apply ite_kept | apply State.bootTo_kept | apply State.railsOn_kept | (apply foldl_kept; intro _ _ _)) | (apply fst_kept (by assumption)) | split | with_reducible apply State.lit_kept | dsimp only

theorem execRailsGood_leads (s : State) (hw : K.P s) : Leads K (execRailsGood s) := by
  unfold execRailsGood
  try dsimp only
  repeat' first | (with_reducible first | assumption | apply next_leads | apply ite_leads | apply ite_kept | apply State.put_kept | apply State.bootTo_kept | (apply foldl_kept; intro _ _ _)) | (apply fst_kept (by assumption)) | split | with_reducible apply State.lit_kept | dsimp only

theorem execResonatorStable_leads (s : State) (hw : K.P s) : Leads K (execResonatorStable s) := by
  unfold execResonatorStable
  try dsimp only
  repeat' first | (with_reducible first | assumption | apply next_leads | apply ite_leads | apply ite_kept | apply State.bootTo_kept | (apply foldl_kept; intro _ _ _)) | (apply fst_kept (by assumption)) | split | with_reducible apply State.lit_kept | dsimp only

theorem execPllLock_leads (s : State) (hw : K.P s) : Leads K (execPllLock s) := by
  unfold execPllLock
  try dsimp only
  repeat' first | (with_reducible first | assumption | apply next_leads | apply ite_leads | apply ite_kept | apply State.put_kept | apply State.arpGratuitous_kept | apply State.setSpeed_kept | apply State.setBoot_kept | apply State.allDoms_kept | apply State.bootTo_kept | (apply foldl_kept; intro _ _ _)) | (apply fst_kept (by assumption)) | split | with_reducible apply State.lit_kept | dsimp only

theorem execMemoryRepairLoaded_leads (s : State) (hw : K.P s) : Leads K (execMemoryRepairLoaded s) := by
  unfold execMemoryRepairLoaded
  try dsimp only
  repeat' first | (with_reducible first | assumption | apply next_leads | apply ite_leads | apply ite_kept | apply State.bootTo_kept | (apply foldl_kept; intro _ _ _)) | (apply fst_kept (by assumption)) | split | with_reducible apply State.lit_kept | dsimp only

theorem execMemoryInitDone_leads [K.Resets] (s : State) (hw : K.P s) : Leads K (execMemoryInitDone s) := by
  unfold execMemoryInitDone
  try dsimp only
  repeat' first | (with_reducible first | assumption | apply next_leads | apply ite_leads | apply ite_kept | apply State.bootTo_kept | (apply foldl_kept; intro _ _ _)) | (apply fst_kept (by assumption)) | split | with_reducible apply State.lit_kept | dsimp only | exact K.lit { s with mem := [] } _ _ _ _ _ _ _ _ _ _ _ _ _ _ _ _ _ _ _ _ _ _ _ _ _ _ _ _ _ _ _ _ _ _ _ _ _ _ _ _ _ _ _ _ _ _ _ _ _ _ _ (Keep.Resets.zero _ hw)

theorem execScrubBaselineDone_leads (found : List BaselineFind) (s : State) (hw : K.P s) : Leads K (execScrubBaselineDone found s) := by
  unfold execScrubBaselineDone
  try dsimp only
  repeat' first | (with_reducible first | assumption | apply next_leads | apply ite_leads | apply ite_kept | apply State.put_kept | apply State.scrubGo_kept | apply State.bootTo_kept | apply State.bootFail_kept | apply State.baselineLine_kept | (apply foldl_kept; intro _ _ _)) | (apply fst_kept (by assumption)) | split | with_reducible apply State.lit_kept | dsimp only

theorem execLogicRelease_leads [K.Mem] [K.Cores] (s : State) (hw : K.P s) : Leads K (execLogicRelease s) := by
  unfold execLogicRelease
  try dsimp only
  repeat' first | (with_reducible first | assumption | apply next_leads | apply ite_leads | apply ite_kept | apply State.faultHold_kept | apply State.logicRelease_kept | (apply foldl_kept; intro _ _ _)) | (apply fst_kept (by assumption)) | split | with_reducible apply State.lit_kept | dsimp only

theorem execBringupFail_leads (s : State) (hw : K.P s) : Leads K (execBringupFail s) := by
  unfold execBringupFail
  try dsimp only
  repeat' first | (with_reducible first | assumption | apply next_leads | apply ite_leads | apply ite_kept | apply State.bootFail_kept | (apply foldl_kept; intro _ _ _)) | (apply fst_kept (by assumption)) | split | with_reducible apply State.lit_kept | dsimp only

theorem execBringupRetry_leads (s : State) (hw : K.P s) : Leads K (execBringupRetry s) := by
  unfold execBringupRetry
  try dsimp only
  repeat' first | (with_reducible first | assumption | apply next_leads | apply ite_leads | apply ite_kept | apply State.incSat_kept | apply State.setBoot_kept | apply State.railsOn_kept | (apply foldl_kept; intro _ _ _)) | (apply fst_kept (by assumption)) | split | with_reducible apply State.lit_kept | dsimp only

theorem execAonRailCycle_leads (s : State) (hw : K.P s) : Leads K (execAonRailCycle s) := by
  unfold execAonRailCycle
  try dsimp only
  repeat' first | (with_reducible first | assumption | apply next_leads | apply ite_leads | apply ite_kept | apply State.bootTo_kept | (apply foldl_kept; intro _ _ _)) | (apply fst_kept (by assumption)) | split | with_reducible apply State.lit_kept | dsimp only

theorem execWarmReset_leads [K.Resets] (s : State) (hw : K.P s) : Leads K (execWarmReset s) := by
  unfold execWarmReset
  try dsimp only
  repeat' first | (with_reducible first | assumption | apply next_leads | apply ite_leads | apply ite_kept | apply State.warmReset_kept | (apply foldl_kept; intro _ _ _)) | (apply fst_kept (by assumption)) | split | with_reducible apply State.lit_kept | dsimp only

theorem execPllLockLost_leads [K.Mem] [K.Cores] (s : State) (hw : K.P s) : Leads K (execPllLockLost s) := by
  unfold execPllLockLost
  try dsimp only
  repeat' first | (with_reducible first | assumption | apply next_leads | apply ite_leads | apply ite_kept | apply State.put_kept | apply State.raise_kept | apply State.setHost_kept | apply State.setSpeed_kept | apply State.refTo_kept | apply State.faultHold_kept | apply State.setBoot_kept | (apply foldl_kept; intro _ _ _)) | (apply fst_kept (by assumption)) | split | with_reducible apply State.lit_kept | dsimp only

theorem execPllRelockTimeout_leads (s : State) (hw : K.P s) : Leads K (execPllRelockTimeout s) := by
  unfold execPllRelockTimeout
  try dsimp only
  repeat' first | (with_reducible first | assumption | apply next_leads | apply ite_leads | apply ite_kept | apply State.wantReset_kept | (apply foldl_kept; intro _ _ _)) | (apply fst_kept (by assumption)) | split | with_reducible apply State.lit_kept | dsimp only

theorem execHoldTimeout_leads (s : State) (hw : K.P s) : Leads K (execHoldTimeout s) := by
  unfold execHoldTimeout
  try dsimp only
  repeat' first | (with_reducible first | assumption | apply next_leads | apply ite_leads | apply ite_kept | apply State.wantReset_kept | (apply foldl_kept; intro _ _ _)) | (apply fst_kept (by assumption)) | split | with_reducible apply State.lit_kept | dsimp only

theorem execCaptureEdge_leads [K.Mem] (cs : List CapChange) (s : State) (hw : K.P s) : Leads K (execCaptureEdge cs s) := by
  unfold execCaptureEdge
  try dsimp only
  repeat' first | (with_reducible first | assumption | apply next_leads | apply ite_leads | apply ite_kept | apply State.capChanges_kept | apply State.watchBack_kept | (apply foldl_kept; intro _ _ _)) | (apply fst_kept (by assumption)) | split | with_reducible apply State.lit_kept | dsimp only

theorem execCaptureRecordClose_leads (u : Fin 40) (s : State) (hw : K.P s) : Leads K (execCaptureRecordClose u s) := by
  unfold execCaptureRecordClose
  try dsimp only
  repeat' first | (with_reducible first | assumption | apply next_leads | apply ite_leads | apply ite_kept | apply State.capClose_kept | (apply foldl_kept; intro _ _ _)) | (apply fst_kept (by assumption)) | split | with_reducible apply State.lit_kept | dsimp only

theorem execEncoderStopped_leads (e : Fin 4) (s : State) (hw : K.P s) : Leads K (execEncoderStopped e s) := by
  unfold execEncoderStopped
  try dsimp only
  repeat' first | (with_reducible first | assumption | apply next_leads | apply ite_leads | apply ite_kept | apply State.put_kept | apply State.reestimate_kept | apply State.setEnc_kept | apply State.watchNote_kept | (apply foldl_kept; intro _ _ _)) | (apply fst_kept (by assumption)) | split | with_reducible apply State.lit_kept | dsimp only

theorem execTimerStart_leads (w : Fin 9) (t : Fin 8) (n : Fin 4) (s : State) (hw : K.P s) : Leads K (execTimerStart w t n s) := by
  unfold execTimerStart
  try dsimp only
  repeat' first | (with_reducible first | assumption | apply next_leads | apply ite_leads | apply ite_kept | apply State.cmdTimerStart_kept | (apply State.ifTimerWriter_kept; intro _ _) | (apply foldl_kept; intro _ _ _)) | (apply fst_kept (by assumption)) | split | with_reducible apply State.lit_kept | dsimp only

theorem execTimerStop_leads (w : Fin 9) (t : Fin 8) (n : Fin 4) (s : State) (hw : K.P s) : Leads K (execTimerStop w t n s) := by
  unfold execTimerStop
  try dsimp only
  repeat' first | (with_reducible first | assumption | apply next_leads | apply ite_leads | apply ite_kept | apply State.cmdTimerStop_kept | (apply State.ifTimerWriter_kept; intro _ _) | (apply foldl_kept; intro _ _ _)) | (apply fst_kept (by assumption)) | split | with_reducible apply State.lit_kept | dsimp only

theorem execTimerClear_leads (w : Fin 9) (t : Fin 8) (n : Fin 4) (s : State) (hw : K.P s) : Leads K (execTimerClear w t n s) := by
  unfold execTimerClear
  try dsimp only
  repeat' first | (with_reducible first | assumption | apply next_leads | apply ite_leads | apply ite_kept | apply State.cmdTimerClear_kept | (apply State.ifTimerWriter_kept; intro _ _) | (apply foldl_kept; intro _ _ _)) | (apply fst_kept (by assumption)) | split | with_reducible apply State.lit_kept | dsimp only

theorem execTimerPerWrite_leads (w : Fin 9) (t : Fin 8) (n : Fin 4) (v : Word) (s : State) (hw : K.P s) : Leads K (execTimerPerWrite w t n v s) := by
  unfold execTimerPerWrite
  try dsimp only
  repeat' first | (with_reducible first | assumption | apply next_leads | apply ite_leads | apply ite_kept | apply State.cmdTimerPer_kept | (apply State.ifTimerWriter_kept; intro _ _) | (apply foldl_kept; intro _ _ _)) | (apply fst_kept (by assumption)) | split | with_reducible apply State.lit_kept | dsimp only

theorem execTimerCmpWrite_leads (w : Fin 9) (t : Fin 8) (n : Fin 4) (v : Word) (s : State) (hw : K.P s) : Leads K (execTimerCmpWrite w t n v s) := by
  unfold execTimerCmpWrite
  try dsimp only
  repeat' first | (with_reducible first | assumption | apply next_leads | apply ite_leads | apply ite_kept | apply State.cmdTimerCmp_kept | (apply State.ifTimerWriter_kept; intro _ _) | (apply foldl_kept; intro _ _ _)) | (apply fst_kept (by assumption)) | split | with_reducible apply State.lit_kept | dsimp only

theorem execTimerPeriodEnd_leads (t : Fin 8) (n : Fin 4) (s : State) (hw : K.P s) : Leads K (execTimerPeriodEnd t n s) := by
  unfold execTimerPeriodEnd
  try dsimp only
  repeat' first | (with_reducible first | assumption | apply next_leads | apply ite_leads | apply ite_kept | apply State.timerEnd_kept | (apply foldl_kept; intro _ _ _)) | (apply fst_kept (by assumption)) | split | with_reducible apply State.lit_kept | dsimp only

theorem execTimerMatch_leads (t : Fin 8) (n : Fin 4) (s : State) (hw : K.P s) : Leads K (execTimerMatch t n s) := by
  unfold execTimerMatch
  try dsimp only
  repeat' first | (with_reducible first | assumption | apply next_leads | apply ite_leads | apply ite_kept | apply State.timerMatch_kept | (apply foldl_kept; intro _ _ _)) | (apply fst_kept (by assumption)) | split | with_reducible apply State.lit_kept | dsimp only

theorem execActEnterGo_leads (w slot : Fin 9) (ctl : Word) (s : State) (hw : K.P s) : Leads K (execActEnterGo w slot ctl s) := by
  unfold execActEnterGo
  try dsimp only
  repeat' first | (with_reducible first | assumption | apply next_leads | apply ite_leads | apply ite_kept | apply State.cmdEnter_kept | (apply foldl_kept; intro _ _ _)) | (apply fst_kept (by assumption)) | split | with_reducible apply State.lit_kept | dsimp only

theorem execEntryFix_leads (a : Fin 512) (s : State) (hw : K.P s) : Leads K (execEntryFix a s) := by
  unfold execEntryFix
  try dsimp only
  repeat' first | (with_reducible first | assumption | apply next_leads | apply ite_leads | apply ite_kept | apply State.setAct_kept | (apply foldl_kept; intro _ _ _)) | (apply fst_kept (by assumption)) | split | with_reducible apply State.lit_kept | dsimp only

theorem execLaunch_leads (a : Fin 512) (s : State) (hw : K.P s) : Leads K (execLaunch a s) := by
  unfold execLaunch
  try dsimp only
  repeat' first | (with_reducible first | assumption | apply next_leads | apply ite_leads | apply ite_kept | apply State.execute_kept | (apply foldl_kept; intro _ _ _)) | (apply fst_kept (by assumption)) | split | with_reducible apply State.lit_kept | dsimp only

theorem execRetryOutcomeSettle_leads (n : Fin 24) (s : State) (hw : K.P s) : Leads K (execRetryOutcomeSettle n s) := by
  unfold execRetryOutcomeSettle
  try dsimp only
  repeat' first | (with_reducible first | assumption | apply next_leads | apply ite_leads | apply ite_kept | apply State.clearBit_kept | apply State.setOut_kept | apply State.settleCount_kept | apply State.retryRecord_kept | (apply foldl_kept; intro _ _ _)) | (apply fst_kept (by assumption)) | split | with_reducible apply State.lit_kept | dsimp only

theorem execOutputOvercurrent_leads (n : Fin 24) (s : State) (hw : K.P s) : Leads K (execOutputOvercurrent n s) := by
  unfold execOutputOvercurrent
  try dsimp only
  repeat' first | (with_reducible first | assumption | apply next_leads | apply ite_leads | apply ite_kept | apply State.put_kept | apply State.setBit_kept | apply State.setOut_kept | apply State.drive_kept | apply State.outFault_kept | (apply foldl_kept; intro _ _ _)) | (apply fst_kept (by assumption)) | split | with_reducible apply State.lit_kept | dsimp only

theorem execOutputReadbackCheck_leads (n : Fin 24) (level : Bool) (s : State) (hw : K.P s) : Leads K (execOutputReadbackCheck n level s) := by
  unfold execOutputReadbackCheck
  try dsimp only
  repeat' first | (with_reducible first | assumption | apply next_leads | apply ite_leads | apply ite_kept | apply State.put_kept | apply State.setBit_kept | apply State.clearBit_kept | apply State.outFault_kept | (apply foldl_kept; intro _ _ _)) | (apply fst_kept (by assumption)) | split | with_reducible apply State.lit_kept | dsimp only

theorem execOutSupplyLow_leads (s : State) (hw : K.P s) : Leads K (execOutSupplyLow s) := by
  unfold execOutSupplyLow
  try dsimp only
  repeat' first | (with_reducible first | assumption | apply next_leads | apply ite_leads | apply ite_kept | apply State.put_kept | apply State.drive_kept | apply State.outFault_kept | (apply foldl_kept; intro _ _ _)) | (apply fst_kept (by assumption)) | split | with_reducible apply State.lit_kept | dsimp only

theorem execOutSupplyReturn_leads (s : State) (hw : K.P s) : Leads K (execOutSupplyReturn s) := by
  unfold execOutSupplyReturn
  try dsimp only
  repeat' first | (with_reducible first | assumption | apply next_leads | apply ite_leads | apply ite_kept | apply State.put_kept | apply State.drive_kept | (apply foldl_kept; intro _ _ _)) | (apply fst_kept (by assumption)) | split | with_reducible apply State.lit_kept | dsimp only

theorem execRefMeasure_leads (ppb : Int) (s : State) (hw : K.P s) : Leads K (execRefMeasure ppb s) := by
  unfold execRefMeasure
  try dsimp only
  repeat' first | (with_reducible first | assumption | apply next_leads | apply ite_leads | apply ite_kept | apply State.putInt_kept | (apply foldl_kept; intro _ _ _)) | (apply fst_kept (by assumption)) | split | with_reducible apply State.lit_kept | dsimp only

theorem execWalkEnd_leads (s : State) (hw : K.P s) : Leads K (execWalkEnd s) := by
  unfold execWalkEnd
  try dsimp only
  repeat' first | (with_reducible first | assumption | apply next_leads | apply ite_leads | apply ite_kept | apply State.walkBegin_kept | apply State.realigned_kept | (apply foldl_kept; intro _ _ _)) | (apply fst_kept (by assumption)) | split | with_reducible apply State.lit_kept | dsimp only

theorem execBeaconListenEnd_leads (s : State) (hw : K.P s) : Leads K (execBeaconListenEnd s) := by
  unfold execBeaconListenEnd
  try dsimp only
  repeat' first | (with_reducible first | assumption | apply next_leads | apply ite_leads | apply ite_kept | apply State.put_kept | apply State.raiseHerd_kept | apply State.herdMap_kept | (apply foldl_kept; intro _ _ _)) | (apply fst_kept (by assumption)) | split | with_reducible apply State.lit_kept | dsimp only

theorem execFormSend_leads (s : State) (hw : K.P s) : Leads K (execFormSend s) := by
  unfold execFormSend
  try dsimp only
  repeat' first | (with_reducible first | assumption | apply next_leads | apply ite_leads | apply ite_kept | apply State.herdSend_kept | (apply foldl_kept; intro _ _ _)) | (apply fst_kept (by assumption)) | split | with_reducible apply State.lit_kept | dsimp only

theorem execFormingEnd_leads [K.Mem] (s : State) (hw : K.P s) : Leads K (execFormingEnd s) := by
  unfold execFormingEnd
  try dsimp only
  repeat' first | (with_reducible first | assumption | apply next_leads | apply ite_leads | apply ite_kept | apply State.put_kept | apply State.herdMap_kept | apply State.ltStep_kept | apply State.walkBegin_kept | apply State.beaconBegin_kept | (apply foldl_kept; intro _ _ _)) | (apply fst_kept (by assumption)) | split | with_reducible apply State.lit_kept | dsimp only

theorem execBeaconSend_leads (frac : Nat) (s : State) (hw : K.P s) : Leads K (execBeaconSend frac s) := by
  unfold execBeaconSend
  try dsimp only
  repeat' first | (with_reducible first | assumption | apply next_leads | apply ite_leads | apply ite_kept | apply State.lineHold_kept | apply State.beaconBegin_kept | apply State.beaconEnd_kept | apply State.sendBeacon_kept | (apply foldl_kept; intro _ _ _)) | (apply fst_kept (by assumption)) | split | with_reducible apply State.lit_kept | dsimp only

theorem execBeaconRx_leads [K.Mem] (portB : Bool) (f : Frame) (how : CopyEnd) (frac : Fin 256) (resid : Nat) (s : State) (hw : K.P s) :
    Leads K (execBeaconRx portB f how frac resid s) := by
  unfold execBeaconRx
  try dsimp only
  repeat' first | (with_reducible first | assumption | apply next_leads | apply ite_leads | apply ite_kept | apply State.herdMap_kept | apply State.arrived_kept | apply State.forward_kept | apply State.anchorsTake_kept | apply State.deputiesNote_kept | apply State.beaconGood_kept | apply State.beaconMarks_kept | (apply foldl_kept; intro _ _ _)) | (apply fst_kept (by assumption)) | split | with_reducible apply State.lit_kept | dsimp only

theorem execBeaconLoss_leads (s : State) (hw : K.P s) : Leads K (execBeaconLoss s) := by
  unfold execBeaconLoss
  try dsimp only
  repeat' first | (with_reducible first | assumption | apply next_leads | apply ite_leads | apply ite_kept | apply State.put_kept | apply State.incSat_kept | apply State.putPair_kept | apply State.setHoldover_kept | apply State.refTo_kept | apply State.noteSpan_kept | apply State.herdMap_kept | apply State.showSource_kept | (apply foldl_kept; intro _ _ _)) | (apply fst_kept (by assumption)) | split | with_reducible apply State.lit_kept | dsimp only

theorem execClaimRx_leads (portB : Bool) (f : Frame) (how : CopyEnd) (s : State) (hw : K.P s) : Leads K (execClaimRx portB f how s) := by
  unfold execClaimRx
  try dsimp only
  repeat' first | (with_reducible first | assumption | apply next_leads | apply ite_leads | apply ite_kept | apply State.herdMap_kept | (apply State.ringRx_kept; intro _ _) | (apply foldl_kept; intro _ _ _)) | (apply fst_kept (by assumption)) | split | with_reducible apply State.lit_kept | dsimp only

theorem execFormRx_leads (portB : Bool) (f : Frame) (how : CopyEnd) (s : State) (hw : K.P s) : Leads K (execFormRx portB f how s) := by
  unfold execFormRx
  try dsimp only
  repeat' first | (with_reducible first | assumption | apply next_leads | apply ite_leads | apply ite_kept | apply State.herdMap_kept | apply State.arrived_kept | apply State.forward_kept | apply State.formStop_kept | (apply foldl_kept; intro _ _ _)) | (apply fst_kept (by assumption)) | split | with_reducible apply State.lit_kept | dsimp only

theorem execDeputyTakeover_leads (s : State) (hw : K.P s) : Leads K (execDeputyTakeover s) := by
  unfold execDeputyTakeover
  try dsimp only
  repeat' first | (with_reducible first | assumption | apply next_leads | apply ite_leads | apply ite_kept | apply State.incSat_kept | apply State.setHoldover_kept | apply State.noteSpan_kept | apply State.lineHold_kept | apply State.beaconBegin_kept | (apply foldl_kept; intro _ _ _)) | (apply fst_kept (by assumption)) | split | with_reducible apply State.lit_kept | dsimp only

theorem execPortAligned_leads (portB : Bool) (s : State) (hw : K.P s) : Leads K (execPortAligned portB s) := by
  unfold execPortAligned
  try dsimp only
  repeat' first | (with_reducible first | assumption | apply next_leads | apply ite_leads | apply ite_kept | apply State.portTo_kept | apply State.calProbe_kept | (apply foldl_kept; intro _ _ _)) | (apply fst_kept (by assumption)) | split | with_reducible apply State.lit_kept | dsimp only

theorem execPortNoSignal_leads (portB : Bool) (s : State) (hw : K.P s) : Leads K (execPortNoSignal portB s) := by
  unfold execPortNoSignal
  try dsimp only
  repeat' first | (with_reducible first | assumption | apply next_leads | apply ite_leads | apply ite_kept | apply State.portTo_kept | (apply foldl_kept; intro _ _ _)) | (apply fst_kept (by assumption)) | split | with_reducible apply State.lit_kept | dsimp only

theorem execPortCrossed_leads (portB : Bool) (s : State) (hw : K.P s) : Leads K (execPortCrossed portB s) := by
  unfold execPortCrossed
  try dsimp only
  repeat' first | (with_reducible first | assumption | apply next_leads | apply ite_leads | apply ite_kept | apply State.portTo_kept | (apply foldl_kept; intro _ _ _)) | (apply fst_kept (by assumption)) | split | with_reducible apply State.lit_kept | dsimp only

theorem execSignalLost_leads (portB : Bool) (s : State) (hw : K.P s) : Leads K (execSignalLost portB s) := by
  unfold execSignalLost
  try dsimp only
  repeat' first | (with_reducible first | assumption | apply next_leads | apply ite_leads | apply ite_kept | apply State.portTo_kept | (apply foldl_kept; intro _ _ _)) | (apply fst_kept (by assumption)) | split | with_reducible apply State.lit_kept | dsimp only

theorem execCalRx_leads (portB : Bool) (f : Frame) (how : CopyEnd) (stamp : Nat) (s : State) (hw : K.P s) : Leads K (execCalRx portB f how stamp s) := by
  unfold execCalRx
  try dsimp only
  repeat' first | (with_reducible first | assumption | apply next_leads | apply ite_leads | apply ite_kept | apply State.arrived_kept | apply State.calTake_kept | (apply foldl_kept; intro _ _ _)) | (apply fst_kept (by assumption)) | split | with_reducible apply State.lit_kept | dsimp only

theorem execCalTurnaround_leads (portB : Bool) (s : State) (hw : K.P s) : Leads K (execCalTurnaround portB s) := by
  unfold execCalTurnaround
  try dsimp only
  repeat' first | (with_reducible first | assumption | apply next_leads | apply ite_leads | apply ite_kept | apply State.setPort_kept | apply State.sendCal_kept | (apply foldl_kept; intro _ _ _)) | (apply fst_kept (by assumption)) | split | with_reducible apply State.lit_kept | dsimp only

theorem execPulseSend_leads (portB : Bool) (frac : Fin 256) (s : State) (hw : K.P s) : Leads K (execPulseSend portB frac s) := by
  unfold execPulseSend
  try dsimp only
  repeat' first | (with_reducible first | assumption | apply next_leads | apply ite_leads | apply ite_kept | apply State.sendPulse_kept | (apply foldl_kept; intro _ _ _)) | (apply fst_kept (by assumption)) | split | with_reducible apply State.lit_kept | dsimp only

theorem execPulseRx_leads (portB : Bool) (f : Frame) (how : CopyEnd) (frac : Fin 256) (s : State) (hw : K.P s) :
    Leads K (execPulseRx portB f how frac s) := by
  unfold execPulseRx
  try dsimp only
  repeat' first | (with_reducible first | assumption | apply next_leads | apply ite_leads | apply ite_kept | apply State.setPort_kept | apply State.arrived_kept | apply State.pulseTake_kept | (apply foldl_kept; intro _ _ _)) | (apply fst_kept (by assumption)) | split | with_reducible apply State.lit_kept | dsimp only

theorem execPortDown_leads (portB : Bool) (s : State) (hw : K.P s) : Leads K (execPortDown portB s) := by
  unfold execPortDown
  try dsimp only
  repeat' first | (with_reducible first | assumption | apply next_leads | apply ite_leads | apply ite_kept | apply State.portTo_kept | (apply foldl_kept; intro _ _ _)) | (apply fst_kept (by assumption)) | split | with_reducible apply State.lit_kept | dsimp only

theorem execActionRx_leads (portB : Bool) (f : Frame) (how : CopyEnd) (s : State) (hw : K.P s) : Leads K (execActionRx portB f how s) := by
  unfold execActionRx
  try dsimp only
  repeat' first | (with_reducible first | assumption | apply next_leads | apply ite_leads | apply ite_kept | (apply State.ringRx_kept; intro _ _) | apply State.actionTake_kept | (apply foldl_kept; intro _ _ _)) | (apply fst_kept (by assumption)) | split | with_reducible apply State.lit_kept | dsimp only

theorem execHerdAckRx_leads (portB : Bool) (f : Frame) (how : CopyEnd) (s : State) (hw : K.P s) : Leads K (execHerdAckRx portB f how s) := by
  unfold execHerdAckRx
  try dsimp only
  repeat' first | (with_reducible first | assumption | apply next_leads | apply ite_leads | apply ite_kept | (apply State.ringRx_kept; intro _ _) | apply State.ackTake_kept | (apply foldl_kept; intro _ _ _)) | (apply fst_kept (by assumption)) | split | with_reducible apply State.lit_kept | dsimp only

theorem execActionRetry_leads (req : Word) (s : State) (hw : K.P s) : Leads K (execActionRetry req s) := by
  unfold execActionRetry
  try dsimp only
  repeat' first | (with_reducible first | assumption | apply next_leads | apply ite_leads | apply ite_kept | apply State.incSat_kept | apply State.sendReqs_kept | apply State.herdMap_kept | apply State.reqEnd_kept | (apply foldl_kept; intro _ _ _)) | (apply fst_kept (by assumption)) | split | with_reducible apply State.lit_kept | dsimp only

theorem execUnansweredFrameExpiry_leads (fseq : Word) (s : State) (hw : K.P s) : Leads K (execUnansweredFrameExpiry fseq s) := by
  unfold execUnansweredFrameExpiry
  try dsimp only
  repeat' first | (with_reducible first | assumption | apply next_leads | apply ite_leads | apply ite_kept | apply State.sendReqs_kept | apply State.herdMap_kept | (apply foldl_kept; intro _ _ _)) | (apply fst_kept (by assumption)) | split | with_reducible apply State.lit_kept | dsimp only

theorem execRecordRx_leads (portB : Bool) (f : Frame) (how : CopyEnd) (s : State) (hw : K.P s) : Leads K (execRecordRx portB f how s) := by
  unfold execRecordRx
  try dsimp only
  repeat' first | (with_reducible first | assumption | apply next_leads | apply ite_leads | apply ite_kept | (apply State.ringRx_kept; intro _ _) | apply State.recordAccept_kept | apply State.recordCut_kept | (apply foldl_kept; intro _ _ _)) | (apply fst_kept (by assumption)) | split | with_reducible apply State.lit_kept | dsimp only

theorem execSubscriptionExpiry_leads [K.Mem] (n : Fin 4) (s : State) (hw : K.P s) : Leads K (execSubscriptionExpiry n s) := by
  unfold execSubscriptionExpiry
  try dsimp only
  repeat' first | (with_reducible first | assumption | apply next_leads | apply ite_leads | apply ite_kept | apply State.subAvail_kept | (apply foldl_kept; intro _ _ _)) | (apply fst_kept (by assumption)) | split | with_reducible apply State.lit_kept | dsimp only

theorem execLaneDecision_leads (n : Fin 16) (s : State) (hw : K.P s) : Leads K (execLaneDecision n s) := by
  unfold execLaneDecision
  try dsimp only
  repeat' first | (with_reducible first | assumption | apply next_leads | apply ite_leads | apply ite_kept | apply State.laneHold_kept | apply State.laneDecide_kept | (apply foldl_kept; intro _ _ _)) | (apply fst_kept (by assumption)) | split | with_reducible apply State.lit_kept | dsimp only

theorem execKeyLoadEntry_leads [K.Mem] [K.Cores] (present : Bool) (s : State) (hw : K.P s) : Leads K (execKeyLoadEntry present s) := by
  unfold execKeyLoadEntry
  try dsimp only
  repeat' first | (with_reducible first | assumption | apply next_leads | apply ite_leads | apply ite_kept | apply State.putB_kept | apply State.setCond_kept | apply State.setDom_kept | apply State.keyBegin_kept | (apply foldl_kept; intro _ _ _)) | (apply fst_kept (by assumption)) | split | with_reducible apply State.lit_kept | dsimp only

theorem execKeyInsert_leads [K.Mem] [K.Cores] (s : State) (hw : K.P s) : Leads K (execKeyInsert s) := by
  unfold execKeyInsert
  try dsimp only
  repeat' first | (with_reducible first | assumption | apply next_leads | apply ite_leads | apply ite_kept | apply State.put_kept | apply State.raise_kept | apply State.setKey_kept | apply State.keyBegin_kept | apply State.keyStage_kept | (apply foldl_kept; intro _ _ _)) | (apply fst_kept (by assumption)) | split | with_reducible apply State.lit_kept | dsimp only

theorem execKeyRemove_leads [K.Mem] [K.Cores] (s : State) (hw : K.P s) : Leads K (execKeyRemove s) := by
  unfold execKeyRemove
  try dsimp only
  repeat' first | (with_reducible first | assumption | apply next_leads | apply ite_leads | apply ite_kept | apply State.put_kept | apply State.raise_kept | apply State.keyVcc_kept | apply State.setKey_kept | apply State.keyRefuse_kept | (apply foldl_kept; intro _ _ _)) | (apply fst_kept (by assumption)) | split | with_reducible apply State.lit_kept | dsimp only

theorem execKeyReadStart_leads [K.Mem] [K.Cores] (scl sda : Bool) (s : State) (hw : K.P s) : Leads K (execKeyReadStart scl sda s) := by
  unfold execKeyReadStart
  try dsimp only
  repeat' first | (with_reducible first | assumption | apply next_leads | apply ite_leads | apply ite_kept | apply State.putB_kept | apply State.keyRead_kept | apply State.keyHang_kept | (apply foldl_kept; intro _ _ _)) | (apply fst_kept (by assumption)) | split | with_reducible apply State.lit_kept | dsimp only

theorem execKeyBlockReadEnd_leads [K.Mem] [K.Cores] (bytes : List Byte) (s : State) (hw : K.P s) : Leads K (execKeyBlockReadEnd bytes s) := by
  unfold execKeyBlockReadEnd
  try dsimp only
  repeat' first | (with_reducible first | assumption | apply next_leads | apply ite_leads | apply ite_kept | apply State.keyBlock_kept | (apply foldl_kept; intro _ _ _)) | (apply fst_kept (by assumption)) | split | with_reducible apply State.lit_kept | dsimp only

theorem execKeyReadFail_leads [K.Mem] [K.Cores] (got : List Byte) (s : State) (hw : K.P s) : Leads K (execKeyReadFail got s) := by
  unfold execKeyReadFail
  try dsimp only
  repeat' first | (with_reducible first | assumption | apply next_leads | apply ite_leads | apply ite_kept | apply State.keyFail_kept | (apply foldl_kept; intro _ _ _)) | (apply fst_kept (by assumption)) | split | with_reducible apply State.lit_kept | dsimp only

theorem execSignatureCheckEnd_leads [K.Mem] [K.Cores] (s : State) (hw : K.P s) : Leads K (execSignatureCheckEnd s) := by
  unfold execSignatureCheckEnd
  try dsimp only
  repeat' first | (with_reducible first | assumption | apply next_leads | apply ite_leads | apply ite_kept | apply State.setKey_kept | apply State.keyRefuse_kept | apply State.keyWaits_kept | (apply foldl_kept; intro _ _ _)) | (apply fst_kept (by assumption)) | split | with_reducible apply State.lit_kept | dsimp only

theorem execKeyChecksEnd_leads [K.Mem] [K.Cores] (s : State) (hw : K.P s) : Leads K (execKeyChecksEnd s) := by
  unfold execKeyChecksEnd
  try dsimp only
  repeat' first | (with_reducible first | assumption | apply next_leads | apply ite_leads | apply ite_kept | apply State.wr_kept | apply State.put_kept | apply State.raise_kept | apply State.store_kept | apply State.setKey_kept | apply State.keyRest_kept | apply State.keyRefuse_kept | apply State.keyWaits_kept | apply State.stagedThen_kept | (apply foldl_kept; intro _ _ _)) | (apply fst_kept (by assumption)) | split | with_reducible apply State.lit_kept | dsimp only

theorem execKeyCommitEnd_leads [K.Mem] [K.Cores] (s : State) (hw : K.P s) : Leads K (execKeyCommitEnd s) := by
  unfold execKeyCommitEnd
  try dsimp only
  repeat' first | (with_reducible first | assumption | apply next_leads | apply ite_leads | apply ite_kept | apply State.put_kept | apply State.store_kept | apply State.keyVcc_kept | apply State.setKey_kept | apply State.imageApply_kept | (apply foldl_kept; intro _ _ _)) | (apply fst_kept (by assumption)) | split | with_reducible apply State.lit_kept | dsimp only

theorem execCoresStart_leads [K.Mem] [K.Cores] (s : State) (hw : K.P s) : Leads K (execCoresStart s) := by
  unfold execCoresStart
  try dsimp only
  repeat' first | (with_reducible first | assumption | apply next_leads | apply ite_leads | apply ite_kept | apply State.put_kept | apply State.raise_kept | apply State.setCond_kept | apply State.setRun_kept | apply State.setCo_kept | apply State.coresStart_kept | apply State.lanesHold_kept | apply State.keyRest_kept | apply State.keyWaits_kept | apply State.watchFollow_kept | (apply foldl_kept; intro _ _ _)) | (apply fst_kept (by assumption)) | split | with_reducible apply State.lit_kept | dsimp only

theorem execStage_leads [K.Mem] [K.Cores] (w : Fin 9) (s : State) (hw : K.P s) : Leads K (execStage w s) := by
  unfold execStage
  try dsimp only
  repeat' first | (with_reducible first | assumption | apply next_leads | apply ite_leads | apply ite_kept | apply State.cmdStage_kept | (apply foldl_kept; intro _ _ _)) | (apply fst_kept (by assumption)) | split | with_reducible apply State.lit_kept | dsimp only

theorem execKeyPowerCycle_leads (w : Fin 9) (s : State) (hw : K.P s) : Leads K (execKeyPowerCycle w s) := by
  unfold execKeyPowerCycle
  try dsimp only
  repeat' first | (with_reducible first | assumption | apply next_leads | apply ite_leads | apply ite_kept | apply State.cmdKeyCycle_kept | (apply foldl_kept; intro _ _ _)) | (apply fst_kept (by assumption)) | split | with_reducible apply State.lit_kept | dsimp only

theorem execKeyCmdChangeover_leads (w : Fin 9) (s : State) (hw : K.P s) : Leads K (execKeyCmdChangeover w s) := by
  unfold execKeyCmdChangeover
  try dsimp only
  repeat' first | (with_reducible first | assumption | apply next_leads | apply ite_leads | apply ite_kept | apply State.cmdChangeover_kept | (apply foldl_kept; intro _ _ _)) | (apply fst_kept (by assumption)) | split | with_reducible apply State.lit_kept | dsimp only

theorem execKeyPortHang_leads [K.Mem] [K.Cores] (cause : Fin 3) (got : List Byte) (s : State) (hw : K.P s) : Leads K (execKeyPortHang cause got s) := by
  unfold execKeyPortHang
  try dsimp only
  repeat' first | (with_reducible first | assumption | apply next_leads | apply ite_leads | apply ite_kept | apply State.keyHang_kept | (apply foldl_kept; intro _ _ _)) | (apply fst_kept (by assumption)) | split | with_reducible apply State.lit_kept | dsimp only

theorem execReloadStart_leads [K.Mem] [K.Cores] (s : State) (hw : K.P s) : Leads K (execReloadStart s) := by
  unfold execReloadStart
  try dsimp only
  repeat' first | (with_reducible first | assumption | apply next_leads | apply ite_leads | apply ite_kept | apply State.setCo_kept | apply State.reloadStart_kept | apply State.keyWaits_kept | (apply foldl_kept; intro _ _ _)) | (apply fst_kept (by assumption)) | split | with_reducible apply State.lit_kept | dsimp only

theorem execReloadDrainEnd_leads [K.Mem] [K.Cores] (s : State) (hw : K.P s) : Leads K (execReloadDrainEnd s) := by
  unfold execReloadDrainEnd
  try dsimp only
  repeat' first | (with_reducible first | assumption | apply next_leads | apply ite_leads | apply ite_kept | apply State.reloadDrained_kept | (apply foldl_kept; intro _ _ _)) | (apply fst_kept (by assumption)) | split | with_reducible apply State.lit_kept | dsimp only

theorem execReloadApply_leads [K.Mem] [K.Cores] (s : State) (hw : K.P s) : Leads K (execReloadApply s) := by
  unfold execReloadApply
  try dsimp only
  repeat' first | (with_reducible first | assumption | apply next_leads | apply ite_leads | apply ite_kept | apply State.reloadApply_kept | (apply foldl_kept; intro _ _ _)) | (apply fst_kept (by assumption)) | split | with_reducible apply State.lit_kept | dsimp only

theorem execChangeoverAccept_leads [K.Mem] [K.Cores] (s : State) (hw : K.P s) : Leads K (execChangeoverAccept s) := by
  unfold execChangeoverAccept
  try dsimp only
  repeat' first | (with_reducible first | assumption | apply next_leads | apply ite_leads | apply ite_kept | apply State.setCo_kept | apply State.coAccept_kept | apply State.keyWaits_kept | (apply foldl_kept; intro _ _ _)) | (apply fst_kept (by assumption)) | split | with_reducible apply State.lit_kept | dsimp only

theorem execHubSwitchEnd_leads [K.Mem] [K.Cores] (s : State) (hw : K.P s) : Leads K (execHubSwitchEnd s) := by
  unfold execHubSwitchEnd
  try dsimp only
  repeat' first | (with_reducible first | assumption | apply next_leads | apply ite_leads | apply ite_kept | apply State.hubSwitch_kept | apply State.keyWaits_kept | apply State.watchFollow_kept | (apply foldl_kept; intro _ _ _)) | (apply fst_kept (by assumption)) | split | with_reducible apply State.lit_kept | dsimp only

theorem execTileReloadStart_leads [K.Mem] [K.Cores] (t : Fin 8) (s : State) (hw : K.P s) : Leads K (execTileReloadStart t s) := by
  unfold execTileReloadStart
  try dsimp only
  repeat' first | (with_reducible first | assumption | apply next_leads | apply ite_leads | apply ite_kept | apply State.tileTurn_kept | (apply foldl_kept; intro _ _ _)) | (apply fst_kept (by assumption)) | split | with_reducible apply State.lit_kept | dsimp only

theorem execTileReloadDrainEnd_leads [K.Mem] (t : Fin 8) (s : State) (hw : K.P s) : Leads K (execTileReloadDrainEnd t s) := by
  unfold execTileReloadDrainEnd
  try dsimp only
  repeat' first | (with_reducible first | assumption | apply next_leads | apply ite_leads | apply ite_kept | apply State.tileTurnDrained_kept | (apply foldl_kept; intro _ _ _)) | (apply fst_kept (by assumption)) | split | with_reducible apply State.lit_kept | dsimp only

theorem execTileReloadApply_leads [K.Mem] [K.Cores] (t : Fin 8) (s : State) (hw : K.P s) : Leads K (execTileReloadApply t s) := by
  unfold execTileReloadApply
  try dsimp only
  repeat' first | (with_reducible first | assumption | apply next_leads | apply ite_leads | apply ite_kept | apply State.keyWaits_kept | apply State.tileTurnApply_kept | apply State.watchFollow_kept | (apply foldl_kept; intro _ _ _)) | (apply fst_kept (by assumption)) | split | with_reducible apply State.lit_kept | dsimp only

theorem execTileReloadEnd_leads [K.Mem] [K.Cores] (t : Fin 8) (s : State) (hw : K.P s) : Leads K (execTileReloadEnd t s) := by
  unfold execTileReloadEnd
  try dsimp only
  repeat' first | (with_reducible first | assumption | apply next_leads | apply ite_leads | apply ite_kept | apply State.setTile_kept | apply State.tileStart_kept | apply State.tileTurnEnd_kept | apply State.keyWaits_kept | apply State.watchFollow_kept | (apply foldl_kept; intro _ _ _)) | (apply fst_kept (by assumption)) | split | with_reducible apply State.lit_kept | dsimp only

theorem execLinkUp_leads (gig : Bool) (s : State) (hw : K.P s) : Leads K (execLinkUp gig s) := by
  unfold execLinkUp
  try dsimp only
  repeat' first | (with_reducible first | assumption | apply next_leads | apply ite_leads | apply ite_kept | apply State.arpGratuitous_kept | apply State.setSpeed_kept | (apply foldl_kept; intro _ _ _)) | (apply fst_kept (by assumption)) | split | with_reducible apply State.lit_kept | dsimp only

theorem execLinkDown_leads (s : State) (hw : K.P s) : Leads K (execLinkDown s) := by
  unfold execLinkDown
  try dsimp only
  repeat' first | (with_reducible first | assumption | apply next_leads | apply ite_leads | apply ite_kept | apply State.setHost_kept | apply State.setSpeed_kept | (apply foldl_kept; intro _ _ _)) | (apply fst_kept (by assumption)) | split | with_reducible apply State.lit_kept | dsimp only

theorem execArpRx_leads (p : ArpPacket) (s : State) (hw : K.P s) : Leads K (execArpRx p s) := by
  unfold execArpRx
  try dsimp only
  repeat' first | (with_reducible first | assumption | apply next_leads | apply ite_leads | apply ite_kept | (apply State.frameTake_kept; intro _ _) | apply State.arpRx_kept | (apply foldl_kept; intro _ _ _)) | (apply fst_kept (by assumption)) | split | with_reducible apply State.lit_kept | dsimp only

theorem execArpDefend_leads (s : State) (hw : K.P s) : Leads K (execArpDefend s) := by
  unfold execArpDefend
  try dsimp only
  repeat' first | (with_reducible first | assumption | apply next_leads | apply ite_leads | apply ite_kept | apply State.setHost_kept | apply State.arpGratuitous_kept | (apply foldl_kept; intro _ _ _)) | (apply fst_kept (by assumption)) | split | with_reducible apply State.lit_kept | dsimp only

theorem execAddrConflictClear_leads (s : State) (hw : K.P s) : Leads K (execAddrConflictClear s) := by
  unfold execAddrConflictClear
  try dsimp only
  repeat' first | (with_reducible first | assumption | apply next_leads | apply ite_leads | apply ite_kept | apply State.put_kept | (apply foldl_kept; intro _ _ _)) | (apply fst_kept (by assumption)) | split | with_reducible apply State.lit_kept | dsimp only

theorem execArpCacheTimeout_leads (i : Fin 8) (s : State) (hw : K.P s) : Leads K (execArpCacheTimeout i s) := by
  unfold execArpCacheTimeout
  try dsimp only
  repeat' first | (with_reducible first | assumption | apply next_leads | apply ite_leads | apply ite_kept | apply State.setHost_kept | apply State.hostEmit_kept | (apply foldl_kept; intro _ _ _)) | (apply fst_kept (by assumption)) | split | with_reducible apply State.lit_kept | dsimp only

theorem execEchoRequest_leads (f : HostFrame) (x : IpPacket) (s : State) (hw : K.P s) : Leads K (execEchoRequest f x s) := by
  unfold execEchoRequest
  try dsimp only
  repeat' first | (with_reducible first | assumption | apply next_leads | apply ite_leads | apply ite_kept | apply State.badDgram_kept | (apply State.frameTake_kept; intro _ _) | apply State.echoAnswer_kept | (apply foldl_kept; intro _ _ _)) | (apply fst_kept (by assumption)) | split | with_reducible apply State.lit_kept | dsimp only

theorem execOpenSession_leads (dg : Dgram) (window : Nat) (raw : Bool) (prev : Word) (s : State) (hw : K.P s) :
    Leads K (execOpenSession dg window raw prev s) := by
  unfold execOpenSession
  try dsimp only
  repeat' first | (with_reducible first | assumption | apply next_leads | apply ite_leads | apply ite_kept | (apply State.dgramTake_kept; intro _ _) | apply State.openTake_kept | (apply foldl_kept; intro _ _ _)) | (apply fst_kept (by assumption)) | split | with_reducible apply State.lit_kept | dsimp only

theorem execCloseSession_leads (dg : Dgram) (s : State) (hw : K.P s) : Leads K (execCloseSession dg s) := by
  unfold execCloseSession
  try dsimp only
  repeat' first | (with_reducible first | assumption | apply next_leads | apply ite_leads | apply ite_kept | apply State.setSession_kept | (apply State.sessionTake_kept; intro _ _) | apply State.heard_kept | (apply foldl_kept; intro _ _ _)) | (apply fst_kept (by assumption)) | split | with_reducible apply State.lit_kept | dsimp only

theorem execSessionIdle_leads (s : State) (hw : K.P s) : Leads K (execSessionIdle s) := by
  unfold execSessionIdle
  try dsimp only
  repeat' first | (with_reducible first | assumption | apply next_leads | apply ite_leads | apply ite_kept | apply State.setSession_kept | (apply foldl_kept; intro _ _ _)) | (apply fst_kept (by assumption)) | split | with_reducible apply State.lit_kept | dsimp only

theorem execHostCmdClose_leads (w : Fin 9) (s : State) (hw : K.P s) : Leads K (execHostCmdClose w s) := by
  unfold execHostCmdClose
  try dsimp only
  repeat' first | (with_reducible first | assumption | apply next_leads | apply ite_leads | apply ite_kept | apply State.cmdHostClose_kept | (apply foldl_kept; intro _ _ _)) | (apply fst_kept (by assumption)) | split | with_reducible apply State.lit_kept | dsimp only

theorem execBatchClose_leads (raw : Bool) (s : State) (hw : K.P s) : Leads K (execBatchClose raw s) := by
  unfold execBatchClose
  try dsimp only
  repeat' first | (with_reducible first | assumption | apply next_leads | apply ite_leads | apply ite_kept | apply State.batchClose_kept | (apply foldl_kept; intro _ _ _)) | (apply fst_kept (by assumption)) | split | with_reducible apply State.lit_kept | dsimp only

theorem execHostAck_leads (dg : Dgram) (cum : Word) (window : Nat) (entries : List AckEntry) (s : State) (hw : K.P s) :
    Leads K (execHostAck dg cum window entries s) := by
  unfold execHostAck
  try dsimp only
  repeat' first | (with_reducible first | assumption | apply next_leads | apply ite_leads | apply ite_kept | (apply State.sessionTake_kept; intro _ _) | apply State.hostAckTake_kept | (apply foldl_kept; intro _ _ _)) | (apply fst_kept (by assumption)) | split | with_reducible apply State.lit_kept | dsimp only

theorem execDataSend_leads (s : State) (hw : K.P s) : Leads K (execDataSend s) := by
  unfold execDataSend
  try dsimp only
  repeat' first | (with_reducible first | assumption | apply next_leads | apply ite_leads | apply ite_kept | apply State.setHost_kept | apply State.toPeer_kept | apply State.showOutstanding_kept | (apply foldl_kept; intro _ _ _)) | (apply fst_kept (by assumption)) | split | with_reducible apply State.lit_kept | dsimp only

theorem execRetransmit_leads (s : State) (hw : K.P s) : Leads K (execRetransmit s) := by
  unfold execRetransmit
  try dsimp only
  repeat' first | (with_reducible first | assumption | apply next_leads | apply ite_leads | apply ite_kept | apply State.batchAgain_kept | (apply foldl_kept; intro _ _ _)) | (apply fst_kept (by assumption)) | split | with_reducible apply State.lit_kept | dsimp only

theorem execParkExpiry_leads [K.Mem] (s : State) (hw : K.P s) : Leads K (execParkExpiry s) := by
  unfold execParkExpiry
  try dsimp only
  repeat' first | (with_reducible first | assumption | apply next_leads | apply ite_leads | apply ite_kept | apply State.parkExpire_kept | (apply foldl_kept; intro _ _ _)) | (apply fst_kept (by assumption)) | split | with_reducible apply State.lit_kept | dsimp only

theorem execLogRead_leads (dg : Dgram) (req arg0 arg1 : Word) (resv : Bool) (s : State) (hw : K.P s) : Leads K (execLogRead dg req arg0 arg1 resv s) := by
  unfold execLogRead
  try dsimp only
  repeat' first | (with_reducible first | assumption | apply next_leads | apply ite_leads | apply ite_kept | apply State.logTouch_kept | (apply State.request_kept; intro _ _) | apply State.reply_kept | (apply foldl_kept; intro _ _ _)) | (apply fst_kept (by assumption)) | split | with_reducible apply State.lit_kept | dsimp only

theorem execHealth_leads (dg : Dgram) (req : Word) (form : ReqForm) (s : State) (hw : K.P s) : Leads K (execHealth dg req form s) := by
  unfold execHealth
  try dsimp only
  repeat' first | (with_reducible first | assumption | apply next_leads | apply ite_leads | apply ite_kept | (apply State.request_kept; intro _ _) | apply State.reply_kept | (apply foldl_kept; intro _ _ _)) | (apply fst_kept (by assumption)) | split | with_reducible apply State.lit_kept | dsimp only

end Sys2Proof.Machine
end

