-- ==== Sys2Proof/Laws/KeepExecB.lean ====
section
/-! SUPPORT. What each meaning keeps, second half. -/

set_option Elab.async false
set_option linter.unusedTactic false
set_option linter.unreachableTactic false
set_option linter.unusedVariables false

namespace Sys2Proof.Machine

variable {K : Keep}

theorem execReload_leads [K.Mem] [K.Cores] (dg : Dgram) (req : Word) (resv : Bool) (s : State) (hw : K.P s) : Leads K (execReload dg req resv s) := by
  unfold execReload
  try dsimp only
  repeat' first | (with_reducible first | assumption | apply next_leads | apply ite_leads | apply ite_kept | (apply State.request_kept; intro _ _) | apply State.hostKey_kept | (apply foldl_kept; intro _ _ _)) | (apply fst_kept (by assumption)) | split | with_reducible apply State.lit_kept | dsimp only

theorem execHostReqChangeover_leads [K.Mem] [K.Cores] (dg : Dgram) (req : Word) (resv : Bool) (s : State) (hw : K.P s) :
    Leads K (execHostReqChangeover dg req resv s) := by
  unfold execHostReqChangeover
  try dsimp only
  repeat' first | (with_reducible first | assumption | apply next_leads | apply ite_leads | apply ite_kept | (apply State.request_kept; intro _ _) | apply State.hostKey_kept | (apply foldl_kept; intro _ _ _)) | (apply fst_kept (by assumption)) | split | with_reducible apply State.lit_kept | dsimp only

theorem execHeartbeat_leads (s : State) (hw : K.P s) : Leads K (execHeartbeat s) := by
  unfold execHeartbeat
  try dsimp only
  repeat' first | (with_reducible first | assumption | apply next_leads | apply ite_leads | apply ite_kept | apply State.udpTo_kept | apply State.toPeer_kept | (apply foldl_kept; intro _ _ _)) | (apply fst_kept (by assumption)) | split | with_reducible apply State.lit_kept | dsimp only

theorem execHostCmdWake_leads (w : Fin 9) (s : State) (hw : K.P s) : Leads K (execHostCmdWake w s) := by
  unfold execHostCmdWake
  try dsimp only
  repeat' first | (with_reducible first | assumption | apply next_leads | apply ite_leads | apply ite_kept | apply State.cmdHostWake_kept | (apply foldl_kept; intro _ _ _)) | (apply fst_kept (by assumption)) | split | with_reducible apply State.lit_kept | dsimp only

theorem execMagicPacketRepeat_leads (s : State) (hw : K.P s) : Leads K (execMagicPacketRepeat s) := by
  unfold execMagicPacketRepeat
  try dsimp only
  repeat' first | (with_reducible first | assumption | apply next_leads | apply ite_leads | apply ite_kept | apply State.setHost_kept | apply State.magicSend_kept | (apply foldl_kept; intro _ _ _)) | (apply fst_kept (by assumption)) | split | with_reducible apply State.lit_kept | dsimp only

theorem execHostWakeRelease_leads (s : State) (hw : K.P s) : Leads K (execHostWakeRelease s) := by
  unfold execHostWakeRelease
  try dsimp only
  repeat' first | (with_reducible first | assumption | apply next_leads | apply ite_leads | apply ite_kept | apply State.put_kept | apply State.setHost_kept | (apply foldl_kept; intro _ _ _)) | (apply fst_kept (by assumption)) | split | with_reducible apply State.lit_kept | dsimp only

theorem execWakeRepeat_leads (s : State) (hw : K.P s) : Leads K (execWakeRepeat s) := by
  unfold execWakeRepeat
  try dsimp only
  repeat' first | (with_reducible first | assumption | apply next_leads | apply ite_leads | apply ite_kept | apply State.put_kept | apply State.wakeStart_kept | (apply foldl_kept; intro _ _ _)) | (apply fst_kept (by assumption)) | split | with_reducible apply State.lit_kept | dsimp only

theorem execTileRestartDrainEnd_leads [K.Mem] [K.Cores] (t : Fin 8) (s : State) (hw : K.P s) : Leads K (execTileRestartDrainEnd t s) := by
  unfold execTileRestartDrainEnd
  try dsimp only
  repeat' first | (with_reducible first | assumption | apply next_leads | apply ite_leads | apply ite_kept | apply State.restartDrained_kept | (apply foldl_kept; intro _ _ _)) | (apply fst_kept (by assumption)) | split | with_reducible apply State.lit_kept | dsimp only

theorem execTileRestartApply_leads [K.Mem] [K.Cores] (t : Fin 8) (ups : List StoreUpset) (s : State) (hw : K.P s) :
    Leads K (execTileRestartApply t ups s) := by
  unfold execTileRestartApply
  try dsimp only
  repeat' first | (with_reducible first | assumption | apply next_leads | apply ite_leads | apply ite_kept | apply State.tileApply_kept | apply State.storeUpset_kept | (apply foldl_kept; intro _ _ _)) | (apply fst_kept (by assumption)) | split | with_reducible apply State.lit_kept | dsimp only

theorem execTileBack_leads [K.Mem] [K.Cores] (t : Fin 8) (s : State) (hw : K.P s) : Leads K (execTileBack t s) := by
  unfold execTileBack
  try dsimp only
  repeat' first | (with_reducible first | assumption | apply next_leads | apply ite_leads | apply ite_kept | apply State.raise_kept | apply State.logWrite_kept | apply State.setTile_kept | apply State.markResumes_kept | apply State.afeLower_kept | apply State.setTileRun_kept | apply State.tileStart_kept | apply State.watchFollow_kept | (apply foldl_kept; intro _ _ _)) | (apply fst_kept (by assumption)) | split | with_reducible apply State.lit_kept | dsimp only

theorem execWatchOn_leads [K.Mem] (w : Fin 9) (s : State) (hw : K.P s) : Leads K (execWatchOn w s) := by
  unfold execWatchOn
  try dsimp only
  repeat' first | (with_reducible first | assumption | apply next_leads | apply ite_leads | apply ite_kept | apply State.cmdMod_kept | (apply foldl_kept; intro _ _ _)) | (apply fst_kept (by assumption)) | split | with_reducible apply State.lit_kept | dsimp only

theorem execWatchOff_leads [K.Mem] (w : Fin 9) (s : State) (hw : K.P s) : Leads K (execWatchOff w s) := by
  unfold execWatchOff
  try dsimp only
  repeat' first | (with_reducible first | assumption | apply next_leads | apply ite_leads | apply ite_kept | apply State.cmdMod_kept | (apply foldl_kept; intro _ _ _)) | (apply fst_kept (by assumption)) | split | with_reducible apply State.lit_kept | dsimp only

theorem execAutoWatchExpiry_leads [K.Mem] (s : State) (hw : K.P s) : Leads K (execAutoWatchExpiry s) := by
  unfold execAutoWatchExpiry
  try dsimp only
  repeat' first | (with_reducible first | assumption | apply next_leads | apply ite_leads | apply ite_kept | apply State.watchNote_kept | apply State.setWatch_kept | apply State.watchSettle_kept | apply State.watchBack_kept | (apply foldl_kept; intro _ _ _)) | (apply fst_kept (by assumption)) | split | with_reducible apply State.lit_kept | dsimp only

theorem execWatchEntryRetry_leads (s : State) (hw : K.P s) : Leads K (execWatchEntryRetry s) := by
  unfold execWatchEntryRetry
  try dsimp only
  repeat' first | (with_reducible first | assumption | apply next_leads | apply ite_leads | apply ite_kept | apply State.watchEnter_kept | (apply foldl_kept; intro _ _ _)) | (apply fst_kept (by assumption)) | split | with_reducible apply State.lit_kept | dsimp only

theorem execSvcWriteTransfer_leads [K.Mem] [K.Cores] (enable : Bool) (bytes : List Byte) (s : State) (hw : K.P s) :
    Leads K (execSvcWriteTransfer enable bytes s) := by
  unfold execSvcWriteTransfer
  try dsimp only
  repeat' first | (with_reducible first | assumption | apply next_leads | apply ite_leads | apply ite_kept | apply State.incWrap_kept | apply State.setSvc_kept | apply State.enabled_kept | apply State.svcWrite_kept | (apply State.svcDo_kept; intro _ _) | (apply foldl_kept; intro _ _ _)) | (apply fst_kept (by assumption)) | split | with_reducible apply State.lit_kept | dsimp only

theorem execSvcReadTransfer_leads (enable : Bool) (n : Nat) (s : State) (hw : K.P s) : Leads K (execSvcReadTransfer enable n s) := by
  unfold execSvcReadTransfer
  try dsimp only
  repeat' first | (with_reducible first | assumption | apply next_leads | apply ite_leads | apply ite_kept | apply State.incWrap_kept | apply State.freeNext_kept | apply State.emit_kept | apply State.logTouch_kept | apply State.setSvc_kept | apply State.enabled_kept | (apply State.svcDo_kept; intro _ _) | (apply foldl_kept; intro _ _ _)) | (apply fst_kept (by assumption)) | split | with_reducible apply State.lit_kept | dsimp only

theorem execSvcSclStuck_leads (s : State) (hw : K.P s) : Leads K (execSvcSclStuck s) := by
  unfold execSvcSclStuck
  try dsimp only
  repeat' first | (with_reducible first | assumption | apply next_leads | apply ite_leads | apply ite_kept | (apply foldl_kept; intro _ _ _)) | (apply fst_kept (by assumption)) | split | with_reducible apply State.lit_kept | dsimp only

theorem execSvcTake_leads (s : State) (hw : K.P s) : Leads K (execSvcTake s) := by
  unfold execSvcTake
  try dsimp only
  repeat' first | (with_reducible first | assumption | apply next_leads | apply ite_leads | apply ite_kept | apply State.svcTake_kept | (apply State.svcDo_kept; intro _ _) | (apply foldl_kept; intro _ _ _)) | (apply fst_kept (by assumption)) | split | with_reducible apply State.lit_kept | dsimp only

theorem execSvcRelease_leads [K.Mem] (s : State) (hw : K.P s) : Leads K (execSvcRelease s) := by
  unfold execSvcRelease
  try dsimp only
  repeat' first | (with_reducible first | assumption | apply next_leads | apply ite_leads | apply ite_kept | apply State.svcRelease_kept | (apply State.svcDo_kept; intro _ _) | (apply foldl_kept; intro _ _ _)) | (apply fst_kept (by assumption)) | split | with_reducible apply State.lit_kept | dsimp only

theorem execSvcAlive_leads (s : State) (hw : K.P s) : Leads K (execSvcAlive s) := by
  unfold execSvcAlive
  try dsimp only
  repeat' first | (with_reducible first | assumption | apply next_leads | apply ite_leads | apply ite_kept | apply State.svcAlive_kept | (apply State.svcDo_kept; intro _ _) | (apply foldl_kept; intro _ _ _)) | (apply fst_kept (by assumption)) | split | with_reducible apply State.lit_kept | dsimp only

theorem execSvcCommission_leads [K.Mem] [K.Cores] (enable : Bool) (s : State) (hw : K.P s) : Leads K (execSvcCommission enable s) := by
  unfold execSvcCommission
  try dsimp only
  repeat' first | (with_reducible first | assumption | apply next_leads | apply ite_leads | apply ite_kept | apply State.enabled_kept | apply State.svcCommission_kept | (apply State.svcDo_kept; intro _ _) | (apply foldl_kept; intro _ _ _)) | (apply fst_kept (by assumption)) | split | with_reducible apply State.lit_kept | dsimp only

theorem execSvcWarmReset_leads (s : State) (hw : K.P s) : Leads K (execSvcWarmReset s) := by
  unfold execSvcWarmReset
  try dsimp only
  repeat' first | (with_reducible first | assumption | apply next_leads | apply ite_leads | apply ite_kept | apply State.svcWarmReset_kept | (apply State.svcDo_kept; intro _ _) | (apply foldl_kept; intro _ _ _)) | (apply fst_kept (by assumption)) | split | with_reducible apply State.lit_kept | dsimp only

theorem execTakeExpiry_leads (s : State) (hw : K.P s) : Leads K (execTakeExpiry s) := by
  unfold execTakeExpiry
  try dsimp only
  repeat' first | (with_reducible first | assumption | apply next_leads | apply ite_leads | apply ite_kept | apply State.takeStop_kept | (apply foldl_kept; intro _ _ _)) | (apply fst_kept (by assumption)) | split | with_reducible apply State.lit_kept | dsimp only

theorem execCommissionEnd_leads [K.Mem] (enable : Bool) (s : State) (hw : K.P s) : Leads K (execCommissionEnd enable s) := by
  unfold execCommissionEnd
  try dsimp only
  repeat' first | (with_reducible first | assumption | apply next_leads | apply ite_leads | apply ite_kept | apply State.enabled_kept | apply State.commissionLeave_kept | (apply foldl_kept; intro _ _ _)) | (apply fst_kept (by assumption)) | split | with_reducible apply State.lit_kept | dsimp only

theorem execCommissionGo_leads (enable : Bool) (s : State) (hw : K.P s) : Leads K (execCommissionGo enable s) := by
  unfold execCommissionGo
  try dsimp only
  repeat' first | (with_reducible first | assumption | apply next_leads | apply ite_leads | apply ite_kept | apply State.enabled_kept | apply State.fieldGo_kept | (apply State.svcDo_kept; intro _ _) | (apply foldl_kept; intro _ _ _)) | (apply fst_kept (by assumption)) | split | with_reducible apply State.lit_kept | dsimp only

theorem execTrimGo_leads (enable : Bool) (s : State) (hw : K.P s) : Leads K (execTrimGo enable s) := by
  unfold execTrimGo
  try dsimp only
  repeat' first | (with_reducible first | assumption | apply next_leads | apply ite_leads | apply ite_kept | apply State.enabled_kept | apply State.trimGo_kept | (apply State.svcDo_kept; intro _ _) | (apply foldl_kept; intro _ _ _)) | (apply fst_kept (by assumption)) | split | with_reducible apply State.lit_kept | dsimp only

theorem execBurnEnd_leads [K.Mem] (verified : Bool) (s : State) (hw : K.P s) : Leads K (execBurnEnd verified s) := by
  unfold execBurnEnd
  try dsimp only
  repeat' first | (with_reducible first | assumption | apply next_leads | apply ite_leads | apply ite_kept | apply State.burnEnd_kept | (apply foldl_kept; intro _ _ _)) | (apply fst_kept (by assumption)) | split | with_reducible apply State.lit_kept | dsimp only

theorem execSvcKick_leads (w : Fin 9) (s : State) (hw : K.P s) : Leads K (execSvcKick w s) := by
  unfold execSvcKick
  try dsimp only
  repeat' first | (with_reducible first | assumption | apply next_leads | apply ite_leads | apply ite_kept | apply State.cmdKick_kept | (apply foldl_kept; intro _ _ _)) | (apply fst_kept (by assumption)) | split | with_reducible apply State.lit_kept | dsimp only

theorem execKickTimeout_leads (s : State) (hw : K.P s) : Leads K (execKickTimeout s) := by
  unfold execKickTimeout
  try dsimp only
  repeat' first | (with_reducible first | assumption | apply next_leads | apply ite_leads | apply ite_kept | apply State.healthySettle_kept | (apply foldl_kept; intro _ _ _)) | (apply fst_kept (by assumption)) | split | with_reducible apply State.lit_kept | dsimp only

theorem execHealthyHoldEnd_leads (s : State) (hw : K.P s) : Leads K (execHealthyHoldEnd s) := by
  unfold execHealthyHoldEnd
  try dsimp only
  repeat' first | (with_reducible first | assumption | apply next_leads | apply ite_leads | apply ite_kept | apply State.healthySettle_kept | (apply foldl_kept; intro _ _ _)) | (apply fst_kept (by assumption)) | split | with_reducible apply State.lit_kept | dsimp only

theorem execFactoryFixtureTake_leads (s : State) (hw : K.P s) : Leads K (execFactoryFixtureTake s) := by
  unfold execFactoryFixtureTake
  try dsimp only
  repeat' first | (with_reducible first | assumption | apply next_leads | apply ite_leads | apply ite_kept | apply State.setCond_kept | (apply foldl_kept; intro _ _ _)) | (apply fst_kept (by assumption)) | split | with_reducible apply State.lit_kept | dsimp only

theorem execQueueResetEnd_leads (q : Fin 64) (s : State) (hw : K.P s) : Leads K (execQueueResetEnd q s) := by
  unfold execQueueResetEnd
  try dsimp only
  repeat' first | (with_reducible first | assumption | apply next_leads | apply ite_leads | apply ite_kept | apply State.qResetDone_kept | (apply foldl_kept; intro _ _ _)) | (apply fst_kept (by assumption)) | split | with_reducible apply State.lit_kept | dsimp only

theorem execPendingGapWrite_leads (q : Fin 64) (s : State) (hw : K.P s) : Leads K (execPendingGapWrite q s) := by
  unfold execPendingGapWrite
  try dsimp only
  repeat' first | (with_reducible first | assumption | apply next_leads | apply ite_leads | apply ite_kept | apply State.qFlushFree_kept | (apply foldl_kept; intro _ _ _)) | (apply fst_kept (by assumption)) | split | with_reducible apply State.lit_kept | dsimp only

theorem execQueuePush_leads (w : Fin 9) (q : Fin 64) (addr : Word) (s : State) (hw : K.P s) : Leads K (execQueuePush w q addr s) := by
  unfold execQueuePush
  try dsimp only
  repeat' first | (with_reducible first | assumption | apply next_leads | apply ite_leads | apply ite_kept | apply State.cmdPush_kept | (apply foldl_kept; intro _ _ _)) | (apply fst_kept (by assumption)) | split | with_reducible apply State.lit_kept | dsimp only

theorem execQueuePushDone_leads [K.Mem] [K.Cores] (q : Fin 64) (s : State) (hw : K.P s) : Leads K (execQueuePushDone q s) := by
  unfold execQueuePushDone
  try dsimp only
  repeat' first | (with_reducible first | assumption | apply next_leads | apply ite_leads | apply ite_kept | apply State.put_kept | apply State.incSat_kept | apply State.setQueue_kept | apply State.raiseMem_kept | apply State.memTouch_kept | apply State.pushRefuse_kept | apply State.pushEnter_kept | (apply foldl_kept; intro _ _ _)) | (apply fst_kept (by assumption)) | split | with_reducible apply State.lit_kept | dsimp only

theorem execQueuePop_leads (w : Fin 9) (q : Fin 64) (addr : Word) (s : State) (hw : K.P s) : Leads K (execQueuePop w q addr s) := by
  unfold execQueuePop
  try dsimp only
  repeat' first | (with_reducible first | assumption | apply next_leads | apply ite_leads | apply ite_kept | apply State.cmdPop_kept | (apply foldl_kept; intro _ _ _)) | (apply fst_kept (by assumption)) | split | with_reducible apply State.lit_kept | dsimp only

theorem execQueuePopDone_leads [K.Mem] (q : Fin 64) (s : State) (hw : K.P s) : Leads K (execQueuePopDone q s) := by
  unfold execQueuePopDone
  try dsimp only
  repeat' first | (with_reducible first | assumption | apply next_leads | apply ite_leads | apply ite_kept | apply State.put_kept | apply State.setQueue_kept | apply State.qPass_kept | apply State.qReset_kept | apply State.qTouch_kept | apply State.coreStore_kept | (apply foldl_kept; intro _ _ _)) | (apply fst_kept (by assumption)) | split | with_reducible apply State.lit_kept | dsimp only

theorem execLogSelWrite_leads (w : Fin 9) (index : Word) (s : State) (hw : K.P s) : Leads K (execLogSelWrite w index s) := by
  unfold execLogSelWrite
  try dsimp only
  repeat' first | (with_reducible first | assumption | apply next_leads | apply ite_leads | apply ite_kept | apply State.cmdLogSel_kept | (apply foldl_kept; intro _ _ _)) | (apply fst_kept (by assumption)) | split | with_reducible apply State.lit_kept | dsimp only

theorem execLogUserWrite_leads (w : Fin 9) (s : State) (hw : K.P s) : Leads K (execLogUserWrite w s) := by
  unfold execLogUserWrite
  try dsimp only
  repeat' first | (with_reducible first | assumption | apply next_leads | apply ite_leads | apply ite_kept | apply State.cmdLogUser_kept | (apply foldl_kept; intro _ _ _)) | (apply fst_kept (by assumption)) | split | with_reducible apply State.lit_kept | dsimp only

theorem execFltSnap_leads [K.Mem] (w : Fin 9) (addr : Word) (s : State) (hw : K.P s) : Leads K (execFltSnap w addr s) := by
  unfold execFltSnap
  try dsimp only
  repeat' first | (with_reducible first | assumption | apply next_leads | apply ite_leads | apply ite_kept | apply State.cmdSnap_kept | (apply foldl_kept; intro _ _ _)) | (apply fst_kept (by assumption)) | split | with_reducible apply State.lit_kept | dsimp only

theorem execSnapDone_leads (s : State) (hw : K.P s) : Leads K (execSnapDone s) := by
  unfold execSnapDone
  try dsimp only
  repeat' first | (with_reducible first | assumption | apply next_leads | apply ite_leads | apply ite_kept | apply State.put_kept | (apply foldl_kept; intro _ _ _)) | (apply fst_kept (by assumption)) | split | with_reducible apply State.lit_kept | dsimp only

theorem execLadleRecordMove_leads [K.Mem] [K.Cores] (l : Fin 40) (d : Fin 4) (upset : PtrUpset) (s : State) (hw : K.P s) :
    Leads K (execLadleRecordMove l d upset s) := by
  unfold execLadleRecordMove
  try dsimp only
  repeat' first | (with_reducible first | assumption | apply next_leads | apply ite_leads | apply ite_kept | apply State.setLadle_kept | apply State.moveRing_kept | apply State.moveQueue_kept | (apply foldl_kept; intro _ _ _)) | (apply fst_kept (by assumption)) | split | with_reducible apply State.lit_kept | dsimp only

theorem execLadleRun_leads (w : Fin 9) (l : Fin 40) (d : Fin 4) (s : State) (hw : K.P s) : Leads K (execLadleRun w l d s) := by
  unfold execLadleRun
  try dsimp only
  repeat' first | (with_reducible first | assumption | apply next_leads | apply ite_leads | apply ite_kept | apply State.cmdRun_kept | (apply foldl_kept; intro _ _ _)) | (apply fst_kept (by assumption)) | split | with_reducible apply State.lit_kept | dsimp only

theorem execLadleRunEnd_leads (l : Fin 40) (d : Fin 4) (s : State) (hw : K.P s) : Leads K (execLadleRunEnd l d s) := by
  unfold execLadleRunEnd
  try dsimp only
  repeat' first | (with_reducible first | assumption | apply next_leads | apply ite_leads | apply ite_kept | apply State.put_kept | apply State.setLadle_kept | apply State.ladleEvent_kept | apply State.runAgain_kept | (apply foldl_kept; intro _ _ _)) | (apply fst_kept (by assumption)) | split | with_reducible apply State.lit_kept | dsimp only

theorem execLadleGapWrite_leads [K.Mem] (l : Fin 40) (dest : Nat) (s : State) (hw : K.P s) : Leads K (execLadleGapWrite l dest s) := by
  unfold execLadleGapWrite
  try dsimp only
  repeat' first | (with_reducible first | assumption | apply next_leads | apply ite_leads | apply ite_kept | apply State.showParked_kept | apply State.parksEnter_kept | (apply foldl_kept; intro _ _ _)) | (apply fst_kept (by assumption)) | (apply State.ladFlush_kept _ _ _ _ _ (by assumption)) | split | with_reducible apply State.lit_kept | dsimp only

theorem execRingPointerWrite_leads (w : Fin 9) (l : Fin 40) (d : Fin 4) (read : Bool) (value : Word) (s : State) (hw : K.P s) :
    Leads K (execRingPointerWrite w l d read value s) := by
  unfold execRingPointerWrite
  try dsimp only
  repeat' first | (with_reducible first | assumption | apply next_leads | apply ite_leads | apply ite_kept | apply State.cmdRingPtr_kept | (apply foldl_kept; intro _ _ _)) | (apply fst_kept (by assumption)) | split | with_reducible apply State.lit_kept | dsimp only

theorem execRegisterWrite_leads [K.Mem] [K.Cores] (c : Fin 9) (addr value : Word) (s : State) (hw : K.P s) : Leads K (execRegisterWrite c addr value s) := by
  unfold execRegisterWrite
  try dsimp only
  repeat' first | (with_reducible first | assumption | apply next_leads | apply ite_leads | apply ite_kept | apply State.busWrite_kept | (apply foldl_kept; intro _ _ _)) | (apply fst_kept (by assumption)) | split | with_reducible apply State.lit_kept | dsimp only

theorem execB_leads [K.Mem] [K.Cores] (c : Fin 9) (cond : BitVec 4) (off : BitVec 22) (s : State) (hw : K.P s) :
    Leads K (execB c cond off s) := by
  unfold execB
  try dsimp only
  repeat' first | (with_reducible first | assumption | apply next_leads | apply ite_leads | apply ite_kept | apply Eff.ite_kept | (apply State.issue_kept; intro _ _) | (apply State.coreLoads_kept; intro _ _ _) | (apply State.coreStores_kept; intro _ _) | apply State.jump_kept | apply Eff.done_kept | apply Eff.go_kept | apply Eff.rest_kept | apply Eff.stall_kept | apply Eff.fault_kept | apply Eff.poison_kept | (apply foldl_kept; intro _ _ _)) | (apply fst_kept (by assumption)) | split | with_reducible apply State.lit_kept | dsimp only

theorem execCall_leads [K.Mem] [K.Cores] (c : Fin 9) (cond : BitVec 4) (off : BitVec 22) (s : State) (hw : K.P s) :
    Leads K (execCall c cond off s) := by
  unfold execCall
  try dsimp only
  repeat' first | (with_reducible first | assumption | apply next_leads | apply ite_leads | apply ite_kept | apply Eff.ite_kept | (apply State.issue_kept; intro _ _) | (apply State.coreLoads_kept; intro _ _ _) | (apply State.coreStores_kept; intro _ _) | apply State.callTo_kept | apply Eff.done_kept | apply Eff.go_kept | apply Eff.rest_kept | apply Eff.stall_kept | apply Eff.fault_kept | apply Eff.poison_kept | (apply foldl_kept; intro _ _ _)) | (apply fst_kept (by assumption)) | split | with_reducible apply State.lit_kept | dsimp only

theorem execJr_leads [K.Mem] [K.Cores] (c : Fin 9) (d a b : BitVec 4) (k : BitVec 8) (s : State) (hw : K.P s) :
    Leads K (execJr c d a b k s) := by
  unfold execJr
  try dsimp only
  repeat' first | (with_reducible first | assumption | apply next_leads | apply ite_leads | apply ite_kept | apply Eff.ite_kept | (apply State.issue_kept; intro _ _) | (apply State.coreLoads_kept; intro _ _ _) | (apply State.coreStores_kept; intro _ _) | apply State.jump_kept | apply Eff.done_kept | apply Eff.go_kept | apply Eff.rest_kept | apply Eff.stall_kept | apply Eff.fault_kept | apply Eff.poison_kept | (apply foldl_kept; intro _ _ _)) | (apply fst_kept (by assumption)) | split | with_reducible apply State.lit_kept | dsimp only

theorem execCallr_leads [K.Mem] [K.Cores] (c : Fin 9) (d a b : BitVec 4) (k : BitVec 8) (s : State) (hw : K.P s) :
    Leads K (execCallr c d a b k s) := by
  unfold execCallr
  try dsimp only
  repeat' first | (with_reducible first | assumption | apply next_leads | apply ite_leads | apply ite_kept | apply Eff.ite_kept | (apply State.issue_kept; intro _ _) | (apply State.coreLoads_kept; intro _ _ _) | (apply State.coreStores_kept; intro _ _) | apply State.callTo_kept | apply Eff.done_kept | apply Eff.go_kept | apply Eff.rest_kept | apply Eff.stall_kept | apply Eff.fault_kept | apply Eff.poison_kept | (apply foldl_kept; intro _ _ _)) | (apply fst_kept (by assumption)) | split | with_reducible apply State.lit_kept | dsimp only

theorem execRet_leads [K.Mem] [K.Cores] (c : Fin 9) (d a b : BitVec 4) (k : BitVec 8) (s : State) (hw : K.P s) :
    Leads K (execRet c d a b k s) := by
  unfold execRet
  try dsimp only
  repeat' first | (with_reducible first | assumption | apply next_leads | apply ite_leads | apply ite_kept | apply Eff.ite_kept | (apply State.issue_kept; intro _ _) | (apply State.coreLoads_kept; intro _ _ _) | (apply State.coreStores_kept; intro _ _) | apply State.faultNow_kept | apply State.jump_kept | apply Eff.done_kept | apply Eff.go_kept | apply Eff.rest_kept | apply Eff.stall_kept | apply Eff.fault_kept | apply Eff.poison_kept | (apply foldl_kept; intro _ _ _)) | (apply fst_kept (by assumption)) | split | with_reducible apply State.lit_kept | dsimp only

theorem execRpti_leads [K.Mem] [K.Cores] (c : Fin 9) (d : BitVec 4) (imm : BitVec 22) (s : State) (hw : K.P s) :
    Leads K (execRpti c d imm s) := by
  unfold execRpti
  try dsimp only
  repeat' first | (with_reducible first | assumption | apply next_leads | apply ite_leads | apply ite_kept | apply Eff.ite_kept | (apply State.issue_kept; intro _ _) | (apply State.coreLoads_kept; intro _ _ _) | (apply State.coreStores_kept; intro _ _) | apply State.prefixed_kept | apply Eff.done_kept | apply Eff.go_kept | apply Eff.rest_kept | apply Eff.stall_kept | apply Eff.fault_kept | apply Eff.poison_kept | (apply foldl_kept; intro _ _ _)) | (apply fst_kept (by assumption)) | split | with_reducible apply State.lit_kept | dsimp only

theorem execRptr_leads [K.Mem] [K.Cores] (c : Fin 9) (rest : BitVec 26) (s : State) (hw : K.P s) : Leads K (execRptr c rest s) := by
  unfold execRptr
  try dsimp only
  repeat' first | (with_reducible first | assumption | apply next_leads | apply ite_leads | apply ite_kept | apply Eff.ite_kept | (apply State.issue_kept; intro _ _) | (apply State.coreLoads_kept; intro _ _ _) | (apply State.coreStores_kept; intro _ _) | apply State.prefixed_kept | apply Eff.done_kept | apply Eff.go_kept | apply Eff.rest_kept | apply Eff.stall_kept | apply Eff.fault_kept | apply Eff.poison_kept | (apply foldl_kept; intro _ _ _)) | (apply fst_kept (by assumption)) | split | with_reducible apply State.lit_kept | dsimp only

theorem execNop_leads [K.Mem] [K.Cores] (c : Fin 9) (d a b : BitVec 4) (k : BitVec 8) (s : State) (hw : K.P s) :
    Leads K (execNop c d a b k s) := by
  unfold execNop
  try dsimp only
  repeat' first | (with_reducible first | assumption | apply next_leads | apply ite_leads | apply ite_kept | apply Eff.ite_kept | (apply State.issue_kept; intro _ _) | (apply State.coreLoads_kept; intro _ _ _) | (apply State.coreStores_kept; intro _ _) | apply Eff.done_kept | apply Eff.go_kept | apply Eff.rest_kept | apply Eff.stall_kept | apply Eff.fault_kept | apply Eff.poison_kept | (apply foldl_kept; intro _ _ _)) | (apply fst_kept (by assumption)) | split | with_reducible apply State.lit_kept | dsimp only

theorem execMfs_leads [K.Mem] [K.Cores] (c : Fin 9) (d a b : BitVec 4) (k : BitVec 8) (s : State) (hw : K.P s) :
    Leads K (execMfs c d a b k s) := by
  unfold execMfs
  try dsimp only
  repeat' first | (with_reducible first | assumption | apply next_leads | apply ite_leads | apply ite_kept | apply Eff.ite_kept | (apply State.issue_kept; intro _ _) | (apply State.coreLoads_kept; intro _ _ _) | (apply State.coreStores_kept; intro _ _) | apply State.coreOnly_kept | apply Eff.done_kept | apply Eff.go_kept | apply Eff.rest_kept | apply Eff.stall_kept | apply Eff.fault_kept | apply Eff.poison_kept | (apply foldl_kept; intro _ _ _)) | (apply fst_kept (by assumption)) | split | with_reducible apply State.lit_kept | dsimp only

theorem execMts_leads [K.Mem] [K.Cores] (c : Fin 9) (d a b : BitVec 4) (k : BitVec 8) (s : State) (hw : K.P s) :
    Leads K (execMts c d a b k s) := by
  unfold execMts
  try dsimp only
  repeat' first | (with_reducible first | assumption | apply next_leads | apply ite_leads | apply ite_kept | apply Eff.ite_kept | (apply State.issue_kept; intro _ _) | (apply State.coreLoads_kept; intro _ _ _) | (apply State.coreStores_kept; intro _ _) | apply State.coreOnly_kept | apply Eff.done_kept | apply Eff.go_kept | apply Eff.rest_kept | apply Eff.stall_kept | apply Eff.fault_kept | apply Eff.poison_kept | (apply foldl_kept; intro _ _ _)) | (apply fst_kept (by assumption)) | split | with_reducible apply State.lit_kept | dsimp only

theorem execEret_leads [K.Mem] [K.Cores] (c : Fin 9) (d a b : BitVec 4) (k : BitVec 8) (s : State) (hw : K.P s) :
    Leads K (execEret c d a b k s) := by
  unfold execEret
  try dsimp only
  repeat' first | (with_reducible first | assumption | apply next_leads | apply ite_leads | apply ite_kept | apply Eff.ite_kept | (apply State.issue_kept; intro _ _) | (apply State.coreLoads_kept; intro _ _ _) | (apply State.coreStores_kept; intro _ _) | apply State.faultNow_kept | apply Eff.done_kept | apply Eff.go_kept | apply Eff.rest_kept | apply Eff.stall_kept | apply Eff.fault_kept | apply Eff.poison_kept | apply State.setCore_kept | (apply foldl_kept; intro _ _ _)) | (apply fst_kept (by assumption)) | split | with_reducible apply State.lit_kept | dsimp only

theorem execWait_leads [K.Mem] [K.Cores] (c : Fin 9) (d a b : BitVec 4) (k : BitVec 8) (s : State) (hw : K.P s) :
    Leads K (execWait c d a b k s) := by
  unfold execWait
  try dsimp only
  repeat' first | (with_reducible first | assumption | apply next_leads | apply ite_leads | apply ite_kept | apply Eff.ite_kept | (apply State.issue_kept; intro _ _) | (apply State.coreLoads_kept; intro _ _ _) | (apply State.coreStores_kept; intro _ _) | apply Eff.done_kept | apply Eff.go_kept | apply Eff.rest_kept | apply Eff.stall_kept | apply Eff.fault_kept | apply Eff.poison_kept | apply State.setCore_kept | (apply foldl_kept; intro _ _ _)) | (apply fst_kept (by assumption)) | split | with_reducible apply State.lit_kept | dsimp only

theorem execBrk_leads [K.Mem] [K.Cores] (c : Fin 9) (d a b : BitVec 4) (k : BitVec 8) (s : State) (hw : K.P s) :
    Leads K (execBrk c d a b k s) := by
  unfold execBrk
  try dsimp only
  repeat' first | (with_reducible first | assumption | apply next_leads | apply ite_leads | apply ite_kept | apply Eff.ite_kept | (apply State.issue_kept; intro _ _) | (apply State.coreLoads_kept; intro _ _ _) | (apply State.coreStores_kept; intro _ _) | apply State.faultNow_kept | apply Eff.done_kept | apply Eff.go_kept | apply Eff.rest_kept | apply Eff.stall_kept | apply Eff.fault_kept | apply Eff.poison_kept | (apply foldl_kept; intro _ _ _)) | (apply fst_kept (by assumption)) | split | with_reducible apply State.lit_kept | dsimp only

theorem execEi_leads [K.Mem] [K.Cores] (c : Fin 9) (d a b : BitVec 4) (k : BitVec 8) (s : State) (hw : K.P s) :
    Leads K (execEi c d a b k s) := by
  unfold execEi
  try dsimp only
  repeat' first | (with_reducible first | assumption | apply next_leads | apply ite_leads | apply ite_kept | apply Eff.ite_kept | (apply State.issue_kept; intro _ _) | (apply State.coreLoads_kept; intro _ _ _) | (apply State.coreStores_kept; intro _ _) | apply State.coreOnly_kept | apply Eff.done_kept | apply Eff.go_kept | apply Eff.rest_kept | apply Eff.stall_kept | apply Eff.fault_kept | apply Eff.poison_kept | (apply foldl_kept; intro _ _ _)) | (apply fst_kept (by assumption)) | split | with_reducible apply State.lit_kept | dsimp only

theorem execDi_leads [K.Mem] [K.Cores] (c : Fin 9) (d a b : BitVec 4) (k : BitVec 8) (s : State) (hw : K.P s) :
    Leads K (execDi c d a b k s) := by
  unfold execDi
  try dsimp only
  repeat' first | (with_reducible first | assumption | apply next_leads | apply ite_leads | apply ite_kept | apply Eff.ite_kept | (apply State.issue_kept; intro _ _) | (apply State.coreLoads_kept; intro _ _ _) | (apply State.coreStores_kept; intro _ _) | apply State.coreOnly_kept | apply Eff.done_kept | apply Eff.go_kept | apply Eff.rest_kept | apply Eff.stall_kept | apply Eff.fault_kept | apply Eff.poison_kept | (apply foldl_kept; intro _ _ _)) | (apply fst_kept (by assumption)) | split | with_reducible apply State.lit_kept | dsimp only

theorem execFence_leads [K.Mem] [K.Cores] (c : Fin 9) (d a b : BitVec 4) (k : BitVec 8) (s : State) (hw : K.P s) :
    Leads K (execFence c d a b k s) := by
  unfold execFence
  try dsimp only
  repeat' first | (with_reducible first | assumption | apply next_leads | apply ite_leads | apply ite_kept | apply Eff.ite_kept | (apply State.issue_kept; intro _ _) | (apply State.coreLoads_kept; intro _ _ _) | (apply State.coreStores_kept; intro _ _) | apply Eff.done_kept | apply Eff.go_kept | apply Eff.rest_kept | apply Eff.stall_kept | apply Eff.fault_kept | apply Eff.poison_kept | (apply foldl_kept; intro _ _ _)) | (apply fst_kept (by assumption)) | split | with_reducible apply State.lit_kept | dsimp only

theorem execEventEntry_leads [K.Cores] (c : Fin 9) (s : State) (hw : K.P s) : Leads K (execEventEntry c s) := by
  unfold execEventEntry
  try dsimp only
  repeat' first | (with_reducible first | assumption | apply next_leads | apply ite_leads | apply ite_kept | apply State.setCore_kept | (apply foldl_kept; intro _ _ _)) | (apply fst_kept (by assumption)) | split | with_reducible apply State.lit_kept | dsimp only

theorem execWaitEnd_leads [K.Cores] (c : Fin 9) (s : State) (hw : K.P s) : Leads K (execWaitEnd c s) := by
  unfold execWaitEnd
  try dsimp only
  repeat' first | (with_reducible first | assumption | apply next_leads | apply ite_leads | apply ite_kept | apply State.setCore_kept | (apply foldl_kept; intro _ _ _)) | (apply fst_kept (by assumption)) | split | with_reducible apply State.lit_kept | dsimp only

theorem execAdd_leads [K.Mem] [K.Cores] (c : Fin 9) (d a b : BitVec 4) (k : BitVec 8) (s : State) (hw : K.P s) :
    Leads K (execAdd c d a b k s) := by
  unfold execAdd
  try dsimp only
  repeat' first | (with_reducible first | assumption | apply next_leads | apply ite_leads | apply ite_kept | apply Eff.ite_kept | (apply State.issue_kept; intro _ _) | (apply State.coreLoads_kept; intro _ _ _) | (apply State.coreStores_kept; intro _ _) | apply State.alu_kept | apply Eff.done_kept | apply Eff.go_kept | apply Eff.rest_kept | apply Eff.stall_kept | apply Eff.fault_kept | apply Eff.poison_kept | (apply foldl_kept; intro _ _ _)) | (apply fst_kept (by assumption)) | split | with_reducible apply State.lit_kept | dsimp only

theorem execAdc_leads [K.Mem] [K.Cores] (c : Fin 9) (d a b : BitVec 4) (k : BitVec 8) (s : State) (hw : K.P s) :
    Leads K (execAdc c d a b k s) := by
  unfold execAdc
  try dsimp only
  repeat' first | (with_reducible first | assumption | apply next_leads | apply ite_leads | apply ite_kept | apply Eff.ite_kept | (apply State.issue_kept; intro _ _) | (apply State.coreLoads_kept; intro _ _ _) | (apply State.coreStores_kept; intro _ _) | apply State.alu_kept | apply Eff.done_kept | apply Eff.go_kept | apply Eff.rest_kept | apply Eff.stall_kept | apply Eff.fault_kept | apply Eff.poison_kept | (apply foldl_kept; intro _ _ _)) | (apply fst_kept (by assumption)) | split | with_reducible apply State.lit_kept | dsimp only

theorem execSub_leads [K.Mem] [K.Cores] (c : Fin 9) (d a b : BitVec 4) (k : BitVec 8) (s : State) (hw : K.P s) :
    Leads K (execSub c d a b k s) := by
  unfold execSub
  try dsimp only
  repeat' first | (with_reducible first | assumption | apply next_leads | apply ite_leads | apply ite_kept | apply Eff.ite_kept | (apply State.issue_kept; intro _ _) | (apply State.coreLoads_kept; intro _ _ _) | (apply State.coreStores_kept; intro _ _) | apply State.alu_kept | apply Eff.done_kept | apply Eff.go_kept | apply Eff.rest_kept | apply Eff.stall_kept | apply Eff.fault_kept | apply Eff.poison_kept | (apply foldl_kept; intro _ _ _)) | (apply fst_kept (by assumption)) | split | with_reducible apply State.lit_kept | dsimp only

theorem execSbc_leads [K.Mem] [K.Cores] (c : Fin 9) (d a b : BitVec 4) (k : BitVec 8) (s : State) (hw : K.P s) :
    Leads K (execSbc c d a b k s) := by
  unfold execSbc
  try dsimp only
  repeat' first | (with_reducible first | assumption | apply next_leads | apply ite_leads | apply ite_kept | apply Eff.ite_kept | (apply State.issue_kept; intro _ _) | (apply State.coreLoads_kept; intro _ _ _) | (apply State.coreStores_kept; intro _ _) | apply State.alu_kept | apply Eff.done_kept | apply Eff.go_kept | apply Eff.rest_kept | apply Eff.stall_kept | apply Eff.fault_kept | apply Eff.poison_kept | (apply foldl_kept; intro _ _ _)) | (apply fst_kept (by assumption)) | split | with_reducible apply State.lit_kept | dsimp only

theorem execAdds_leads [K.Mem] [K.Cores] (c : Fin 9) (d a b : BitVec 4) (k : BitVec 8) (s : State) (hw : K.P s) :
    Leads K (execAdds c d a b k s) := by
  unfold execAdds
  try dsimp only
  repeat' first | (with_reducible first | assumption | apply next_leads | apply ite_leads | apply ite_kept | apply Eff.ite_kept | (apply State.issue_kept; intro _ _) | (apply State.coreLoads_kept; intro _ _ _) | (apply State.coreStores_kept; intro _ _) | apply State.alu_kept | apply Eff.done_kept | apply Eff.go_kept | apply Eff.rest_kept | apply Eff.stall_kept | apply Eff.fault_kept | apply Eff.poison_kept | (apply foldl_kept; intro _ _ _)) | (apply fst_kept (by assumption)) | split | with_reducible apply State.lit_kept | dsimp only

theorem execSubs_leads [K.Mem] [K.Cores] (c : Fin 9) (d a b : BitVec 4) (k : BitVec 8) (s : State) (hw : K.P s) :
    Leads K (execSubs c d a b k s) := by
  unfold execSubs
  try dsimp only
  repeat' first | (with_reducible first | assumption | apply next_leads | apply ite_leads | apply ite_kept | apply Eff.ite_kept | (apply State.issue_kept; intro _ _) | (apply State.coreLoads_kept; intro _ _ _) | (apply State.coreStores_kept; intro _ _) | apply State.alu_kept | apply Eff.done_kept | apply Eff.go_kept | apply Eff.rest_kept | apply Eff.stall_kept | apply Eff.fault_kept | apply Eff.poison_kept | (apply foldl_kept; intro _ _ _)) | (apply fst_kept (by assumption)) | split | with_reducible apply State.lit_kept | dsimp only

theorem execNeg_leads [K.Mem] [K.Cores] (c : Fin 9) (d a b : BitVec 4) (k : BitVec 8) (s : State) (hw : K.P s) :
    Leads K (execNeg c d a b k s) := by
  unfold execNeg
  try dsimp only
  repeat' first | (with_reducible first | assumption | apply next_leads | apply ite_leads | apply ite_kept | apply Eff.ite_kept | (apply State.issue_kept; intro _ _) | (apply State.coreLoads_kept; intro _ _ _) | (apply State.coreStores_kept; intro _ _) | apply State.alu_kept | apply Eff.done_kept | apply Eff.go_kept | apply Eff.rest_kept | apply Eff.stall_kept | apply Eff.fault_kept | apply Eff.poison_kept | (apply foldl_kept; intro _ _ _)) | (apply fst_kept (by assumption)) | split | with_reducible apply State.lit_kept | dsimp only

theorem execNegs_leads [K.Mem] [K.Cores] (c : Fin 9) (d a b : BitVec 4) (k : BitVec 8) (s : State) (hw : K.P s) :
    Leads K (execNegs c d a b k s) := by
  unfold execNegs
  try dsimp only
  repeat' first | (with_reducible first | assumption | apply next_leads | apply ite_leads | apply ite_kept | apply Eff.ite_kept | (apply State.issue_kept; intro _ _) | (apply State.coreLoads_kept; intro _ _ _) | (apply State.coreStores_kept; intro _ _) | apply State.alu_kept | apply Eff.done_kept | apply Eff.go_kept | apply Eff.rest_kept | apply Eff.stall_kept | apply Eff.fault_kept | apply Eff.poison_kept | (apply foldl_kept; intro _ _ _)) | (apply fst_kept (by assumption)) | split | with_reducible apply State.lit_kept | dsimp only

theorem execAndI_leads [K.Mem] [K.Cores] (c : Fin 9) (d a b : BitVec 4) (k : BitVec 8) (s : State) (hw : K.P s) :
    Leads K (execAndI c d a b k s) := by
  unfold execAndI
  try dsimp only
  repeat' first | (with_reducible first | assumption | apply next_leads | apply ite_leads | apply ite_kept | apply Eff.ite_kept | (apply State.issue_kept; intro _ _) | (apply State.coreLoads_kept; intro _ _ _) | (apply State.coreStores_kept; intro _ _) | apply State.alu_kept | apply Eff.done_kept | apply Eff.go_kept | apply Eff.rest_kept | apply Eff.stall_kept | apply Eff.fault_kept | apply Eff.poison_kept | (apply foldl_kept; intro _ _ _)) | (apply fst_kept (by assumption)) | split | with_reducible apply State.lit_kept | dsimp only

theorem execOrI_leads [K.Mem] [K.Cores] (c : Fin 9) (d a b : BitVec 4) (k : BitVec 8) (s : State) (hw : K.P s) :
    Leads K (execOrI c d a b k s) := by
  unfold execOrI
  try dsimp only
  repeat' first | (with_reducible first | assumption | apply next_leads | apply ite_leads | apply ite_kept | apply Eff.ite_kept | (apply State.issue_kept; intro _ _) | (apply State.coreLoads_kept; intro _ _ _) | (apply State.coreStores_kept; intro _ _) | apply State.alu_kept | apply Eff.done_kept | apply Eff.go_kept | apply Eff.rest_kept | apply Eff.stall_kept | apply Eff.fault_kept | apply Eff.poison_kept | (apply foldl_kept; intro _ _ _)) | (apply fst_kept (by assumption)) | split | with_reducible apply State.lit_kept | dsimp only

theorem execXor_leads [K.Mem] [K.Cores] (c : Fin 9) (d a b : BitVec 4) (k : BitVec 8) (s : State) (hw : K.P s) :
    Leads K (execXor c d a b k s) := by
  unfold execXor
  try dsimp only
  repeat' first | (with_reducible first | assumption | apply next_leads | apply ite_leads | apply ite_kept | apply Eff.ite_kept | (apply State.issue_kept; intro _ _) | (apply State.coreLoads_kept; intro _ _ _) | (apply State.coreStores_kept; intro _ _) | apply State.alu_kept | apply Eff.done_kept | apply Eff.go_kept | apply Eff.rest_kept | apply Eff.stall_kept | apply Eff.fault_kept | apply Eff.poison_kept | (apply foldl_kept; intro _ _ _)) | (apply fst_kept (by assumption)) | split | with_reducible apply State.lit_kept | dsimp only

theorem execAndn_leads [K.Mem] [K.Cores] (c : Fin 9) (d a b : BitVec 4) (k : BitVec 8) (s : State) (hw : K.P s) :
    Leads K (execAndn c d a b k s) := by
  unfold execAndn
  try dsimp only
  repeat' first | (with_reducible first | assumption | apply next_leads | apply ite_leads | apply ite_kept | apply Eff.ite_kept | (apply State.issue_kept; intro _ _) | (apply State.coreLoads_kept; intro _ _ _) | (apply State.coreStores_kept; intro _ _) | apply State.alu_kept | apply Eff.done_kept | apply Eff.go_kept | apply Eff.rest_kept | apply Eff.stall_kept | apply Eff.fault_kept | apply Eff.poison_kept | (apply foldl_kept; intro _ _ _)) | (apply fst_kept (by assumption)) | split | with_reducible apply State.lit_kept | dsimp only

theorem execMinI_leads [K.Mem] [K.Cores] (c : Fin 9) (d a b : BitVec 4) (k : BitVec 8) (s : State) (hw : K.P s) :
    Leads K (execMinI c d a b k s) := by
  unfold execMinI
  try dsimp only
  repeat' first | (with_reducible first | assumption | apply next_leads | apply ite_leads | apply ite_kept | apply Eff.ite_kept | (apply State.issue_kept; intro _ _) | (apply State.coreLoads_kept; intro _ _ _) | (apply State.coreStores_kept; intro _ _) | apply State.alu_kept | apply Eff.done_kept | apply Eff.go_kept | apply Eff.rest_kept | apply Eff.stall_kept | apply Eff.fault_kept | apply Eff.poison_kept | (apply foldl_kept; intro _ _ _)) | (apply fst_kept (by assumption)) | split | with_reducible apply State.lit_kept | dsimp only

theorem execMaxI_leads [K.Mem] [K.Cores] (c : Fin 9) (d a b : BitVec 4) (k : BitVec 8) (s : State) (hw : K.P s) :
    Leads K (execMaxI c d a b k s) := by
  unfold execMaxI
  try dsimp only
  repeat' first | (with_reducible first | assumption | apply next_leads | apply ite_leads | apply ite_kept | apply Eff.ite_kept | (apply State.issue_kept; intro _ _) | (apply State.coreLoads_kept; intro _ _ _) | (apply State.coreStores_kept; intro _ _) | apply State.alu_kept | apply Eff.done_kept | apply Eff.go_kept | apply Eff.rest_kept | apply Eff.stall_kept | apply Eff.fault_kept | apply Eff.poison_kept | (apply foldl_kept; intro _ _ _)) | (apply fst_kept (by assumption)) | split | with_reducible apply State.lit_kept | dsimp only

theorem execMinu_leads [K.Mem] [K.Cores] (c : Fin 9) (d a b : BitVec 4) (k : BitVec 8) (s : State) (hw : K.P s) :
    Leads K (execMinu c d a b k s) := by
  unfold execMinu
  try dsimp only
  repeat' first | (with_reducible first | assumption | apply next_leads | apply ite_leads | apply ite_kept | apply Eff.ite_kept | (apply State.issue_kept; intro _ _) | (apply State.coreLoads_kept; intro _ _ _) | (apply State.coreStores_kept; intro _ _) | apply State.alu_kept | apply Eff.done_kept | apply Eff.go_kept | apply Eff.rest_kept | apply Eff.stall_kept | apply Eff.fault_kept | apply Eff.poison_kept | (apply foldl_kept; intro _ _ _)) | (apply fst_kept (by assumption)) | split | with_reducible apply State.lit_kept | dsimp only

theorem execMaxu_leads [K.Mem] [K.Cores] (c : Fin 9) (d a b : BitVec 4) (k : BitVec 8) (s : State) (hw : K.P s) :
    Leads K (execMaxu c d a b k s) := by
  unfold execMaxu
  try dsimp only
  repeat' first | (with_reducible first | assumption | apply next_leads | apply ite_leads | apply ite_kept | apply Eff.ite_kept | (apply State.issue_kept; intro _ _) | (apply State.coreLoads_kept; intro _ _ _) | (apply State.coreStores_kept; intro _ _) | apply State.alu_kept | apply Eff.done_kept | apply Eff.go_kept | apply Eff.rest_kept | apply Eff.stall_kept | apply Eff.fault_kept | apply Eff.poison_kept | (apply foldl_kept; intro _ _ _)) | (apply fst_kept (by assumption)) | split | with_reducible apply State.lit_kept | dsimp only

theorem execAbs_leads [K.Mem] [K.Cores] (c : Fin 9) (d a b : BitVec 4) (k : BitVec 8) (s : State) (hw : K.P s) :
    Leads K (execAbs c d a b k s) := by
  unfold execAbs
  try dsimp only
  repeat' first | (with_reducible first | assumption | apply next_leads | apply ite_leads | apply ite_kept | apply Eff.ite_kept | (apply State.issue_kept; intro _ _) | (apply State.coreLoads_kept; intro _ _ _) | (apply State.coreStores_kept; intro _ _) | apply State.alu_kept | apply Eff.done_kept | apply Eff.go_kept | apply Eff.rest_kept | apply Eff.stall_kept | apply Eff.fault_kept | apply Eff.poison_kept | (apply foldl_kept; intro _ _ _)) | (apply fst_kept (by assumption)) | split | with_reducible apply State.lit_kept | dsimp only

theorem execAbss_leads [K.Mem] [K.Cores] (c : Fin 9) (d a b : BitVec 4) (k : BitVec 8) (s : State) (hw : K.P s) :
    Leads K (execAbss c d a b k s) := by
  unfold execAbss
  try dsimp only
  repeat' first | (with_reducible first | assumption | apply next_leads | apply ite_leads | apply ite_kept | apply Eff.ite_kept | (apply State.issue_kept; intro _ _) | (apply State.coreLoads_kept; intro _ _ _) | (apply State.coreStores_kept; intro _ _) | apply State.alu_kept | apply Eff.done_kept | apply Eff.go_kept | apply Eff.rest_kept | apply Eff.stall_kept | apply Eff.fault_kept | apply Eff.poison_kept | (apply foldl_kept; intro _ _ _)) | (apply fst_kept (by assumption)) | split | with_reducible apply State.lit_kept | dsimp only

theorem execSextb_leads [K.Mem] [K.Cores] (c : Fin 9) (d a b : BitVec 4) (k : BitVec 8) (s : State) (hw : K.P s) :
    Leads K (execSextb c d a b k s) := by
  unfold execSextb
  try dsimp only
  repeat' first | (with_reducible first | assumption | apply next_leads | apply ite_leads | apply ite_kept | apply Eff.ite_kept | (apply State.issue_kept; intro _ _) | (apply State.coreLoads_kept; intro _ _ _) | (apply State.coreStores_kept; intro _ _) | apply State.alu_kept | apply Eff.done_kept | apply Eff.go_kept | apply Eff.rest_kept | apply Eff.stall_kept | apply Eff.fault_kept | apply Eff.poison_kept | (apply foldl_kept; intro _ _ _)) | (apply fst_kept (by assumption)) | split | with_reducible apply State.lit_kept | dsimp only

theorem execSexth_leads [K.Mem] [K.Cores] (c : Fin 9) (d a b : BitVec 4) (k : BitVec 8) (s : State) (hw : K.P s) :
    Leads K (execSexth c d a b k s) := by
  unfold execSexth
  try dsimp only
  repeat' first | (with_reducible first | assumption | apply next_leads | apply ite_leads | apply ite_kept | apply Eff.ite_kept | (apply State.issue_kept; intro _ _) | (apply State.coreLoads_kept; intro _ _ _) | (apply State.coreStores_kept; intro _ _) | apply State.alu_kept | apply Eff.done_kept | apply Eff.go_kept | apply Eff.rest_kept | apply Eff.stall_kept | apply Eff.fault_kept | apply Eff.poison_kept | (apply foldl_kept; intro _ _ _)) | (apply fst_kept (by assumption)) | split | with_reducible apply State.lit_kept | dsimp only

theorem execClz_leads [K.Mem] [K.Cores] (c : Fin 9) (d a b : BitVec 4) (k : BitVec 8) (s : State) (hw : K.P s) :
    Leads K (execClz c d a b k s) := by
  unfold execClz
  try dsimp only
  repeat' first | (with_reducible first | assumption | apply next_leads | apply ite_leads | apply ite_kept | apply Eff.ite_kept | (apply State.issue_kept; intro _ _) | (apply State.coreLoads_kept; intro _ _ _) | (apply State.coreStores_kept; intro _ _) | apply State.alu_kept | apply Eff.done_kept | apply Eff.go_kept | apply Eff.rest_kept | apply Eff.stall_kept | apply Eff.fault_kept | apply Eff.poison_kept | (apply foldl_kept; intro _ _ _)) | (apply fst_kept (by assumption)) | split | with_reducible apply State.lit_kept | dsimp only

theorem execPopc_leads [K.Mem] [K.Cores] (c : Fin 9) (d a b : BitVec 4) (k : BitVec 8) (s : State) (hw : K.P s) :
    Leads K (execPopc c d a b k s) := by
  unfold execPopc
  try dsimp only
  repeat' first | (with_reducible first | assumption | apply next_leads | apply ite_leads | apply ite_kept | apply Eff.ite_kept | (apply State.issue_kept; intro _ _) | (apply State.coreLoads_kept; intro _ _ _) | (apply State.coreStores_kept; intro _ _) | apply State.alu_kept | apply Eff.done_kept | apply Eff.go_kept | apply Eff.rest_kept | apply Eff.stall_kept | apply Eff.fault_kept | apply Eff.poison_kept | (apply foldl_kept; intro _ _ _)) | (apply fst_kept (by assumption)) | split | with_reducible apply State.lit_kept | dsimp only

theorem execSel_leads [K.Mem] [K.Cores] (c : Fin 9) (d a b : BitVec 4) (k : BitVec 8) (s : State) (hw : K.P s) :
    Leads K (execSel c d a b k s) := by
  unfold execSel
  try dsimp only
  repeat' first | (with_reducible first | assumption | apply next_leads | apply ite_leads | apply ite_kept | apply Eff.ite_kept | (apply State.issue_kept; intro _ _) | (apply State.coreLoads_kept; intro _ _ _) | (apply State.coreStores_kept; intro _ _) | apply State.alu_kept | apply Eff.done_kept | apply Eff.go_kept | apply Eff.rest_kept | apply Eff.stall_kept | apply Eff.fault_kept | apply Eff.poison_kept | (apply foldl_kept; intro _ _ _)) | (apply fst_kept (by assumption)) | split | with_reducible apply State.lit_kept | dsimp only

theorem execAddi_leads [K.Mem] [K.Cores] (c : Fin 9) (d a : BitVec 4) (imm : BitVec 18) (s : State) (hw : K.P s) :
    Leads K (execAddi c d a imm s) := by
  unfold execAddi
  try dsimp only
  repeat' first | (with_reducible first | assumption | apply next_leads | apply ite_leads | apply ite_kept | apply Eff.ite_kept | (apply State.issue_kept; intro _ _) | (apply State.coreLoads_kept; intro _ _ _) | (apply State.coreStores_kept; intro _ _) | apply State.alu_kept | apply Eff.done_kept | apply Eff.go_kept | apply Eff.rest_kept | apply Eff.stall_kept | apply Eff.fault_kept | apply Eff.poison_kept | (apply foldl_kept; intro _ _ _)) | (apply fst_kept (by assumption)) | split | with_reducible apply State.lit_kept | dsimp only

theorem execSubi_leads [K.Mem] [K.Cores] (c : Fin 9) (d a : BitVec 4) (imm : BitVec 18) (s : State) (hw : K.P s) :
    Leads K (execSubi c d a imm s) := by
  unfold execSubi
  try dsimp only
  repeat' first | (with_reducible first | assumption | apply next_leads | apply ite_leads | apply ite_kept | apply Eff.ite_kept | (apply State.issue_kept; intro _ _) | (apply State.coreLoads_kept; intro _ _ _) | (apply State.coreStores_kept; intro _ _) | apply State.alu_kept | apply Eff.done_kept | apply Eff.go_kept | apply Eff.rest_kept | apply Eff.stall_kept | apply Eff.fault_kept | apply Eff.poison_kept | (apply foldl_kept; intro _ _ _)) | (apply fst_kept (by assumption)) | split | with_reducible apply State.lit_kept | dsimp only

theorem execAndi_leads [K.Mem] [K.Cores] (c : Fin 9) (d a : BitVec 4) (imm : BitVec 18) (s : State) (hw : K.P s) :
    Leads K (execAndi c d a imm s) := by
  unfold execAndi
  try dsimp only
  repeat' first | (with_reducible first | assumption | apply next_leads | apply ite_leads | apply ite_kept | apply Eff.ite_kept | (apply State.issue_kept; intro _ _) | (apply State.coreLoads_kept; intro _ _ _) | (apply State.coreStores_kept; intro _ _) | apply State.alu_kept | apply Eff.done_kept | apply Eff.go_kept | apply Eff.rest_kept | apply Eff.stall_kept | apply Eff.fault_kept | apply Eff.poison_kept | (apply foldl_kept; intro _ _ _)) | (apply fst_kept (by assumption)) | split | with_reducible apply State.lit_kept | dsimp only

theorem execOri_leads [K.Mem] [K.Cores] (c : Fin 9) (d a : BitVec 4) (imm : BitVec 18) (s : State) (hw : K.P s) :
    Leads K (execOri c d a imm s) := by
  unfold execOri
  try dsimp only
  repeat' first | (with_reducible first | assumption | apply next_leads | apply ite_leads | apply ite_kept | apply Eff.ite_kept | (apply State.issue_kept; intro _ _) | (apply State.coreLoads_kept; intro _ _ _) | (apply State.coreStores_kept; intro _ _) | apply State.alu_kept | apply Eff.done_kept | apply Eff.go_kept | apply Eff.rest_kept | apply Eff.stall_kept | apply Eff.fault_kept | apply Eff.poison_kept | (apply foldl_kept; intro _ _ _)) | (apply fst_kept (by assumption)) | split | with_reducible apply State.lit_kept | dsimp only

theorem execXori_leads [K.Mem] [K.Cores] (c : Fin 9) (d a : BitVec 4) (imm : BitVec 18) (s : State) (hw : K.P s) :
    Leads K (execXori c d a imm s) := by
  unfold execXori
  try dsimp only
  repeat' first | (with_reducible first | assumption | apply next_leads | apply ite_leads | apply ite_kept | apply Eff.ite_kept | (apply State.issue_kept; intro _ _) | (apply State.coreLoads_kept; intro _ _ _) | (apply State.coreStores_kept; intro _ _) | apply State.alu_kept | apply Eff.done_kept | apply Eff.go_kept | apply Eff.rest_kept | apply Eff.stall_kept | apply Eff.fault_kept | apply Eff.poison_kept | (apply foldl_kept; intro _ _ _)) | (apply fst_kept (by assumption)) | split | with_reducible apply State.lit_kept | dsimp only

theorem execLui_leads [K.Mem] [K.Cores] (c : Fin 9) (d : BitVec 4) (imm : BitVec 22) (s : State) (hw : K.P s) :
    Leads K (execLui c d imm s) := by
  unfold execLui
  try dsimp only
  repeat' first | (with_reducible first | assumption | apply next_leads | apply ite_leads | apply ite_kept | apply Eff.ite_kept | (apply State.issue_kept; intro _ _) | (apply State.coreLoads_kept; intro _ _ _) | (apply State.coreStores_kept; intro _ _) | apply State.coreOnly_kept | apply Eff.done_kept | apply Eff.go_kept | apply Eff.rest_kept | apply Eff.stall_kept | apply Eff.fault_kept | apply Eff.poison_kept | (apply foldl_kept; intro _ _ _)) | (apply fst_kept (by assumption)) | split | with_reducible apply State.lit_kept | dsimp only

theorem execShl_leads [K.Mem] [K.Cores] (c : Fin 9) (d a b : BitVec 4) (k : BitVec 8) (byK : Bool) (s : State) (hw : K.P s) :
    Leads K (execShl c d a b k byK s) := by
  unfold execShl
  try dsimp only
  repeat' first | (with_reducible first | assumption | apply next_leads | apply ite_leads | apply ite_kept | apply Eff.ite_kept | (apply State.issue_kept; intro _ _) | (apply State.coreLoads_kept; intro _ _ _) | (apply State.coreStores_kept; intro _ _) | apply State.alu_kept | apply Eff.done_kept | apply Eff.go_kept | apply Eff.rest_kept | apply Eff.stall_kept | apply Eff.fault_kept | apply Eff.poison_kept | (apply foldl_kept; intro _ _ _)) | (apply fst_kept (by assumption)) | split | with_reducible apply State.lit_kept | dsimp only

theorem execShr_leads [K.Mem] [K.Cores] (c : Fin 9) (d a b : BitVec 4) (k : BitVec 8) (byK : Bool) (s : State) (hw : K.P s) :
    Leads K (execShr c d a b k byK s) := by
  unfold execShr
  try dsimp only
  repeat' first | (with_reducible first | assumption | apply next_leads | apply ite_leads | apply ite_kept | apply Eff.ite_kept | (apply State.issue_kept; intro _ _) | (apply State.coreLoads_kept; intro _ _ _) | (apply State.coreStores_kept; intro _ _) | apply State.alu_kept | apply Eff.done_kept | apply Eff.go_kept | apply Eff.rest_kept | apply Eff.stall_kept | apply Eff.fault_kept | apply Eff.poison_kept | (apply foldl_kept; intro _ _ _)) | (apply fst_kept (by assumption)) | split | with_reducible apply State.lit_kept | dsimp only

theorem execSar_leads [K.Mem] [K.Cores] (c : Fin 9) (d a b : BitVec 4) (k : BitVec 8) (byK : Bool) (s : State) (hw : K.P s) :
    Leads K (execSar c d a b k byK s) := by
  unfold execSar
  try dsimp only
  repeat' first | (with_reducible first | assumption | apply next_leads | apply ite_leads | apply ite_kept | apply Eff.ite_kept | (apply State.issue_kept; intro _ _) | (apply State.coreLoads_kept; intro _ _ _) | (apply State.coreStores_kept; intro _ _) | apply State.alu_kept | apply Eff.done_kept | apply Eff.go_kept | apply Eff.rest_kept | apply Eff.stall_kept | apply Eff.fault_kept | apply Eff.poison_kept | (apply foldl_kept; intro _ _ _)) | (apply fst_kept (by assumption)) | split | with_reducible apply State.lit_kept | dsimp only

theorem execRor_leads [K.Mem] [K.Cores] (c : Fin 9) (d a b : BitVec 4) (k : BitVec 8) (byK : Bool) (s : State) (hw : K.P s) :
    Leads K (execRor c d a b k byK s) := by
  unfold execRor
  try dsimp only
  repeat' first | (with_reducible first | assumption | apply next_leads | apply ite_leads | apply ite_kept | apply Eff.ite_kept | (apply State.issue_kept; intro _ _) | (apply State.coreLoads_kept; intro _ _ _) | (apply State.coreStores_kept; intro _ _) | apply State.alu_kept | apply Eff.done_kept | apply Eff.go_kept | apply Eff.rest_kept | apply Eff.stall_kept | apply Eff.fault_kept | apply Eff.poison_kept | (apply foldl_kept; intro _ _ _)) | (apply fst_kept (by assumption)) | split | with_reducible apply State.lit_kept | dsimp only

theorem execRol_leads [K.Mem] [K.Cores] (c : Fin 9) (d a b : BitVec 4) (k : BitVec 8) (byK : Bool) (s : State) (hw : K.P s) :
    Leads K (execRol c d a b k byK s) := by
  unfold execRol
  try dsimp only
  repeat' first | (with_reducible first | assumption | apply next_leads | apply ite_leads | apply ite_kept | apply Eff.ite_kept | (apply State.issue_kept; intro _ _) | (apply State.coreLoads_kept; intro _ _ _) | (apply State.coreStores_kept; intro _ _) | apply State.alu_kept | apply Eff.done_kept | apply Eff.go_kept | apply Eff.rest_kept | apply Eff.stall_kept | apply Eff.fault_kept | apply Eff.poison_kept | (apply foldl_kept; intro _ _ _)) | (apply fst_kept (by assumption)) | split | with_reducible apply State.lit_kept | dsimp only

theorem execShls_leads [K.Mem] [K.Cores] (c : Fin 9) (d a b : BitVec 4) (k : BitVec 8) (byK : Bool) (s : State) (hw : K.P s) :
    Leads K (execShls c d a b k byK s) := by
  unfold execShls
  try dsimp only
  repeat' first | (with_reducible first | assumption | apply next_leads | apply ite_leads | apply ite_kept | apply Eff.ite_kept | (apply State.issue_kept; intro _ _) | (apply State.coreLoads_kept; intro _ _ _) | (apply State.coreStores_kept; intro _ _) | apply State.alu_kept | apply Eff.done_kept | apply Eff.go_kept | apply Eff.rest_kept | apply Eff.stall_kept | apply Eff.fault_kept | apply Eff.poison_kept | (apply foldl_kept; intro _ _ _)) | (apply fst_kept (by assumption)) | split | with_reducible apply State.lit_kept | dsimp only

theorem execLdw_leads [K.Mem] [K.Cores] (c : Fin 9) (d a : BitVec 4) (imm : BitVec 18) (s : State) (hw : K.P s) :
    Leads K (execLdw c d a imm s) := by
  unfold execLdw
  try dsimp only
  repeat' first | (with_reducible first | assumption | apply next_leads | apply ite_leads | apply ite_kept | apply Eff.ite_kept | (apply State.issue_kept; intro _ _) | (apply State.coreLoads_kept; intro _ _ _) | (apply State.coreStores_kept; intro _ _) | apply State.loadInto_kept | apply Eff.done_kept | apply Eff.go_kept | apply Eff.rest_kept | apply Eff.stall_kept | apply Eff.fault_kept | apply Eff.poison_kept | (apply foldl_kept; intro _ _ _)) | (apply fst_kept (by assumption)) | split | with_reducible apply State.lit_kept | dsimp only

theorem execLdh_leads [K.Mem] [K.Cores] (c : Fin 9) (d a : BitVec 4) (imm : BitVec 18) (s : State) (hw : K.P s) :
    Leads K (execLdh c d a imm s) := by
  unfold execLdh
  try dsimp only
  repeat' first | (with_reducible first | assumption | apply next_leads | apply ite_leads | apply ite_kept | apply Eff.ite_kept | (apply State.issue_kept; intro _ _) | (apply State.coreLoads_kept; intro _ _ _) | (apply State.coreStores_kept; intro _ _) | apply State.loadInto_kept | apply Eff.done_kept | apply Eff.go_kept | apply Eff.rest_kept | apply Eff.stall_kept | apply Eff.fault_kept | apply Eff.poison_kept | (apply foldl_kept; intro _ _ _)) | (apply fst_kept (by assumption)) | split | with_reducible apply State.lit_kept | dsimp only

theorem execLdhu_leads [K.Mem] [K.Cores] (c : Fin 9) (d a : BitVec 4) (imm : BitVec 18) (s : State) (hw : K.P s) :
    Leads K (execLdhu c d a imm s) := by
  unfold execLdhu
  try dsimp only
  repeat' first | (with_reducible first | assumption | apply next_leads | apply ite_leads | apply ite_kept | apply Eff.ite_kept | (apply State.issue_kept; intro _ _) | (apply State.coreLoads_kept; intro _ _ _) | (apply State.coreStores_kept; intro _ _) | apply State.loadInto_kept | apply Eff.done_kept | apply Eff.go_kept | apply Eff.rest_kept | apply Eff.stall_kept | apply Eff.fault_kept | apply Eff.poison_kept | (apply foldl_kept; intro _ _ _)) | (apply fst_kept (by assumption)) | split | with_reducible apply State.lit_kept | dsimp only

theorem execLdb_leads [K.Mem] [K.Cores] (c : Fin 9) (d a : BitVec 4) (imm : BitVec 18) (s : State) (hw : K.P s) :
    Leads K (execLdb c d a imm s) := by
  unfold execLdb
  try dsimp only
  repeat' first | (with_reducible first | assumption | apply next_leads | apply ite_leads | apply ite_kept | apply Eff.ite_kept | (apply State.issue_kept; intro _ _) | (apply State.coreLoads_kept; intro _ _ _) | (apply State.coreStores_kept; intro _ _) | apply State.loadInto_kept | apply Eff.done_kept | apply Eff.go_kept | apply Eff.rest_kept | apply Eff.stall_kept | apply Eff.fault_kept | apply Eff.poison_kept | (apply foldl_kept; intro _ _ _)) | (apply fst_kept (by assumption)) | split | with_reducible apply State.lit_kept | dsimp only

theorem execLdbu_leads [K.Mem] [K.Cores] (c : Fin 9) (d a : BitVec 4) (imm : BitVec 18) (s : State) (hw : K.P s) :
    Leads K (execLdbu c d a imm s) := by
  unfold execLdbu
  try dsimp only
  repeat' first | (with_reducible first | assumption | apply next_leads | apply ite_leads | apply ite_kept | apply Eff.ite_kept | (apply State.issue_kept; intro _ _) | (apply State.coreLoads_kept; intro _ _ _) | (apply State.coreStores_kept; intro _ _) | apply State.loadInto_kept | apply Eff.done_kept | apply Eff.go_kept | apply Eff.rest_kept | apply Eff.stall_kept | apply Eff.fault_kept | apply Eff.poison_kept | (apply foldl_kept; intro _ _ _)) | (apply fst_kept (by assumption)) | split | with_reducible apply State.lit_kept | dsimp only

theorem execStw_leads [K.Mem] [K.Cores] (c : Fin 9) (d a : BitVec 4) (imm : BitVec 18) (s : State) (hw : K.P s) :
    Leads K (execStw c d a imm s) := by
  unfold execStw
  try dsimp only
  repeat' first | (with_reducible first | assumption | apply next_leads | apply ite_leads | apply ite_kept | apply Eff.ite_kept | (apply State.issue_kept; intro _ _) | (apply State.coreLoads_kept; intro _ _ _) | (apply State.coreStores_kept; intro _ _) | apply State.storeFrom_kept | apply Eff.done_kept | apply Eff.go_kept | apply Eff.rest_kept | apply Eff.stall_kept | apply Eff.fault_kept | apply Eff.poison_kept | (apply foldl_kept; intro _ _ _)) | (apply fst_kept (by assumption)) | split | with_reducible apply State.lit_kept | dsimp only

theorem execSth_leads [K.Mem] [K.Cores] (c : Fin 9) (d a : BitVec 4) (imm : BitVec 18) (s : State) (hw : K.P s) :
    Leads K (execSth c d a imm s) := by
  unfold execSth
  try dsimp only
  repeat' first | (with_reducible first | assumption | apply next_leads | apply ite_leads | apply ite_kept | apply Eff.ite_kept | (apply State.issue_kept; intro _ _) | (apply State.coreLoads_kept; intro _ _ _) | (apply State.coreStores_kept; intro _ _) | apply State.storeFrom_kept | apply Eff.done_kept | apply Eff.go_kept | apply Eff.rest_kept | apply Eff.stall_kept | apply Eff.fault_kept | apply Eff.poison_kept | (apply foldl_kept; intro _ _ _)) | (apply fst_kept (by assumption)) | split | with_reducible apply State.lit_kept | dsimp only

theorem execStb_leads [K.Mem] [K.Cores] (c : Fin 9) (d a : BitVec 4) (imm : BitVec 18) (s : State) (hw : K.P s) :
    Leads K (execStb c d a imm s) := by
  unfold execStb
  try dsimp only
  repeat' first | (with_reducible first | assumption | apply next_leads | apply ite_leads | apply ite_kept | apply Eff.ite_kept | (apply State.issue_kept; intro _ _) | (apply State.coreLoads_kept; intro _ _ _) | (apply State.coreStores_kept; intro _ _) | apply State.storeFrom_kept | apply Eff.done_kept | apply Eff.go_kept | apply Eff.rest_kept | apply Eff.stall_kept | apply Eff.fault_kept | apply Eff.poison_kept | (apply foldl_kept; intro _ _ _)) | (apply fst_kept (by assumption)) | split | with_reducible apply State.lit_kept | dsimp only

theorem execLdwp_leads [K.Mem] [K.Cores] (c : Fin 9) (d a : BitVec 4) (imm : BitVec 18) (s : State) (hw : K.P s) :
    Leads K (execLdwp c d a imm s) := by
  unfold execLdwp
  try dsimp only
  repeat' first | (with_reducible first | assumption | apply next_leads | apply ite_leads | apply ite_kept | apply Eff.ite_kept | (apply State.issue_kept; intro _ _) | (apply State.coreLoads_kept; intro _ _ _) | (apply State.coreStores_kept; intro _ _) | apply State.loadPost_kept | apply Eff.done_kept | apply Eff.go_kept | apply Eff.rest_kept | apply Eff.stall_kept | apply Eff.fault_kept | apply Eff.poison_kept | (apply foldl_kept; intro _ _ _)) | (apply fst_kept (by assumption)) | split | with_reducible apply State.lit_kept | dsimp only

theorem execStwp_leads [K.Mem] [K.Cores] (c : Fin 9) (d a : BitVec 4) (imm : BitVec 18) (s : State) (hw : K.P s) :
    Leads K (execStwp c d a imm s) := by
  unfold execStwp
  try dsimp only
  repeat' first | (with_reducible first | assumption | apply next_leads | apply ite_leads | apply ite_kept | apply Eff.ite_kept | (apply State.issue_kept; intro _ _) | (apply State.coreLoads_kept; intro _ _ _) | (apply State.coreStores_kept; intro _ _) | apply State.storePost_kept | apply Eff.done_kept | apply Eff.go_kept | apply Eff.rest_kept | apply Eff.stall_kept | apply Eff.fault_kept | apply Eff.poison_kept | (apply foldl_kept; intro _ _ _)) | (apply fst_kept (by assumption)) | split | with_reducible apply State.lit_kept | dsimp only

theorem execLdhp_leads [K.Mem] [K.Cores] (c : Fin 9) (d a : BitVec 4) (imm : BitVec 18) (s : State) (hw : K.P s) :
    Leads K (execLdhp c d a imm s) := by
  unfold execLdhp
  try dsimp only
  repeat' first | (with_reducible first | assumption | apply next_leads | apply ite_leads | apply ite_kept | apply Eff.ite_kept | (apply State.issue_kept; intro _ _) | (apply State.coreLoads_kept; intro _ _ _) | (apply State.coreStores_kept; intro _ _) | apply State.loadPost_kept | apply Eff.done_kept | apply Eff.go_kept | apply Eff.rest_kept | apply Eff.stall_kept | apply Eff.fault_kept | apply Eff.poison_kept | (apply foldl_kept; intro _ _ _)) | (apply fst_kept (by assumption)) | split | with_reducible apply State.lit_kept | dsimp only

theorem execSthp_leads [K.Mem] [K.Cores] (c : Fin 9) (d a : BitVec 4) (imm : BitVec 18) (s : State) (hw : K.P s) :
    Leads K (execSthp c d a imm s) := by
  unfold execSthp
  try dsimp only
  repeat' first | (with_reducible first | assumption | apply next_leads | apply ite_leads | apply ite_kept | apply Eff.ite_kept | (apply State.issue_kept; intro _ _) | (apply State.coreLoads_kept; intro _ _ _) | (apply State.coreStores_kept; intro _ _) | apply State.storePost_kept | apply Eff.done_kept | apply Eff.go_kept | apply Eff.rest_kept | apply Eff.stall_kept | apply Eff.fault_kept | apply Eff.poison_kept | (apply foldl_kept; intro _ _ _)) | (apply fst_kept (by assumption)) | split | with_reducible apply State.lit_kept | dsimp only

theorem execPush_leads [K.Mem] [K.Cores] (c : Fin 9) (d a b : BitVec 4) (k : BitVec 8) (s : State) (hw : K.P s) :
    Leads K (execPush c d a b k s) := by
  unfold execPush
  try dsimp only
  repeat' first | (with_reducible first | assumption | apply next_leads | apply ite_leads | apply ite_kept | apply Eff.ite_kept | (apply State.issue_kept; intro _ _) | (apply State.coreLoads_kept; intro _ _ _) | (apply State.coreStores_kept; intro _ _) | apply State.faultNow_kept | apply State.coreOnly_kept | apply Eff.done_kept | apply Eff.go_kept | apply Eff.rest_kept | apply Eff.stall_kept | apply Eff.fault_kept | apply Eff.poison_kept | (apply foldl_kept; intro _ _ _)) | (apply fst_kept (by assumption)) | split | with_reducible apply State.lit_kept | dsimp only

theorem execPop_leads [K.Mem] [K.Cores] (c : Fin 9) (d a b : BitVec 4) (k : BitVec 8) (s : State) (hw : K.P s) :
    Leads K (execPop c d a b k s) := by
  unfold execPop
  try dsimp only
  repeat' first | (with_reducible first | assumption | apply next_leads | apply ite_leads | apply ite_kept | apply Eff.ite_kept | (apply State.issue_kept; intro _ _) | (apply State.coreLoads_kept; intro _ _ _) | (apply State.coreStores_kept; intro _ _) | apply State.faultNow_kept | apply State.coreOnly_kept | apply Eff.done_kept | apply Eff.go_kept | apply Eff.rest_kept | apply Eff.stall_kept | apply Eff.fault_kept | apply Eff.poison_kept | (apply foldl_kept; intro _ _ _)) | (apply fst_kept (by assumption)) | split | with_reducible apply State.lit_kept | dsimp only

theorem execPostedStoreDone_leads [K.Mem] [K.Cores] (c : Fin 9) (i : Fin 4) (s : State) (hw : K.P s) : Leads K (execPostedStoreDone c i s) := by
  unfold execPostedStoreDone
  try dsimp only
  repeat' first | (with_reducible first | assumption | apply next_leads | apply ite_leads | apply ite_kept | apply State.setCore_kept | apply State.storeNow_kept | (apply foldl_kept; intro _ _ _)) | (apply fst_kept (by assumption)) | split | with_reducible apply State.lit_kept | dsimp only

theorem execMul_leads [K.Mem] [K.Cores] (c : Fin 9) (d a b : BitVec 4) (k : BitVec 8) (s : State) (hw : K.P s) :
    Leads K (execMul c d a b k s) := by
  unfold execMul
  try dsimp only
  repeat' first | (with_reducible first | assumption | apply next_leads | apply ite_leads | apply ite_kept | apply Eff.ite_kept | (apply State.issue_kept; intro _ _) | (apply State.coreLoads_kept; intro _ _ _) | (apply State.coreStores_kept; intro _ _) | apply State.alu_kept | apply Eff.done_kept | apply Eff.go_kept | apply Eff.rest_kept | apply Eff.stall_kept | apply Eff.fault_kept | apply Eff.poison_kept | (apply foldl_kept; intro _ _ _)) | (apply fst_kept (by assumption)) | split | with_reducible apply State.lit_kept | dsimp only

theorem execMulh_leads [K.Mem] [K.Cores] (c : Fin 9) (d a b : BitVec 4) (k : BitVec 8) (s : State) (hw : K.P s) :
    Leads K (execMulh c d a b k s) := by
  unfold execMulh
  try dsimp only
  repeat' first | (with_reducible first | assumption | apply next_leads | apply ite_leads | apply ite_kept | apply Eff.ite_kept | (apply State.issue_kept; intro _ _) | (apply State.coreLoads_kept; intro _ _ _) | (apply State.coreStores_kept; intro _ _) | apply State.alu_kept | apply Eff.done_kept | apply Eff.go_kept | apply Eff.rest_kept | apply Eff.stall_kept | apply Eff.fault_kept | apply Eff.poison_kept | (apply foldl_kept; intro _ _ _)) | (apply fst_kept (by assumption)) | split | with_reducible apply State.lit_kept | dsimp only

theorem execMulhu_leads [K.Mem] [K.Cores] (c : Fin 9) (d a b : BitVec 4) (k : BitVec 8) (s : State) (hw : K.P s) :
    Leads K (execMulhu c d a b k s) := by
  unfold execMulhu
  try dsimp only
  repeat' first | (with_reducible first | assumption | apply next_leads | apply ite_leads | apply ite_kept | apply Eff.ite_kept | (apply State.issue_kept; intro _ _) | (apply State.coreLoads_kept; intro _ _ _) | (apply State.coreStores_kept; intro _ _) | apply State.alu_kept | apply Eff.done_kept | apply Eff.go_kept | apply Eff.rest_kept | apply Eff.stall_kept | apply Eff.fault_kept | apply Eff.poison_kept | (apply foldl_kept; intro _ _ _)) | (apply fst_kept (by assumption)) | split | with_reducible apply State.lit_kept | dsimp only

theorem execMac_leads [K.Mem] [K.Cores] (c : Fin 9) (d a b : BitVec 4) (k : BitVec 8) (s : State) (hw : K.P s) :
    Leads K (execMac c d a b k s) := by
  unfold execMac
  try dsimp only
  repeat' first | (with_reducible first | assumption | apply next_leads | apply ite_leads | apply ite_kept | apply Eff.ite_kept | (apply State.issue_kept; intro _ _) | (apply State.coreLoads_kept; intro _ _ _) | (apply State.coreStores_kept; intro _ _) | apply State.alu_kept | apply Eff.done_kept | apply Eff.go_kept | apply Eff.rest_kept | apply Eff.stall_kept | apply Eff.fault_kept | apply Eff.poison_kept | (apply foldl_kept; intro _ _ _)) | (apply fst_kept (by assumption)) | split | with_reducible apply State.lit_kept | dsimp only

theorem execMacs_leads [K.Mem] [K.Cores] (c : Fin 9) (d a b : BitVec 4) (k : BitVec 8) (s : State) (hw : K.P s) :
    Leads K (execMacs c d a b k s) := by
  unfold execMacs
  try dsimp only
  repeat' first | (with_reducible first | assumption | apply next_leads | apply ite_leads | apply ite_kept | apply Eff.ite_kept | (apply State.issue_kept; intro _ _) | (apply State.coreLoads_kept; intro _ _ _) | (apply State.coreStores_kept; intro _ _) | apply State.alu_kept | apply Eff.done_kept | apply Eff.go_kept | apply Eff.rest_kept | apply Eff.stall_kept | apply Eff.fault_kept | apply Eff.poison_kept | (apply foldl_kept; intro _ _ _)) | (apply fst_kept (by assumption)) | split | with_reducible apply State.lit_kept | dsimp only

theorem execMulq_leads [K.Mem] [K.Cores] (c : Fin 9) (d a b : BitVec 4) (k : BitVec 8) (s : State) (hw : K.P s) :
    Leads K (execMulq c d a b k s) := by
  unfold execMulq
  try dsimp only
  repeat' first | (with_reducible first | assumption | apply next_leads | apply ite_leads | apply ite_kept | apply Eff.ite_kept | (apply State.issue_kept; intro _ _) | (apply State.coreLoads_kept; intro _ _ _) | (apply State.coreStores_kept; intro _ _) | apply State.alu_kept | apply Eff.done_kept | apply Eff.go_kept | apply Eff.rest_kept | apply Eff.stall_kept | apply Eff.fault_kept | apply Eff.poison_kept | (apply foldl_kept; intro _ _ _)) | (apply fst_kept (by assumption)) | split | with_reducible apply State.lit_kept | dsimp only

theorem execMacq_leads [K.Mem] [K.Cores] (c : Fin 9) (d a b : BitVec 4) (k : BitVec 8) (s : State) (hw : K.P s) :
    Leads K (execMacq c d a b k s) := by
  unfold execMacq
  try dsimp only
  repeat' first | (with_reducible first | assumption | apply next_leads | apply ite_leads | apply ite_kept | apply Eff.ite_kept | (apply State.issue_kept; intro _ _) | (apply State.coreLoads_kept; intro _ _ _) | (apply State.coreStores_kept; intro _ _) | apply State.alu_kept | apply Eff.done_kept | apply Eff.go_kept | apply Eff.rest_kept | apply Eff.stall_kept | apply Eff.fault_kept | apply Eff.poison_kept | (apply foldl_kept; intro _ _ _)) | (apply fst_kept (by assumption)) | split | with_reducible apply State.lit_kept | dsimp only

theorem execDotq_leads [K.Mem] [K.Cores] (c : Fin 9) (d a b : BitVec 4) (k : BitVec 8) (s : State) (hw : K.P s) :
    Leads K (execDotq c d a b k s) := by
  unfold execDotq
  try dsimp only
  repeat' first | (with_reducible first | assumption | apply next_leads | apply ite_leads | apply ite_kept | apply Eff.ite_kept | (apply State.issue_kept; intro _ _) | (apply State.coreLoads_kept; intro _ _ _) | (apply State.coreStores_kept; intro _ _) | apply State.coreOnly_kept | apply Eff.done_kept | apply Eff.go_kept | apply Eff.rest_kept | apply Eff.stall_kept | apply Eff.fault_kept | apply Eff.poison_kept | (apply foldl_kept; intro _ _ _)) | (apply fst_kept (by assumption)) | split | with_reducible apply State.lit_kept | dsimp only

theorem execDivI_leads [K.Mem] [K.Cores] (c : Fin 9) (d a b : BitVec 4) (k : BitVec 8) (s : State) (hw : K.P s) :
    Leads K (execDivI c d a b k s) := by
  unfold execDivI
  try dsimp only
  repeat' first | (with_reducible first | assumption | apply next_leads | apply ite_leads | apply ite_kept | apply Eff.ite_kept | (apply State.issue_kept; intro _ _) | (apply State.coreLoads_kept; intro _ _ _) | (apply State.coreStores_kept; intro _ _) | apply State.divide_kept | apply Eff.done_kept | apply Eff.go_kept | apply Eff.rest_kept | apply Eff.stall_kept | apply Eff.fault_kept | apply Eff.poison_kept | (apply foldl_kept; intro _ _ _)) | (apply fst_kept (by assumption)) | split | with_reducible apply State.lit_kept | dsimp only

theorem execDivu_leads [K.Mem] [K.Cores] (c : Fin 9) (d a b : BitVec 4) (k : BitVec 8) (s : State) (hw : K.P s) :
    Leads K (execDivu c d a b k s) := by
  unfold execDivu
  try dsimp only
  repeat' first | (with_reducible first | assumption | apply next_leads | apply ite_leads | apply ite_kept | apply Eff.ite_kept | (apply State.issue_kept; intro _ _) | (apply State.coreLoads_kept; intro _ _ _) | (apply State.coreStores_kept; intro _ _) | apply State.divide_kept | apply Eff.done_kept | apply Eff.go_kept | apply Eff.rest_kept | apply Eff.stall_kept | apply Eff.fault_kept | apply Eff.poison_kept | (apply foldl_kept; intro _ _ _)) | (apply fst_kept (by assumption)) | split | with_reducible apply State.lit_kept | dsimp only

theorem execRem_leads [K.Mem] [K.Cores] (c : Fin 9) (d a b : BitVec 4) (k : BitVec 8) (s : State) (hw : K.P s) :
    Leads K (execRem c d a b k s) := by
  unfold execRem
  try dsimp only
  repeat' first | (with_reducible first | assumption | apply next_leads | apply ite_leads | apply ite_kept | apply Eff.ite_kept | (apply State.issue_kept; intro _ _) | (apply State.coreLoads_kept; intro _ _ _) | (apply State.coreStores_kept; intro _ _) | apply State.divide_kept | apply Eff.done_kept | apply Eff.go_kept | apply Eff.rest_kept | apply Eff.stall_kept | apply Eff.fault_kept | apply Eff.poison_kept | (apply foldl_kept; intro _ _ _)) | (apply fst_kept (by assumption)) | split | with_reducible apply State.lit_kept | dsimp only

theorem execRemu_leads [K.Mem] [K.Cores] (c : Fin 9) (d a b : BitVec 4) (k : BitVec 8) (s : State) (hw : K.P s) :
    Leads K (execRemu c d a b k s) := by
  unfold execRemu
  try dsimp only
  repeat' first | (with_reducible first | assumption | apply next_leads | apply ite_leads | apply ite_kept | apply Eff.ite_kept | (apply State.issue_kept; intro _ _) | (apply State.coreLoads_kept; intro _ _ _) | (apply State.coreStores_kept; intro _ _) | apply State.divide_kept | apply Eff.done_kept | apply Eff.go_kept | apply Eff.rest_kept | apply Eff.stall_kept | apply Eff.fault_kept | apply Eff.poison_kept | (apply foldl_kept; intro _ _ _)) | (apply fst_kept (by assumption)) | split | with_reducible apply State.lit_kept | dsimp only

theorem execScrubLine_leads [K.Mem] [K.Cores] (m : Fin 19) (upset : ScrubFind) (s : State) (hw : K.P s) : Leads K (execScrubLine m upset s) := by
  unfold execScrubLine
  try dsimp only
  repeat' first | (with_reducible first | assumption | apply next_leads | apply ite_leads | apply ite_kept | apply State.put_kept | apply State.lineRead_kept | apply State.lineUpset_kept | apply State.scrubNext_kept | (apply foldl_kept; intro _ _ _)) | (apply fst_kept (by assumption)) | split | with_reducible apply State.lit_kept | dsimp only

theorem execPwrGo_leads (w : Fin 9) (s : State) (hw : K.P s) : Leads K (execPwrGo w s) := by
  unfold execPwrGo
  try dsimp only
  repeat' first | (with_reducible first | assumption | apply next_leads | apply ite_leads | apply ite_kept | apply State.cmdGo_kept | (apply foldl_kept; intro _ _ _)) | (apply fst_kept (by assumption)) | split | with_reducible apply State.lit_kept | dsimp only

theorem execDomainRaised_leads (n : Fin 20) (s : State) (hw : K.P s) : Leads K (execDomainRaised n s) := by
  unfold execDomainRaised
  try dsimp only
  repeat' first | (with_reducible first | assumption | apply next_leads | apply ite_leads | apply ite_kept | apply State.railsAsk_kept | apply State.domRaise_kept | apply State.setPwr_kept | apply State.pwrNext_kept | (apply foldl_kept; intro _ _ _)) | (apply fst_kept (by assumption)) | split | with_reducible apply State.lit_kept | dsimp only

theorem execDomainAgree_leads (s : State) (hw : K.P s) : Leads K (execDomainAgree s) := by
  unfold execDomainAgree
  try dsimp only
  repeat' first | (with_reducible first | assumption | apply next_leads | apply ite_leads | apply ite_kept | apply State.setPwr_kept | apply State.pwrRefuse_kept | apply State.hubAgreed_kept | (apply foldl_kept; intro _ _ _)) | (apply fst_kept (by assumption)) | split | with_reducible apply State.lit_kept | dsimp only

theorem execDomainStop_leads [K.Mem] [K.Cores] (s : State) (hw : K.P s) : Leads K (execDomainStop s) := by
  unfold execDomainStop
  try dsimp only
  repeat' first | (with_reducible first | assumption | apply next_leads | apply ite_leads | apply ite_kept | apply State.pwrStop_kept | (apply foldl_kept; intro _ _ _)) | (apply fst_kept (by assumption)) | split | with_reducible apply State.lit_kept | dsimp only

theorem execAgreeTimeout_leads (s : State) (hw : K.P s) : Leads K (execAgreeTimeout s) := by
  unfold execAgreeTimeout
  try dsimp only
  repeat' first | (with_reducible first | assumption | apply next_leads | apply ite_leads | apply ite_kept | apply State.pwrRefuse_kept | (apply foldl_kept; intro _ _ _)) | (apply fst_kept (by assumption)) | split | with_reducible apply State.lit_kept | dsimp only

theorem execWakeSourceFire_leads (src : Fin 10) (unit : Fin 24) (s : State) (hw : K.P s) : Leads K (execWakeSourceFire src unit s) := by
  unfold execWakeSourceFire
  try dsimp only
  repeat' first | (with_reducible first | assumption | apply next_leads | apply ite_leads | apply ite_kept | apply State.setPwr_kept | apply State.pwrRefuse_kept | (apply foldl_kept; intro _ _ _)) | (apply fst_kept (by assumption)) | split | with_reducible apply State.lit_kept | dsimp only

theorem execWakeTaken_leads (s : State) (hw : K.P s) : Leads K (execWakeTaken s) := by
  unfold execWakeTaken
  try dsimp only
  repeat' first | (with_reducible first | assumption | apply next_leads | apply ite_leads | apply ite_kept | apply State.put_kept | apply State.incSat_kept | apply State.raise_kept | apply State.setPwr_kept | (apply foldl_kept; intro _ _ _)) | (apply fst_kept (by assumption)) | split | with_reducible apply State.lit_kept | dsimp only

theorem execTimeRestart_leads (s : State) (hw : K.P s) : Leads K (execTimeRestart s) := by
  unfold execTimeRestart
  try dsimp only
  repeat' first | (with_reducible first | assumption | apply next_leads | apply ite_leads | apply ite_kept | apply State.put_kept | apply State.putPair_kept | apply State.setPwr_kept | apply State.noteSpan_kept | apply State.timeGo_kept | (apply foldl_kept; intro _ _ _)) | (apply fst_kept (by assumption)) | split | with_reducible apply State.lit_kept | dsimp only

theorem execHubWakeOn_leads [K.Mem] [K.Cores] (s : State) (hw : K.P s) : Leads K (execHubWakeOn s) := by
  unfold execHubWakeOn
  try dsimp only
  repeat' first | (with_reducible first | assumption | apply next_leads | apply ite_leads | apply ite_kept | apply State.logLeave_kept | apply State.setPwr_kept | apply State.pwrBegin_kept | apply State.hubWake_kept | (apply foldl_kept; intro _ _ _)) | (apply fst_kept (by assumption)) | split | with_reducible apply State.lit_kept | dsimp only

theorem execSupplyLinkPoll_leads (s : State) (hw : K.P s) : Leads K (execSupplyLinkPoll s) := by
  unfold execSupplyLinkPoll
  try dsimp only
  repeat' first | (with_reducible first | assumption | apply next_leads | apply ite_leads | apply ite_kept | apply State.freeNext_kept | apply State.emit_kept | (apply foldl_kept; intro _ _ _)) | (apply fst_kept (by assumption)) | split | with_reducible apply State.lit_kept | dsimp only

theorem execSupplyLinkAck_leads [K.Mem] [K.Cores] [K.Resets] (frame : Word) (s : State) (hw : K.P s) : Leads K (execSupplyLinkAck frame s) := by
  unfold execSupplyLinkAck
  try dsimp only
  repeat' first | (with_reducible first | assumption | apply next_leads | apply ite_leads | apply ite_kept | apply State.put_kept | apply State.linkNext_kept | apply State.linkTake_kept | (apply foldl_kept; intro _ _ _)) | (apply fst_kept (by assumption)) | split | with_reducible apply State.lit_kept | dsimp only

theorem execSupplyLinkTimeout_leads [K.Mem] [K.Cores] (s : State) (hw : K.P s) : Leads K (execSupplyLinkTimeout s) := by
  unfold execSupplyLinkTimeout
  try dsimp only
  repeat' first | (with_reducible first | assumption | apply next_leads | apply ite_leads | apply ite_kept | apply State.put_kept | apply State.incSat_kept | apply State.raise_kept | apply State.emit_kept | apply State.logWrite_kept | apply State.faultHold_kept | (apply foldl_kept; intro _ _ _)) | (apply fst_kept (by assumption)) | split | with_reducible apply State.lit_kept | dsimp only

theorem execStatusPoll_leads (s : State) (hw : K.P s) : Leads K (execStatusPoll s) := by
  unfold execStatusPoll
  try dsimp only
  repeat' first | (with_reducible first | assumption | apply next_leads | apply ite_leads | apply ite_kept | apply State.linkSend_kept | (apply foldl_kept; intro _ _ _)) | (apply fst_kept (by assumption)) | split | with_reducible apply State.lit_kept | dsimp only

theorem execRailRead_leads (s : State) (hw : K.P s) : Leads K (execRailRead s) := by
  unfold execRailRead
  try dsimp only
  repeat' first | (with_reducible first | assumption | apply next_leads | apply ite_leads | apply ite_kept | apply State.linkSend_kept | (apply foldl_kept; intro _ _ _)) | (apply fst_kept (by assumption)) | split | with_reducible apply State.lit_kept | dsimp only

theorem execStageWatchdog_leads (s : State) (hw : K.P s) : Leads K (execStageWatchdog s) := by
  unfold execStageWatchdog
  try dsimp only
  repeat' first | (with_reducible first | assumption | apply next_leads | apply ite_leads | apply ite_kept | apply State.setTw_kept | (apply foldl_kept; intro _ _ _)) | (apply fst_kept (by assumption)) | split | with_reducible apply State.lit_kept | dsimp only

theorem execSagThreshold_leads (deep : Bool) (s : State) (hw : K.P s) : Leads K (execSagThreshold deep s) := by
  unfold execSagThreshold
  try dsimp only
  repeat' first | (with_reducible first | assumption | apply next_leads | apply ite_leads | apply ite_kept | apply State.put_kept | apply State.incSat_kept | apply State.throttleTime_kept | apply State.throttleEvent_kept | apply State.throttleHeld_kept | (apply foldl_kept; intro _ _ _)) | (apply fst_kept (by assumption)) | split | with_reducible apply State.lit_kept | dsimp only

theorem execThrottleRelease_leads (toOne : Bool) (s : State) (hw : K.P s) : Leads K (execThrottleRelease toOne s) := by
  unfold execThrottleRelease
  try dsimp only
  repeat' first | (with_reducible first | assumption | apply next_leads | apply ite_leads | apply ite_kept | apply State.put_kept | apply State.logWrite_kept | apply State.throttleTime_kept | apply State.throttleEvent_kept | (apply foldl_kept; intro _ _ _)) | (apply fst_kept (by assumption)) | split | with_reducible apply State.lit_kept | dsimp only

theorem execThrottleBacklog_leads (s : State) (hw : K.P s) : Leads K (execThrottleBacklog s) := by
  unfold execThrottleBacklog
  try dsimp only
  repeat' first | (with_reducible first | assumption | apply next_leads | apply ite_leads | apply ite_kept | apply State.put_kept | apply State.raise_kept | (apply foldl_kept; intro _ _ _)) | (apply fst_kept (by assumption)) | split | with_reducible apply State.lit_kept | dsimp only

theorem execVcoreLow_leads [K.Mem] [K.Cores] (s : State) (hw : K.P s) : Leads K (execVcoreLow s) := by
  unfold execVcoreLow
  try dsimp only
  repeat' first | (with_reducible first | assumption | apply next_leads | apply ite_leads | apply ite_kept | apply State.holdFirst_kept | apply State.faultHold_kept | apply State.supplyNote_kept | (apply foldl_kept; intro _ _ _)) | (apply fst_kept (by assumption)) | split | with_reducible apply State.lit_kept | dsimp only

end Sys2Proof.Machine
end

