-- ==== Sys2Proof/Laws/PerInstr.lean ====
section
/-! SUPPORT. The family Encoding: the word of a Filsy instruction spells that instruction again (R253, R254), one lemma per command. -/

set_option Elab.async false

namespace Sys2Proof.Laws.Encoding

open Machine

/-- The word of the command, if it has one, spells it again. -/
def Statement (i : Instr) : Prop := ∀ (c : Fin 9) (w : Word), i.filsyCore = some c → encodeFilsy i = some w → decodeFilsy c w = some i

theorem add (c : Fin 9) (d a b : BitVec 4) (k : BitVec 8) : Statement (.add c d a b k) := by
  intro e w h hw; cases h; simp only [encodeFilsy, Option.some.injEq] at hw; subst hw
  obtain ⟨h1, h2, h3, h4, h5, h6⟩ := packA_read 0x00 0 d a b k (by decide) (by decide)
  simp [decodeFilsy, decodeInt, readA, h1, h2, h3, h4, h5, h6]

theorem adc (c : Fin 9) (d a b : BitVec 4) (k : BitVec 8) : Statement (.adc c d a b k) := by
  intro e w h hw; cases h; simp only [encodeFilsy, Option.some.injEq] at hw; subst hw
  obtain ⟨h1, h2, h3, h4, h5, h6⟩ := packA_read 0x00 1 d a b k (by decide) (by decide)
  simp [decodeFilsy, decodeInt, readA, h1, h2, h3, h4, h5, h6]

theorem sub (c : Fin 9) (d a b : BitVec 4) (k : BitVec 8) : Statement (.sub c d a b k) := by
  intro e w h hw; cases h; simp only [encodeFilsy, Option.some.injEq] at hw; subst hw
  obtain ⟨h1, h2, h3, h4, h5, h6⟩ := packA_read 0x00 2 d a b k (by decide) (by decide)
  simp [decodeFilsy, decodeInt, readA, h1, h2, h3, h4, h5, h6]

theorem sbc (c : Fin 9) (d a b : BitVec 4) (k : BitVec 8) : Statement (.sbc c d a b k) := by
  intro e w h hw; cases h; simp only [encodeFilsy, Option.some.injEq] at hw; subst hw
  obtain ⟨h1, h2, h3, h4, h5, h6⟩ := packA_read 0x00 3 d a b k (by decide) (by decide)
  simp [decodeFilsy, decodeInt, readA, h1, h2, h3, h4, h5, h6]

theorem adds (c : Fin 9) (d a b : BitVec 4) (k : BitVec 8) : Statement (.adds c d a b k) := by
  intro e w h hw; cases h; simp only [encodeFilsy, Option.some.injEq] at hw; subst hw
  obtain ⟨h1, h2, h3, h4, h5, h6⟩ := packA_read 0x00 4 d a b k (by decide) (by decide)
  simp [decodeFilsy, decodeInt, readA, h1, h2, h3, h4, h5, h6]

theorem subs (c : Fin 9) (d a b : BitVec 4) (k : BitVec 8) : Statement (.subs c d a b k) := by
  intro e w h hw; cases h; simp only [encodeFilsy, Option.some.injEq] at hw; subst hw
  obtain ⟨h1, h2, h3, h4, h5, h6⟩ := packA_read 0x00 5 d a b k (by decide) (by decide)
  simp [decodeFilsy, decodeInt, readA, h1, h2, h3, h4, h5, h6]

theorem neg (c : Fin 9) (d a b : BitVec 4) (k : BitVec 8) : Statement (.neg c d a b k) := by
  intro e w h hw; cases h; simp only [encodeFilsy, Option.some.injEq] at hw; subst hw
  obtain ⟨h1, h2, h3, h4, h5, h6⟩ := packA_read 0x00 6 d a b k (by decide) (by decide)
  simp [decodeFilsy, decodeInt, readA, h1, h2, h3, h4, h5, h6]

theorem negs (c : Fin 9) (d a b : BitVec 4) (k : BitVec 8) : Statement (.negs c d a b k) := by
  intro e w h hw; cases h; simp only [encodeFilsy, Option.some.injEq] at hw; subst hw
  obtain ⟨h1, h2, h3, h4, h5, h6⟩ := packA_read 0x00 7 d a b k (by decide) (by decide)
  simp [decodeFilsy, decodeInt, readA, h1, h2, h3, h4, h5, h6]

theorem andI (c : Fin 9) (d a b : BitVec 4) (k : BitVec 8) : Statement (.andI c d a b k) := by
  intro e w h hw; cases h; simp only [encodeFilsy, Option.some.injEq] at hw; subst hw
  obtain ⟨h1, h2, h3, h4, h5, h6⟩ := packA_read 0x00 8 d a b k (by decide) (by decide)
  simp [decodeFilsy, decodeInt, readA, h1, h2, h3, h4, h5, h6]

theorem orI (c : Fin 9) (d a b : BitVec 4) (k : BitVec 8) : Statement (.orI c d a b k) := by
  intro e w h hw; cases h; simp only [encodeFilsy, Option.some.injEq] at hw; subst hw
  obtain ⟨h1, h2, h3, h4, h5, h6⟩ := packA_read 0x00 9 d a b k (by decide) (by decide)
  simp [decodeFilsy, decodeInt, readA, h1, h2, h3, h4, h5, h6]

theorem xor (c : Fin 9) (d a b : BitVec 4) (k : BitVec 8) : Statement (.xor c d a b k) := by
  intro e w h hw; cases h; simp only [encodeFilsy, Option.some.injEq] at hw; subst hw
  obtain ⟨h1, h2, h3, h4, h5, h6⟩ := packA_read 0x00 10 d a b k (by decide) (by decide)
  simp [decodeFilsy, decodeInt, readA, h1, h2, h3, h4, h5, h6]

theorem andn (c : Fin 9) (d a b : BitVec 4) (k : BitVec 8) : Statement (.andn c d a b k) := by
  intro e w h hw; cases h; simp only [encodeFilsy, Option.some.injEq] at hw; subst hw
  obtain ⟨h1, h2, h3, h4, h5, h6⟩ := packA_read 0x00 11 d a b k (by decide) (by decide)
  simp [decodeFilsy, decodeInt, readA, h1, h2, h3, h4, h5, h6]

theorem minI (c : Fin 9) (d a b : BitVec 4) (k : BitVec 8) : Statement (.minI c d a b k) := by
  intro e w h hw; cases h; simp only [encodeFilsy, Option.some.injEq] at hw; subst hw
  obtain ⟨h1, h2, h3, h4, h5, h6⟩ := packA_read 0x00 16 d a b k (by decide) (by decide)
  simp [decodeFilsy, decodeInt, readA, h1, h2, h3, h4, h5, h6]

theorem maxI (c : Fin 9) (d a b : BitVec 4) (k : BitVec 8) : Statement (.maxI c d a b k) := by
  intro e w h hw; cases h; simp only [encodeFilsy, Option.some.injEq] at hw; subst hw
  obtain ⟨h1, h2, h3, h4, h5, h6⟩ := packA_read 0x00 17 d a b k (by decide) (by decide)
  simp [decodeFilsy, decodeInt, readA, h1, h2, h3, h4, h5, h6]

theorem minu (c : Fin 9) (d a b : BitVec 4) (k : BitVec 8) : Statement (.minu c d a b k) := by
  intro e w h hw; cases h; simp only [encodeFilsy, Option.some.injEq] at hw; subst hw
  obtain ⟨h1, h2, h3, h4, h5, h6⟩ := packA_read 0x00 18 d a b k (by decide) (by decide)
  simp [decodeFilsy, decodeInt, readA, h1, h2, h3, h4, h5, h6]

theorem maxu (c : Fin 9) (d a b : BitVec 4) (k : BitVec 8) : Statement (.maxu c d a b k) := by
  intro e w h hw; cases h; simp only [encodeFilsy, Option.some.injEq] at hw; subst hw
  obtain ⟨h1, h2, h3, h4, h5, h6⟩ := packA_read 0x00 19 d a b k (by decide) (by decide)
  simp [decodeFilsy, decodeInt, readA, h1, h2, h3, h4, h5, h6]

theorem abs (c : Fin 9) (d a b : BitVec 4) (k : BitVec 8) : Statement (.abs c d a b k) := by
  intro e w h hw; cases h; simp only [encodeFilsy, Option.some.injEq] at hw; subst hw
  obtain ⟨h1, h2, h3, h4, h5, h6⟩ := packA_read 0x00 20 d a b k (by decide) (by decide)
  simp [decodeFilsy, decodeInt, readA, h1, h2, h3, h4, h5, h6]

theorem abss (c : Fin 9) (d a b : BitVec 4) (k : BitVec 8) : Statement (.abss c d a b k) := by
  intro e w h hw; cases h; simp only [encodeFilsy, Option.some.injEq] at hw; subst hw
  obtain ⟨h1, h2, h3, h4, h5, h6⟩ := packA_read 0x00 21 d a b k (by decide) (by decide)
  simp [decodeFilsy, decodeInt, readA, h1, h2, h3, h4, h5, h6]

theorem sextb (c : Fin 9) (d a b : BitVec 4) (k : BitVec 8) : Statement (.sextb c d a b k) := by
  intro e w h hw; cases h; simp only [encodeFilsy, Option.some.injEq] at hw; subst hw
  obtain ⟨h1, h2, h3, h4, h5, h6⟩ := packA_read 0x00 22 d a b k (by decide) (by decide)
  simp [decodeFilsy, decodeInt, readA, h1, h2, h3, h4, h5, h6]

theorem sexth (c : Fin 9) (d a b : BitVec 4) (k : BitVec 8) : Statement (.sexth c d a b k) := by
  intro e w h hw; cases h; simp only [encodeFilsy, Option.some.injEq] at hw; subst hw
  obtain ⟨h1, h2, h3, h4, h5, h6⟩ := packA_read 0x00 23 d a b k (by decide) (by decide)
  simp [decodeFilsy, decodeInt, readA, h1, h2, h3, h4, h5, h6]

theorem clz (c : Fin 9) (d a b : BitVec 4) (k : BitVec 8) : Statement (.clz c d a b k) := by
  intro e w h hw; cases h; simp only [encodeFilsy, Option.some.injEq] at hw; subst hw
  obtain ⟨h1, h2, h3, h4, h5, h6⟩ := packA_read 0x00 24 d a b k (by decide) (by decide)
  simp [decodeFilsy, decodeInt, readA, h1, h2, h3, h4, h5, h6]

theorem popc (c : Fin 9) (d a b : BitVec 4) (k : BitVec 8) : Statement (.popc c d a b k) := by
  intro e w h hw; cases h; simp only [encodeFilsy, Option.some.injEq] at hw; subst hw
  obtain ⟨h1, h2, h3, h4, h5, h6⟩ := packA_read 0x00 25 d a b k (by decide) (by decide)
  simp [decodeFilsy, decodeInt, readA, h1, h2, h3, h4, h5, h6]

theorem sel (c : Fin 9) (d a b : BitVec 4) (k : BitVec 8) : Statement (.sel c d a b k) := by
  intro e w h hw; cases h; simp only [encodeFilsy, Option.some.injEq] at hw; subst hw
  obtain ⟨h1, h2, h3, h4, h5, h6⟩ := packA_read 0x00 26 d a b k (by decide) (by decide)
  simp [decodeFilsy, decodeInt, readA, h1, h2, h3, h4, h5, h6]

theorem addi (c : Fin 9) (d a : BitVec 4) (imm : BitVec 18) : Statement (.addi c d a imm) := by
  intro e w h hw; cases h; simp only [encodeFilsy, Option.some.injEq] at hw; subst hw
  obtain ⟨h1, h2, h3, h4⟩ := packI_read 0x08 d a imm (by decide)
  simp [decodeFilsy, readI, h1, h2, h3, h4]

theorem subi (c : Fin 9) (d a : BitVec 4) (imm : BitVec 18) : Statement (.subi c d a imm) := by
  intro e w h hw; cases h; simp only [encodeFilsy, Option.some.injEq] at hw; subst hw
  obtain ⟨h1, h2, h3, h4⟩ := packI_read 0x09 d a imm (by decide)
  simp [decodeFilsy, readI, h1, h2, h3, h4]

theorem andi (c : Fin 9) (d a : BitVec 4) (imm : BitVec 18) : Statement (.andi c d a imm) := by
  intro e w h hw; cases h; simp only [encodeFilsy, Option.some.injEq] at hw; subst hw
  obtain ⟨h1, h2, h3, h4⟩ := packI_read 0x0A d a imm (by decide)
  simp [decodeFilsy, readI, h1, h2, h3, h4]

theorem ori (c : Fin 9) (d a : BitVec 4) (imm : BitVec 18) : Statement (.ori c d a imm) := by
  intro e w h hw; cases h; simp only [encodeFilsy, Option.some.injEq] at hw; subst hw
  obtain ⟨h1, h2, h3, h4⟩ := packI_read 0x0B d a imm (by decide)
  simp [decodeFilsy, readI, h1, h2, h3, h4]

theorem xori (c : Fin 9) (d a : BitVec 4) (imm : BitVec 18) : Statement (.xori c d a imm) := by
  intro e w h hw; cases h; simp only [encodeFilsy, Option.some.injEq] at hw; subst hw
  obtain ⟨h1, h2, h3, h4⟩ := packI_read 0x0C d a imm (by decide)
  simp [decodeFilsy, readI, h1, h2, h3, h4]

theorem lui (c : Fin 9) (d : BitVec 4) (imm : BitVec 22) : Statement (.lui c d imm) := by
  intro e w h hw; cases h; simp only [encodeFilsy, Option.some.injEq] at hw; subst hw
  obtain ⟨h1, h2, h3⟩ := packU_read 0x0D d imm (by decide)
  simp [decodeFilsy, h1, h2, h3]

theorem shl (c : Fin 9) (d a b : BitVec 4) (k : BitVec 8) (byK : Bool) : Statement (.shl c d a b k byK) := by
  intro e w h hw; cases h; simp only [encodeFilsy, Option.some.injEq] at hw; subst hw
  cases byK
  · obtain ⟨h1, h2, h3, h4, h5, h6⟩ := packA_read 0x02 0 d a b k (by decide) (by decide)
    have h7 : (packA 0x02 0 d a b k).toNat / 8 % 2 = 0 := by omega
    simp [packS, decodeFilsy, decodeShift, readS, h1, h2, h3, h4, h5, h6, h7]
  · obtain ⟨h1, h2, h3, h4, h5, h6⟩ := packA_read 0x02 8 d a b k (by decide) (by decide)
    have h7 : (packA 0x02 8 d a b k).toNat / 8 % 2 = 1 := by omega
    simp [packS, decodeFilsy, decodeShift, readS, h1, h2, h3, h4, h5, h6, h7]

theorem shr (c : Fin 9) (d a b : BitVec 4) (k : BitVec 8) (byK : Bool) : Statement (.shr c d a b k byK) := by
  intro e w h hw; cases h; simp only [encodeFilsy, Option.some.injEq] at hw; subst hw
  cases byK
  · obtain ⟨h1, h2, h3, h4, h5, h6⟩ := packA_read 0x02 1 d a b k (by decide) (by decide)
    have h7 : (packA 0x02 1 d a b k).toNat / 8 % 2 = 0 := by omega
    simp [packS, decodeFilsy, decodeShift, readS, h1, h2, h3, h4, h5, h6, h7]
  · obtain ⟨h1, h2, h3, h4, h5, h6⟩ := packA_read 0x02 9 d a b k (by decide) (by decide)
    have h7 : (packA 0x02 9 d a b k).toNat / 8 % 2 = 1 := by omega
    simp [packS, decodeFilsy, decodeShift, readS, h1, h2, h3, h4, h5, h6, h7]

theorem sar (c : Fin 9) (d a b : BitVec 4) (k : BitVec 8) (byK : Bool) : Statement (.sar c d a b k byK) := by
  intro e w h hw; cases h; simp only [encodeFilsy, Option.some.injEq] at hw; subst hw
  cases byK
  · obtain ⟨h1, h2, h3, h4, h5, h6⟩ := packA_read 0x02 2 d a b k (by decide) (by decide)
    have h7 : (packA 0x02 2 d a b k).toNat / 8 % 2 = 0 := by omega
    simp [packS, decodeFilsy, decodeShift, readS, h1, h2, h3, h4, h5, h6, h7]
  · obtain ⟨h1, h2, h3, h4, h5, h6⟩ := packA_read 0x02 10 d a b k (by decide) (by decide)
    have h7 : (packA 0x02 10 d a b k).toNat / 8 % 2 = 1 := by omega
    simp [packS, decodeFilsy, decodeShift, readS, h1, h2, h3, h4, h5, h6, h7]

theorem ror (c : Fin 9) (d a b : BitVec 4) (k : BitVec 8) (byK : Bool) : Statement (.ror c d a b k byK) := by
  intro e w h hw; cases h; simp only [encodeFilsy, Option.some.injEq] at hw; subst hw
  cases byK
  · obtain ⟨h1, h2, h3, h4, h5, h6⟩ := packA_read 0x02 3 d a b k (by decide) (by decide)
    have h7 : (packA 0x02 3 d a b k).toNat / 8 % 2 = 0 := by omega
    simp [packS, decodeFilsy, decodeShift, readS, h1, h2, h3, h4, h5, h6, h7]
  · obtain ⟨h1, h2, h3, h4, h5, h6⟩ := packA_read 0x02 11 d a b k (by decide) (by decide)
    have h7 : (packA 0x02 11 d a b k).toNat / 8 % 2 = 1 := by omega
    simp [packS, decodeFilsy, decodeShift, readS, h1, h2, h3, h4, h5, h6, h7]

theorem rol (c : Fin 9) (d a b : BitVec 4) (k : BitVec 8) (byK : Bool) : Statement (.rol c d a b k byK) := by
  intro e w h hw; cases h; simp only [encodeFilsy, Option.some.injEq] at hw; subst hw
  cases byK
  · obtain ⟨h1, h2, h3, h4, h5, h6⟩ := packA_read 0x02 4 d a b k (by decide) (by decide)
    have h7 : (packA 0x02 4 d a b k).toNat / 8 % 2 = 0 := by omega
    simp [packS, decodeFilsy, decodeShift, readS, h1, h2, h3, h4, h5, h6, h7]
  · obtain ⟨h1, h2, h3, h4, h5, h6⟩ := packA_read 0x02 12 d a b k (by decide) (by decide)
    have h7 : (packA 0x02 12 d a b k).toNat / 8 % 2 = 1 := by omega
    simp [packS, decodeFilsy, decodeShift, readS, h1, h2, h3, h4, h5, h6, h7]

theorem shls (c : Fin 9) (d a b : BitVec 4) (k : BitVec 8) (byK : Bool) : Statement (.shls c d a b k byK) := by
  intro e w h hw; cases h; simp only [encodeFilsy, Option.some.injEq] at hw; subst hw
  cases byK
  · obtain ⟨h1, h2, h3, h4, h5, h6⟩ := packA_read 0x02 5 d a b k (by decide) (by decide)
    have h7 : (packA 0x02 5 d a b k).toNat / 8 % 2 = 0 := by omega
    simp [packS, decodeFilsy, decodeShift, readS, h1, h2, h3, h4, h5, h6, h7]
  · obtain ⟨h1, h2, h3, h4, h5, h6⟩ := packA_read 0x02 13 d a b k (by decide) (by decide)
    have h7 : (packA 0x02 13 d a b k).toNat / 8 % 2 = 1 := by omega
    simp [packS, decodeFilsy, decodeShift, readS, h1, h2, h3, h4, h5, h6, h7]

theorem mul (c : Fin 9) (d a b : BitVec 4) (k : BitVec 8) : Statement (.mul c d a b k) := by
  intro e w h hw; cases h; simp only [encodeFilsy, Option.some.injEq] at hw; subst hw
  obtain ⟨h1, h2, h3, h4, h5, h6⟩ := packA_read 0x01 0 d a b k (by decide) (by decide)
  simp [decodeFilsy, decodeMul, readA, h1, h2, h3, h4, h5, h6]

theorem mulh (c : Fin 9) (d a b : BitVec 4) (k : BitVec 8) : Statement (.mulh c d a b k) := by
  intro e w h hw; cases h; simp only [encodeFilsy, Option.some.injEq] at hw; subst hw
  obtain ⟨h1, h2, h3, h4, h5, h6⟩ := packA_read 0x01 1 d a b k (by decide) (by decide)
  simp [decodeFilsy, decodeMul, readA, h1, h2, h3, h4, h5, h6]

theorem mulhu (c : Fin 9) (d a b : BitVec 4) (k : BitVec 8) : Statement (.mulhu c d a b k) := by
  intro e w h hw; cases h; simp only [encodeFilsy, Option.some.injEq] at hw; subst hw
  obtain ⟨h1, h2, h3, h4, h5, h6⟩ := packA_read 0x01 2 d a b k (by decide) (by decide)
  simp [decodeFilsy, decodeMul, readA, h1, h2, h3, h4, h5, h6]

theorem mac (c : Fin 9) (d a b : BitVec 4) (k : BitVec 8) : Statement (.mac c d a b k) := by
  intro e w h hw; cases h; simp only [encodeFilsy, Option.some.injEq] at hw; subst hw
  obtain ⟨h1, h2, h3, h4, h5, h6⟩ := packA_read 0x01 3 d a b k (by decide) (by decide)
  simp [decodeFilsy, decodeMul, readA, h1, h2, h3, h4, h5, h6]

theorem macs (c : Fin 9) (d a b : BitVec 4) (k : BitVec 8) : Statement (.macs c d a b k) := by
  intro e w h hw; cases h; simp only [encodeFilsy, Option.some.injEq] at hw; subst hw
  obtain ⟨h1, h2, h3, h4, h5, h6⟩ := packA_read 0x01 4 d a b k (by decide) (by decide)
  simp [decodeFilsy, decodeMul, readA, h1, h2, h3, h4, h5, h6]

theorem mulq (c : Fin 9) (d a b : BitVec 4) (k : BitVec 8) : Statement (.mulq c d a b k) := by
  intro e w h hw; cases h; simp only [encodeFilsy, Option.some.injEq] at hw; subst hw
  obtain ⟨h1, h2, h3, h4, h5, h6⟩ := packA_read 0x01 5 d a b k (by decide) (by decide)
  simp [decodeFilsy, decodeMul, readA, h1, h2, h3, h4, h5, h6]

theorem macq (c : Fin 9) (d a b : BitVec 4) (k : BitVec 8) : Statement (.macq c d a b k) := by
  intro e w h hw; cases h; simp only [encodeFilsy, Option.some.injEq] at hw; subst hw
  obtain ⟨h1, h2, h3, h4, h5, h6⟩ := packA_read 0x01 6 d a b k (by decide) (by decide)
  simp [decodeFilsy, decodeMul, readA, h1, h2, h3, h4, h5, h6]

theorem dotq (c : Fin 9) (d a b : BitVec 4) (k : BitVec 8) : Statement (.dotq c d a b k) := by
  intro e w h hw; cases h; simp only [encodeFilsy, Option.some.injEq] at hw; subst hw
  obtain ⟨h1, h2, h3, h4, h5, h6⟩ := packA_read 0x01 7 d a b k (by decide) (by decide)
  simp [decodeFilsy, decodeMul, readA, h1, h2, h3, h4, h5, h6]

theorem divI (c : Fin 9) (d a b : BitVec 4) (k : BitVec 8) : Statement (.divI c d a b k) := by
  intro e w h hw; cases h; simp only [encodeFilsy, Option.some.injEq] at hw; subst hw
  obtain ⟨h1, h2, h3, h4, h5, h6⟩ := packA_read 0x01 8 d a b k (by decide) (by decide)
  simp [decodeFilsy, decodeMul, readA, h1, h2, h3, h4, h5, h6]

theorem divu (c : Fin 9) (d a b : BitVec 4) (k : BitVec 8) : Statement (.divu c d a b k) := by
  intro e w h hw; cases h; simp only [encodeFilsy, Option.some.injEq] at hw; subst hw
  obtain ⟨h1, h2, h3, h4, h5, h6⟩ := packA_read 0x01 9 d a b k (by decide) (by decide)
  simp [decodeFilsy, decodeMul, readA, h1, h2, h3, h4, h5, h6]

theorem rem (c : Fin 9) (d a b : BitVec 4) (k : BitVec 8) : Statement (.rem c d a b k) := by
  intro e w h hw; cases h; simp only [encodeFilsy, Option.some.injEq] at hw; subst hw
  obtain ⟨h1, h2, h3, h4, h5, h6⟩ := packA_read 0x01 10 d a b k (by decide) (by decide)
  simp [decodeFilsy, decodeMul, readA, h1, h2, h3, h4, h5, h6]

theorem remu (c : Fin 9) (d a b : BitVec 4) (k : BitVec 8) : Statement (.remu c d a b k) := by
  intro e w h hw; cases h; simp only [encodeFilsy, Option.some.injEq] at hw; subst hw
  obtain ⟨h1, h2, h3, h4, h5, h6⟩ := packA_read 0x01 11 d a b k (by decide) (by decide)
  simp [decodeFilsy, decodeMul, readA, h1, h2, h3, h4, h5, h6]

theorem ldw (c : Fin 9) (d a : BitVec 4) (imm : BitVec 18) : Statement (.ldw c d a imm) := by
  intro e w h hw; cases h; simp only [encodeFilsy, Option.some.injEq] at hw; subst hw
  obtain ⟨h1, h2, h3, h4⟩ := packI_read 0x10 d a imm (by decide)
  simp [decodeFilsy, readI, h1, h2, h3, h4]

theorem ldh (c : Fin 9) (d a : BitVec 4) (imm : BitVec 18) : Statement (.ldh c d a imm) := by
  intro e w h hw; cases h; simp only [encodeFilsy, Option.some.injEq] at hw; subst hw
  obtain ⟨h1, h2, h3, h4⟩ := packI_read 0x11 d a imm (by decide)
  simp [decodeFilsy, readI, h1, h2, h3, h4]

theorem ldhu (c : Fin 9) (d a : BitVec 4) (imm : BitVec 18) : Statement (.ldhu c d a imm) := by
  intro e w h hw; cases h; simp only [encodeFilsy, Option.some.injEq] at hw; subst hw
  obtain ⟨h1, h2, h3, h4⟩ := packI_read 0x12 d a imm (by decide)
  simp [decodeFilsy, readI, h1, h2, h3, h4]

theorem ldb (c : Fin 9) (d a : BitVec 4) (imm : BitVec 18) : Statement (.ldb c d a imm) := by
  intro e w h hw; cases h; simp only [encodeFilsy, Option.some.injEq] at hw; subst hw
  obtain ⟨h1, h2, h3, h4⟩ := packI_read 0x13 d a imm (by decide)
  simp [decodeFilsy, readI, h1, h2, h3, h4]

theorem ldbu (c : Fin 9) (d a : BitVec 4) (imm : BitVec 18) : Statement (.ldbu c d a imm) := by
  intro e w h hw; cases h; simp only [encodeFilsy, Option.some.injEq] at hw; subst hw
  obtain ⟨h1, h2, h3, h4⟩ := packI_read 0x14 d a imm (by decide)
  simp [decodeFilsy, readI, h1, h2, h3, h4]

theorem stw (c : Fin 9) (d a : BitVec 4) (imm : BitVec 18) : Statement (.stw c d a imm) := by
  intro e w h hw; cases h; simp only [encodeFilsy, Option.some.injEq] at hw; subst hw
  obtain ⟨h1, h2, h3, h4⟩ := packI_read 0x15 d a imm (by decide)
  simp [decodeFilsy, readI, h1, h2, h3, h4]

theorem sth (c : Fin 9) (d a : BitVec 4) (imm : BitVec 18) : Statement (.sth c d a imm) := by
  intro e w h hw; cases h; simp only [encodeFilsy, Option.some.injEq] at hw; subst hw
  obtain ⟨h1, h2, h3, h4⟩ := packI_read 0x16 d a imm (by decide)
  simp [decodeFilsy, readI, h1, h2, h3, h4]

theorem stb (c : Fin 9) (d a : BitVec 4) (imm : BitVec 18) : Statement (.stb c d a imm) := by
  intro e w h hw; cases h; simp only [encodeFilsy, Option.some.injEq] at hw; subst hw
  obtain ⟨h1, h2, h3, h4⟩ := packI_read 0x17 d a imm (by decide)
  simp [decodeFilsy, readI, h1, h2, h3, h4]

theorem ldwp (c : Fin 9) (d a : BitVec 4) (imm : BitVec 18) : Statement (.ldwp c d a imm) := by
  intro e w h hw; cases h; simp only [encodeFilsy, Option.some.injEq] at hw; subst hw
  obtain ⟨h1, h2, h3, h4⟩ := packI_read 0x18 d a imm (by decide)
  simp [decodeFilsy, readI, h1, h2, h3, h4]

theorem stwp (c : Fin 9) (d a : BitVec 4) (imm : BitVec 18) : Statement (.stwp c d a imm) := by
  intro e w h hw; cases h; simp only [encodeFilsy, Option.some.injEq] at hw; subst hw
  obtain ⟨h1, h2, h3, h4⟩ := packI_read 0x19 d a imm (by decide)
  simp [decodeFilsy, readI, h1, h2, h3, h4]

theorem ldhp (c : Fin 9) (d a : BitVec 4) (imm : BitVec 18) : Statement (.ldhp c d a imm) := by
  intro e w h hw; cases h; simp only [encodeFilsy, Option.some.injEq] at hw; subst hw
  obtain ⟨h1, h2, h3, h4⟩ := packI_read 0x1A d a imm (by decide)
  simp [decodeFilsy, readI, h1, h2, h3, h4]

theorem sthp (c : Fin 9) (d a : BitVec 4) (imm : BitVec 18) : Statement (.sthp c d a imm) := by
  intro e w h hw; cases h; simp only [encodeFilsy, Option.some.injEq] at hw; subst hw
  obtain ⟨h1, h2, h3, h4⟩ := packI_read 0x1B d a imm (by decide)
  simp [decodeFilsy, readI, h1, h2, h3, h4]

theorem push (c : Fin 9) (d a b : BitVec 4) (k : BitVec 8) : Statement (.push c d a b k) := by
  intro e w h hw; cases h; simp only [encodeFilsy, Option.some.injEq] at hw; subst hw
  obtain ⟨h1, h2, h3, h4, h5, h6⟩ := packA_read 0x1C 0 d a b k (by decide) (by decide)
  simp [decodeFilsy, decodeStack, readA, h1, h2, h3, h4, h5, h6]

theorem pop (c : Fin 9) (d a b : BitVec 4) (k : BitVec 8) : Statement (.pop c d a b k) := by
  intro e w h hw; cases h; simp only [encodeFilsy, Option.some.injEq] at hw; subst hw
  obtain ⟨h1, h2, h3, h4, h5, h6⟩ := packA_read 0x1D 0 d a b k (by decide) (by decide)
  simp [decodeFilsy, decodeStack, readA, h1, h2, h3, h4, h5, h6]

theorem b (c : Fin 9) (cond : BitVec 4) (off : BitVec 22) : Statement (.b c cond off) := by
  intro e w h hw; cases h; simp only [encodeFilsy, Option.some.injEq] at hw; subst hw
  obtain ⟨h1, h2, h3⟩ := packU_read 0x20 cond off (by decide)
  simp [decodeFilsy, h1, h2, h3]

theorem call (c : Fin 9) (cond : BitVec 4) (off : BitVec 22) : Statement (.call c cond off) := by
  intro e w h hw; cases h; simp only [encodeFilsy, Option.some.injEq] at hw; subst hw
  obtain ⟨h1, h2, h3⟩ := packU_read 0x21 cond off (by decide)
  simp [decodeFilsy, h1, h2, h3]

theorem jr (c : Fin 9) (d a b : BitVec 4) (k : BitVec 8) : Statement (.jr c d a b k) := by
  intro e w h hw; cases h; simp only [encodeFilsy, Option.some.injEq] at hw; subst hw
  obtain ⟨h1, h2, h3, h4, h5, h6⟩ := packA_read 0x22 0 d a b k (by decide) (by decide)
  simp [decodeFilsy, decodeJump, readA, h1, h2, h3, h4, h5, h6]

theorem callr (c : Fin 9) (d a b : BitVec 4) (k : BitVec 8) : Statement (.callr c d a b k) := by
  intro e w h hw; cases h; simp only [encodeFilsy, Option.some.injEq] at hw; subst hw
  obtain ⟨h1, h2, h3, h4, h5, h6⟩ := packA_read 0x22 1 d a b k (by decide) (by decide)
  simp [decodeFilsy, decodeJump, readA, h1, h2, h3, h4, h5, h6]

theorem ret (c : Fin 9) (d a b : BitVec 4) (k : BitVec 8) : Statement (.ret c d a b k) := by
  intro e w h hw; cases h; simp only [encodeFilsy, Option.some.injEq] at hw; subst hw
  obtain ⟨h1, h2, h3, h4, h5, h6⟩ := packA_read 0x22 2 d a b k (by decide) (by decide)
  simp [decodeFilsy, decodeJump, readA, h1, h2, h3, h4, h5, h6]

theorem rpti (c : Fin 9) (d : BitVec 4) (imm : BitVec 22) : Statement (.rpti c d imm) := by
  intro e w h hw; cases h; simp only [encodeFilsy, Option.some.injEq] at hw; subst hw
  obtain ⟨h1, h2, h3⟩ := packU_read 0x23 d imm (by decide)
  simp [decodeFilsy, h1, h2, h3]

theorem rptr (c : Fin 9) (rest : BitVec 26) : Statement (.rptr c rest) := by
  intro e w h hw; cases h; simp only [encodeFilsy, Option.some.injEq] at hw; subst hw
  have := rest.isLt
  have h1 : (BitVec.ofNat 32 (0x24 * 67108864 + rest.toNat)).toNat = 0x24 * 67108864 + rest.toNat := by simp only [BitVec.toNat_ofNat]; omega
  have h2 : (0x24 * 67108864 + rest.toNat) / 67108864 = 0x24 := by omega
  have h3 : BitVec.ofNat 26 (0x24 * 67108864 + rest.toNat) = rest := by
    apply BitVec.eq_of_toNat_eq
    simp only [BitVec.toNat_ofNat]
    omega
  simp only [decodeFilsy, h1, h2, h3]

theorem nop (c : Fin 9) (d a b : BitVec 4) (k : BitVec 8) : Statement (.nop c d a b k) := by
  intro e w h hw; cases h; simp only [encodeFilsy, Option.some.injEq] at hw; subst hw
  obtain ⟨h1, h2, h3, h4, h5, h6⟩ := packA_read 0x03 0 d a b k (by decide) (by decide)
  simp [decodeFilsy, decodeSystem, readA, h1, h2, h3, h4, h5, h6]

theorem mfs (c : Fin 9) (d a b : BitVec 4) (k : BitVec 8) : Statement (.mfs c d a b k) := by
  intro e w h hw; cases h; simp only [encodeFilsy, Option.some.injEq] at hw; subst hw
  obtain ⟨h1, h2, h3, h4, h5, h6⟩ := packA_read 0x03 1 d a b k (by decide) (by decide)
  simp [decodeFilsy, decodeSystem, readA, h1, h2, h3, h4, h5, h6]

theorem mts (c : Fin 9) (d a b : BitVec 4) (k : BitVec 8) : Statement (.mts c d a b k) := by
  intro e w h hw; cases h; simp only [encodeFilsy, Option.some.injEq] at hw; subst hw
  obtain ⟨h1, h2, h3, h4, h5, h6⟩ := packA_read 0x03 2 d a b k (by decide) (by decide)
  simp [decodeFilsy, decodeSystem, readA, h1, h2, h3, h4, h5, h6]

theorem eret (c : Fin 9) (d a b : BitVec 4) (k : BitVec 8) : Statement (.eret c d a b k) := by
  intro e w h hw; cases h; simp only [encodeFilsy, Option.some.injEq] at hw; subst hw
  obtain ⟨h1, h2, h3, h4, h5, h6⟩ := packA_read 0x03 3 d a b k (by decide) (by decide)
  simp [decodeFilsy, decodeSystem, readA, h1, h2, h3, h4, h5, h6]

theorem wait (c : Fin 9) (d a b : BitVec 4) (k : BitVec 8) : Statement (.wait c d a b k) := by
  intro e w h hw; cases h; simp only [encodeFilsy, Option.some.injEq] at hw; subst hw
  obtain ⟨h1, h2, h3, h4, h5, h6⟩ := packA_read 0x03 4 d a b k (by decide) (by decide)
  simp [decodeFilsy, decodeSystem, readA, h1, h2, h3, h4, h5, h6]

theorem brk (c : Fin 9) (d a b : BitVec 4) (k : BitVec 8) : Statement (.brk c d a b k) := by
  intro e w h hw; cases h; simp only [encodeFilsy, Option.some.injEq] at hw; subst hw
  obtain ⟨h1, h2, h3, h4, h5, h6⟩ := packA_read 0x03 5 d a b k (by decide) (by decide)
  simp [decodeFilsy, decodeSystem, readA, h1, h2, h3, h4, h5, h6]

theorem ei (c : Fin 9) (d a b : BitVec 4) (k : BitVec 8) : Statement (.ei c d a b k) := by
  intro e w h hw; cases h; simp only [encodeFilsy, Option.some.injEq] at hw; subst hw
  obtain ⟨h1, h2, h3, h4, h5, h6⟩ := packA_read 0x03 6 d a b k (by decide) (by decide)
  simp [decodeFilsy, decodeSystem, readA, h1, h2, h3, h4, h5, h6]

theorem di (c : Fin 9) (d a b : BitVec 4) (k : BitVec 8) : Statement (.di c d a b k) := by
  intro e w h hw; cases h; simp only [encodeFilsy, Option.some.injEq] at hw; subst hw
  obtain ⟨h1, h2, h3, h4, h5, h6⟩ := packA_read 0x03 7 d a b k (by decide) (by decide)
  simp [decodeFilsy, decodeSystem, readA, h1, h2, h3, h4, h5, h6]

theorem fence (c : Fin 9) (d a b : BitVec 4) (k : BitVec 8) : Statement (.fence c d a b k) := by
  intro e w h hw; cases h; simp only [encodeFilsy, Option.some.injEq] at hw; subst hw
  obtain ⟨h1, h2, h3, h4, h5, h6⟩ := packA_read 0x03 8 d a b k (by decide) (by decide)
  simp [decodeFilsy, decodeSystem, readA, h1, h2, h3, h4, h5, h6]

theorem eventEntry (c : Fin 9) : Statement (.eventEntry c) := by
  intro e w h; cases h

theorem waitEnd (c : Fin 9) : Statement (.waitEnd c) := by
  intro e w h; cases h

theorem postedStoreDone (c : Fin 9) (n : Fin 4) : Statement (.postedStoreDone c n) := by
  intro e w h; cases h

theorem registerWrite (c : Fin 9) (addr value : Word) : Statement (.registerWrite c addr value) := by
  intro e w h; cases h

theorem supplyValid : Statement .supplyValid := by
  intro e w h; cases h

theorem aonRailGood : Statement .aonRailGood := by
  intro e w h; cases h

theorem resonatorOscillating : Statement .resonatorOscillating := by
  intro e w h; cases h

theorem railsGood : Statement .railsGood := by
  intro e w h; cases h

theorem resonatorStable : Statement .resonatorStable := by
  intro e w h; cases h

theorem pllLock : Statement .pllLock := by
  intro e w h; cases h

theorem memoryRepairLoaded : Statement .memoryRepairLoaded := by
  intro e w h; cases h

theorem memoryInitDone : Statement .memoryInitDone := by
  intro e w h; cases h

theorem scrubBaselineDone (found : List BaselineFind) : Statement (.scrubBaselineDone found) := by
  intro e w h; cases h

theorem logicRelease : Statement .logicRelease := by
  intro e w h; cases h

theorem keyLoadEntry (present : Bool) : Statement (.keyLoadEntry present) := by
  intro e w h; cases h

theorem bringupFail : Statement .bringupFail := by
  intro e w h; cases h

theorem bringupRetry : Statement .bringupRetry := by
  intro e w h; cases h

theorem aonRailCycle : Statement .aonRailCycle := by
  intro e w h; cases h

theorem warmReset : Statement .warmReset := by
  intro e w h; cases h

theorem pllLockLost : Statement .pllLockLost := by
  intro e w h; cases h

theorem pllRelockTimeout : Statement .pllRelockTimeout := by
  intro e w h; cases h

theorem holdTimeout : Statement .holdTimeout := by
  intro e w h; cases h

theorem refMeasure (ppb : Int) : Statement (.refMeasure ppb) := by
  intro e w h; cases h

theorem walkEnd : Statement .walkEnd := by
  intro e w h; cases h

theorem beaconListenEnd : Statement .beaconListenEnd := by
  intro e w h; cases h

theorem formSend : Statement .formSend := by
  intro e w h; cases h

theorem formingEnd : Statement .formingEnd := by
  intro e w h; cases h

theorem beaconSend (frac : Nat) : Statement (.beaconSend frac) := by
  intro e w h; cases h

theorem beaconRx (portB : Bool) (f : Frame) (how : CopyEnd) (frac : Fin 256) (resid : Nat) : Statement (.beaconRx portB f how frac resid) := by
  intro e w h; cases h

theorem beaconLoss : Statement .beaconLoss := by
  intro e w h; cases h

theorem claimRx (portB : Bool) (f : Frame) (how : CopyEnd) : Statement (.claimRx portB f how) := by
  intro e w h; cases h

theorem formRx (portB : Bool) (f : Frame) (how : CopyEnd) : Statement (.formRx portB f how) := by
  intro e w h; cases h

theorem deputyTakeover : Statement .deputyTakeover := by
  intro e w h; cases h

theorem portAligned (portB : Bool) : Statement (.portAligned portB) := by
  intro e w h; cases h

theorem portNoSignal (portB : Bool) : Statement (.portNoSignal portB) := by
  intro e w h; cases h

theorem portCrossed (portB : Bool) : Statement (.portCrossed portB) := by
  intro e w h; cases h

theorem calRx (portB : Bool) (f : Frame) (how : CopyEnd) (stamp : Nat) : Statement (.calRx portB f how stamp) := by
  intro e w h; cases h

theorem calTurnaround (portB : Bool) : Statement (.calTurnaround portB) := by
  intro e w h; cases h

theorem pulseSend (portB : Bool) (frac : Fin 256) : Statement (.pulseSend portB frac) := by
  intro e w h; cases h

theorem pulseRx (portB : Bool) (f : Frame) (how : CopyEnd) (frac : Fin 256) : Statement (.pulseRx portB f how frac) := by
  intro e w h; cases h

theorem portDown (portB : Bool) : Statement (.portDown portB) := by
  intro e w h; cases h

theorem actionRx (portB : Bool) (f : Frame) (how : CopyEnd) : Statement (.actionRx portB f how) := by
  intro e w h; cases h

theorem herdAckRx (portB : Bool) (f : Frame) (how : CopyEnd) : Statement (.herdAckRx portB f how) := by
  intro e w h; cases h

theorem actionRetry (req : Word) : Statement (.actionRetry req) := by
  intro e w h; cases h

theorem recordRx (portB : Bool) (f : Frame) (how : CopyEnd) : Statement (.recordRx portB f how) := by
  intro e w h; cases h

theorem subscriptionExpiry (n : Fin 4) : Statement (.subscriptionExpiry n) := by
  intro e w h; cases h

theorem laneDecision (n : Fin 16) : Statement (.laneDecision n) := by
  intro e w h; cases h

theorem modClockUprange (k : Fin 128) : Statement (.modClockUprange k) := by
  intro e w h; cases h

theorem scheduledReset (k : Fin 128) (cycle : Word) (r : ResetRead) : Statement (.scheduledReset k cycle r) := by
  intro e w h; cases h

theorem chCmdReset (w : Fin 9) (k : Fin 128) (r : ResetRead) : Statement (.chCmdReset w k r) := by
  intro e w h; cases h

theorem quietWindowEnd (k : Fin 128) (since : Nat) (r : ResetRead) : Statement (.quietWindowEnd k since r) := by
  intro e w h; cases h

theorem blankEnd (k : Fin 128) : Statement (.blankEnd k) := by
  intro e w h; cases h

theorem sampleEmit (k : Fin 128) (r : SampleRead) : Statement (.sampleEmit k r) := by
  intro e w h; cases h

theorem mainsSenseEdge : Statement .mainsSenseEdge := by
  intro e w h; cases h

theorem mainsSourceFallback (t : Fin 8) : Statement (.mainsSourceFallback t) := by
  intro e w h; cases h

theorem mainsLock (t : Fin 8) (mHz : Nat) : Statement (.mainsLock t mHz) := by
  intro e w h; cases h

theorem mainsUnlock (t : Fin 8) (peak : Bool) : Statement (.mainsUnlock t peak) := by
  intro e w h; cases h

theorem scanStart (c : Fin 32) : Statement (.scanStart c) := by
  intro e w h; cases h

theorem scanStepBoundary (c : Fin 32) : Statement (.scanStepBoundary c) := by
  intro e w h; cases h

theorem dischargeStart (c : Fin 32) (rs : List ResetRead) : Statement (.dischargeStart c rs) := by
  intro e w h; cases h

theorem dischargeEnd (c : Fin 32) : Statement (.dischargeEnd c) := by
  intro e w h; cases h

theorem newSwitchesClose (c : Fin 32) : Statement (.newSwitchesClose c) := by
  intro e w h; cases h

theorem switchingSequenceEnd (c : Fin 32) : Statement (.switchingSequenceEnd c) := by
  intro e w h; cases h

theorem excCheck (rs : List ExcRead) : Statement (.excCheck rs) := by
  intro e w h; cases h

theorem sourceRetry (c : Fin 32) (n : Fin 3) : Statement (.sourceRetry c n) := by
  intro e w h; cases h

theorem leadMeasurementStart (c : Fin 32) (n : Fin 4) (cycle : Word) : Statement (.leadMeasurementStart c n cycle) := by
  intro e w h; cases h

theorem leadBaselineEnd (c : Fin 32) (nv : Int) : Statement (.leadBaselineEnd c nv) := by
  intro e w h; cases h

theorem leadSourceJoin (c : Fin 32) : Statement (.leadSourceJoin c) := by
  intro e w h; cases h

theorem leadIntegrationStart (c : Fin 32) : Statement (.leadIntegrationStart c) := by
  intro e w h; cases h

theorem leadIntegrationEnd (c : Fin 32) (nv : Int) (cm : Option Nat) : Statement (.leadIntegrationEnd c nv cm) := by
  intro e w h; cases h

theorem leadMeasurementEnd (c : Fin 32) : Statement (.leadMeasurementEnd c) := by
  intro e w h; cases h

theorem cjUpdate (c : Fin 32) (r : Option Int) : Statement (.cjUpdate c r) := by
  intro e w h; cases h

theorem captureEdge (changes : List CapChange) : Statement (.captureEdge changes) := by
  intro e w h; cases h

theorem captureRecordClose (u : Fin 40) : Statement (.captureRecordClose u) := by
  intro e w h; cases h

theorem encoderStopped (e : Fin 4) : Statement (.encoderStopped e) := by
  intro e w h; cases h

theorem pointArrival (t : Fin 8) (src : Fin 8) : Statement (.pointArrival t src) := by
  intro e w h; cases h

theorem foldWaitExpiry (t : Fin 8) (n : Fin 16) : Statement (.foldWaitExpiry t n) := by
  intro e w h; cases h

theorem closeWaitExpiry (t : Fin 8) (g : Fin 4) : Statement (.closeWaitExpiry t g) := by
  intro e w h; cases h

theorem maxCycleTimeout (t : Fin 8) (g : Fin 4) : Statement (.maxCycleTimeout t g) := by
  intro e w h; cases h

theorem cycleSourceLoss (t : Fin 8) (g : Fin 4) : Statement (.cycleSourceLoss t g) := by
  intro e w h; cases h

theorem judgementEnd (t : Fin 8) : Statement (.judgementEnd t) := by
  intro e w h; cases h

theorem teach (w : Fin 9) (t : Fin 8) (g : Fin 4) : Statement (.teach w t g) := by
  intro e w h; cases h

theorem teachEnd (w : Fin 9) (t : Fin 8) (g : Fin 4) : Statement (.teachEnd w t g) := by
  intro e w h; cases h

theorem envEntryWrite (w : Fin 9) (t : Fin 8) (e : Fin 3072) (high : Bool) (value : Word) : Statement (.envEntryWrite w t e high value) := by
  intro e w h; cases h

theorem timerStart (w : Fin 9) (t : Fin 8) (n : Fin 4) : Statement (.timerStart w t n) := by
  intro e w h; cases h

theorem timerStop (w : Fin 9) (t : Fin 8) (n : Fin 4) : Statement (.timerStop w t n) := by
  intro e w h; cases h

theorem timerClear (w : Fin 9) (t : Fin 8) (n : Fin 4) : Statement (.timerClear w t n) := by
  intro e w h; cases h

theorem timerPerWrite (w : Fin 9) (t : Fin 8) (n : Fin 4) (value : Word) : Statement (.timerPerWrite w t n value) := by
  intro e w h; cases h

theorem timerCmpWrite (w : Fin 9) (t : Fin 8) (n : Fin 4) (value : Word) : Statement (.timerCmpWrite w t n value) := by
  intro e w h; cases h

theorem timerPeriodEnd (t : Fin 8) (n : Fin 4) : Statement (.timerPeriodEnd t n) := by
  intro e w h; cases h

theorem timerMatch (t : Fin 8) (n : Fin 4) : Statement (.timerMatch t n) := by
  intro e w h; cases h

theorem actEnterGo (w slot : Fin 9) (ctl : Word) : Statement (.actEnterGo w slot ctl) := by
  intro e w h; cases h

theorem entryFix (a : Fin 512) : Statement (.entryFix a) := by
  intro e w h; cases h

theorem launch (a : Fin 512) : Statement (.launch a) := by
  intro e w h; cases h

theorem retryOutcomeSettle (n : Fin 24) : Statement (.retryOutcomeSettle n) := by
  intro e w h; cases h

theorem outputOvercurrent (n : Fin 24) : Statement (.outputOvercurrent n) := by
  intro e w h; cases h

theorem outputReadbackCheck (n : Fin 24) (level : Bool) : Statement (.outputReadbackCheck n level) := by
  intro e w h; cases h

theorem outSupplyLow : Statement .outSupplyLow := by
  intro e w h; cases h

theorem outSupplyReturn : Statement .outSupplyReturn := by
  intro e w h; cases h

theorem scrubLine (m : Fin 19) (upset : ScrubFind) : Statement (.scrubLine m upset) := by
  intro e w h; cases h

theorem queueResetEnd (q : Fin 64) : Statement (.queueResetEnd q) := by
  intro e w h; cases h

theorem pendingGapWrite (q : Fin 64) : Statement (.pendingGapWrite q) := by
  intro e w h; cases h

theorem queuePush (w : Fin 9) (q : Fin 64) (addr : Word) : Statement (.queuePush w q addr) := by
  intro e w h; cases h

theorem queuePushDone (q : Fin 64) : Statement (.queuePushDone q) := by
  intro e w h; cases h

theorem queuePop (w : Fin 9) (q : Fin 64) (addr : Word) : Statement (.queuePop w q addr) := by
  intro e w h; cases h

theorem queuePopDone (q : Fin 64) : Statement (.queuePopDone q) := by
  intro e w h; cases h

theorem ladleRecordMove (l : Fin 40) (d : Fin 4) (upset : PtrUpset) : Statement (.ladleRecordMove l d upset) := by
  intro e w h; cases h

theorem ladleRun (w : Fin 9) (l : Fin 40) (d : Fin 4) : Statement (.ladleRun w l d) := by
  intro e w h; cases h

theorem ladleRunEnd (l : Fin 40) (d : Fin 4) : Statement (.ladleRunEnd l d) := by
  intro e w h; cases h

theorem ladleGapWrite (l : Fin 40) (dest : Nat) : Statement (.ladleGapWrite l dest) := by
  intro e w h; cases h

theorem ringPointerWrite (w : Fin 9) (l : Fin 40) (d : Fin 4) (read : Bool) (value : Word) : Statement (.ringPointerWrite w l d read value) := by
  intro e w h; cases h

theorem keyInsert : Statement .keyInsert := by
  intro e w h; cases h

theorem keyRemove : Statement .keyRemove := by
  intro e w h; cases h

theorem keyReadStart (scl sda : Bool) : Statement (.keyReadStart scl sda) := by
  intro e w h; cases h

theorem keyBlockReadEnd (bytes : List Byte) : Statement (.keyBlockReadEnd bytes) := by
  intro e w h; cases h

theorem keyReadFail (got : List Byte) : Statement (.keyReadFail got) := by
  intro e w h; cases h

theorem signatureCheckEnd : Statement .signatureCheckEnd := by
  intro e w h; cases h

theorem keyChecksEnd : Statement .keyChecksEnd := by
  intro e w h; cases h

theorem keyCommitEnd : Statement .keyCommitEnd := by
  intro e w h; cases h

theorem coresStart : Statement .coresStart := by
  intro e w h; cases h

theorem stage (w : Fin 9) : Statement (.stage w) := by
  intro e w h; cases h

theorem keyPowerCycle (w : Fin 9) : Statement (.keyPowerCycle w) := by
  intro e w h; cases h

theorem keyCmdChangeover (w : Fin 9) : Statement (.keyCmdChangeover w) := by
  intro e w h; cases h

theorem keyPortHang (cause : Fin 3) (got : List Byte) : Statement (.keyPortHang cause got) := by
  intro e w h; cases h

theorem twGo (w : Fin 9) (p : Fin 8) (ctl : Word) : Statement (.twGo w p ctl) := by
  intro e w h; cases h

theorem twPowerCycle (w : Fin 9) (p : Fin 8) (ctl : Word) : Statement (.twPowerCycle w p ctl) := by
  intro e w h; cases h

theorem twTransferEnd (p : Fin 8) (result : Fin 5) (n : Fin 257) (data : List Byte) : Statement (.twTransferEnd p result n data) := by
  intro e w h; cases h

theorem twStretchTimeout (p : Fin 8) (n : Fin 257) : Statement (.twStretchTimeout p n) := by
  intro e w h; cases h

theorem twIdleCheck (p : Fin 8) (scl sda : Bool) : Statement (.twIdleCheck p scl sda) := by
  intro e w h; cases h

theorem twSupplyTrip (p : Fin 9) : Statement (.twSupplyTrip p) := by
  intro e w h; cases h

theorem twCycleSupplyOn (p : Fin 9) : Statement (.twCycleSupplyOn p) := by
  intro e w h; cases h

theorem twCycleSample (p : Fin 9) (scl sda : Bool) : Statement (.twCycleSample p scl sda) := by
  intro e w h; cases h

theorem twPortStart (p : Fin 8) (scl sda : Bool) : Statement (.twPortStart p scl sda) := by
  intro e w h; cases h

theorem linkUp (gig : Bool) : Statement (.linkUp gig) := by
  intro e w h; cases h

theorem linkDown : Statement .linkDown := by
  intro e w h; cases h

theorem arpRx (p : ArpPacket) : Statement (.arpRx p) := by
  intro e w h; cases h

theorem arpDefend : Statement .arpDefend := by
  intro e w h; cases h

theorem addrConflictClear : Statement .addrConflictClear := by
  intro e w h; cases h

theorem arpCacheTimeout (n : Fin 8) : Statement (.arpCacheTimeout n) := by
  intro e w h; cases h

theorem echoRequest (f : HostFrame) (x : IpPacket) : Statement (.echoRequest f x) := by
  intro e w h; cases h

theorem openSession (dg : Dgram) (window : Nat) (raw : Bool) (prev : Word) : Statement (.openSession dg window raw prev) := by
  intro e w h; cases h

theorem hostAck (dg : Dgram) (cum : Word) (window : Nat) (entries : List AckEntry) : Statement (.hostAck dg cum window entries) := by
  intro e w h; cases h

theorem closeSession (dg : Dgram) : Statement (.closeSession dg) := by
  intro e w h; cases h

theorem logRead (dg : Dgram) (req arg0 arg1 : Word) (resv : Bool) : Statement (.logRead dg req arg0 arg1 resv) := by
  intro e w h; cases h

theorem health (dg : Dgram) (req : Word) (form : ReqForm) : Statement (.health dg req form) := by
  intro e w h; cases h

theorem reload (dg : Dgram) (req : Word) (resv : Bool) : Statement (.reload dg req resv) := by
  intro e w h; cases h

theorem hostReqChangeover (dg : Dgram) (req : Word) (resv : Bool) : Statement (.hostReqChangeover dg req resv) := by
  intro e w h; cases h

theorem heartbeat : Statement .heartbeat := by
  intro e w h; cases h

theorem sessionIdle : Statement .sessionIdle := by
  intro e w h; cases h

theorem batchClose (raw : Bool) : Statement (.batchClose raw) := by
  intro e w h; cases h

theorem dataSend : Statement .dataSend := by
  intro e w h; cases h

theorem retransmit : Statement .retransmit := by
  intro e w h; cases h

theorem parkExpiry : Statement .parkExpiry := by
  intro e w h; cases h

theorem hostCmdWake (w : Fin 9) : Statement (.hostCmdWake w) := by
  intro e w h; cases h

theorem hostCmdClose (w : Fin 9) : Statement (.hostCmdClose w) := by
  intro e w h; cases h

theorem magicPacketRepeat : Statement .magicPacketRepeat := by
  intro e w h; cases h

theorem hostWakeRelease : Statement .hostWakeRelease := by
  intro e w h; cases h

theorem wakeRepeat : Statement .wakeRepeat := by
  intro e w h; cases h

theorem pwrGo (w : Fin 9) : Statement (.pwrGo w) := by
  intro e w h; cases h

theorem domainRaised (n : Fin 20) : Statement (.domainRaised n) := by
  intro e w h; cases h

theorem domainAgree : Statement .domainAgree := by
  intro e w h; cases h

theorem domainStop : Statement .domainStop := by
  intro e w h; cases h

theorem agreeTimeout : Statement .agreeTimeout := by
  intro e w h; cases h

theorem wakeSourceFire (src : Fin 10) (unit : Fin 24) : Statement (.wakeSourceFire src unit) := by
  intro e w h; cases h

theorem wakeTaken : Statement .wakeTaken := by
  intro e w h; cases h

theorem timeRestart : Statement .timeRestart := by
  intro e w h; cases h

theorem hubWakeOn : Statement .hubWakeOn := by
  intro e w h; cases h

theorem supplyLinkPoll : Statement .supplyLinkPoll := by
  intro e w h; cases h

theorem supplyLinkAck (frame : Word) : Statement (.supplyLinkAck frame) := by
  intro e w h; cases h

theorem supplyLinkTimeout : Statement .supplyLinkTimeout := by
  intro e w h; cases h

theorem statusPoll : Statement .statusPoll := by
  intro e w h; cases h

theorem railRead : Statement .railRead := by
  intro e w h; cases h

theorem stageWatchdog : Statement .stageWatchdog := by
  intro e w h; cases h

theorem sagThreshold (deep : Bool) : Statement (.sagThreshold deep) := by
  intro e w h; cases h

theorem throttleRelease (toOne : Bool) : Statement (.throttleRelease toOne) := by
  intro e w h; cases h

theorem throttleBacklog : Statement .throttleBacklog := by
  intro e w h; cases h

theorem vcoreLow : Statement .vcoreLow := by
  intro e w h; cases h

theorem watchOn (w : Fin 9) : Statement (.watchOn w) := by
  intro e w h; cases h

theorem watchOff (w : Fin 9) : Statement (.watchOff w) := by
  intro e w h; cases h

theorem autoWatchExpiry : Statement .autoWatchExpiry := by
  intro e w h; cases h

theorem watchEntryRetry : Statement .watchEntryRetry := by
  intro e w h; cases h

theorem reloadStart : Statement .reloadStart := by
  intro e w h; cases h

theorem reloadDrainEnd : Statement .reloadDrainEnd := by
  intro e w h; cases h

theorem reloadApply : Statement .reloadApply := by
  intro e w h; cases h

theorem changeoverAccept : Statement .changeoverAccept := by
  intro e w h; cases h

theorem hubSwitchEnd : Statement .hubSwitchEnd := by
  intro e w h; cases h

theorem tileReloadStart (t : Fin 8) : Statement (.tileReloadStart t) := by
  intro e w h; cases h

theorem tileReloadDrainEnd (t : Fin 8) : Statement (.tileReloadDrainEnd t) := by
  intro e w h; cases h

theorem tileReloadApply (t : Fin 8) : Statement (.tileReloadApply t) := by
  intro e w h; cases h

theorem tileReloadEnd (t : Fin 8) : Statement (.tileReloadEnd t) := by
  intro e w h; cases h

theorem tileRestartDrainEnd (t : Fin 8) : Statement (.tileRestartDrainEnd t) := by
  intro e w h; cases h

theorem tileRestartApply (t : Fin 8) (ups : List StoreUpset) : Statement (.tileRestartApply t ups) := by
  intro e w h; cases h

theorem tileBack (t : Fin 8) : Statement (.tileBack t) := by
  intro e w h; cases h

theorem logSelWrite (w : Fin 9) (index : Word) : Statement (.logSelWrite w index) := by
  intro e w h; cases h

theorem logUserWrite (w : Fin 9) : Statement (.logUserWrite w) := by
  intro e w h; cases h

theorem fltSnap (w : Fin 9) (addr : Word) : Statement (.fltSnap w addr) := by
  intro e w h; cases h

theorem snapDone : Statement .snapDone := by
  intro e w h; cases h

theorem svcWriteTransfer (enable : Bool) (bytes : List Byte) : Statement (.svcWriteTransfer enable bytes) := by
  intro e w h; cases h

theorem svcReadTransfer (enable : Bool) (n : Nat) : Statement (.svcReadTransfer enable n) := by
  intro e w h; cases h

theorem svcSclStuck : Statement .svcSclStuck := by
  intro e w h; cases h

theorem svcTake : Statement .svcTake := by
  intro e w h; cases h

theorem svcRelease : Statement .svcRelease := by
  intro e w h; cases h

theorem svcAlive : Statement .svcAlive := by
  intro e w h; cases h

theorem svcCommission (enable : Bool) : Statement (.svcCommission enable) := by
  intro e w h; cases h

theorem svcWarmReset : Statement .svcWarmReset := by
  intro e w h; cases h

theorem takeExpiry : Statement .takeExpiry := by
  intro e w h; cases h

theorem commissionEnd (enable : Bool) : Statement (.commissionEnd enable) := by
  intro e w h; cases h

theorem commissionGo (enable : Bool) : Statement (.commissionGo enable) := by
  intro e w h; cases h

theorem trimGo (enable : Bool) : Statement (.trimGo enable) := by
  intro e w h; cases h

theorem burnEnd (verified : Bool) : Statement (.burnEnd verified) := by
  intro e w h; cases h

theorem svcKick (w : Fin 9) : Statement (.svcKick w) := by
  intro e w h; cases h

theorem kickTimeout : Statement .kickTimeout := by
  intro e w h; cases h

theorem healthyHoldEnd : Statement .healthyHoldEnd := by
  intro e w h; cases h

theorem factoryFixtureTake : Statement .factoryFixtureTake := by
  intro e w h; cases h

theorem signalLost (portB : Bool) : Statement (.signalLost portB) := by
  intro e w h; cases h

theorem unansweredFrameExpiry (fseq : Word) : Statement (.unansweredFrameExpiry fseq) := by
  intro e w h; cases h

end Sys2Proof.Laws.Encoding
end

