-- ==== Sys2Proof/Tests/Slice0.lean ====
section
/-! SUPPORT. Tests: ill-formed commands, words written out from the spec's encodings, single steps with the spec's own examples, and for each statement
about a state one theorem that shows states and operands which meet its hypotheses. -/

set_option Elab.async false

namespace Sys2Proof.Machine

/-! ## Words of the spec's encodings -/

/-- R253, R256: OP 0x00 with D in [25:22], A in [21:18], B in [17:14], K in [13:6], FN in [5:0]. -/
theorem test_decode_integer :
    decodeFilsy 3 0x0168C000#32 = some (.add 3 5 10 3 0) ∧
    decodeFilsy 3 0x0168C001#32 = some (.adc 3 5 10 3 0) ∧
    decodeFilsy 3 0x0168C002#32 = some (.sub 3 5 10 3 0) ∧
    decodeFilsy 3 0x0168C003#32 = some (.sbc 3 5 10 3 0) ∧
    decodeFilsy 3 0x0168C004#32 = some (.adds 3 5 10 3 0) ∧
    decodeFilsy 3 0x0168C005#32 = some (.subs 3 5 10 3 0) ∧
    decodeFilsy 3 0x0168C008#32 = some (.andI 3 5 10 3 0) ∧
    decodeFilsy 3 0x0168C009#32 = some (.orI 3 5 10 3 0) ∧
    decodeFilsy 3 0x0168C00A#32 = some (.xor 3 5 10 3 0) ∧
    decodeFilsy 3 0x0168C00B#32 = some (.andn 3 5 10 3 0) ∧
    decodeFilsy 3 0x0168C010#32 = some (.minI 3 5 10 3 0) ∧
    decodeFilsy 3 0x0168C011#32 = some (.maxI 3 5 10 3 0) ∧
    decodeFilsy 3 0x0168C012#32 = some (.minu 3 5 10 3 0) ∧
    decodeFilsy 3 0x0168C013#32 = some (.maxu 3 5 10 3 0) ∧
    decodeFilsy 8 0x03240006#32 = some (.neg 8 12 9 0 0) ∧
    decodeFilsy 8 0x03240007#32 = some (.negs 8 12 9 0 0) ∧
    decodeFilsy 8 0x03240014#32 = some (.abs 8 12 9 0 0) ∧
    decodeFilsy 8 0x03240015#32 = some (.abss 8 12 9 0 0) ∧
    decodeFilsy 8 0x03240016#32 = some (.sextb 8 12 9 0 0) ∧
    decodeFilsy 8 0x03240017#32 = some (.sexth 8 12 9 0 0) ∧
    decodeFilsy 8 0x03240018#32 = some (.clz 8 12 9 0 0) ∧
    decodeFilsy 8 0x03240019#32 = some (.popc 8 12 9 0 0) ∧
    decodeFilsy 0 0x004BC39A#32 = some (.sel 0 1 2 15 14) := by decide

/-- R257, and R264's worked example: addi g6, g0, 0x2000 is 0x2180_2000. -/
theorem test_decode_immediate :
    decodeFilsy 4 0x21802000#32 = some (.addi 4 6 0 0x2000) ∧
    decodeFilsy 4 0x204BFFFF#32 = some (.addi 4 1 2 0x3FFFF) ∧
    decodeFilsy 4 0x24480005#32 = some (.subi 4 1 2 5) ∧
    decodeFilsy 4 0x284A0000#32 = some (.andi 4 1 2 0x20000) ∧
    decodeFilsy 4 0x2FF80001#32 = some (.ori 4 15 14 1) ∧
    decodeFilsy 4 0x30480007#32 = some (.xori 4 1 2 7) ∧
    decodeFilsy 4 0x367FFFFF#32 = some (.lui 4 9 0x3FFFFF) := by decide

/-- R258: FN 0x00 to 0x05 take the amount from B, 0x08 to 0x0D from K. -/
theorem test_decode_shifts :
    decodeFilsy 1 0x09158000#32 = some (.shl 1 4 5 6 0 false) ∧
    decodeFilsy 1 0x09158001#32 = some (.shr 1 4 5 6 0 false) ∧
    decodeFilsy 1 0x09158002#32 = some (.sar 1 4 5 6 0 false) ∧
    decodeFilsy 1 0x09158003#32 = some (.ror 1 4 5 6 0 false) ∧
    decodeFilsy 1 0x09158004#32 = some (.rol 1 4 5 6 0 false) ∧
    decodeFilsy 1 0x09158005#32 = some (.shls 1 4 5 6 0 false) ∧
    decodeFilsy 1 0x09140848#32 = some (.shl 1 4 5 0 33 true) ∧
    decodeFilsy 1 0x09140849#32 = some (.shr 1 4 5 0 33 true) ∧
    decodeFilsy 1 0x0914084A#32 = some (.sar 1 4 5 0 33 true) ∧
    decodeFilsy 1 0x0914084B#32 = some (.ror 1 4 5 0 33 true) ∧
    decodeFilsy 1 0x0914084C#32 = some (.rol 1 4 5 0 33 true) ∧
    decodeFilsy 1 0x0914084D#32 = some (.shls 1 4 5 0 33 true) := by decide

/-- R259, and the worked example: dotq g5, g6, g7, 16 is 0x0559_C407. -/
theorem test_decode_multiply :
    decodeFilsy 2 0x05E24000#32 = some (.mul 2 7 8 9 0) ∧
    decodeFilsy 2 0x05E24001#32 = some (.mulh 2 7 8 9 0) ∧
    decodeFilsy 2 0x05E24002#32 = some (.mulhu 2 7 8 9 0) ∧
    decodeFilsy 2 0x05E24003#32 = some (.mac 2 7 8 9 0) ∧
    decodeFilsy 2 0x05E24004#32 = some (.macs 2 7 8 9 0) ∧
    decodeFilsy 2 0x05E247C5#32 = some (.mulq 2 7 8 9 31) ∧
    decodeFilsy 2 0x05E247C6#32 = some (.macq 2 7 8 9 31) ∧
    decodeFilsy 2 0x05E24008#32 = some (.divI 2 7 8 9 0) ∧
    decodeFilsy 2 0x05E24009#32 = some (.divu 2 7 8 9 0) ∧
    decodeFilsy 2 0x05E2400A#32 = some (.rem 2 7 8 9 0) ∧
    decodeFilsy 2 0x05E2400B#32 = some (.remu 2 7 8 9 0) ∧
    decodeFilsy 4 0x0559C407#32 = some (.dotq 4 5 6 7 16) := by decide

/-- R261. -/
theorem test_decode_loads_and_stores :
    decodeFilsy 6 0x4077FFFC#32 = some (.ldw 6 1 13 0x3FFFC) ∧
    decodeFilsy 6 0x4477FFFC#32 = some (.ldh 6 1 13 0x3FFFC) ∧
    decodeFilsy 6 0x4877FFFC#32 = some (.ldhu 6 1 13 0x3FFFC) ∧
    decodeFilsy 6 0x4C77FFFC#32 = some (.ldb 6 1 13 0x3FFFC) ∧
    decodeFilsy 6 0x5077FFFC#32 = some (.ldbu 6 1 13 0x3FFFC) ∧
    decodeFilsy 6 0x5477FFFC#32 = some (.stw 6 1 13 0x3FFFC) ∧
    decodeFilsy 6 0x5877FFFC#32 = some (.sth 6 1 13 0x3FFFC) ∧
    decodeFilsy 6 0x5C77FFFC#32 = some (.stb 6 1 13 0x3FFFC) ∧
    decodeFilsy 6 0x6077FFFC#32 = some (.ldwp 6 1 13 0x3FFFC) ∧
    decodeFilsy 6 0x6477FFFC#32 = some (.stwp 6 1 13 0x3FFFC) ∧
    decodeFilsy 6 0x6877FFFC#32 = some (.ldhp 6 1 13 0x3FFFC) ∧
    decodeFilsy 6 0x6C77FFFC#32 = some (.sthp 6 1 13 0x3FFFC) ∧
    decodeFilsy 8 0x700C0000#32 = some (.push 8 0 3 0 0) ∧
    decodeFilsy 8 0x74C00000#32 = some (.pop 8 3 0 0 0) := by decide

/-- R262, R264, and the worked example: rpti 3 is 0x8C00_0003. -/
theorem test_decode_control :
    decodeFilsy 0 0x833FFFFE#32 = some (.b 0 12 0x3FFFFE) ∧
    decodeFilsy 0 0x84000002#32 = some (.call 0 0 2) ∧
    decodeFilsy 0 0x88380000#32 = some (.jr 0 0 14 0 0) ∧
    decodeFilsy 0 0x880C0001#32 = some (.callr 0 0 3 0 0) ∧
    decodeFilsy 0 0x88000002#32 = some (.ret 0 0 0 0 0) ∧
    decodeFilsy 4 0x8C000003#32 = some (.rpti 4 0 3) ∧
    decodeFilsy 4 0x90000000#32 = some (.rptr 4 0) := by decide

/-- R263. -/
theorem test_decode_system :
    decodeFilsy 8 0x0C000000#32 = some (.nop 8 0 0 0 0) ∧
    decodeFilsy 8 0x0C800441#32 = some (.mfs 8 2 0 0 17) ∧
    decodeFilsy 8 0x0C0C0042#32 = some (.mts 8 0 3 0 1) ∧
    decodeFilsy 8 0x0C000003#32 = some (.eret 8 0 0 0 0) ∧
    decodeFilsy 8 0x0C000004#32 = some (.wait 8 0 0 0 0) ∧
    decodeFilsy 8 0x0C003FC5#32 = some (.brk 8 0 0 0 255) ∧
    decodeFilsy 8 0x0C000006#32 = some (.ei 8 0 0 0 0) ∧
    decodeFilsy 8 0x0C000007#32 = some (.di 8 0 0 0 0) ∧
    decodeFilsy 8 0x0C000008#32 = some (.fence 8 0 0 0 0) := by decide

/-- R254: OP and FN values that no table lists spell no instruction. -/
theorem test_decode_unassigned :
    decodeFilsy 0 0x0000000C#32 = none ∧ decodeFilsy 0 0x0000001B#32 = none ∧ decodeFilsy 0 0x0400000C#32 = none ∧ decodeFilsy 0 0x08000006#32 = none ∧
      decodeFilsy 0 0x0C000009#32 = none ∧ decodeFilsy 0 0x10000000#32 = none ∧ decodeFilsy 0 0x38000000#32 = none ∧ decodeFilsy 0 0x78000000#32 = none ∧
      decodeFilsy 0 0x88000003#32 = none ∧ decodeFilsy 0 0x94000000#32 = none ∧ decodeFilsy 0 0xFFFFFFFF#32 = none := by decide

/-- R253, R256, R259: K is not 0. -/
theorem test_wf_refuses_nonzero_k : ([
    .add 0 1 2 3 1, .adc 0 1 2 3 1, .sub 0 1 2 3 1, .sbc 0 1 2 3 1, .adds 0 1 2 3 1, .subs 0 1 2 3 1, .andI 0 1 2 3 1, .orI 0 1 2 3 1, .xor 0 1
    2 3 1, .andn 0 1 2 3 1, .minI 0 1 2 3 1, .maxI 0 1 2 3 1, .minu 0 1 2 3 1, .maxu 0 1 2 3 1, .mul 0 1 2 3 1, .mulh 0 1 2 3 1, .mulhu 0 1 2 3
    1, .mac 0 1 2 3 1, .macs 0 1 2 3 1, .divI 0 1 2 3 1, .divu 0 1 2 3 1, .rem 0 1 2 3 1, .remu 0 1 2 3 1] : List Instr).all (fun i => !i.wf) = true := by decide

/-- R256: B or K of a one-operand instruction is not 0. -/
theorem test_wf_refuses_one_operand : ([
    .neg 0 1 2 3 0, .negs 0 1 2 3 0, .abs 0 1 2 3 0, .abss 0 1 2 3 0, .sextb 0 1 2 3 0, .sexth 0 1 2 3 0, .clz 0 1 2 3 0, .popc 0 1 2 3 0, .neg
    0 1 2 0 1, .negs 0 1 2 0 1, .abs 0 1 2 0 1, .abss 0 1 2 0 1, .sextb 0 1 2 0 1, .sexth 0 1 2 0 1, .clz 0 1 2 0 1, .popc 0 1 2 0 1] : List Instr).all (fun i => !i.wf) = true := by decide

/-- R258: K beside an amount in B, or B beside an amount in K. -/
theorem test_wf_refuses_shift_forms : ([
    .shl 0 1 2 3 1 false, .shr 0 1 2 3 1 false, .sar 0 1 2 3 1 false, .ror 0 1 2 3 1 false, .rol 0 1 2 3 1 false, .shls 0 1 2 3 1 false, .shl 0
    1 2 3 1 true, .shr 0 1 2 3 1 true, .sar 0 1 2 3 1 true, .ror 0 1 2 3 1 true, .rol 0 1 2 3 1 true, .shls 0 1 2 3 1 true] : List Instr).all (fun i => !i.wf) = true := by decide

/-- R255, R256, R259, R262: condition 15, bits above the condition, K above 31, registers that must differ, CALL with a condition. -/
theorem test_wf_refuses_conditions_and_limits : ([
    .sel 0 1 2 3 15, .sel 0 1 2 3 16, .mulq 0 1 2 3 32, .macq 0 1 2 3 32, .dotq 0 1 2 3 32, .dotq 0 1 1 3 0, .dotq 0 1 2 1 0, .dotq 0 1 2 2 0,
    .ldwp 0 1 1 4, .ldhp 0 1 1 4, .b 0 15 1, .call 0 1 1] : List Instr).all (fun i => !i.wf) = true := by decide

/-- R261, R262: PUSH and POP with another field, POP to G13, jumps with another field, RET with an A. -/
theorem test_wf_refuses_stack_and_jumps : ([
    .push 8 1 2 0 0, .push 8 0 2 1 0, .push 8 0 2 0 1, .pop 8 13 0 0 0, .pop 8 1 1 0 0, .pop 8 1 0 1 0, .pop 8 1 0 0 1, .jr 0 0 2 1 0, .jr 0 0 2
    0 1, .callr 0 0 2 1 0, .callr 0 0 2 0 1, .ret 0 0 1 0 0, .ret 0 0 0 1 0, .ret 0 0 0 0 1] : List Instr).all (fun i => !i.wf) = true := by decide

/-- R254, R263: RPTI with a D, RPTR with any bit, a B or K of a system instruction. -/
theorem test_wf_refuses_prefixes_and_system : ([
    .rpti 0 1 3, .rptr 0 1, .nop 0 0 0 1 0, .nop 0 0 0 0 1, .mfs 0 1 0 1 0, .mts 0 0 1 1 0, .eret 0 0 0 0 1, .wait 0 0 0 0 1, .brk 0 0 0 1 0,
    .ei 0 0 0 0 1, .di 0 0 0 0 1, .fence 0 0 0 0 1] : List Instr).all (fun i => !i.wf) = true := by decide
/-! ## Small states -/

/-- Fields set one after the other. -/
def puts (s : State) (l : List (Fld × Nat)) : State := l.foldl (fun s x => s.put x.1 x.2) s

/-- Fields set on the state after reset. -/
def st (l : List (Fld × Nat)) : State := puts State.reset l

/-- Both kinds of core have their domains on, and core `k` is as given. -/
def withCore (k : Nat) (c : Core) : State := ((State.reset.put (domFld (domTile k)) domOn).put (domFld domHub) domOn).setCore k c

/-- A pail core that runs at 0x1000. -/
def pail : Core := { Core.unstarted false with running := true, pc := 0x1000#32 }

/-- The vat core running in hub memory. -/
def vatCore : Core := { Core.unstarted true with running := true, pc := 0x10001000#32 }

/-- General registers given to a core. -/
def gs (c : Core) (l : List (BitVec 4 × Word)) : Core := l.foldl (fun c x => c.setReg x.1 x.2) c

/-- The state a command leads to. -/
def after (i : Instr) (s : State) : State := match exec i s with
  | .next t => t
  | _ => s

/-- Register `d`, and FLAGS, after an instruction of pail core 0 with registers as given. -/
def gives (i : Instr) (l : List (BitVec 4 × Word)) (d : BitVec 4) : Word × Word :=
  let t := after i (withCore 0 (gs pail l))
  ((t.core 0).reg d, (t.core 0).flags)

/-! ## Single steps with values from the spec -/

/-- R258: "SHR of 0x8000_0001 by 33 gives 0 with C 0. SAR of the same value by 40 gives 0xFFFF_FFFF with C 1. ROL by 32 gives the operand unchanged with C 0."
FLAGS: N bit 0, Z bit 1, C bit 2, V bit 3 (R245). -/
theorem test_shift_examples :
    gives (.shr 0 3 1 0 33 true) [(1, 0x80000001#32)] 3 = (0#32, 2#32) ∧
    gives (.sar 0 3 1 2 0 false) [(1, 0x80000001#32), (2, 40#32)] 3 = (0xFFFFFFFF#32, 5#32) ∧
    gives (.rol 0 3 1 0 32 true) [(1, 0x80000001#32)] 3 = (0x80000001#32, 1#32) := by decide

/-- R260: the edge cases of NEG, NEGS, ABS and ABSS of 0x8000_0000, and of CLZ of 0 (FLAGS bit 8 is SAT). -/
theorem test_edge_cases_of_negation :
    gives (.neg 0 3 1 0 0) [(1, 0x80000000#32)] 3 = (0x80000000#32, 9#32) ∧
    gives (.negs 0 3 1 0 0) [(1, 0x80000000#32)] 3 = (0x7FFFFFFF#32, 0x100#32) ∧
    gives (.abs 0 3 1 0 0) [(1, 0x80000000#32)] 3 = (0x80000000#32, 9#32) ∧
    gives (.abss 0 3 1 0 0) [(1, 0x80000000#32)] 3 = (0x7FFFFFFF#32, 0x100#32) ∧
    gives (.clz 0 3 1 0 0) [(1, 0#32)] 3 = (32#32, 0#32) := by decide

/-- R260: the edge cases of the divisions (FLAGS bit 9 is DZ), and the DIV0 source, tile-local source 0, of a division by 0. -/
theorem test_edge_cases_of_division :
    gives (.divI 0 3 1 2 0) [(1, 0x80000000#32), (2, 0xFFFFFFFF#32)] 3 = (0x80000000#32, 9#32) ∧
    gives (.rem 0 3 1 2 0) [(1, 0x80000000#32), (2, 0xFFFFFFFF#32)] 3 = (0#32, 2#32) ∧
    gives (.divu 0 3 1 2 0) [(1, 7#32)] 3 = (0xFFFFFFFF#32, 0x201#32) ∧
    gives (.divI 0 3 1 2 0) [(1, 7#32)] 3 = (0x7FFFFFFF#32, 0x200#32) ∧
    gives (.divI 0 3 1 2 0) [(1, 0xFFFFFFF9#32)] 3 = (0x80000000#32, 0x201#32) ∧
    gives (.rem 0 3 1 2 0) [(1, 0xFFFFFFF9#32)] 3 = (0xFFFFFFF9#32, 0x201#32) ∧
    ((after (.divu 0 3 1 2 0) (withCore 0 pail)).core 0).pend0 = 1#32 ∧ ((after (.divu 8 3 1 2 0) (withCore 8 vatCore)).core 8).pend2 = 1#32 := by decide

/-- The weighted index of chapter 09: the second iteration rounds to −1, the third clamps and sets SAT; the pointers move by 4. -/
theorem test_dotq_example :
    let s (x y g : Word) : State :=
      ((withCore 4 (gs pail [(5, g), (6, 0x2000#32), (7, 0x3000#32)])).storeLe (coreMem 4 0x2000) 4 x.toNat).storeLe (coreMem 4 0x3000) 4 y.toNat
    let g (x y g : Word) := ((after (.dotq 4 5 6 7 16) (s x y g)).core 4).reg 5
    g 0x000F4240#32 0x00008000#32 0#32 = 500000#32 ∧ g 0xFFFFFFFD#32 0x00005555#32 500000#32 = 499999#32 ∧
      g 0x77359400#32 0x40000000#32 499999#32 = 0x7FFFFFFF#32 ∧
      ((after (.dotq 4 5 6 7 16) (s 1#32 1#32 0#32)).core 4).reg 6 = 0x2004#32 := by decide

/-- R266: a write to RC does not change the running repeat: with 2 iterations left one is left after it, and RC holds the new value. -/
theorem test_rc_written_in_repeat :
    let t := after (.mts 0 0 5 0 1) (withCore 0 { gs pail [(5, 3#32)] with rep := some 2, rc := 10#32 })
    (t.core 0).rc = 3#32 ∧ (t.core 0).rep = some 1 ∧ (t.core 0).pc = 0x1000#32 := by decide

/-- R261: STWP with D = A stores A's value before the increment. -/
theorem test_stwp_stores_before_increment :
    let t := after (.stwp 0 2 2 8) (withCore 0 (gs pail [(2, 0x2000#32)]))
    t.loadLe (coreMem 0 0x2000) 4 = 0x2000 ∧ (t.core 0).reg 2 = 0x2008#32 := by decide

/-- R262: CALLR reads A before G14 is written. -/
theorem test_callr_by_g14 :
    let t := after (.callr 0 0 14 0 0) (withCore 0 (gs pail [(14, 0x2000#32)]))
    (t.core 0).pc = 0x2000#32 ∧ (t.core 0).reg 14 = 0x1004#32 := by decide

/-- R244: G0 reads 0 and takes no write. -/
theorem test_g0_reads_zero : (gives (.addi 0 0 0 5) [] 0).1 = 0#32 := by decide

/-- Addresses that the spec gives as examples (R121, R211, R241, R312). -/
theorem test_register_addresses :
    R.CH_MODE 101 = 0x40601500 ∧ R.CHURN_GRP_CFG 1 0 = 0x40103100 ∧ R.TT_CMP 3 2 = 0x40304048 ∧ R.Q_EVT 38 = 0x40605094 := by decide

/-- R323: "The CRC of the ASCII bytes "123456789" is 0xE306_9283." -/
theorem test_crc32c_check_value : crc32c [0x31#8, 0x32#8, 0x33#8, 0x34#8, 0x35#8, 0x36#8, 0x37#8, 0x38#8, 0x39#8] = 0xE3069283#32 := by decide +kernel

/-- R110, R117: at RATE 8 the window is 44,564,080 ns; chapter 01: at RATE 0 the latency is 87,040 ns. -/
theorem test_filter_lengths : 2 * halfNs 8 = 44564080 ∧ latencyNs 0 = 87040 := by decide

/-- Chapter 03's melter: a step of COUNT 625 and EXP 6 lasts 204,800,000 ns. -/
theorem test_dwell_example : (st [(F.CELL_STEP_DWELL_COUNT 15 0, 625), (F.CELL_STEP_DWELL_EXP 15 0, 6)]).dwellNs 15 0 = 204800000 := by decide

/-- Chapter 05's sleep: LT_E 7,200,000,000,000 ns and 75,000,000 ticks slept lead to 9,600,000,128,000 ns at the fourth tick after the wake. -/
theorem test_sleep_example :
    let s := ((st [(F.LT_CLK_STAT_PLL_LOCK, 1)]).putPair R.LT_SLEEP_IN_LO 7200000000000).setPwr { PwrSt.rest with wakeAt := some 75000000, wakeStage := 1 }
    (after .timeRestart { s with ticks := some 75000004, sleepNs := 75000004 * 32000 * 2 ^ 40 }).lt = 9600000128000 := by decide

/-- R128: a leader steps past every reported LT to a full ms. -/
theorem test_forming_target : formTarget 1000000 = 2000000 ∧ formTarget 1000001 = 3000000 := by decide

/-- R218: MODE 1 counts each edge of A, forward where A leads. -/
theorem test_encoder_counts : countOf 1 false false true false = .up true ∧ countOf 1 false false false true = .up false := by decide

/-- An empty queue in the state after reset: nothing happens (the supply is not there yet). -/
theorem test_idle_after_reset : step State.reset = .next State.reset := rfl

/-- R379: the first command of a bring-up, taken from the queue. -/
theorem test_first_step : ∃ t, step (State.reset.push .supplyValid) = .next t ∧ t.boot.stage = 1 ∧ t.pending = [] := ⟨_, rfl, by decide, by decide⟩

/-- FIPS 180-4: the digest of "abc". -/
theorem test_sha256_abc : leVal (sha256 [0x61#8, 0x62#8, 0x63#8]).reverse = 0xBA7816BF8F01CFEA414140DE5DAE2223B00361A396177A9CB410FF61F20015AD := by
  decide +kernel

/-- RFC 8032, section 7.1, test 1; the same signature fails for another message. -/
theorem test_ed25519 :
    let key := leBytes 32 0x1A5107F7681A02AF2523A6DAF372E10E3A0764C9D3FE4BD5B70AB18201985AD7
    let sig := leBytes 32 0x5501492265E073D874D9E5B81E7F87848A826E80CCE2869072AC60C3004356E5 ++
      leBytes 32 0x0B107A8E4341516524BE5B59F0F55BD26BB4F91C70391EC6AC3BA3901582B85F
    ed25519 key sig [] = true ∧ ed25519 key sig [0#8] = false := by decide +kernel

/-- IEC 60584-1: 5.269, 4.096 and 4.279 mV of types J, K and T at 100 °C. -/
theorem test_thermocouples_at_100 : [1, 2, 3].map (fun ty => (emfNum ty 12800 / emfDen + 500000) / 1000000) = [5269, 4096, 4279] := by decide +kernel

/-- R157: "The beacon frame is 242 symbols, 1,936 ns, long." -/
theorem test_beacon_length : (Frame.form 0 0 true 0#32 (.beacon ⟨0, 0, 0#32, false, 0, 0, 0#32, 0#32, [], []⟩)).bytes.length + 2 = 242 ∧
    (Frame.form 0 0 true 0#32 (.beacon ⟨0, 0, 0#32, false, 0, 0, 0#32, 0#32, [], []⟩)).ns = 1936 := by decide +kernel

/-! ## The statements' hypotheses are met: Filsy -/

/-- The state in which core `c`, of either kind, runs with registers as given. -/
def running (c : Fin 9) (l : List (BitVec 4 × Word)) : State := withCore c (gs (if c = 8 then vatCore else pail) l)

theorem witness_StepRunsFrontCommand : State.reset.pending = [] ∧ (State.reset.push .supplyValid).pending = [.supplyValid] := ⟨rfl, rfl⟩

/-- At the encoding's extremes, for both profiles. -/
theorem witness_FilsyDecodeOfEncode :
    (Instr.add 0 15 15 15 0).filsyCore = some 0 ∧ (encodeFilsy (.add 0 15 15 15 0)).isSome = true ∧
    (encodeFilsy (.mulq 8 0 0 0 31)).isSome = true ∧ (encodeFilsy (.b 3 14 0x200000)).isSome = true ∧ (encodeFilsy (.rptr 8 0)).isSome = true ∧
    (encodeFilsy (.shl 0 1 2 0 255 true)).isSome = true ∧ (encodeFilsy (.lui 0 15 0x3FFFFF)).isSome = true := by decide

theorem witness_IntegerGroupResults : ∀ c ∈ ([0, 8] : List (Fin 9)), ∀ i ∈
    ([.add c 1 2 3 0, .adc c 1 2 3 0, .sub c 1 2 3 0, .sbc c 1 2 3 0, .adds c 1 2 3 0, .subs c 1 2 3 0, .neg c 1 2 0 0, .negs c 1 2 0 0,
      .andI c 1 2 3 0, .orI c 1 2 3 0, .xor c 1 2 3 0, .andn c 1 2 3 0, .minI c 1 2 3 0, .maxI c 1 2 3 0, .minu c 1 2 3 0, .maxu c 1 2 3 0,
      .abs c 1 2 0 0, .abss c 1 2 0 0, .sextb c 1 2 0 0, .sexth c 1 2 0 0, .clz c 1 2 0 0, .popc c 1 2 0 0, .sel c 1 2 3 14] : List Instr),
    (running c []).canRun c i := by
  simp only [State.canRun]; decide

theorem witness_ImmediateAndShiftResults : ∀ c ∈ ([0, 8] : List (Fin 9)), ∀ i ∈
    ([.addi c 1 2 0x20000, .subi c 1 2 0x1FFFF, .andi c 1 2 3, .ori c 1 2 3, .xori c 1 2 3, .lui c 1 0x3FFFFF, .shl c 1 2 3 0 false, .shl c 1 2 0 255 true,
      .shr c 1 2 3 0 false, .shr c 1 2 0 33 true, .sar c 1 2 3 0 false, .sar c 1 2 0 32 true, .ror c 1 2 3 0 false, .ror c 1 2 0 32 true,
      .rol c 1 2 3 0 false, .rol c 1 2 0 32 true, .shls c 1 2 3 0 false, .shls c 1 2 0 255 true] : List Instr),
    (running c []).canRun c i := by
  simp only [State.canRun]; decide

theorem witness_MultiplyResults : ∀ c ∈ ([0, 8] : List (Fin 9)), ∀ i ∈
    ([.mul c 1 2 3 0, .mulh c 1 2 3 0, .mulhu c 1 2 3 0, .mac c 1 2 3 0, .macs c 1 2 3 0, .mulq c 1 2 3 0, .mulq c 1 2 3 31, .macq c 1 2 3 31] : List Instr),
    (running c []).canRun c i := by
  simp only [State.canRun]; decide

/-- By a number that is not 0, and by 0. -/
theorem witness_DivisionResults : ∀ c ∈ ([0, 8] : List (Fin 9)), ∀ i ∈ ([.divI c 1 2 3 0, .divu c 1 2 3 0, .rem c 1 2 3 0, .remu c 1 2 3 0] : List Instr),
    ((running c [(3, 1#32)]).canRun c i ∧ ((running c [(3, 1#32)]).core c).reg 3 ≠ 0#32) ∧
      (running c []).canRun c i ∧ ((running c []).core c).reg 3 = 0#32 := by
  simp only [State.canRun]; decide

/-- At the last word, halfword and byte of a core's own memory, and at a register. -/
theorem witness_LoadResults :
    let s (m : Word) := running 0 [(2, m)]
    ((s 0x7FFFC#32).canRun 0 (.ldw 0 1 2 0) ∧ (s 0x7FFFC#32).memReads 0 (eaOf ((s 0x7FFFC#32).core 0) 2 0) 4) ∧
    ((s 0x7FFFE#32).canRun 0 (.ldh 0 1 2 0) ∧ (s 0x7FFFE#32).canRun 0 (.ldhu 0 1 2 0) ∧ (s 0x7FFFE#32).memReads 0 (eaOf ((s 0x7FFFE#32).core 0) 2 0) 2) ∧
    ((s 0x80000#32).canRun 0 (.ldb 0 1 2 0x3FFFF) ∧ (s 0x80000#32).canRun 0 (.ldbu 0 1 2 0x3FFFF) ∧
      (s 0x80000#32).memReads 0 (eaOf ((s 0x80000#32).core 0) 2 0x3FFFF) 1) ∧
    ((s 0x70000000#32).canRun 0 (.ldw 0 1 2 0) ∧ (s 0x70000000#32).regReads 0 (eaOf ((s 0x70000000#32).core 0) 2 0)) ∧
    ((s 0x10000000#32).canRun 0 (.ldwp 0 1 2 4) ∧ (s 0x10000000#32).memReads 0 (((s 0x10000000#32).core 0).reg 2).toNat 4) ∧
    ((s 0x10FFFFFE#32).canRun 0 (.ldhp 0 1 2 2) ∧ (s 0x10FFFFFE#32).memReads 0 (((s 0x10FFFFFE#32).core 0).reg 2).toNat 2) ∧
    ((s 0x70000000#32).canRun 0 (.ldwp 0 1 2 4) ∧ (s 0x70000000#32).regReads 0 (((s 0x70000000#32).core 0).reg 2).toNat) ∧
    ((s 0x70000000#32).canRun 0 (.ldhp 0 1 2 2) ∧ ((s 0x70000000#32).core 0).faultsOpen) := by
  simp only [State.canRun, State.memReads, State.regReads, Core.faultsOpen]; (repeat' apply And.intro) <;> decide

/-- At the last word, halfword and byte below the engine's work area, and on the vat core in hub memory. -/
theorem witness_StoreResults :
    let s (m : Word) := running 0 [(2, m)]
    ((s 0x6FFFC#32).canRun 0 (.stw 0 1 2 0) ∧ (s 0x6FFFC#32).memWrites 0 (eaOf ((s 0x6FFFC#32).core 0) 2 0) 4) ∧
    ((s 0x6FFFE#32).canRun 0 (.sth 0 1 2 0) ∧ (s 0x6FFFE#32).memWrites 0 (eaOf ((s 0x6FFFE#32).core 0) 2 0) 2) ∧
    ((s 0x6FFFF#32).canRun 0 (.stb 0 1 2 0) ∧ (s 0x6FFFF#32).memWrites 0 (eaOf ((s 0x6FFFF#32).core 0) 2 0) 1) ∧
    ((s 0#32).canRun 0 (.stwp 0 2 2 4) ∧ (s 0#32).memWrites 0 (((s 0#32).core 0).reg 2).toNat 4) ∧
    ((running 8 [(2, 0x10FFFFFE#32)]).canRun 8 (.sthp 8 1 2 2) ∧
      (running 8 [(2, 0x10FFFFFE#32)]).memWrites 8 (((running 8 [(2, 0x10FFFFFE#32)]).core 8).reg 2).toNat 2) := by
  simp only [State.canRun, State.memWrites]; (repeat' apply And.intro) <;> decide

/-- A pail core with stores to hub memory posted. -/
def posted (n : Nat) (l : List (BitVec 4 × Word)) : State :=
  withCore 0 { gs pail l with posted := (List.range n).map (fun i => ⟨0x10000000 + 4 * i, 4, 7#32⟩) }

/-- With no and with three posted stores, with four, loads and DOTQ behind one, and its completion in memory, in a register window, and held back by
the one before it. -/
theorem witness_PostedStores :
    let h : List (BitVec 4 × Word) := [(2, 0x10000010#32)]
    let dot := posted 1 [(6, 0x2000#32), (7, 0x10000000#32)]
    let win := withCore 0 { pail with posted := [⟨0x10000000, 4, 7#32⟩, ⟨0x70000000, 4, 7#32⟩] }
    (∀ n ∈ [0, 3], (posted n h).canRun 0 (.stw 0 1 2 0) ∧ (posted n h).posts 0 (eaOf ((posted n h).core 0) 2 0) 4 ∧
      (posted n h).canRun 0 (.sth 0 1 2 2) ∧ (posted n h).posts 0 (eaOf ((posted n h).core 0) 2 2) 2 ∧
      (posted n h).canRun 0 (.stb 0 1 2 1) ∧ (posted n h).posts 0 (eaOf ((posted n h).core 0) 2 1) 1 ∧
      (posted n h).canRun 0 (.stwp 0 1 2 4) ∧ (posted n h).canRun 0 (.sthp 0 1 2 4) ∧ (posted n h).posts 0 (((posted n h).core 0).reg 2).toNat 4 ∧
      (posted n h).posts 0 (((posted n h).core 0).reg 2).toNat 2) ∧
    ((posted 4 h).canRun 0 (.stw 0 1 2 0) ∧ accessFault ((posted 4 h).core 0).large (eaOf ((posted 4 h).core 0) 2 0) 4 = none ∧
      windowOf ((posted 4 h).core 0).large (eaOf ((posted 4 h).core 0) 2 0) ≠ some 0 ∧ ((posted 4 h).core 0).posted.length = 4) ∧
    ((posted 1 h).canRun 0 (.ldw 0 1 2 0) ∧ ((posted 1 h).core 0).behindPosted (eaOf ((posted 1 h).core 0) 2 0) = true) ∧
    (∀ j ∈ ([.stw 0 1 2 0, .sth 0 1 2 2, .stb 0 1 2 3, .stwp 0 1 2 4, .sthp 0 1 2 2] : List Instr), (posted 4 h).canRun 0 j) ∧
    (accessFault false (eaOf ((posted 4 h).core 0) 2 2) 2 = none ∧ windowOf false (eaOf ((posted 4 h).core 0) 2 2) ≠ some 0 ∧
      accessFault false (eaOf ((posted 4 h).core 0) 2 3) 1 = none ∧ windowOf false (eaOf ((posted 4 h).core 0) 2 3) ≠ some 0 ∧
      accessFault false (((posted 4 h).core 0).reg 2).toNat 4 = none ∧ windowOf false (((posted 4 h).core 0).reg 2).toNat ≠ some 0 ∧
      accessFault false (((posted 4 h).core 0).reg 2).toNat 2 = none) ∧
    (∀ j ∈ ([.ldh 0 1 2 2, .ldhu 0 1 2 2, .ldb 0 1 2 3, .ldbu 0 1 2 3, .ldwp 0 1 2 4, .ldhp 0 1 2 2] : List Instr), (posted 1 h).canRun 0 j) ∧
    (((posted 1 h).core 0).behindPosted (eaOf ((posted 1 h).core 0) 2 2) = true ∧ ((posted 1 h).core 0).behindPosted (eaOf ((posted 1 h).core 0) 2 3) = true ∧
      ((posted 1 h).core 0).behindPosted (((posted 1 h).core 0).reg 2).toNat = true) ∧
    (dot.canRun 0 (.dotq 0 5 6 7 0) ∧ dot.memReads 0 ((dot.core 0).reg 6).toNat 4 ∧ accessFault false ((dot.core 0).reg 7).toNat 4 = none ∧
      (dot.core 0).behindPosted ((dot.core 0).reg 7).toNat = true ∧ dot.canRun 0 (.dotq 0 5 7 6 0) ∧ accessFault false ((dot.core 0).reg 6).toNat 4 = none) ∧
    ((win.core 0).posted[(1 : Fin 4).val]? = some ⟨0x70000000, 4, 7#32⟩ ∧ memAddr 0 0x70000000 = false ∧
      (∀ q ∈ (win.core 0).posted.take 1, windowOf false q.addr ≠ windowOf false 0x70000000)) ∧
    (((posted 2 h).core 0).posted[(1 : Fin 4).val]? = some ⟨0x10000004, 4, 7#32⟩ ∧
      ∃ q ∈ ((posted 2 h).core 0).posted.take 1, windowOf false q.addr = windowOf false 0x10000004) ∧
    ((posted 1 h).canRun 0 (.fence 0 0 0 0 0) ∧ ((posted 1 h).core 0).posted ≠ [] ∧ ((posted 0 h).core 0).posted = []) ∧
    (((posted 1 h).core 0).posted[(0 : Fin 4).val]? = some ⟨0x10000000, 4, 7#32⟩ ∧ memAddr 0 0x10000000 = true ∧
      (∀ q ∈ ((posted 1 h).core 0).posted.take 0, windowOf false q.addr ≠ windowOf false 0x10000000) ∧
      (∀ j, j < 4 → (posted 1 h).storable 0 (0x10000000 + j) = true) ∧ (posted 1 h).wordSound (coreMem 0 0x10000000) = true) := by
  simp only [State.canRun, State.posts, State.memReads]; (repeat' apply And.intro) <;> decide

theorem witness_DotqResult :
    let s := running 0 [(6, 0x2000#32), (7, 0x3000#32)]
    s.canRun 0 (.dotq 0 5 6 7 31) ∧ s.memReads 0 ((s.core 0).reg 6).toNat 4 ∧ s.memReads 0 ((s.core 0).reg 7).toNat 4 := by
  simp only [State.canRun, State.memReads]; (repeat' apply And.intro) <;> decide

/-- The vat core with its data stack between 0x1000_2000 and 0x1000_3000 and its stack pointer as given. -/
def stack (m : Word) : State := withCore 8 { gs vatCore [(13, m)] with dspLo := 0x10002000#32, dspHi := 0x10003000#32 }

/-- At both ends of the stack, and one word beyond each. -/
theorem witness_StackPushPop :
    let lo := stack 0x10002004#32
    let hi := stack 0x10002FFC#32
    (lo.canRun 8 (.push 8 0 1 0 0) ∧ (lo.core 8).dspLo.toNat + 4 ≤ ((lo.core 8).reg gSp).toNat ∧ lo.memWrites 8 (((lo.core 8).reg gSp) - 4#32).toNat 4) ∧
    (hi.canRun 8 (.pop 8 1 0 0 0) ∧ ((hi.core 8).reg gSp).toNat + 4 ≤ (hi.core 8).dspHi.toNat ∧ hi.memReads 8 ((hi.core 8).reg gSp).toNat 4) ∧
    (((stack 0x10002000#32).core 8).reg gSp).toNat < ((stack 0x10002000#32).core 8).dspLo.toNat + 4 ∧ ((stack 0x10002000#32).core 8).faultsOpen ∧
    ((stack 0x10003000#32).core 8).dspHi.toNat < (((stack 0x10003000#32).core 8).reg gSp).toNat + 4 := by
  simp only [State.canRun, State.memWrites, State.memReads, Core.faultsOpen]; (repeat' apply And.intro) <;> decide

/-- The vat core with a return stack. -/
def stacked (n : Nat) (k : RsKind) : State := withCore 8 { gs vatCore [(1, 0x10002000#32)] with rs := List.replicate n ⟨k, 0x10003000#32, 0x1000F#32, 2⟩ }

/-- B taken, not taken and to a bad target; jumps on both profiles; the return stack with 0, 59 and 60 entries. -/
theorem witness_BranchesJumpsAndCalls :
    let s := running 0 [(1, 0x2000#32), (14, 0x2000#32)]
    (s.canRun 0 (.b 0 1 2) ∧ condHolds 1 (s.core 0).flags = false) ∧
    (s.canRun 0 (.b 0 0 2) ∧ condHolds 0 (s.core 0).flags = true ∧ goodTarget (s.core 0).large (targetOf (s.core 0) 2) = true) ∧
    (s.canRun 0 (.b 0 0 0x3F0000) ∧ goodTarget (s.core 0).large (targetOf (s.core 0) 0x3F0000) = false ∧ (s.core 0).faultsOpen) ∧
    ((s.core 0).large = false ∧ s.canRun 0 (.jr 0 0 1 0 0) ∧ goodTarget false ((s.core 0).reg 1) = true ∧ s.canRun 0 (.call 0 0 2) ∧
      goodTarget false (targetOf (s.core 0) 2) = true ∧ s.canRun 0 (.callr 0 0 1 0 0) ∧ s.canRun 0 (.ret 0 0 0 0 0) ∧
      goodTarget false ((s.core 0).reg 14#4) = true) ∧
    ((stacked 59 .call).canRun 8 (.jr 8 0 1 0 0) ∧ goodTarget true (((stacked 59 .call).core 8).reg 1) = true ∧ (stacked 59 .call).canRun 8 (.call 8 0 2) ∧
      (stacked 59 .call).canRun 8 (.callr 8 0 1 0 0) ∧ goodTarget true (targetOf ((stacked 59 .call).core 8) 2) = true ∧
      ((stacked 59 .call).core 8).rs.length < 60) ∧
    ((stacked 1 .call).canRun 8 (.ret 8 0 0 0 0) ∧ ((stacked 1 .call).core 8).rs = [⟨.call, 0x10003000#32, 0x1000F#32, 2⟩] ∧ goodTarget true 0x10003000#32 = true) ∧
    (60 ≤ ((stacked 60 .call).core 8).rs.length ∧ ((stacked 60 .call).core 8).faultsOpen ∧ (stacked 60 .call).canRun 8 (.call 8 0 2)) ∧
    (((stacked 0 .call).core 8).rs = [] ∧ (stacked 0 .call).canRun 8 (.ret 8 0 0 0 0)) ∧
    ((stacked 1 .event).canRun 8 (.ret 8 0 0 0 0) ∧ ((stacked 1 .event).core 8).faultsOpen) := by
  simp only [State.canRun, Core.faultsOpen]; (repeat' apply And.intro) <;> decide

/-- A pail core whose next word is given, with RC. -/
def prefixed (w : Nat) (rc : Word) : State := (withCore 0 { pail with rc := rc }).storeLe (coreMem 0 0x1004) 4 w

/-- Before an ADD that may be repeated, with counts 0, 1, 256 and 257; before a B that may not; iterations left 2, 1 and none; and the words of the
bounds of the opcodes that may be repeated, of MFS, MTS and DOTQ, and of NOP and B, which may not. -/
theorem witness_RepeatPrefixes :
    let s := prefixed 0 256#32
    let z := prefixed 0 0#32
    let m := prefixed 0 257#32
    let j := prefixed 0x80000002 1#32
    (goodTarget (s.core 0).large ((s.core 0).pc + 4#32) = true ∧ ((s.core 0).large && s.poisoned ((s.core 0).pc + 4#32).toNat 4) = false ∧
      s.repeatable 0 ((s.core 0).pc + 4#32) = true ∧ s.canRun 0 (.rpti 0 0 256) ∧
      s.canRun 0 (.rpti 0 0 0) ∧ s.canRun 0 (.rpti 0 0 257) ∧ s.canRun 0 (.rptr 0 0) ∧ (s.core 0).rc.toNat ≤ 256 ∧ (s.core 0).rc.toNat ≠ 0 ∧
      (s.core 0).faultsOpen) ∧
    ((z.core 0).rc = 0#32 ∧ z.canRun 0 (.rptr 0 0) ∧ z.repeatable 0 ((z.core 0).pc + 4#32) = true) ∧
    (256 < (m.core 0).rc.toNat ∧ (m.core 0).large = false ∧ m.canRun 0 (.rptr 0 0)) ∧
    (∀ w ∈ [0, 0x09158000, 0x05E24000, 0x0559C407, 0x21802000, 0x367FFFFF, 0x4077FFFC, 0x6C77FFFC, 0x0C800041, 0x0C0C0042],
      (prefixed w 1#32).repeatable 0 0x1004#32 = true) ∧
    (∀ w ∈ [0x0C000000, 0x833FFFFE, 0x8C000003, 0x700C0000, 0x00000001 + 64 * 5], (prefixed w 1#32).repeatable 0 0x1004#32 = false) ∧
    (j.repeatable 0 ((j.core 0).pc + 4#32) = false ∧ ((j.core 0).large && j.poisoned ((j.core 0).pc + 4#32).toNat 4) = false ∧ j.canRun 0 (.rpti 0 0 1) ∧ j.canRun 0 (.rptr 0 0) ∧ (j.core 0).faultsOpen) ∧
    (∀ r ∈ ([none, some 1, some 2] : List (Option Nat)), (withCore 0 { pail with rep := r }).canRun 0 (.add 0 1 2 3 0) ∧
      ((withCore 0 { pail with rep := r }).core 0).rep = r) := by
  simp only [State.canRun, Core.faultsOpen]; (repeat' apply And.intro) <;> decide

/-- Every special register that each profile can read and write. -/
theorem witness_SpecialRegisterReadsAndWrites :
    (∀ k ∈ ([0, 1, 2, 3, 4, 5, 6, 7, 8, 11, 14] : List (BitVec 8)), (running 0 []).canRun 0 (.mfs 0 1 0 0 k)) ∧
    (∀ k ∈ ([0, 1, 2, 5, 6, 7, 8, 9, 10, 11, 12, 13, 14, 15, 16, 17] : List (BitVec 8)), (running 8 []).canRun 8 (.mfs 8 1 0 0 k)) ∧
    (∀ k ∈ ([0, 1, 2, 3, 4, 7, 8, 11] : List (BitVec 8)), (running 0 []).canRun 0 (.mts 0 0 1 0 k)) ∧
    (∀ k ∈ ([0, 1, 7, 8, 9, 10, 11, 12, 13, 16, 17] : List (BitVec 8)), (running 8 []).canRun 8 (.mts 8 0 1 0 k)) := by
  simp only [State.canRun]; (repeat' apply And.intro) <;> decide

/-- With and without a source that is pending and enabled. -/
theorem witness_SystemResults :
    let s := running 0 []
    let r := withCore 0 { pail with pend0 := 0x8000#32, en0 := 0x8000#32 }
    s.canRun 0 (.nop 0 0 0 0 0) ∧ s.canRun 0 (.ei 0 0 0 0 0) ∧ s.canRun 0 (.di 0 0 0 0 0) ∧ (s.canRun 0 (.wait 0 0 0 0 0) ∧ (s.core 0).ready = false) ∧
      r.canRun 0 (.wait 0 0 0 0 0) ∧ (r.core 0).ready = true := by
  simp only [State.canRun]; (repeat' apply And.intro) <;> decide

theorem witness_EretResults :
    ((running 0 []).canRun 0 (.eret 0 0 0 0 0) ∧ ((running 0 []).core 0).large = false) ∧
    ((stacked 1 .fault).canRun 8 (.eret 8 0 0 0 0) ∧ ((stacked 1 .fault).core 8).large = true ∧
      ((stacked 1 .fault).core 8).rs = [⟨.fault, 0x10003000#32, 0x1000F#32, 2⟩]) ∧
    ((stacked 0 .fault).canRun 8 (.eret 8 0 0 0 0) ∧ ((stacked 0 .fault).core 8).rs = []) ∧
    ((stacked 1 .call).canRun 8 (.eret 8 0 0 0 0) ∧ ((stacked 1 .call).core 8).faultsOpen) := by
  simp only [State.canRun, Core.faultsOpen]; (repeat' apply And.intro) <;> decide

/-- On both profiles, the vat core with 63 entries. -/
theorem witness_FaultEntrySaves :
    ((running 0 []).canRun 0 (.brk 0 0 0 0 255) ∧ ((running 0 []).core 0).faultsOpen) ∧
    ((stacked 63 .call).canRun 8 (.brk 8 0 0 0 0) ∧ ((stacked 63 .call).core 8).faultsOpen) := by
  simp only [State.canRun, Core.faultsOpen]; (repeat' apply And.intro) <;> decide

/-- An illegal instruction, a PC outside the fetch area, and addresses outside every window, misaligned, and in a register window, also odd; the same for
the forms with post-increment. -/
theorem witness_IllegalFetchAndAccessFaults :
    let s (m : Word) := running 0 [(2, m)]
    let x (m : Word) := (s m).core 0
    let out := withCore 0 { pail with pc := 0x70000#32 }
    ((s 0).coreIssues 0 = true ∧ (x 0).faultsOpen ∧ goodTarget (x 0).large (x 0).pc = true ∧
      ((x 0).large && (s 0).poisoned (x 0).pc.toNat 4) = false ∧ (s 0).wordSound (coreMem 0 (x 0).pc.toNat) = true ∧ (x 0).legal (.add 0 1 2 3 1) = false) ∧
    (out.coreIssues 0 = true ∧ (out.core 0).faultsOpen ∧ goodTarget (out.core 0).large (out.core 0).pc = false) ∧
    windowOf (x 0x80000#32).large (eaOf (x 0x80000#32) 2 0) = none ∧
    (∀ i ∈ ([.ldw 0 1 2 0, .ldh 0 1 2 0, .ldhu 0 1 2 0, .ldb 0 1 2 0, .ldbu 0 1 2 0, .stw 0 1 2 0, .sth 0 1 2 0, .stb 0 1 2 0] : List Instr),
      (s 0x80000#32).canRun 0 i) ∧
    (windowOf (x 0x7FFFE#32).large (eaOf (x 0x7FFFE#32) 2 0) ≠ none ∧ eaOf (x 0x7FFFE#32) 2 0 % 4 ≠ 0) ∧
    (windowOf (x 0x7FFFF#32).large (eaOf (x 0x7FFFF#32) 2 0) ≠ none ∧ eaOf (x 0x7FFFF#32) 2 0 % 2 ≠ 0) ∧
    (windowOf (x 0x40000000#32).large (eaOf (x 0x40000000#32) 2 0) = some 2 ∧ eaOf (x 0x40000000#32) 2 0 % 2 = 0) ∧
    windowOf (x 0x40000001#32).large (eaOf (x 0x40000001#32) 2 0) = some 2 ∧
    (∀ i ∈ ([.ldwp 0 1 2 4, .ldhp 0 1 2 4, .stwp 0 1 2 4, .sthp 0 1 2 4] : List Instr), (s 0x80000#32).canRun 0 i) ∧
    (∀ i ∈ ([.ldwp 0 1 2 4, .ldhp 0 1 2 4, .stwp 0 1 2 4, .sthp 0 1 2 4] : List Instr), (s 0x7FFFE#32).canRun 0 i) ∧
    (∀ i ∈ ([.ldwp 0 1 2 4, .ldhp 0 1 2 4, .stwp 0 1 2 4, .sthp 0 1 2 4] : List Instr), (s 0x7FFFF#32).canRun 0 i) ∧
    (∀ i ∈ ([.ldwp 0 1 2 4, .ldhp 0 1 2 4, .stwp 0 1 2 4, .sthp 0 1 2 4] : List Instr), (s 0x40000000#32).canRun 0 i) ∧
    (∀ i ∈ ([.ldw 0 1 2 0, .ldh 0 1 2 0, .ldhu 0 1 2 0, .ldb 0 1 2 0, .ldbu 0 1 2 0, .stw 0 1 2 0, .sth 0 1 2 0,
      .stb 0 1 2 0] : List Instr), (s 0x7FFFF#32).canRun 0 i) ∧
    (∀ i ∈ ([.ldw 0 1 2 0, .ldh 0 1 2 0, .ldhu 0 1 2 0, .ldb 0 1 2 0, .ldbu 0 1 2 0, .stw 0 1 2 0, .sth 0 1 2 0,
      .stb 0 1 2 0] : List Instr), (s 0x40000000#32).canRun 0 i) ∧
    (s 0x7FFFE#32).canRun 0 (.ldw 0 1 2 0) ∧ (s 0x7FFFE#32).canRun 0 (.stw 0 1 2 0) ∧ (s 0x40000001#32).canRun 0 (.ldb 0 1 2 0) ∧
    (((x 0x80000#32).reg 2).toNat = eaOf (x 0x80000#32) 2 0 ∧ ((x 0x7FFFE#32).reg 2).toNat % 4 ≠ 0 ∧ ((x 0x7FFFF#32).reg 2).toNat % 2 ≠ 0 ∧
      windowOf false ((x 0x40000000#32).reg 2).toNat = some 2) := by
  simp only [State.canRun, Core.faultsOpen]; (repeat' apply And.intro) <;> decide

/-- The lowest and the highest source of each profile, at a boundary that allows it; a core that has none; cores of both profiles in WAIT with IE 0 and IE
1, whose domain has agreed to nothing; and one whose domain has agreed. -/
theorem witness_EventEntryAndWaitEnd :
    let x : Core := { pail with pend0 := 0x8001#32, en0 := 0xFFFF#32, flags := 0x10000#32 }
    let y : Core := { vatCore with pend2 := 1#32, en2 := 1#32, flags := 0x50000#32, rs := List.replicate 61 ⟨.call, 0#32, 0#32, 0⟩ }
    let w (f : Word) : Core := { pail with pend0 := 0x8000#32, en0 := 0xFFFF#32, flags := f, waiting := true }
    let v : Core := { y with pend0 := 1#32, en0 := 1#32, flags := 0x50000#32, waiting := true }
    (((withCore 0 x).core 0 = x ∧ (withCore 0 x).coreIssues 0 = true) ∧ x.lowest 0 ∧ x.mayTake) ∧
    (((withCore 8 y).core 8 = y ∧ (withCore 8 y).coreIssues 8 = true) ∧ y.lowest 64 ∧ y.mayTake) ∧
    ((running 0 []).coreIssues 0 = true ∧ ((running 0 []).core 0).ready = false) ∧
    (∀ f ∈ [0#32, 0x10000#32], ((withCore 0 (w f)).core 0 = w f ∧ (withCore 0 (w f)).domIsOn (domTile 0) = true) ∧ (w f).running = true ∧
      (w f).halted = false ∧ (w f).waiting = true ∧ (w f).lowest 15 ∧ (w f).flags.getLsbD fIe = decide (f = 0x10000#32) ∧ (w f).rep = none) ∧
    ((withCore 8 v).core 8 = v ∧ (withCore 8 v).domIsOn domHub = true ∧ (withCore 8 v).domAgreed domHub = false ∧ (withCore 0 x).domAgreed (domTile 0) = false ∧
      v.running = true ∧ v.halted = false ∧ v.waiting = true ∧ v.large = true ∧ v.stalled = false ∧ v.rs.length ≤ 61 ∧ v.flags.getLsbD fIe = true ∧
      v.lowest 0) ∧
    { withCore 0 x with pwr := { PwrSt.rest with asks := [(4, 1)], agreedAt := some 0 } }.domAgreed (domTile 0) = true := by
  refine ⟨⟨by decide, ?_, by simp only [Core.mayTake]; decide⟩, ⟨by decide, ?_, by simp only [Core.mayTake]; decide⟩, by decide, ?_,
    ⟨by decide, by decide, by decide, by decide, by decide, by decide, by decide, by decide, by decide, by decide, by decide, by decide, by omega,
      fun m h => absurd h (by omega)⟩, by decide⟩
  · exact ⟨by decide, by omega, fun m h => absurd h (by omega)⟩
  · refine ⟨by decide, by omega, fun m h => ?_⟩
    simp only [Core.sourceReady, vatCore, Core.unstarted]
    split
    · simp
    · simp
  · intro f hf
    simp only [List.mem_cons, List.not_mem_nil, or_false] at hf
    obtain rfl | rfl := hf
    · exact ⟨by decide, by decide, by decide, by decide, ⟨by decide, by omega, by decide⟩, by decide, by decide⟩
    · exact ⟨by decide, by decide, by decide, by decide, ⟨by decide, by omega, by decide⟩, by decide, by decide⟩

/-- MFS at the highest special register; LUI; each division by 0 on both profiles and by 1. -/
theorem witness_ComputationFrame :
    (∀ i ∈ ([.divI 0 1 2 3 0, .divu 0 1 2 3 0, .rem 0 1 2 3 0, .remu 0 1 2 3 0] : List Instr),
      i.computes = some (0, 1) ∧ (running 0 [(3, 0#32)]).canRun 0 i) ∧
    (∀ i ∈ ([.divI 8 1 2 3 0, .divu 8 1 2 3 0, .rem 8 1 2 3 0, .remu 8 1 2 3 0] : List Instr),
      i.computes = some (8, 1) ∧ (running 8 [(3, 0#32)]).canRun 8 i) ∧
    (∀ i ∈ ([.divI 8 1 2 3 0, .divu 8 1 2 3 0, .rem 8 1 2 3 0, .remu 8 1 2 3 0] : List Instr),
      i.computes = some (8, 1) ∧ (running 8 [(3, 1#32)]).canRun 8 i) ∧
    (Instr.mfs 8 1 0 0 17).computes = some (8, 1) ∧ (running 8 []).canRun 8 (.mfs 8 1 0 0 17) ∧
      (Instr.lui 0 15 1).computes = some (0, 15) ∧ (running 0 []).canRun 0 (.lui 0 15 1) ∧ ∃ t, exec (.lui 0 15 1) (running 0 []) = .next t := by
  refine ⟨?_, ?_, ?_, by decide, ?_, by decide, ?_, ⟨_, rfl⟩⟩ <;> simp only [State.canRun] <;> decide

/-! ## The statements' hypotheses are met: bring-up, power, the supply link -/

/-- Fields set on the state after reset, at an LT that runs. -/
def at_ (n : Nat) (l : List (Fld × Nat)) : State := { st l with lt := n, time := true }

/-- A condition of the mode holds. -/
def inCond (c : Nat) (s : State) : State := s.setBit F.MOD_STATUS_FLAGS (c - 2)

/-- Bring-up stands at a stage. -/
def stage (n : Nat) (s : State) : State := s.setBoot { BootSt.start with stage := n }

/-- The end of the logic step of a warm reset, with the time at which lock was lost, and PWR_STAGE.FLAGS. -/
def up (a : Option Nat) (k : Nat) : State := ((st [(F.PWR_STAGE_FLAGS, k)]).setBoot { BootSt.start with stage := 9, warm := true, lostAt := a }).logicRelease

set_option maxRecDepth 100000 in
/-- The ends of the logic step: nothing wrong, a rail fault shown, a lock lost with no rail fault shown behind its entry. -/
theorem witness_BringUpSteps_logic :
    ((up none 0).boot.lostAt = none ∧ ((up none 0).get F.PWR_STAGE_FLAGS).testBit 2 = false) ∧
    ((up none 4).boot.lostAt = none ∧ ((up none 4).get F.PWR_STAGE_FLAGS).testBit 2 = true) ∧
    (up (some 0) 0).boot.lostAt = some 0 ∧ (((up (some 0) 0).faultHold hcPllLock 0#32 40).get F.PWR_STAGE_FLAGS).testBit 2 = false := by
  (repeat' apply And.intro) <;> decide +kernel

/-- Each stage; RAIL_FAULT clear and set beside the other flags; a baseline that finds a corrected line and an uncorrectable one of a tile, which pass, and an uncorrectable one of hub memory, which fails;
after power-on and after ten ticks. -/
theorem witness_BringUpSteps :
    let f (m : Fin 19) (d : Fin 512) : BaselineFind := ⟨m, 262143, ⟨1, d⟩⟩
    let fails (l : List BaselineFind) := baselineFails (l.map (fun x => (x.m.val, x.line.val, x.upset)))
    (∀ n, n < 10 → (stage n State.reset).boot.stage = n ∧ (stage n State.reset).link.req = none ∧ (stage n State.reset).ticks = none) ∧
    (∀ k ∈ [0, 3], ((stage 3 (st [(F.PWR_STAGE_FLAGS, k)])).get F.PWR_STAGE_FLAGS).testBit 2 = false) ∧
    (∀ k ∈ [4, 7], ((stage 3 (st [(F.PWR_STAGE_FLAGS, k)])).get F.PWR_STAGE_FLAGS).testBit 2 = true) ∧
    2 ≤ popCount 9 (f 0 3).upset.double.val ∧
    { stage 9 State.reset with ticks := some 10 }.ticks = some 10 ∧ fails [] = false ∧ fails [f 18 1, f 15 3] = false ∧ fails [f 16 3] = true := by
  (repeat' apply And.intro) <;> decide

/-- FAULT_HOLD since LT 0 or without lock since LT 0, at LT `n`. -/
def held (n : Nat) : State :=
  (inCond mFaultHold (at_ n [(F.MOD_CFG_HOLD_S, 1)])).setBoot { BootSt.start with stage := 10, lostAt := some 0, holdAt := some 0, want := some 2 }

/-- The times of one second, reached and one ns short. -/
theorem witness_BringUpFailuresAndResets :
    let lock (b : Bool) := { stage 10 (st [(F.LT_CLK_STAT_PLL_LOCK, 1)]) with booting := b }
    let back (d v : Nat) : State :=
      { (at_ 0 [(domFld 2, d)]).setBoot { BootSt.start with stage := 10, lostAt := some 0 } with booting := false, host := { HostSt.start with speedWas := v } }
    let wake (w : Nat) := { stage 10 State.reset with pwr := { PwrSt.rest with wakeStage := w } }
    (∀ n ∈ [1, 2, 3, 4, 5, 12], (stage n State.reset).boot.stage = n) ∧ State.reset.boot.want = none ∧ State.reset.boot.lostAt = none ∧
    (∀ b, (lock b).isSet F.LT_CLK_STAT_PLL_LOCK = true ∧ (lock b).booting = b) ∧ State.reset.isSet F.LT_CLK_STAT_PLL_LOCK = false ∧
    (∀ v ∈ [1, 7], (back 2 v).boot.stage ≠ 5 ∧ (back 2 v).boot.lostAt = some 0 ∧ (back 2 v).booting = false ∧ (back 2 v).dom 2 = 2 ∧ (back 2 v).host.speedWas ≠ 0 ∧
      (back 2 v).host.speedWas < 8) ∧ (back 0 7).dom 2 ≠ 2 ∧ (back 2 0).host.speedWas = 0 ∧
    (∀ w ∈ [0, 1, 2], (wake w).boot.stage ≠ 5 ∧ (wake w).boot.lostAt = none ∧ (wake w).pwr.wakeStage = w) ∧
    ((held 1000000000).boot.lostAt = some 0 ∧ (held 0).boot.stage ≠ 5 ∧ (held 0).host.speedWas = 0 ∧ 0 + 1000000000 ≤ (held 1000000000).lt ∧
      (held 999999999).lt < 0 + 1000000000 ∧ (held 1).boot.want = some 2) ∧
    ((held 1000000000).boot.holdAt = some 0 ∧ (held 1000000000).get F.MOD_CFG_HOLD_S ≠ 0 ∧ (held 1000000000).cond mFaultHold = true ∧
      0 + (held 1000000000).get F.MOD_CFG_HOLD_S * 1000000000 ≤ (held 1000000000).lt ∧
      (held 999999999).lt < 0 + (held 999999999).get F.MOD_CFG_HOLD_S * 1000000000) ∧
    (st [(F.MOD_CFG_HOLD_S, 0)]).get F.MOD_CFG_HOLD_S = 0 := by
  (repeat' apply And.intro) <;> decide

/-- A power request's state at LT `n`. -/
def pwrAt (n : Nat) (p : PwrSt) (l : List (Fld × Nat)) : State := { (at_ n l) with pwr := p }

/-- No rail is missing where the three are on, whatever Config.railUses says. -/
theorem rails_all_on : { (pwrAt 0 { PwrSt.rest with raising := [(12, 2)] } []) with link := { LinkSt.start with rails := [3, 4, 5] } }.railsMiss 12 = [] := by
  simp [State.railsMiss]; exact ⟨fun _ => by decide, fun _ => by decide, fun _ => by decide⟩

/-- Rail 3 is missing where the domain uses it. -/
theorem rails_missing : Config.railUses 3 12 = true →
    (pwrAt 0 { PwrSt.rest with raising := [(12, 2), (13, 2)] } [(domFld 4, 2)]).railsMiss 12 ≠ [] := by
  intro h
  have : ¬ (pwrAt 0 { PwrSt.rest with raising := [(12, 2), (13, 2)] } [(domFld 4, 2)]).link.rails.contains 3 = true := by decide
  simp [State.railsMiss, h]
  simp_all

/-- PWR_REQ values that no rule breaks, that ask for the reserved state, and that break a parent rule; a raise; answers of a rail, of HUB on, of a tile whose
core computes and of one whose core has an event pending; the ticks and AGREE_MS, reached and short. -/
theorem witness_PowerRequests :
    let all2 : List (Fld × Nat) := [(⟨R.PWR_REQ_H, 0, 32⟩, 0xAA), (⟨R.PWR_REQ_T, 0, 32⟩, 0xAAAAAAAA)]
    let ask (k : Nat) (c : Core) := { (pwrAt 32000 { PwrSt.rest with asks := [(k, 1), (12, 1)] } [(domFld k, 2)]) with cores := [(0, c)] }
    let hub := { (pwrAt 32000 { PwrSt.rest with asks := [(0, 1)] } [(domFld 0, 2)]) with cores := [(8, { vatCore with waiting := true })] }
    let up := (pwrAt 0 { PwrSt.rest with raising := [(12, 2), (13, 2)] } [(domFld 4, 2)])
    let railed := { (pwrAt 0 { PwrSt.rest with raising := [(12, 2)] } []) with link := { LinkSt.start with rails := [3, 4, 5] } }
    (st [(F.PWR_STAT_BUSY, 1)]).isSet F.PWR_STAT_BUSY = true ∧
    ((st all2).isSet F.PWR_STAT_BUSY = false ∧ (∀ n, n < 20 → (st all2).reqOf n ≠ 3) ∧ parentsOk (st all2).reqOf = true) ∧
    (∃ n, n < 20 ∧ (st [(⟨R.PWR_REQ_H, 0, 2⟩, 3)]).reqOf n = 3) ∧ parentsOk (st [(⟨R.PWR_REQ_H, 0, 32⟩, 0), (⟨R.PWR_REQ_T, 0, 2⟩, 2)]).reqOf = false ∧
    (up.pwr.raising = [(12, 2), (13, 2)] ∧ 2 ≤ up.dom (domParent 12) ∧ (12 : Fin 20).val = 12 ∧ (13 : Fin 20).val ≠ 12) ∧
    (up.dom 12 = 0 ∧ railed.railsMiss 12 = [] ∧ (Config.railUses 3 12 = true → up.railsMiss 12 ≠ []) ∧ railed.pwr.raising = [(12, 2)] ∧
      (pwrAt 0 { PwrSt.rest with raising := [(12, 2)] } [(domFld 12, 1)]).dom 12 ≠ 0) ∧
    ((ask 12 pail).pwr.asks = [(12, 1), (12, 1)] ∧ (ask 12 pail).pwr.raising = [] ∧ (ask 12 pail).pwr.agreedAt = none ∧
      (ask 12 pail).pwr.askedAt + 32000 ≤ (ask 12 pail).lt ∧ (ask 12 pail).domAnswer 12 = .agree ∧ { ask 12 pail with lt := 31999 }.lt < 0 + 32000) ∧
    (hub.pwr.asks = [(0, 1)] ∧ hub.dom 0 = 2 ∧ hub.domAnswer 0 = .agree) ∧
    ((ask 4 pail).domAnswer 4 = .wait 0 ∧ (ask 4 { pail with pend0 := 1#32, en0 := 1#32 }).domAnswer 4 = .refuse rfPendEvent 0) ∧
    ((pwrAt 96000 { PwrSt.rest with agreedAt := some 0 } []).pwr.agreedAt = some 0 ∧ 0 + 96000 ≤ (pwrAt 96000 PwrSt.rest []).lt ∧
      (pwrAt 95999 PwrSt.rest []).lt < 0 + 96000) ∧
    ((ask 4 pail).pwr.askedAt + (ask 4 pail).get F.PWR_CFG_AGREE_MS * 1000000 ≤ ({ ask 4 pail with lt := 10000000 }).lt ∧
      ({ ask 4 pail with lt := 9999999 }).lt < (ask 4 pail).pwr.askedAt + (ask 4 pail).get F.PWR_CFG_AGREE_MS * 1000000) := by
  (repeat' apply And.intro) <;> first | decide | exact rails_all_on | exact rails_missing

/-- A wake by the tick count, with HUB not on, and with HUB on and asked, or not asked; sources 0 and 3 have fired; ticks 3 and 4 after a wake; 8,000 ns
after TIME's start. -/
theorem witness_SleepAndWake :
    let s := { st [(F.PWR_WAKE_EN_EN, 1)] with ticks := some 0 }
    let on (l : List (Nat × Nat)) := { (st [(F.PWR_WAKE_EN_EN, 1), (domFld 0, 2)]) with ticks := some 0, pwr := { PwrSt.rest with asks := l } }
    let w (n : Nat) := { st [(F.LT_CLK_STAT_PLL_LOCK, 1)] with ticks := some n, pwr := { PwrSt.rest with wakeAt := some 0, wakeStage := 1 } }
    let h (n : Nat) := pwrAt n { PwrSt.rest with wakeAt := some 0, wakeStage := 2 } []
    (s.wakeMay 0 0 = true ∧ s.dom 0 ≠ 2 ∧ s.pwr.wakeStage = 0) ∧ State.reset.wakeMay 0 0 = false ∧
    ((on [(0, 1)]).wakeMay 0 0 = true ∧ (on [(0, 1)]).dom 0 = 2 ∧ (on [(0, 1)]).pwr.raising = [] ∧ (on [(0, 1)]).pwr.asks = [(0, 1)] ∧
      (on [(0, 1)]).pwr.agreedAt = none ∧ (on []).pwr.asks = []) ∧
    ((0, 0) ∈ { s with pwr := { PwrSt.rest with fired := [(3, 1), (0, 0)] } }.pwr.fired ∧ (∀ x ∈ [(3, 1), (0, 0)], 0 ≤ x.1) ∧ s.ticks = some 0 ∧
      s.pwr.fired = []) ∧
    ((w 4).pwr.wakeAt = some 0 ∧ (w 4).ticks = some 4 ∧ (w 4).pwr.wakeStage = 1 ∧ (w 4).isSet F.LT_CLK_STAT_PLL_LOCK = true ∧ 0 + 4 ≤ 4) ∧
    State.reset.isSet F.LT_CLK_STAT_PLL_LOCK = false ∧ (w 3).ticks = some 3 ∧
    ((h 8000).pwr.wakeStage = 2 ∧ (h 8000).pwr.wakeAt = some 0 ∧ 0 + 8000 ≤ (h 8000).lt ∧ (h 7999).lt < 0 + 8000) := by
  (repeat' apply And.intro) <;> decide

/-- A supply-link request RAIL_SET with SEQ 0 sent at LT 0, after `k` retries, at LT `n`. -/
def linkAt (n k : Nat) : State := { (at_ n []) with link := { LinkSt.start with req := some ⟨1, 1, 1, 0, 0, k⟩ } }

/-- The acknowledgement of that request with STATUS done, one with a wrong CRC and one with another SEQ; polling, waiting and the watchdog at their instants; the
throttle's levels and times. -/
theorem witness_SupplyLinkAndThrottle :
    let f := linkFrame 1 0 0 0
    let r : LinkReq := ⟨1, 1, 1, 0, 0, 2⟩
    let volt (n : Nat) (b : Bool) := { stage n State.reset with booting := b }
    let th (n l : Nat) := { at_ n [(F.LT_CLK_STAT_THROTTLE, l)] with thr := { ThrSt.rest with since := some 0 } }
    ((linkAt 20000 2).link.req = some r ∧ (linkAt 20000 2).due r.at_ 20000 = true ∧ State.reset.link.req = none ∧ State.reset.link.queue = []) ∧
    (f.toNat % 256 = frameCrc f.toNat ∧ f.toNat / 2 ^ 28 = r.op ∧ f.toNat / 2 ^ 24 % 16 = r.seq ∧ f.toNat / 2 ^ 22 % 4 = 0) ∧
    (f + 1#32).toNat % 256 ≠ frameCrc (f + 1#32).toNat ∧ (linkFrame 1 1 0 0).toNat / 2 ^ 24 % 16 ≠ r.seq ∧
    ((linkAt 200000 2).due r.at_ 200000 = true ∧ r.tries < 3 ∧ (linkAt 200000 3).link.req = some ⟨1, 1, 1, 0, 0, 3⟩) ∧
    (3 ≤ (stage 3 State.reset).boot.stage ∧ (stage 3 State.reset).link.req = none ∧ 3 ≤ (stage 3 (linkAt 0 0)).boot.stage ∧
      (stage 3 (linkAt 0 2)).link.req = some r) ∧
    (at_ 20000000 []).due (at_ 20000000 []).link.lastAt 20000000 = true ∧ (at_ 19999999 []).due (at_ 19999999 []).link.lastAt 20000000 = false ∧
    ((th 0 0).throttle = 0 ∧ (th 0 1).throttle = 1 ∧ (th 0 2).throttle = 2) ∧ ((th 50000 2).thr.levelAt + 50000 ≤ (th 50000 2).lt ∧
      (th 49999 2).mayRelease = false ∧ (th 50000 1).mayRelease = true ∧ 0 < (th 50000 1).throttle) ∧
    ((th 2000000 1).thr.since = some 0 ∧ 0 + 2000000 ≤ (th 2000000 1).lt ∧ (th 2000000 1).thr.told = false) ∧ State.reset.thr.since = none ∧
    ({ th 0 1 with thr := { ThrSt.rest with since := some 0, levelAt := 0, peak := 2 } }.mayRelease = true ∧
      { th 0 1 with thr := { ThrSt.rest with since := some 0, levelAt := 0, peak := 1 } }.mayRelease = false) ∧
    (∀ n ∈ [3, 10], ∀ b, 3 ≤ (volt n b).boot.stage ∧ (volt n b).booting = b) ∧ (volt 2 true).boot.stage < 3 := by
  (repeat' apply And.intro) <;> decide

/-! ## The statements' hypotheses are met: line time and the Herd link -/

/-- Module 5 of ROLE `r` on the line with HERD on, at LT `n`. -/
def onLine (r n : Nat) (h : HerdSt) (l : List (Fld × Nat)) : State :=
  { (at_ n ((domFld domHerd, 2) :: l)) with com := ⟨5, r, 0, []⟩, herd := h }

theorem witness_LineTimeEvents :
    let fol := at_ 0 [(F.LT_STAT_FOLLOWING, 1), (F.LT_CLK_STAT_REF_SRC, 1)]
    let wlk (n ok : Nat) := { at_ n [(F.LT_STAT_WALKING, 1), (F.HERD_STAT_SOURCE_OK, ok)] with herd := { HerdSt.start with walkErr := 256, walkFrom := 0 } }
    let los (n : Nat) := at_ n [(F.HERD_STAT_SOURCE_OK, 1)]
    let off := at_ 30000 [(F.LT_CLK_STAT_REF_SRC, 2)]
    let dep (n : Nat) := onLine 1 n { HerdSt.start with lastBnum := some 0#32 } []
    (fol.isSet F.LT_STAT_FOLLOWING = true ∧ fol.get F.LT_CLK_STAT_REF_SRC ≠ 0) ∧ State.reset.isSet F.LT_STAT_FOLLOWING = false ∧
    ((wlk 500 0).isSet F.LT_STAT_WALKING = true ∧ (wlk 500 0).walkEndAt ≤ (wlk 500 0).lt ∧ (wlk 500 0).isSet F.HERD_STAT_SOURCE_OK = false ∧
      (wlk 500 1).isSet F.HERD_STAT_SOURCE_OK = true ∧ (wlk 499 0).lt < (wlk 499 0).walkEndAt) ∧
    ((los 30000).isSet F.HERD_STAT_SOURCE_OK = true ∧ (los 30000).isSet F.HERD_STAT_BEACONING = false ∧
      (los 30000).herd.lastGood + 30000 ≤ (los 30000).portNow ∧ (los 29999).portNow < (los 29999).herd.lastGood + 30000) ∧
    (off.isSet F.HERD_STAT_SOURCE_OK = false ∧ off.get F.LT_CLK_STAT_REF_SRC ≠ 0 ∧ off.isSet F.HERD_STAT_BEACONING = false ∧
      off.herd.lastGood + 30000 ≤ off.portNow ∧ State.reset.isSet F.HERD_STAT_SOURCE_OK = false ∧ State.reset.get F.LT_CLK_STAT_REF_SRC = 0) ∧
    ((dep 500000).herdFull = true ∧ (dep 500000).role = 1 ∧ (dep 500000).isSet F.HERD_STAT_BEACONING = false ∧ (dep 500000).isSet F.HERD_STAT_FORMING = false ∧
      (dep 500000).herd.lastBnum.isSome = true ∧ (dep 500000).herd.lastGood + 500000 + 200000 * (dep 500000).deputyRank ≤ (dep 500000).lt ∧
      (dep 500000).lt % 10000 = 0 ∧ (dep 499999).lt < (dep 499999).herd.lastGood + 500000) := by
  (repeat' apply And.intro) <;> decide

/-- A beacon of module `a`, BNUM 1. -/
def beaconOf (a : Nat) : Beacon :=
  ⟨10000, 0, 1#32, false, a, 0, 0#32, 0#32, List.replicate 8 ⟨0#32, 0#8⟩, List.replicate 4 Model.empty⟩

/-- A frame from `a` to module 5, or to all, as its sender forms it. -/
def frameOf (a : Nat) (all : Bool) (b : Body) : Frame := Frame.form a 5 all 1#32 b

/-- Both ports UP. -/
def up2 : List (Fld × Nat) := [(portState false, 6), (portState true, 6)]

theorem witness_BeaconsSentAndReceived :
    let lis (n : Nat) := onLine 0 n { HerdSt.start with listenFrom := some 0 } []
    let frm (n m : Nat) := onLine 0 n { HerdSt.start with formFrom := some 0, formMax := m } [(F.HERD_STAT_FORMING, 1), (portWrap false, 0)]
    let snd (k : Option Word) := onLine 0 10000 { HerdSt.start with takeBnum := k } [(F.HERD_STAT_BEACONING, 1), (portWrap false, 0)]
    let rcv := onLine 2 10000 HerdSt.start up2
    let own := onLine 1 10000 HerdSt.start ([(F.HERD_STAT_BEACONING, 1), (F.HERD_STAT_FORMING, 1)] ++ up2)
    let alone := onLine 3 10000 HerdSt.start []
    (∀ b ∈ [Body.beacon (beaconOf 3), .beacon (beaconOf 5), .claim 9#32, .form 7 1#32 5 1, .form 7 1#32 3 1], ∀ a all, (frameOf a all b).seen .good = .good) ∧
    ((lis 2000000).herd.listenFrom = some 0 ∧ (lis 2000000).herdFull = true ∧ 0 + 2000000 ≤ (lis 2000000).lt) ∧
    ((frm 990000 0).herd.formFrom = some 0 ∧ (frm 990000 0).isSet F.HERD_STAT_FORMING = true ∧ ((frm 990000 0).lt - 0) % 10000 = 0 ∧
      (frm 990000 0).lt < 0 + 1000000 ∧ (frm 990000 0).wrapped false = false ∧ ((frm 990000 0).port false).tx = .idle ∧ (frm 990000 0).herdFull = true) ∧
    (0 + 1000000 ≤ (frm 2000000 1000000).lt ∧ 0 < (frm 2000000 1000000).herd.formMax ∧
      formTarget (frm 2000000 1000000).herd.formMax ≤ (frm 2000000 1000000).lt ∧ (frm 1999999 1000000).lt < formTarget (frm 1999999 1000000).herd.formMax) ∧
    ((snd none).lt % 10000 = 0 ∧ (snd none).herd.sentBnum ≠ some (bnumAt (snd none).lt) ∧ (snd none).isSet F.HERD_STAT_BEACONING = true ∧
      (snd none).herd.takeBnum = none ∧ (snd none).wrapped false = false ∧ ((snd none).port false).tx = .idle ∧ (bnumAt (snd none).lt).toNat % 16 ≠ 0 ∧
      (snd none).herdFull = true ∧ (lis 9999).lt % 10000 ≠ 0) ∧
    ((snd (some 1#32)).herd.takeBnum = some 1#32 ∧ seqLater 1#32 (bnumAt (snd (some 1#32)).lt) = false) ∧
    (rcv.ringTakes false = true ∧ rcv.ringTakes true = true ∧ 3 ≠ rcv.line ∧
      (frameOf 3 true (.beacon (beaconOf 3))).bcast = true ∧ (frameOf 3 true (.beacon (beaconOf 3))).hops < 64) ∧
    (5 = rcv.line ∧ rcv.herdFull = true) ∧
    (own.isFor false (frameOf 3 false (.claim 9#32)) ∧ own.isSet F.HERD_STAT_BEACONING = true ∧
      own.role = 1 ∧ rcv.isFor false (frameOf 3 false (.claim 9#32)) ∧ rcv.isSet F.HERD_STAT_BEACONING = false) ∧
    (own.ringTakes true = true ∧ own.herdFull = true ∧ own.line = 5 ∧
      own.isSet F.HERD_STAT_FORMING = true) ∧
    ((frameOf 3 true (.form 7 1#32 3 1)).bcast = true ∧ rcv.isSet F.HERD_STAT_FORMING = false) ∧
    ((onLine 2 0 HerdSt.start []).ringTakes true = false ∧ (onLine 2 0 HerdSt.start []).role ≠ 3 ∧ alone.role = 3 ∧ alone.dom 1 ≠ 0) := by
  refine ⟨fun b hb a all => Frame.form_seen _ _ _ _ _ ?_, ?_⟩
  · revert b; decide
  · simp only [State.isFor]; (repeat' apply And.intro) <;> decide +kernel

theorem witness_PortsRun :
    let s (n k : Nat) := onLine 2 n HerdSt.start [(portState false, k), (portState true, k)]
    let c := { (s 2207 5) with herd := { HerdSt.start with portB := { PortSt.start with calAt := 1 } } }
    let cal (b : Bool) : Cal := ⟨3, b, 2, 0, 0⟩
    let pulse : Pulse := ⟨0, 0, 1#32, 3, false, 2, true, false, false⟩
    ((s 0 4).portLives = true ∧ (s 0 4).get (portState false) = 4 ∧ (s 0 1).get (portState true) = 1 ∧ (s 0 2).get (portState true) = 2 ∧
      (s 0 3).get (portState true) = 3 ∧ (s 0 5).get (portState true) = 5 ∧ State.reset.portLives = false) ∧
    ((∀ b ∈ [Body.cal (cal true), .cal (cal false), .pulse pulse], (frameOf 3 false b).seen .good = .good) ∧ (cal true).portB = true ∧ (cal false).portB = false) ∧
    (c.portLives = true ∧ c.get (portState true) = 5 ∧ (c.port true).calAt ≠ 0 ∧ (c.port true).calAt + 2208 * 256 ≤ ({ c with lt := 2208 }.portNow + 1) * 256 ∧
      (c.port true).tx = .idle ∧ ((s 0 4).port true).calAt = 0) ∧
    ((s 15000 6).linkRuns true = true ∧ 5000 ≤ (s 15000 6).portNow ∧ 5000 ≤ (s 15000 6).portNow % 10000 ∧
      ((s 15000 6).port true).txStamp < (((s 15000 6).portNow + 5000) / 10000 * 10000 - 5000) * 256 ∧ (s 15000 6).beaconNear true = false ∧
      ((s 15000 6).port true).tx = .idle) ∧
    (onLine 0 19700 HerdSt.start ((F.HERD_STAT_BEACONING, 1) :: up2)).beaconNear true = true ∧
    ((s 30000 6).get (portState true) = 6 ∧ ((s 30000 6).port true).lastPulse + 30000 ≤ (s 30000 6).portNow ∧
      (s 29999 6).portNow < ((s 29999 6).port true).lastPulse + 30000) ∧
    ∃ k, (s 0 k).get (portState true) ≠ 5 ∧ (s 0 k).get (portState true) ≠ 6 := by
  refine ⟨?_, ⟨fun b hb => Frame.form_seen _ _ _ _ _ ?_, ?_, ?_⟩, ?_, ?_, ?_, ?_, 3, ?_⟩
  case refine_2 => revert b; decide
  all_goals decide +kernel

/-- An action request with REQ_ID 7. -/
def req7 : ActReq := ⟨7#32, 0#8, 0#8, 0, 0, 0#32, 0#32⟩

theorem witness_ActionsAndRecordsOnTheLink :
    let s := onLine 2 0 { HerdSt.start with origins := [(3, ⟨[(2, 1)], [(7#32, 4)]⟩)] } up2
    let q (n k : Nat) := { (onLine 2 n { HerdSt.start with reqs := [⟨req7, 3, 9, 0, k, some (1#32, 0)⟩], frames := [⟨1#32, 0, [7#32]⟩] }
      [(F.HERD_CFG_ACK_TO_US, 10), (F.HERD_CFG_RETRIES, 1)]) with ticks := none }
    let v : Rec := ⟨tyVerdict, 0#8, 0#32, 0#32, 0, 0#32, []⟩
    ((∀ b ∈ [Body.action [req7], .ack [(7#32, 0)], .record v 0#32], (frameOf 3 false b).seen .good = .good) ∧ ∀ b, s.isFor false (frameOf 3 false b)) ∧
    ((st [(F.HERD_STAT_ADDR_CONFLICT, 1)]).isSet F.HERD_STAT_ADDR_CONFLICT = true ∧
      s.isSet F.HERD_STAT_ADDR_CONFLICT = false ∧ (s.origin 3).results.find? (fun y => y.1 == req7.reqId) = some (req7.reqId, 4)) ∧
    (s.fseqNew 3 (Body.record v 0#32).cls 1#32 = false ∧ s.fseqNew 3 (Body.record v 0#32).cls 2#32 = true ∧ v.typeOk = true ∧
      s.herd.streams.find? (fun z => z.1 == v.source.toNat * 256 + v.ty) = none ∧ Rec.crc v ≠ Rec.crc v + 1#32) ∧ s.herd.reqs.find? (fun q => q.req.reqId == req7.reqId) = none ∧
    ((q 10000 1).herd.reqs.find? (fun q => q.req.reqId == req7.reqId) = some ⟨req7, 3, 9, 0, 1, some (1#32, 0)⟩ ∧
      0 + (q 10000 1).get F.HERD_CFG_ACK_TO_US * 1000 ≤ (q 10000 1).lt ∧ (q 9999 1).lt < 0 + (q 9999 1).get F.HERD_CFG_ACK_TO_US * 1000 ∧
      (q 0 0).herd.reqs.find? (fun q => q.req.reqId == req7.reqId && q.dest == 3) = some ⟨req7, 3, 9, 0, 0, some (1#32, 0)⟩ ∧
      (q 0 0).herd.reqs.find? (fun q => q.req.reqId == req7.reqId && q.dest == 9) = none ∧ (8 : Nat) < 9 ∧
      (q 10000 1).get F.HERD_CFG_RETRIES ≤ 1 ∧ 0 < (q 10000 0).get F.HERD_CFG_RETRIES) ∧
    ((q 20000 1).herd.frames.find? (fun y => y.fseq == 1#32) = some ⟨1#32, 0, [7#32]⟩ ∧
      0 + 2 * (q 20000 1).get F.HERD_CFG_ACK_TO_US * 1000 ≤ (q 20000 1).lt ∧ (q 19999 1).lt < 0 + 2 * (q 19999 1).get F.HERD_CFG_ACK_TO_US * 1000 ∧
      (q 0 0).herd.frames.find? (fun y => y.fseq == 2#32) = none) := by
  refine ⟨⟨fun b hb => Frame.form_seen _ _ _ _ _ ?_, fun b => ?_⟩, ?_, ?_, ?_, ?_, ?_⟩
  · revert b; decide
  · simp only [State.isFor]; (repeat' apply And.intro) <;> first | rfl | (show (3 : Nat) ≠ 5; decide)
  all_goals decide +kernel

/-- A source that has counted with 100 ns a count, CPC 1,000, from position 0 at LT 0; encoder 0 counts and HUB is on. -/
def sourceOn (n : Nat) (l : List (Fld × Nat)) : State :=
  { (at_ n ([(domFld domHub, 2), (F.CAP_ENC_STAT_COUNTING 0, 1), (F.CAP_ENC_STAT_NO_INDEX 0, 0), (F.CAP_ENC_STAT_STOPPED 0, 0), (F.CAP_ENC_CPC_CPC 0, 1000),
    (F.CAP_ENC_PERIOD_PERIOD 0, 25600)] ++ l)) with
    srcs := [(0, ⟨[⟨10, 1000, false⟩, ⟨0, 0, false⟩], 1000, 25600, false, false, false, 0⟩)] }

theorem witness_SubscriptionsAndLanes :
    let a (n : Nat) := at_ n [(F.HERD_SUB_CFG_AVAILABLE 0, 1)]
    let en := st [(F.HERD_RUC_CFG_EN 0, 1), (domFld domHub, 2)]
    let acts (m o : Nat) := { (st [(F.MOD_STATUS_MODE, m), (F.HERD_RUC_CFG_OUTPUT 0, o)]) with booting := false }
    let ln (l : List Word) (g : Nat) := { (sourceOn 1000 [(F.HERD_RUC_CFG_EN 0, 1), (F.HERD_RUC_CFG_GUARD_US 0, g)]) with
      herd := { HerdSt.start with lanes := [(0, { Lane.start with clears := l, done := some 0#32 })] } }
    ((a 500001).isSet (F.HERD_SUB_CFG_AVAILABLE 0) = true ∧ tabGet (fun _ => 0) (a 500001).herd.anchorAt 0 + 500000 < (a 500001).lt ∧
      (a 500000).lt ≤ tabGet (fun _ => 0) (a 500000).herd.anchorAt 0 + 500000) ∧
    (State.reset.isSet (F.HERD_RUC_CFG_EN 0) = false ∧ (st [(domFld domHub, 1)]).dom 0 ≠ 2) ∧
    (en.isSet (F.HERD_RUC_CFG_EN 0) = true ∧ en.dom 0 = 2 ∧ en.srcAvail (en.get (F.HERD_RUC_CFG_SRC 0)) = false) ∧
    ((ln [1#32] 99).dom 0 = 2 ∧ (ln [1#32] 99).srcAvail ((ln [1#32] 99).get (F.HERD_RUC_CFG_SRC 0)) = true ∧ (ln [1#32] 99).laneNext 0 = some 1#32 ∧
      1#32 ∈ ((ln [1#32] 99).lane 0).clears) ∧
    ((acts mRun 23).tableRuns = true ∧ (acts mRun 23).get (F.HERD_RUC_CFG_OUTPUT 0) < 24 ∧ (acts mFaultHold 24).tableRuns = false) ∧
    (ln [] 98).laneNext 0 = none := by
  (repeat' apply And.intro) <;> decide +kernel

/-! ## The statements' hypotheses are met: channels, cells, captures, timers, actions -/

/-- Channel 0 runs, with what is given, at LT `n`. -/
def chanOn (n : Nat) (x : ChanSt) (l : List (Fld × Nat)) : State := { (at_ n l) with chans := [(0, { x with on := true })] }

theorem witness_ChannelEvents :
    let up := chanOn 100 ChanSt.off [(F.CH_MODE_AR_MODE 0, 1), (F.CH_MODE_MAX_RANGE 0, 7), (F.CH_STAT_RANGE_NOW 0, 6), (F.CH_STAT_BLANKING 0, 0)]
    let qw (n : Nat) := chanOn n ChanSt.off [(F.CH_MODE_AR_MODE 0, 2), (F.CH_MODE_MIN_RANGE 0, 0), (F.CH_STAT_RANGE_NOW 0, 1), (F.CH_AR_QUIET_MS 0, 1)]
    let bl (n : Nat) := chanOn n { ChanSt.off with blankAt := some 0, newRange := 7 } [(F.CH_STAT_BLANKING 0, 1)]
    let sm := chanOn (5120 + 87040) { ChanSt.off with next := 5120 } []
    let bq (r : Nat) (q : Bool) (w : Nat) := chanOn 1000000 { ChanSt.off with blankAt := some 1000000, newRange := r, quiet := q, changeWas := w }
      [(F.CH_MODE_AR_MODE 0, 2), (F.CH_MODE_MIN_RANGE 0, 0), (F.CH_STAT_RANGE_NOW 0, 2), (F.CH_AR_QUIET_MS 0, 1), (F.CH_STAT_BLANKING 0, 1)]
    let sl := chanOn 87040 { ChanSt.off with last := some (0, 3) } []
    let sd := { (sourceOn 1000 [(F.CH_RST_SCHED_EN 0, 1), (F.CH_RST_SCHED_SRC 0, 0), (F.CH_RST_SCHED_EVERY 0, 1)]) with chans := [(0, { ChanSt.off with on := true })] }
    let ml (l : List (Fld × Nat)) := { (at_ 1000000000 l) with mainsEdges := (List.range 51).map (fun i => 20000000 * i), mainsRun := [(0, [(0, 50000), (1000000000, 50000)])] }
    let mc := { (at_ 1000000000 [(F.MAINS_STAT_USING_CH 0, 1), (F.MAINS_CFG_SRC_CH_EN 0, 1)]) with
      chans := [(0, { ChanSt.off with on := true })], mainsRun := [(0, [(0, 50000)])] }
    ((up.chan 0).on = true ∧ up.get (F.CH_MODE_AR_MODE 0) = 1 ∧ up.get (F.CH_STAT_RANGE_NOW 0) < up.get (F.CH_MODE_MAX_RANGE 0) ∧
      up.isSet (F.CH_STAT_BLANKING 0) = false ∧ (up.chan 0).stitch.contains (ceilTo 80 up.lt) = false ∧
      ((chanOn 100 { ChanSt.off with stitch := [160] } []).chan 0).stitch.contains (ceilTo 80 100) = true ∧
      tileWriter 8 0 = true ∧ tileWriter 0 0 = true ∧ tileWriter 1 0 = false ∧ up.inDischarge 0 = false) ∧
    (State.reset.get (F.CH_MODE_AR_MODE 0) = 0 ∧ sd.schedDue 0 0#32 = true ∧ (sd.chan 0).on = true ∧ sd.isSet (F.CH_STAT_BLANKING 0) = false ∧
      sd.inDischarge 0 = false ∧ sd.schedDue 0 5#32 = false ∧ (sd.chan 0).schedDone = none ∧
      { sd with chans := [(0, { ChanSt.off with on := true, schedDone := some 0xFFFFFFFF#32 })] }.schedDue 0 0#32 = true) ∧
    ((bq 1 false 0).get (F.CH_MODE_AR_MODE 0) = 2 ∧ (bq 1 false 0).get (F.CH_MODE_MIN_RANGE 0) < (bq 1 false 0).get (F.CH_STAT_RANGE_NOW 0) ∧
      (bq 1 false 0).isSet (F.CH_STAT_BLANKING 0) = true ∧ ((bq 1 false 0).chan 0).blankAt = some (ceilTo 80 (bq 1 false 0).lt) ∧
      ((bq 1 false 0).chan 0).quiet = false ∧ ((bq 1 false 0).chan 0).changeWas ≤ 0 ∧ 0 + (bq 1 false 0).get (F.CH_AR_QUIET_MS 0) * 1000000 ≤ (bq 1 false 0).lt ∧
      (bq 1 false 0).get (F.CH_MODE_MIN_RANGE 0) < ((bq 1 false 0).chan 0).newRange ∧ within20 ((bq 1 false 0).resetLevel 0 ⟨[], 0⟩) (1 - 1) = true ∧
      ((bq 1 true 0).chan 0).quiet = true ∧ 0 < ((bq 1 false 1).chan 0).changeWas) ∧
    ((qw 1000000).get (F.CH_MODE_AR_MODE 0) = 2 ∧ (qw 1000000).get (F.CH_MODE_MIN_RANGE 0) < (qw 1000000).get (F.CH_STAT_RANGE_NOW 0) ∧
      (qw 1000000).isSet (F.CH_STAT_BLANKING 0) = false ∧ ((qw 1000000).chan 0).lastChange ≤ 0 ∧ (qw 1000000).inDischarge 0 = false ∧
      0 + (qw 1000000).get (F.CH_AR_QUIET_MS 0) * 1000000 ≤ (qw 1000000).lt ∧ (qw 999999).lt < 0 + (qw 999999).get (F.CH_AR_QUIET_MS 0) * 1000000) ∧
    (((bl 160).chan 0).blankAt = some 0 ∧ 0 + 160 ≤ (bl 160).lt ∧ ((bl 160).chan 0).newRange < 8 ∧ (bl 160).isSet (F.CH_STAT_BLANKING 0) = true ∧
      (bl 159).lt < 0 + 160) ∧
    ((State.reset.chan 0).blankAt = none ∧ (State.reset.chan 0).on = false) ∧
    ((sm.chan 0).last = none ∧ (sm.chan 0).on = true ∧ (sm.chan 0).next + latencyNs (sm.chan 0).rate ≤ sm.lt ∧ sm.awaitsLead 0 = false ∧
      sm.windowOk 0 (sm.chan 0).next = true) ∧
    ((sl.chan 0).last = some (0, 3) ∧ (sl.chan 0).on = true ∧ 0 + latencyNs (sl.chan 0).rate ≤ sl.lt) ∧
    (State.reset.mainsSense = false ∧ (st [(F.MAINS_CFG_SRC_CH_EN 0, 1)]).isSet (F.MAINS_CFG_SRC_CH_EN 0) = true ∧ (ml []).mainsSense = true) ∧
    (((ml []).mainsSee 0 7).mainsEstimate 0 = some 50000 ∧ (ml []).isSet (F.MAINS_STAT_LOCKED 0) = false ∧ (ml []).mainsUsable 0 = true ∧
      mainsSteady (ml []).lt (((ml []).mainsSee 0 7).mainsLog 0) = true ∧ (ml []).isSet (F.MAINS_STAT_USING_CH 0) = false) ∧
    ((mc.mainsSee 0 50005).mainsEstimate 0 = some 50005 ∧ mc.mainsUsable 0 = true ∧ mainsSteady mc.lt ((mc.mainsSee 0 50005).mainsLog 0) = true ∧
      mainsSteady mc.lt ((mc.mainsSee 0 50015).mainsLog 0) = false) ∧
    mainsSteady State.reset.lt ((State.reset.mainsSee 0 7).mainsLog 0) = false ∧
    ((st [(F.MAINS_STAT_LOCKED 0, 1)]).isSet (F.MAINS_STAT_LOCKED 0) = true ∧ (State.reset.mainsChan 0 && true) = false ∧ (mc.mainsChan 0 && false) = false ∧
      (st [(F.MAINS_STAT_LOCKED 0, 1)]).mainsSense = false ∧ mc.mainsOut 0 = false ∧ mc.mainsChan 0 = true) ∧
    ((ml [(F.MAINS_STAT_LOCKED 0, 1)]).mainsOut 0 = false ∧ (ml []).mainsSense = true) := by
  (repeat' apply And.intro) <;> decide +kernel

/-- Cell 0 runs, with what is given, at LT `n`. -/
def cellOn (n : Nat) (x : CellSt) (l : List (Fld × Nat)) : State := { (at_ n l) with cells := [(0, { x with running := true })] }

theorem witness_CellEvents :
    let sc := { (at_ 5120 []) with cells := [(0, { CellSt.off with configAt := some 0 })] }
    let sb (n : Nat) := cellOn n CellSt.off [(F.CELL_CFG_LAST_STEP 0, 1), (F.CELL_STEP_DWELL_COUNT 0 0, 1), (F.CELL_STEP_DWELL_EXP 0 0, 0)]
    let sq (p n : Nat) := cellOn n { CellSt.off with phase := p } []
    let off := cellOn 1000000000 { CellSt.off with mons := [(0, { SrcMon.ok with off := some 0 })] } [(F.CELL_EXC_TOL_RETRY_S 0, 1)]
    let ls := cellOn 5120 { CellSt.off with leads := [(0, { LeadSt.none_ with start := true })] } [(F.CELL_LEAD_CFG_WIRING 0 0, 1)]
    let lr (p n : Nat) := cellOn n { CellSt.off with lead := some ⟨0, 0, p, 0, 0, 0⟩ } []
    let m : SrcMon := { SrcMon.ok with confirmed := [3], runs := [(1, 1)] }
    ((sc.cell 0).configAt = some 0 ∧ sc.lt % 5120 = 0 ∧ 0 < sc.lt ∧ (at_ 1 []).lt % 5120 ≠ 0 ∧ (State.reset.cell 0).configAt = none) ∧
    (((sb 5120).cell 0).running = true ∧ ((sb 5120).cell 0).phase = 0 ∧ (sb 5120).get (F.CELL_CFG_LAST_STEP 0) ≠ 0 ∧
      ((sb 5120).cell 0).stepAt + (sb 5120).dwellNs 0 ((sb 5120).stepNow 0) ≤ (sb 5120).lt ∧
      (sb 5119).lt < ((sb 5119).cell 0).stepAt + (sb 5119).dwellNs 0 ((sb 5119).stepNow 0)) ∧
    State.reset.get (F.CELL_CFG_LAST_STEP 0) = 0 ∧
    ((sq 1 20).seqAt 0 1 20 = true ∧ ((sq 1 20).cell 0).disCh = [] ∧ (sq 2 1000).seqAt 0 2 ((sq 2 1000).disNs 0 + 20) = true ∧
      (sq 3 1000).seqAt 0 3 ((sq 3 1000).disNs 0 + 40) = true ∧ (sq 4 1000).seqAt 0 4 ((sq 4 1000).disNs 0 + 60) = true) ∧
    (∀ p ∈ [1, 2, 3, 4], (sq 0 0).seqAt 0 p 20 = false) ∧ (at_ 10240 []).lt % 10240 = 0 ∧ (at_ 5120 []).lt % 10240 ≠ 0 ∧
    (((off.cell 0).mon 0).off = some 0 ∧ off.get (F.CELL_EXC_TOL_RETRY_S 0) ≠ 0 ∧ 0 + off.get (F.CELL_EXC_TOL_RETRY_S 0) * 1000000000 ≤ off.lt) ∧
    State.reset.get (F.CELL_EXC_TOL_RETRY_S 0) = 0 ∧ ((State.reset.cell 0).mon 0).off = none ∧
    ((ls.cell 0).running = true ∧ ls.lt % 5120 = 0 ∧ ls.get (F.CELL_LEAD_CFG_WIRING 0 0) ≠ 0 ∧ ls.leadDue 0 0 0#32 = true ∧ ls.leadAngleCome 0 0 0#32 = true ∧
      ls.leadTurn 0 0 0#32 = true ∧ ls.leadBlocked 0 0 = false ∧ (ls.cell 0).lead = none ∧ (ls.cell 0).lead.all (fun l => l.chan != 0) = true ∧ State.reset.leadDue 0 0 0#32 = false ∧
      { ls with cells := [(0, { CellSt.off with mons := [(1, { SrcMon.ok with off := some 0 })] })] }.leadBlocked 0 0 = true) ∧
    ((lr 0 1024000).leadStep 0 0 1024000 = some ⟨0, 0, 0, 0, 0, 0⟩ ∧ (lr 1 1024040).leadStep 0 1 1024040 = some ⟨0, 0, 1, 0, 0, 0⟩ ∧
      (lr 2 1228800).leadStep 0 2 1228800 = some ⟨0, 0, 2, 0, 0, 0⟩ ∧ (lr 3 2252800).leadStep 0 3 2252800 = some ⟨0, 0, 3, 0, 0, 0⟩ ∧ 0 ≤ 2252800 ∧ 2252800 ≤ (lr 3 2252800).lt ∧
      (lr 4 2252840).leadStep 0 4 2252840 = some ⟨0, 0, 4, 0, 0, 0⟩ ∧ ((lr 0 0).cell 0).lead = some ⟨0, 0, 0, 0, 0, 0⟩ ∧ (State.reset.cell 0).lead = none) ∧
    (((sq 0 10240000).cell 0).running = true ∧ (sq 0 10240000).lt % 10240000 = 0 ∧ ((sq 0 10240000).cell 0).cjFault = false ∧
      ((sq 0 10240000).cell 0).cjBad < 2 ∧ ((cellOn 10240000 { CellSt.off with cjBad := 2 } []).cell 0).cjFault = false ∧
      2 ≤ ((cellOn 10240000 { CellSt.off with cjBad := 2 } []).cell 0).cjBad ∧ (-5120 : Int) ≤ 12800 ∧ (sq 0 10240).lt % 10240000 ≠ 0) ∧
    (m.confirmed.Nodup ∧ m.confirmed.contains 1 = false ∧ m.confirmed.contains 3 = true ∧ tabGet (fun _ => 0) m.runs 1 + 1 < 3 ∧
      2 ≤ tabGet (fun _ => 0) m.runs 1 + 1 ∧ 1 ≤ tabGet (fun _ => 0) m.runs 3 + 1) := by
  (repeat' apply And.intro) <;> decide +kernel

theorem witness_CaptureAndEncoderEvents :
    let g := { (st [(F.CAP_IN_CFG_FILT 0, 10)]) with caps := [(0, { CapUnit.off with on := true })] }
    let x (h : Nat) : CapChange := ⟨0, true, h⟩
    let o (n : Nat) := { (at_ n [(F.CAP_CFG_CLOSE_US, 10)]) with
      caps := [(0, { CapUnit.off with entries := [⟨0, 0, true, false, false, false, false, 0, 0, false⟩] })] }
    let e (n : Nat) := at_ n [(F.CAP_ENC_STAT_COUNTING 0, 1), (F.CAP_ENC_STAT_STOPPED 0, 0), (F.CAP_ENC_CFG_STOP_MS 0, 1)]
    ((x 9999).held < g.filterNs 0 ∧ (g.cap 0).on = true ∧ (x 9999).input.val < 24 ∧ g.filterNs 0 ≤ (x 10000).held) ∧
    State.reset.watch.byAuto = false ∧ ((∀ n, n < 4 → State.reset.isSet (F.CAP_ENC_STAT_COUNTING n) = false) ∧ (State.reset.cap 0).on = false ∧ (State.reset.cap 0).level ≠ (x 0).level ∧
      (State.reset.cap 0).fifo.length < 4) ∧
    (((o 10000).cap 0).entries ≠ [] ∧ ((o 10000).cap 0).openLt + (o 10000).get F.CAP_CFG_CLOSE_US * 1000 ≤ (o 10000).lt ∧
      (o 9999).lt < ((o 9999).cap 0).openLt + (o 9999).get F.CAP_CFG_CLOSE_US * 1000 ∧ (State.reset.cap 0).entries = []) ∧
    ((e 1000000).isSet (F.CAP_ENC_STAT_COUNTING 0) = true ∧ (e 1000000).isSet (F.CAP_ENC_STAT_STOPPED 0) = false ∧
      ((e 1000000).enc 0).lastLt + (e 1000000).get (F.CAP_ENC_CFG_STOP_MS 0) * 1000000 ≤ (e 1000000).lt ∧
      (e 999999).lt < ((e 999999).enc 0).lastLt + (e 999999).get (F.CAP_ENC_CFG_STOP_MS 0) * 1000000) ∧
    (st [(F.CAP_ENC_STAT_STOPPED 0, 1)]).isSet (F.CAP_ENC_STAT_STOPPED 0) = true ∧
    (countOf 2 false false true false = .up true ∧ (2 : Nat) ≠ 4 ∧ countOf 1 false false true true = .error) := by
  (repeat' apply And.intro) <;> decide +kernel

/-- Timer 0 of tile 0 with period 10 and the count given, and with an end or match due. -/
def timerAt (cnt one : Nat) (e m : Bool) : State :=
  { (st [(F.TT_STAT_RUNNING 0 0, 1), (F.TT_CNT_COUNT 0 0, cnt), (F.TT_CFG_ONE_SHOT 0 0, one), (F.TT_CFG_PER_MODE 0 0, one)]) with
    timers := [(0, { Timer.reset with per := 10, endDue := e, matchDue := m })] }

/-- At count 9 of a period of 10: a step of 1 ends it; at count 8 it does not; a step of the whole period is allowed. -/
theorem witness_TimerResults :
    (tileWriter 0 0 = true ∧ tileWriter 8 7 = true ∧ tileWriter 1 0 = false) ∧
    ((timerAt 0 0 false true).timer 0 0).matchDue = true ∧ (((timerAt 0 0 true false).timer 0 0).endDue = true ∧ ((timerAt 0 0 true false).timer 0 0).matchDue = false) ∧
    ((timerAt 9 0 false false).timer 0 0 = { Timer.reset with per := 10 } ∧ (timerAt 9 0 false false).isSet (F.TT_STAT_RUNNING 0 0) = true ∧
      10 ≤ (timerAt 9 0 false false).get (F.TT_CNT_COUNT 0 0) + 1 ∧ (timerAt 8 0 false false).get (F.TT_CNT_COUNT 0 0) + 1 < 10 ∧
      (timerAt 9 0 false false).isSet (F.TT_CFG_ONE_SHOT 0 0) = false ∧ (timerAt 9 1 false false).isSet (F.TT_CFG_ONE_SHOT 0 0) = true) ∧
    (State.reset.isSet (F.TT_STAT_RUNNING 0 0) = false ∧ State.reset.timer 0 0 = { Timer.reset with per := 0 }) ∧
    (cmpPassed 10 9 1 0 = true ∧ cmpPassed 10 9 10 9 = true ∧ cmpPassed 10 8 1 0 = false) := by
  (repeat' apply And.intro) <;> decide +kernel

/-- Entry 0 of the action table with its launch at LT 2,000. -/
def entryAt (n k : Nat) : State := { (at_ n []) with acts := [(0, { ActEntry.free with state := k, est := true, launchLt := 2000 })] }

theorem witness_ActionsAndOutputs :
    let rt (n : Nat) := { (at_ n []) with outs := [(0, { OutSt.idle with retry := some ⟨ActEntry.free, 0⟩, lastEdge := some 0 })] }
    let hi := { st [(F.OUT_LEVEL_LEVEL, 1)] with booting := false }
    let no := st [(F.OUT_FAULT_NO_SUPPLY, 1)]
    ((0 : Fin 9) ≠ 8 ∧ (0x80000000#32).getLsbD 31 = true ∧ (0#32).getLsbD 31 = false ∧
      (st [(F.ACT_ENTER_RES_BUSY 0, 1)]).isSet (F.ACT_ENTER_RES_BUSY 0) = true ∧ State.reset.isSet (F.ACT_ENTER_RES_BUSY 8) = false) ∧
    (((entryAt 0 1).act 0).state = 1 ∧ ((entryAt 0 1).act 0).est = true ∧ ((entryAt 0 1).act 0).launchLt ≤ (entryAt 0 1).lt + 2000 ∧
      (State.reset.act 0).state ≠ 1 ∧ (at_ 0 []).lt + 2000 < { ActEntry.free with launchLt := 2001 }.launchLt) ∧
    (((entryAt 2000 2).act 0).state = 2 ∧ ((entryAt 2000 2).act 0).launchLt ≤ (entryAt 2000 2).lt ∧ (entryAt 1999 2).lt < ((entryAt 1999 2).act 0).launchLt) ∧
    (((rt 100000).outSt 0).retry = some ⟨ActEntry.free, 0⟩ ∧ 0 + 100000 ≤ (rt 100000).lt ∧ (rt 99999).lt < 0 + 100000 ∧
      (State.reset.outSt 0).retry = none) ∧
    ((0 : Fin 24).val < 16 ∧ hi.contact 0 = true ∧ 16 ≤ (16 : Fin 24).val ∧ State.reset.contact 0 = false) ∧
    ((rt 20000).readbackTime 0 = true ∧ false = (rt 20000).bit F.OUT_LEVEL_LEVEL 0 ∧ true ≠ (rt 20000).bit F.OUT_LEVEL_LEVEL 0 ∧
      (rt 20000).bit F.OUT_FAULT_FAULT 0 = false ∧ (rt 20000).noSupply = false ∧ (rt 19999).readbackTime 0 = false) ∧
    (State.reset.noSupply = false ∧ no.noSupply = true) := by
  (repeat' apply And.intro) <;> decide +kernel

/-! ## The statements' hypotheses are met: the churn engine, memory, queues, ladles -/

/-- Tile 0's churn engine with what is given, at LT `n`. -/
def engOn (n : Nat) (x : ChurnSt) (l : List (Fld × Nat)) : State := { (at_ n l) with churn := [(0, { x with on := true })] }

/-- Group 0 of that engine. -/
def grpOn (n : Nat) (g : GroupSt) (l : List (Fld × Nat)) : State := engOn n { ChurnSt.rest with groups := [(0, g)] } l

theorem witness_ChurnEvents :
    let ws : WaitSample := ⟨0, 0#32, 0, false⟩
    let fw (n : Nat) := engOn n { ChurnSt.rest with waiting := [(0, [ws])] } [(F.CHURN_GRP_TIME_WAIT_US 0 0, 10), (F.CHURN_STR_GROUP 0 0, 0)]
    let cw (n : Nat) := grpOn n { GroupSt.rest with waits := [⟨0, [], 0, false⟩] } [(F.CHURN_GRP_TIME_CLOSE_WAIT 0 0, 1)]
    let sl := grpOn 0 { GroupSt.rest with startAt := some 0 } []
    let av := st [(F.CAP_ENC_STAT_NO_INDEX 0, 0), (F.CAP_ENC_STAT_COUNTING 0, 1), (F.CAP_ENC_CFG_TILES 0, 1)]
    let ju (n : Nat) := engOn n { ChurnSt.rest with judge := some ⟨0, 100⟩ } []
    let te := st [(F.CHURN_GRP_CFG_TEACH_CMD_EN 0 0, 1), (F.CHURN_GRP_CFG_EN 0 0, 1), (F.CHURN_STR_FOLD_EN 0 0, 1)]
    let tg := grpOn 0 { GroupSt.rest with teaching := true } []
    let lo := engOn 0 { ChurnSt.rest with lowHeld := [(3071, some 7#32)] } []
    (((fw 0).eng 0).on = true ∧ (State.reset.eng 0).on = false) ∧
    ((fw 10000).foldExpired 0 ((fw 10000).get (F.CHURN_STR_GROUP 0 0)) 0 = true ∧ (fw 10000).waitingOf 0 0 = [ws] ∧ State.reset.waitingOf 0 0 = [] ∧
      (fw 9999).foldExpired 0 ((fw 9999).get (F.CHURN_STR_GROUP 0 0)) 0 = false) ∧
    (((cw 100000).grp 0 0).waits = [⟨0, [], 0, false⟩] ∧ 0 + (cw 100000).get (F.CHURN_GRP_TIME_CLOSE_WAIT 0 0) * 100000 ≤ (cw 100000).lt ∧
      (cw 99999).lt < 0 + (cw 99999).get (F.CHURN_GRP_TIME_CLOSE_WAIT 0 0) * 100000 ∧ (State.reset.grp 0 0).waits = []) ∧
    ((sl.grp 0 0).startAt.isSome = true ∧ sl.srcAvailTo 0 (sl.grpSrc 0 0) = false ∧ (State.reset.grp 0 0).startAt = none ∧
      av.srcAvailTo 0 (av.grpSrc 0 0) = true) ∧
    ((∀ k, k < 4 → State.reset.isSet (F.CHURN_GRP_CFG_EN 0 k) = false ∨ State.reset.grpSrc 0 k ≠ 7) ∧
      (∀ k, k < 4 → (st [(F.CHURN_GRP_CFG_EN 0 0, 1)]).isSet (F.CHURN_GRP_CFG_EN 0 k) = false ∨ (st [(F.CHURN_GRP_CFG_EN 0 0, 1)]).grpSrc 0 k ≠ 7) ∧
      State.reset.openCycles 0 0 (State.reset.srcView 0 (State.reset.grpSrc 0 0)) = []) ∧
    (∀ b, ((grpOn 0 { GroupSt.rest with closed := [⟨0, [], b, 0, 0#8, false⟩], teaching := b } []).grp 0 0).closed = [⟨0, [], b, 0, 0#8, false⟩]) ∧
    (((ju 100).eng 0).judge = some ⟨0, 100⟩ ∧ (⟨0, 100⟩ : Judge).until_ ≤ (ju 100).lt ∧ (ju 99).lt < (⟨0, 100⟩ : Judge).until_ ∧
      (State.reset.eng 0).judge = none) ∧
    (tileWriter 0 0 = true ∧ tileWriter 1 0 = false ∧ te.isSet (F.CHURN_GRP_CFG_TEACH_CMD_EN 0 0) = true ∧ te.isSet (F.CHURN_GRP_CFG_EN 0 0) = true ∧
      State.reset.isSet (F.CHURN_GRP_CFG_TEACH_CMD_EN 0 0) = false ∧ (tg.grp 0 0).teaching = true ∧ (State.reset.grp 0 0).teaching = false) ∧
    (lo.envMay 0 (lo.envGroup 0 (lo.envGet 0 3071)) = true ∧ tabGet (fun _ => none) (lo.eng 0).lowHeld 3071 = some 7#32 ∧
      lo.envMay 0 (lo.envGroup 0 (0#32 ++ 7#32)) = true ∧ (lo.eng 0).judge = none ∧ te.envMay 0 (te.envGroup 0 0x80000000#64) = false) := by
  (repeat' apply And.intro) <;> decide +kernel

theorem witness_ConditionCodes : (1#4) ≠ 0#4 ∧ (15#4) ≠ 0#4 := by decide

theorem witness_IntegerGroupRegisters : (1#4) ≠ 0#4 ∧ (15#4) ≠ 0#4 ∧ (0#4) ≠ 1#4 ∧ (14#4) ≠ 15#4 := by decide

theorem witness_BinsAccumulate :
    (0#32).getLsbD 25 = false ∧ (0#32).getLsbD 27 = false ∧ BinAcc.empty.added = 0 ∧ 0 < { BinAcc.empty with added := 1 }.added ∧ (0x2000000#32).getLsbD 25 = true ∧
      (0x8000000#32).getLsbD 27 = true := by decide

/-- A CORE record of hub stream 0x88 with `n` bytes of payload. -/
def coreRec (n : Nat) : Rec := ⟨tyCore, 0#8, 0x88#32, 0#32, 0, 0#32, List.replicate n 0#8⟩

/-- The shortest and the longest record. -/
theorem witness_RecordBytesSpellTheRecord : ∀ n ∈ [0, 4068], (coreRec n).ty < 256 ∧ (coreRec n).lt < 2 ^ 64 ∧ (coreRec n).length ≤ 4096 ∧ (coreRec n).length % 4 = 0 := by
  intro n h
  simp only [List.mem_cons, List.not_mem_nil, or_false] at h
  obtain rfl | rfl := h <;> refine ⟨by decide, by decide, ?_, ?_⟩ <;> simp only [coreRec, Rec.length, List.length_replicate] <;> decide

theorem witness_PendingGapCountsEveryRecord :
    PendGap.empty.entries.length ≤ 64 ∧ (coreRec 0).isGapMark = false ∧ { coreRec 0 with ty := tyMark }.ty = tyMark ∧ { coreRec 0 with ty := tyGap }.ty = tyGap := by decide

/-- Hub queue 8 (number 56) with a core port that holds, and what is given. -/
def hubQ (x : Queue) (l : List (Fld × Nat)) : State :=
  { (at_ 0 ([(F.Q_CFG_CORE_EN 56, 1), (F.Q_CFG_CORE_HOLD 56, 1), (F.Q_SIZE_SIZE 56, 0x10000), (domFld domHub, 2)] ++ l)) with queues := [(56, x)] }

/-- A record's bytes in tile 0's memory at 0x2000 and a push of them. -/
def pushing : State :=
  ((stage 9 (hubQ Queue.empty [])).setBytes (coreMem 0 0x2000) ({ coreRec 0 with source := 0x300000#32 }).bytes).setQueue 4 { Queue.empty with push := some ⟨0, 0x2000⟩ }

theorem witness_QueueOffersAndEvents :
    let q := hubQ Queue.empty []
    let z : QReset := ⟨causeReset, PendGap.empty⟩
    let r := hubQ { Queue.empty with resetting := some z } []
    let p (h : Nat) := hubQ { Queue.empty with recs := [coreRec 0], cons := [(consCore, ⟨0, h, PendGap.empty⟩)], pop := some ⟨8, 0x10000000, coreRec 0⟩ } []
    let b := pushing.bytes (coreMem 0 0x2000) 24
    let x := (pushing.setQueue 4 Queue.empty).pushRec 4 (pushing.bytes (coreMem 0 0x2000) 28)
    (q.consumers 56 = [(consCore, true)] ∧ ((q.queue 56).consOf consCore).head ≤ (q.queue 56).first ∧ (q.queue 56).pend = none ∧
      (q.queue 56).used + (coreRec 4068).length + qReserve ≤ q.qSize 56 ∧ (coreRec 4068).typeOk = true ∧ (q.queue 56).agrees = true ∧
      (q.queue 56).resetting = none ∧ (q.queue 56).tooMany (coreRec 4068) = false ∧ q.co.moved.contains 56 = false) ∧
    ((r.queue 56).resetting = some z ∧ r.consumers 56 = [(consCore, true)] ∧ (r.queue 56).agrees = true) ∧
    (memOn (stage 9 q) 16 = true ∧ 9 ≤ (stage 9 q).boot.stage ∧ memOn State.reset 0 = false ∧
      ((stage 9 q).lineErr (lineKey 16 ((stage 9 q).scrub 16).next)).single = 0 ∧ ((stage 9 q).lineErr (lineKey 16 ((stage 9 q).scrub 16).next)).double = 0 ∧
      (⟨⟨0, 0⟩, []⟩ : ScrubFind).here.single = 0 ∧ (⟨⟨0, 0⟩, []⟩ : ScrubFind).here.double = 0) ∧
    (State.reset.isSet (F.Q_PUSH_RES_BUSY 4) = false ∧ q.isSet (F.Q_CFG_CORE_EN 56) = true ∧ State.reset.isSet (F.Q_CFG_CORE_EN 56) = false ∧
      (st [(F.Q_PUSH_RES_BUSY 4, 1)]).isSet (F.Q_PUSH_RES_BUSY 4) = true ∧ (State.reset.queue 4).push = none ∧ (5 : Fin 64).val % 6 ≠ 4) ∧
    ((pushing.queue 4).push = some ⟨0, 0x2000⟩ ∧ (pushing.queue 4).resetting = none ∧ pushing.lines = [] ∧ leAt b 2 2 = 28 ∧ lengthOk (leAt b 2 2) = true ∧
      pushAllowed 4 x.ty (leAt b 6 1) x.payload = true ∧ (tabGet (fun _ => ⟨[], 0⟩) pushing.routes x.key : Route).lt ≤ x.lt ∧ x.lt ≤ pushing.lt ∧
      pushing.poisoned (coreMem 0 0x2000) 28 = false) ∧
    (portCore 56 = 8 ∧ portCore 0 ≠ 8 ∧ q.isSet (F.Q_POP_RES_BUSY 56) = false ∧ q.qNext 56 consCore = none ∧ (p 0).qNext 56 consCore = some (coreRec 0) ∧
      (q.queue 56).pop = none) ∧
    (((p 0).queue 56).pop = some ⟨8, 0x10000000, coreRec 0⟩ ∧ (((p 0).queue 56).consOf consCore).agrees = true ∧ (((p 1).queue 56).consOf consCore).agrees = false ∧
      (p 0).lines = [] ∧ (p 1).lines = [] ∧
      (((p 0).setQueue 56 { (p 0).queue 56 with pop := none }).put (F.Q_POP_RES_BUSY 56) 0).qNext 56 consCore = some (coreRec 0)) := by
  (repeat' apply And.intro) <;> decide +kernel

theorem witness_LadleEvents :
    let s := hubQ { Queue.empty with recs := [coreRec 0] } [(F.LAD_D_CTL_EN 32 1, 1), (F.LAD_D_CTL_SRC_Q 32 1, 56)]
    let t := hubQ { Queue.empty with recs := [coreRec 0] } [(F.LAD_D_CTL_EN 32 1, 1), (F.LAD_D_CTL_TRIGGERED 32 1, 1), (F.LAD_D_CTL_SRC 32 1, 1),
      (F.LAD_D_CTL_DST 32 0, 1)]
    let c := { s with ladles := [(32, ⟨0, [], [(1, 1)], []⟩)] }
    let e := { t with ladles := [(32, ⟨0, [(11, PendGap.empty)], [(1, 0)], []⟩)] }
    let o (d : Nat) := { t with ladles := [(32, ⟨0, [(d, PendGap.empty)], [], []⟩)] }
    (s.ladleOn 32 = true ∧ s.descTurn 32 = some 1 ∧ State.reset.ladleOn 32 = false ∧ State.reset.descTurn 32 ≠ some 1) ∧
    (tileWriter 0 (3 / 4) = true ∧ tileWriter 1 0 = false ∧ t.isSet (F.LAD_D_CTL_EN 32 1) = true ∧ t.isSet (F.LAD_D_CTL_TRIGGERED 32 1) = true ∧
      State.reset.isSet (F.LAD_D_CTL_TRIGGERED 32 1) = false ∧ t.runLeft 32 1 = none ∧ e.runLeft 32 1 = some 0 ∧ e.bit (F.LAD_STAT_PENDING 32) 1 = false) ∧
    (c.runLeft 32 1 = some 1 ∧ 0 < c.srcCount 32 1) ∧
    (t.ladPend 32 11 = none ∧ e.ladPend 32 11 = some PendGap.empty ∧ e.ladFlush 32 0 11 [] = none ∧ ((o dRaw).ladFlush 32 0 dRaw []).isSome = true ∧
      (o dRaw).ladPend 32 dRaw = some PendGap.empty ∧ dRaw ≠ dCtrl ∧ ((o dCtrl).ladFlush 32 0 dCtrl []).isSome = true) ∧
    (t.ringSource 32 1 = true ∧ t.ringDest 32 0 = true ∧ State.reset.ringSource 32 1 = false ∧ State.reset.ringDest 32 0 = false) := by
  (repeat' apply And.intro) <;> decide +kernel

/-! ## The statements' hypotheses are met: the key, reload, tile restarts, the mode, two-wire ports -/

/-- The smallest key image: one word of HUB_REGS and one of vat code. -/
def smallImage : List Byte :=
  leBytes 4 0x4B524A47 ++ leBytes 2 1 ++ leBytes 2 0x128 ++ leBytes 4 256 ++ leBytes 2 2 ++ leBytes 2 0 ++ leBytes 4 0x10F00000 ++ List.replicate 108 0#8 ++
  leBytes 4 0x00FF01 ++ leBytes 4 160 ++ leBytes 4 12 ++ leBytes 4 0 ++ leBytes 4 0x00FF04 ++ leBytes 4 172 ++ leBytes 4 8 ++ leBytes 4 0 ++
  leBytes 4 R.PWR_CFG ++ leBytes 4 1 ++ leBytes 4 10 ++ leBytes 4 0x10000000 ++ leBytes 4 0 ++ List.replicate 76 0#8

/-- A key image that breaks no rule: `smallImage` with a place of 8 KB for each hub queue. -/
def goodImage : List Byte :=
  leBytes 4 0x4B524A47 ++ leBytes 2 1 ++ leBytes 2 0x128 ++ leBytes 4 512 ++ leBytes 2 2 ++ leBytes 2 0 ++ leBytes 4 0x10F00000 ++ List.replicate 108 0#8 ++
  leBytes 4 0x00FF01 ++ leBytes 4 160 ++ leBytes 4 268 ++ leBytes 4 0 ++ leBytes 4 0x00FF04 ++ leBytes 4 428 ++ leBytes 4 8 ++ leBytes 4 0 ++
  leBytes 4 R.PWR_CFG ++ leBytes 4 1 ++ leBytes 4 10 ++
  (List.range 16).flatMap (fun n => leBytes 4 (R.Q_BASE (48 + n)) ++ leBytes 4 2 ++ leBytes 4 (0x10100000 + 8192 * n) ++ leBytes 4 8192) ++
  leBytes 4 0x10000000 ++ leBytes 4 0 ++ List.replicate 76 0#8

/-- The key port at a job, at LT `n`. -/
def keyAt (n : Nat) (k : KeySt) (l : List (Fld × Nat)) : State := { (at_ n l) with key := k }

theorem witness_KeyReadsAndChecks :
    let k (j : Nat) := keyAt 5000000 { KeySt.start with job := j, img := goodImage, vcc := true } [(F.KEY_STAT_PRESENT, 1)]
    let g (img : List Byte) := keyAt 0 { KeySt.start with job := 4, img := img, staging := true } [(F.KEY_STORE_BASE, 0x10F00000)]
    let r := at_ 0 [(F.MOD_STATUS_RECIPE, 1), (F.KEY_STAT_STATE, ksIdle)]
    let n := at_ 0 [(F.KEY_STAT_STATE, ksRefused)]
    let h (p rcp : Nat) := at_ 0 [(F.KEY_STAT_STATE, ksHung), (F.KEY_STAT_PRESENT, p), (F.MOD_STATUS_RECIPE, rcp)]
    let cyc := { r with key := { KeySt.start with cycle := some (0, false) } }
    let busy := { r with pwr := { PwrSt.rest with asks := [(3, 1)], agreedAt := some 0 } }
    let ac (a j : Nat) := keyAt 0 { KeySt.start with job := j } [(F.KEY_CFG_AUTO_CYCLE, a), (F.KEY_STAT_STATE, ksReading)]
    ((stage 10 State.reset).boot.stage = 10 ∧ State.reset.boot.stage ≠ 10) ∧
    ((k 0).isSet F.KEY_STAT_PRESENT = true ∧ r.isSet F.KEY_STAT_PRESENT = false ∧ r.isSet F.MOD_STATUS_RECIPE = true ∧ r.get F.KEY_STAT_STATE = ksIdle ∧
      r.get F.KEY_STAT_STATE ≠ ksHung ∧ r.get F.KEY_STAT_STATE ≠ ksCycling ∧ r.get F.KEY_STAT_STATE ≠ ksRefused) ∧
    (n.isSet F.KEY_STAT_PRESENT = false ∧ n.isSet F.MOD_STATUS_RECIPE = false ∧ n.get F.KEY_STAT_STATE = ksRefused ∧ n.key.job = 0 ∧
      n.cond mFaultHold = false) ∧
    ((h 0 1).isSet F.KEY_STAT_PRESENT = false ∧ (h 0 1).isSet F.MOD_STATUS_RECIPE = true ∧ (h 0 1).get F.KEY_STAT_STATE = ksHung ∧ (h 0 1).co.phase = 0 ∧
      (h 1 0).isSet F.KEY_STAT_PRESENT = true ∧ (h 1 0).get F.KEY_STAT_STATE = ksHung ∧ (h 1 0).key.job = 0) ∧
    ((k 1).key.job = 1 ∧ (k 1).key.cycle = none ∧ (k 1).key.at_ + 5000000 ≤ (k 1).lt ∧ { k 1 with lt := 4999999 }.lt < { k 1 with lt := 4999999 }.key.at_ + 5000000) ∧
    ((k 2).key.job = 2 ∧ (k 2).key.cycle = none ∧ (k 2).key.tries < 2 ∧ 2 ≤ { (k 2).key with tries := 2 }.tries) ∧
    ((k 3).key.job = 3 ∧ (k 3).trustRefuse (k 3).key.img = none ∧
      { k 3 with regs := (st [(F.COM_USED_TRUST_SET, 1)]).regs }.trustRefuse (k 3).key.img = some (rcUnsigned, 0xFF, 14)) ∧
    ((k 4).key.job = 4 ∧ (k 4).checkRefuse false (k 4).key.img = none ∧ (k 4).key.staging = false ∧ (k 4).checkRefuse false [] ≠ none ∧
      (k 4).checkRefuse (k 4).key.staging [] ≠ none) ∧
    ((g goodImage).key.job = 4 ∧ (g goodImage).checkRefuse true (g goodImage).key.img = none ∧ (g goodImage).key.staging = true) ∧
    (r.key.job = 0 ∧ r.key.job ≠ 2 ∧ r.key.job ≠ 3 ∧ r.key.job ≠ 4 ∧ r.co.phase = 0 ∧ r.key.cycle = none ∧ cyc.key.cycle ≠ none ∧ (8 : Fin 9).val = 8 ∧
      (0 : Fin 9).val ≠ 8) ∧
    ((k 0).key.vcc = true ∧ (k 0).key.cycle = none ∧ (k 0).get F.KEY_STAT_STATE ≠ ksHung ∧ r.key.vcc = false) ∧
    (r.domAgreed 3 = false ∧ (h 0 1).domAgreed 3 = false ∧ busy.domAgreed 3 = true ∧ busy.isSet F.KEY_STAT_PRESENT = false ∧ busy.isSet F.MOD_STATUS_RECIPE = true ∧
      busy.get F.KEY_STAT_STATE = ksIdle ∧ { r with co := { CoSt.rest with phase := 5 } }.co.phase ≠ 0) ∧
    ((g goodImage).key.tile = none ∧ (k 2).key.tile = none) ∧
    ((ac 1 0).isSet F.KEY_CFG_AUTO_CYCLE = true ∧ (ac 1 0).get F.KEY_STAT_STATE ≠ ksHung ∧ (ac 1 0).key.cycle = none ∧
      (ac 0 3).isSet F.KEY_CFG_AUTO_CYCLE = false ∧ (ac 0 3).key.hung = false ∧ (ac 0 3).key.job ≠ 1 ∧ (ac 0 3).key.job ≠ 2) ∧
    ([0#8] ++ [0#8]).length < KeySt.start.head ([0#8] ++ [0#8]) := by
  (repeat' apply And.intro) <;> decide +kernel

/-- A reload or changeover in a phase, with a staged image, in mode RUN, at LT `n`. -/
def coAt (p n : Nat) (l : List (Fld × Nat)) : State :=
  { (keyAt n { KeySt.start with staged := some 256 } ((F.MOD_STATUS_MODE, mRun) :: (F.KEY_STORE_BASE, 0x10F00000) :: l)) with co := { CoSt.rest with phase := p } }

/-- Tile 0 in a phase of its reload or restart. -/
def tileAt (p : Nat) (failed : Bool) (s : State) : State := { s with tiles := [(0, { TileRun.rest with phase := p, failed := failed })] }

theorem witness_ReloadAndChangeover :
    let todo := coAt 5 500000000 [(F.MOD_CO_TODO, 1), (domFld 4, 2)]
    let full : List (Nat × Queue) := [(0, { Queue.empty with opens := [(0, ⟨0, 0, false, 0, 0, [], false⟩)] })]
    let drain (n : Nat) := { (coAt 2 n []) with queues := full }
    let mv (n : Nat) := { (coAt 4 n [(F.Q_CFG_CORE_EN 56, 1), (F.Q_CFG_CORE_HOLD 56, 1)]) with co := { CoSt.rest with phase := 4, moved := [56] }, queues := [(56, { Queue.empty with recs := [coreRec 0], cons := [(consCore, ⟨0, 0, PendGap.empty⟩)] })] }
    let busy := { (tileAt 4 false (coAt 5 499999999 [(domFld 4, 2)])) with queues := full }
    let bank := (coAt 0 0 []).setBytes ((coAt 0 0 []).bankAt 1) smallImage
    let img (t : Nat) : List Byte := smallImage.take 128 ++ leBytes 4 (2 + 256 * t) ++ smallImage.drop 132
    let app (l : List Byte) := { (tileAt 5 false todo) with co := { todo.co with img := l } }
    (∀ j ∈ [5, 6, 0], ({ KeySt.start with job := j }).job = j) ∧ State.reset.cond mCommission = false ∧ (inCond mCommission State.reset).cond mCommission = true ∧
    (∀ p ∈ [0, 1, 2, 3, 4, 5, 6, 7], (coAt p 0 []).co.phase = p) ∧
    ((coAt 2 100000000 []).co.at_ + 100000000 ≤ (coAt 2 100000000 []).lt ∧ (∀ u, u < 8 → (coAt 2 0 []).tileDrained u = true)) ∧
    ((drain 99999999).co.phase = 2 ∧ (drain 99999999).lt < (drain 99999999).co.at_ + 100000000 ∧ (drain 99999999).tileDrained 0 = false) ∧
    (bank.coMode = true ∧ bank.co.phase = 0 ∧ bank.key.staged.isSome = true ∧ sameImage bank.runningImage bank.stagedImage = false) ∧
    (State.reset.coMode = false ∧ State.reset.key.staged = none ∧ (coAt 7 0 []).coMode = true ∧ (coAt 7 0 []).key.staged.isSome = true) ∧
    (todo.coTurn = some 0 ∧ (todo.tileRun 0).phase < 4 ∧ (todo.tileRun 0).failed = false ∧ todo.bit F.MOD_CO_TODO 0 = true ∧ State.reset.coTurn ≠ some 0) ∧
    (((tileAt 4 false todo).tileRun 0).phase = 4 ∧ ((tileAt 4 false todo).tileRun 0).at_ + 500000000 ≤ (tileAt 4 false todo).lt) ∧
    ((busy.tileRun 0).phase = 4 ∧ busy.lt < (busy.tileRun 0).at_ + 500000000 ∧ busy.tileDrained 0 = false ∧ busy.domIsOn (domTile 0) = true) ∧
    (((app []).tileRun 0).phase = 5 ∧ (app []).co.phase = 5 ∧ hasTile (app []).co.img 0 = false ∧ (app []).lines = [] ∧ (app []).key.tile ≠ some 0) ∧
    (hasTile (app (img 0)).co.img 0 = true ∧
      (app (img 0)).sectsBad ((app (img 0)).bankAt (1 - (app (img 0)).get F.KEY_STAT_BANK))
        ((app (img 0)).bytes ((app (img 0)).bankAt (1 - (app (img 0)).get F.KEY_STAT_BANK)) (app (img 0)).co.img.length) 0 = []) ∧
    ((mv 100000000).co.phase = 4 ∧ (mv 100000000).co.at_ + 100000000 ≤ (mv 100000000).lt ∧ (mv 99999999).lt < (mv 99999999).co.at_ + 100000000 ∧
      (∃ q ∈ (mv 99999999).co.moved, (mv 99999999).drained q = false) ∧ ∀ q ∈ (coAt 4 0 []).co.moved, (coAt 4 0 []).drained q = true) ∧
    (todo.pwr.run = 0 ∧ { todo with pwr := { PwrSt.rest with run := 1 } }.pwr.run ≠ 0) ∧
    (((coAt 7 0 []).put F.MOD_STATUS_MODE mService).co.phase = 7 ∧ ((coAt 7 0 []).put F.MOD_STATUS_MODE mService).coMode = false ∧
      { coAt 7 0 [] with key := KeySt.start }.key.staged = none) ∧
    (todo.co.oldTiles.contains 0 = false ∧ { todo with co := { todo.co with oldTiles := [0] } }.co.oldTiles.contains 0 = true) ∧
    (((tileAt 6 false todo).tileRun 0).phase = 6 ∧ ((tileAt 0 true todo).tileRun 0).failed = true ∧ ((tileAt 0 true todo).tileRun 0).phase = 0) := by
  (repeat' apply And.intro) <;> decide +kernel

theorem witness_RestartsAndWatch :
    let d (n : Nat) := tileAt 1 false { (at_ n []) with queues := [(0, { Queue.empty with opens := [(0, ⟨0, 0, false, 0, 0, [], false⟩)] })] }
    let a (p : Nat) := tileAt 2 false (keyAt 0 KeySt.start [(domFld 4, 2), (F.KEY_IMAGE_IMAGE_LEN, 256), (F.KEY_STORE_BASE, 0x10F00000), (F.KEY_STAT_PRESENT, p),
      (F.KEY_STAT_STATE, ksIdle)])
    let bad (p : Nat) := (a p).setBytes ((a p).bankAt 0) (smallImage.take 128 ++ leBytes 4 2 ++ leBytes 4 160 ++ leBytes 4 12 ++ leBytes 4 1)
    let bads (s : State) := s.sectsBad (s.bankAt (s.restartImage 0).1) (s.bytes (s.bankAt (s.restartImage 0).1) (s.restartImage 0).2) 0
    let b (k : Nat) := tileAt 3 false (at_ 0 [(domFld 4, 2), (domFld 12, 2), (F.MOD_TILE_STATE 0, k)])
    let w := inCond mWatch State.reset
    let u (n : Nat) (o : Option Nat) := { (at_ n [(F.MOD_CFG_AUTO_WATCH, 1), (F.MOD_STATUS_RECIPE, 1), (F.MOD_CFG_WATCH_S, 1)]) with watch := { WatchSt.rest with away := o } }
    let near := { (u 0 (some 0)) with regs := (st [(F.MOD_CFG_AUTO_WATCH, 1), (F.MOD_STATUS_RECIPE, 1), (F.CAP_ENC_STAT_COUNTING 0, 1),
      (F.CAP_ENC_STAT_NO_INDEX 0, 0), (F.CAP_ENC_STAT_STOPPED 0, 0)]).regs }
    let re := { w with watch := { WatchSt.rest with retryAt := some 1 } }
    (((d 20000000).tileRun 0).phase = 1 ∧ ((d 20000000).tileRun 0).at_ + 20000000 ≤ (d 20000000).lt ∧ (d 19999999).lt < ((d 19999999).tileRun 0).at_ + 20000000 ∧
      (d 19999999).tileDrained 0 = false) ∧
    (((a 0).tileRun 0).phase = 2 ∧ (a 0).dom (domTile 0) ≠ domOff ∧ (a 0).lines = [] ∧ (a 0).key.tile ≠ some 0 ∧ bads (a 0) = [] ∧
      { (a 0) with key := { KeySt.start with tile := some 0 } }.key.tile = some 0) ∧
    ((bad 0).isSet F.KEY_STAT_PRESENT = false ∧ bads (bad 0) ≠ [] ∧ (bad 1).isSet F.KEY_STAT_PRESENT = true ∧ bads (bad 1) ≠ [] ∧ (bad 1).key.job = 0 ∧
      (bad 1).key.cycle = none ∧ (bad 1).domAgreed 3 = false ∧ (bad 1).get F.KEY_STAT_STATE ≠ ksHung) ∧
    (State.reset.get (F.FLT_TILE_LAST_CAUSE 0) ≠ tcLimit ∧ w.watch.byVat = false) ∧
    ({ near with watch := { WatchSt.rest with byAuto := true } }.watch.byAuto = true ∧ { near with watch := { WatchSt.rest with byAuto := true } }.watchSrcAway = false ∧
      (u 0 none).watch.byAuto = false ∧ (u 0 none).watchNote.watchBack.watch.away = some 0 ∧ near.watchNote.watchBack.watch.away = none ∧
      { w with watch := { WatchSt.rest with byVat := true } }.cond mWatch = true) ∧
    ((a 0).get F.KEY_STORE_BASE ≤ 0x10000000 + 64 * 0x3C000 ∧ 0x10000000 + 64 * 0x3FFFF < (a 0).get F.KEY_STORE_BASE + 0x100000 ∧
      0x10000000 + 64 * 0x3BFFF < (a 0).get F.KEY_STORE_BASE) ∧
    (((b 1).tileRun 0).phase = 3 ∧ (b 1).domIsOn (domTile 0) = true ∧ (b 1).dom (domAfe 0) = domOn ∧ (b 1).tileState 0 ≠ 2 ∧ (b 2).tileState 0 = 2) ∧
    ((b 1).tileRun 0).phase ≠ 1 ∧ ((b 1).tileRun 0).phase ≠ 2 ∧ (State.reset.tileRun 0).phase ≠ 3 ∧
    (w.cond mWatch = true ∧ State.reset.cond mWatch = false ∧ State.reset.watch.byVat = false ∧ State.reset.watch.byAuto = false) ∧
    ((u 0 none).isSet F.MOD_CFG_AUTO_WATCH = true ∧ (u 0 none).isSet F.MOD_STATUS_RECIPE = true ∧ (u 0 none).watchSrcAway = true ∧ (u 0 none).watch.away = none) ∧
    ((u 1000000000 (some 0)).watch.away = some 0 ∧ 0 + (u 1000000000 (some 0)).get F.MOD_CFG_WATCH_S * 1000000000 ≤ (u 1000000000 (some 0)).lt) ∧
    (near.isSet F.MOD_CFG_AUTO_WATCH = true ∧ near.isSet F.MOD_STATUS_RECIPE = true ∧ near.watchSrcAway = false) ∧
    (State.reset.isSet F.MOD_CFG_AUTO_WATCH = false ∧ re.watch.retryAt = some 1 ∧ re.cond mWatch = true ∧ 1 ≤ { re with lt := 1 }.lt ∧ re.lt < 1 ∧
      State.reset.watch.retryAt = none) := by
  (repeat' apply And.intro) <;> decide +kernel

theorem witness_ModePrecedence :
    State.reset.booting = true ∧ { inCond mFaultHold State.reset with booting := false }.cond mFaultHold = true ∧
    (∀ c ∈ modeOrder, { inCond c State.reset with booting := false }.cond c = true ∧
      ∀ d ∈ modeOrder.takeWhile (· ≠ c), { inCond c State.reset with booting := false }.cond d = false) ∧
    (∀ d ∈ modeOrder, { State.reset with booting := false }.cond d = false) ∧ State.reset.modeDue = State.reset.mode ∧
    (∀ d, 2 ≤ d → d ≤ 11 → { State.reset with booting := false }.cond d = false) ∧
    (∀ c ∈ [mChangeover, mHoldover, mDegraded, mWatch, mRun, mKeyLoad, mFactory, mService, mFaultHold, mCommission],
      { inCond c State.reset with booting := false }.modeDue = c ∧ { inCond c State.reset with booting := false }.modeDue ≠ { inCond c State.reset with booting := false }.mode ∧
        2 ≤ c ∧ c ≤ 11) ∧ (inCond mRun State.reset).isSet F.LOG_CFG_REC_EN = false := by
  (repeat' apply And.intro) <;> decide +kernel

/-- Two-wire port 0 in a state, with its supply's state, at LT `n`. -/
def twIn (k n : Nat) (x : TwSt) : State := { (at_ n [(F.TW_STAT_STATE 0 , k), (F.TW_CFG_STARTUP_MS 0, 1)]) with tws := [(0, x)] }

theorem witness_TwoWirePorts :
    let cy (n : Nat) (b a : Bool) := twIn twCycling n { TwSt.off with supplyBack := b, auto := a }
    let kc (n : Nat) (v : Bool) := keyAt n { KeySt.start with vcc := v, cycle := some (0, true) } []
    let one := puts (twIn twBusy 0 { TwSt.off with supply := true }) [(F.TW_XFER_ADDR 0 0, 0x50), (F.TW_XFER_WLEN 0 0, 1), (F.TW_XFER_RLEN 0 0, 254)]
    let sr (n : Nat) := twIn twIsOff n { TwSt.off with starting := true }
    (∀ k ∈ [twIdle, twBusy, twHung, twIsOff, twCycling], (twIn k 0 TwSt.off).get (F.TW_STAT_STATE 0) = k) ∧
    ((0x20#32).getLsbD 6 = false ∧ (0x40#32).getLsbD 5 = false ∧ (0x60#32).getLsbD 5 = true ∧ (0x60#32).getLsbD 6 = true ∧ (8 : Fin 9).val = 8 ∧
      (7 : Fin 9).val ≠ 8 ∧ (7 : Fin 9).val < 8) ∧
    (st [(F.TW_CFG_SUP_EN 0, 0)]).isSet (F.TW_CFG_SUP_EN 0) = false ∧
    ((st [(F.TW_CFG_SUP_EN 0, 1)]).isSet (F.TW_CFG_SUP_EN 0) = true ∧ twIdle ≠ twCycling ∧ twHung ≠ twCycling) ∧
    (one.get (F.TW_STAT_STATE 0) = twBusy ∧ one.twBad 0 0 = false ∧ one.get (F.TW_CTL_LAST 0) ≤ one.get (F.TW_STAT_CUR 0) ∧
      one.get (F.TW_XFER_WLEN 0 0) + one.get (F.TW_XFER_RLEN 0 0) < 256 ∧ (255 : Fin 257).val < 256) ∧
    (((twIn twIdle 0 { TwSt.off with supply := true }).tw 0).supply = true ∧ ((twIn twIdle 0 TwSt.off).tw 0).supply = false) ∧
    ((keyAt 0 { KeySt.start with vcc := true } []).key.vcc = true ∧ State.reset.key.vcc = false) ∧
    (((cy 20000000 false false).tw 0).supplyBack = false ∧ ((cy 20000000 false false).tw 0).at_ + 20000000 ≤ (cy 20000000 false false).lt ∧
      (cy 19999999 false false).lt < ((cy 19999999 false false).tw 0).at_ + 20000000) ∧
    (((cy 21000000 true false).tw 0).supplyBack = true ∧ ((cy 21000000 true false).tw 0).auto = false ∧
      ((cy 21000000 true false).tw 0).at_ + 20000000 + (cy 21000000 true false).get (F.TW_CFG_STARTUP_MS 0) * 1000000 ≤ (cy 21000000 true false).lt) ∧
    ((kc 20000000 false).key.cycle = some (0, true) ∧ 0 + 20000000 ≤ (kc 20000000 false).lt ∧ (kc 25000000 true).key.vcc = true ∧
      0 + 25000000 ≤ (kc 25000000 true).lt ∧ State.reset.key.cycle = none) ∧
    (((sr 1000000).tw 0).starting = true ∧ ((sr 1000000).tw 0).at_ + (sr 1000000).get (F.TW_CFG_STARTUP_MS 0) * 1000000 ≤ (sr 1000000).lt ∧
      (State.reset.tw 0).starting = false) := by
  (repeat' apply And.intro) <;> decide +kernel

/-! ## The statements' hypotheses are met: the host link, log, service port, registers, invariants -/

/-- The host link is up, with what is given, at LT `n`. -/
def hostOn (n : Nat) (h : HostSt) (l : List (Fld × Nat)) : State :=
  { (at_ n ([(domFld domHost, 2), (F.LT_CLK_STAT_PLL_LOCK, 1), (F.HOST_STAT_SPEED, 2), (F.HOST_STAT_ADDR_OK, 1)] ++ l)) with host := h }

theorem witness_EthernetAndArp :
    let s := hostOn 0 HostSt.start []
    let d := hostOn 0 HostSt.start [(F.HOST_STAT_ADDR_OK, 0)]
    let good : HostFrame := ⟨64, false, true, false, false, false⟩
    let own : ArpPacket := ⟨good, true, 0, Config.mac.toNat, 0⟩
    let other : ArpPacket := ⟨good, true, 0, Config.mac.toNat + 1, 0⟩
    let asks : ArpPacket := ⟨good, true, 9, 0, 0⟩
    let c (n : Nat) (f : Option Nat) := hostOn n { HostSt.start with defendAt := f, claimAt := 0, arp := [⟨9, 1, 0, 40000000001⟩] } [(F.HOST_STAT_ADDR_CONFLICT, 1)]
    (s.domIsOn domHost = true ∧ s.isSet F.LT_CLK_STAT_PLL_LOCK = true ∧ State.reset.domIsOn domHost = false ∧
      { s with booting := false }.domIsOn domHost = true ∧ { s with booting := false }.booting = false ∧ s.booting = true) ∧
    (s.get F.HOST_STAT_SPEED ≠ 1 ∧ s.get F.HOST_STAT_SPEED = 2 ∧ s.hostTalks = true ∧ s.hostHears = true ∧ State.reset.hostHears = false) ∧
    (frameSound good = true ∧ packetSound good = true ∧ (∀ h ∈ [{ good with fcs := false }, { good with tagged := true }, { good with bytes := 1519 }], frameSound h = false) ∧
      packetSound { good with fragment := true } = false ∧ IpKind.tcp ≠ .echoRequest) ∧
    (d.hostHears = true ∧ d.isSet F.HOST_STAT_ADDR_OK = false ∧ s.isSet F.HOST_STAT_ADDR_CONFLICT = false) ∧
    (own.senderIp = (s.rd R.HOST_IP).toNat ∧ own.senderMac = s.ownMac) ∧ other.senderMac ≠ s.ownMac ∧
    (asks.senderIp ≠ (s.rd R.HOST_IP).toNat ∧ asks.targetIp = (s.rd R.HOST_IP).toNat) ∧
    ((c 0 none).isSet F.HOST_STAT_ADDR_CONFLICT = true ∧ (c 0 none).hostTalks = true ∧ (c 0 (some 0)).host.defendAt = some 0 ∧ (c 0 none).host.defendAt = none) ∧
    ((c 100000000001 none).host.arp[(0 : Fin 8).val]? = some ⟨9, 1, 0, 40000000001⟩ ∧ 40000000001 + 60000000000 ≤ (c 100000000001 none).lt ∧
      (c 20000000000 none).lt < 40000000001 + 60000000000 ∧ 0 + 20000000000 ≤ (c 20000000000 none).lt ∧ s.host.arp[(0 : Fin 8).val]? = none) ∧
    (1472 < (List.replicate 1473 0#8).length ∧ (List.replicate 1472 0#8).length ≤ 1472) := by
  refine ⟨?_, ?_, ?_, ?_, ⟨?_, rfl⟩, ?_, ?_, ?_, ?_, ?_⟩
  case refine_6 => exact Nat.succ_ne_self _
  case refine_10 => simp only [List.length_replicate]; decide
  all_goals decide

/-- A good datagram from the host at address 1, port 2, with SESSION 0. -/
def dgIn : Dgram := ⟨⟨100, false, true, false, false, false⟩, 40128, true, 1, 2, 3, 0#32, true⟩
/-- With a session in a state with that host. -/
def sess (k n : Nat) (h : HostSt) (l : List (Fld × Nat)) : State := (hostOn n h ([(F.HOST_STAT_SESSION, k), (F.HOST_PEER_PORT, 2)] ++ l)).wr R.HOST_PEER_IP 1#32

theorem witness_SessionsAndRequests :
    let n := hostOn 0 HostSt.start []
    let o := sess ssOpen 0 HostSt.start [(F.MOD_STATUS_MODE, mRun)]
    let r := sess ssIdle 0 HostSt.start [(F.MOD_STATUS_MODE, mFactory)]
    let far : Dgram := { dgIn with ip := 7 }
    let log := State.reset.logWrite kUser noEvent 0#32 0#32 0#32
    let long : Rec := coreRec 1421
    (n.hostTalks = true ∧ n.hostHears = true ∧ State.reset.hostHears = false ∧ frameSound dgIn.frame = true ∧
      frameSound { dgIn with frame := { dgIn.frame with fcs := false } }.frame = false ∧ packetSound { dgIn.frame with options := true } = false ∧
      { dgIn with toPort := 7 }.toPort ≠ 40128 ∧ { dgIn with sum := false }.sum = false ∧ { dgIn with good := false }.good = false) ∧
    (n.takes dgIn ∧ o.takes dgIn ∧ o.takes far ∧ r.takes dgIn ∧ r.takes far) ∧
    (n.get F.HOST_STAT_SESSION = ssNone ∧ o.get F.HOST_STAT_SESSION = ssOpen ∧ o.get F.HOST_STAT_SESSION ≠ ssNone ∧ r.get F.HOST_STAT_SESSION = ssIdle ∧
      r.get F.HOST_STAT_SESSION ≠ ssOpen) ∧
    (o.isPeer dgIn = true ∧ o.isPeer far = false ∧ r.isPeer far = false ∧ 0#32 = o.rd R.HOST_SESSION ∧ 1#32 ≠ o.rd R.HOST_SESSION) ∧
    (o.ofSession dgIn = true ∧ o.ofSession far = false ∧ o.mode ≠ mPowerUp ∧ o.mode ≠ mFactory ∧ r.mode = mFactory ∧ r.ofSession dgIn = true) ∧
    (State.reset.lines = [] ∧ State.reset.logFirst 0#32 = none ∧ (log.logFirst 0#32).isSome = true ∧ (0#32) ≠ 1#32 ∧ (40#32).toNat ≤ 40 ∧ 40 < (41#32).toNat) ∧
    (State.reset.host.health = none ∧ { HostSt.start with health := some long }.health = some long ∧ 1448 < long.length ∧ (coreRec 1420).length ≤ 1448 ∧
      (3#8) ≠ 2#8 ∧ n.host.answers.find? (fun y => y.1 == 0#32 && y.2.1 == 3) = none ∧
      { n.host with answers := [(0#32, 3, 1)] }.answers.find? (fun y => y.1 == 0#32 && y.2.1 == 3) = some (0#32, 3, 1)) := by
  simp only [State.takes]; (repeat' apply And.intro) <;> decide +kernel

/-- A batch of one record, outstanding, whose slice left at LT 0. -/
def batch0 (out : Bool) (next : Nat) : Batch := ⟨0#32, false, [coreRec 0], next, 0, out, false, [0], false⟩

theorem witness_BatchesHeartbeatAndWake :
    let vd : Rec := { coreRec 0 with ty := tyVerdict }
    let s (n : Nat) (b : Batch) := sess ssOpen n { HostSt.start with batches := [b], ctrl := [coreRec 0], parks := [⟨vd, 0, 0, 0⟩] }
      [(F.HOST_PEER_WINDOW, 1), (F.HOST_CFG_RTO_MS, 1), (F.MOD_STATUS_MODE, mRun)]
    let c := s 0 (batch0 false 0)
    let k (n p : Nat) := hostOn n { HostSt.start with attempt := some 0, packets := p, pinAt := some 0 } [(F.HOST_STAT_WAKING, 1), (F.HOST_WAKE_CFG_REPEAT_S, 1)]
    let off := hostOn 200000000 { HostSt.start with attempt := some 0, packets := 2 } [(domFld domHost, 0)]
    (c.host.open_ false ≠ [] ∧ State.reset.host.open_ true = []) ∧
    (c.takes dgIn ∧ c.ofSession dgIn = true ∧ c.ofSession { dgIn with ip := 7 } = false ∧ 16 < (List.replicate 17 (⟨0#32, 0⟩ : AckEntry)).length ∧
      seqLater 1#32 (c.rd R.HOST_NEXT_BSEQ) = true ∧ seqLater 0#32 (c.rd R.HOST_NEXT_BSEQ) = false ∧ seqLater (c.rd R.HOST_CUM_BSEQ) 0#32 = false ∧
      State.reset.hostHears = false) ∧
    (c.recordsGo = true ∧ (s 1000000 (batch0 true 1)).recordsGo = true ∧ (c.put F.MOD_STATUS_MODE mFactory).recordsGo = false ∧
      (c.put F.MOD_STATUS_MODE mFactory).hostTalks = true ∧ (c.put F.MOD_STATUS_MODE mPowerUp).recordsGo = false) ∧
    (off.host.attempt = some 0 ∧ off.domIsOn domHost = false ∧ off.host.packets < 3 ∧ 0 + off.host.packets * 100000000 ≤ off.logLt) ∧
    (c.hostTalks = true ∧ c.get F.HOST_STAT_SESSION = ssOpen ∧ c.nextBatch = some (batch0 false 0) ∧ (s 0 (batch0 true 1)).nextBatch = none) ∧
    ((s 1000000 (batch0 true 1)).hostTalks = true ∧ State.reset.hostTalks = false ∧ (s 1000000 (batch0 true 1)).host.batches.find? (s 1000000 (batch0 true 1)).rtoDue = some (batch0 true 1) ∧
      (∀ x ∈ (s 999999 (batch0 true 1)).host.batches, (s 999999 (batch0 true 1)).rtoDue x = false)) ∧
    (c.host.parks = [⟨vd, 0, 0, 0⟩] ∧ vd.ty = tyVerdict ∧ State.reset.host.parks = []) ∧
    ((k 200000000 2).lt % 100000000 = 0 ∧ (k 200000000 2).hostTalks = true ∧ (k 200000000 2).get F.HOST_STAT_SESSION = ssNone ∧ c.get F.HOST_STAT_SESSION ≠ ssNone ∧
      (k 1 2).lt % 100000000 ≠ 0) ∧
    ((k 200000000 2).host.attempt = some 0 ∧ (k 200000000 2).domIsOn domHost = true ∧ (k 200000000 2).host.packets < 3 ∧
      0 + (k 200000000 2).host.packets * 100000000 ≤ (k 200000000 2).logLt ∧ (k 199999999 2).logLt < 0 + (k 199999999 2).host.packets * 100000000 ∧
      3 ≤ (k 0 3).host.packets ∧ State.reset.host.attempt = none ∧ (8 : Fin 9).val = 8 ∧ (0 : Fin 9).val ≠ 8) ∧
    ((k 0 2).host.pinAt = some 0 ∧ State.reset.host.pinAt = none) ∧
    ((k 1000000000 3).isSet F.HOST_STAT_WAKING = true ∧
      (k 1000000000 3).host.lastWake + (k 1000000000 3).get F.HOST_WAKE_CFG_REPEAT_S * 1000000000 ≤ (k 1000000000 3).logLt ∧
      (k 999999999 3).logLt < (k 999999999 3).host.lastWake + (k 999999999 3).get F.HOST_WAKE_CFG_REPEAT_S * 1000000000 ∧
      State.reset.isSet F.HOST_STAT_WAKING = false) := by
  simp only [State.takes]; (repeat' apply And.intro) <;> decide +kernel

theorem witness_EventsAndTroubleLog :
    State.reset.isSet F.LOG_CFG_REC_EN = false ∧ ({ State.reset with userLts := List.replicate 1000 0, lt := 999999999 }.userLts.filter (fun a => decide (999999999 < a + 1000000000))).length = 1000 ∧
      State.reset.userLts.length < 1000 ∧ State.reset.isSet F.FLT_STAT_SNAP_BUSY = false ∧ (st [(F.FLT_STAT_SNAP_BUSY, 1)]).isSet F.FLT_STAT_SNAP_BUSY = true ∧
      (8 : Fin 9).val = 8 ∧ (7 : Fin 9).val ≠ 8 := by
  (repeat' apply And.intro) <;> decide +kernel

theorem witness_ServiceTransfersAndCommands :
    let p (g n : Nat) := { stage 3 State.reset with svc := { SvcSt.start with page := g, ptr := n, takeEnd := some 0 }, booting := false }
    ((p 0 0).svcAnswers = true ∧ State.reset.svcAnswers = false) ∧
    ((p 0 0xFF).isSet F.SVC_STAT_BURNING = false ∧ ((p 0 0xFF).put F.SVC_STAT_BURNING 1).isSet F.SVC_STAT_BURNING = true ∧
      ((p 0 0xFF).put F.SVC_STAT_BURNING 1).svc.ptr = 0xFF) ∧
    ((p 0 0xFF).svc.ptr = 0xFF ∧ (6#8).toNat ≤ 6 ∧ 6 < (7#8).toNat ∧ (p 4 0).svc.page = 4 ∧ (p 4 0).svc.ptr = 0) ∧ (1#8).toNat + (253#8).toNat ≠ 255 ∧
    ((inCond mCommission (p 0 0)).svcAnswers = true ∧ (inCond mCommission (p 0 0)).cond mCommission = true ∧ (stage 3 State.reset).svcAnswers = true ∧
      (stage 3 State.reset).booting = true ∧ (p 0 0).cond mCommission = false ∧ (p 0 0).booting = false) ∧
    ((stage 3 (st [(F.SVC_STAT_TAKEN, 1)])).isSet F.SVC_STAT_TAKEN = true ∧ (stage 3 (st [(F.SVC_STAT_TAKEN, 1)])).svcAnswers = true ∧
      (p 0 0).isSet F.SVC_STAT_TAKEN = false ∧ (inCond mFaultHold (p 0 0)).cond mFaultHold = true ∧ (p 0 0).cond mFaultHold = false) ∧
    ((p 0 0).co.phase = 0 ∧ (stage 3 (coAt 1 0 [])).co.phase ≠ 0 ∧ (stage 3 (coAt 1 0 [])).svcAnswers = true ∧ (p 0 0).svc.takeEnd = some 0 ∧
      State.reset.svc.takeEnd = none) := by
  (repeat' apply And.intro) <;> decide +kernel

/-- A field's check passes with SEL 0, value 5 and the CRC-8 of both. -/
theorem witness_CommissioningAndHealthy :
    let v : SvcSt := { SvcSt.start with value := [(0, 5#8)], crc := crc8 [0#8, 5#8] }
    let c := { (st [(F.MOD_STATUS_MODE, mCommission), (F.SVC_STAT_ENABLE, 1)]) with svc := v }
    let b (t : Bool) (l : List Byte) := { State.reset with svc := { SvcSt.start with burn := some ⟨t, 0, l⟩ } }
    let h := at_ 9999999 [(F.MOD_STATUS_RECIPE, 1), (F.MOD_STATUS_MODE, mRun), (F.SVC_CFG_KICK_MS, 0), (F.PWR_STAGE_FLAGS, 0)]
    ((stage 3 State.reset).svcAnswers = true ∧ State.reset.svcAnswers = false) ∧
    ((st [(F.SVC_STAT_BURNING, 1)]).isSet F.SVC_STAT_BURNING = true ∧ c.isSet F.SVC_STAT_BURNING = false ∧ c.fieldCheck = 0 ∧ State.reset.fieldCheck ≠ 0 ∧
      State.reset.mode ≠ mCommission) ∧
    ((b false [5#8]).svc.burn = some ⟨false, 0, [5#8]⟩ ∧ (b false [5#8]).svc.ending = false ∧ State.reset.svc.burn = none ∧
      (b true (leBytes 4 0xFFFFFFFF)).svc.burn = some ⟨true, 0, leBytes 4 0xFFFFFFFF⟩) ∧
    ((8 : Fin 9).val = 8 ∧ (0 : Fin 9).val ≠ 8) ∧
    (h.healthyMay = true ∧ h.svc.releaseAt = none ∧ { h with svc := { SvcSt.start with releaseAt := some 0 } }.healthyMay = true ∧ h.lt < 0 + 10000000 ∧
      State.reset.healthyMay = false ∧ (st [(F.SVC_STAT_HEALTHY, 1)]).isSet F.SVC_STAT_HEALTHY = true ∧ State.reset.isSet F.MOD_STATUS_RECIPE = false) := by
  (repeat' apply And.intro) <;> decide +kernel

/-- On and off a word boundary, below and from 0x4000_0000 on; the first and last registers of the windows without commands; addresses with and without a register. -/
theorem witness_RegisterWrites :
    (2#32).toNat % 4 ≠ 0 ∧ (0x3FFFFFFC#32).toNat < 0x40000000 ∧ ((0x40000000#32).toNat % 4 = 0 ∧ 0x40000000 ≤ (0x40000000#32).toNat) ∧
    (∃ r, regRow R.EVT_SEEN_LO = some r) ∧ (∃ r, regRow (R.MEMM_STAT 0) = some r ∧ (R.MEMM_STAT 0 < R.ACT_ENTER_CTL 0)) ∧ regRow 0x50FFFFFC = none := by
  refine ⟨by decide, by decide, by decide, ⟨_, rfl⟩, ⟨_, rfl, by decide⟩, by decide⟩

/-- The state after reset, and one with the vat core running. -/
theorem witness_FilsyKeepsCoreSound :
    (Instr.add 8 1 2 3 0).filsyCore = some 8 ∧ (State.reset.core 8).faultsOpen ∧ State.reset.lines = [] ∧ (∀ k, k < 9 → (State.reset.core k).sound k) ∧
      ∃ t, exec (.add 8 1 2 3 0) State.reset = .next t := by
  refine ⟨by decide, by simp only [Core.faultsOpen]; decide, by decide, by simp only [Core.sound]; decide, ⟨_, rfl⟩⟩

theorem witness_StepKeepsCanonicalForm : State.reset.formed State.reset.pending ∧ (State.reset.push .supplyValid).formed [.supplyValid] ∧
    ∃ t, step (State.reset.push .supplyValid) = .next t :=
  ⟨⟨rfl, rfl, rfl, rfl⟩, ⟨rfl, rfl, rfl, rfl⟩, ⟨_, rfl⟩⟩

theorem witness_CommandsLeaveCores : Instr.mayMoveCores .heartbeat = false ∧ ∃ t, exec .heartbeat State.reset = .next t := ⟨by decide, ⟨_, rfl⟩⟩

theorem witness_CommandsLeaveMemory : Instr.mayStore .heartbeat = false ∧ ∃ t, exec .heartbeat State.reset = .next t := ⟨by decide, ⟨_, rfl⟩⟩

end Sys2Proof.Machine
end

section
/-! SUPPORT. Register writes, the state after power-on and its canonical form (chapter 00): the statements O54, O55 and O58. -/

namespace Sys2Proof.Machine

variable (s : State)

/-! ## Which core may write a register's fields (R10, R451) -/

/-- Away from the action table's slots the RW fields are the vat core's. -/
theorem mayWriteRw_outside_slots (w : Nat) {a : Nat} (h : a < R.ACT_ENTER_CTL 0 ∨ R.ACT_ENTER_CTL 9 ≤ a) :
    mayWriteRw w a = (w == vat) := by
  have hout : ¬(R.ACT_ENTER_CTL 0 ≤ a ∧ a < R.ACT_ENTER_CTL 9) := by omega
  simp only [mayWriteRw, if_neg hout]

@[simp] theorem mayClear_vat (a : Nat) : mayClear vat a = true := by simp [mayClear]

theorem mayClear_outside_evtSeen (w : Nat) {a : Nat} (hlo : a ≠ R.EVT_SEEN_LO) (hhi : a ≠ R.EVT_SEEN_HI) :
    mayClear w a = true := by simp [mayClear, hlo, hhi]

/-- EVT_SEEN is cleared by the vat core alone. -/
theorem mayClear_evtSeen {w a : Nat} (hw : w ≠ vat) (ha : a = R.EVT_SEEN_LO ∨ a = R.EVT_SEEN_HI) : mayClear w a = false := by
  rcases ha with rfl | rfl <;> simp [mayClear, hw]

/-! ## A write to a register's RW and W1C fields (R10, R12) -/

theorem State.plainWrite_of_noRow (w : Nat) {a : Nat} (v : Word) (h : regRow a = none) : s.plainWrite w a v = s := by
  simp only [State.plainWrite, h]

/-- A write leaves every other register alone, whether a register lies at its address or not. -/
theorem State.rd_plainWrite_other (w : Nat) {a m : Nat} (v : Word) (h : m ≠ a) : (s.plainWrite w a v).rd m = s.rd m := by
  unfold State.plainWrite
  split
  · rfl
  · exact s.rd_wr_other _ h

/-- The register written: its RW fields are set and its W1C bits written as 1 are cleared, each where the core may do so. -/
theorem State.rd_plainWrite_same (w : Nat) {a : Nat} (v : Word) {r : RegRow} (h : regRow a = some r) :
    (s.plainWrite w a v).rd a =
      ((s.rd a &&& ~~~(if mayWriteRw w a then BitVec.ofNat 32 r.rw else 0#32)) |||
          (v &&& if mayWriteRw w a then BitVec.ofNat 32 r.rw else 0#32)) &&&
        ~~~(v &&& if mayClear w a then BitVec.ofNat 32 r.w1c else 0#32) := by
  simp only [State.plainWrite, h, State.rd_wr_same]

theorem State.rd_plainWrite_vat {a : Nat} (v : Word) {r : RegRow} (hrow : regRow a = some r)
    (hslot : a < R.ACT_ENTER_CTL 0 ∨ R.ACT_ENTER_CTL 9 ≤ a) :
    (s.plainWrite vat a v).rd a =
      ((s.rd a &&& ~~~(BitVec.ofNat 32 r.rw)) ||| (v &&& BitVec.ofNat 32 r.rw)) &&& ~~~(v &&& BitVec.ofNat 32 r.w1c) := by
  simp [s.rd_plainWrite_same _ v hrow, mayWriteRw_outside_slots _ hslot]

theorem State.rd_plainWrite_notVat {w a : Nat} (v : Word) {r : RegRow} (hrow : regRow a = some r) (hw : w ≠ vat)
    (hslot : a < R.ACT_ENTER_CTL 0 ∨ R.ACT_ENTER_CTL 9 ≤ a) (hlo : a ≠ R.EVT_SEEN_LO) (hhi : a ≠ R.EVT_SEEN_HI) :
    (s.plainWrite w a v).rd a = s.rd a &&& ~~~(v &&& BitVec.ofNat 32 r.w1c) := by
  simp [-BitVec.reduceNot, -BitVec.reduceAllOnes, s.rd_plainWrite_same _ v hrow, mayWriteRw_outside_slots _ hslot, hw, mayClear_outside_evtSeen _ hlo hhi]

/-- EVT_SEEN lies away from the slots, so a core that may not clear it leaves it as it was. -/
theorem State.rd_plainWrite_evtSeen {w a : Nat} (v : Word) (hw : w ≠ vat) (ha : a = R.EVT_SEEN_LO ∨ a = R.EVT_SEEN_HI) (m : Nat) :
    (s.plainWrite w a v).rd m = s.rd m := by
  by_cases hm : m = a
  case neg => exact s.rd_plainWrite_other w v hm
  case pos =>
    subst hm
    have hslot : m < R.ACT_ENTER_CTL 0 ∨ R.ACT_ENTER_CTL 9 ≤ m := by rcases ha with rfl | rfl <;> decide
    cases hrow : regRow m with
    | none => rw [s.plainWrite_of_noRow w v hrow]
    | some r => simp [-BitVec.reduceNot, -BitVec.reduceAllOnes, s.rd_plainWrite_same w v hrow, mayWriteRw_outside_slots w hslot, hw, mayClear_evtSeen hw ha]

/-! ## Where a written word goes (R9, R281) -/

/-- From the hub blocks on, below the envelope tables, a written word goes to the hub blocks. -/
theorem State.busWrite_hubBlocks (w : Nat) {a : Nat} (v : Word) (hlo : 0x40800000 ≤ a) (hhi : a < 0x60000000) :
    s.busWrite w a v = s.hubWrite w a v := by
  unfold State.busWrite
  rw [if_neg (by omega), if_neg (by omega)]

/-- The address lies in a part of the hub blocks that holds no command: COM, EVT_SEEN to FLT_STAT, the trouble log below LOG_USER_CMD, power behind
PWR_CMD. -/
def InPlainWindow (a : Nat) : Prop :=
  (0x500A0000 ≤ a ∧ a < 0x500B0000) ∨ (0x500B0100 ≤ a ∧ a < 0x500B010C) ∨ (0x50060000 ≤ a ∧ a < 0x5006004C) ∨ (0x50050010 ≤ a ∧ a < 0x50060000)

theorem State.hubWrite_noCommand (w : Nat) {a : Nat} (v : Word) (h : InPlainWindow a) :
    s.hubWrite w a v = s.plainWrite w a v := by
  unfold InPlainWindow at h
  unfold State.hubWrite
  rw [if_neg (by omega), if_neg (by omega), if_neg (by omega), if_neg (by simp only [R.ACT_ENTER_CTL]; omega)]
  rw [if_neg (by simp only [R.HOST_CMD]; omega), if_neg (by simp only [R.KEY_CMD]; omega), if_neg (by simp only [R.PWR_CMD]; omega),
    if_neg (by simp only [R.MOD_CMD]; omega), if_neg (by simp only [R.FLT_SNAP]; omega), if_neg (by simp only [R.LOG_USER_CMD]; omega),
    if_neg (by simp only [R.SVC_KICK]; omega)]

theorem State.busWrite_noCommand (w : Nat) {a : Nat} (v : Word) (h : InPlainWindow a) :
    s.busWrite w a v = s.plainWrite w a v := by
  have hub : 0x40800000 ≤ a ∧ a < 0x60000000 := by unfold InPlainWindow at h; omega
  rw [s.busWrite_hubBlocks w v hub.1 hub.2, s.hubWrite_noCommand w v h]

theorem exec_registerWrite_noWord (c : Fin 9) {addr : Word} (v : Word) (h : addr.toNat % 4 ≠ 0 ∨ addr.toNat < 0x40000000) :
    exec (.registerWrite c addr v) s = .next s := by
  change execRegisterWrite c addr v s = .next s
  exact if_neg (by omega)

theorem exec_registerWrite_word (c : Fin 9) {addr : Word} (v : Word) (hw : addr.toNat % 4 = 0) (hlo : 0x40000000 ≤ addr.toNat) :
    exec (.registerWrite c addr v) s = .next (s.busWrite c addr.toNat v) := by
  change execRegisterWrite c addr v s = _
  exact if_pos ⟨hw, hlo⟩

/-! ## The state after power-on (R13) -/

@[simp] theorem State.rd_reset (a : Nat) : State.reset.rd a = regReset a := rfl
@[simp] theorem State.byte_reset (m : Nat) : State.reset.byte m = 0#8 := rfl
@[simp] theorem State.queue_reset (q : Nat) : State.reset.queue q = Queue.empty := rfl
@[simp] theorem State.logEntry_reset (i : Nat) : State.reset.logEntry i = none := rfl
@[simp] theorem State.core_reset (k : Nat) : State.reset.core k = coreDefault k := rfl

theorem State.get_reset (f : Fld) : State.reset.get f = f.ofWord (regReset f.addr) := rfl

theorem State.mode_reset : State.reset.mode = mPowerUp := by
  rw [State.mode, State.get_reset]; decide

/-- A core that was never started is sound: the vat core has the large profile, every other core the small one. -/
theorem coreDefault_sound (k : Nat) : (coreDefault k).sound k := by
  by_cases hk : k = vat
  · subst hk
    simp only [Core.sound]; decide
  · have hsmall : (k == vat) = false := by simpa using hk
    simp [Core.sound, coreDefault, hsmall, Core.unstarted, Core.large, fProf, hk]

/-! ## The canonical form -/

theorem State.formed_reset : State.reset.formed [] := ⟨rfl, rfl, rfl, rfl⟩

/-- A command put in front of the queue touches nothing but the queue. -/
theorem State.formed.push {s : State} {ws : List Instr} (h : s.formed ws) (i : Instr) : (s.push i).formed (i :: ws) where
  pending := congrArg (i :: ·) h.pending
  mem := h.mem
  regs := h.regs
  cores := h.cores

/-- No row of the opcode table has bits, so no word spells a command (assumption 7). -/
@[simp] theorem State.withFetchWord_eq_self (nbits w : Nat) : s.withFetchWord nbits w = s := rfl

/-! ## The statements -/

/-- Settles O54: a write reaches the register at its address alone, by the fields that its core may write. -/
theorem registerWrites : Obligations.RegisterWrites := by
  unfold Obligations.RegisterWrites
  intro c addr v s a r
  refine ⟨exec_registerWrite_noWord s c v, exec_registerWrite_word s c v, s.busWrite_noCommand c v, s.plainWrite_of_noRow c v, ?_, ?_, ?_, ?_, ?_⟩
  · exact fun _ m hm => s.rd_plainWrite_other c v hm
  · intro hrow hc hslot
    rw [hc]
    exact s.rd_plainWrite_vat v hrow hslot
  · intro hrow hc hslot hlo hhi
    exact s.rd_plainWrite_notVat v hrow hc hslot hlo hhi
  · exact fun hc ha m => s.rd_plainWrite_evtSeen v hc ha m
  · have haddr : (BitVec.ofNat 32 R.PWR_WAKE_INEDGE).toNat = R.PWR_WAKE_INEDGE := by decide
    rw [exec_registerWrite_word s 8 v (by decide) (by decide), haddr, s.busWrite_noCommand _ v (by unfold InPlainWindow; decide)]
    rfl

/-- Settles O55: nothing is listed after power-on, so each read gives what an unlisted place holds. -/
theorem resetState : Obligations.ResetState := by
  unfold Obligations.ResetState
  have hagree : State.reset.get F.PWR_CFG_AGREE_MS = 10 := by rw [State.get_reset]; decide
  have hindex : State.reset.get F.LOG_NEXT_INDEX = 0 := by rw [State.get_reset]; decide
  refine ⟨State.rd_reset, State.mode_reset, rfl, hagree, hindex, State.logEntry_reset, State.byte_reset, ?_, rfl, rfl, rfl, ?_⟩
  · intro q
    rw [State.queue_reset]; rfl
  · intro k _
    rw [State.core_reset]
    exact ⟨coreDefault_sound k, rfl⟩

/-- Settles O58: empty tables are in canonical form, and neither a command put in front nor a word moves them. -/
theorem resetIsCanonical : Obligations.ResetIsCanonical :=
  ⟨State.formed_reset, fun i => State.formed_reset.push i, fun nbits w => State.withFetchWord_eq_self State.reset nbits w⟩

end Sys2Proof.Machine
end

section
/-! SUPPORT. Only the cells' own commands move the table of cells: what queues, log, actions, the Herd link, the churn engine and the channels leave of a
cell, up to the operations that chapter 03 calls. -/

namespace Sys2Proof.Machine

variable (s : State) (m : Nat)

@[simp] theorem State.cell_setCell_same (x : CellSt) : (s.setCell m x).cell m = x := by simp [State.cell, State.setCell]

/-- A cell is read from the table of cells alone. The laws below go through this rather than by `rfl`: a chain of `rfl` steps would have the kernel
compare whole states. -/
theorem State.cell_congr {s t : State} (h : s.cells = t.cells) (m : Nat) : s.cell m = t.cell m := by rw [State.cell, State.cell, h]

@[simp] theorem State.cell_ite (p : Prop) [Decidable p] (t : State) :
    (if p then s else t).cell m = if p then s.cell m else t.cell m :=
  apply_ite (fun u => State.cell u m) p s t

@[simp] theorem State.cell_ite_fst {β : Type} (p : Prop) [Decidable p] (a b : State × β) :
    (if p then a else b).1.cell m = if p then a.1.cell m else b.1.cell m := apply_ite (fun x : State × β => x.1.cell m) p a b

@[simp] theorem State.cell_foldl {α : Type} (f : State → α → State) (h : ∀ s x, (f s x).cell m = s.cell m) (l : List α) :
    (l.foldl f s).cell m = s.cell m := foldl_keeps (fun u => u.cell m) f h l s

/-! ### Registers, memory and the units' own updates -/

@[simp] theorem State.cell_put (f : Fld) (n : Nat) : (s.put f n).cell m = s.cell m := State.cell_congr rfl m
@[simp] theorem State.cell_putB (f : Fld) (b : Bool) : (s.putB f b).cell m = s.cell m := State.cell_congr rfl m
@[simp] theorem State.cell_setBit (f : Fld) (i : Nat) : (s.setBit f i).cell m = s.cell m := State.cell_congr rfl m
@[simp] theorem State.cell_incSat (f : Fld) (n : Nat) : (s.incSat f n).cell m = s.cell m := State.cell_congr rfl m
@[simp] theorem State.cell_setByte (a : Nat) (b : Byte) : (s.setByte a b).cell m = s.cell m := State.cell_congr rfl m
@[simp] theorem State.cell_setCore (k : Nat) (c : Core) : (s.setCore k c).cell m = s.cell m := State.cell_congr rfl m
@[simp] theorem State.cell_takeSeq (k : Nat) : (s.takeSeq k).cell m = s.cell m := State.cell_congr rfl m
@[simp] theorem State.cell_emit (e : Emission) : (s.emit e).cell m = s.cell m := State.cell_congr rfl m
@[simp] theorem State.cell_incWrap (f : Fld) (n : Nat) : (s.incWrap f n).cell m = s.cell m := State.cell_congr rfl m
@[simp] theorem State.cell_clearBit (f : Fld) (i : Nat) : (s.clearBit f i).cell m = s.cell m := State.cell_congr rfl m
@[simp] theorem State.cell_putPair (a n : Nat) : (s.putPair a n).cell m = s.cell m := State.cell_congr rfl m
@[simp] theorem State.cell_setQueue (q : Nat) (x : Queue) : (s.setQueue q x).cell m = s.cell m := State.cell_congr rfl m
@[simp] theorem State.cell_setLadle (l : Nat) (x : Ladle) : (s.setLadle l x).cell m = s.cell m := State.cell_congr rfl m
@[simp] theorem State.cell_setEng (t : Nat) (x : ChurnSt) : (s.setEng t x).cell m = s.cell m := State.cell_congr rfl m
@[simp] theorem State.cell_setGrp (t g : Nat) (x : GroupSt) : (s.setGrp t g x).cell m = s.cell m := State.cell_congr rfl m
@[simp] theorem State.cell_envSet (t e : Nat) (w : BitVec 64) : (s.envSet t e w).cell m = s.cell m := State.cell_congr rfl m
@[simp] theorem State.cell_setLane (n : Nat) (l : Lane) : (s.setLane n l).cell m = s.cell m := State.cell_congr rfl m
@[simp] theorem State.cell_setAct (a : Nat) (e : ActEntry) : (s.setAct a e).cell m = s.cell m := State.cell_congr rfl m
@[simp] theorem State.cell_setOut (n : Nat) (o : OutSt) : (s.setOut n o).cell m = s.cell m := State.cell_congr rfl m
@[simp] theorem State.cell_setPort (b : Bool) (p : PortSt) : (s.setPort b p).cell m = s.cell m := State.cell_congr rfl m
@[simp] theorem State.cell_setChan (k : Nat) (x : ChanSt) : (s.setChan k x).cell m = s.cell m := State.cell_congr rfl m
@[simp] theorem State.cell_raiseTile (t n : Nat) : (s.raiseTile t n).cell m = s.cell m := State.cell_congr rfl m
@[simp] theorem State.cell_raise (n : Nat) : (s.raise n).cell m = s.cell m := by simp [State.raise]
@[simp] theorem State.cell_raiseQueue (q : Nat) : (s.raiseQueue q).cell m = s.cell m := s.cell_raise m _
@[simp] theorem State.cell_raiseHerd (f : Fld) (n : Nat) : (s.raiseHerd f n).cell m = s.cell m := by simp [State.raiseHerd]
@[simp] theorem State.cell_churnEvent (t : Nat) : (s.churnEvent t).cell m = s.cell m := State.cell_congr rfl m

@[simp] theorem State.cell_setBytes (a : Nat) (l : List Byte) : (s.setBytes a l).cell m = s.cell m := by
  induction l generalizing s a with
  | nil => rfl
  | cons b l ih => rw [State.setBytes, ih, State.cell_setByte]

@[simp] theorem State.cell_storeLe (a n v : Nat) : (s.storeLe a n v).cell m = s.cell m := s.cell_setBytes m _ _

/-! ### Queues and the trouble log -/

@[simp] theorem State.cell_qRoom (q before : Nat) : (s.qRoom q before).cell m = s.cell m := by simp [State.qRoom]

@[simp] theorem State.cell_resetPorts (q : Nat) : (s.resetPorts q).cell m = s.cell m := by simp [State.resetPorts]

@[simp] theorem State.cell_resetOpens (q : Nat) (l : List (Nat × OpenSamples)) (p : PendGap) : (s.resetOpens q l p).1.cell m = s.cell m := by
  induction l generalizing s p with
  | nil => rfl
  | cons o l ih => rw [State.resetOpens, ih, State.cell_takeSeq]

@[simp] theorem State.cell_resetGap (q : Nat) : (s.resetGap q).1.cell m = s.cell m := s.cell_resetOpens m _ _ _

@[simp] theorem State.cell_qReset (q cause : Nat) : (s.qReset q cause).cell m = s.cell m := by
  unfold State.qReset
  split <;> simp

@[simp] theorem State.cell_qCompare (q : Nat) : (s.qCompare q).cell m = s.cell m := by simp [State.qCompare]

@[simp] theorem State.cell_qDrop (q : Nat) (r : Rec) : (s.qDrop q r).cell m = s.cell m := by
  unfold State.qDrop
  dsimp only
  split <;> simp only [State.cell_ite, State.cell_setQueue, State.cell_incSat, State.cell_put, State.cell_raiseQueue, ite_self]

@[simp] theorem State.cell_evictRuns (q : Nat) (old : Queue) : (s.evictRuns q old).cell m = s.cell m := by
  refine s.cell_foldl m _ (fun s l => s.cell_foldl m _ (fun s d => ?_) _) _
  simp only [State.cell_ite, State.cell_setLadle, ite_self]

@[simp] theorem State.cell_qMakeRoom (q need limit : Nat) : (s.qMakeRoom q need limit).cell m = s.cell m := by simp [State.qMakeRoom]

@[simp] theorem State.cell_qThreshold (q : Nat) : (s.qThreshold q).cell m = s.cell m := by simp [State.qThreshold]

@[simp] theorem State.cell_qCommit (q : Nat) (r : Rec) : (s.qCommit q r).cell m = s.cell m := by
  rw [State.qCommit, State.cell_qThreshold, State.cell_setQueue]

@[simp] theorem State.cell_gapCovers (t : Nat) (es : List GapEntry) : (s.gapCovers t es).cell m = s.cell m := by
  refine s.cell_foldl m _ (fun s e => ?_) _
  simp only [State.cell_ite, State.cell_setEng, State.cell_setGrp, ite_self]

@[simp] theorem State.cell_qWriteGaps (q cause : Nat) (l : List (List GapEntry)) : (s.qWriteGaps q cause l).cell m = s.cell m := by
  induction l generalizing s with
  | nil => rfl
  | cons es l ih => simp [State.qWriteGaps, ih]

@[simp] theorem State.cell_qWriteMarks (q : Nat) (l : List Rec) : (s.qWriteMarks q l).cell m = s.cell m := by
  induction l generalizing s with
  | nil => rfl
  | cons r l ih => simp [State.qWriteMarks, ih]

@[simp] theorem State.cell_qWritePend (q : Nat) (p : PendGap) : (s.qWritePend q p).cell m = s.cell m := by simp [State.qWritePend]

@[simp] theorem State.cell_qFlushFor (q : Nat) (r : Rec) : (s.qFlushFor q r).1.cell m = s.cell m := by
  unfold State.qFlushFor
  split
  · rfl
  · simp only [State.cell_ite_fst, State.cell_qWritePend, State.cell_qMakeRoom, ite_self]

@[simp] theorem State.cell_qAdmit (q : Nat) (r : Rec) : (s.qAdmit q r).cell m = s.cell m := by simp [State.qAdmit]

@[simp] theorem State.cell_qOffer (q : Nat) (r : Rec) : (s.qOffer q r).cell m = s.cell m := by simp [State.qOffer]

@[simp] theorem State.cell_offerNew (q : Nat) (r : Rec) : (s.offerNew q r).cell m = s.cell m := by simp [State.offerNew]

@[simp] theorem State.cell_logOut (e : LogEntry) : (s.logOut e).cell m = s.cell m := by
  unfold State.logOut
  split
  · split
    · exact s.cell_offerNew m _ _
    · exact State.cell_congr rfl m
  · rfl

@[simp] theorem State.cell_logWrite (kind event : Nat) (d0 d1 d2 : Word) : (s.logWrite kind event d0 d1 d2).cell m = s.cell m := by
  simp only [State.logWrite, State.cell_logOut, State.cell_ite, State.cell_incWrap, State.cell_put, State.cell_incSat, ite_self]
  exact State.cell_congr rfl m

/-! ### Actions and outputs -/

@[simp] theorem State.cell_clearAct (output src clearer : Nat) (c : Word) : (s.clearAct output src clearer c).cell m = s.cell m := by
  unfold State.clearAct
  split <;> simp

@[simp] theorem State.cell_estimateAct (a : Nat) : (s.estimateAct a).cell m = s.cell m := by
  unfold State.estimateAct
  dsimp only
  split <;> simp

@[simp] theorem State.cell_evtFlush (l : List EvtRec) : (s.evtFlush l).cell m = s.cell m := by
  induction l generalizing s with
  | nil => exact State.cell_congr rfl m
  | cons e l ih =>
    unfold State.evtFlush
    split
    · rw [ih, State.eventRecord, State.cell_offerNew]
    · exact State.cell_congr rfl m

@[simp] theorem State.cell_evtPut (e : ActEntry) (outcome lt : Nat) (ready : Bool) : (s.evtPut e outcome lt ready).cell m = s.cell m := by
  simp [State.evtPut]

@[simp] theorem State.cell_settleCount (outcome : Nat) : (s.settleCount outcome).cell m = s.cell m := by simp [State.settleCount]

@[simp] theorem State.cell_freeAct (a : Nat) : (s.freeAct a).cell m = s.cell m := by simp [State.freeAct]

@[simp] theorem State.cell_settle (a outcome lt : Nat) : (s.settle a outcome lt).cell m = s.cell m := by simp [State.settle]

@[simp] theorem State.cell_pins (n : Nat) : (s.pins n).cell m = s.cell m := by
  induction n with
  | zero => rfl
  | succ n ih => simp [State.pins, ih]

@[simp] theorem State.cell_command (n : Nat) (level : Bool) : (s.command n level).cell m = s.cell m := by simp [State.command, State.drive]

@[simp] theorem State.cell_edge (n : Nat) (level : Bool) (target : Nat) : (s.edge n level target).cell m = s.cell m := by
  simp only [State.edge, State.cell_emit, State.cell_command, State.cell_ite, State.cell_clearBit, State.cell_setOut, State.cell_incSat, ite_self]

@[simp] theorem State.cell_execute (a : Nat) (late : Bool) : (s.execute a late).cell m = s.cell m := by
  simp only [State.execute, State.cell_ite, State.cell_settle, State.cell_evtPut, State.cell_freeAct, State.cell_setOut, State.cell_incSat,
    State.cell_edge, State.cell_foldl, implies_true, ite_self]

@[simp] theorem State.cell_estimate (a : Nat) : (s.estimate a).cell m = s.cell m := by simp [State.estimate]

@[simp] theorem State.cell_placeAct (a : Nat) (r : ActAsk) (lane : Bool) (laneNo : Nat) : (s.placeAct a r lane laneNo).cell m = s.cell m := by
  have hput (u : State) (n : Nat) : ({ u with actOrder := n } : State).cell m = u.cell m := State.cell_congr rfl m
  unfold State.placeAct
  dsimp only
  split
  · rw [State.cell_estimate, State.cell_put, hput, State.cell_setAct]
  · split <;> simp only [State.cell_execute, State.cell_put, hput, State.cell_setAct]

@[simp] theorem State.cell_askOwn (r : ActAsk) : (s.askOwn r).cell m = s.cell m := by
  unfold State.askOwn
  dsimp only
  split
  · simp
  · split
    · split <;> simp
    · rfl

/-! ### The Herd link -/

@[simp] theorem State.cell_frameErr : s.frameErr.cell m = s.cell m := s.cell_raiseHerd m _ _

@[simp] theorem State.cell_txStep (b : Bool) : (s.txStep b).cell m = s.cell m := by
  unfold State.txStep
  dsimp only
  split
  · simp
  · split
    · split <;> simp
    · rfl

@[simp] theorem State.cell_txPut (b : Bool) (f : TxFrame) : (s.txPut b f).cell m = s.cell m := by simp [State.txPut]

@[simp] theorem State.cell_sendOn (b : Bool) (f : Frame) (how : CopyEnd) (from_ : Nat) : (s.sendOn b f how from_).cell m = s.cell m := by
  simp [State.sendOn]

@[simp] theorem State.cell_herdSend (dest : Nat) (bcast : Bool) (body : Body) : (s.herdSend dest bcast body).cell m = s.cell m := by
  unfold State.herdSend
  split
  · rw [State.cell_sendOn]
    exact State.cell_congr rfl m
  · rfl

@[simp] theorem State.cell_sendOne : s.sendOne.cell m = s.cell m := by
  unfold State.sendOne
  split
  · rfl
  · split
    · exact (State.cell_congr rfl m).trans (s.cell_herdSend m _ _ _)
    · rfl

@[simp] theorem State.cell_sendReqs (n : Nat) : (s.sendReqs n).cell m = s.cell m := by
  induction n generalizing s with
  | zero => rfl
  | succ n ih => rw [State.sendReqs, ih, State.cell_sendOne]

@[simp] theorem State.cell_askOne (dest slot batch : Nat) (r : ActReq) : (s.askOne dest slot batch r).cell m = s.cell m :=
  State.cell_congr rfl m

@[simp] theorem State.cell_askHerd (dest slot : Nat) (l : List ActReq) : (s.askHerd dest slot l).cell m = s.cell m := by
  rw [State.askHerd, State.cell_sendReqs, State.cell_foldl _ _ _ (fun s r => s.cell_askOne m _ _ _ r)]
  exact State.cell_congr rfl m

/-! ### The churn engine -/

@[simp] theorem State.cell_writeCycle (t g : Nat) (incomplete : Bool) (r : CycRec) : (s.writeCycle t g incomplete r).cell m = s.cell m :=
  s.cell_foldl m _ (fun s _ => s.cell_offerNew m _ _) _

@[simp] theorem State.cell_accTake (t g : Nat) (c : Closed) (feats : List (Nat × Int)) : (s.accTake t g c feats).cell m = s.cell m := by
  refine s.cell_foldl m _ (fun s e => ?_) _
  split <;> simp

@[simp] theorem State.cell_accClear (t g : Nat) : (s.accClear t g).cell m = s.cell m := by simp [State.accClear]

@[simp] theorem State.cell_setAnchor (t e : Nat) (lower upper : Int) : (s.setAnchor t e lower upper).cell m = s.cell m := by simp [State.setAnchor]

@[simp] theorem State.cell_grpShow (t g : Nat) : (s.grpShow t g).cell m = s.cell m := by simp [State.grpShow]

@[simp] theorem State.cell_teachComplete (t g : Nat) : (s.teachComplete t g).cell m = s.cell m := by simp [State.teachComplete]

@[simp] theorem State.cell_teachTake (t g : Nat) (c : Closed) (feats : List (Nat × Int)) : (s.teachTake t g c feats).cell m = s.cell m := by
  simp [State.teachTake]

@[simp] theorem State.cell_driftMove (t g : Nat) : (s.driftMove t g).1.cell m = s.cell m := by
  refine foldl_keeps (fun a : State × Bool × List Nat × Option Nat => a.1.cell m) _ (fun a e => ?_) _ _
  dsimp only
  split
  · rfl
  · split <;> simp

@[simp] theorem State.cell_drift (t g : Nat) (c : Closed) (feats : List (Nat × Int)) : (s.drift t g c feats).1.cell m = s.cell m := by
  unfold State.drift
  have hstart : (if (s.grp t g).driftRun = 0 then s.accClear t g else s).cell m = s.cell m := by simp
  dsimp only
  generalize (if (s.grp t g).driftRun = 0 then s.accClear t g else s) = u at hstart ⊢
  split
  · rw [State.cell_setGrp, State.cell_accTake, hstart]
  · split
    · rw [State.cell_putB, State.cell_setGrp, State.cell_driftMove, State.cell_accTake, hstart]
    · simp only [State.cell_ite_fst, State.cell_logWrite, State.cell_raise, State.cell_churnEvent, State.cell_setBit, State.cell_putB, State.cell_setGrp,
        State.cell_driftMove, State.cell_accTake, hstart, ite_self]

@[simp] theorem State.cell_verdictCount (t g status code : Nat) : (s.verdictCount t g status code).cell m = s.cell m := by simp [State.verdictCount]

@[simp] theorem State.cell_ruleAsk (t r kind : Nat) (level : Bool) (cycle : Int) (angle : Nat) (l : List (Nat × ActReq)) :
    (s.ruleAsk t r kind level cycle angle l).1.cell m = s.cell m := by
  unfold State.ruleAsk
  dsimp only
  split
  · split <;> simp
  · rfl

@[simp] theorem State.cell_ruleDo (t r op : Nat) (k : Int) (l : List (Nat × ActReq)) : (s.ruleDo t r op k l).1.cell m = s.cell m := by
  unfold State.ruleDo
  dsimp only
  split <;> simp

@[simp] theorem State.cell_ruleFire (t r : Nat) (k : Int) (l : List (Nat × ActReq)) : (s.ruleFire t r k l).1.cell m = s.cell m := by
  simp [State.ruleFire]

@[simp] theorem State.cell_ruleStep (t r : Nat) (k : Int) (skip status codes : Nat) (stop : Bool) (l : List (Nat × ActReq)) :
    (s.ruleStep t r k skip status codes stop l).1.cell m = s.cell m := by
  unfold State.ruleStep
  dsimp only
  split <;> simp

@[simp] theorem State.cell_rules (t g : Nat) (k : Int) (skip status codes : Nat) : (s.rules t g k skip status codes).cell m = s.cell m := by
  unfold State.rules
  dsimp only
  rw [State.cell_foldl _ _ _ (fun s a => s.cell_askHerd m _ _ _)]
  exact foldl_keeps (fun a : State × Bool × List (Nat × ActReq) => a.1.cell m) _ (fun a r => a.1.cell_ruleStep m _ _ _ _ _ _ _ _) _ _

@[simp] theorem State.cell_diffKeep (t g : Nat) (c : Closed) : (s.diffKeep t g c).cell m = s.cell m :=
  s.cell_foldl m _ (fun s _ => s.cell_foldl m _ (fun s _ => s.cell_storeLe m _ _ _) _) _

@[simp] theorem State.cell_verdict (t g : Nat) (c : Closed) (status : Nat) : (s.verdict t g c status).cell m = s.cell m := by
  unfold State.verdict
  dsimp only
  simp only [State.cell_grpShow, State.cell_setGrp, State.cell_ite, State.cell_diffKeep, State.cell_rules, State.cell_verdictCount, State.cell_offerNew,
    State.cell_ite_fst, State.cell_teachTake, State.cell_drift, ite_self]

@[simp] theorem State.cell_skipOldest (t g : Nat) : (s.skipOldest t g).cell m = s.cell m := by
  unfold State.skipOldest
  dsimp only
  split
  · simp
  · rfl

@[simp] theorem State.cell_judgeNext (t : Nat) : (s.judgeNext t).cell m = s.cell m := by
  unfold State.judgeNext
  dsimp only
  split <;> simp

@[simp] theorem State.cell_groupClose (t g : Nat) : (s.groupClose t g).cell m = s.cell m := by
  unfold State.groupClose
  dsimp only
  split
  · rfl
  · simp

@[simp] theorem State.cell_closeReady (t g n : Nat) : (s.closeReady t g n).cell m = s.cell m := by
  induction n generalizing s with
  | zero => rfl
  | succ n ih =>
    unfold State.closeReady
    split
    · simp [ih]
    · rfl

@[simp] theorem State.cell_chanRestart (t i : Nat) : (s.chanRestart t i).cell m = s.cell m := by
  unfold State.chanRestart
  dsimp only
  split
  · split <;> simp
  · rfl

/-! ### Channels -/

@[simp] theorem State.cell_chainFrom (k from_ : Nat) : (s.chainFrom k from_).cell m = s.cell m := State.cell_congr rfl m
@[simp] theorem State.cell_showFilter (k : Nat) : (s.showFilter k).cell m = s.cell m := by simp [State.showFilter]

@[simp] theorem State.cell_boundaryChan (k at_ from_ : Nat) : (s.boundaryChan k at_ from_).cell m = s.cell m := by simp [State.boundaryChan]

@[simp] theorem State.cell_beginReset (k : Nat) (code : Int) (r : ResetRead) (before dst : Nat) (quiet : Bool) :
    (s.beginReset k code r before dst quiet).cell m = s.cell m := by
  simp only [State.beginReset, State.cell_setChan, State.cell_put, State.cell_incSat, State.cell_putPair]

@[simp] theorem State.cell_chanStart (k : Nat) : (s.chanStart k).cell m = s.cell m := by simp [State.chanStart]

@[simp] theorem State.cell_faultEnds (before : List Nat) : (s.faultEnds before).cell m = s.cell m :=
  s.cell_foldl m _ (fun s k => s.cell_setChan m k _) _

@[simp] theorem State.cell_excReport (c what cls : Nat) (confirm : Bool) (chan : Nat) : (s.excReport c what cls confirm chan).cell m = s.cell m := by
  simp [State.excReport]

end Sys2Proof.Machine
end

section
/-! SUPPORT. What the operations of chapter 03 make of a cell: scan steps, the excitation monitor, lead measurements and the cold junction. -/

namespace Sys2Proof.Machine

variable (s : State) (c : Nat)

@[simp] theorem CellSt.mon_setMon_same (x : CellSt) (n : Nat) (k : SrcMon) : (x.setMon n k).mon n = k := by simp [CellSt.mon, CellSt.setMon]

@[simp] theorem CellSt.leadOf_setLead_same (x : CellSt) (i : Nat) (l : LeadSt) : (x.setLead i l).leadOf i = l := by
  simp [CellSt.leadOf, CellSt.setLead]

/-- Steps that change a cell's monitors alone come to one change of them. -/
theorem CellSt.foldl_mons {α : Type} (f : CellSt → α → CellSt) (h : ∀ x a, ∃ ms, f x a = { x with mons := ms }) (l : List α) (x : CellSt) :
    ∃ ms, l.foldl f x = { x with mons := ms } := by
  induction l generalizing x with
  | nil => exact ⟨x.mons, rfl⟩
  | cons a l ih =>
    obtain ⟨ms, hms⟩ := h x a
    obtain ⟨ns, hns⟩ := ih (f x a)
    exact ⟨ns, by rw [List.foldl_cons, hns, hms]⟩

/-- Steps that change a cell's lead measurements alone come to one change of them. -/
theorem CellSt.foldl_leads {α : Type} (f : CellSt → α → CellSt) (h : ∀ x a, ∃ ls, f x a = { x with leads := ls }) (l : List α) (x : CellSt) :
    ∃ ls, l.foldl f x = { x with leads := ls } := by
  induction l generalizing x with
  | nil => exact ⟨x.leads, rfl⟩
  | cons a l ih =>
    obtain ⟨ms, hms⟩ := h x a
    obtain ⟨ns, hns⟩ := ih (f x a)
    exact ⟨ns, by rw [List.foldl_cons, hns, hms]⟩

/-! ### Scan steps (R69 to R71) -/

theorem State.cell_scanStart : ∃ ls, (s.scanStart c).cell c =
    { s.cell c with configAt := none, running := true, stepAt := s.lt, phase := 0, disCh := [], sw := s.stepSwitches c 0, mons := [],
                    hist := [(s.lt, 0)], leads := ls } := by
  obtain ⟨ls, hls⟩ := CellSt.foldl_leads (fun x i => x.setLead i { LeadSt.none_ with start := true }) (fun x i => ⟨_, rfl⟩)
    ([0, 1, 2, 3].filter (fun i => s.isSet (F.CELL_LEAD_CFG_WIRING c i)))
    { s.cell c with configAt := none, running := true, stepAt := s.lt, phase := 0, disCh := [], sw := s.stepSwitches c 0, mons := [], hist := [(s.lt, 0)] }
  refine ⟨ls, ?_⟩
  unfold State.scanStart
  dsimp only
  rw [hls, State.cell_foldl _ _ _ (fun u k => u.cell_chanStart c k), State.cell_foldl _ _ _ (fun u i => u.cell_put c _ _), State.cell_put,
    State.cell_setCell_same]

theorem State.cell_boundary : ∃ ms hist, (s.boundary c).cell c =
    { s.cell c with stepAt := (s.cell c).stepAt + s.dwellNs c (s.stepNow c), phase := 1,
                    disCh := [0, 1, 2, 3].filter (fun i => (s.stepSwitches c (s.stepNow c)).routeDiffers (s.stepSwitches c (s.stepNext c)) i),
                    sw := (s.cell c).sw.keep (s.withLead c ((s.cell c).stepAt + s.dwellNs c (s.stepNow c)) (s.stepSwitches c (s.stepNext c))),
                    mons := ms, hist := hist } := by
  unfold State.boundary
  simp only [State.cell_ite, State.cell_foldl, State.cell_setChan, State.cell_boundaryChan, State.cell_put, State.cell_setCell_same, implies_true, ite_self]
  refine (CellSt.foldl_mons _ (fun x n => ?_) _ _).imp fun ms hms => ⟨_, hms⟩
  split
  · exact ⟨_, rfl⟩
  · exact ⟨x.mons, rfl⟩

/-! ### The excitation monitor (R77 to R81) -/

theorem State.mon_srcBack (n : Nat) : ((s.srcBack c n).cell c).mon n = { SrcMon.ok with quietTo := ((s.cell c).mon n).quietTo } := by
  unfold State.srcBack
  dsimp only
  rw [State.cell_faultEnds, State.cell_incSat, State.cell_put, State.cell_setCell_same]
  split
  · exact CellSt.mon_setMon_same _ n _
  · exact CellSt.mon_setMon_same _ n _

/-- A check that agrees with the confirmed state ends the class's run (R78). -/
theorem SrcMon.step_agrees {m : SrcMon} {cls : Nat} {b : Bool} (d : Nat) (h : m.confirmed.contains cls = b) :
    m.step cls b d = ({ m with runs := tabSet (fun _ => 0) cls 0 m.runs }, false) := if_pos h.symm

/-- A check that disagrees counts while the run is short of DEBOUNCE (R78). -/
theorem SrcMon.step_counts {m : SrcMon} {cls d : Nat} {b : Bool} (h : m.confirmed.contains cls ≠ b) (hd : tabGet (fun _ => 0) m.runs cls + 1 < d) :
    m.step cls b d = ({ m with runs := tabSet (fun _ => 0) cls (tabGet (fun _ => 0) m.runs cls + 1) m.runs }, false) := by
  unfold SrcMon.step
  dsimp only
  rw [if_neg h.symm, if_neg (by omega)]

/-- The check that completes DEBOUNCE flips the class's state and ends its run (R78). -/
theorem SrcMon.step_flips {m : SrcMon} {cls d : Nat} {b : Bool} (h : m.confirmed.contains cls ≠ b) (hd : d ≤ tabGet (fun _ => 0) m.runs cls + 1) :
    m.step cls b d = ({ m with runs := tabSet (fun _ => 0) cls 0 m.runs, confirmed := if b then m.confirmed ++ [cls] else m.confirmed.erase cls }, true) := by
  have hb : b = !m.confirmed.contains cls := by cases b <;> cases hc : m.confirmed.contains cls <;> simp_all
  unfold SrcMon.step
  dsimp only
  rw [if_neg h.symm, if_pos hd, hb]
  cases m.confirmed.contains cls <;> rfl

/-- The flip moves the class to the state that the checks found. -/
theorem contains_flipped {l : List Nat} (hl : l.Nodup) (cls : Nat) (b : Bool) : (if b then l ++ [cls] else l.erase cls).contains cls = b := by
  cases b
  · simpa using hl.not_mem_erase
  · simp

/-- The flip leaves every other class as it was. -/
theorem contains_flipped_other {x cls : Nat} (h : x ≠ cls) (l : List Nat) (b : Bool) :
    (if b then l ++ [cls] else l.erase cls).contains x = l.contains x := by
  cases b
  · simp [List.mem_erase_of_ne h]
  · simp [h]

/-! ### Lead measurements (R82 to R88) -/

theorem State.leadStart_running {l : LeadRun} (i : Nat) (cycle : Word) (h : (s.cell c).lead = some l) :
    ∃ ls : LeadSt, s.leadStart c i cycle = s.setCell c ((s.cell c).setLead i { ls with waits := true }) := by
  unfold State.leadStart
  dsimp only
  rw [h]
  exact ⟨_, rfl⟩

theorem State.leadStart_blocked (i : Nat) (cycle : Word) (h : (s.cell c).lead = none) (hb : s.leadBlocked c i = true) :
    ∃ ls : LeadSt, s.leadStart c i cycle =
      ((s.setCell c ((s.cell c).setLead i ls)).put (F.CELL_LEAD_STAT_MISSED c i) 1).incSat (F.CELL_LEAD_STAT_MISSED_CNT c i) := by
  unfold State.leadStart
  dsimp only
  rw [h, hb]
  exact ⟨_, rfl⟩

theorem State.leadStart_begins (i : Nat) (cycle : Word) (h : (s.cell c).lead = none) (hb : s.leadBlocked c i = false) :
    ∃ ls : LeadSt, s.leadStart c i cycle =
      ((s.setCell c { (s.cell c).setLead i ls with lead := some ⟨i, s.lt, 0, 0, 0, 0⟩ }).put (F.CELL_LEAD_STAT_MISSED c i) 0).setBit
        (F.CELL_EXC_STAT_LEAD_BUSY c) i := by
  unfold State.leadStart
  dsimp only
  rw [h, hb]
  exact ⟨_, rfl⟩

theorem State.leadStep_of_none (phase offset : Nat) (h : (s.cell c).lead = none) : s.leadStep c phase offset = none := by
  simp only [State.leadStep, h]

theorem State.cell_leadGo (l : LeadRun) (t : Nat) :
    (s.leadGo c l t).cell c = { s.cell c with lead := some l, sw := (s.cell c).sw.setSource ((s.leadSource c).getD 0) t } :=
  State.cell_setCell_same s c _

theorem State.cell_leadEnd (l : LeadRun) : ∃ ls, (s.leadEnd c l).cell c =
    { s.cell c with lead := none, sw := s.sourceGoes c ((s.leadSource c).getD 0), leadFree := s.lt, leads := ls } := by
  have hlt : (if l.iNa = 0 then s.freeNext else s).lt = s.lt := by split <;> rfl
  have hgoes (n : Nat) : (if l.iNa = 0 then s.freeNext else s).sourceGoes c n = s.sourceGoes c n := by split <;> rfl
  unfold State.leadEnd
  simp only [State.cell_faultEnds, State.cell_ite, State.cell_excReport, State.cell_setChan, State.cell_putB, State.cell_put, State.cell_incWrap,
    State.cell_clearBit, State.cell_setCell_same, ite_self, hlt, hgoes]
  exact ⟨_, rfl⟩

theorem State.get_congr {s t : State} (h : t.regs = s.regs) (f : Fld) : t.get f = s.get f := by simp only [State.get, State.rd, h]

theorem State.isSet_congr {s t : State} (h : t.regs = s.regs) (f : Fld) : t.isSet f = s.isSet f := by rw [State.isSet, State.isSet, State.get_congr h]

theorem State.measNa_congr {s t : State} (h : t.regs = s.regs) (n : Nat) : t.measNa c n = s.measNa c n := by
  simp only [State.measNa, State.get_congr h]

theorem State.leadSource_congr {s t : State} (hlead : (t.cell c).lead = (s.cell c).lead) (h : t.regs = s.regs) : t.leadSource c = s.leadSource c := by
  unfold State.leadSource
  rw [hlead]
  cases (s.cell c).lead with
  | none => rfl
  | some l => dsimp only; rw [State.isSet_congr h]

@[simp] theorem State.modeNote_regs (a : Option Nat) : (s.modeNote c a).regs = s.regs := by
  unfold State.modeNote
  split
  · split <;> rfl
  · rfl

/-- An excursion noted is among the cell's, and nothing else of the cell moves (R34). -/
theorem State.cell_modeNote (a : Nat) : ∃ cm, a ∈ cm ∧ (s.modeNote c (some a)).cell c = { s.cell c with cm := cm } := by
  unfold State.modeNote
  dsimp only
  split
  case isTrue h => exact ⟨(s.cell c).cm, by simpa using h, rfl⟩
  case isFalse => exact ⟨(s.cell c).cm ++ [a], by simp, State.cell_setCell_same s c _⟩

theorem State.lead_modeNote (a : Option Nat) : ((s.modeNote c a).cell c).lead = (s.cell c).lead := by
  cases a with
  | none => rfl
  | some a =>
    obtain ⟨cm, -, hcell⟩ := s.cell_modeNote c a
    rw [hcell]

@[simp] theorem State.leadSource_modeNote (a : Option Nat) : (s.modeNote c a).leadSource c = s.leadSource c :=
  State.leadSource_congr c (s.lead_modeNote c a) (s.modeNote_regs c a)

/-! ### The cold junction (R89) -/

theorem State.cjUpdate_bad (hn : (s.cell c).cjBad < 2) :
    s.cjUpdate c none = s.setCell c { s.cell c with cjBad := (s.cell c).cjBad + 1, cjGood := 0 } := by
  unfold State.cjUpdate
  dsimp only
  rw [if_neg (by simp), if_neg (by omega)]

theorem State.cjUpdate_third_bad (hf : (s.cell c).cjFault = false) (hn : 2 ≤ (s.cell c).cjBad) : ((s.cjUpdate c none).cell c).cjFault = true := by
  unfold State.cjUpdate
  dsimp only
  rw [if_neg (by simp), if_pos ⟨by omega, by simp [hf]⟩]
  simp

theorem State.cjUpdate_good {v : Int} (hlo : -5120 ≤ v) (hhi : v ≤ 12800) (hf : (s.cell c).cjFault = false) :
    s.cjUpdate c (some v) =
      ((s.put (F.CELL_CJ_CJ_TEMP c) (v % 65536).toNat).setCell c { s.cell c with cjBad := 0, cjGood := 0 }).put (F.CELL_CJ_CJ_VALID c) 1 := by
  unfold State.cjUpdate
  dsimp only
  rw [if_pos (by simp [hlo, hhi]), hf]
  rfl

end Sys2Proof.Machine
end

section
/-! SUPPORT. The commands of chapter 03: the statement O33. -/

namespace Sys2Proof.Machine

variable {s : State} {c : Fin 32}

/-! ### The commands: what each does once its time has come, and that it does nothing before -/

theorem exec_scanStart_due {a : Nat} (h : (s.cell c).configAt = some a) (hgrid : s.lt % 5120 = 0) (ha : a < s.lt) :
    exec (.scanStart c) s = .next (s.scanStart c) := by
  change execScanStart c s = _
  simp only [execScanStart, h]
  exact if_pos ⟨hgrid, ha⟩

theorem exec_scanStart_offGrid (h : s.lt % 5120 ≠ 0) : exec (.scanStart c) s = .next s := by
  change execScanStart c s = _
  unfold execScanStart
  split
  · exact if_neg (fun hand => h hand.1)
  · rfl

theorem exec_scanStart_notConfigured (h : (s.cell c).configAt = none) : exec (.scanStart c) s = .next s := by
  change execScanStart c s = _
  simp only [execScanStart, h]

theorem exec_scanStepBoundary : exec (.scanStepBoundary c) s =
    if (s.cell c).running ∧ (s.cell c).phase = 0 ∧ s.get (F.CELL_CFG_LAST_STEP c) ≠ 0 ∧ (s.cell c).stepAt + s.dwellNs c (s.stepNow c) ≤ s.lt then
      .next (s.boundary c)
    else .next s := rfl

theorem exec_dischargeStart (vs : List ResetRead) : exec (.dischargeStart c vs) s =
    if s.seqAt c 1 20 then
      .next (((s.cell c).disCh.foldl (fun s i => s.dischargeReset (4 * c.val + i) (vs.getD i ⟨[], 0⟩)) s).seqTo c 2)
    else .next s := rfl

theorem exec_dischargeEnd : exec (.dischargeEnd c) s = if s.seqAt c 2 (s.disNs c + 20) then .next (s.seqTo c 3) else .next s := rfl

theorem exec_newSwitchesClose : exec (.newSwitchesClose c) s =
    if s.seqAt c 3 (s.disNs c + 40) then
      .next (s.setCell c { s.cell c with sw := s.withLead c (s.cell c).stepAt (s.stepSwitches c (s.stepNow c)), phase := 4 })
    else .next s := rfl

theorem exec_switchingSequenceEnd : exec (.switchingSequenceEnd c) s =
    if s.seqAt c 4 (s.disNs c + 60) then .next (s.setCell c { s.cell c with phase := 0, disCh := [] }) else .next s := rfl

theorem exec_excCheck (rs : List ExcRead) : exec (.excCheck rs) s = if s.lt % 10240 = 0 then .next (s.excCheck rs) else .next s := rfl

theorem exec_sourceRetry_on {n : Fin 3} (h : ((s.cell c).mon n).off = none) : exec (.sourceRetry c n) s = .next s := by
  change execSourceRetry c n s = _
  simp only [execSourceRetry, h]

theorem exec_sourceRetry_off {n : Fin 3} {a : Nat} (h : ((s.cell c).mon n).off = some a) : exec (.sourceRetry c n) s =
    if s.get (F.CELL_EXC_TOL_RETRY_S c) ≠ 0 ∧ a + s.get (F.CELL_EXC_TOL_RETRY_S c) * 1000000000 ≤ s.lt then .next (s.srcBack c n) else .next s := by
  change execSourceRetry c n s = _
  simp only [execSourceRetry, h]

theorem exec_sourceRetry_due {n : Fin 3} {a : Nat} (h : ((s.cell c).mon n).off = some a) (hretry : s.get (F.CELL_EXC_TOL_RETRY_S c) ≠ 0)
    (hdue : a + s.get (F.CELL_EXC_TOL_RETRY_S c) * 1000000000 ≤ s.lt) : exec (.sourceRetry c n) s = .next (s.srcBack c n) := by
  rw [exec_sourceRetry_off h, if_pos ⟨hretry, hdue⟩]

/-- RETRY_S 0 leaves a source that is switched off as it is (R80). -/
theorem exec_sourceRetry_never {n : Fin 3} (h : s.get (F.CELL_EXC_TOL_RETRY_S c) = 0) : exec (.sourceRetry c n) s = .next s := by
  cases hoff : ((s.cell c).mon n).off with
  | none => exact exec_sourceRetry_on hoff
  | some a => rw [exec_sourceRetry_off hoff, if_neg (fun hand => hand.1 h)]

theorem exec_leadMeasurementStart (i : Fin 4) (cycle : Word) : exec (.leadMeasurementStart c i cycle) s =
    if (s.cell c).running ∧ s.lt % 5120 = 0 ∧ s.get (F.CELL_LEAD_CFG_WIRING c i) ≠ 0 ∧ s.leadDue c i cycle ∧ s.leadAngleCome c i cycle
      ∧ s.leadTurn c i cycle ∧ (s.cell c).lead.all (fun l => l.chan != i.val) then .next (s.leadStart c i cycle)
    else .next s := rfl

theorem exec_leadBaselineEnd {l : LeadRun} (nv : Int) (h : s.leadStep c 0 1024000 = some l) :
    exec (.leadBaselineEnd c nv) s = .next ((s.leadGo c { l with phase := 1, base := nv } 15).leadSettle c l) := by
  change execLeadBaselineEnd c nv s = _
  simp only [execLeadBaselineEnd, h]

theorem exec_leadSourceJoin {l : LeadRun} (h : s.leadStep c 1 1024040 = some l) :
    exec (.leadSourceJoin c) s = .next (s.leadGo c { l with phase := 2 } (s.get (F.CELL_LEAD_CFG_LEAD_T c l.chan))) := by
  change execLeadSourceJoin c s = _
  simp only [execLeadSourceJoin, h]

theorem exec_leadIntegrationStart {l : LeadRun} (h : s.leadStep c 2 1228800 = some l) :
    exec (.leadIntegrationStart c) s = .next (s.leadGo c { l with phase := 3 } (s.get (F.CELL_LEAD_CFG_LEAD_T c l.chan))) := by
  change execLeadIntegrationStart c s = _
  simp only [execLeadIntegrationStart, h]

/-- The second reading goes into the measurement, beside the current measured last; the excursion, where it falls into the measurement, is noted (R34, R83). -/
theorem exec_leadIntegrationEnd {l : LeadRun} (nv : Int) (cm : Option Nat) (h : s.leadStep c 3 2252800 = some l) :
    exec (.leadIntegrationEnd c nv cm) s =
      .next ((s.modeNote c (cm.filter (fun t => decide (l.at_ ≤ t) && decide (t ≤ s.lt)))).leadGo c
        { l with phase := 4, second := nv, iNa := s.measNa c ((s.leadSource c).getD 0) } 15) := by
  change execLeadIntegrationEnd c nv cm s = _
  simp only [execLeadIntegrationEnd, h]
  rw [State.leadSource_modeNote, State.measNa_congr c (s.modeNote_regs c _)]

theorem exec_leadMeasurementEnd {l : LeadRun} (h : s.leadStep c 4 2252840 = some l) : exec (.leadMeasurementEnd c) s = .next (s.leadEnd c l) := by
  change execLeadMeasurementEnd c s = _
  simp only [execLeadMeasurementEnd, h]

/-- Without a measurement none of its steps does anything. -/
theorem exec_leadSteps_idle (nv : Int) (cm : Option Nat) (h : (s.cell c).lead = none) :
    exec (.leadBaselineEnd c nv) s = .next s ∧ exec (.leadSourceJoin c) s = .next s ∧ exec (.leadIntegrationStart c) s = .next s ∧
      exec (.leadIntegrationEnd c nv cm) s = .next s ∧ exec (.leadMeasurementEnd c) s = .next s := by
  have hstep (phase offset : Nat) : s.leadStep c phase offset = none := s.leadStep_of_none c phase offset h
  refine ⟨?_, ?_, ?_, ?_, ?_⟩
  · change execLeadBaselineEnd c nv s = _
    simp only [execLeadBaselineEnd, hstep]
  · change execLeadSourceJoin c s = _
    simp only [execLeadSourceJoin, hstep]
  · change execLeadIntegrationStart c s = _
    simp only [execLeadIntegrationStart, hstep]
  · change execLeadIntegrationEnd c nv cm s = _
    simp only [execLeadIntegrationEnd, hstep]
  · change execLeadMeasurementEnd c s = _
    simp only [execLeadMeasurementEnd, hstep]

theorem exec_cjUpdate (r : Option Int) :
    exec (.cjUpdate c r) s = if (s.cell c).running ∧ s.lt % 10240000 = 0 then .next (s.cjUpdate c r) else .next s := rfl

/-! ### What the commands leave in the cell and its registers -/

theorem dischargeStart_noChange (vs : List ResetRead) (h : s.seqAt c 1 20 = true) (hnone : (s.cell c).disCh = []) :
    Completes (.dischargeStart c vs) s (fun t => t = s.seqTo c 2 ∧ (t.cell c).phase = 2) := by
  refine ⟨s.seqTo c 2, ?_, rfl, congrArg CellSt.phase (s.cell_setCell_same c _)⟩
  rw [exec_dischargeStart, if_pos h, hnone, List.foldl_nil]

theorem newSwitchesClose_completes (h : s.seqAt c 3 (s.disNs c + 40) = true) :
    Completes (.newSwitchesClose c) s (fun t => (t.cell c).phase = 4 ∧
      (t.cell c).sw = s.withLead c (s.cell c).stepAt (s.stepSwitches c (s.stepNow c))) :=
  ⟨_, exec_newSwitchesClose.trans (if_pos h), congrArg CellSt.phase (s.cell_setCell_same c _), congrArg CellSt.sw (s.cell_setCell_same c _)⟩

theorem switchingSequenceEnd_completes (h : s.seqAt c 4 (s.disNs c + 60) = true) :
    Completes (.switchingSequenceEnd c) s (fun t => (t.cell c).phase = 0 ∧ (t.cell c).disCh = []) :=
  ⟨_, exec_switchingSequenceEnd.trans (if_pos h), congrArg CellSt.phase (s.cell_setCell_same c _), congrArg CellSt.disCh (s.cell_setCell_same c _)⟩

/-- Bit `i` of a field reads 1 after it was set. -/
theorem State.bit_setBit_same (s : State) (f : Fld) {i : Nat} (hi : i < f.width) (hf : f.lo + f.width ≤ 32) : (s.setBit f i).bit f i = true := by
  unfold State.bit State.setBit
  rw [s.get_put_same f _ hf, Nat.testBit_mod_two_pow, Nat.testBit_or, Nat.testBit_two_pow_self, Bool.or_true, decide_eq_true hi]
  rfl

theorem leadStart_begins_result (i : Fin 4) (cycle : Word) (h : (s.cell c).lead = none) (hb : s.leadBlocked c i = false) :
    ((s.leadStart c i cycle).cell c).lead = some ⟨i, s.lt, 0, 0, 0, 0⟩ ∧ (s.leadStart c i cycle).get (F.CELL_LEAD_STAT_MISSED c i) = 0 ∧
      (s.leadStart c i cycle).bit (F.CELL_EXC_STAT_LEAD_BUSY c) i = true := by
  obtain ⟨ls, hstart⟩ := s.leadStart_begins c i cycle h hb
  rw [hstart]
  refine ⟨?_, ?_, ?_⟩
  · rw [State.cell_setBit, State.cell_put, State.cell_setCell_same]
  · have hapart : R.CELL_LEAD_STAT c i ≠ R.CELL_EXC_STAT c := by simp only [R.CELL_EXC_STAT, R.CELL_LEAD_STAT]; omega
    rw [State.setBit, State.get_put_other _ _ _ _ hapart, State.get_put_same _ _ _ (by dsimp only; omega)]
    rfl
  · exact State.bit_setBit_same _ _ i.isLt (by dsimp only; omega)

theorem leadStart_blocked_result (i : Fin 4) (cycle : Word) (h : (s.cell c).lead = none) (hb : s.leadBlocked c i = true) :
    ((s.leadStart c i cycle).cell c).lead = none ∧ (s.leadStart c i cycle).get (F.CELL_LEAD_STAT_MISSED c i) = 1 := by
  obtain ⟨ls, hstart⟩ := s.leadStart_blocked c i cycle h hb
  rw [hstart]
  constructor
  · rw [State.cell_incSat, State.cell_put, State.cell_setCell_same]
    exact h
  · rw [State.incSat, State.get_put_apart _ _ _ _ (by dsimp only; omega) (by dsimp only; omega), State.get_put_same _ _ _ (by dsimp only; omega)]
    rfl

theorem leadStart_running_result {l : LeadRun} (i : Fin 4) (cycle : Word) (h : (s.cell c).lead = some l) :
    ((s.leadStart c i cycle).cell c).lead = some l ∧ (((s.leadStart c i cycle).cell c).leadOf i).waits = true ∧ (s.leadStart c i cycle).regs = s.regs := by
  obtain ⟨ls, hstart⟩ := s.leadStart_running c i cycle h
  rw [hstart, State.cell_setCell_same, CellSt.leadOf_setLead_same]
  exact ⟨h, rfl, rfl⟩

theorem leadIntegrationEnd_notes {l : LeadRun} {a : Nat} (nv : Int) (h : s.leadStep c 3 2252800 = some l) (hlo : l.at_ ≤ a) (hhi : a ≤ s.lt) :
    Completes (.leadIntegrationEnd c nv (some a)) s (fun t => a ∈ (t.cell c).cm ∧
      (t.cell c).lead = some { l with phase := 4, second := nv, iNa := s.measNa c ((s.leadSource c).getD 0) }) := by
  obtain ⟨cm, hmem, hnote⟩ := s.cell_modeNote c a
  refine ⟨_, exec_leadIntegrationEnd nv (some a) h, ?_⟩
  dsimp only
  rw [Option.filter_some_pos (by simp [hlo, hhi]), State.cell_leadGo, hnote]
  exact ⟨hmem, rfl⟩

theorem cjUpdate_bad_completes (hrun : (s.cell c).running = true) (hgrid : s.lt % 10240000 = 0) (hfew : (s.cell c).cjBad < 2) :
    Completes (.cjUpdate c none) s (fun t => (t.cell c).cjBad = (s.cell c).cjBad + 1 ∧ t.regs = s.regs) := by
  refine ⟨_, (exec_cjUpdate none).trans (if_pos ⟨hrun, hgrid⟩), ?_⟩
  rw [s.cjUpdate_bad c hfew]
  exact ⟨congrArg CellSt.cjBad (s.cell_setCell_same c _), rfl⟩

theorem cjUpdate_good_completes {v : Int} (hlo : -5120 ≤ v) (hhi : v ≤ 12800) (hrun : (s.cell c).running = true) (hgrid : s.lt % 10240000 = 0)
    (hfault : (s.cell c).cjFault = false) :
    Completes (.cjUpdate c (some v)) s (fun t => t.get (F.CELL_CJ_CJ_TEMP c) = (v % 65536).toNat ∧ t.get (F.CELL_CJ_CJ_VALID c) = 1 ∧
      (t.cell c).cjBad = 0) := by
  refine ⟨_, (exec_cjUpdate (some v)).trans (if_pos ⟨hrun, hgrid⟩), ?_⟩
  rw [s.cjUpdate_good c hlo hhi hfault]
  refine ⟨?_, ?_, ?_⟩
  · rw [State.get_put_apart _ _ _ _ (by dsimp only; omega) (by dsimp only; omega), State.get_setCell, State.get_put_same _ _ _ (by dsimp only; omega)]
    exact Nat.mod_eq_of_lt (by dsimp only; omega)
  · rw [State.get_put_same _ _ _ (by dsimp only; omega)]
    rfl
  · rw [State.cell_put, State.cell_setCell_same]

theorem cjUpdate_third_bad_completes (hrun : (s.cell c).running = true) (hgrid : s.lt % 10240000 = 0) (hfault : (s.cell c).cjFault = false)
    (hthird : 2 ≤ (s.cell c).cjBad) : Completes (.cjUpdate c none) s (fun t => (t.cell c).cjFault = true) :=
  ⟨_, (exec_cjUpdate none).trans (if_pos ⟨hrun, hgrid⟩), s.cjUpdate_third_bad c hfault hthird⟩

/-- Settles O33: each clause is what a command does once its time has come, or that it does nothing before; what the commands leave of a cell is read off the
laws above, since no other unit touches the table of cells. -/
theorem cellEvents : Obligations.CellEvents := by
  unfold Obligations.CellEvents
  refine ⟨fun s c n i cycle a nv l rs r vs => ?_, fun m cls d b hm => ?_⟩
  · obtain ⟨_, hscan⟩ := s.cell_scanStart c
    obtain ⟨_, _, hbound⟩ := s.cell_boundary c
    obtain ⟨_, hend⟩ := s.cell_leadEnd c l
    refine ⟨
      -- the scan (R69, R70)
      exec_scanStart_due, ?_, exec_scanStart_offGrid, exec_scanStart_notConfigured,
      fun hrun hphase hlast hdue => exec_scanStepBoundary.trans (if_pos ⟨hrun, hphase, hlast, hdue⟩), ?_,
      fun h => exec_scanStepBoundary.trans (if_neg (fun hand => hand.2.2.1 h)),
      fun h => exec_scanStepBoundary.trans (if_neg (fun hand => Nat.not_le_of_lt h hand.2.2.2)),
      -- the switching sequence (R71)
      dischargeStart_noChange vs, fun h => (exec_dischargeStart vs).trans (if_pos h),
      fun h => (exec_dischargeStart vs).trans (if_neg (ne_true_of_eq_false h)),
      fun h => ⟨_, exec_dischargeEnd.trans (if_pos h), rfl⟩, fun h => exec_dischargeEnd.trans (if_neg (ne_true_of_eq_false h)),
      newSwitchesClose_completes, fun h => exec_newSwitchesClose.trans (if_neg (ne_true_of_eq_false h)),
      switchingSequenceEnd_completes, fun h => exec_switchingSequenceEnd.trans (if_neg (ne_true_of_eq_false h)),
      -- the excitation monitor (R77, R80)
      fun h => (exec_excCheck rs).trans (if_pos h), fun h => (exec_excCheck rs).trans (if_neg h),
      exec_sourceRetry_due, ?_, exec_sourceRetry_never, exec_sourceRetry_on,
      -- lead measurements (R83 to R86)
      fun hrun hgrid hwired hdue hangle hturn hother =>
        (exec_leadMeasurementStart i cycle).trans (if_pos ⟨hrun, hgrid, hwired, hdue, hangle, hturn, hother⟩),
      leadStart_begins_result i cycle, leadStart_blocked_result i cycle, leadStart_running_result i cycle,
      fun h => (exec_leadMeasurementStart i cycle).trans (if_neg (fun hand => ne_true_of_eq_false h hand.2.2.2.1)),
      exec_leadBaselineEnd nv, exec_leadSourceJoin, exec_leadIntegrationStart, exec_leadIntegrationEnd nv none, leadIntegrationEnd_notes nv,
      exec_leadMeasurementEnd, ?_, exec_leadSteps_idle nv (some a), fun t _ => s.cell_leadGo c l t,
      -- the cold junction (R89)
      fun hrun hgrid => (exec_cjUpdate r).trans (if_pos ⟨hrun, hgrid⟩),
      fun hrun hgrid _ hfew => cjUpdate_bad_completes hrun hgrid hfew,
      fun v hlo hhi hrun hgrid hfault => cjUpdate_good_completes hlo hhi hrun hgrid hfault,
      cjUpdate_third_bad_completes, fun h => (exec_cjUpdate r).trans (if_neg (fun hand => h hand.2))⟩
    case refine_1 => rw [hscan]; exact ⟨rfl, rfl, rfl, rfl, rfl⟩
    case refine_2 => rw [hbound]; exact ⟨rfl, rfl, rfl, rfl⟩
    case refine_3 => rw [s.mon_srcBack]; exact ⟨rfl, rfl⟩
    case refine_4 => rw [hend]; exact ⟨rfl, rfl, rfl⟩
  · refine ⟨SrcMon.step_agrees d, fun h hd => ?_, fun h hd => ?_⟩
    · rw [SrcMon.step_counts h hd]
      exact ⟨rfl, rfl, by simp only [tabGet_tabSet_same]⟩
    · rw [SrcMon.step_flips h hd]
      exact ⟨rfl, contains_flipped hm cls b, by simp only [tabGet_tabSet_same], fun x hx => contains_flipped_other hx _ b⟩

end Sys2Proof.Machine
end

section
/-! SUPPORT. Channels and mains trackers (chapter 04): what a channel's range moves, resets and blanks leave, what a tracker makes of an edge, a lock and the
loss of its source. -/

namespace Sys2Proof.Machine

variable {s : State}

/-! ### Fields and channels after a change -/

/-- A field of at least one bit, set from a condition, reads as that condition. -/
theorem State.isSet_putB_same (s : State) (f : Fld) (b : Bool) (hf : f.lo + f.width ≤ 32) (hw : f.width ≠ 0) : (s.putB f b).isSet f = b := by
  rw [State.isSet, State.putB, s.get_put_same f _ hf]
  cases b
  · simp
  · simp [Nat.mod_eq_of_lt (Nat.one_lt_two_pow hw)]

theorem State.isSet_putB_other (s : State) {f g : Fld} (b : Bool) (h : g.addr ≠ f.addr) : (s.putB f b).isSet g = s.isSet g := by
  rw [State.isSet, State.isSet, State.putB, s.get_put_other f g _ h]

@[simp] theorem State.chan_setChan_same (s : State) (k : Nat) (x : ChanSt) : (s.setChan k x).chan k = x := by simp [State.chan, State.setChan]

/-- A channel is read from the table of channels alone. -/
theorem State.chan_congr {s t : State} (h : t.chans = s.chans) (k : Nat) : t.chan k = s.chan k := by rw [State.chan, State.chan, h]

@[simp] theorem State.chan_put (s : State) (f : Fld) (n k : Nat) : (s.put f n).chan k = s.chan k := State.chan_congr rfl k
@[simp] theorem State.chan_incSat (s : State) (f : Fld) (n k : Nat) : (s.incSat f n).chan k = s.chan k := State.chan_congr rfl k

@[simp] theorem State.isSet_setMainsLog (s : State) (f : Fld) (t : Nat) (l : List (Nat × Nat)) : (s.setMainsLog t l).isSet f = s.isSet f :=
  State.isSet_congr rfl f

@[simp] theorem State.mainsEdges_setMainsLog (s : State) (t : Nat) (l : List (Nat × Nat)) : (s.setMainsLog t l).mainsEdges = s.mainsEdges := rfl

@[simp] theorem State.inDischarge_setChan (s : State) (n : Nat) (x : ChanSt) (k : Nat) : (s.setChan n x).inDischarge k = s.inDischarge k := by
  simp only [State.inDischarge, State.cell_setChan]

/-! ### A move up and the end of a blank (R101, R105, R106) -/

/-- Channel `k` moved up one range at the next clock edge (R101). -/
def State.rangeUp (s : State) (k : Nat) : State :=
  let e := ceilTo 80 s.lt
  (((s.setChan k { s.chan k with stitch := (s.chan k).stitch ++ [e], lastChange := e,
                                 up := some ⟨e, s.get (F.CH_CNT_UPRANGES k), s.get (F.CH_STAT_UP_SEEN k)⟩ }).put
    (F.CH_STAT_RANGE_NOW k) (s.get (F.CH_STAT_RANGE_NOW k) + 1)).put (F.CH_STAT_UP_SEEN k) 1).incSat (F.CH_CNT_UPRANGES k)

theorem State.chan_rangeUp (s : State) (k : Nat) : (s.rangeUp k).chan k =
    { s.chan k with stitch := (s.chan k).stitch ++ [ceilTo 80 s.lt], lastChange := ceilTo 80 s.lt,
                    up := some ⟨ceilTo 80 s.lt, s.get (F.CH_CNT_UPRANGES k), s.get (F.CH_STAT_UP_SEEN k)⟩ } := by
  simp only [State.rangeUp, State.chan_incSat, State.chan_put, State.chan_setChan_same]

/-- The count of moves lies in a register of its own, so it leaves CHk_STAT. -/
theorem State.get_incSat_upranges (s : State) (k : Nat) {f : Fld} (hf : f.addr = R.CH_STAT k) : (s.incSat (F.CH_CNT_UPRANGES k)).get f = s.get f :=
  s.get_put_other _ _ _ (by rw [hf]; simp only [R.CH_STAT, R.CH_CNT]; omega)

theorem State.get_upSeen_rangeUp (s : State) (k : Nat) : (s.rangeUp k).get (F.CH_STAT_UP_SEEN k) = 1 := by
  rw [State.rangeUp, State.get_incSat_upranges _ k rfl, State.get_put_same _ _ _ (by dsimp only; omega)]
  rfl

/-- A range below MAX_RANGE, a field of 3 bits, has a next one that RANGE_NOW holds. -/
theorem State.get_rangeNow_rangeUp (s : State) (k : Nat) (h : s.get (F.CH_STAT_RANGE_NOW k) < s.get (F.CH_MODE_MAX_RANGE k)) :
    (s.rangeUp k).get (F.CH_STAT_RANGE_NOW k) = s.get (F.CH_STAT_RANGE_NOW k) + 1 := by
  have hmax : s.get (F.CH_MODE_MAX_RANGE k) < 2 ^ 3 := Fld.ofWord_lt (F.CH_MODE_MAX_RANGE k) _
  rw [State.rangeUp, State.get_incSat_upranges _ k rfl, State.get_put_apart _ _ _ _ (by dsimp only; omega) (by dsimp only; omega),
    State.get_put_same _ _ _ (by dsimp only; omega)]
  exact Nat.mod_eq_of_lt (by dsimp only; omega)

/-- Channel `k`'s blank is over: the range chosen at the reset applies, and a lower one than before is noted (R105, R106). -/
def State.blankOver (s : State) (k : Nat) : State :=
  let u := ((s.setChan k { s.chan k with blankAt := none }).put (F.CH_STAT_BLANKING k) 0).put (F.CH_STAT_RANGE_NOW k) (s.chan k).newRange
  if (s.chan k).newRange < s.get (F.CH_STAT_RANGE_NOW k) then u.put (F.CH_STAT_DOWN_SEEN k) 1 else u

theorem State.chan_blankOver (s : State) (k : Nat) : (s.blankOver k).chan k = { s.chan k with blankAt := none } := by
  unfold State.blankOver
  split
  · simp only [State.chan_put, State.chan_setChan_same]
  · simp only [State.chan_put, State.chan_setChan_same]

/-- A field below DOWN_SEEN reads what the blank's end sets, whether the move down is noted or not. -/
theorem State.get_blankOver (s : State) (k : Nat) {f : Fld} (hf : f.lo + f.width ≤ 11) :
    (s.blankOver k).get f = (((s.setChan k { s.chan k with blankAt := none }).put (F.CH_STAT_BLANKING k) 0).put
      (F.CH_STAT_RANGE_NOW k) (s.chan k).newRange).get f := by
  unfold State.blankOver
  split
  · exact State.get_put_apart _ _ _ _ (by dsimp only; omega) (by dsimp only; omega)
  · rfl

theorem State.get_blanking_blankOver (s : State) (k : Nat) : (s.blankOver k).get (F.CH_STAT_BLANKING k) = 0 := by
  rw [s.get_blankOver k (by dsimp only; omega), State.get_put_apart _ _ _ _ (by dsimp only; omega) (by dsimp only; omega),
    State.get_put_same _ _ _ (by dsimp only; omega), Nat.zero_mod]

theorem State.get_rangeNow_blankOver (s : State) (k : Nat) (h : (s.chan k).newRange < 8) :
    (s.blankOver k).get (F.CH_STAT_RANGE_NOW k) = (s.chan k).newRange := by
  rw [s.get_blankOver k (by dsimp only; omega), State.get_put_same _ _ _ (by dsimp only; omega)]
  exact Nat.mod_eq_of_lt h

/-! ### Resets (R105, R108) -/

theorem State.get_blanking_beginReset (s : State) (k : Nat) (code : Int) (r : ResetRead) (before dst : Nat) (quiet : Bool) :
    (s.beginReset k code r before dst quiet).get (F.CH_STAT_BLANKING k) = 1 := by
  rw [State.beginReset, State.get_setChan, State.get_put_same _ _ _ (by dsimp only; omega)]
  rfl

theorem State.chan_beginReset (s : State) (k : Nat) (code : Int) (r : ResetRead) (before dst : Nat) (quiet : Bool) :
    ((s.beginReset k code r before dst quiet).chan k).blankAt = some (ceilTo 80 s.lt) ∧
      ((s.beginReset k code r before dst quiet).chan k).newRange = dst := by
  rw [State.beginReset, State.chan_setChan_same]
  exact ⟨rfl, rfl⟩

/-- Outside a blank and a discharge a running channel's reset is made (R105). -/
theorem State.chanReset_begins {k : Nat} (r : ResetRead) (hon : (s.chan k).on = true) (hblank : s.isSet (F.CH_STAT_BLANKING k) = false)
    (hdis : s.inDischarge k = false) : s.chanReset k r = s.resetNow k r (fun x => x.resetRange k r) false :=
  if_neg (by simp [hon, hblank, hdis])

/-- In a running blank a reset of another cause merges into it (R108). -/
theorem State.chanReset_blanking {k : Nat} (r : ResetRead) (hblank : s.isSet (F.CH_STAT_BLANKING k) = true) : s.chanReset k r = s :=
  if_pos (by simp [hblank])

/-- Outside a blank a scheduled reset is a reset like any other (R108). -/
theorem State.schedReset_noBlank {k : Nat} (r : ResetRead) (hblank : s.isSet (F.CH_STAT_BLANKING k) = false) : s.schedReset k r = s.chanReset k r :=
  if_neg (by simp [hblank])

/-- A scheduled reset is taken for a later cycle than the last one only (R105). -/
theorem State.schedDue_later {k : Nat} {c : Word} (h : s.schedDue k c = true) : laterCycle (s.chan k).schedDone c = true := by
  simp only [State.schedDue, Bool.and_eq_true] at h
  exact h.1.2

/-! ### A tracker's source and its estimates (R116) -/

theorem State.isSet_usingCh_mainsUse (s : State) (t : Nat) (ch : Bool) : (s.mainsUse t ch).isSet (F.MAINS_STAT_USING_CH t) = ch := by
  unfold State.mainsUse
  split
  case isTrue h => exact h
  case isFalse =>
    rw [State.isSet_setMainsLog]
    exact s.isSet_putB_same (F.MAINS_STAT_USING_CH t) ch (by dsimp only; omega) (by dsimp only; omega)

/-- The trackers' registers lie apart, so a tracker's source leaves those of the others. -/
theorem State.isSet_usingCh_mainsUse_other (s : State) {t n : Nat} (ch : Bool) (h : n ≠ t) :
    (s.mainsUse t ch).isSet (F.MAINS_STAT_USING_CH n) = s.isSet (F.MAINS_STAT_USING_CH n) := by
  have hapart : R.MAINS_STAT n ≠ R.MAINS_STAT t := by simp only [R.MAINS_STAT, mainsBase]; omega
  unfold State.mainsUse
  split
  · rfl
  · rw [State.isSet_setMainsLog, s.isSet_putB_other ch hapart]

theorem State.mainsEdges_mainsUse (s : State) (t : Nat) (ch : Bool) : (s.mainsUse t ch).mainsEdges = s.mainsEdges := by
  unfold State.mainsUse
  split
  · rfl
  · rw [State.mainsEdges_setMainsLog, State.putB_mainsEdges]

/-- What tile `t`'s tracker makes of a rising edge (R116): it uses MAINS_SENSE, and takes the estimate where the edges give one. -/
def State.mainsTurn (s : State) (t : Nat) : State :=
  let u := s.mainsUse t false
  match u.mainsPeriod with
  | some f => u.mainsNote t f
  | none => u

theorem State.isSet_withEstimates (s : State) (l : List (Nat × List (Nat × Nat))) (f : Fld) :
    ({ s with mainsRun := l } : State).isSet f = s.isSet f := State.isSet_congr rfl f

/-- Beside the source, an edge moves a tracker's estimates alone. -/
theorem State.mainsTurn_eq (s : State) (t : Nat) : ∃ l, s.mainsTurn t = { s.mainsUse t false with mainsRun := l } := by
  unfold State.mainsTurn
  dsimp only
  split
  · exact ⟨_, rfl⟩
  · exact ⟨_, rfl⟩

theorem State.mainsEdges_mainsTurn (s : State) (t : Nat) : (s.mainsTurn t).mainsEdges = s.mainsEdges := by
  obtain ⟨l, hturn⟩ := s.mainsTurn_eq t
  rw [hturn]
  exact s.mainsEdges_mainsUse t false

theorem State.isSet_usingCh_mainsTurn (s : State) (t : Nat) : (s.mainsTurn t).isSet (F.MAINS_STAT_USING_CH t) = false := by
  obtain ⟨l, hturn⟩ := s.mainsTurn_eq t
  rw [hturn]
  exact (State.isSet_withEstimates _ l _).trans (s.isSet_usingCh_mainsUse t false)

/-- A tracker on MAINS_SENSE stays there while the others take the edge. -/
theorem State.isSet_usingCh_mainsTurn_keeps (s : State) (t : Nat) {n : Nat} (h : s.isSet (F.MAINS_STAT_USING_CH n) = false) :
    (s.mainsTurn t).isSet (F.MAINS_STAT_USING_CH n) = false := by
  obtain rfl | hn := eq_or_ne n t
  · exact s.isSet_usingCh_mainsTurn n
  · obtain ⟨l, hturn⟩ := s.mainsTurn_eq t
    rw [hturn]
    exact (State.isSet_withEstimates _ l _).trans ((s.isSet_usingCh_mainsUse_other false hn).trans h)

/-- After the edge has gone through the trackers of `l`, each of them is on MAINS_SENSE. -/
theorem State.isSet_usingCh_foldl_mainsTurn (l : List Nat) (s : State) {n : Nat} (h : n ∈ l ∨ s.isSet (F.MAINS_STAT_USING_CH n) = false) :
    (l.foldl State.mainsTurn s).isSet (F.MAINS_STAT_USING_CH n) = false := by
  induction l generalizing s with
  | nil => simpa using h
  | cons t l ih =>
    rw [List.foldl_cons]
    apply ih
    rcases h with hmem | hset
    · rcases List.mem_cons.mp hmem with rfl | hl
      · exact .inr (s.isSet_usingCh_mainsTurn n)
      · exact .inl hl
    · exact .inr (s.isSet_usingCh_mainsTurn_keeps t hset)

/-- The edge's stamp is the last one kept. -/
theorem getLast?_drop_append (l : List Nat) (a : Nat) : ((l ++ [a]).drop ((l ++ [a]).length - 17)).getLast? = some a := by
  rw [List.getLast?_drop, if_neg (by simp only [List.length_append, List.length_singleton]; omega), List.getLast?_concat]

/-- What the fallback channel shows moves a tracker's estimates alone. -/
theorem State.mainsSee_eq (s : State) (t mHz : Nat) : ∃ l, s.mainsSee t mHz = { s with mainsRun := l } := by
  unfold State.mainsSee
  split
  · exact ⟨_, rfl⟩
  · exact ⟨_, rfl⟩

theorem State.mainsSee_sense (mHz : Nat) {t : Nat} (h : s.isSet (F.MAINS_STAT_USING_CH t) = false) : s.mainsSee t mHz = s :=
  if_neg (by simp [h])

/-- Whether a tracker can use its source does not depend on its estimates. -/
theorem State.mainsUsable_mainsSee (s : State) (t mHz : Nat) : (s.mainsSee t mHz).mainsUsable t = s.mainsUsable t := by
  obtain ⟨l, hsee⟩ := s.mainsSee_eq t mHz
  rw [hsee]
  rfl

/-! ### Lock (R116) -/

/-- Tile `t`'s notches count as moved now. -/
def State.mainsMovedNow (s : State) (t : Nat) : State := { s with mainsMoved := tabSet (fun _ => 0) t s.lt s.mainsMoved }

@[simp] theorem State.get_mainsMovedNow (s : State) (t : Nat) (f : Fld) : (s.mainsMovedNow t).get f = s.get f := State.get_congr rfl f

/-- Tile `t`'s tracker locked on the estimate `f`. -/
def State.mainsLocked (s : State) (t f : Nat) : State :=
  (((s.put (F.MAINS_STAT_LOCKED t) 1).put (F.MAINS_STAT_LOCK_SEEN t) 1).put (F.MAINS_FREQ_FREQ_MILLIHZ t) f).mainsMovedNow t

theorem State.mainsLock_steady {t f : Nat} (hest : s.mainsEstimate t = some f) (hopen : s.isSet (F.MAINS_STAT_LOCKED t) = false) (hlo : 45000 ≤ f)
    (hhi : f ≤ 65000) (husable : s.mainsUsable t = true) (hsteady : mainsSteady s.lt (s.mainsLog t) = true) : s.mainsLock t = s.mainsLocked t f := by
  simp only [State.mainsLock, hest]
  exact if_pos (by simp [hopen, hlo, hhi, husable, hsteady])

theorem State.mainsLock_unsteady {t : Nat} (h : mainsSteady s.lt (s.mainsLog t) = false) : s.mainsLock t = s := by
  unfold State.mainsLock
  split
  · exact if_neg (by simp [h])
  · rfl

theorem State.get_locked_mainsLocked (s : State) (t f : Nat) : (s.mainsLocked t f).get (F.MAINS_STAT_LOCKED t) = 1 := by
  have hfreq : R.MAINS_STAT t ≠ R.MAINS_FREQ t := by simp only [R.MAINS_STAT, R.MAINS_FREQ]; omega
  rw [State.mainsLocked, State.get_mainsMovedNow, State.get_put_other _ _ _ _ hfreq, State.get_put_apart _ _ _ _ (by dsimp only; omega) (by dsimp only; omega),
    State.get_put_same _ _ _ (by dsimp only; omega)]
  rfl

theorem State.get_freq_mainsLocked (s : State) (t : Nat) {f : Nat} (h : f ≤ 65000) : (s.mainsLocked t f).get (F.MAINS_FREQ_FREQ_MILLIHZ t) = f := by
  rw [State.mainsLocked, State.get_mainsMovedNow, State.get_put_same _ _ _ (by dsimp only; omega)]
  exact Nat.mod_eq_of_lt (by dsimp only; omega)

/-! ### Loss of the lock (R116) -/

/-- Tile `t`'s tracker has lost its lock: the frequency is held, and the tile's core is told. -/
def State.mainsLost (s : State) (t : Nat) : State := ((s.put (F.MAINS_STAT_LOCKED t) 0).put (F.MAINS_STAT_LOST_SEEN t) 1).raiseTile t 7

theorem State.get_locked_mainsLost (s : State) (t : Nat) : (s.mainsLost t).get (F.MAINS_STAT_LOCKED t) = 0 := by
  rw [State.mainsLost, State.get_raiseTile, State.get_put_apart _ _ _ _ (by dsimp only; omega) (by dsimp only; omega),
    State.get_put_same _ _ _ (by dsimp only; omega), Nat.zero_mod]

theorem State.get_freq_mainsLost (s : State) (t : Nat) :
    (s.mainsLost t).get (F.MAINS_FREQ_FREQ_MILLIHZ t) = s.get (F.MAINS_FREQ_FREQ_MILLIHZ t) := by
  have hfreq : R.MAINS_FREQ t ≠ R.MAINS_STAT t := by simp only [R.MAINS_STAT, R.MAINS_FREQ]; omega
  rw [State.mainsLost, State.get_raiseTile, State.get_put_other _ _ _ _ hfreq, State.get_put_other _ _ _ _ hfreq]

theorem State.core_mainsLost (s : State) (t : Nat) : (s.mainsLost t).core t = (s.core t).pend 7 := by
  rw [State.mainsLost, State.raiseTile, State.core_setCore_same, State.core_put, State.core_put]

end Sys2Proof.Machine
end

section
/-! SUPPORT. The commands of chapter 04: what each does once its time has come, that it does nothing before, and the statement O32. -/

namespace Sys2Proof.Machine

variable {s : State} {k : Fin 128}

/-! ### Range moves, blanks and resets -/

theorem exec_modClockUprange : exec (.modClockUprange k) s =
    if (s.chan k).on ∧ (s.get (F.CH_MODE_AR_MODE k) = 1 ∨ s.get (F.CH_MODE_AR_MODE k) = 2) ∧ s.get (F.CH_STAT_RANGE_NOW k) < s.get (F.CH_MODE_MAX_RANGE k)
        ∧ !s.isSet (F.CH_STAT_BLANKING k) ∧ !(s.chan k).stitch.contains (ceilTo 80 s.lt) then .next (s.rangeUp k)
    else .next s := rfl

theorem modClockUprange_completes (hon : (s.chan k).on = true) (hmode : s.get (F.CH_MODE_AR_MODE k) = 1 ∨ s.get (F.CH_MODE_AR_MODE k) = 2)
    (hmax : s.get (F.CH_STAT_RANGE_NOW k) < s.get (F.CH_MODE_MAX_RANGE k)) (hblank : s.isSet (F.CH_STAT_BLANKING k) = false)
    (hedge : (s.chan k).stitch.contains (ceilTo 80 s.lt) = false) :
    Completes (.modClockUprange k) s (fun t => t.get (F.CH_STAT_RANGE_NOW k) = s.get (F.CH_STAT_RANGE_NOW k) + 1 ∧
      (t.chan k).lastChange = ceilTo 80 s.lt ∧ t.get (F.CH_STAT_UP_SEEN k) = 1 ∧ (t.chan k).stitch = (s.chan k).stitch ++ [ceilTo 80 s.lt]) := by
  refine ⟨s.rangeUp k, ?_, s.get_rangeNow_rangeUp k hmax, ?_, s.get_upSeen_rangeUp k, ?_⟩
  · rw [exec_modClockUprange, if_pos ⟨hon, hmode, hmax, by rw [hblank]; rfl, by rw [hedge]; rfl⟩]
  · rw [s.chan_rangeUp k]
  · rw [s.chan_rangeUp k]

theorem exec_modClockUprange_fixed (h : s.get (F.CH_MODE_AR_MODE k) = 0) : exec (.modClockUprange k) s = .next s := by
  rw [exec_modClockUprange, if_neg]
  rintro ⟨-, hmode, -⟩
  omega

/-- One range on a clock edge (R108). -/
theorem exec_modClockUprange_moved (h : (s.chan k).stitch.contains (ceilTo 80 s.lt) = true) : exec (.modClockUprange k) s = .next s := by
  rw [exec_modClockUprange, if_neg]
  rintro ⟨-, -, -, -, hedge⟩
  rw [h] at hedge
  cases hedge

theorem exec_scheduledReset (c : Word) (r : ResetRead) : exec (.scheduledReset k c r) s =
    if s.schedDue k c then .next ((s.setChan k { s.chan k with schedDone := some c }).schedReset k r) else .next s := rfl

theorem exec_scheduledReset_due {c : Word} (r : ResetRead) (hdue : s.schedDue k c = true) (hon : (s.chan k).on = true)
    (hblank : s.isSet (F.CH_STAT_BLANKING k) = false) (hdis : s.inDischarge k = false) :
    exec (.scheduledReset k c r) s =
      .next ((s.setChan k { s.chan k with schedDone := some c }).resetNow k r (fun x => x.resetRange k r) false) := by
  have hblank' (x : ChanSt) : (s.setChan k x).isSet (F.CH_STAT_BLANKING k) = false := by rw [State.isSet_setChan, hblank]
  rw [exec_scheduledReset, if_pos hdue, State.schedReset_noBlank r (hblank' _),
    State.chanReset_begins r (by rw [State.chan_setChan_same]; exact hon) (hblank' _) (by rw [State.inDischarge_setChan, hdis])]

theorem exec_chCmdReset (w : Fin 9) (r : ResetRead) :
    exec (.chCmdReset w k r) s = .next (if tileWriter w (k / 16) then s.chanReset k r else s) := rfl

theorem exec_chCmdReset_mayWrite {w : Fin 9} (r : ResetRead) (hw : tileWriter w (k / 16) = true) :
    exec (.chCmdReset w k r) s = .next (s.chanReset k r) := by rw [exec_chCmdReset, if_pos hw]

theorem exec_chCmdReset_other {w : Fin 9} (r : ResetRead) (hw : tileWriter w (k / 16) = false) : exec (.chCmdReset w k r) s = .next s := by
  rw [exec_chCmdReset, if_neg (ne_true_of_eq_false hw)]

theorem exec_blankEnd_none (h : (s.chan k).blankAt = none) : exec (.blankEnd k) s = .next s := by
  change execBlankEnd k s = _
  simp only [execBlankEnd, h]

theorem exec_blankEnd_some {e : Nat} (h : (s.chan k).blankAt = some e) :
    exec (.blankEnd k) s = if e + 160 ≤ s.lt then .next (s.blankOver k) else .next s := by
  change execBlankEnd k s = _
  simp only [execBlankEnd, h]
  rfl

theorem blankEnd_completes {e : Nat} (h : (s.chan k).blankAt = some e) (hdue : e + 160 ≤ s.lt) (hrange : (s.chan k).newRange < 8) :
    Completes (.blankEnd k) s (fun t => (t.chan k).blankAt = none ∧ t.get (F.CH_STAT_BLANKING k) = 0 ∧
      t.get (F.CH_STAT_RANGE_NOW k) = (s.chan k).newRange) := by
  refine ⟨s.blankOver k, (exec_blankEnd_some h).trans (if_pos hdue), ?_, s.get_blanking_blankOver k, s.get_rangeNow_blankOver k hrange⟩
  rw [s.chan_blankOver k]

/-! ### The end of a quiet window (R107, R108) -/

section
variable {since : Nat} (r : ResetRead)

theorem exec_quietWindowEnd : exec (.quietWindowEnd k since r) s =
    if !(s.chan k).on || s.get (F.CH_MODE_AR_MODE k) != 2 || s.get (F.CH_STAT_RANGE_NOW k) ≤ s.get (F.CH_MODE_MIN_RANGE k) then .next s
    else if s.isSet (F.CH_STAT_BLANKING k) then
      if (s.chan k).blankAt = some (ceilTo 80 s.lt) ∧ !(s.chan k).quiet ∧ (s.chan k).changeWas ≤ since ∧ s.get (F.CH_MODE_MIN_RANGE k) < (s.chan k).newRange
          ∧ decide (since + s.get (F.CH_AR_QUIET_MS k) * 1000000 ≤ s.lt) ∧ within20 (s.resetLevel k r) ((s.chan k).newRange - 1) then
        .next (s.setChan k { s.chan k with newRange := (s.chan k).newRange - 1, quiet := true })
      else .next s
    else if (s.chan k).lastChange ≤ since ∧ decide (since + s.get (F.CH_AR_QUIET_MS k) * 1000000 ≤ s.lt) ∧ !s.inDischarge k then
      .next (s.resetNow k r (fun x => x.get (F.CH_STAT_RANGE_NOW k) - 1) true)
    else .next s := rfl

/-- A channel that steps down on quiet is none of those that the command passes over. -/
theorem quietWindowEnd_notPassedOver (hon : (s.chan k).on = true) (hmode : s.get (F.CH_MODE_AR_MODE k) = 2)
    (hlow : s.get (F.CH_MODE_MIN_RANGE k) < s.get (F.CH_STAT_RANGE_NOW k)) :
    ¬(!(s.chan k).on || s.get (F.CH_MODE_AR_MODE k) != 2 || s.get (F.CH_STAT_RANGE_NOW k) ≤ s.get (F.CH_MODE_MIN_RANGE k)) = true := by
  simp [hon, hmode, hlow]

theorem exec_quietWindowEnd_begins (hon : (s.chan k).on = true) (hmode : s.get (F.CH_MODE_AR_MODE k) = 2)
    (hlow : s.get (F.CH_MODE_MIN_RANGE k) < s.get (F.CH_STAT_RANGE_NOW k)) (hblank : s.isSet (F.CH_STAT_BLANKING k) = false)
    (hlast : (s.chan k).lastChange ≤ since) (hdue : since + s.get (F.CH_AR_QUIET_MS k) * 1000000 ≤ s.lt) (hdis : s.inDischarge k = false) :
    exec (.quietWindowEnd k since r) s = .next (s.resetNow k r (fun x => x.get (F.CH_STAT_RANGE_NOW k) - 1) true) := by
  rw [exec_quietWindowEnd, if_neg (quietWindowEnd_notPassedOver hon hmode hlow), if_neg (ne_true_of_eq_false hblank),
    if_pos ⟨hlast, decide_eq_true hdue, by rw [hdis]; rfl⟩]

/-- On the clock of a reset of another cause the range steps down one more (R108). -/
theorem quietWindowEnd_merges (hon : (s.chan k).on = true) (hmode : s.get (F.CH_MODE_AR_MODE k) = 2)
    (hlow : s.get (F.CH_MODE_MIN_RANGE k) < s.get (F.CH_STAT_RANGE_NOW k)) (hblank : s.isSet (F.CH_STAT_BLANKING k) = true)
    (hat : (s.chan k).blankAt = some (ceilTo 80 s.lt)) (honce : (s.chan k).quiet = false) (hwas : (s.chan k).changeWas ≤ since)
    (hdue : since + s.get (F.CH_AR_QUIET_MS k) * 1000000 ≤ s.lt) (hnew : s.get (F.CH_MODE_MIN_RANGE k) < (s.chan k).newRange)
    (hlevel : within20 (s.resetLevel k r) ((s.chan k).newRange - 1) = true) :
    Completes (.quietWindowEnd k since r) s (fun t =>
      t = s.setChan k { s.chan k with newRange := (s.chan k).newRange - 1, quiet := true } ∧ (t.chan k).newRange = (s.chan k).newRange - 1) := by
  refine ⟨_, ?_, rfl, by rw [State.chan_setChan_same]⟩
  rw [exec_quietWindowEnd, if_neg (quietWindowEnd_notPassedOver hon hmode hlow), if_pos hblank,
    if_pos ⟨hat, by rw [honce]; rfl, hwas, hnew, decide_eq_true hdue, hlevel⟩]

/-- A blank takes one quiet window, and only one that began after the change before it (R108). -/
theorem exec_quietWindowEnd_merged (hblank : s.isSet (F.CH_STAT_BLANKING k) = true) (h : (s.chan k).quiet = true ∨ since < (s.chan k).changeWas) :
    exec (.quietWindowEnd k since r) s = .next s := by
  rw [exec_quietWindowEnd, if_pos hblank]
  split
  · rfl
  · refine if_neg ?_
    rintro ⟨-, honce, hwas, -⟩
    rcases h with hquiet | hlater
    · rw [hquiet] at honce
      cases honce
    · exact Nat.not_le_of_lt hlater hwas

theorem exec_quietWindowEnd_early (h : s.lt < since + s.get (F.CH_AR_QUIET_MS k) * 1000000) : exec (.quietWindowEnd k since r) s = .next s := by
  have hnot : ¬decide (since + s.get (F.CH_AR_QUIET_MS k) * 1000000 ≤ s.lt) = true := by simpa using h
  rw [exec_quietWindowEnd]
  split
  · rfl
  · split
    · exact if_neg (fun ⟨_, _, _, _, hfull, _⟩ => hnot hfull)
    · exact if_neg (fun ⟨_, hfull, _⟩ => hnot hfull)

end

/-! ### Samples (R110, R113) -/

section
variable (y : SampleRead)

theorem exec_sampleEmit_last {e st : Nat} (hlast : (s.chan k).last = some (e, st)) (hon : (s.chan k).on = true)
    (hdue : e + latencyNs (s.chan k).rate ≤ s.lt) :
    exec (.sampleEmit k y) s = .next ((s.setChan k { s.chan k with last := none }).emitSample k e st y) := by
  change execSampleEmit k y s = _
  simp only [execSampleEmit, hlast]
  exact if_pos ⟨hon, hdue⟩

theorem exec_sampleEmit_next (hlast : (s.chan k).last = none) (hon : (s.chan k).on = true) (hdue : (s.chan k).next + latencyNs (s.chan k).rate ≤ s.lt)
    (hlead : s.awaitsLead k = false) (hwindow : s.windowOk k (s.chan k).next = true) :
    exec (.sampleEmit k y) s =
      .next (((s.mainsSample k y.mains).setChan k { s.chan k with next := (s.chan k).next + periodNs (s.chan k).rate }).emitSample k (s.chan k).next
        ((s.mainsSample k y.mains).stepOf (k / 4) (s.chan k).next) y) := by
  change execSampleEmit k y s = _
  simp only [execSampleEmit, hlast]
  exact if_pos ⟨hon, hdue, by rw [hlead]; rfl, hwindow⟩

theorem exec_sampleEmit_off (hoff : (s.chan k).on = false) : exec (.sampleEmit k y) s = .next s := by
  change execSampleEmit k y s = _
  unfold execSampleEmit
  dsimp only
  split
  · exact if_neg (fun hand => ne_true_of_eq_false hoff hand.1)
  · exact if_neg (fun hand => ne_true_of_eq_false hoff hand.1)

end

/-! ### The mains trackers (R116) -/

section
variable {tile : Fin 8}

theorem exec_mainsSenseEdge : exec .mainsSenseEdge s =
    .next ((List.range 8).foldl State.mainsTurn
      { s with mainsEdges := (s.mainsEdges ++ [s.lt]).drop ((s.mainsEdges ++ [s.lt]).length - 17) }) := rfl

theorem mainsSenseEdge_completes :
    Completes .mainsSenseEdge s (fun t => t.mainsEdges.getLast? = some s.lt ∧ (∀ n, n < 8 → t.isSet (F.MAINS_STAT_USING_CH n) = false)) := by
  refine ⟨_, exec_mainsSenseEdge, ?_, fun n hn => State.isSet_usingCh_foldl_mainsTurn _ _ (.inl (List.mem_range.mpr hn))⟩
  rw [foldl_keeps State.mainsEdges State.mainsTurn State.mainsEdges_mainsTurn]
  exact getLast?_drop_append _ _

theorem exec_mainsSourceFallback : exec (.mainsSourceFallback tile) s =
    if !s.mainsSense && s.isSet (F.MAINS_CFG_SRC_CH_EN tile) then .next (s.mainsUse tile true) else .next s := rfl

theorem mainsSourceFallback_completes (hsense : s.mainsSense = false) (hen : s.isSet (F.MAINS_CFG_SRC_CH_EN tile) = true) :
    Completes (.mainsSourceFallback tile) s (fun t => t = s.mainsUse tile true ∧ t.isSet (F.MAINS_STAT_USING_CH tile) = true) :=
  ⟨_, exec_mainsSourceFallback.trans (if_pos (by simp [hsense, hen])), rfl, s.isSet_usingCh_mainsUse tile true⟩

theorem exec_mainsSourceFallback_sense (h : s.mainsSense = true) : exec (.mainsSourceFallback tile) s = .next s :=
  exec_mainsSourceFallback.trans (if_neg (by simp [h]))

theorem exec_mainsLock (mHz : Nat) : exec (.mainsLock tile mHz) s = .next ((s.mainsSee tile mHz).mainsLock tile) := rfl

/-- What the fallback channel shows counts toward the lock, and moves nothing else that the lock asks for. -/
theorem mainsLock_completes {mHz f : Nat} (hest : (s.mainsSee tile mHz).mainsEstimate tile = some f) (hopen : s.isSet (F.MAINS_STAT_LOCKED tile) = false)
    (hlo : 45000 ≤ f) (hhi : f ≤ 65000) (husable : s.mainsUsable tile = true) (hsteady : mainsSteady s.lt ((s.mainsSee tile mHz).mainsLog tile) = true) :
    Completes (.mainsLock tile mHz) s (fun t => t.get (F.MAINS_STAT_LOCKED tile) = 1 ∧ t.get (F.MAINS_FREQ_FREQ_MILLIHZ tile) = f) := by
  obtain ⟨l, hsee⟩ := s.mainsSee_eq tile mHz
  have hregs : (s.mainsSee tile mHz).regs = s.regs := by rw [hsee]
  have hlt : (s.mainsSee tile mHz).lt = s.lt := by rw [hsee]
  have hlock : (s.mainsSee tile mHz).mainsLock tile = (s.mainsSee tile mHz).mainsLocked tile f :=
    State.mainsLock_steady hest ((State.isSet_congr hregs _).trans hopen) hlo hhi ((s.mainsUsable_mainsSee tile mHz).trans husable)
      (by rw [hlt]; exact hsteady)
  exact ⟨_, (exec_mainsLock mHz).trans (congrArg _ hlock), State.get_locked_mainsLocked _ _ _, State.get_freq_mainsLocked _ _ hhi⟩

theorem exec_mainsLock_unsteady {mHz : Nat} (h : mainsSteady s.lt ((s.mainsSee tile mHz).mainsLog tile) = false) :
    exec (.mainsLock tile mHz) s = .next (s.mainsSee tile mHz) := by
  obtain ⟨l, hsee⟩ := s.mainsSee_eq tile mHz
  have hlt : (s.mainsSee tile mHz).lt = s.lt := by rw [hsee]
  rw [exec_mainsLock, State.mainsLock_unsteady (by rw [hlt]; exact h)]

theorem exec_mainsUnlock (peak : Bool) : exec (.mainsUnlock tile peak) s =
    if s.isSet (F.MAINS_STAT_LOCKED tile) && (s.mainsOut tile || (!s.mainsSense && !(s.mainsChan tile && peak))) then .next (s.mainsLost tile)
    else .next s := rfl

theorem mainsUnlock_completes {peak : Bool} (hlocked : s.isSet (F.MAINS_STAT_LOCKED tile) = true)
    (h : s.mainsOut tile = true ∨ (s.mainsSense = false ∧ (s.mainsChan tile && peak) = false)) :
    Completes (.mainsUnlock tile peak) s (fun t => t.get (F.MAINS_STAT_LOCKED tile) = 0 ∧ t.core tile = (s.core tile).pend 7 ∧
      t.get (F.MAINS_FREQ_FREQ_MILLIHZ tile) = s.get (F.MAINS_FREQ_FREQ_MILLIHZ tile)) := by
  have hlost : (s.mainsOut tile || (!s.mainsSense && !(s.mainsChan tile && peak))) = true := by
    rcases h with hout | ⟨hsense, hchan⟩
    · rw [hout, Bool.true_or]
    · rw [hsense, hchan]
      exact Bool.or_true _
  refine ⟨s.mainsLost tile, ?_, s.get_locked_mainsLost tile, s.core_mainsLost tile, s.get_freq_mainsLost tile⟩
  rw [exec_mainsUnlock, if_pos (by rw [hlocked, hlost]; rfl)]

theorem exec_mainsUnlock_held {peak : Bool} (hout : s.mainsOut tile = false)
    (h : s.mainsSense = true ∨ (s.mainsChan tile = true ∧ peak = true)) : exec (.mainsUnlock tile peak) s = .next s := by
  rw [exec_mainsUnlock, if_neg]
  rcases h with hsense | ⟨hchan, hpeak⟩
  · simp [hout, hsense]
  · simp [hout, hchan, hpeak]

end

/-- Settles O32: each clause is what a command does once its time has come, or that it does nothing before; what it leaves of the channel and of the
tracker is read off the laws above. -/
theorem channelEvents : Obligations.ChannelEvents := by
  unfold Obligations.ChannelEvents
  intro s w k tile mHz peak c r since e st y
  refine ⟨
    -- a move up (R101, R108)
    modClockUprange_completes, exec_modClockUprange_fixed, exec_modClockUprange_moved,
    -- scheduled resets and resets by command (R105, R108)
    exec_scheduledReset_due r, fun hdue d hdone => hdone ▸ State.schedDue_later hdue,
    fun h => (exec_scheduledReset c r).trans (if_neg (ne_true_of_eq_false h)),
    fun hw hon hblank hdis => (exec_chCmdReset_mayWrite r hw).trans (congrArg _ (State.chanReset_begins r hon hblank hdis)),
    exec_chCmdReset_other r, fun hw hblank => (exec_chCmdReset_mayWrite r hw).trans (congrArg _ (State.chanReset_blanking r hblank)),
    fun code before dst quiet => ⟨s.get_blanking_beginReset k code r before dst quiet, s.chan_beginReset k code r before dst quiet⟩,
    -- the end of a quiet window (R107, R108)
    exec_quietWindowEnd_begins r, quietWindowEnd_merges r, exec_quietWindowEnd_merged r, exec_quietWindowEnd_early r,
    -- the end of a blank (R105, R106)
    blankEnd_completes, exec_blankEnd_none, fun h hearly => (exec_blankEnd_some h).trans (if_neg (Nat.not_le_of_lt hearly)),
    -- samples (R110)
    exec_sampleEmit_last y, exec_sampleEmit_next y, exec_sampleEmit_off y,
    -- the mains trackers (R116)
    mainsSenseEdge_completes, mainsSourceFallback_completes, exec_mainsSourceFallback_sense, mainsLock_completes, exec_mainsLock_unsteady,
    State.mainsSee_sense mHz, mainsUnlock_completes, exec_mainsUnlock_held⟩

end Sys2Proof.Machine
end

section
/-! SUPPORT. Line time on the Herd link (chapter 05): measuring the reference, the end of a walk, the loss of the beacons and a deputy's takeover, and the
statement O27. -/

namespace Sys2Proof.Machine

variable {s : State}

/-! ### Signed fields and the reference -/

/-- A signed value that its field holds without saturating is read again. -/
theorem State.getInt_putInt_same (s : State) (f : Fld) (i : Int) (hf : f.lo + f.width ≤ 32) (hw : 0 < f.width)
    (hlo : -((2 ^ (f.width - 1) : Nat) - 1 : Int) ≤ i) (hhi : i ≤ (2 ^ (f.width - 1) : Nat) - 1) : (s.putInt f i).getInt f = i := by
  have hpow : 2 ^ f.width = 2 * 2 ^ (f.width - 1) := by rw [← Nat.pow_succ', Nat.succ_eq_add_one, Nat.sub_add_cancel hw]
  have hput : s.putInt f i = s.put f (i % (2 ^ f.width : Nat)).toNat := by rw [State.putInt, if_neg (by omega), if_neg (by omega)]
  rw [hput, State.getInt, s.get_put_same f _ hf, hpow]
  generalize 2 ^ (f.width - 1) = m at hlo hhi
  rcases Int.lt_or_le i 0 with hneg | hpos
  · have hmod : i % (2 * m : Nat) = i + (2 * m : Nat) := by
      rw [← Int.add_emod_right, Int.emod_eq_of_lt (by omega) (by omega)]
    rw [hmod, Nat.mod_eq_of_lt (by omega), if_neg (by omega)]
    omega
  · rw [Int.emod_eq_of_lt hpos (by omega), Nat.mod_eq_of_lt (by omega), if_pos (by omega)]
    omega

theorem State.get_refTo_same (s : State) {r : Nat} (hr : r < 4) : (s.refTo r).get F.LT_CLK_STAT_REF_SRC = r := by
  unfold State.refTo
  split
  case isTrue h => exact h
  case isFalse =>
    rw [State.get_put_other _ _ _ _ (by decide), State.get_put_same _ _ _ (by decide)]
    exact Nat.mod_eq_of_lt hr

/-- A change of the reference writes LT_CLK_STAT and LT_EVT alone. -/
theorem State.get_refTo_other (s : State) (r : Nat) {f : Fld} (hclk : f.addr ≠ R.LT_CLK_STAT) (hevt : f.addr ≠ R.LT_EVT) : (s.refTo r).get f = s.get f := by
  unfold State.refTo
  split
  · rfl
  · rw [State.get_put_other _ _ _ _ hevt, State.get_put_other _ _ _ _ hclk]

theorem State.isSet_walkBegin_walking (s : State) (e : Int) : (s.walkBegin e).isSet F.LT_STAT_WALKING = (e != 0) :=
  State.isSet_putB_same _ _ _ (by decide) (by decide)

theorem State.isSet_walkBegin_other (s : State) (e : Int) {f : Fld} (h : f.addr ≠ R.LT_STAT) : (s.walkBegin e).isSet f = s.isSet f :=
  State.isSet_putB_other _ _ h

/-! ### The commands -/

theorem exec_refMeasure (ppb : Int) : exec (.refMeasure ppb) s =
    if s.isSet F.LT_STAT_FOLLOWING && s.get F.LT_CLK_STAT_REF_SRC != 0 then .next (s.putInt F.LT_RES_PPB_RATIO ppb) else .next s := rfl

theorem refMeasure_completes {ppb : Int} (hfol : s.isSet F.LT_STAT_FOLLOWING = true) (href : s.get F.LT_CLK_STAT_REF_SRC ≠ 0)
    (hlo : -0x7FFFFFFF ≤ ppb) (hhi : ppb ≤ 0x7FFFFFFF) :
    Completes (.refMeasure ppb) s (fun t => t = s.putInt F.LT_RES_PPB_RATIO ppb ∧ t.getInt F.LT_RES_PPB_RATIO = ppb) := by
  refine ⟨_, ?_, rfl, s.getInt_putInt_same F.LT_RES_PPB_RATIO ppb (by decide) (by decide) hlo hhi⟩
  rw [exec_refMeasure, if_pos (by simp [hfol, href])]

theorem exec_walkEnd : exec .walkEnd s =
    if s.isSet F.LT_STAT_WALKING && decide (s.walkEndAt ≤ s.lt) then
      .next (if (s.walkBegin 0).isSet F.HERD_STAT_SOURCE_OK then (s.walkBegin 0).realigned else s.walkBegin 0)
    else .next s := rfl

theorem exec_walkEnd_due (hwalk : s.isSet F.LT_STAT_WALKING = true) (hdue : s.walkEndAt ≤ s.lt) :
    exec .walkEnd s = .next (if s.isSet F.HERD_STAT_SOURCE_OK then (s.walkBegin 0).realigned else s.walkBegin 0) := by
  rw [exec_walkEnd, if_pos (by simp [hwalk, hdue]), s.isSet_walkBegin_other 0 (by decide)]

theorem walkEnd_completes (hwalk : s.isSet F.LT_STAT_WALKING = true) (hdue : s.walkEndAt ≤ s.lt) (hok : s.isSet F.HERD_STAT_SOURCE_OK = false) :
    Completes .walkEnd s (fun t => t.isSet F.LT_STAT_WALKING = false ∧ t.herd = { s.herd with walkErr := 0, walkFrom := s.lt } ∧ t.lt = s.lt) := by
  refine ⟨s.walkBegin 0, ?_, s.isSet_walkBegin_walking 0, rfl, rfl⟩
  rw [exec_walkEnd_due hwalk hdue, hok]
  rfl

/-- The beacons are missed: three more slots, and the reference is the resonator (R125, R134). -/
def State.beaconsLost (s : State) : State :=
  let u : State := (s.incSat F.HERD_CNT0_BEACON_MISSED 3).herdMap (fun h => { h with missedNow := 3, portMiss := 0, aligned := 0 })
  ((u.putPair R.LT_HOLD_IN_LO s.herd.lastGood).put F.LT_STAT_FOLLOWING 0).refTo 0

theorem State.get_following_beaconsLost (s : State) : s.beaconsLost.get F.LT_STAT_FOLLOWING = 0 := by
  rw [State.beaconsLost, State.get_refTo_other _ _ (by decide) (by decide), State.get_put_same _ _ _ (by decide), Nat.zero_mod]

theorem exec_beaconLoss : exec .beaconLoss s =
    if (s.isSet F.HERD_STAT_SOURCE_OK || s.get F.LT_CLK_STAT_REF_SRC != 0) && !s.isSet F.HERD_STAT_BEACONING && decide (s.herd.lastGood + 30000 ≤ s.portNow)
    then .next ((s.beaconsLost.showSource none).setHoldover true).noteSpan else .next s := rfl

theorem exec_beaconLoss_due (hfollows : s.isSet F.HERD_STAT_SOURCE_OK = true ∨ s.get F.LT_CLK_STAT_REF_SRC ≠ 0)
    (hbeacon : s.isSet F.HERD_STAT_BEACONING = false) (hdue : s.herd.lastGood + 30000 ≤ s.portNow) :
    exec .beaconLoss s = .next ((s.beaconsLost.showSource none).setHoldover true).noteSpan := by
  rw [exec_beaconLoss, if_pos (by simpa [hbeacon, hdue] using hfollows)]

theorem exec_deputyTakeover : exec .deputyTakeover s =
    if s.herdFull && s.role == 1 && !s.isSet F.HERD_STAT_BEACONING && !s.isSet F.HERD_STAT_FORMING && s.herd.lastBnum.isSome
        && decide (s.herd.lastGood + 500000 + 200000 * s.deputyRank ≤ s.lt) && s.lt % 10000 == 0 then
      .next (((((s.setHoldover true).beaconBegin).incSat F.HERD_CNT3_TAKEOVERS).lineHold true).noteSpan)
    else .next s := rfl

/-- Settles O27: each clause is what a command does once its condition holds, or that it does nothing before. -/
theorem lineTimeEvents : Obligations.LineTimeEvents := by
  unfold Obligations.LineTimeEvents
  intro s ppb
  refine ⟨refMeasure_completes, ?_, walkEnd_completes, ?_, ?_, ?_, ?_, ?_, ?_, ?_⟩
  · intro hfol
    rw [exec_refMeasure, if_neg (by simp [hfol])]
  · intro hwalk hdue hok
    rw [exec_walkEnd_due hwalk hdue, if_pos hok]
  · intro hearly
    rw [exec_walkEnd, if_neg (by simp [Nat.not_le_of_lt hearly])]
  · intro hfollows hbeacon hdue
    exact ⟨exec_beaconLoss_due hfollows hbeacon hdue, s.get_following_beaconsLost, State.get_refTo_same _ (by decide)⟩
  · intro hok href
    rw [exec_beaconLoss, if_neg (by simp [hok, href])]
  · intro hearly
    rw [exec_beaconLoss, if_neg (by simp [Nat.not_le_of_lt hearly])]
  · intro hfull hrole hbeacon hform hbnum hdue hgrid
    rw [exec_deputyTakeover, if_pos (by simp [hfull, hrole, hbeacon, hform, hbnum, hdue, hgrid])]
  · intro hearly
    have hwait : ¬ s.herd.lastGood + 500000 + 200000 * s.deputyRank ≤ s.lt := by omega
    rw [exec_deputyTakeover, if_neg (by simp [hwait])]

end Sys2Proof.Machine
end

section
/-! SUPPORT. The speed at which the host link comes back behind a lost lock (chapters 05 and 12), and the refutation of O23. -/

namespace Sys2Proof.Machine

variable {s : State}

/-- HOST_STAT.SPEED has two bits (R367), so a speed that is set shows modulo 4. -/
theorem State.get_speed_setSpeed {n : Nat} (h : s.get F.HOST_STAT_SPEED ≠ n) : (s.setSpeed n).get F.HOST_STAT_SPEED = n % 4 := by
  rw [State.setSpeed, if_neg h, State.get_raise_other _ _ _ (by decide) (by decide) (by decide), State.get_put_other _ _ _ _ (by decide),
    State.get_put_same _ _ _ (by decide)]
  rfl

/-- The module's gratuitous ARP sends a frame and writes no register. -/
theorem State.get_arpGratuitous (s : State) (f : Fld) : s.arpGratuitous.get f = s.get f := by
  unfold State.arpGratuitous
  split
  · exact State.get_congr rfl f
  · rfl

/-- The PLL has relocked (R405). -/
def State.relocked (s : State) : State := (s.put F.LT_CLK_STAT_PLL_LOCK 1).setBoot { s.boot with lostAt := none }

theorem exec_pllLock_relocks (hstage : s.boot.stage ≠ 5) (hlost : s.boot.lostAt.isSome = true) : exec .pllLock s =
    .next (if !s.relocked.booting && s.relocked.domIsOn domHost && s.relocked.host.speedWas != 0
      then (s.relocked.setSpeed s.relocked.host.speedWas).arpGratuitous else s.relocked) := by
  change execPllLock s = _
  unfold execPllLock
  rw [if_neg hstage, if_pos hlost]
  rfl

/-- Out of bring-up, with HOST on and a speed to come back to, a relock brings the link back (R405). -/
theorem exec_pllLock_linkBack (hstage : s.boot.stage ≠ 5) (hlost : s.boot.lostAt.isSome = true) (hboot : s.booting = false) (hhost : s.dom 2 = 2)
    (hspeed : s.host.speedWas ≠ 0) : exec .pllLock s = .next (s.relocked.setSpeed s.host.speedWas).arpGratuitous := by
  have hdom : s.relocked.domIsOn domHost = true := by
    rw [State.domIsOn, State.dom, State.relocked, State.get_setBoot, State.get_put_other _ _ _ _ (by decide)]
    exact beq_iff_eq.mpr hhost
  have hbooting : s.relocked.booting = false := hboot
  have hhost' : s.relocked.host = s.host := rfl
  rw [exec_pllLock_relocks hstage hlost, hdom, hbooting, hhost', if_pos (by simpa using hspeed)]

/-- A module out of bring-up with HOST on, its lock lost at LT 0, whose link is to come back at a speed of 7. -/
def relockAt7 : State :=
  { (State.reset.put (domFld domHost) domOn).setBoot { BootSt.start with stage := 10, lostAt := some 0 } with
    booting := false, host := { HostSt.start with speedWas := 7 } }

/-- Refutes O23: a relock brings the link back at the speed it had, which the statement lets be any number below 8, but HOST_STAT.SPEED has two bits: a speed
of 7 shows as 3. -/
theorem not_bringUpFailuresAndResets : ¬ Obligations.BringUpFailuresAndResets := by
  unfold Obligations.BringUpFailuresAndResets
  intro h
  have hstage : relockAt7.boot.stage ≠ 5 := by decide
  have hhost : relockAt7.dom 2 = 2 := by decide
  have hback : exec .pllLock relockAt7 = .next (relockAt7.relocked.setSpeed 7).arpGratuitous :=
    exec_pllLock_linkBack hstage rfl rfl hhost (by decide)
  have hshows : (relockAt7.relocked.setSpeed 7).arpGratuitous.get F.HOST_STAT_SPEED = 3 := by
    rw [State.get_arpGratuitous, State.get_speed_setSpeed (by decide)]
  obtain ⟨-, -, -, -, -, -, -, -, -, -, hrelock, -⟩ := h relockAt7 0 0
  obtain ⟨t, hexec, -, -, hspeed⟩ := hrelock hstage rfl rfl hhost (by decide) (by decide)
  rw [hback] at hexec
  injection hexec with ht
  rw [← ht, hshows] at hspeed
  exact absurd hspeed (by decide)

end Sys2Proof.Machine
end

section
/-! SUPPORT. Wake sources and the return of TIME and HUB behind a sleep (chapters 05 and 13), and the statement O25. -/

namespace Sys2Proof.Machine

variable {s : State}

/-! ### Wake sources (R387, R389) -/

theorem exec_wakeSourceFire (src : Fin 10) (unit : Fin 24) : exec (.wakeSourceFire src unit) s =
    if s.wakeMay src unit then
      if s.dom domHub != domOn then
        if s.pwr.wakeStage = 0 then .next (s.setPwr { s.pwr with fired := s.pwr.fired ++ [(src.val, unit.val)] }) else .next s
      else if s.pwr.raising.isEmpty && s.pwr.asks.any (fun a => a.1 == domHub) && !s.domAgreed domHub then .next (s.pwrRefuse rfWake 4)
      else .next s
    else .next s := rfl

theorem exec_wakeSourceFire_asleep {src : Fin 10} {unit : Fin 24} (hmay : s.wakeMay src unit = true) (hhub : s.dom domHub ≠ domOn)
    (hstage : s.pwr.wakeStage = 0) :
    exec (.wakeSourceFire src unit) s = .next (s.setPwr { s.pwr with fired := s.pwr.fired ++ [(src.val, unit.val)] }) := by
  rw [exec_wakeSourceFire, if_pos hmay, if_pos (by simpa using hhub), if_pos hstage]

theorem exec_wakeSourceFire_hubOn {src : Fin 10} {unit : Fin 24} (hmay : s.wakeMay src unit = true) (hhub : s.dom domHub = domOn) :
    exec (.wakeSourceFire src unit) s =
      if s.pwr.raising.isEmpty && s.pwr.asks.any (fun a => a.1 == domHub) && !s.domAgreed domHub then .next (s.pwrRefuse rfWake 4) else .next s := by
  rw [exec_wakeSourceFire, if_pos hmay, if_neg (by simp [hhub])]

/-- Only the first of the asked domains can have agreed. -/
theorem State.domAgreed_first {n dst k : Nat} {rest : List (Nat × Nat)} (h : s.pwr.asks = (n, dst) :: rest) :
    s.domAgreed k = (s.pwr.agreedAt.isSome && n == k) := by
  rw [State.domAgreed, h]; rfl

/-- A wake source ends an entry that asks HUB and has not got its agreement. -/
theorem exec_wakeSourceFire_entry {src : Fin 10} {unit : Fin 24} {n dst : Nat} {rest : List (Nat × Nat)} (hmay : s.wakeMay src unit = true)
    (hhub : s.dom domHub = domOn) (hraise : s.pwr.raising = []) (hasks : s.pwr.asks = (n, dst) :: rest) (hasked : n = 0 ∨ ∃ d, (0, d) ∈ rest)
    (hagreed : s.pwr.agreedAt = none ∨ n ≠ 0) : exec (.wakeSourceFire src unit) s = .next (s.pwrRefuse 5 4) := by
  have hnot : s.domAgreed domHub = false := by
    rw [State.domAgreed_first hasks]
    rcases hagreed with hnone | hne
    · simp [hnone]
    · simp [hne]
  have hany : s.pwr.asks.any (fun a => a.1 == domHub) = true := by
    rw [hasks]
    rcases hasked with rfl | ⟨d, hd⟩
    · rfl
    · simpa using Or.inr ⟨d, hd⟩
  rw [exec_wakeSourceFire_hubOn hmay hhub, hraise, hany, hnot]
  rfl

/-! ### The wake taken (R390) -/

/-- The fired source of the lowest number, the earliest of those. -/
def wakeFirst (l : List (Nat × Nat)) (f : Nat × Nat) : Nat × Nat := l.foldl (fun a b => if b.1 < a.1 then b else a) f

theorem wakeFirst_le (l : List (Nat × Nat)) (f : Nat × Nat) : (wakeFirst l f).1 ≤ f.1 ∧ ∀ x ∈ l, (wakeFirst l f).1 ≤ x.1 := by
  induction l generalizing f with
  | nil => exact ⟨Nat.le_refl _, fun x hx => absurd hx List.not_mem_nil⟩
  | cons b l ih =>
    obtain ⟨hle, hall⟩ := ih (if b.1 < f.1 then b else f)
    have hboth : (if b.1 < f.1 then b else f).1 ≤ f.1 ∧ (if b.1 < f.1 then b else f).1 ≤ b.1 := by split <;> omega
    have hstep : wakeFirst (b :: l) f = wakeFirst l (if b.1 < f.1 then b else f) := rfl
    rw [hstep]
    refine ⟨Nat.le_trans hle hboth.1, fun x hx => ?_⟩
    rcases List.mem_cons.mp hx with rfl | hmem
    · exact Nat.le_trans hle hboth.2
    · exact hall x hmem

theorem wakeFirst_mem (l : List (Nat × Nat)) (f : Nat × Nat) : wakeFirst l f ∈ f :: l := by
  induction l generalizing f with
  | nil => exact List.mem_singleton_self f
  | cons b l ih =>
    have hmem := ih (if b.1 < f.1 then b else f)
    have hstep : wakeFirst (b :: l) f = wakeFirst l (if b.1 < f.1 then b else f) := rfl
    rw [hstep]
    rcases List.mem_cons.mp hmem with hhead | htail
    · rw [hhead]
      split <;> simp
    · exact List.mem_cons_of_mem f (List.mem_cons_of_mem b htail)

/-- The registers and the event of a taken wake whose source is `m` (R390). -/
def State.wakeShown (s : State) (m : Nat × Nat) : State :=
  let u := ((s.put F.PWR_LAST_WAKE_SOURCE m.1).put F.PWR_LAST_WAKE_UNIT (if m.1 = 1 ∨ m.1 = 2 then m.2 else 0)).incSat F.PWR_LAST_WAKE_WAKES
  (u.put F.PWR_EVT_WAKE_SEEN 1).raise 36

theorem State.get_seen_wakeShown (s : State) (m : Nat × Nat) : (s.wakeShown m).get F.PWR_EVT_WAKE_SEEN = 1 := by
  rw [State.wakeShown, State.get_raise_other _ _ _ (by decide) (by decide) (by decide), State.get_put_same _ _ _ (by decide)]
  rfl

theorem State.get_source_wakeShown (s : State) (m : Nat × Nat) : (s.wakeShown m).get F.PWR_LAST_WAKE_SOURCE = m.1 % 16 := by
  rw [State.wakeShown, State.get_raise_other _ _ _ (by decide) (by decide) (by decide), State.get_put_other _ _ _ _ (by decide), State.incSat,
    State.get_put_apart _ _ _ _ (by decide) (by decide), State.get_put_apart _ _ _ _ (by decide) (by decide), State.get_put_same _ _ _ (by decide)]
  rfl

theorem State.core_wakeShown (s : State) (m : Nat × Nat) : (s.wakeShown m).core 8 = (s.core 8).pend 36 := by
  rw [State.wakeShown, State.core_raise_vat, State.core_put, State.incSat, State.core_put, State.core_put, State.core_put]

theorem exec_wakeTaken_fired {n : Nat} {g : Nat × Nat} {l : List (Nat × Nat)} (hfired : s.pwr.fired = g :: l) (hticks : s.ticks = some n)
    (hstage : s.pwr.wakeStage = 0) :
    exec .wakeTaken s = .next ((s.wakeShown (wakeFirst l g)).setPwr { (s.wakeShown (wakeFirst l g)).pwr with fired := [], wakeAt := some n, wakeStage := 1 }) := by
  change execWakeTaken s = _
  unfold execWakeTaken
  rw [hfired, hticks]
  exact if_pos hstage

theorem exec_wakeTaken_none (hfired : s.pwr.fired = []) : exec .wakeTaken s = .next s := by
  change execWakeTaken s = _
  unfold execWakeTaken
  rw [hfired]

theorem wakeTaken_completes {f : Nat × Nat} {n : Nat} (hmem : f ∈ s.pwr.fired) (hleast : ∀ x ∈ s.pwr.fired, f.1 ≤ x.1) (hticks : s.ticks = some n)
    (hstage : s.pwr.wakeStage = 0) :
    Completes .wakeTaken s (fun t => t.pwr.wakeStage = 1 ∧ t.pwr.wakeAt = some n ∧ t.pwr.fired = [] ∧ t.core 8 = (s.core 8).pend 36 ∧
      t.get F.PWR_EVT_WAKE_SEEN = 1 ∧ t.get F.PWR_LAST_WAKE_SOURCE = f.1 % 16) := by
  cases hfired : s.pwr.fired with
  | nil => simp [hfired] at hmem
  | cons g l =>
    rw [hfired] at hmem hleast
    obtain ⟨hle, hall⟩ := wakeFirst_le l g
    have hleF : (wakeFirst l g).1 ≤ f.1 := by
      rcases List.mem_cons.mp hmem with rfl | htail
      · exact hle
      · exact hall f htail
    have hfirst : (wakeFirst l g).1 = f.1 := Nat.le_antisymm hleF (hleast _ (wakeFirst_mem l g))
    refine ⟨_, exec_wakeTaken_fired hfired hticks hstage, rfl, rfl, rfl, ?_, ?_, ?_⟩
    · rw [State.core_setPwr, s.core_wakeShown]
    · rw [State.get_setPwr, s.get_seen_wakeShown]
    · rw [State.get_setPwr, s.get_source_wakeShown, hfirst]

/-! ### TIME and HUB (R137, R390) -/

@[simp] theorem State.noteSpan_regs (s : State) : s.noteSpan.regs = s.regs := by unfold State.noteSpan; split <;> rfl
@[simp] theorem State.noteSpan_lt (s : State) : s.noteSpan.lt = s.lt := by unfold State.noteSpan; split <;> rfl
@[simp] theorem State.noteSpan_time (s : State) : s.noteSpan.time = s.time := by unfold State.noteSpan; split <;> rfl
@[simp] theorem State.noteSpan_ticks (s : State) : s.noteSpan.ticks = s.ticks := by unfold State.noteSpan; split <;> rfl
@[simp] theorem State.noteSpan_pwr (s : State) : s.noteSpan.pwr = s.pwr := by unfold State.noteSpan; split <;> rfl

/-- A pair of registers written leaves every other register. -/
theorem State.get_putPair_other (s : State) (f : Fld) {a : Nat} (n : Nat) (hlo : f.addr ≠ a) (hhi : f.addr ≠ a + 4) : (s.putPair a n).get f = s.get f := by
  rw [State.putPair, State.get_wr_other _ _ _ hhi, State.get_wr_other _ _ _ hlo]

/-- TIME running again behind a sleep that ended `n` AON ticks after LT_E (R137): its counter loaded, the walk resumed, and the registers that tell of it. -/
def State.timeBack (s : State) (n : Nat) : State :=
  let u : State := { s.timeGo with herd := { s.timeGo.herd with walkFrom := s.timeGo.lt } }
  (((u.putPair R.LT_SLEEP_OUT_LO u.lt).putPair R.LT_SLEEP_TICKS_LO n).put F.LT_EVT_WAKE_SEEN 1).noteSpan

theorem State.lt_timeBack (s : State) (n : Nat) : (s.timeBack n).lt = s.getPair R.LT_SLEEP_IN_LO + s.slept := State.noteSpan_lt _
theorem State.time_timeBack (s : State) (n : Nat) : (s.timeBack n).time = true := State.noteSpan_time _
theorem State.ticks_timeBack (s : State) (n : Nat) : (s.timeBack n).ticks = none := State.noteSpan_ticks _
theorem State.pwr_timeBack (s : State) (n : Nat) : (s.timeBack n).pwr = s.pwr := State.noteSpan_pwr _

theorem State.get_pllLock_timeBack (s : State) (n : Nat) : (s.timeBack n).get F.LT_CLK_STAT_PLL_LOCK = s.get F.LT_CLK_STAT_PLL_LOCK := by
  rw [State.timeBack, State.get_congr (State.noteSpan_regs _), State.get_put_other _ _ _ _ (by decide),
    State.get_putPair_other _ _ _ (by decide) (by decide), State.get_putPair_other _ _ _ (by decide) (by decide)]
  rfl

theorem exec_timeRestart {n m : Nat} (hwake : s.pwr.wakeAt = some n) (hticks : s.ticks = some m) : exec .timeRestart s =
    if s.pwr.wakeStage = 1 && s.isSet F.LT_CLK_STAT_PLL_LOCK && decide (n + 4 ≤ m) then
      .next ((s.timeBack n).setPwr { (s.timeBack n).pwr with wakeAt := some (s.timeBack n).lt, wakeStage := 2 })
    else .next s := by
  change execTimeRestart s = _
  unfold execTimeRestart
  rw [hwake, hticks]
  rfl

/-- A flag of one bit that is set reads 1. -/
theorem State.get_flag {f : Fld} (hf : f.width = 1) (h : s.isSet f = true) : s.get f = 1 := by
  have hlt : s.get f < 2 ^ f.width := Fld.ofWord_lt f _
  have hne : s.get f ≠ 0 := by simpa [State.isSet] using h
  rw [hf] at hlt
  omega

theorem timeRestart_completes {n m : Nat} (hwake : s.pwr.wakeAt = some n) (hticks : s.ticks = some m) (hstage : s.pwr.wakeStage = 1)
    (hlock : s.isSet F.LT_CLK_STAT_PLL_LOCK = true) (hfour : n + 4 ≤ m) :
    Completes .timeRestart s (fun t => t.lt = s.getPair R.LT_SLEEP_IN_LO + s.slept ∧ t.time = true ∧ t.ticks = none ∧
      t.get F.LT_CLK_STAT_PLL_LOCK = 1 ∧ t.pwr = { s.pwr with wakeAt := some t.lt, wakeStage := 2 }) := by
  refine ⟨_, (exec_timeRestart hwake hticks).trans (if_pos (by simp [hstage, hlock, hfour])), s.lt_timeBack n, s.time_timeBack n, s.ticks_timeBack n,
    (s.get_pllLock_timeBack n).trans (State.get_flag rfl hlock), ?_⟩
  rw [← s.pwr_timeBack n]
  rfl

theorem exec_timeRestart_waits {n m : Nat} (hwake : s.pwr.wakeAt = some n) (hticks : s.ticks = some m)
    (hwaits : m < n + 4 ∨ s.isSet F.LT_CLK_STAT_PLL_LOCK = false) : exec .timeRestart s = .next s := by
  rw [exec_timeRestart hwake hticks, if_neg]
  rcases hwaits with hearly | hlock
  · simp [Nat.not_le_of_lt hearly]
  · simp [hlock]

theorem exec_hubWakeOn {a : Nat} (hwake : s.pwr.wakeAt = some a) : exec .hubWakeOn s =
    if s.pwr.wakeStage = 2 && decide (a + 8000 ≤ s.lt) then
      let u := s.hubWake.logLeave
      let v := u.setPwr { u.pwr with wakeAt := none, wakeStage := 0 }
      .next (v.pwrBegin 3 v.wakeRaises [])
    else .next s := by
  change execHubWakeOn s = _
  unfold execHubWakeOn
  rw [hwake]

/-- Settles O25: each clause is what a command of the wake does once its condition holds, or that it does nothing before. -/
theorem sleepAndWake : Obligations.SleepAndWake := by
  unfold Obligations.SleepAndWake
  intro s src unit f n m a dst rest
  refine ⟨exec_wakeSourceFire_asleep, exec_wakeSourceFire_entry, ?_, ?_, wakeTaken_completes, exec_wakeTaken_none, timeRestart_completes,
    exec_timeRestart_waits, ?_, ?_⟩
  · intro hmay hhub hasks
    rw [exec_wakeSourceFire_hubOn hmay hhub, hasks, if_neg (by simp)]
  · intro hmay
    rw [exec_wakeSourceFire, if_neg (by simp [hmay])]
  · intro hwake hstage hdue
    exact (exec_hubWakeOn hwake).trans (if_pos (by simp [hstage, hdue]))
  · intro hwake hearly
    exact (exec_hubWakeOn hwake).trans (if_neg (by simp [Nat.not_le_of_lt hearly]))

end Sys2Proof.Machine
end

section
/-! SUPPORT. Beacons and forming frames on the Herd link (chapters 05 and 06): what leaves an idle port, what a beacon carries, what becomes of a good copy, and the
statement O28. -/

namespace Sys2Proof.Machine

variable {s : State}

/-! ### A frame of class 0 leaves port A (R144, R149, R151) -/

/-- A frame formed here is sealed already. -/
theorem Frame.seal_form (origin dest : Nat) (bcast : Bool) (q : Word) (b : Body) :
    (Frame.form origin dest bcast q b).seal = Frame.form origin dest bcast q b := by
  simp only [Frame.form, Frame.seal, Frame.crcOf, Frame.header]

theorem State.herdFull_iff : s.herdFull = true ↔ s.role ≠ 3 ∧ s.dom domHerd = domOn := by simp [State.herdFull, State.domIsOn]

/-- With HERD on, the ports count by line time. -/
theorem State.portNow_eq_lt (h : s.dom domHerd = domOn) : s.portNow = s.lt := by rw [State.portNow, h]; rfl

theorem State.originates_of_herdFull (h : s.herdFull = true) : s.originates = true := h

/-- The next FSEQ of a class taken (R149). -/
def State.fseqTaken (s : State) (c : Nat) : State := s.herdMap (fun h => { h with fseq := tabSet (fun _ => 0) c (s.fseqOf c + 1) s.herd.fseq })

/-- With port A not wrapped an own frame is put to it. -/
theorem State.herdSend_eq {body : Body} (dest : Nat) (bcast : Bool) (hfull : s.herdFull = true) (hwrap : s.wrapped false = false) :
    s.herdSend dest bcast body =
      (s.fseqTaken body.cls).txPut false ⟨Frame.form s.line dest bcast (w32 (s.fseqOf body.cls)) body, .good, s.vco, 0⟩ := by
  have hopen : (!(s.fseqTaken body.cls).wrapped false) = true := congrArg (!·) hwrap
  unfold State.herdSend
  rw [if_pos (State.originates_of_herdFull hfull)]
  change (s.fseqTaken body.cls).sendOn false _ _ _ = _
  rw [State.sendOn, if_pos hopen, Frame.seal_form]

/-- With port A idle too, an own frame of class 0 leaves it at once. -/
theorem State.out_herdSend {body : Body} (dest : Nat) (bcast : Bool) (hfull : s.herdFull = true) (hcls : body.cls = 0) (hwrap : s.wrapped false = false)
    (hidle : (s.port false).tx = .idle) : (s.herdSend dest bcast body).out =
      s.out ++ [.frame false s.lt (Frame.form s.line dest bcast (w32 (s.fseqOf 0)) body) .good] := by
  have hnow : (s.fseqTaken 0).portNow = s.lt := State.portNow_eq_lt (State.herdFull_iff.mp hfull).2
  have hidle' : ((s.fseqTaken 0).port false).tx = .idle := hidle
  rw [s.herdSend_eq dest bcast hfull hwrap, hcls, State.txPut_idle hidle' hcls (Nat.le_refl _), hnow]
  rfl

/-! ### Listening and forming (R128, R179) -/

theorem exec_beaconListenEnd_due {a : Nat} (hlisten : s.herd.listenFrom = some a) (hfull : s.herdFull = true) (hdue : a + 2000000 ≤ s.lt) :
    exec .beaconListenEnd s =
      .next (((s.herdMap (fun h => { h with listenFrom := none, formFrom := some s.lt, formMax := 0 })).put F.HERD_STAT_FORMING 1).raiseHerd
        F.HERD_EVT_BEACON_SEEN 12) := by
  change execBeaconListenEnd s = _
  unfold execBeaconListenEnd
  rw [hlisten]
  exact if_pos (by simp [hfull, hdue])

/-- Raising an event of the link writes HERD_EVT and the events' registers alone. -/
theorem State.get_raiseHerd_other (s : State) {f g : Fld} {n : Nat} (h : g.addr ≠ f.addr) (hlo : g.addr ≠ R.EVT_SEEN_LO) (hhi : g.addr ≠ R.EVT_SEEN_HI)
    (hcnt : g.addr ≠ R.EVT_CNT n) : (s.raiseHerd f n).get g = s.get g := by
  rw [State.raiseHerd, State.get_raise_other _ _ _ hlo hhi hcnt, State.get_put_other _ _ _ _ h]

@[simp] theorem State.raiseHerd_herd (s : State) (f : Fld) (n : Nat) : (s.raiseHerd f n).herd = s.herd := State.raise_herd _ n
@[simp] theorem State.raiseHerd_out (s : State) (f : Fld) (n : Nat) : (s.raiseHerd f n).out = s.out := State.raise_out _ n
@[simp] theorem State.raiseHerd_lt (s : State) (f : Fld) (n : Nat) : (s.raiseHerd f n).lt = s.lt := State.raise_lt _ n
@[simp] theorem State.raiseHerd_com (s : State) (f : Fld) (n : Nat) : (s.raiseHerd f n).com = s.com := State.raise_com _ n
@[simp] theorem State.core_raiseHerd (s : State) (f : Fld) (n : Nat) : (s.raiseHerd f n).core 8 = (s.core 8).pend n := by
  rw [State.raiseHerd, State.core_raise_vat, State.core_put]

theorem beaconListenEnd_completes {a : Nat} (hlisten : s.herd.listenFrom = some a) (hfull : s.herdFull = true) (hdue : a + 2000000 ≤ s.lt) :
    Completes .beaconListenEnd s (fun t => t.herd = { s.herd with listenFrom := none, formFrom := some s.lt, formMax := 0 } ∧
      t.get F.HERD_STAT_FORMING = 1 ∧ t.core 8 = (s.core 8).pend 12) := by
  refine ⟨_, exec_beaconListenEnd_due hlisten hfull hdue, State.raiseHerd_herd _ _ _, ?_, ?_⟩
  · rw [State.get_raiseHerd_other _ (by decide) (by decide) (by decide) (by decide), State.get_put_same _ _ _ (by decide)]
    rfl
  · rw [State.core_raiseHerd, State.core_put, State.core_herdMap]

theorem exec_formSend_due {a : Nat} (hform : s.herd.formFrom = some a) (hfull : s.herdFull = true) (hforming : s.isSet F.HERD_STAT_FORMING = true)
    (hgrid : (s.lt - a) % 10000 = 0) (hrun : s.lt < a + 1000000) :
    exec .formSend s = .next (s.herdSend s.line true (.form 0 (1#32 <<< s.line) s.line s.role)) := by
  change execFormSend s = _
  unfold execFormSend
  rw [hform]
  exact if_pos (by simp [hfull, hforming, hgrid, hrun])

/-- What remains to the forming module's target is stepped in multiples of 80 ns and walked. -/
def State.formLeap (s : State) : State :=
  if 0 < s.herd.formMax && 0 < formTarget s.herd.formMax - s.lt then
    (s.ltStep ((formTarget s.herd.formMax - s.lt) / 80 * 80)).walkBegin (-((formTarget s.herd.formMax - s.lt) % 80 * linkUnit : Nat))
  else s

theorem exec_formingEnd_due {a : Nat} (hform : s.herd.formFrom = some a) (hfull : s.herdFull = true) (hforming : s.isSet F.HERD_STAT_FORMING = true)
    (hdue : a + 1000000 ≤ s.lt) :
    exec .formingEnd s = .next ((s.formLeap.put F.HERD_STAT_FORMING 0).herdMap (fun h => { h with formFrom := none })).beaconBegin := by
  change execFormingEnd s = _
  unfold execFormingEnd
  rw [hform]
  exact if_pos (by simp [hfull, hforming, hdue])

theorem State.formLeap_reached (h : 0 < s.herd.formMax → formTarget s.herd.formMax ≤ s.lt) : s.formLeap = s := by
  refine if_neg ?_
  simp only [Bool.and_eq_true, decide_eq_true_eq, not_and, Nat.not_lt]
  intro hmax
  exact Nat.le_of_eq (Nat.sub_eq_zero_of_le (h hmax))

theorem State.formLeap_ahead (hmax : 0 < s.herd.formMax) (h : s.lt < formTarget s.herd.formMax) : s.formLeap =
    (s.ltStep ((formTarget s.herd.formMax - s.lt) / 80 * 80)).walkBegin (-((formTarget s.herd.formMax - s.lt) % 80 * 256 : Nat)) := by
  have hpos : 0 < formTarget s.herd.formMax - s.lt := Nat.sub_pos_of_lt h
  exact if_pos (by simp [hmax, hpos])

/-- The target is the greatest LT reported plus 1 ms, rounded up to a multiple of 1 ms. -/
theorem formTarget_bounds (m : Nat) : m + 1000000 ≤ formTarget m ∧ formTarget m < m + 2000000 ∧ formTarget m % 1000000 = 0 := by
  unfold formTarget
  omega

/-! ### Sending beacons (R157, R178) -/

/-- The own ROLL entry and PRESENT bit are all that a module writes into a beacon (R158, R160). -/
theorem State.rollWrite_eq (s : State) (b : Beacon) : ∃ p r, s.rollWrite b = { b with present := p, roll := r } := by
  unfold State.rollWrite
  dsimp only
  split
  · exact ⟨_, _, rfl⟩
  · exact ⟨_, _, rfl⟩

/-- Its models are all that a publisher writes into a beacon (R158, R163). -/
theorem State.modelsWrite_eq (s : State) (b : Beacon) : ∃ m, s.modelsWrite b = { b with models := m } := by
  unfold State.modelsWrite
  generalize [0, 1, 2, 3] = es
  induction es generalizing b with
  | nil => exact ⟨b.models, rfl⟩
  | cons e es ih =>
    rw [List.foldl_cons]
    split
    · split
      · exact (ih _).imp fun m hm => hm
      · exact ih b
    · exact ih b

/-- What a beacon tells of its source (R157). -/
theorem State.compose_head (s : State) (n : Word) (frac : Nat) :
    (s.compose n frac).leaderLt = s.lt ∧ (s.compose n frac).bnum = n ∧ (s.compose n frac).srcAddr = s.line ∧ (s.compose n frac).srcRole = s.role := by
  unfold State.compose
  dsimp only
  generalize hb : (Beacon.mk _ _ _ _ _ _ _ _ _ _) = b
  obtain ⟨p, r, hroll⟩ := s.rollWrite_eq b
  obtain ⟨m, hmodels⟩ := s.modelsWrite_eq (s.rollWrite b)
  rw [hmodels, hroll, ← hb]
  exact ⟨rfl, rfl, rfl, rfl⟩

/-- HERD_ROSTER follows the beacon; beside its register and its event nothing moves (R176). -/
theorem State.rosterSet_keeps (s : State) (r : Word) :
    (s.rosterSet r).herd = s.herd ∧ (s.rosterSet r).out = s.out ∧ (s.rosterSet r).lt = s.lt ∧ (s.rosterSet r).com = s.com := by
  unfold State.rosterSet
  split
  · exact ⟨rfl, rfl, rfl, rfl⟩
  · exact ⟨State.raiseHerd_herd _ _ _, State.raiseHerd_out _ _ _, State.raiseHerd_lt _ _ _, State.raiseHerd_com _ _ _⟩

theorem State.get_rosterSet_other (s : State) (r : Word) {f : Fld} (hroster : f.addr ≠ R.HERD_ROSTER) (hevt : f.addr ≠ R.HERD_EVT)
    (hlo : f.addr ≠ R.EVT_SEEN_LO) (hhi : f.addr ≠ R.EVT_SEEN_HI) (hcnt : f.addr ≠ R.EVT_CNT 14) : (s.rosterSet r).get f = s.get f := by
  unfold State.rosterSet
  split
  · rfl
  · rw [State.get_raiseHerd_other _ hevt hlo hhi hcnt, State.get_wr_other _ _ _ hroster]

/-- The roster that a composed beacon carries, taken as HERD_ROSTER (R173, R176). -/
def State.rostered (s : State) (b : Beacon) : State := (s.rosterSet b.roster).originsCheck b.roster

/-- Outside the slots at which ports join (R156), a beacon is composed, its roster taken, and the frame sent. -/
theorem State.sendBeacon_eq (frac : Nat) (hslot : (bnumAt s.lt).toNat % 16 ≠ 0) :
    s.sendBeacon frac = ((s.rostered (s.compose (bnumAt s.lt) frac)).herdSend (s.rostered (s.compose (bnumAt s.lt) frac)).line true
      (.beacon (s.compose (bnumAt s.lt) frac))).herdMap (fun h => { h with sentBnum := some (bnumAt s.lt) }) := by
  unfold State.sendBeacon
  dsimp only
  rw [if_neg hslot]
  rfl

section
variable (s) (b : Beacon)

theorem State.lt_rostered : (s.rostered b).lt = s.lt := (s.rosterSet_keeps b.roster).2.2.1
theorem State.com_rostered : (s.rostered b).com = s.com := (s.rosterSet_keeps b.roster).2.2.2
theorem State.out_rostered : (s.rostered b).out = s.out := (s.rosterSet_keeps b.roster).2.1
theorem State.line_rostered : (s.rostered b).line = s.line := congrArg Com.lineAddr (s.com_rostered b)
theorem State.role_rostered : (s.rostered b).role = s.role := congrArg Com.role (s.com_rostered b)

theorem State.port_rostered : (s.rostered b).port false = s.port false := by
  have hherd : (s.rosterSet b.roster).herd.portA = s.herd.portA := congrArg HerdSt.portA (s.rosterSet_keeps b.roster).1
  exact hherd

theorem State.herdFull_rostered : (s.rostered b).herdFull = s.herdFull := by
  have hdom : (s.rostered b).dom domHerd = s.dom domHerd :=
    s.get_rosterSet_other b.roster (f := domFld domHerd) (by decide) (by decide) (by decide) (by decide) (by decide)
  rw [State.herdFull, State.herdFull, State.domIsOn, State.domIsOn, hdom, s.role_rostered b]

theorem State.wrapped_rostered : (s.rostered b).wrapped false = s.wrapped false := by
  have hget : (s.rostered b).get (portWrap false) = s.get (portWrap false) :=
    s.get_rosterSet_other b.roster (f := portWrap false) (by decide) (by decide) (by decide) (by decide) (by decide)
  rw [State.wrapped, State.wrapped, State.isSet, State.isSet, hget]

end

/-- A claim has taken the slot of this instant (R178). -/
def State.slotClaimed (s : State) : Bool :=
  match s.herd.takeBnum with
  | some t => !seqLater t (bnumAt s.lt)
  | none => false

theorem State.slotClaimed_some {n : Word} (h : s.herd.takeBnum = some n) : s.slotClaimed = !seqLater n (bnumAt s.lt) := by
  rw [State.slotClaimed, h]

theorem State.slotClaimed_none (h : s.herd.takeBnum = none) : s.slotClaimed = false := by rw [State.slotClaimed, h]

theorem exec_beaconSend (frac : Nat) : exec (.beaconSend frac) s =
    if !s.herdFull || s.lt % 10000 != 0 || s.herd.sentBnum == some (bnumAt s.lt) then .next s
    else if s.isSet F.HERD_STAT_BEACONING then
      if s.slotClaimed then .next s.beaconEnd else .next (s.sendBeacon (frac % (8 * linkUnit)))
    else if s.role = 2 && s.slotClaimed then .next ((s.beaconBegin.lineHold false).sendBeacon (frac % (8 * linkUnit)))
    else .next s := rfl

/-- A source that beacons sends the beacon of each slot once, unless a claim has taken the slot. -/
theorem exec_beaconSend_due {frac : Nat} (hfull : s.herdFull = true) (hgrid : s.lt % 10000 = 0) (hsent : s.herd.sentBnum ≠ some (bnumAt s.lt))
    (hbeacon : s.isSet F.HERD_STAT_BEACONING = true) : exec (.beaconSend frac) s =
      if s.slotClaimed then .next s.beaconEnd else .next (s.sendBeacon (frac % (8 * linkUnit))) := by
  rw [exec_beaconSend, if_neg (by simp [hfull, hgrid, hsent]), if_pos hbeacon]

theorem exec_beaconSend_taken {frac : Nat} {n : Word} (htake : s.herd.takeBnum = some n) (hnow : seqLater n (bnumAt s.lt) = false)
    (hfull : s.herdFull = true) (hgrid : s.lt % 10000 = 0) (hsent : s.herd.sentBnum ≠ some (bnumAt s.lt))
    (hbeacon : s.isSet F.HERD_STAT_BEACONING = true) : exec (.beaconSend frac) s = .next s.beaconEnd := by
  rw [exec_beaconSend_due hfull hgrid hsent hbeacon, State.slotClaimed_some htake, hnow]
  rfl

theorem beaconSend_completes {frac : Nat} (hfull : s.herdFull = true) (hgrid : s.lt % 10000 = 0) (hsent : s.herd.sentBnum ≠ some (bnumAt s.lt))
    (hbeacon : s.isSet F.HERD_STAT_BEACONING = true) (htake : s.herd.takeBnum = none) (hwrap : s.wrapped false = false)
    (hidle : (s.port false).tx = .idle) (hslot : (bnumAt s.lt).toNat % 16 ≠ 0) :
    Completes (.beaconSend frac) s (fun t => ∃ (f : Frame) (b : Beacon), t.out = s.out ++ [.frame false s.lt f .good] ∧ f.body = .beacon b ∧ f.bcast = true ∧
      f.origin = s.line ∧ b.leaderLt = s.lt ∧ b.bnum = bnumAt s.lt ∧ b.srcAddr = s.line ∧ b.srcRole = s.role ∧ t.herd.sentBnum = some b.bnum) := by
  have hexec : exec (.beaconSend frac) s = .next (s.sendBeacon (frac % (8 * linkUnit))) := by
    rw [exec_beaconSend_due hfull hgrid hsent hbeacon, State.slotClaimed_none htake, if_neg Bool.false_ne_true]
  obtain ⟨hlt, hbnum, haddr, hrole⟩ := s.compose_head (bnumAt s.lt) (frac % (8 * linkUnit))
  refine ⟨_, hexec, ?_⟩
  rw [State.sendBeacon_eq _ hslot]
  generalize s.compose (bnumAt s.lt) (frac % (8 * linkUnit)) = b at hlt hbnum haddr hrole
  have hout : ((s.rostered b).herdSend (s.rostered b).line true (.beacon b)).out =
      s.out ++ [.frame false s.lt (Frame.form s.line s.line true (w32 ((s.rostered b).fseqOf 0)) (.beacon b)) .good] := by
    have hfull' : (s.rostered b).herdFull = true := by rw [s.herdFull_rostered, hfull]
    have hwrap' : (s.rostered b).wrapped false = false := by rw [s.wrapped_rostered, hwrap]
    have hidle' : ((s.rostered b).port false).tx = .idle := by rw [s.port_rostered, hidle]
    rw [State.out_herdSend _ _ hfull' rfl hwrap' hidle', s.out_rostered, s.lt_rostered, s.line_rostered]
  refine ⟨Frame.form s.line s.line true (w32 ((s.rostered b).fseqOf 0)) (.beacon b), b, ?_, rfl, rfl, rfl, hlt, hbnum, haddr, hrole, ?_⟩
  · rw [State.herdMap_out, hout]
  · rw [hbnum]
    rfl

/-! ### Copies that arrive (R145, R147, R158 to R160, R164, R178, R179) -/

theorem State.role_of_ringTakes {portB : Bool} (h : s.ringTakes portB = true) : s.role ≠ 3 := by
  simp only [State.ringTakes, Bool.and_eq_true, bne_iff_ne] at h
  exact h.1.1

/-- A good copy of another module's frame to all goes on (R145). -/
theorem State.fate_pass {portB : Bool} {f : Frame} (htakes : s.ringTakes portB = true) (horigin : f.origin ≠ s.line) (hbcast : f.bcast = true) :
    s.fate portB f .good = .pass := by
  simp [State.fate, State.strips, htakes, horigin, hbcast]

/-- The own frame that has come round to port B is stripped (R145). -/
theorem State.fate_strip {f : Frame} (htakes : s.ringTakes true = true) (horigin : f.origin = s.line) : s.fate true f .good = .strip := by
  simp [State.fate, State.strips, htakes, horigin]

/-- A good copy for this module alone is delivered and goes no further (R145, R147). -/
theorem State.ringRx_isFor {portB : Bool} {f : Frame} {take : State → State} (hseen : f.seen .good = .good) (hfor : s.isFor portB f) :
    s.ringRx portB f .good take = take s := by
  obtain ⟨htakes, hfull, horigin, hbcast, hdest⟩ := hfor
  have hfate : s.fate portB f .good = .mine := by simp [State.fate, State.strips, htakes, horigin, hbcast, hdest]
  have hdelivers : s.delivers .good = true := by simp [State.delivers, hfull]
  unfold State.ringRx
  dsimp only
  rw [hseen, State.arrived_good s (State.role_of_ringTakes htakes), hfate]
  exact if_pos hdelivers

theorem exec_beaconRx_pass {portB : Bool} {f : Frame} {b : Beacon} (frac : Fin 256) (resid : Nat) (hseen : f.seen .good = .good)
    (hbody : f.body = .beacon b) (htakes : s.ringTakes portB = true) (horigin : f.origin ≠ s.line) (hbcast : f.bcast = true) (hhops : f.hops < 64) :
    exec (.beaconRx portB f .good frac resid) s =
      .next (((s.beaconGood portB b (s.portNow * 256 + frac.val)).beaconMarks b).forward portB
        { f with body := .beacon (((s.beaconGood portB b (s.portNow * 256 + frac.val)).beaconMarks b).beaconOut portB b resid) } .good) := by
  change execBeaconRx portB f .good frac resid s = _
  unfold execBeaconRx
  dsimp only
  rw [hseen, State.arrived_good s (State.role_of_ringTakes htakes), hbody]
  dsimp only
  rw [State.fate_pass htakes horigin hbcast]
  dsimp only
  rw [if_pos (by simp [hhops]), if_pos (by simp [hhops, horigin])]

theorem exec_beaconRx_strip {f : Frame} {b : Beacon} (frac : Fin 256) (resid : Nat) (hseen : f.seen .good = .good) (hbody : f.body = .beacon b)
    (htakes : s.ringTakes true = true) (horigin : f.origin = s.line) (hhops : f.hops < 64) (hfull : s.herdFull = true) :
    exec (.beaconRx true f .good frac resid) s =
      .next ((((s.herdMap (fun h => { h with returned := tabInsert (b.bnum.toNat % 4) b (tabDrop (b.bnum.toNat % 4) h.returned) })).beaconMarks
        b).deputiesNote b).anchorsTake b) := by
  change execBeaconRx true f .good frac resid s = _
  unfold execBeaconRx
  dsimp only
  rw [hseen, State.arrived_good s (State.role_of_ringTakes htakes), hbody]
  dsimp only
  rw [State.fate_strip htakes horigin]
  exact if_pos (by simp [hhops, hfull])

/-- What a CLAIM for this module does (R178). -/
theorem exec_claimRx_isFor {portB : Bool} {f : Frame} {n : Word} (hseen : f.seen .good = .good) (hbody : f.body = .claim n) (hfor : s.isFor portB f) :
    exec (.claimRx portB f .good) s =
      .next (if s.isSet F.HERD_STAT_BEACONING && s.role == 1 then s.herdMap (fun h => { h with takeBnum := some n }) else s) := by
  change execClaimRx portB f .good s = _
  unfold execClaimRx
  rw [State.ringRx_isFor hseen hfor, hbody]

theorem exec_formRx_strip {f : Frame} {m : Nat} {p : Word} {a r : Nat} (hseen : f.seen .good = .good) (hbody : f.body = .form m p a r)
    (htakes : s.ringTakes true = true) (hfull : s.herdFull = true) (horigin : f.origin = s.line) (hforming : s.isSet F.HERD_STAT_FORMING = true) :
    exec (.formRx true f .good) s = .next (s.herdMap (fun h => { h with formMax := max h.formMax m })) := by
  change execFormRx true f .good s = _
  unfold execFormRx
  dsimp only
  rw [hseen, State.arrived_good s (State.role_of_ringTakes htakes), hbody]
  dsimp only
  rw [State.fate_strip htakes horigin]
  exact if_pos (by simp [State.delivers, hfull, hforming])

theorem exec_formRx_pass {portB : Bool} {f : Frame} {m : Nat} {p : Word} {a r : Nat} (hseen : f.seen .good = .good) (hbody : f.body = .form m p a r)
    (htakes : s.ringTakes portB = true) (horigin : f.origin ≠ s.line) (hbcast : f.bcast = true) (hforming : s.isSet F.HERD_STAT_FORMING = false) :
    exec (.formRx portB f .good) s = .next (s.forward portB { f with body := .form (max m s.lt) (p ||| (1#32 <<< s.line)) a r } .good) := by
  change execFormRx portB f .good s = _
  unfold execFormRx
  dsimp only
  rw [hseen, State.arrived_good s (State.role_of_ringTakes htakes), hbody]
  dsimp only
  rw [State.fate_pass htakes horigin hbcast]
  dsimp only
  rw [if_neg (by simp [hforming]), if_neg (by simp [horigin])]

/-! ### Ports that take no ring frame (R147) -/

/-- Where a good copy arrives at a port that takes none, all that happens is what its arrival counts. -/
theorem State.ringRx_notTaken {portB : Bool} {f : Frame} (take : State → State) (hseen : f.seen .good = .good)
    (htakes : (s.arrived .good).ringTakes portB = false) : s.ringRx portB f .good take = s.arrived .good := by
  unfold State.ringRx
  dsimp only
  rw [hseen, State.fate_drop _ portB f .good htakes]

theorem exec_beaconRx_notTaken {portB : Bool} {f : Frame} (frac : Fin 256) (resid : Nat) (hseen : f.seen .good = .good)
    (htakes : (s.arrived .good).ringTakes portB = false) : exec (.beaconRx portB f .good frac resid) s = .next (s.arrived .good) := by
  change execBeaconRx portB f .good frac resid s = _
  unfold execBeaconRx
  rw [hseen]
  dsimp only
  split
  · rw [State.fate_drop _ portB f .good htakes]
  · rfl

theorem exec_formRx_notTaken {portB : Bool} {f : Frame} (hseen : f.seen .good = .good) (htakes : (s.arrived .good).ringTakes portB = false) :
    exec (.formRx portB f .good) s = .next (s.arrived .good) := by
  change execFormRx portB f .good s = _
  unfold execFormRx
  rw [hseen]
  dsimp only
  split
  · rw [State.fate_drop _ portB f .good htakes]
  · rfl

/-- A good copy of a RECORD frame ends no record (R152). -/
theorem State.recordCut_good (portB : Bool) {f : Frame} (hseen : f.seen .good = .good) : s.recordCut portB f .good = s := by
  unfold State.recordCut
  rw [hseen]
  split
  · exact if_neg (by simp)
  · rfl

/-- A good copy of any ring frame at a port that takes none does no more than arrive. -/
theorem exec_ringFrames_notTaken {portB : Bool} {f : Frame} (frac : Fin 256) (resid : Nat) (hseen : f.seen .good = .good)
    (htakes : (s.arrived .good).ringTakes portB = false) :
    exec (.beaconRx portB f .good frac resid) s = .next (s.arrived .good) ∧ exec (.claimRx portB f .good) s = .next (s.arrived .good) ∧
      exec (.formRx portB f .good) s = .next (s.arrived .good) ∧ exec (.actionRx portB f .good) s = .next (s.arrived .good) ∧
      exec (.herdAckRx portB f .good) s = .next (s.arrived .good) ∧ exec (.recordRx portB f .good) s = .next (s.arrived .good) := by
  have hring (take : State → State) : s.ringRx portB f .good take = s.arrived .good := State.ringRx_notTaken take hseen htakes
  have hcut : s.recordCut portB f .good = s := State.recordCut_good portB hseen
  refine ⟨exec_beaconRx_notTaken frac resid hseen htakes, congrArg Host.Outcome.next (hring _), exec_formRx_notTaken hseen htakes,
    congrArg Host.Outcome.next (hring _), congrArg Host.Outcome.next (hring _), ?_⟩
  change execRecordRx portB f .good s = _
  rw [execRecordRx, hcut, hring]

/-- A standalone module counts every copy (R147, assumption 142). -/
theorem State.arrived_standalone (h : s.role = 3) : s.arrived .good = s.herdMap (fun k => { k with ignored := k.ignored + 1 }) := by
  simp only [State.arrived, h, if_true, State.copyErr, ite_self]

theorem State.ringTakes_standalone (portB : Bool) (h : s.role = 3) : s.ringTakes portB = false := by simp [State.ringTakes, h]

/-- Settles O28: the first half is what the commands of a source do and send; the second is what becomes of a good copy, by its fate at the port. -/
theorem beaconsSentAndReceived : Obligations.BeaconsSentAndReceived := by
  unfold Obligations.BeaconsSentAndReceived
  refine ⟨fun s a frac => ⟨beaconListenEnd_completes, ?_, ?_, ?_, formTarget_bounds, beaconSend_completes, ?_, ?_⟩,
    fun s portB f frac resid hseen => ⟨?_, ?_, ?_, ?_, ?_, ?_, ?_, ?_⟩⟩
  · intro hform hfull hforming hgrid hrun hwrap hidle
    exact ⟨_, exec_formSend_due hform hfull hforming hgrid hrun, State.out_herdSend _ _ hfull rfl hwrap hidle⟩
  · intro hform hfull hforming hdue hreached
    rw [exec_formingEnd_due hform hfull hforming hdue, State.formLeap_reached hreached]
  · intro hform hfull hforming hdue hmax hahead
    rw [exec_formingEnd_due hform hfull hforming hdue, State.formLeap_ahead hmax hahead]
  · exact fun n => exec_beaconSend_taken
  · intro hgrid
    rw [exec_beaconSend, if_pos (by simp [hgrid])]
  · exact fun b => exec_beaconRx_pass frac resid hseen
  · exact fun b => exec_beaconRx_strip frac resid hseen
  · intro n hbody hfor hbeacon hrole
    rw [exec_claimRx_isFor hseen hbody hfor, if_pos (by simp [hbeacon, hrole])]
    rfl
  · intro n hbody hfor hbeacon
    rw [exec_claimRx_isFor hseen hbody hfor, if_neg (by simp [hbeacon])]
  · exact fun m p a r => exec_formRx_strip hseen
  · exact fun m p a r => exec_formRx_pass hseen
  · intro htakes hrole
    have harrived : s.arrived .good = s := s.arrived_good hrole
    have hnone := exec_ringFrames_notTaken frac resid hseen (s := s) (harrived.symm ▸ htakes)
    rwa [harrived] at hnone
  · intro hrole
    have hnone := exec_ringFrames_notTaken frac resid hseen (s := s) (portB := portB)
      (by rw [State.arrived_standalone hrole]; exact State.ringTakes_standalone portB hrole)
    rwa [State.arrived_standalone hrole] at hnone

end Sys2Proof.Machine
end

section
/-! SUPPORT. What bring-up goes by (chapters 13 and 14): whether the module boots, line time and PWR_BOOT, which queues, the trouble log, the Herd link and the
memories' codes leave as they are. -/

namespace Sys2Proof.Machine

variable (s : State)

/-- POWER_UP, whether line time runs, line time, and the sleep count. -/
def State.clock : Bool × Bool × Nat × Option Nat := (s.booting, s.time, s.lt, s.ticks)

/-- What bring-up goes by: the clock and PWR_BOOT. -/
def State.bringUp : (Bool × Bool × Nat × Option Nat) × Word := (s.clock, s.rd R.PWR_BOOT)

/-- The laws below go through these rather than by `rfl`: a chain of `rfl` steps would have the kernel compare whole states. -/
theorem State.clock_congr {s t : State} (hbooting : t.booting = s.booting) (htime : t.time = s.time) (hlt : t.lt = s.lt) (hticks : t.ticks = s.ticks) :
    t.clock = s.clock := by rw [State.clock, State.clock, hbooting, htime, hlt, hticks]

theorem State.bringUp_congr {s t : State} (hbooting : t.booting = s.booting) (htime : t.time = s.time) (hlt : t.lt = s.lt) (hticks : t.ticks = s.ticks)
    (hregs : t.regs = s.regs) : t.bringUp = s.bringUp := by
  rw [State.bringUp, State.bringUp, State.clock_congr hbooting htime hlt hticks, State.rd, State.rd, hregs]

theorem State.clock_of_bringUp {s t : State} (h : t.bringUp = s.bringUp) : t.clock = s.clock := congrArg Prod.fst h

theorem State.get_pwrBoot_of_bringUp {s t : State} (h : t.bringUp = s.bringUp) {f : Fld} (hf : f.addr = R.PWR_BOOT) : t.get f = s.get f := by
  have hrd : t.rd R.PWR_BOOT = s.rd R.PWR_BOOT := congrArg Prod.snd h
  rw [State.get, State.get, hf, hrd]

@[simp] theorem State.bringUp_ite (p : Prop) [Decidable p] (t : State) :
    (if p then s else t).bringUp = if p then s.bringUp else t.bringUp := apply_ite State.bringUp p s t

@[simp] theorem State.bringUp_ite_fst {β : Type} (p : Prop) [Decidable p] (a b : State × β) :
    (if p then a else b).1.bringUp = if p then a.1.bringUp else b.1.bringUp := apply_ite (fun x : State × β => x.1.bringUp) p a b

@[simp] theorem State.bringUp_foldl {α : Type} (f : State → α → State) (h : ∀ s x, (f s x).bringUp = s.bringUp) (l : List α) :
    (l.foldl f s).bringUp = s.bringUp := foldl_keeps State.bringUp f h l s

/-! ### Registers apart from PWR_BOOT -/

@[simp] theorem State.bringUp_wr {a : Nat} (v : Word) (h : a ≠ R.PWR_BOOT) : (s.wr a v).bringUp = s.bringUp := by
  have hclock : (s.wr a v).clock = s.clock := State.clock_congr rfl rfl rfl rfl
  rw [State.bringUp, State.bringUp, hclock, s.rd_wr_other v h.symm]

@[simp] theorem State.bringUp_put {f : Fld} (n : Nat) (h : f.addr ≠ R.PWR_BOOT) : (s.put f n).bringUp = s.bringUp := s.bringUp_wr _ h
@[simp] theorem State.bringUp_setBit {f : Fld} (i : Nat) (h : f.addr ≠ R.PWR_BOOT) : (s.setBit f i).bringUp = s.bringUp := s.bringUp_put _ h
@[simp] theorem State.bringUp_incSat {f : Fld} (n : Nat) (h : f.addr ≠ R.PWR_BOOT) : (s.incSat f n).bringUp = s.bringUp := s.bringUp_put _ h
@[simp] theorem State.bringUp_incWrap {f : Fld} (n : Nat) (h : f.addr ≠ R.PWR_BOOT) : (s.incWrap f n).bringUp = s.bringUp := s.bringUp_put _ h

@[simp] theorem State.bringUp_putPair {a : Nat} (n : Nat) (hlo : a ≠ R.PWR_BOOT) (hhi : a + 4 ≠ R.PWR_BOOT) : (s.putPair a n).bringUp = s.bringUp := by
  rw [State.putPair, State.bringUp_wr _ _ hhi, State.bringUp_wr _ _ hlo]

/-- A queue's registers but its TAIL's place lie apart from PWR_BOOT. -/
theorem qBase_add_ne_pwrBoot (q : Nat) {k : Nat} (hk : k < 0x20 ∨ 0x20 < k ∧ k < 0x40) : qBase q + k ≠ R.PWR_BOOT := by
  unfold qBase R.PWR_BOOT
  split <;> omega

@[simp] theorem R.qEvt_ne_pwrBoot (q : Nat) : R.Q_EVT q ≠ R.PWR_BOOT := qBase_add_ne_pwrBoot q (by omega)
@[simp] theorem R.qCnt0_ne_pwrBoot (q : Nat) : R.Q_CNT0 q ≠ R.PWR_BOOT := qBase_add_ne_pwrBoot q (by omega)
@[simp] theorem R.qPushRes_ne_pwrBoot (q : Nat) : R.Q_PUSH_RES q ≠ R.PWR_BOOT := qBase_add_ne_pwrBoot q (by omega)
@[simp] theorem R.qPopRes_ne_pwrBoot (q : Nat) : R.Q_POP_RES q ≠ R.PWR_BOOT := qBase_add_ne_pwrBoot q (by omega)
@[simp] theorem R.evtCnt_ne_pwrBoot (n : Nat) : R.EVT_CNT n ≠ R.PWR_BOOT := by unfold R.EVT_CNT R.PWR_BOOT; omega

/-! ### The units' own updates and events -/

@[simp] theorem State.bringUp_setCore (k : Nat) (c : Core) : (s.setCore k c).bringUp = s.bringUp := State.bringUp_congr rfl rfl rfl rfl rfl
@[simp] theorem State.bringUp_raiseTile (t n : Nat) : (s.raiseTile t n).bringUp = s.bringUp := s.bringUp_setCore _ _
@[simp] theorem State.bringUp_takeSeq (k : Nat) : (s.takeSeq k).bringUp = s.bringUp := State.bringUp_congr rfl rfl rfl rfl rfl
@[simp] theorem State.bringUp_emit (e : Emission) : (s.emit e).bringUp = s.bringUp := State.bringUp_congr rfl rfl rfl rfl rfl
@[simp] theorem State.bringUp_setQueue (q : Nat) (x : Queue) : (s.setQueue q x).bringUp = s.bringUp := State.bringUp_congr rfl rfl rfl rfl rfl
@[simp] theorem State.bringUp_setLadle (l : Nat) (x : Ladle) : (s.setLadle l x).bringUp = s.bringUp := State.bringUp_congr rfl rfl rfl rfl rfl
@[simp] theorem State.bringUp_setEng (t : Nat) (x : ChurnSt) : (s.setEng t x).bringUp = s.bringUp := State.bringUp_congr rfl rfl rfl rfl rfl
@[simp] theorem State.bringUp_setGrp (t g : Nat) (x : GroupSt) : (s.setGrp t g x).bringUp = s.bringUp := s.bringUp_setEng _ _
@[simp] theorem State.bringUp_setPort (b : Bool) (p : PortSt) : (s.setPort b p).bringUp = s.bringUp := State.bringUp_congr rfl rfl rfl rfl rfl

@[simp] theorem State.bringUp_raise (n : Nat) : (s.raise n).bringUp = s.bringUp := by simp [State.raise]
@[simp] theorem State.bringUp_raiseQueue (q : Nat) : (s.raiseQueue q).bringUp = s.bringUp := s.bringUp_raise _

/-! ### Queues -/

@[simp] theorem State.bringUp_qRoom (q before : Nat) : (s.qRoom q before).bringUp = s.bringUp := by simp [State.qRoom]

@[simp] theorem State.bringUp_resetPorts (q : Nat) : (s.resetPorts q).bringUp = s.bringUp := by simp [State.resetPorts]

@[simp] theorem State.bringUp_resetOpens (q : Nat) (l : List (Nat × OpenSamples)) (p : PendGap) : (s.resetOpens q l p).1.bringUp = s.bringUp := by
  induction l generalizing s p with
  | nil => rfl
  | cons o l ih => rw [State.resetOpens, ih, State.bringUp_takeSeq]

@[simp] theorem State.bringUp_resetGap (q : Nat) : (s.resetGap q).1.bringUp = s.bringUp := s.bringUp_resetOpens _ _ _

@[simp] theorem State.bringUp_qReset (q cause : Nat) : (s.qReset q cause).bringUp = s.bringUp := by
  unfold State.qReset
  split <;> simp

@[simp] theorem State.bringUp_qCompare (q : Nat) : (s.qCompare q).bringUp = s.bringUp := by simp [State.qCompare]

@[simp] theorem State.bringUp_qDrop (q : Nat) (r : Rec) : (s.qDrop q r).bringUp = s.bringUp := by
  unfold State.qDrop
  dsimp only
  split <;> simp

@[simp] theorem State.bringUp_evictRuns (q : Nat) (old : Queue) : (s.evictRuns q old).bringUp = s.bringUp := by
  refine s.bringUp_foldl _ (fun s l => s.bringUp_foldl _ (fun s d => ?_) _) _
  rw [State.bringUp_ite, State.bringUp_setLadle, ite_self]

@[simp] theorem State.bringUp_qMakeRoom (q need limit : Nat) : (s.qMakeRoom q need limit).bringUp = s.bringUp := by simp [State.qMakeRoom]

@[simp] theorem State.bringUp_qThreshold (q : Nat) : (s.qThreshold q).bringUp = s.bringUp := by simp [State.qThreshold]

@[simp] theorem State.bringUp_qCommit (q : Nat) (r : Rec) : (s.qCommit q r).bringUp = s.bringUp := by
  rw [State.qCommit, State.bringUp_qThreshold, State.bringUp_setQueue]

@[simp] theorem State.bringUp_gapCovers (t : Nat) (es : List GapEntry) : (s.gapCovers t es).bringUp = s.bringUp := by
  refine s.bringUp_foldl _ (fun s e => ?_) _
  rw [State.bringUp_ite, State.bringUp_setEng, State.bringUp_setGrp, ite_self]

@[simp] theorem State.bringUp_qWriteGaps (q cause : Nat) (l : List (List GapEntry)) : (s.qWriteGaps q cause l).bringUp = s.bringUp := by
  induction l generalizing s with
  | nil => rfl
  | cons es l ih => simp [State.qWriteGaps, ih]

@[simp] theorem State.bringUp_qWriteMarks (q : Nat) (l : List Rec) : (s.qWriteMarks q l).bringUp = s.bringUp := by
  induction l generalizing s with
  | nil => rfl
  | cons r l ih => rw [State.qWriteMarks, ih, State.bringUp_qCommit]

@[simp] theorem State.bringUp_qWritePend (q : Nat) (p : PendGap) : (s.qWritePend q p).bringUp = s.bringUp := by
  rw [State.qWritePend, State.bringUp_qWriteMarks, State.bringUp_qWriteGaps, State.bringUp_setQueue]

@[simp] theorem State.bringUp_qFlushFor (q : Nat) (r : Rec) : (s.qFlushFor q r).1.bringUp = s.bringUp := by
  unfold State.qFlushFor
  split
  · rfl
  · simp

@[simp] theorem State.bringUp_qAdmit (q : Nat) (r : Rec) : (s.qAdmit q r).bringUp = s.bringUp := by simp [State.qAdmit]

@[simp] theorem State.bringUp_qOffer (q : Nat) (r : Rec) : (s.qOffer q r).bringUp = s.bringUp := by
  rw [State.qOffer, State.bringUp_qCompare, State.bringUp_qAdmit]

@[simp] theorem State.bringUp_offerNew (q : Nat) (r : Rec) : (s.offerNew q r).bringUp = s.bringUp := by
  rw [State.offerNew, State.bringUp_qOffer, State.bringUp_takeSeq]

/-! ### The trouble log -/

@[simp] theorem State.bringUp_logOut (e : LogEntry) : (s.logOut e).bringUp = s.bringUp := by
  unfold State.logOut
  split
  · split
    · exact s.bringUp_offerNew _ _
    · exact State.bringUp_congr rfl rfl rfl rfl rfl
  · rfl

@[simp] theorem State.bringUp_logWrite (kind event : Nat) (d0 d1 d2 : Word) : (s.logWrite kind event d0 d1 d2).bringUp = s.bringUp := by
  have hlog (u : State) (l : List (Nat × Option LogEntry)) : ({ u with log := l } : State).bringUp = u.bringUp := State.bringUp_congr rfl rfl rfl rfl rfl
  simp [State.logWrite, hlog]

@[simp] theorem State.bringUp_logLose (slot : Nat) : (s.logLose slot).bringUp = s.bringUp := by
  have hlog (u : State) (l : List (Nat × Option LogEntry)) : ({ u with log := l } : State).bringUp = u.bringUp := State.bringUp_congr rfl rfl rfl rfl rfl
  unfold State.logLose
  split
  · simp [hlog]
  · rfl

/-! ### The Herd link's ports -/

theorem R.herdPort_ne_pwrBoot (b : Bool) : R.HERD_PORT b.toNat ≠ R.PWR_BOOT := by cases b <;> decide
@[simp] theorem portState_ne_pwrBoot (b : Bool) : (portState b).addr ≠ R.PWR_BOOT := R.herdPort_ne_pwrBoot b
@[simp] theorem portWrap_ne_pwrBoot (b : Bool) : (portWrap b).addr ≠ R.PWR_BOOT := R.herdPort_ne_pwrBoot b
@[simp] theorem statWrap_ne_pwrBoot (b : Bool) : (statWrap b).addr ≠ R.PWR_BOOT := by cases b <;> decide

@[simp] theorem State.bringUp_raiseHerd {f : Fld} (n : Nat) (h : f.addr ≠ R.PWR_BOOT) : (s.raiseHerd f n).bringUp = s.bringUp := by
  rw [State.raiseHerd, State.bringUp_raise, State.bringUp_put _ _ h]

@[simp] theorem State.bringUp_frameErr : s.frameErr.bringUp = s.bringUp := s.bringUp_raiseHerd _ (by simp)

@[simp] theorem State.bringUp_txStep (b : Bool) : (s.txStep b).bringUp = s.bringUp := by
  unfold State.txStep
  dsimp only
  split
  · simp
  · split
    · split <;> simp
    · rfl

@[simp] theorem State.bringUp_txPut (b : Bool) (f : TxFrame) : (s.txPut b f).bringUp = s.bringUp := by simp [State.txPut]

@[simp] theorem State.bringUp_sendOn (b : Bool) (f : Frame) (how : CopyEnd) (from_ : Nat) : (s.sendOn b f how from_).bringUp = s.bringUp := by
  simp [State.sendOn]

@[simp] theorem State.bringUp_portWrapOn (b : Bool) : (s.portWrapOn b).bringUp = s.bringUp := by simp [State.portWrapOn]

@[simp] theorem State.bringUp_portTo (b : Bool) (st : Nat) : (s.portTo b st).bringUp = s.bringUp := by
  have hevt : (if b then F.HERD_EVT_PORTB_SEEN else F.HERD_EVT_PORTA_SEEN).addr ≠ R.PWR_BOOT := by cases b <;> decide
  have hpeer : R.HERD_PORT b.toNat ≠ R.PWR_BOOT := R.herdPort_ne_pwrBoot b
  simp [State.portTo, hevt, hpeer]

/-! ### Domains and memories -/

theorem domFld_addr (n : Nat) : (domFld n).addr = R.PWR_STATE_H ∨ (domFld n).addr = R.PWR_STATE_T := by
  unfold domFld
  split
  · exact Or.inl rfl
  · split <;> exact Or.inr rfl

@[simp] theorem domFld_ne_pwrBoot (n : Nat) : (domFld n).addr ≠ R.PWR_BOOT := by
  rcases domFld_addr n with h | h <;> rw [h] <;> decide

@[simp] theorem State.bringUp_setDom (n st : Nat) : (s.setDom n st).bringUp = s.bringUp :=
  (State.bringUp_congr rfl rfl rfl rfl rfl).trans (s.bringUp_put st (domFld_ne_pwrBoot n))

theorem R.memStat_ne_pwrBoot {m : Nat} (hm : m < 19) : R.MEMM_STAT m ≠ R.PWR_BOOT := by unfold R.MEMM_STAT R.PWR_BOOT; omega

end Sys2Proof.Machine
end

section
/-! SUPPORT. The steps of bring-up (chapters 13 and 14): the domains and rails switched on, the baseline's findings, the logic step, and the statement O22. -/

namespace Sys2Proof.Machine

variable {s : State}

theorem foldl_keeps_mem {α β γ : Type} (v : β → γ) (f : β → α → β) (l : List α) (h : ∀ b, ∀ x ∈ l, v (f b x) = v b) (b : β) : v (l.foldl f b) = v b := by
  induction l generalizing b with
  | nil => rfl
  | cons x t ih => rw [List.foldl_cons, ih (fun b y hy => h b y (List.mem_cons_of_mem x hy)), h b x List.mem_cons_self]

/-! ### The rails (R375, R379) -/

@[simp] theorem State.linkSend_regs (s : State) (op target arg : Nat) : (s.linkSend op target arg).regs = s.regs := rfl
@[simp] theorem State.linkSend_mem (s : State) (op target arg : Nat) : (s.linkSend op target arg).mem = s.mem := rfl
@[simp] theorem State.linkSend_boot (s : State) (op target arg : Nat) : (s.linkSend op target arg).boot = s.boot := rfl

/-- Bring-up's requests for the rails touch the supply link alone. -/
theorem State.railsOn_keeps (s : State) : s.railsOn.regs = s.regs ∧ s.railsOn.mem = s.mem ∧ s.railsOn.boot = s.boot :=
  ⟨foldl_keeps State.regs _ (fun u r => u.linkSend_regs opRailSet r 1) _ s, foldl_keeps State.mem _ (fun u r => u.linkSend_mem opRailSet r 1) _ s,
    foldl_keeps State.boot _ (fun u r => u.linkSend_boot opRailSet r 1) _ s⟩

theorem State.linkSend_free (op target arg : Nat) (h : s.link.req = none) : s.linkSend op target arg =
    { s with link := { s.link with seq := (s.link.seq + 1) % 16, req := some ⟨op, target, arg, s.link.seq, s.logLt, 0⟩, lastAt := s.logLt },
             out := s.out ++ [.supply (linkFrame op s.link.seq target arg)] } := by
  rw [State.linkSend, LinkSt.push, h]

theorem State.linkSend_waits {r : LinkReq} (op target arg : Nat) (h : s.link.req = some r) : s.linkSend op target arg =
    { s with link := { s.link with queue := s.link.queue ++ [(op, target, arg)] } } := by
  have hpush : s.link.push s.logLt op target arg = ({ s.link with queue := s.link.queue ++ [(op, target, arg)] }, []) := by simp only [LinkSt.push, h]
  rw [State.linkSend, hpush]
  dsimp only
  rw [List.append_nil]

/-- Behind a request that is not yet acknowledged, those for further rails wait in their order. -/
theorem State.foldl_linkSend_waits {r : LinkReq} (rails : List Nat) (h : s.link.req = some r) :
    (rails.foldl (fun u x => u.linkSend opRailSet x 1) s).out = s.out ∧
      (rails.foldl (fun u x => u.linkSend opRailSet x 1) s).link.queue = s.link.queue ++ rails.map (fun x => (opRailSet, x, 1)) := by
  induction rails generalizing s with
  | nil => exact ⟨rfl, (List.append_nil _).symm⟩
  | cons x rails ih =>
    rw [List.foldl_cons, State.linkSend_waits opRailSet x 1 h, List.map_cons]
    obtain ⟨hout, hqueue⟩ := ih (s := { s with link := { s.link with queue := s.link.queue ++ [(opRailSet, x, 1)] } }) h
    exact ⟨hout, by rw [hqueue, List.append_assoc]; rfl⟩

theorem State.railsOn_free (h : s.link.req = none) : s.railsOn.out = s.out ++ [.supply (linkFrame 1 s.link.seq 0 1)] ∧
    s.railsOn.link.queue = s.link.queue ++ [(1, 1, 1), (1, 2, 1), (1, 3, 1), (1, 4, 1), (1, 5, 1)] := by
  have hrails : s.railsOn = [1, 2, 3, 4, 5].foldl (fun u x => u.linkSend opRailSet x 1) (s.linkSend opRailSet 0 1) := rfl
  rw [hrails, State.linkSend_free opRailSet 0 1 h]
  exact State.foldl_linkSend_waits _ rfl

/-! ### The domains (R138, R379) -/

/-- One domain set by bring-up; a tile's with the LT of its switch-on or switch-off (R138). -/
def State.domSet (st : Nat) (s : State) (n : Nat) : State :=
  if n < 4 ∨ 12 ≤ n ∨ s.dom n = st then s.setDom n st
  else (s.setDom n st).putPair (if st = domOff then R.LT_TILE_RET_IN_LO (n - 4) else R.LT_TILE_RET_OUT_LO (n - 4)) s.logLt

theorem State.allDoms_eq (s : State) (st : Nat) : s.allDoms st = (List.range 20).foldl (State.domSet st) s := rfl

/-- The instants of the tiles' switching lie in the window of line time, behind its own registers. -/
theorem tileRet_range (st n : Nat) : 0x70000080 ≤ (if st = domOff then R.LT_TILE_RET_IN_LO n else R.LT_TILE_RET_OUT_LO n) := by
  unfold R.LT_TILE_RET_IN_LO R.LT_TILE_RET_OUT_LO
  split <;> omega

theorem State.get_setDom_put (s : State) (n st : Nat) (f : Fld) : (s.setDom n st).get f = (s.put (domFld n) st).get f := State.get_congr rfl f

/-- Below the tiles' instants a domain's switching leaves every field that it leaves in PWR_STATE. -/
theorem State.get_domSet (s : State) (st n : Nat) {f : Fld} (h : f.addr < 0x70000080) : (s.domSet st n).get f = (s.put (domFld n) st).get f := by
  have hrange := tileRet_range st (n - 4)
  unfold State.domSet
  split
  · exact s.get_setDom_put n st f
  · rw [State.get_putPair_other _ _ _ (by omega) (by omega), s.get_setDom_put]

theorem domFld_fits {n : Nat} (hn : n < 20) : (domFld n).lo + (domFld n).width ≤ 32 := by
  unfold domFld
  split
  · dsimp only; omega
  · split <;> dsimp only <;> omega

/-- The domains' fields lie apart. -/
theorem domFld_apart {m n : Nat} (hm : m < 20) (hn : n < 20) (h : m ≠ n) : (domFld m).addr ≠ (domFld n).addr ∨
    (domFld m).lo + (domFld m).width ≤ (domFld n).lo ∨ (domFld n).lo + (domFld n).width ≤ (domFld m).lo := by
  have hall : ∀ m < 20, ∀ n < 20, m ≠ n → (domFld m).addr ≠ (domFld n).addr ∨ (domFld m).lo + (domFld m).width ≤ (domFld n).lo ∨
      (domFld n).lo + (domFld n).width ≤ (domFld m).lo := by decide
  exact hall m hm n hn h

theorem domFld_low (n : Nat) : (domFld n).addr < 0x70000080 := by
  rcases domFld_addr n with h | h <;> rw [h] <;> decide

theorem domFld_width (n : Nat) : (domFld n).width = 2 := by
  unfold domFld
  split
  · rfl
  · split <;> rfl

theorem State.dom_domSet_same (s : State) {st n : Nat} (hn : n < 20) (hst : st < 4) : (s.domSet st n).dom n = st := by
  rw [State.dom, s.get_domSet st n (domFld_low n), State.get_put_same _ _ _ (domFld_fits hn), domFld_width]
  exact Nat.mod_eq_of_lt hst

theorem State.dom_domSet_other (s : State) (st : Nat) {m n : Nat} (hm : m < 20) (hn : n < 20) (h : m ≠ n) : (s.domSet st n).dom m = s.dom m := by
  rw [State.dom, s.get_domSet st n (domFld_low m), State.dom]
  rcases domFld_apart hm hn h with haddr | hbits
  · exact s.get_put_other _ _ _ haddr
  · exact s.get_put_apart _ _ _ (domFld_fits hn) hbits

/-- Each domain that has been set shows its state, whatever is set behind it. -/
theorem State.dom_foldl_domSet {st m : Nat} (hst : st < 4) (hm : m < 20) (l : List Nat) (hl : ∀ n ∈ l, n < 20) (h : m ∈ l ∨ s.dom m = st) :
    (l.foldl (State.domSet st) s).dom m = st := by
  induction l generalizing s with
  | nil => exact h.resolve_left List.not_mem_nil
  | cons n l ih =>
    rw [List.foldl_cons]
    have hn : n < 20 := hl n List.mem_cons_self
    refine ih (fun k hk => hl k (List.mem_cons_of_mem n hk)) ?_
    by_cases hmn : m = n
    · rw [hmn]
      exact Or.inr (s.dom_domSet_same hn hst)
    · rw [s.dom_domSet_other st hm hn hmn]
      exact h.imp_left (fun hmem => (List.mem_cons.mp hmem).resolve_left hmn)

theorem State.dom_allDoms (s : State) {st m : Nat} (hst : st < 4) (hm : m < 20) : (s.allDoms st).dom m = st := by
  rw [s.allDoms_eq]
  exact State.dom_foldl_domSet hst hm _ (fun _ hn => List.mem_range.mp hn) (Or.inl (List.mem_range.mpr hm))

/-- A field below the tiles' instants and outside PWR_STATE is none of the domains'. -/
theorem State.get_allDoms_other (s : State) (st : Nat) {f : Fld} (hlow : f.addr < 0x70000080) (hh : f.addr ≠ R.PWR_STATE_H) (ht : f.addr ≠ R.PWR_STATE_T) :
    (s.allDoms st).get f = s.get f := by
  rw [s.allDoms_eq]
  refine foldl_keeps (fun u => u.get f) _ (fun u n => ?_) _ s
  have hdom : f.addr ≠ (domFld n).addr := by rcases domFld_addr n with h | h <;> rw [h] <;> assumption
  exact (u.get_domSet st n hlow).trans (u.get_put_other _ _ _ hdom)

theorem State.boot_allDoms (s : State) (st : Nat) : (s.allDoms st).boot = s.boot := by
  refine foldl_keeps State.boot _ (fun u n => ?_) _ s
  split <;> rfl

end Sys2Proof.Machine
end

section
/-! SUPPORT. The steps of bring-up up to the logic's release (R379, R380). -/

namespace Sys2Proof.Machine

variable {s : State}

theorem State.boot_setBoot (s : State) (b : BootSt) : (s.setBoot b).boot = b := rfl

/-! ### What each step does (R379) -/

theorem exec_supplyValid (h : s.boot.stage = 0) : exec .supplyValid s = .next ((s.put F.PWR_BOOT_TRIES 1).bootTo 1) := by
  change execSupplyValid s = _
  rw [execSupplyValid, if_pos h]

theorem exec_aonRailGood (h : s.boot.stage = 1) : exec .aonRailGood s = .next (s.bootTo 2) := by
  change execAonRailGood s = _
  rw [execAonRailGood, if_pos h]

theorem exec_resonatorOscillating (h : s.boot.stage = 2) : exec .resonatorOscillating s = .next (s.bootTo 3).railsOn := by
  change execResonatorOscillating s = _
  rw [execResonatorOscillating, if_pos h]

theorem exec_railsGood (h : s.boot.stage = 3) (hgood : (s.get F.PWR_STAGE_FLAGS).testBit 2 = false) :
    exec .railsGood s = .next ((s.put F.PWR_BOOT_STEP 1).bootTo 4) := by
  change execRailsGood s = _
  rw [execRailsGood, h, hgood]
  rfl

theorem exec_railsGood_fault (hfault : (s.get F.PWR_STAGE_FLAGS).testBit 2 = true) : exec .railsGood s = .next s := by
  change execRailsGood s = _
  rw [execRailsGood, hfault, Bool.not_true, Bool.and_false]
  rfl

theorem exec_resonatorStable (h : s.boot.stage = 4) : exec .resonatorStable s = .next (s.bootTo 5) := by
  change execResonatorStable s = _
  rw [execResonatorStable, if_pos h]

theorem exec_pllLock_boot (h : s.boot.stage = 5) : exec .pllLock s = .next ((((s.put F.LT_CLK_STAT_PLL_LOCK 1).allDoms domOn).put F.PWR_BOOT_STEP 2).bootTo 6) := by
  change execPllLock s = _
  rw [execPllLock, if_pos h]

theorem exec_memoryRepairLoaded (h : s.boot.stage = 6) : exec .memoryRepairLoaded s = .next (s.bootTo 7) := by
  change execMemoryRepairLoaded s = _
  rw [execMemoryRepairLoaded, if_pos h]

theorem exec_memoryInitDone (h : s.boot.stage = 7) : exec .memoryInitDone s =
    .next ({ s with mem := [], lines := if s.boot.warm then s.lines.filter (fun l => l.1 / 0x100000 == 17) else [] }.bootTo 8) := by
  change execMemoryInitDone s = _
  rw [execMemoryInitDone, if_pos h]

/-- The baseline's findings, taken in turn. -/
def State.baselineTaken (s : State) (found : List BaselineFind) : State := found.foldl (fun s x => s.baselineLine x.m x.line x.upset) s

theorem exec_scrubBaselineDone {found : List BaselineFind} (h : s.boot.stage = 8)
    (hgood : baselineFails (found.map (fun x => (x.m.val, x.line.val, x.upset))) = false) :
    exec (.scrubBaselineDone found) s = .next ((((List.range 19).foldl State.scrubGo (s.baselineTaken found)).put F.PWR_BOOT_STEP 3).bootTo 9) := by
  change execScrubBaselineDone found s = _
  rw [execScrubBaselineDone, if_pos h, hgood]
  rfl

theorem exec_scrubBaselineDone_fails {found : List BaselineFind} (h : s.boot.stage = 8)
    (hfails : baselineFails (found.map (fun x => (x.m.val, x.line.val, x.upset))) = true) :
    exec (.scrubBaselineDone found) s = .next ((s.baselineTaken found).bootFail 3) := by
  change execScrubBaselineDone found s = _
  rw [execScrubBaselineDone, if_pos h, hfails]
  rfl

/-! ### The PLL locked (R124, R379) -/

/-- With the PLL locked every domain is on, and PLL_LOCK and STEP show it. -/
theorem State.pllLocked (s : State) : let t := (((s.put F.LT_CLK_STAT_PLL_LOCK 1).allDoms domOn).put F.PWR_BOOT_STEP 2).bootTo 6
    t.boot = { s.boot with stage := 6 } ∧ t.get F.PWR_BOOT_STEP = 2 ∧ t.get F.LT_CLK_STAT_PLL_LOCK = 1 ∧ ∀ d, d < 20 → t.domIsOn d = true := by
  have hstep : F.LT_CLK_STAT_PLL_LOCK.addr ≠ F.PWR_BOOT_STEP.addr := by decide
  refine ⟨?_, ?_, ?_, fun d hd => ?_⟩
  · rw [State.bootTo, State.boot_setBoot, State.put_boot, State.boot_allDoms, State.put_boot]
  · rw [State.bootTo, State.get_setBoot, State.get_put_same _ _ _ (by decide)]
    rfl
  · rw [State.bootTo, State.get_setBoot, State.get_put_other _ _ _ _ hstep, State.get_allDoms_other _ _ (by decide) (by decide) (by decide),
      State.get_put_same _ _ _ (by decide)]
    rfl
  · have hdom : (domFld d).addr ≠ F.PWR_BOOT_STEP.addr := domFld_ne_pwrBoot d
    rw [State.domIsOn, State.dom, State.bootTo, State.get_setBoot, State.get_put_other _ _ _ _ hdom]
    exact beq_of_eq (State.dom_allDoms _ (by decide) hd)

/-! ### The scrubbers (R284) -/

theorem State.scrubGo_regs (s : State) (m : Nat) : (s.scrubGo m).regs = (s.put (F.MEMM_STAT_SCRUBBING m) 1).regs := rfl

theorem State.scrubbing_scrubGo_same (s : State) (m : Nat) : (s.scrubGo m).isSet (F.MEMM_STAT_SCRUBBING m) = true := by
  have hfits : (F.MEMM_STAT_SCRUBBING m).lo + (F.MEMM_STAT_SCRUBBING m).width ≤ 32 := by dsimp only; omega
  rw [State.isSet_congr (s.scrubGo_regs m), State.isSet, State.get_put_same _ _ _ hfits]
  rfl

theorem State.scrubbing_scrubGo_other (s : State) {k m : Nat} (h : k ≠ m) :
    (s.scrubGo m).isSet (F.MEMM_STAT_SCRUBBING k) = s.isSet (F.MEMM_STAT_SCRUBBING k) := by
  have haddr : (F.MEMM_STAT_SCRUBBING k).addr ≠ (F.MEMM_STAT_SCRUBBING m).addr := by
    dsimp only [F.MEMM_STAT_SCRUBBING]
    unfold R.MEMM_STAT
    omega
  rw [State.isSet_congr (s.scrubGo_regs m), State.isSet, State.get_put_other _ _ _ _ haddr, State.isSet]

/-- A scrubber that has been started runs on while others are. -/
theorem State.scrubbing_foldl_scrubGo {m : Nat} (l : List Nat) (h : m ∈ l ∨ s.isSet (F.MEMM_STAT_SCRUBBING m) = true) :
    (l.foldl State.scrubGo s).isSet (F.MEMM_STAT_SCRUBBING m) = true := by
  induction l generalizing s with
  | nil => exact h.resolve_left List.not_mem_nil
  | cons n l ih =>
    rw [List.foldl_cons]
    refine ih ?_
    by_cases hmn : m = n
    · rw [hmn]
      exact Or.inr (s.scrubbing_scrubGo_same n)
    · rw [s.scrubbing_scrubGo_other hmn]
      exact h.imp_left (fun hmem => (List.mem_cons.mp hmem).resolve_left hmn)

/-- The baseline passed: every scrubber runs. -/
theorem State.baselinePassed (s : State) : let t := (((List.range 19).foldl State.scrubGo s).put F.PWR_BOOT_STEP 3).bootTo 9
    t.boot.stage = 9 ∧ t.get F.PWR_BOOT_STEP = 3 ∧ ∀ m, m < 19 → t.isSet (F.MEMM_STAT_SCRUBBING m) = true := by
  refine ⟨?_, ?_, fun m hm => ?_⟩
  · rw [State.bootTo, State.boot_setBoot]
  · rw [State.bootTo, State.get_setBoot, State.get_put_same _ _ _ (by decide)]
    rfl
  · have hstep : (F.MEMM_STAT_SCRUBBING m).addr ≠ F.PWR_BOOT_STEP.addr := R.memStat_ne_pwrBoot hm
    rw [State.bootTo, State.isSet_setBoot, State.isSet, State.get_put_other _ _ _ _ hstep]
    exact State.scrubbing_foldl_scrubGo _ (Or.inl (List.mem_range.mpr hm))

/-! ### What the baseline finds (R283, R285, R380) -/

theorem R.memCnt_ne_pwrBoot {m : Nat} (hm : m < 19) : R.MEMM_CNT m ≠ R.PWR_BOOT := by unfold R.MEMM_CNT R.PWR_BOOT; omega
theorem R.memUe_ne_pwrBoot {m : Nat} (hm : m < 19) : R.MEMM_UE m ≠ R.PWR_BOOT := by unfold R.MEMM_UE R.PWR_BOOT; omega
theorem R.memUeAddr_ne_pwrBoot {m : Nat} (hm : m < 19) : R.MEMM_UE_ADDR m ≠ R.PWR_BOOT := by unfold R.MEMM_UE_ADDR R.PWR_BOOT; omega
theorem R.memUeLtLo_ne_pwrBoot {m : Nat} (hm : m < 19) : R.MEMM_UE_LT_LO m ≠ R.PWR_BOOT := by unfold R.MEMM_UE_LT_LO R.PWR_BOOT; omega
theorem R.memUeLtHi_ne_pwrBoot {m : Nat} (hm : m < 19) : R.MEMM_UE_LT_LO m + 4 ≠ R.PWR_BOOT := by unfold R.MEMM_UE_LT_LO R.PWR_BOOT; omega

@[simp] theorem State.bringUp_raiseMem (s : State) (n : Nat) : (s.raiseMem n).bringUp = s.bringUp := by simp [State.raiseMem]

@[simp] theorem State.bringUp_setScrub (s : State) (m : Nat) (x : Scrub) : (s.setScrub m x).bringUp = s.bringUp := State.bringUp_congr rfl rfl rfl rfl rfl

@[simp] theorem State.bringUp_raiseCorrected (s : State) (n : Nat) : (s.raiseCorrected n).bringUp = s.bringUp := by
  induction n generalizing s with
  | zero => rfl
  | succ n ih => rw [State.raiseCorrected, ih, State.bringUp_raiseMem]

theorem State.bringUp_memCorrect (s : State) {m : Nat} (n : Nat) (hm : m < 19) : (s.memCorrect m n).bringUp = s.bringUp := by
  unfold State.memCorrect
  split
  · rfl
  · simp [R.memCnt_ne_pwrBoot hm]

theorem State.bringUp_memRebuild (s : State) {m : Nat} (hm : m < 19) : (s.memRebuild m).bringUp = s.bringUp := by
  simp [State.memRebuild, R.memCnt_ne_pwrBoot hm]

/-- What the baseline notes of an uncorrectable line. -/
def State.baselineUe (s : State) (m i : Nat) : State :=
  ((((s.wr (R.MEMM_UE_ADDR m) (w32 (lineAddr m i))).putPair (R.MEMM_UE_LT_LO m) s.logLt).incSat (F.MEMM_UE_UNCORRECTABLE m)).logWrite kMemUe (ueEvent m) (w32 m)
    (w32 (lineAddr m i)) 0#32).raiseMem (ueEvent m)

theorem State.bringUp_baselineUe (s : State) {m : Nat} (i : Nat) (hm : m < 19) : (s.baselineUe m i).bringUp = s.bringUp := by
  simp [State.baselineUe, R.memUe_ne_pwrBoot hm, R.memUeAddr_ne_pwrBoot hm, R.memUeLtLo_ne_pwrBoot hm, R.memUeLtHi_ne_pwrBoot hm]

/-- A tile is taken out of bring-up for its memory (R380). -/
def State.tileBad (s : State) (t : Nat) : State :=
  (s.put F.PWR_BOOT_FAILED 3).setBoot { s.boot with badTiles := if s.boot.badTiles.contains t then s.boot.badTiles else t :: s.boot.badTiles }

/-- What a line the baseline has read leads to, by the words of it that hold two errors or more. -/
theorem State.baselineLine_eq (s : State) (m i : Nat) (u : LineUpset) :
    let x := s.memCorrect m (popCount 9 (u.single.val &&& (511 - u.double.val)))
    s.baselineLine m i u =
      if popCount 9 u.double.val = 0 then x
      else if popCount 9 u.double.val = 1 then x.memRebuild m
      else if m < 16 then (x.baselineUe m i).tileBad (m % 8)
      else if m = 17 then ((x.baselineUe m i).logLose (2 * i)).logLose (2 * i + 1)
      else x.baselineUe m i := rfl

theorem State.baselineLine_tile (s : State) {m i : Nat} {u : LineUpset} (hm : m < 16) (h : 2 ≤ popCount 9 u.double.val) :
    ∃ t : State, s.baselineLine m i u = t.tileBad (m % 8) := by
  rw [s.baselineLine_eq, if_neg (by omega), if_neg (by omega), if_pos hm]
  exact ⟨_, rfl⟩

theorem State.failed_tileBad (s : State) (t : Nat) : (s.tileBad t).get F.PWR_BOOT_FAILED = 3 := by
  rw [State.tileBad, State.get_setBoot, State.get_put_same _ _ _ (by decide)]
  rfl

theorem State.mem_badTiles_tileBad (s : State) (t : Nat) : t ∈ (s.tileBad t).boot.badTiles := by
  rw [State.tileBad, State.boot_setBoot]
  show t ∈ if s.boot.badTiles.contains t = true then s.boot.badTiles else t :: s.boot.badTiles
  split
  next h => exact List.contains_iff_mem.mp h
  next => exact List.mem_cons_self

theorem State.tries_tileBad (s : State) (t : Nat) : (s.tileBad t).get F.PWR_BOOT_TRIES = s.get F.PWR_BOOT_TRIES := by
  rw [State.tileBad, State.get_setBoot, State.get_put_apart _ _ _ _ (by decide) (by decide)]

/-- What the baseline finds leaves the tries as they were. -/
theorem State.tries_baselineLine (s : State) {m : Nat} (i : Nat) (u : LineUpset) (hm : m < 19) :
    (s.baselineLine m i u).get F.PWR_BOOT_TRIES = s.get F.PWR_BOOT_TRIES := by
  have hcorrect (n : Nat) : (s.memCorrect m n).get F.PWR_BOOT_TRIES = s.get F.PWR_BOOT_TRIES := State.get_pwrBoot_of_bringUp (s.bringUp_memCorrect n hm) rfl
  have hue (x : State) : (x.baselineUe m i).get F.PWR_BOOT_TRIES = x.get F.PWR_BOOT_TRIES := State.get_pwrBoot_of_bringUp (x.bringUp_baselineUe i hm) rfl
  have hlose (x : State) (k : Nat) : (x.logLose k).get F.PWR_BOOT_TRIES = x.get F.PWR_BOOT_TRIES := State.get_pwrBoot_of_bringUp (x.bringUp_logLose k) rfl
  rw [s.baselineLine_eq]
  split
  · exact hcorrect _
  · split
    · exact (State.get_pwrBoot_of_bringUp (State.bringUp_memRebuild _ hm) rfl).trans (hcorrect _)
    · split
      · rw [State.tries_tileBad, hue, hcorrect]
      · split
        · rw [hlose, hlose, hue, hcorrect]
        · rw [hue, hcorrect]

theorem State.tries_baselineTaken (s : State) (found : List BaselineFind) : (s.baselineTaken found).get F.PWR_BOOT_TRIES = s.get F.PWR_BOOT_TRIES :=
  foldl_keeps (fun u => u.get F.PWR_BOOT_TRIES) _ (fun u x => u.tries_baselineLine x.line x.upset x.m.isLt) found s

/-! ### A failed step (R380) -/


@[simp] theorem State.bringUp_setSpeed (s : State) (n : Nat) : (s.setSpeed n).bringUp = s.bringUp := by
  unfold State.setSpeed
  split
  · rfl
  · simp

theorem State.stage_bootFail (s : State) (n : Nat) : (s.bootFail n).boot.stage = if s.get F.PWR_BOOT_TRIES < 3 then 12 else 13 := by
  unfold State.bootFail
  dsimp only
  split <;> rw [State.bootTo, State.boot_setBoot]

theorem State.failed_bootFail (s : State) {n : Nat} (hn : n < 8) : (s.bootFail n).get F.PWR_BOOT_FAILED = n := by
  have hlock : F.PWR_BOOT_FAILED.addr ≠ F.LT_CLK_STAT_PLL_LOCK.addr := by decide
  have hlink (u : State) (l : LinkSt) : ({ u with link := l } : State).get F.PWR_BOOT_FAILED = u.get F.PWR_BOOT_FAILED := State.get_congr rfl _
  have hlog (u : State) (w : Word) : ((u.logWrite kBootFail noEvent (w32 n) w 0#32).setSpeed 0).get F.PWR_BOOT_FAILED = u.get F.PWR_BOOT_FAILED :=
    State.get_pwrBoot_of_bringUp ((State.bringUp_setSpeed _ 0).trans (u.bringUp_logWrite kBootFail noEvent (w32 n) w 0#32)) rfl
  have hput : (s.put F.PWR_BOOT_FAILED n).get F.PWR_BOOT_FAILED = n := (s.get_put_same _ n (by decide)).trans (Nat.mod_eq_of_lt hn)
  unfold State.bootFail
  dsimp only
  split <;> rw [State.bootTo, State.get_setBoot, State.get_put_other _ _ _ _ hlock, State.get_allDoms_other _ _ (by decide) (by decide) (by decide), hlink, hlog, hput]

end Sys2Proof.Machine
end

section
/-! SUPPORT. The logic's release (R128, R379, R429), and the statement O22. -/

namespace Sys2Proof.Machine

variable (s : State)

/-! ### What leaves the clock as it is -/

@[simp] theorem State.clock_wr (a : Nat) (v : Word) : (s.wr a v).clock = s.clock := State.clock_congr rfl rfl rfl rfl
@[simp] theorem State.clock_put (f : Fld) (n : Nat) : (s.put f n).clock = s.clock := s.clock_wr _ _
@[simp] theorem State.clock_putB (f : Fld) (b : Bool) : (s.putB f b).clock = s.clock := s.clock_put _ _
@[simp] theorem State.clock_putPair (a n : Nat) : (s.putPair a n).clock = s.clock := by rw [State.putPair, State.clock_wr, State.clock_wr]
@[simp] theorem State.clock_setBoot (b : BootSt) : (s.setBoot b).clock = s.clock := State.clock_congr rfl rfl rfl rfl
@[simp] theorem State.clock_setDom (n st : Nat) : (s.setDom n st).clock = s.clock := State.clock_of_bringUp (s.bringUp_setDom n st)
@[simp] theorem State.clock_portTo (b : Bool) (st : Nat) : (s.portTo b st).clock = s.clock := State.clock_of_bringUp (s.bringUp_portTo b st)
@[simp] theorem State.clock_logWrite (kind event : Nat) (d0 d1 d2 : Word) : (s.logWrite kind event d0 d1 d2).clock = s.clock :=
  State.clock_of_bringUp (s.bringUp_logWrite kind event d0 d1 d2)

@[simp] theorem State.clock_scrubStop (m : Nat) : (s.scrubStop m).clock = s.clock := State.clock_congr rfl rfl rfl rfl

@[simp] theorem State.clock_tileDown (t st : Nat) : (s.tileDown t st).clock = s.clock := by simp [State.tileDown]

@[simp] theorem State.clock_bootId : s.bootId.clock = s.clock := by
  have hfree (u : State) : u.freeNext.clock = u.clock := State.clock_congr rfl rfl rfl rfl
  unfold State.bootId
  split
  · exact s.clock_wr _ _
  · rw [hfree, State.clock_wr]

/-- The noting of an uncertain span moves no clock. -/
@[simp] theorem State.clock_noteSpan : s.noteSpan.clock = s.clock := by
  unfold State.noteSpan
  split <;> exact State.clock_congr rfl rfl rfl rfl

/-! ### The fields taken (R406, R457, R465) -/

theorem State.rd_foldl_wr_other {a : Nat} (g : Nat → Nat) (v : Nat → Word) (l : List Nat) (h : ∀ w ∈ l, a ≠ g w) :
    (l.foldl (fun u w => u.wr (g w) (v w)) s).rd a = s.rd a :=
  foldl_keeps_mem (fun u => u.rd a) _ l (fun u w hw => u.rd_wr_other (v w) (h w hw)) s

theorem State.rd_foldl_put_other {a : Nat} (f : Nat → Fld) (n : State → Nat → Nat) (l : List Nat) (h : ∀ w, a ≠ (f w).addr) :
    (l.foldl (fun u w => u.put (f w) (n u w)) s).rd a = s.rd a :=
  foldl_keeps (fun u => u.rd a) _ (fun u w => u.rd_put_other (f w) (n u w) (h w)) l s

/-- The registers that take the fields lie below those of line time. -/
theorem State.rd_comTake_other {a : Nat} (h : 0x70000000 ≤ a) : s.comTake.rd a = s.rd a := by
  have hkeys : ∀ w ∈ List.range 8, a ≠ R.COM_TRUST_KEY w := fun w hw => by
    have hlt : w < 8 := List.mem_range.mp hw
    unfold R.COM_TRUST_KEY
    omega
  have hlow {b : Nat} (hb : b < 0x70000000) : a ≠ b := by omega
  have hcom (u : State) (c : Com) : ({ u with com := c } : State).rd a = u.rd a := rfl
  unfold State.comTake
  dsimp only
  rw [State.putB, State.rd_put_other _ _ _ (hlow (by decide)), State.putB, State.rd_put_other _ _ _ (hlow (by decide)), State.putB,
    State.rd_put_other _ _ _ (hlow (by decide)), State.rd_foldl_put_other _ _ _ _ (fun w => hlow (b := R.COM_USED) (by decide)),
    State.rd_foldl_wr_other _ _ _ _ hkeys]
  repeat rw [State.rd_wr_other _ _ (hlow (by decide))]
  rw [hcom]

/-- The fields taken show in the commissioned values and in registers alone. -/
theorem State.comTake_keeps {β : Type} (v : State → β) (hcom : ∀ (u : State) (c : Com), v { u with com := c } = v u)
    (hwr : ∀ (u : State) (a : Nat) (w : Word), v (u.wr a w) = v u) : v s.comTake = v s := by
  have hput (u : State) (f : Fld) (n : Nat) : v (u.put f n) = v u := hwr u _ _
  have hputB (u : State) (f : Fld) (b : Bool) : v (u.putB f b) = v u := hput u f _
  unfold State.comTake
  dsimp only
  rw [hputB, hputB, hputB, foldl_keeps v _ (fun u w => hput u _ _), foldl_keeps v _ (fun u w => hwr u _ _), hwr, hwr, hwr, hwr, hwr, hwr, hcom]

theorem State.slept_comTake : s.comTake.slept = s.slept :=
  congrArg (· / 2 ^ 40) (s.comTake_keeps State.sleepNs (fun _ _ => rfl) State.wr_sleepNs)

theorem State.sleepIn_comTake : s.comTake.getPair R.LT_SLEEP_IN_LO = s.getPair R.LT_SLEEP_IN_LO := by
  rw [State.getPair, s.rd_comTake_other (by decide), s.rd_comTake_other (by decide), State.getPair]

/-! ### Line time starts (R128, R429) -/

theorem State.clock_ltStart_powerOn (h : s.ticks = none) : s.ltStart.clock = (s.booting, true, 0, none) := by
  unfold State.ltStart
  simp only [h]
  rfl

theorem State.clock_ltStart_warm {n : Nat} (h : s.ticks = some n) :
    s.ltStart.clock = (s.booting, true, s.getPair R.LT_SLEEP_IN_LO + s.slept, none) := by
  unfold State.ltStart
  simp only [h]
  rw [State.clock_put, State.clock_putPair, State.clock_putPair]
  rfl

/-- Line time as the logic step finds it: from 0 after power-on, in a warm reset behind LT_E by the time slept. -/
def State.ltFrom : Nat :=
  match s.ticks with
  | none => 0
  | some _ => s.getPair R.LT_SLEEP_IN_LO + s.slept

theorem State.clock_ltStart : s.ltStart.clock = (s.booting, true, s.ltFrom, none) := by
  cases h : s.ticks with
  | none => rw [s.clock_ltStart_powerOn h, State.ltFrom, h]
  | some n => rw [s.clock_ltStart_warm h, State.ltFrom, h]

theorem State.ltFrom_comTake : s.comTake.ltFrom = s.ltFrom := by
  have hticks : s.comTake.ticks = s.ticks := s.comTake_keeps State.ticks (fun _ _ => rfl) State.wr_ticks
  rw [State.ltFrom, hticks, State.sleepIn_comTake, State.slept_comTake, State.ltFrom]

/-! ### The logic step's work behind the start of line time (R379, R424) -/

/-- The tiles whose baseline failed go off (R380). -/
def State.badTilesOff : State := s.boot.badTiles.foldl (fun u t => (u.setDom (domAfe t) domOff).tileDown t domOff) s

/-- The Herd ports train, and a module whose role a beacon may give listens. -/
def State.herdStarts : State :=
  let u := ((s.portTo false pTraining).portTo true pTraining).putB F.LT_STAT_LEADING (s.com.role == 3)
  if u.com.role == 1 || u.com.role == 2 then { u with herd := { u.herd with listenFrom := some u.lt } } else u

/-- POWER_UP over: the BOOT entry, KEY off, the bad tiles off, the ports training. -/
def State.released : State :=
  ((((s.logWrite kBoot noEvent (w32 (s.get F.FLT_STAT_RESTART_CAUSE)) (s.rd R.PWR_BOOT) (s.rd R.HOST_BOOT_ID)).setDom domKey domOff).badTilesOff.herdStarts).bootTo
    10).noteSpan

@[simp] theorem State.clock_badTilesOff : s.badTilesOff.clock = s.clock :=
  foldl_keeps State.clock _ (fun u t => by rw [State.clock_tileDown, State.clock_setDom]) s.boot.badTiles s

@[simp] theorem State.clock_herdStarts : s.herdStarts.clock = s.clock := by
  have hherd (u : State) (x : HerdSt) : ({ u with herd := x } : State).clock = u.clock := State.clock_congr rfl rfl rfl rfl
  unfold State.herdStarts
  dsimp only
  split
  · rw [hherd, State.clock_putB, State.clock_portTo, State.clock_portTo]
  · rw [State.clock_putB, State.clock_portTo, State.clock_portTo]

theorem State.clock_released : s.released.clock = s.clock := by
  rw [State.released, State.bootTo, State.clock_noteSpan, State.clock_setBoot, State.clock_herdStarts, State.clock_badTilesOff, State.clock_setDom,
    State.clock_logWrite]

theorem State.boot_noteSpan : s.noteSpan.boot = s.boot := by
  unfold State.noteSpan
  split <;> rfl

theorem State.stage_released : s.released.boot.stage = 10 := by rw [State.released, State.boot_noteSpan, State.bootTo, State.boot_setBoot]

theorem State.logicRelease_eq : s.logicRelease = ({ s.comTake.ltStart.bootId.put F.PWR_BOOT_STEP 4 with booting := false } : State).released := rfl

/-- The logic step ends POWER_UP and starts line time. -/
theorem State.clock_logicRelease : s.logicRelease.clock = (false, true, s.ltFrom, none) := by
  have hclock : (s.comTake.ltStart.bootId.put F.PWR_BOOT_STEP 4).clock = (s.comTake.booting, true, s.ltFrom, none) := by
    rw [State.clock_put, State.clock_bootId, State.clock_ltStart, State.ltFrom_comTake]
  have hends (u : State) : ({ u with booting := false } : State).clock = (false, u.clock.2) := rfl
  rw [State.logicRelease_eq, State.clock_released, hends, hclock]

theorem State.stage_logicRelease : s.logicRelease.boot.stage = 10 := by rw [State.logicRelease_eq, State.stage_released]

theorem State.booting_logicRelease : s.logicRelease.booting = false := congrArg Prod.fst s.clock_logicRelease
theorem State.time_logicRelease : s.logicRelease.time = true := congrArg (fun c => c.2.1) s.clock_logicRelease
theorem State.lt_logicRelease : s.logicRelease.lt = s.ltFrom := congrArg (fun c => c.2.2.1) s.clock_logicRelease
theorem State.ticks_logicRelease : s.logicRelease.ticks = none := congrArg (fun c => c.2.2.2) s.clock_logicRelease

/-- POWER_UP over, a lock lost since and then a rail fault that is shown put the module in FAULT_HOLD (R126, R378). -/
theorem exec_logicRelease {s : State} (h : s.boot.stage = 9) : exec .logicRelease s =
    let u := if s.logicRelease.boot.lostAt.isSome then s.logicRelease.faultHold hcPllLock 0#32 40 else s.logicRelease
    .next (if (u.get F.PWR_STAGE_FLAGS).testBit 2 then u.faultHold hcRailFault (w32 (u.get F.PWR_STAGE_FLAGS)) 35 else u) := by
  change execLogicRelease s = _
  rw [execLogicRelease, if_pos h]

/-! ### O22 -/

/-- Settles O22: every step is one equation of the model; behind it, a fold's effect on one register or field is read off its elements, and line time is
followed through the logic step by what each part of it leaves of the clock. -/
theorem bringUpSteps : Obligations.BringUpSteps := by
  intro s found n m
  refine ⟨fun h => ⟨_, exec_supplyValid h, rfl, ?_⟩, fun h => ⟨_, exec_aonRailGood h, rfl⟩, fun h => ⟨_, exec_resonatorOscillating h, ?_⟩,
    fun h hgood => ⟨_, exec_railsGood h hgood, rfl, ?_⟩, fun _ hfault => exec_railsGood_fault hfault, fun h => ⟨_, exec_resonatorStable h, rfl⟩,
    fun h => ⟨_, exec_pllLock_boot h, s.pllLocked⟩, fun h => ⟨_, exec_memoryRepairLoaded h, rfl⟩,
    fun h => ⟨_, exec_memoryInitDone h, rfl, fun a => tabGet_nil memDefault a, rfl, rfl⟩,
    fun h hgood => ⟨_, exec_scrubBaselineDone h hgood, State.baselinePassed _⟩, fun h hfails => ⟨_, exec_scrubBaselineDone_fails h hfails, ?_, ?_⟩,
    fun i u hm hue => ?_, fun h => ⟨⟨s.stage_logicRelease, s.booting_logicRelease, s.time_logicRelease⟩, fun hticks => ?_, fun hticks => ⟨s.ticks_logicRelease, ?_⟩,
      fun hlost hgood => ?_, fun hlost hfault => ?_, fun a hlost hgood => ?_⟩⟩
  · rw [State.bootTo, State.get_setBoot, State.get_put_same _ _ _ (by decide)]
    rfl
  · obtain ⟨hregs, hmem, hboot⟩ := (s.bootTo 3).railsOn_keeps
    exact ⟨hboot, hregs, hmem, fun hfree => State.railsOn_free hfree⟩
  · rw [State.bootTo, State.get_setBoot, State.get_put_same _ _ _ (by decide)]
    rfl
  · rw [State.stage_bootFail, State.tries_baselineTaken]
  · exact State.failed_bootFail _ (by decide)
  · obtain ⟨t, ht⟩ := s.baselineLine_tile (i := i) hm hue
    rw [ht]
    exact ⟨t.failed_tileBad _, t.mem_badTiles_tileBad _⟩
  · rw [State.lt_logicRelease, State.ltFrom, hticks]
  · rw [State.lt_logicRelease, State.ltFrom, hticks]
  · simp [exec_logicRelease h, hlost, hgood]
  · simp [exec_logicRelease h, hlost, hfault]
  · simp [exec_logicRelease h, hlost, hgood]

end Sys2Proof.Machine
end

section
/-! SUPPORT. The commands that cannot store keep what updates of registers and cores keep: memory is such a thing (R249). -/

namespace Sys2Proof.Machine

/-- Memory holds what it held: no update of registers, cores or the units' own state moves it. -/
def Keep.memoryIs (m : List Host.Cell) : Keep where
  P s := s.mem = m
  wr _ _ _ h := h
  clear _ _ h := h
  lk _ _ h := h
  pend _ _ _ h := h
  lit := by intros; assumption

theorem Keep.memoryIs_cores (m : List Host.Cell) : (Keep.memoryIs m).Cores := ⟨fun _ _ _ h => h⟩

/-- A command that cannot store keeps every property that updates of registers, cores and the units' own state keep. -/
theorem exec_leads_of_not_mayStore {K : Keep} [K.Cores] {i : Instr} {s : State} (hi : i.mayStore = false) (hs : K.P s) : Leads K (exec i s) := by
  cases i with
  | eventEntry c => exact execEventEntry_leads c s hs
  | waitEnd c => exact execWaitEnd_leads c s hs
  | supplyValid => exact execSupplyValid_leads s hs
  | aonRailGood => exact execAonRailGood_leads s hs
  | resonatorOscillating => exact execResonatorOscillating_leads s hs
  | railsGood => exact execRailsGood_leads s hs
  | resonatorStable => exact execResonatorStable_leads s hs
  | pllLock => exact execPllLock_leads s hs
  | memoryRepairLoaded => exact execMemoryRepairLoaded_leads s hs
  | scrubBaselineDone found => exact execScrubBaselineDone_leads found s hs
  | bringupFail => exact execBringupFail_leads s hs
  | bringupRetry => exact execBringupRetry_leads s hs
  | aonRailCycle => exact execAonRailCycle_leads s hs
  | pllRelockTimeout => exact execPllRelockTimeout_leads s hs
  | holdTimeout => exact execHoldTimeout_leads s hs
  | refMeasure ppb => exact execRefMeasure_leads ppb s hs
  | walkEnd => exact execWalkEnd_leads s hs
  | beaconListenEnd => exact execBeaconListenEnd_leads s hs
  | formSend => exact execFormSend_leads s hs
  | beaconSend frac => exact execBeaconSend_leads frac s hs
  | beaconLoss => exact execBeaconLoss_leads s hs
  | claimRx portB f how => exact execClaimRx_leads portB f how s hs
  | formRx portB f how => exact execFormRx_leads portB f how s hs
  | deputyTakeover => exact execDeputyTakeover_leads s hs
  | portAligned portB => exact execPortAligned_leads portB s hs
  | portNoSignal portB => exact execPortNoSignal_leads portB s hs
  | portCrossed portB => exact execPortCrossed_leads portB s hs
  | calRx portB f how stamp => exact execCalRx_leads portB f how stamp s hs
  | calTurnaround portB => exact execCalTurnaround_leads portB s hs
  | pulseSend portB frac => exact execPulseSend_leads portB frac s hs
  | pulseRx portB f how frac => exact execPulseRx_leads portB f how frac s hs
  | portDown portB => exact execPortDown_leads portB s hs
  | actionRx portB f how => exact execActionRx_leads portB f how s hs
  | herdAckRx portB f how => exact execHerdAckRx_leads portB f how s hs
  | actionRetry req => exact execActionRetry_leads req s hs
  | recordRx portB f how => exact execRecordRx_leads portB f how s hs
  | laneDecision n => exact execLaneDecision_leads n s hs
  | modClockUprange k => exact execModClockUprange_leads k s hs
  | scheduledReset k cycle r => exact execScheduledReset_leads k cycle r s hs
  | chCmdReset w k r => exact execChCmdReset_leads w k r s hs
  | quietWindowEnd k since r => exact execQuietWindowEnd_leads k since r s hs
  | blankEnd k => exact execBlankEnd_leads k s hs
  | mainsSenseEdge => exact execMainsSenseEdge_leads s hs
  | mainsSourceFallback t => exact execMainsSourceFallback_leads t s hs
  | mainsLock t mHz => exact execMainsLock_leads t mHz s hs
  | mainsUnlock t peak => exact execMainsUnlock_leads t peak s hs
  | scanStart c => exact execScanStart_leads c s hs
  | dischargeStart c rs => exact execDischargeStart_leads c rs s hs
  | dischargeEnd c => exact execDischargeEnd_leads c s hs
  | newSwitchesClose c => exact execNewSwitchesClose_leads c s hs
  | switchingSequenceEnd c => exact execSwitchingSequenceEnd_leads c s hs
  | excCheck rs => exact execExcCheck_leads rs s hs
  | sourceRetry c n => exact execSourceRetry_leads c n s hs
  | leadMeasurementStart c n cycle => exact execLeadMeasurementStart_leads c n cycle s hs
  | leadBaselineEnd c nv => exact execLeadBaselineEnd_leads c nv s hs
  | leadSourceJoin c => exact execLeadSourceJoin_leads c s hs
  | leadIntegrationStart c => exact execLeadIntegrationStart_leads c s hs
  | leadIntegrationEnd c nv cm => exact execLeadIntegrationEnd_leads c nv cm s hs
  | leadMeasurementEnd c => exact execLeadMeasurementEnd_leads c s hs
  | cjUpdate c r => exact execCjUpdate_leads c r s hs
  | captureRecordClose u => exact execCaptureRecordClose_leads u s hs
  | encoderStopped e => exact execEncoderStopped_leads e s hs
  | teachEnd w t g => exact execTeachEnd_leads w t g s hs
  | envEntryWrite w t e high value => exact execEnvEntryWrite_leads w t e high value s hs
  | timerStart w t n => exact execTimerStart_leads w t n s hs
  | timerStop w t n => exact execTimerStop_leads w t n s hs
  | timerClear w t n => exact execTimerClear_leads w t n s hs
  | timerPerWrite w t n value => exact execTimerPerWrite_leads w t n value s hs
  | timerCmpWrite w t n value => exact execTimerCmpWrite_leads w t n value s hs
  | timerPeriodEnd t n => exact execTimerPeriodEnd_leads t n s hs
  | timerMatch t n => exact execTimerMatch_leads t n s hs
  | actEnterGo w slot ctl => exact execActEnterGo_leads w slot ctl s hs
  | entryFix a => exact execEntryFix_leads a s hs
  | launch a => exact execLaunch_leads a s hs
  | retryOutcomeSettle n => exact execRetryOutcomeSettle_leads n s hs
  | outputOvercurrent n => exact execOutputOvercurrent_leads n s hs
  | outputReadbackCheck n level => exact execOutputReadbackCheck_leads n level s hs
  | outSupplyLow => exact execOutSupplyLow_leads s hs
  | outSupplyReturn => exact execOutSupplyReturn_leads s hs
  | queueResetEnd q => exact execQueueResetEnd_leads q s hs
  | pendingGapWrite q => exact execPendingGapWrite_leads q s hs
  | queuePush w q addr => exact execQueuePush_leads w q addr s hs
  | queuePop w q addr => exact execQueuePop_leads w q addr s hs
  | ladleRun w l d => exact execLadleRun_leads w l d s hs
  | ladleRunEnd l d => exact execLadleRunEnd_leads l d s hs
  | ringPointerWrite w l d read value => exact execRingPointerWrite_leads w l d read value s hs
  | keyPowerCycle w => exact execKeyPowerCycle_leads w s hs
  | keyCmdChangeover w => exact execKeyCmdChangeover_leads w s hs
  | twGo w p ctl => exact execTwGo_leads w p ctl s hs
  | twPowerCycle w p ctl => exact execTwPowerCycle_leads w p ctl s hs
  | twTransferEnd p result n data => exact execTwTransferEnd_leads p result n data s hs
  | twStretchTimeout p n => exact execTwStretchTimeout_leads p n s hs
  | twIdleCheck p scl sda => exact execTwIdleCheck_leads p scl sda s hs
  | twCycleSupplyOn p => exact execTwCycleSupplyOn_leads p s hs
  | twPortStart p scl sda => exact execTwPortStart_leads p scl sda s hs
  | linkUp gig => exact execLinkUp_leads gig s hs
  | linkDown => exact execLinkDown_leads s hs
  | arpRx p => exact execArpRx_leads p s hs
  | arpDefend => exact execArpDefend_leads s hs
  | addrConflictClear => exact execAddrConflictClear_leads s hs
  | arpCacheTimeout n => exact execArpCacheTimeout_leads n s hs
  | echoRequest f x => exact execEchoRequest_leads f x s hs
  | openSession dg window raw prev => exact execOpenSession_leads dg window raw prev s hs
  | hostAck dg cum window entries => exact execHostAck_leads dg cum window entries s hs
  | closeSession dg => exact execCloseSession_leads dg s hs
  | logRead dg req arg0 arg1 resv => exact execLogRead_leads dg req arg0 arg1 resv s hs
  | health dg req form => exact execHealth_leads dg req form s hs
  | heartbeat => exact execHeartbeat_leads s hs
  | sessionIdle => exact execSessionIdle_leads s hs
  | batchClose raw => exact execBatchClose_leads raw s hs
  | dataSend => exact execDataSend_leads s hs
  | retransmit => exact execRetransmit_leads s hs
  | hostCmdWake w => exact execHostCmdWake_leads w s hs
  | hostCmdClose w => exact execHostCmdClose_leads w s hs
  | magicPacketRepeat => exact execMagicPacketRepeat_leads s hs
  | hostWakeRelease => exact execHostWakeRelease_leads s hs
  | wakeRepeat => exact execWakeRepeat_leads s hs
  | pwrGo w => exact execPwrGo_leads w s hs
  | domainRaised n => exact execDomainRaised_leads n s hs
  | domainAgree => exact execDomainAgree_leads s hs
  | agreeTimeout => exact execAgreeTimeout_leads s hs
  | wakeSourceFire src unit => exact execWakeSourceFire_leads src unit s hs
  | wakeTaken => exact execWakeTaken_leads s hs
  | timeRestart => exact execTimeRestart_leads s hs
  | supplyLinkPoll => exact execSupplyLinkPoll_leads s hs
  | statusPoll => exact execStatusPoll_leads s hs
  | railRead => exact execRailRead_leads s hs
  | stageWatchdog => exact execStageWatchdog_leads s hs
  | sagThreshold deep => exact execSagThreshold_leads deep s hs
  | throttleRelease toOne => exact execThrottleRelease_leads toOne s hs
  | throttleBacklog => exact execThrottleBacklog_leads s hs
  | watchEntryRetry => exact execWatchEntryRetry_leads s hs
  | logSelWrite w index => exact execLogSelWrite_leads w index s hs
  | logUserWrite w => exact execLogUserWrite_leads w s hs
  | snapDone => exact execSnapDone_leads s hs
  | svcReadTransfer enable n => exact execSvcReadTransfer_leads enable n s hs
  | svcSclStuck => exact execSvcSclStuck_leads s hs
  | svcTake => exact execSvcTake_leads s hs
  | svcAlive => exact execSvcAlive_leads s hs
  | svcWarmReset => exact execSvcWarmReset_leads s hs
  | takeExpiry => exact execTakeExpiry_leads s hs
  | commissionGo enable => exact execCommissionGo_leads enable s hs
  | trimGo enable => exact execTrimGo_leads enable s hs
  | svcKick w => exact execSvcKick_leads w s hs
  | kickTimeout => exact execKickTimeout_leads s hs
  | healthyHoldEnd => exact execHealthyHoldEnd_leads s hs
  | factoryFixtureTake => exact execFactoryFixtureTake_leads s hs
  | signalLost portB => exact execSignalLost_leads portB s hs
  | unansweredFrameExpiry fseq => exact execUnansweredFrameExpiry_leads fseq s hs
  | _ => exact Bool.noConfusion hi

/-- Settles O60: no command but one that can store reaches an update of memory, so that memory after it is memory before. -/
theorem commandsLeaveMemory : Obligations.CommandsLeaveMemory := by
  intro i s t hi hexec
  have hcores : (Keep.memoryIs s.mem).Cores := Keep.memoryIs_cores s.mem
  have hmem : t.mem = s.mem := exec_leads_of_not_mayStore (K := Keep.memoryIs s.mem) hi rfl t hexec
  exact ⟨hmem, fun a => by rw [State.byte, State.byte, hmem]⟩

end Sys2Proof.Machine
end

section
/-! SUPPORT. The ports of the Herd link (chapter 06): their states, pair calibration, PULSE frames, and the statement O29. -/

namespace Sys2Proof.Machine

variable {s : State} {portB : Bool}

/-! ### Link-local frames leave an idle port (R151, R153, R154) -/

@[simp] theorem State.setPort_setPort (s : State) (b : Bool) (p q : PortSt) : (s.setPort b p).setPort b q = s.setPort b q := by cases b <;> rfl

@[simp] theorem State.port_fseqTaken (s : State) (c : Nat) (b : Bool) : (s.fseqTaken c).port b = s.port b := by cases b <;> rfl

@[simp] theorem State.port_emit (s : State) (e : Emission) (b : Bool) : (s.emit e).port b = s.port b := rfl

/-- A frame of class 0 that leaves an idle port at once moves nothing but the port's sending side. -/
theorem State.txPut_idle_eq {f : TxFrame} (hidle : (s.port portB).tx = .idle) (hcls : f.frame.body.cls = 0) (hfrom : f.from_ ≤ s.vco) :
    ∃ x, s.txPut portB f = (s.setPort portB { s.port portB with tx := x }).emit (.frame portB s.portNow f.frame f.how) := by
  unfold State.txPut
  simp [hidle, hcls, PortTx.idle, State.txStep, PortTx.next, hfrom]
  exact ⟨_, rfl⟩

/-- A CAL frame takes the next FSEQ of class 0 and leaves an idle port. -/
theorem State.sendCal_idle (hidle : (s.port portB).tx = .idle) (step delay : Nat) :
    ∃ x, s.sendCal portB step delay = ((s.fseqTaken 0).setPort portB { s.port portB with tx := x }).emit
      (.frame portB s.portNow (Frame.form s.line s.line false (w32 (s.fseqOf 0)) (.cal ⟨s.line, portB, s.role, step, delay⟩)) .good) := by
  have hidle' : ((s.fseqTaken 0).port portB).tx = .idle := by rw [State.port_fseqTaken, hidle]
  obtain ⟨x, hx⟩ := State.txPut_idle_eq hidle' (f :=
    ⟨Frame.form s.line s.line false (w32 (s.fseqOf 0)) (.cal ⟨s.line, portB, s.role, step, delay⟩), .good, s.vco, 0⟩) rfl (Nat.le_refl _)
  rw [State.port_fseqTaken] at hx
  exact ⟨x, hx⟩

/-- A PULSE takes the next FSEQ of class 0, is noted at its port with its stamp and leaves the port if idle. -/
theorem State.sendPulse_idle (hidle : (s.port portB).tx = .idle) (frac : Nat) : ∃ (p : PortSt) (x : Pulse),
    s.sendPulse portB frac = ((s.fseqTaken 0).setPort portB p).emit
      (.frame portB s.portNow (Frame.form s.line s.line false (w32 (s.fseqOf 0)) (.pulse x)) .good) ∧
    p.txStamp = s.portNow * 256 + frac ∧ x.addr = s.line ∧ x.portB = portB ∧ x.role = s.role ∧ x.txStamp = (s.portNow * 256 + frac) % 2 ^ 64 := by
  unfold State.sendPulse
  dsimp only
  generalize hx : Pulse.mk _ _ _ _ _ _ _ _ _ = x
  generalize hp : ({ s.port portB with ownPrev := _, txStamp := _, saidUp := _ } : PortSt) = p
  have hidle' : (((s.fseqTaken 0).setPort portB p).port portB).tx = .idle := by rw [State.setPort_port, ← hp, hidle]
  obtain ⟨tx, htx⟩ := State.txPut_idle_eq hidle' (f := ⟨Frame.form s.line s.line false (w32 (s.fseqOf 0)) (.pulse x), .good, s.vco, 0⟩) rfl
    (Nat.le_refl _)
  rw [State.setPort_setPort, State.setPort_port, State.setPort_portNow] at htx
  refine ⟨{ p with tx := tx }, x, htx, ?_, ?_⟩
  · rw [← hp]
  · rw [← hx]
    exact ⟨rfl, rfl, rfl, rfl⟩

/-! ### A port's state (R153, R181) -/

/-- A port's state field with the event that tells of its change. -/
def State.portShown (s : State) (portB : Bool) (n : Nat) : State :=
  ((s.put (portState portB) n).put (if portB then F.HERD_EVT_PORTB_SEEN else F.HERD_EVT_PORTA_SEEN) 1).raise (8 + portB.toNat)

/-- A port that changes state without leaving UP keeps its peer and its counts in UP and CALIBRATING alone. -/
theorem State.portTo_eq {n : Nat} (hold : s.get (portState portB) ≠ n) (hup : s.get (portState portB) ≠ 6) : s.portTo portB n =
    if n = 6 ∨ n = 5 then s.portShown portB n
    else ((s.portShown portB n).put (F.HERD_PORT_PEER_VALID portB.toNat) 0).setPort portB PortSt.start := by
  unfold State.portTo
  dsimp only
  rw [if_neg hold, if_neg hup]
  by_cases hkeep : n = 6 ∨ n = 5
  · rw [if_pos hkeep, if_pos hkeep, if_pos hkeep.symm]
    rfl
  · rw [if_neg hkeep, if_neg hkeep, if_neg (fun h => hkeep h.symm)]
    rfl

theorem State.get_portShown (s : State) (portB : Bool) {n : Nat} (hn : n < 8) : (s.portShown portB n).get (portState portB) = n := by
  have hput : ((s.put (portState portB) n).get (portState portB)) = n := by
    rw [State.get_put_same _ _ _ (by cases portB <;> decide)]
    exact Nat.mod_eq_of_lt hn
  rw [State.portShown, State.get_raise_other _ _ _ (by cases portB <;> decide) (by cases portB <;> decide) (by cases portB <;> decide),
    State.get_put_other _ _ _ _ (by cases portB <;> decide), hput]

theorem State.core_portShown (s : State) (portB : Bool) (n : Nat) : (s.portShown portB n).core 8 = (s.core 8).pend (8 + portB.toNat) := by
  rw [State.portShown, State.core_raise_vat, State.core_put, State.core_put]

/-- The state is shown and the vat core's source of the port becomes pending. -/
theorem State.portTo_shows {n : Nat} (hn : n < 8) (hold : s.get (portState portB) ≠ n) (hup : s.get (portState portB) ≠ 6) :
    (s.portTo portB n).get (portState portB) = n ∧ (s.portTo portB n).core 8 = (s.core 8).pend (8 + portB.toNat) := by
  rw [State.portTo_eq hold hup]
  split
  · exact ⟨s.get_portShown portB hn, s.core_portShown portB n⟩
  · constructor
    · rw [State.get_setPort, State.get_put_apart _ _ _ _ (of_decide_eq_true rfl) (of_decide_eq_true rfl), s.get_portShown portB hn]
    · rw [State.core_setPort, State.core_put, s.core_portShown]

theorem exec_portAligned (hlives : s.portLives = true)
    (hstate : s.get (portState portB) = 4 ∨ s.get (portState portB) = 1 ∨ s.get (portState portB) = 2) :
    exec (.portAligned portB) s = .next (if portB then s.portTo true 5 else (s.portTo false 5).calProbe 0) := by
  have hdue : (s.portLives && (s.get (portState portB) == pTraining || s.get (portState portB) == pNoSignal || s.get (portState portB) == pCrossed)) = true := by
    simpa [hlives, or_assoc] using hstate
  change execPortAligned portB s = _
  unfold execPortAligned
  dsimp only
  rw [if_pos hdue]
  cases portB <;> rfl

/-- In TRAINING a port finds no signal, or its own transmit pair (R153). -/
theorem exec_port_training (hlives : s.portLives = true) (hstate : s.get (portState portB) = 4) :
    exec (.portNoSignal portB) s = .next (s.portTo portB 1) ∧ exec (.portCrossed portB) s = .next (s.portTo portB 2) := by
  have hdue : (s.portLives && s.get (portState portB) == pTraining) = true := by simp [hlives, hstate]
  exact ⟨if_pos hdue, if_pos hdue⟩

theorem exec_signalLost (hlives : s.portLives = true) (hstate : s.get (portState portB) = 3) :
    exec (.signalLost portB) s = .next (s.portTo portB 4) :=
  if_pos (by simp [hlives, hstate])

/-- Without a ring role, or with HERD off, no port starts (R147). -/
theorem exec_port_dead (hlives : s.portLives = false) :
    exec (.portAligned portB) s = .next s ∧ exec (.portNoSignal portB) s = .next s ∧ exec (.portCrossed portB) s = .next s ∧
      exec (.signalLost portB) s = .next s :=
  ⟨if_neg (by simp [hlives]), if_neg (by simp [hlives]), if_neg (by simp [hlives]), if_neg (by simp [hlives])⟩

/-! ### Pair calibration (R153) -/

theorem State.role_of_portLives (h : s.portLives = true) : s.role ≠ 3 := by
  simp only [State.portLives, Bool.and_eq_true, bne_iff_ne] at h
  exact h.1

theorem exec_calRx {f : Frame} {c : Cal} (stamp : Nat) (hbody : f.body = .cal c) (hseen : f.seen .good = .good) (hlives : s.portLives = true)
    (hstate : s.get (portState portB) = 5) : exec (.calRx portB f .good stamp) s = .next (s.calTake portB c stamp) := by
  change execCalRx portB f .good stamp s = _
  unfold execCalRx
  dsimp only
  rw [hseen, State.arrived_good s (State.role_of_portLives hlives), hbody]
  exact if_pos (by simp [hlives, hstate])

/-- A CAL frame of the same end tells of a wrong port. -/
theorem State.calTake_wrong {c : Cal} (stamp : Nat) (h : c.portB = portB) : s.calTake portB c stamp = (s.showPeer portB c.addr).portTo portB 3 := if_pos h

theorem calTurnaround_completes (hlives : s.portLives = true) (hstate : s.get (portState true) = 5) (hprobe : (s.port true).calAt ≠ 0)
    (hdue : (s.port true).calAt + 2208 * 256 ≤ (s.portNow + 1) * 256) (hidle : (s.port true).tx = .idle) :
    Completes (.calTurnaround true) s (fun t => (t.port true).calAt = 0 ∧ ∃ n, t.out = s.out ++
      [.frame true s.portNow (Frame.form s.line s.line false n (.cal ⟨s.line, true, s.role, (s.port true).calStep, 0⟩)) .good]) := by
  have hexec : exec (.calTurnaround true) s =
      .next ((s.setPort true { s.port true with calAt := 0 }).sendCal true (s.port true).calStep 0) := if_pos (by simp [hlives, hstate, hprobe, hdue])
  obtain ⟨x, hx⟩ := State.sendCal_idle (s := s.setPort true { s.port true with calAt := 0 }) (portB := true) hidle (s.port true).calStep 0
  rw [hx] at hexec
  exact ⟨_, hexec, rfl, _, rfl⟩

theorem exec_calTurnaround_noProbe (h : (s.port true).calAt = 0) : exec (.calTurnaround true) s = .next s := if_neg (by simp [h])

/-- The A end answers no probe. -/
theorem exec_calTurnaround_portA (s : State) : exec (.calTurnaround false) s = .next s := rfl

/-! ### PULSE frames (R154 to R156, R174) -/

theorem State.role_of_linkRuns (h : s.linkRuns portB = true) : s.role ≠ 3 := by
  simp only [State.linkRuns, Bool.and_eq_true, bne_iff_ne] at h
  exact h.1.1

/-- A copy that ended with ABORT counts nothing where it arrives at a module of a line (R147, R152). -/
theorem State.arrived_abort (s : State) (h : s.role ≠ 3) : s.arrived .abort = s := by
  simp only [State.arrived, h, if_false, State.copyErr, ite_self]

theorem pulseSend_completes (frac : Fin 256) (hruns : s.linkRuns portB = true) (hfirst : 5000 ≤ s.portNow) (hhalf : 5000 ≤ s.portNow % 10000)
    (hsent : (s.port portB).txStamp < ((s.portNow + 5000) / 10000 * 10000 - 5000) * 256) (hnear : s.beaconNear portB = false)
    (hidle : (s.port portB).tx = .idle) :
    Completes (.pulseSend portB frac) s (fun t => (t.port portB).txStamp = s.portNow * 256 + frac.val ∧ ∃ g x,
      t.out = s.out ++ [.frame portB s.portNow g .good] ∧ g.body = .pulse x ∧ x.addr = s.line ∧ x.portB = portB ∧ x.role = s.role ∧
        x.txStamp = (s.portNow * 256 + frac.val) % 2 ^ 64) := by
  have hexec : exec (.pulseSend portB frac) s = .next (s.sendPulse portB frac.val) := if_pos (by simp [hruns, hfirst, hhalf, hsent, hnear])
  obtain ⟨p, x, hsend, hstamp, hpulse⟩ := State.sendPulse_idle hidle frac.val
  rw [hsend] at hexec
  refine ⟨_, hexec, ?_, _, x, rfl, rfl, hpulse⟩
  rw [State.port_emit, State.setPort_port, hstamp]

theorem exec_pulseSend_near (frac : Fin 256) (h : s.beaconNear portB = true) : exec (.pulseSend portB frac) s = .next s := if_neg (by simp [h])

/-- A good PULSE is taken; one that ended with ABORT breaks the row of good ones. -/
theorem exec_pulseRx {f : Frame} {x : Pulse} (frac : Fin 256) (hbody : f.body = .pulse x) (hseen : f.seen .good = .good) (hruns : s.linkRuns portB = true) :
    exec (.pulseRx portB f .good frac) s = .next (s.pulseTake portB x (s.portNow * 256 + frac.val)) ∧
      exec (.pulseRx portB f .abort frac) s = .next (s.setPort portB { s.port portB with good := 0 }) := by
  have hrole : s.role ≠ 3 := State.role_of_linkRuns hruns
  have htaken : ¬ (!s.linkRuns portB) = true := by simp [hruns]
  constructor
  · change execPulseRx portB f .good frac s = _
    unfold execPulseRx
    dsimp only
    rw [hseen, s.arrived_good hrole, hbody]
    exact if_neg htaken
  · change execPulseRx portB f .abort frac s = _
    unfold execPulseRx
    rw [show f.seen .abort = .abort from rfl]
    dsimp only
    rw [s.arrived_abort hrole, hbody]
    exact if_neg htaken

theorem exec_portDown (hup : s.get (portState portB) = 6) (hdue : (s.port portB).lastPulse + 30000 ≤ s.portNow) :
    exec (.portDown portB) s = .next (s.portTo portB 4) := if_pos (by simp [hup, hdue])

theorem exec_portDown_early (h : s.portNow < (s.port portB).lastPulse + 30000) : exec (.portDown portB) s = .next s :=
  if_neg (by simp [Nat.not_le_of_lt h])

/-- Settles O29: each clause is what a command of a port does once its condition holds, or that it does nothing else; an own link-local frame leaves an idle
port at once. -/
theorem portsRun : Obligations.PortsRun := by
  intro s portB f frac stamp
  exact ⟨exec_portAligned, exec_port_training, exec_signalLost, exec_port_dead, fun n => State.portTo_shows, fun c => exec_calRx stamp,
    fun c => State.calTake_wrong stamp, calTurnaround_completes, exec_calTurnaround_noProbe, exec_calTurnaround_portA s, pulseSend_completes frac,
    exec_pulseSend_near frac, fun x => exec_pulseRx frac, exec_portDown, exec_portDown_early⟩

end Sys2Proof.Machine
end

section
/-! SUPPORT. What queues and the trouble log leave as it is: every part of the state but those that they and their records are made of. -/

namespace Sys2Proof.Machine

variable (s : State)

/-- The state without registers, cores, queues, ladles, SEQs, the churn engines and the trouble log. -/
def State.rest (s : State) : State :=
  { s with regs := [], cores := [], queues := [], ladles := [], seqs := [], churn := [], log := [], logUnsent := [] }

theorem State.herd_of_rest {s t : State} (h : t.rest = s.rest) : t.herd = s.herd := by
  have hrest : t.rest.herd = s.rest.herd := congrArg State.herd h
  exact hrest

@[simp] theorem State.rest_ite (p : Prop) [Decidable p] (t : State) : (if p then s else t).rest = if p then s.rest else t.rest := apply_ite State.rest p s t

@[simp] theorem State.rest_ite_fst {β : Type} (p : Prop) [Decidable p] (a b : State × β) :
    (if p then a else b).1.rest = if p then a.1.rest else b.1.rest := apply_ite (fun x : State × β => x.1.rest) p a b

@[simp] theorem State.rest_foldl {α : Type} (f : State → α → State) (h : ∀ s x, (f s x).rest = s.rest) (l : List α) :
    (l.foldl f s).rest = s.rest := foldl_keeps State.rest f h l s

/-! ### Registers, events and the parts' own updates -/

@[simp] theorem State.rest_wr (a : Nat) (v : Word) : (s.wr a v).rest = s.rest := rfl
@[simp] theorem State.rest_setCore (k : Nat) (c : Core) : (s.setCore k c).rest = s.rest := rfl
@[simp] theorem State.rest_takeSeq (k : Nat) : (s.takeSeq k).rest = s.rest := rfl
@[simp] theorem State.rest_setQueue (q : Nat) (x : Queue) : (s.setQueue q x).rest = s.rest := rfl
@[simp] theorem State.rest_setLadle (l : Nat) (x : Ladle) : (s.setLadle l x).rest = s.rest := rfl
@[simp] theorem State.rest_setEng (t : Nat) (x : ChurnSt) : (s.setEng t x).rest = s.rest := rfl
@[simp] theorem State.rest_setLog (l : List (Nat × Option LogEntry)) : ({ s with log := l } : State).rest = s.rest := rfl
@[simp] theorem State.rest_setLogUnsent (l : List LogEntry) : ({ s with logUnsent := l } : State).rest = s.rest := rfl

@[simp] theorem State.rest_put (f : Fld) (n : Nat) : (s.put f n).rest = s.rest := s.rest_wr _ _
@[simp] theorem State.rest_setBit (f : Fld) (i : Nat) : (s.setBit f i).rest = s.rest := s.rest_put _ _
@[simp] theorem State.rest_incSat (f : Fld) (n : Nat) : (s.incSat f n).rest = s.rest := s.rest_put _ _
@[simp] theorem State.rest_incWrap (f : Fld) (n : Nat) : (s.incWrap f n).rest = s.rest := s.rest_put _ _
@[simp] theorem State.rest_setGrp (t g : Nat) (x : GroupSt) : (s.setGrp t g x).rest = s.rest := s.rest_setEng _ _
@[simp] theorem State.rest_raiseTile (t n : Nat) : (s.raiseTile t n).rest = s.rest := s.rest_setCore _ _
@[simp] theorem State.rest_raise (n : Nat) : (s.raise n).rest = s.rest := by simp [State.raise]
@[simp] theorem State.rest_raiseQueue (q : Nat) : (s.raiseQueue q).rest = s.rest := s.rest_raise _

/-! ### Queues -/

@[simp] theorem State.rest_qRoom (q before : Nat) : (s.qRoom q before).rest = s.rest := by simp [State.qRoom]

@[simp] theorem State.rest_resetPorts (q : Nat) : (s.resetPorts q).rest = s.rest := by simp [State.resetPorts]

@[simp] theorem State.rest_resetOpens (q : Nat) (l : List (Nat × OpenSamples)) (p : PendGap) : (s.resetOpens q l p).1.rest = s.rest := by
  induction l generalizing s p with
  | nil => rfl
  | cons o l ih => rw [State.resetOpens, ih, State.rest_takeSeq]

@[simp] theorem State.rest_resetGap (q : Nat) : (s.resetGap q).1.rest = s.rest := s.rest_resetOpens _ _ _

@[simp] theorem State.rest_qReset (q cause : Nat) : (s.qReset q cause).rest = s.rest := by
  unfold State.qReset
  split <;> simp

@[simp] theorem State.rest_qCompare (q : Nat) : (s.qCompare q).rest = s.rest := by simp [State.qCompare]

@[simp] theorem State.rest_qDrop (q : Nat) (r : Rec) : (s.qDrop q r).rest = s.rest := by
  unfold State.qDrop
  dsimp only
  split <;> simp

@[simp] theorem State.rest_evictRuns (q : Nat) (old : Queue) : (s.evictRuns q old).rest = s.rest := by
  refine s.rest_foldl _ (fun s l => s.rest_foldl _ (fun s d => ?_) _) _
  rw [State.rest_ite, State.rest_setLadle, ite_self]

@[simp] theorem State.rest_qMakeRoom (q need limit : Nat) : (s.qMakeRoom q need limit).rest = s.rest := by simp [State.qMakeRoom]

@[simp] theorem State.rest_qThreshold (q : Nat) : (s.qThreshold q).rest = s.rest := by simp [State.qThreshold]

@[simp] theorem State.rest_qCommit (q : Nat) (r : Rec) : (s.qCommit q r).rest = s.rest := by
  rw [State.qCommit, State.rest_qThreshold, State.rest_setQueue]

@[simp] theorem State.rest_gapCovers (t : Nat) (es : List GapEntry) : (s.gapCovers t es).rest = s.rest := by
  refine s.rest_foldl _ (fun s e => ?_) _
  rw [State.rest_ite, State.rest_setEng, State.rest_setGrp, ite_self]

@[simp] theorem State.rest_qWriteGaps (q cause : Nat) (l : List (List GapEntry)) : (s.qWriteGaps q cause l).rest = s.rest := by
  induction l generalizing s with
  | nil => rfl
  | cons es l ih => simp [State.qWriteGaps, ih]

@[simp] theorem State.rest_qWriteMarks (q : Nat) (l : List Rec) : (s.qWriteMarks q l).rest = s.rest := by
  induction l generalizing s with
  | nil => rfl
  | cons r l ih => rw [State.qWriteMarks, ih, State.rest_qCommit]

@[simp] theorem State.rest_qWritePend (q : Nat) (p : PendGap) : (s.qWritePend q p).rest = s.rest := by
  rw [State.qWritePend, State.rest_qWriteMarks, State.rest_qWriteGaps, State.rest_setQueue]

@[simp] theorem State.rest_qFlushFor (q : Nat) (r : Rec) : (s.qFlushFor q r).1.rest = s.rest := by
  unfold State.qFlushFor
  split
  · rfl
  · simp

@[simp] theorem State.rest_qAdmit (q : Nat) (r : Rec) : (s.qAdmit q r).rest = s.rest := by simp [State.qAdmit]

@[simp] theorem State.rest_qOffer (q : Nat) (r : Rec) : (s.qOffer q r).rest = s.rest := by
  rw [State.qOffer, State.rest_qCompare, State.rest_qAdmit]

@[simp] theorem State.rest_offerNew (q : Nat) (r : Rec) : (s.offerNew q r).rest = s.rest := by
  rw [State.offerNew, State.rest_qOffer, State.rest_takeSeq]

/-! ### The trouble log -/

@[simp] theorem State.rest_logOut (e : LogEntry) : (s.logOut e).rest = s.rest := by
  unfold State.logOut
  split
  · split
    · exact s.rest_offerNew _ _
    · exact s.rest_setLogUnsent _
  · rfl

@[simp] theorem State.rest_logWrite (kind event : Nat) (d0 d1 d2 : Word) : (s.logWrite kind event d0 d1 d2).rest = s.rest := by simp [State.logWrite]

end Sys2Proof.Machine
end

section
/-! SUPPORT. ACTION, ACK and RECORD frames on the Herd link (chapter 06), and the statement O30. -/

namespace Sys2Proof.Machine

variable {s : State}

/-! ### Frames for this module (R145, R165, R167, R172) -/

theorem exec_ringFrames_isFor {portB : Bool} {f : Frame} (hseen : f.seen .good = .good) (hfor : s.isFor portB f) :
    exec (.actionRx portB f .good) s = .next (s.actionTake f) ∧ exec (.herdAckRx portB f .good) s = .next (s.ackTake f) ∧
      exec (.recordRx portB f .good) s = .next (s.recordAccept f) := by
  have hring (take : State → State) : s.ringRx portB f .good take = take s := State.ringRx_isFor hseen hfor
  refine ⟨congrArg Host.Outcome.next (hring _), congrArg Host.Outcome.next (hring _), ?_⟩
  change execRecordRx portB f .good s = _
  rw [execRecordRx, State.recordCut_good portB hseen, hring]

/-! ### Requests of others (R161, R166) -/

theorem State.actionTake_one {f : Frame} {r : ActReq} (hbody : f.body = .action [r]) :
    s.actionTake f = (s.reqAnswer f.origin r).1.herdSend f.origin false (.ack [(r.reqId, (s.reqAnswer f.origin r).2)]) := by
  unfold State.actionTake
  rw [hbody]
  rfl

theorem State.reqAnswer_conflict (n : Nat) (r : ActReq) (h : s.isSet F.HERD_STAT_ADDR_CONFLICT = true) : s.reqAnswer n r = (s, rsConflict) := if_pos h

/-- A REQ_ID answered before has no second effect. -/
theorem State.reqAnswer_again {n res : Nat} {r : ActReq} (hfree : s.isSet F.HERD_STAT_ADDR_CONFLICT = false)
    (hheld : (s.origin n).results.find? (fun y => y.1 == r.reqId) = some (r.reqId, res)) : s.reqAnswer n r = (s, res) := by
  have hopen : ¬ s.isSet F.HERD_STAT_ADDR_CONFLICT = true := by simp [hfree]
  unfold State.reqAnswer
  dsimp only
  rw [if_neg hopen, hheld]

/-! ### Own requests (R167, R168) -/

/-- A refusal or loss is told by an event and a trouble-log entry alone. -/
theorem State.herd_reqFailed (s : State) (p : PendReq) (res : Nat) : (s.reqFailed p res).herd = s.herd := by
  rw [State.reqFailed, State.herd_of_rest (State.rest_logWrite _ _ _ _ _ _), State.raiseHerd_herd]

theorem State.reqs_reqEnd (s : State) (p : PendReq) (n : Nat) :
    (s.reqEnd p n).herd.reqs = s.herd.reqs.filter (fun q => q.req.reqId != p.req.reqId) := by
  have hslot (u : State) : (if p.slot < 9 then u.slotResult p.slot n else u).herd = u.herd := by
    split
    · rw [State.slotResult, State.put_herd, State.put_herd]
    · rfl
  unfold State.reqEnd
  dsimp only
  rw [hslot]
  split
  · rw [State.herd_reqFailed]
    rfl
  · rfl

theorem State.get_slotResult (s : State) (slot : Nat) {n : Nat} (hn : n < 256) :
    (s.slotResult slot n).get (F.ACT_ENTER_RES_RESULT slot) = n ∧ (s.slotResult slot n).get (F.ACT_ENTER_RES_BUSY slot) = 0 := by
  rw [State.slotResult]
  constructor
  · rw [State.get_put_apart _ _ _ _ (of_decide_eq_true rfl) (of_decide_eq_true rfl), State.get_put_same _ _ _ (of_decide_eq_true rfl)]
    exact Nat.mod_eq_of_lt hn
  · rw [State.get_put_same _ _ _ (of_decide_eq_true rfl)]
    rfl

/-- A request ends with its slot's RESULT and BUSY 0 (R230). -/
theorem State.get_reqEnd {p : PendReq} {n : Nat} (hslot : p.slot < 9) (hn : n < 16) :
    (s.reqEnd p n).get (F.ACT_ENTER_RES_RESULT p.slot) = n ∧ (s.reqEnd p n).get (F.ACT_ENTER_RES_BUSY p.slot) = 0 := by
  unfold State.reqEnd
  dsimp only
  rw [if_pos hslot]
  exact State.get_slotResult _ _ (Nat.lt_trans hn (by decide))

theorem State.ackTake_one {f : Frame} {id : Word} {res : Nat} (hbody : f.body = .ack [(id, res)]) :
    s.ackTake f = (((s.acksTake f.origin [(id, res)]).frameEnd [id]).sendReqs ((s.acksTake f.origin [(id, res)]).frameEnd [id]).unsent.length) := by
  unfold State.ackTake
  rw [hbody]
  rfl

theorem State.acksTake_some {origin : Nat} {id : Word} {res : Nat} {p : PendReq}
    (h : s.herd.reqs.find? (fun q => q.req.reqId == id && q.dest == origin) = some p) : s.acksTake origin [(id, res)] = s.reqEnd p res := by
  rw [State.acksTake, State.acksTake, h]

theorem State.acksTake_none {origin : Nat} {id : Word} {res : Nat}
    (h : s.herd.reqs.find? (fun q => q.req.reqId == id && q.dest == origin) = none) : s.acksTake origin [(id, res)] = s := by
  rw [State.acksTake, State.acksTake, h]

theorem exec_actionRetry_none {id : Word} (h : s.herd.reqs.find? (fun q => q.req.reqId == id) = none) : exec (.actionRetry id) s = .next s := by
  change execActionRetry id s = _
  rw [execActionRetry, h]

/-- Once ACK_TO_US has passed, a request in a frame leaves again, or is lost after its last retry. -/
theorem exec_actionRetry {id fs : Word} {p : PendReq} {at_ : Nat} (h : s.herd.reqs.find? (fun q => q.req.reqId == id) = some p)
    (hsent : p.sent = some (fs, at_)) : exec (.actionRetry id) s =
      if s.lt < at_ + s.get F.HERD_CFG_ACK_TO_US * 1000 then .next s
      else if p.tries < s.get F.HERD_CFG_RETRIES then
        let u := (s.herdMap (fun h => { h with reqs := h.reqs.map (fun q =>
          if q.req.reqId == id then { q with tries := q.tries + 1, sent := none } else q) })).incSat F.HERD_CNT1_ACT_RETRY
        .next (u.sendReqs u.unsent.length)
      else .next ((s.incSat F.HERD_CNT1_ACT_LOST).reqEnd p rsLost) := by
  change execActionRetry id s = _
  rw [execActionRetry, h]
  dsimp only
  rw [hsent]

theorem exec_unansweredFrameExpiry {fs : Word} {x : OutFrame} (h : s.herd.frames.find? (fun y => y.fseq == fs) = some x) :
    exec (.unansweredFrameExpiry fs) s =
      if x.lt + 2 * s.get F.HERD_CFG_ACK_TO_US * 1000 ≤ s.lt then
        let u := s.herdMap (fun h => { h with frames := h.frames.erase x })
        .next (u.sendReqs u.unsent.length)
      else .next s := by
  change execUnansweredFrameExpiry fs s = _
  rw [execUnansweredFrameExpiry, h]

theorem exec_unansweredFrameExpiry_none {fs : Word} (h : s.herd.frames.find? (fun y => y.fseq == fs) = none) :
    exec (.unansweredFrameExpiry fs) s = .next s := by
  change execUnansweredFrameExpiry fs s = _
  rw [execUnansweredFrameExpiry, h]

/-! ### Records (R172) -/

/-- The FSEQ of an accepted RECORD is held for its origin. -/
def State.fseqHeld (s : State) (f : Frame) : State :=
  s.setOrigin f.origin { s.origin f.origin with fseqs := tabInsert f.body.cls f.fseq.toNat (tabDrop f.body.cls (s.origin f.origin).fseqs) }

/-- A RECORD is accepted by its FSEQ. -/
theorem State.recordAccept_eq {f : Frame} {y : Rec} {crc : Word} (hbody : f.body = .record y crc) : s.recordAccept f =
    if s.fseqNew f.origin f.body.cls f.fseq then ((s.fseqHeld f).recordCheck y crc).1.recordTake ((s.fseqHeld f).recordCheck y crc).2 else s := by
  unfold State.recordAccept State.fseqHeld
  rw [hbody]

/-- The first record of a stream is offered as it is. -/
theorem State.recordTake_first {y : Rec} (htype : y.typeOk = true)
    (hfirst : s.herd.streams.find? (fun z => z.1 == y.source.toNat * 256 + y.ty) = none) : s.recordTake y =
      (s.rxOffer (48 + (if y.ty = tyVerdict then s.get F.HERD_CFG_RXQ_VERDICT else s.get F.HERD_CFG_RXQ_BULK)) y).herdMap (fun h =>
        { h with streams := tabInsert (y.source.toNat * 256 + y.ty) (y.seq.toNat, y.lt) (tabDrop (y.source.toNat * 256 + y.ty) h.streams) }) := by
  have hok : ¬ (!y.typeOk) = true := by simp [htype]
  unfold State.recordTake
  rw [if_neg hok]
  dsimp only
  rw [hfirst]
  rfl

/-- A record whose CRC fails is taken as its ABORTED form and counted (R287). -/
theorem State.recordCheck_cases (s : State) (y : Rec) (crc : Word) : (crc = Rec.crc y → s.recordCheck y crc = (s, y)) ∧
    (crc ≠ Rec.crc y → s.recordCheck y crc = (s.incSat F.HERD_CNT0_CRC_ERR, y.aborted)) :=
  ⟨fun h => if_pos h, fun h => if_neg h⟩

/-- Settles O30: each clause is one equation of a frame's taking or of a command on an own request. -/
theorem actionsAndRecordsOnTheLink : Obligations.ActionsAndRecordsOnTheLink := by
  intro s portB f r p x n res at_ fs
  refine ⟨exec_ringFrames_isFor, State.actionTake_one, State.reqAnswer_conflict n r, State.reqAnswer_again, s.reqs_reqEnd p n, State.get_reqEnd,
    fun hbody hreq => ?_, fun hbody hreq => ?_, fun y crc hbody hold => ?_, fun y crc hbody hnew => ?_, fun y => State.recordTake_first,
    s.recordCheck_cases, exec_actionRetry_none, fun hreq hsent hearly => ?_, fun hreq hsent hdue hlast => ?_, fun hreq hsent hdue hmore => ?_,
    fun hframe hdue => ?_, fun hframe hearly => ?_, exec_unansweredFrameExpiry_none⟩
  · rw [State.ackTake_one hbody, State.acksTake_some hreq]
  · rw [State.ackTake_one hbody, State.acksTake_none hreq]
  · rw [State.recordAccept_eq hbody, if_neg (by simp [hold])]
  · exact (State.recordAccept_eq hbody).trans (if_pos hnew)
  · rw [exec_actionRetry hreq hsent, if_pos hearly]
  · rw [exec_actionRetry hreq hsent, if_neg (Nat.not_lt_of_le hdue), if_neg (Nat.not_lt_of_le hlast)]
  · rw [exec_actionRetry hreq hsent, if_neg (Nat.not_lt_of_le hdue), if_pos hmore]
  · rw [exec_unansweredFrameExpiry hframe, if_pos hdue]
  · rw [exec_unansweredFrameExpiry hframe, if_neg (Nat.not_le_of_lt hearly)]

end Sys2Proof.Machine
end

section
/-! SUPPORT. Subscriptions and reject-unless-cleared lanes (chapter 06), and the statement O31. -/

namespace Sys2Proof.Machine

variable {s : State}

/-! ### An output's command (R232, R237) -/

theorem State.bit_clearBit_same (s : State) (f : Fld) (i : Nat) (hf : f.lo + f.width ≤ 32) : (s.clearBit f i).bit f i = false := by
  have hcleared : (if (s.get f).testBit i then s.get f - 2 ^ i else s.get f).testBit i = false := by
    split
    next hset =>
      have hdiv : (s.get f - 2 ^ i) / 2 ^ i = s.get f / 2 ^ i - 1 := by simpa using Nat.sub_mul_div (s.get f) (2 ^ i) 1
      rw [Nat.testBit_eq_decide_div_mod_eq, decide_eq_true_eq] at hset
      rw [Nat.testBit_eq_decide_div_mod_eq, hdiv, decide_eq_false_iff_not]
      omega
    next hclear => exact Bool.eq_false_iff.mpr hclear
  unfold State.bit State.clearBit
  rw [s.get_put_same f _ hf, Nat.testBit_mod_two_pow, hcleared, Bool.and_false]

theorem State.herd_pins (s : State) (n : Nat) : (s.pins n).herd = s.herd := by
  induction n with
  | zero => rfl
  | succ n ih =>
    rw [State.pins, ← ih]
    split
    · exact State.setBit_herd _ _ _
    · exact State.clearBit_herd _ _ _

/-- The contacts that follow an output's command are shown in OUT_PIN alone. -/
theorem State.get_pins_other (s : State) (n : Nat) {f : Fld} (h : f.addr ≠ R.OUT_PIN) : (s.pins n).get f = s.get f := by
  induction n with
  | zero => rfl
  | succ n ih =>
    rw [State.pins, ← ih]
    split
    · exact State.get_put_other _ _ _ _ h
    · exact State.get_put_other _ _ _ _ h

theorem State.herd_command (s : State) (n : Nat) (level : Bool) : (s.command n level).herd = s.herd := by
  rw [State.command, State.drive, State.herd_pins]
  split
  · exact State.setBit_herd _ _ _
  · exact State.clearBit_herd _ _ _

theorem State.level_command (s : State) {n : Nat} (hn : n < 24) (level : Bool) : (s.command n level).bit F.OUT_LEVEL_LEVEL n = level := by
  rw [State.command, State.drive, State.bit, State.get_pins_other _ _ (by decide)]
  cases level with
  | true => exact s.bit_setBit_same F.OUT_LEVEL_LEVEL hn (by decide)
  | false => exact s.bit_clearBit_same F.OUT_LEVEL_LEVEL n (by decide)

theorem State.bit_emit (s : State) (e : Emission) (f : Fld) (n : Nat) : (s.emit e).bit f n = s.bit f n := by rw [State.bit, State.bit, State.get_emit]

/-- An edge is an output's command, seen at the contact after the output's delay. -/
theorem State.edge_eq (s : State) (n : Nat) (level : Bool) (target : Nat) :
    ∃ u : State, s.edge n level target = (u.command n level).emit (.edge n level (s.lt + s.outDly n)) ∧ u.herd = s.herd := by
  refine ⟨_, rfl, ?_⟩
  simp only [apply_ite State.herd, State.clearBit_herd, State.setOut_herd, State.incSat_herd, ite_self]

/-! ### Subscriptions (R164) -/

theorem exec_subscriptionExpiry_due {m : Fin 4} (havail : s.isSet (F.HERD_SUB_CFG_AVAILABLE m) = true)
    (hdue : tabGet (fun _ => 0) s.herd.anchorAt m.val + 500000 < s.lt) :
    exec (.subscriptionExpiry m) s = .next ((s.put (F.HERD_SUB_CFG_AVAILABLE m) 0).sourceGone (4 + m.val)).watchNote := by
  have hends : s.subAvail m false = ((s.put (F.HERD_SUB_CFG_AVAILABLE m) 0).sourceGone (4 + m.val)).watchNote := if_neg (by simp [havail])
  rw [← hends]
  exact if_pos (by simp [havail, hdue])

theorem exec_subscriptionExpiry_early {m : Fin 4} (h : s.lt ≤ tabGet (fun _ => 0) s.herd.anchorAt m.val + 500000) :
    exec (.subscriptionExpiry m) s = .next s := if_neg (by simp [Nat.not_lt_of_le h])

/-! ### Lanes (R169, R170) -/

@[simp] theorem State.lane_setLane_same (s : State) (n : Nat) (l : Lane) : (s.setLane n l).lane n = l := by simp [State.lane, State.setLane]

theorem State.lane_congr {s t : State} (h : t.herd = s.herd) (n : Nat) : t.lane n = s.lane n := by rw [State.lane, State.lane, h]

/-- Lane `n` noted as held. -/
def State.laneHeld (s : State) (n : Nat) : State := s.setLane n { s.lane n with held := true, done := none, due := none }

/-- Where the action table runs, a lane's hold is an edge of its output to REJ_LEVEL. -/
theorem State.laneHold_runs {n : Nat} (h : s.tableRuns = true) : s.laneHold n =
    (s.laneHeld n).edge (s.get (F.HERD_RUC_CFG_OUTPUT n)) (s.isSet (F.HERD_RUC_CFG_REJ_LEVEL n)) s.lt := if_pos h

theorem State.laneHold_inhibited {n : Nat} (h : s.tableRuns = false) : s.laneHold n = s.laneHeld n := if_neg (ne_true_of_eq_false h)

theorem State.lane_laneHold (s : State) (n : Nat) : (s.laneHold n).lane n = { s.lane n with held := true, done := none, due := none } := by
  cases hruns : s.tableRuns with
  | true =>
    obtain ⟨u, hedge, hherd⟩ := (s.laneHeld n).edge_eq (s.get (F.HERD_RUC_CFG_OUTPUT n)) (s.isSet (F.HERD_RUC_CFG_REJ_LEVEL n)) s.lt
    have hsame : (s.laneHold n).herd = (s.laneHeld n).herd := by
      rw [State.laneHold_runs hruns, hedge, State.emit_herd, State.herd_command, hherd]
    rw [State.lane_congr hsame, State.laneHeld, State.lane_setLane_same]
  | false => rw [State.laneHold_inhibited hruns, State.laneHeld, State.lane_setLane_same]

/-- A held output takes REJ_LEVEL, which its contact shows after the output's delay. -/
theorem State.laneHold_edge {n : Nat} (hruns : s.tableRuns = true) (hout : s.get (F.HERD_RUC_CFG_OUTPUT n) < 24) :
    (s.laneHold n).bit F.OUT_LEVEL_LEVEL (s.get (F.HERD_RUC_CFG_OUTPUT n)) = s.isSet (F.HERD_RUC_CFG_REJ_LEVEL n) ∧
      .edge (s.get (F.HERD_RUC_CFG_OUTPUT n)) (s.isSet (F.HERD_RUC_CFG_REJ_LEVEL n)) (s.lt + s.outDly (s.get (F.HERD_RUC_CFG_OUTPUT n))) ∈
        (s.laneHold n).out := by
  obtain ⟨u, hedge, -⟩ := (s.laneHeld n).edge_eq (s.get (F.HERD_RUC_CFG_OUTPUT n)) (s.isSet (F.HERD_RUC_CFG_REJ_LEVEL n)) s.lt
  rw [State.laneHold_runs hruns, hedge]
  exact ⟨(State.bit_emit _ _ _ _).trans (u.level_command hout _), List.mem_append_right _ List.mem_cons_self⟩

theorem exec_laneDecision (s : State) (n : Fin 16) : exec (.laneDecision n) s =
    if !s.isSet (F.HERD_RUC_CFG_EN n) || !s.domIsOn domHub then .next s
    else if !s.srcAvail (s.get (F.HERD_RUC_CFG_SRC n)) then .next (if (s.lane n).held || !s.laneHoldDue n then s else s.laneHold n)
    else match s.laneNext n with
      | some c => .next (s.laneDecide n c)
      | none => .next s := rfl

/-- An enabled lane with HUB on holds for want of its source, or decides its next cycle. -/
theorem exec_laneDecision_runs {n : Fin 16} (hen : s.isSet (F.HERD_RUC_CFG_EN n) = true) (hhub : s.dom 0 = 2) : exec (.laneDecision n) s =
    if !s.srcAvail (s.get (F.HERD_RUC_CFG_SRC n)) then .next (if (s.lane n).held || !s.laneHoldDue n then s else s.laneHold n)
    else match s.laneNext n with
      | some c => .next (s.laneDecide n c)
      | none => .next s := by
  rw [exec_laneDecision, if_neg (by simp [hen, State.domIsOn, hhub])]

/-- A cycle that a CLEAR names is decided with nothing armed. -/
theorem State.laneDecide_cleared {n : Nat} {c : Word} (h : c ∈ (s.lane n).clears) : s.laneDecide n c =
    s.setLane n { s.lane n with done := some c, held := false, due := none, clears := (s.lane n).clears.filter (fun x => seqLater x c) } :=
  if_pos (by simp [h])

/-- Settles O31: each clause is what an expiry or a lane's decision does once its condition holds, or that it does nothing; what a held lane leaves is read off
its output's edge. -/
theorem subscriptionsAndLanes : Obligations.SubscriptionsAndLanes := by
  intro s n m c
  refine ⟨exec_subscriptionExpiry_due, exec_subscriptionExpiry_early, fun hdis => ?_, fun hhub => ?_, fun hen hhub hsrc => ?_, s.lane_laneHold n,
    State.laneHold_edge, fun hstops => ?_, fun hen hhub hsrc hnext => ⟨?_, fun hclear => ?_⟩, fun hen hhub hsrc hnext => ?_⟩
  · rw [exec_laneDecision, if_pos (by simp [hdis])]
  · rw [exec_laneDecision, if_pos (by simp [State.domIsOn, hhub])]
  · rw [exec_laneDecision_runs hen hhub, if_pos (by simp [hsrc])]
  · rw [State.laneHold_inhibited hstops]
    exact ⟨rfl, rfl⟩
  · rw [exec_laneDecision_runs hen hhub, if_neg (by simp [hsrc]), hnext]
  · rw [State.laneDecide_cleared hclear, State.lane_setLane_same]
    exact ⟨State.setLane_acts _ _ _, rfl⟩
  · rw [exec_laneDecision_runs hen hhub, if_neg (by simp [hsrc]), hnext]

end Sys2Proof.Machine
end

section
/-! SUPPORT. What a sample does to its bin's accumulator (chapter 07), and the statement O38. -/

namespace Sys2Proof.Machine

variable {b : BinAcc} {w : Word}

/-- The bin with one more sample placed, marked with the flags of a sample that is added (R188). -/
def BinAcc.marked (b : BinAcc) (w : Word) (hold : Bool) : BinAcc :=
  { b with placed := b.placed + 1, stitched := b.stitched || w.getLsbD 24, overrange := b.overrange || w.getLsbD 26,
           holdover := b.holdover || w.getLsbD 28 || hold }

theorem BinAcc.add_excluded (angle : Nat) (hold : Bool) (h : w.getLsbD 25 = true ∨ w.getLsbD 27 = true) :
    b.add w angle hold = { b with placed := b.placed + 1, settling := b.settling || w.getLsbD 25, exc := b.exc || w.getLsbD 27 } :=
  if_pos ((Bool.or_eq_true _ _).mpr h)

/-- The first sample that a bin adds gives all its statistics. -/
theorem BinAcc.add_first (angle : Nat) (hold : Bool) (hsettle : w.getLsbD 25 = false) (hexc : w.getLsbD 27 = false) (hfirst : b.added = 0) :
    b.add w angle hold =
      { b.marked w hold with sum := wordCode w, min := wordCode w, max := wordCode w, minAt := angle / 256, maxAt := angle / 256, added := 1 } := by
  simp only [BinAcc.add, BinAcc.marked, hsettle, hexc, hfirst, Bool.or_false, Bool.false_eq_true, if_true, if_false]

/-- A later sample moves an extreme, and its angle, only by going beyond it. -/
theorem BinAcc.add_later (angle : Nat) (hold : Bool) (hsettle : w.getLsbD 25 = false) (hexc : w.getLsbD 27 = false) (hlater : 0 < b.added) :
    b.add w angle hold =
      { b.marked w hold with
        sum := b.sum + wordCode w, added := b.added + 1,
        min := if wordCode w < b.min then wordCode w else b.min, minAt := if wordCode w < b.min then angle / 256 else b.minAt,
        max := if b.max < wordCode w then wordCode w else b.max, maxAt := if b.max < wordCode w then angle / 256 else b.maxAt } := by
  simp only [BinAcc.add, BinAcc.marked, hsettle, hexc, Nat.ne_of_gt hlater, Bool.or_false, Bool.false_eq_true, if_false, gt_iff_lt]

/-- Settles O38: an excluded sample only marks its bin, the first one added gives every statistic, and a later one moves the sum and the extremes it passes. -/
theorem binsAccumulate : Obligations.BinsAccumulate := by
  intro b w angle hold
  refine ⟨fun hsettle hexc => ?_, fun hsettle hexc hlater => ?_, fun hsettle hexc hfirst => ?_, BinAcc.add_excluded angle hold⟩
  · obtain hfirst | hlater := Nat.eq_zero_or_pos b.added
    · rw [BinAcc.add_first angle hold hsettle hexc hfirst, hfirst]
      exact ⟨rfl, rfl, rfl, rfl, rfl, rfl, rfl⟩
    · rw [BinAcc.add_later angle hold hsettle hexc hlater]
      exact ⟨rfl, rfl, rfl, rfl, rfl, rfl, rfl⟩
  · rw [BinAcc.add_later angle hold hsettle hexc hlater]
    exact ⟨rfl, (min_def_lt' _ _).symm, (max_def_lt _ _).symm, rfl, rfl⟩
  · rw [BinAcc.add_first angle hold hsettle hexc hfirst]
    exact ⟨rfl, rfl, rfl, rfl, rfl⟩

end Sys2Proof.Machine
end

section
/-! SUPPORT. The churn engine's state under its own operations, its envelope table and its commands (chapter 07), and the statement O37. -/

namespace Sys2Proof.Machine

variable {s : State} {w : Fin 9} {tile : Fin 8} {g : Fin 4}

/-! ### The engine and its groups -/

theorem State.eng_congr {s u : State} (h : u.churn = s.churn) (t : Nat) : u.eng t = s.eng t := by rw [State.eng, State.eng, h]

theorem State.grp_congr {s u : State} (h : u.churn = s.churn) (t g : Nat) : u.grp t g = s.grp t g := by
  rw [State.grp, State.grp, State.eng_congr h]

@[simp] theorem State.eng_setEng_same (s : State) (t : Nat) (x : ChurnSt) : (s.setEng t x).eng t = x := by simp [State.eng, State.setEng]

@[simp] theorem State.grp_setEng_same (s : State) (t g : Nat) (x : ChurnSt) :
    (s.setEng t x).grp t g = tabGet (fun _ => GroupSt.rest) x.groups g := by rw [State.grp, State.eng_setEng_same]

@[simp] theorem State.grp_setGrp_same (s : State) (t g : Nat) (x : GroupSt) : (s.setGrp t g x).grp t g = x := by simp [State.setGrp]

@[simp] theorem State.setGrp_env (s : State) (t g : Nat) (x : GroupSt) : (s.setGrp t g x).env = s.env := rfl
@[simp] theorem State.setGrp_mem (s : State) (t g : Nat) (x : GroupSt) : (s.setGrp t g x).mem = s.mem := rfl
@[simp] theorem State.raiseTile_env (s : State) (t n : Nat) : (s.raiseTile t n).env = s.env := rfl

/-! ### A group's registers follow its state and move nothing else (R211) -/

/-- What no write to a register moves is left. -/
theorem State.grpShow_keeps {α : Type} (v : State → α) (h : ∀ u f n, v (State.put u f n) = v u) (s : State) (t g : Nat) : v (s.grpShow t g) = v s := by
  have hputB (u : State) (f : Fld) (b : Bool) : v (u.putB f b) = v u := h u f _
  have hsetBit (u : State) (f : Fld) (i : Nat) : v (u.setBit f i) = v u := h u f _
  have hclearBit (u : State) (f : Fld) (i : Nat) : v (u.clearBit f i) = v u := h u f _
  simp only [State.grpShow, apply_ite v, h, hputB, hsetBit, hclearBit, ite_self]

@[simp] theorem State.grpShow_churn (s : State) (t g : Nat) : (s.grpShow t g).churn = s.churn := State.grpShow_keeps _ State.put_churn s t g
@[simp] theorem State.grpShow_env (s : State) (t g : Nat) : (s.grpShow t g).env = s.env := State.grpShow_keeps _ State.put_env s t g
@[simp] theorem State.grpShow_mem (s : State) (t g : Nat) : (s.grpShow t g).mem = s.mem := State.grpShow_keeps _ State.put_mem s t g
@[simp] theorem State.grp_grpShow (s : State) (t g h : Nat) : (s.grpShow t g).grp t h = s.grp t h := State.grp_congr (s.grpShow_churn t g) t h

/-! ### Teaching starts afresh (R202) -/

@[simp] theorem State.setBytes_churn (s : State) (a : Nat) (l : List Byte) : (s.setBytes a l).churn = s.churn := by
  induction l generalizing s a with
  | nil => rfl
  | cons b l ih => rw [State.setBytes, ih, State.setByte_churn]

@[simp] theorem State.storeLe_churn (s : State) (a n v : Nat) : (s.storeLe a n v).churn = s.churn := s.setBytes_churn a _

@[simp] theorem State.accClear_churn (s : State) (t g : Nat) : (s.accClear t g).churn = s.churn :=
  foldl_keeps State.churn _ (fun _ _ => by rw [State.storeLe_churn, State.storeLe_churn]) _ _

@[simp] theorem State.grp_clearHist (s : State) (t g h : Nat) : (s.clearHist t g).grp t h = s.grp t h := by
  rw [State.clearHist, State.grp_setEng_same, State.grp]

/-- A group as a teach that starts leaves it. -/
theorem State.grp_teachStart (s : State) (t g : Nat) : (s.teachStart t g).grp t g =
    { s.grp t g with teaching := true, teachDone := 0, clampTold := false, driftRun := 0,
                     closed := (s.grp t g).closed.map (fun c => { c with stale := true }) } := by
  rw [State.teachStart, State.grp_grpShow, State.grp_clearHist, State.grp_congr (State.accClear_churn _ t g), State.grp_setGrp_same]

/-! ### Envelope entries and table writes (R196, R198) -/

@[simp] theorem State.envGet_envSet_same (s : State) (t e : Nat) (x : BitVec 64) : (s.envSet t e x).envGet t e = x := by
  simp [State.envGet, State.envSet]

theorem State.envGet_envSet_other (s : State) (t : Nat) {e n : Nat} (x : BitVec 64) (h : n ≠ e) : (s.envSet t e x).envGet t n = s.envGet t n :=
  tabGet_tabSet_other _ _ (by omega) _

theorem State.envGet_congr {s u : State} (h : u.env = s.env) (t n : Nat) : u.envGet t n = s.envGet t n := by rw [State.envGet, State.envGet, h]

@[simp] theorem State.envRefuse_env (s : State) (t : Nat) : (s.envRefuse t).env = s.env := by
  rw [State.envRefuse, State.churnEvent, State.raiseTile_env, State.put_env, State.incSat_env]

/-- The low word held for entry `e` of tile `t`, set. -/
def State.holdLow (s : State) (t e : Nat) (low : Option Word) : State :=
  s.setEng t { s.eng t with lowHeld := tabSet (fun _ => none) e low (s.eng t).lowHeld }

@[simp] theorem State.holdLow_env (s : State) (t e : Nat) (low : Option Word) : (s.holdLow t e low).env = s.env := rfl

@[simp] theorem State.judge_holdLow (s : State) (t e : Nat) (low : Option Word) : ((s.holdLow t e low).eng t).judge = (s.eng t).judge := by
  simp [State.holdLow]

@[simp] theorem State.lowHeld_holdLow (s : State) (t e : Nat) (low : Option Word) :
    tabGet (fun _ => none) ((s.holdLow t e low).eng t).lowHeld e = low := by simp [State.holdLow]

@[simp] theorem State.grp_holdLow (s : State) (t e g : Nat) (low : Option Word) : (s.holdLow t e low).grp t g = s.grp t g := by
  rw [State.holdLow, State.grp_setEng_same, State.grp]

/-- Whether a group is open to writes does not depend on the low words held. -/
@[simp] theorem State.envMay_holdLow (s : State) (t e : Nat) (low : Option Word) (g : Option Nat) : (s.holdLow t e low).envMay t g = s.envMay t g := by
  cases g with
  | none => rfl
  | some g =>
    rw [State.envMay, State.envMay, State.grp_holdLow, State.holdLow, State.isSet_setEng, State.isSet_setEng]

@[simp] theorem State.envGroup_holdLow (s : State) (t e : Nat) (low : Option Word) (x : BitVec 64) :
    (s.holdLow t e low).envGroup t x = s.envGroup t x := rfl

/-- With no judgement running a commit to the table is at once. -/
theorem State.envCommit_idle {t : Nat} (h : (s.eng t).judge = none) (e : Nat) (x : BitVec 64) : s.envCommit t e x = s.envSet t e x := by
  have hfree (n : Nat) : s.judging t n = false := by rw [State.judging, h]
  unfold State.envCommit
  cases s.envGroup t (s.envGet t e) <;> cases s.envGroup t x <;> simp [hfree]

theorem State.envWrite_refused {w t e : Nat} (high : Bool) (v : Word) (h : tileWriter w t = false ∨ s.envMay t (s.envGroup t (s.envGet t e)) = false) :
    s.envWrite w t e high v = s.envRefuse t := by
  have hbad : (!tileWriter w t || !s.envMay t (s.envGroup t (s.envGet t e))) = true := by
    obtain h | h := h
    · rw [h, Bool.not_false, Bool.true_or]
    · rw [h, Bool.not_false, Bool.or_true]
  exact if_pos hbad

section
variable {w t e : Nat} (hw : tileWriter w t = true) (hold : s.envMay t (s.envGroup t (s.envGet t e)) = true)
include hw hold

theorem State.envWrite_low (v : Word) : s.envWrite w t e false v = s.holdLow t e (some v) := by
  unfold tileWriter at hw
  simp [State.envWrite, hw, hold, State.holdLow]

/-- The high word commits the pair where the new entry's group is open to writes too. -/
theorem State.envWrite_high {low : Word} (v : Word) (hlow : tabGet (fun _ => none) (s.eng t).lowHeld e = some low)
    (hnew : s.envMay t (s.envGroup t (v ++ low)) = true) : s.envWrite w t e true v = (s.holdLow t e none).envCommit t e (v ++ low) := by
  have hopen : (s.holdLow t e none).envMay t ((s.holdLow t e none).envGroup t (v ++ low)) = true := by
    rw [State.envGroup_holdLow, State.envMay_holdLow, hnew]
  unfold State.holdLow at hopen
  unfold tileWriter at hw
  simp [State.envWrite, hw, hold, hlow, hopen, State.holdLow]

end

/-! ### Points, samples and cycles (R184, R185, R190) -/

/-- Points of a source that no enabled group follows are taken, and nothing else goes on. -/
theorem State.pointsReach_unfollowed {t n : Nat} (h : ∀ k, k < 4 → s.isSet (F.CHURN_GRP_CFG_EN t k) = false ∨ s.grpSrc t k ≠ n) :
    s.pointsReach t n = s.setEng t { s.eng t with pts := tabSet (fun _ => []) n (s.src n).pts (s.eng t).pts } := by
  have hnone : (List.range 4).filter (fun k => s.isSet (F.CHURN_GRP_CFG_EN t k) && s.grpSrc t k == n) = [] := by
    rw [List.filter_eq_nil_iff]
    intro k hk
    obtain hoff | hother := h k (List.mem_range.mp hk)
    · simp [hoff]
    · simp [hother]
  exact congrArg (List.foldl _ _) hnone

/-- With no cycle under way none is over-long. -/
theorem State.maxCycle_none {t g : Nat} (h : s.openCycles t g (s.srcView t (s.grpSrc t g)) = []) : s.maxCycle t g = s := by
  unfold State.maxCycle
  dsimp only
  rw [h]
  rfl

/-! ### The commands -/

theorem exec_pointArrival (s : State) (tile src : Fin 8) :
    exec (.pointArrival tile src) s = .next ((if (s.eng tile).on then s.pointsReach tile src else s).reestimate src) := rfl

theorem exec_foldWaitExpiry_due {i : Fin 16} {x : WaitSample} {l : List WaitSample}
    (hdue : s.foldExpired tile (s.get (F.CHURN_STR_GROUP tile i)) i = true) (hwait : s.waitingOf tile i = x :: l) :
    exec (.foldWaitExpiry tile i) s = .next ((((s.setWaiting tile i l).stillSample tile (s.get (F.CHURN_STR_GROUP tile i)) i x).drainStream tile
      (s.get (F.CHURN_STR_GROUP tile i)) i l.length).grpShow tile (s.get (F.CHURN_STR_GROUP tile i))) := by
  change execFoldWaitExpiry tile i s = _
  rw [execFoldWaitExpiry, if_pos hdue, hwait]

theorem exec_foldWaitExpiry_early {i : Fin 16} (h : s.foldExpired tile (s.get (F.CHURN_STR_GROUP tile i)) i = false) :
    exec (.foldWaitExpiry tile i) s = .next s := if_neg (by simp [h])

theorem State.foldExpired_none {t i : Nat} (g : Nat) (h : s.waitingOf t i = []) : s.foldExpired t g i = false := by rw [State.foldExpired, h]

theorem exec_closeWaitExpiry {c : CycWait} {cs : List CycWait} (h : (s.grp tile g).waits = c :: cs) : exec (.closeWaitExpiry tile g) s =
    if c.firstLt + s.get (F.CHURN_GRP_TIME_CLOSE_WAIT tile g) * 100000 ≤ s.lt then .next ((s.closeUpTo tile g c.cycle false).grpShow tile g)
    else .next s := by
  change execCloseWaitExpiry tile g s = _
  rw [execCloseWaitExpiry, h]

theorem exec_closeWaitExpiry_none (h : (s.grp tile g).waits = []) : exec (.closeWaitExpiry tile g) s = .next s := by
  change execCloseWaitExpiry tile g s = _
  rw [execCloseWaitExpiry, h]

theorem exec_maxCycleTimeout (s : State) (tile : Fin 8) (g : Fin 4) :
    exec (.maxCycleTimeout tile g) s = .next ((s.maxCycle tile g).grpShow tile g) := rfl

theorem exec_cycleSourceLoss_lost (hstart : (s.grp tile g).startAt.isSome = true) (hgone : s.srcAvailTo tile (s.grpSrc tile g) = false) :
    exec (.cycleSourceLoss tile g) s = .next (s.groupLost tile g) := if_pos (by rw [hstart, hgone]; rfl)

theorem exec_cycleSourceLoss_kept (h : (s.grp tile g).startAt = none ∨ s.srcAvailTo tile (s.grpSrc tile g) = true) :
    exec (.cycleSourceLoss tile g) s = .next (s.grpShow tile g) := by
  have hkept : ¬ ((s.grp tile g).startAt.isSome && !s.srcAvailTo tile (s.grpSrc tile g)) = true := by
    obtain h | h := h
    · simp [h]
    · simp [h]
  exact if_neg hkept

theorem exec_judgementEnd {j : Judge} (h : (s.eng tile).judge = some j) :
    exec (.judgementEnd tile) s = if j.until_ ≤ s.lt then .next (s.judgeEnd tile j.group) else .next s := by
  change execJudgementEnd tile s = _
  rw [execJudgementEnd, h]

theorem exec_judgementEnd_none (h : (s.eng tile).judge = none) : exec (.judgementEnd tile) s = .next s := by
  change execJudgementEnd tile s = _
  rw [execJudgementEnd, h]

/-- A judgement that ends gives its verdict, lets the table commits that waited take place and starts the next judgement. -/
theorem State.judgeEnd_some {t g : Nat} {k : Closed} {ks : List Closed} (h : (s.grp t g).closed = k :: ks) :
    let st := if k.incomplete then vIncomplete else if (s.grp t g).teaching then vTeaching else vJudged
    let u := (s.setGrp t g { s.grp t g with closed := ks }).verdict t g k st
    let z := (u.eng t).commits.foldl (fun y m => y.envSet t m.1 m.2) (u.setEng t { u.eng t with judge := none, commits := [] })
    s.judgeEnd t g = (z.judgeNext t).grpShow t g := by
  intro st u z
  rw [State.judgeEnd, h]

/-! ### TEACH and TEACH_END (R202, R203) -/

theorem exec_teach (s : State) (w : Fin 9) (tile : Fin 8) (g : Fin 4) : exec (.teach w tile g) s =
    .next (if tileWriter w tile && s.isSet (F.CHURN_GRP_CFG_TEACH_CMD_EN tile g) && s.isSet (F.CHURN_GRP_CFG_EN tile g) then s.teachStart tile g
      else s) := rfl

theorem exec_teachEnd (s : State) (w : Fin 9) (tile : Fin 8) (g : Fin 4) : exec (.teachEnd w tile g) s =
    .next (if tileWriter w tile && (s.grp tile g).teaching then
      (s.setGrp tile g { s.grp tile g with teaching := false, teachDone := 0 }).grpShow tile g else s) := rfl

/-- TEACH_END stops the teach and leaves the entries and memory as they are. -/
theorem exec_teachEnd_teaching (hw : tileWriter w tile = true) (hteach : (s.grp tile g).teaching = true) :
    Completes (.teachEnd w tile g) s (fun t => t.env = s.env ∧ t.mem = s.mem ∧ (t.grp tile g).teaching = false) := by
  have hstops : (tileWriter w tile && (s.grp tile g).teaching) = true := by rw [hw, hteach]; rfl
  refine ⟨_, by rw [exec_teachEnd, if_pos hstops], ?_, ?_, ?_⟩
  · rw [State.grpShow_env, State.setGrp_env]
  · rw [State.grpShow_mem, State.setGrp_mem]
  · rw [State.grp_grpShow, State.grp_setGrp_same]

theorem exec_envEntryWrite (s : State) (w : Fin 9) (tile : Fin 8) (e : Fin 3072) (high : Bool) (v : Word) :
    exec (.envEntryWrite w tile e high v) s = .next (s.envWrite w tile e high v) := rfl

/-- A commit outside a judgement writes its entry alone. -/
theorem exec_envEntryWrite_commit {e : Fin 3072} {low : Word} (v : Word) (hw : tileWriter w tile = true)
    (hold : s.envMay tile (s.envGroup tile (s.envGet tile e)) = true) (hlow : tabGet (fun _ => none) (s.eng tile).lowHeld e = some low)
    (hnew : s.envMay tile (s.envGroup tile (v ++ low)) = true) (hidle : (s.eng tile).judge = none) :
    Completes (.envEntryWrite w tile e true v) s (fun t => t.envGet tile e = v ++ low ∧
      ∀ n, n < 3072 → n ≠ e.val → t.envGet tile n = s.envGet tile n) := by
  have hfree : ((s.holdLow tile e none).eng tile).judge = none := by rw [State.judge_holdLow, hidle]
  refine ⟨_, by rw [exec_envEntryWrite, State.envWrite_high hw hold v hlow hnew, State.envCommit_idle hfree], State.envGet_envSet_same _ _ _ _, ?_⟩
  intro n _ hother
  rw [State.envGet_envSet_other _ _ _ hother, State.envGet_congr (State.holdLow_env s tile e none)]

/-- Settles O37: each clause is what a command of the engine does once its condition holds and its writer may give it, or that it does nothing. -/
theorem churnEvents : Obligations.ChurnEvents := by
  intro s w tile src i g e v low x l c cs j
  refine ⟨fun hon => ?_, fun hoff => ?_, State.pointsReach_unfollowed, exec_foldWaitExpiry_due,
    fun hnone => exec_foldWaitExpiry_early (State.foldExpired_none _ hnone), exec_foldWaitExpiry_early, fun hwait hdue => ?_, exec_closeWaitExpiry_none,
    fun hwait hearly => ?_, exec_maxCycleTimeout s tile g, fun hnone => ?_, exec_cycleSourceLoss_lost, fun hout => exec_cycleSourceLoss_kept (.inl hout),
    fun havail => exec_cycleSourceLoss_kept (.inr havail), fun hjudge hdue => ?_, fun k ks => State.judgeEnd_some, exec_judgementEnd_none,
    fun hjudge hearly => ?_, fun hw hcmd hen => ?_, ?_, fun hcmd => ?_, fun hw => ⟨?_, ?_⟩, exec_teachEnd_teaching, fun hidle => ?_,
    fun high hw => ⟨?_, s.envRefuse_env tile⟩, fun high hshut => ?_, fun hw hold => ?_, exec_envEntryWrite_commit v⟩
  · rw [exec_pointArrival, if_pos hon]
  · rw [exec_pointArrival, if_neg (ne_true_of_eq_false hoff)]
  · rw [exec_closeWaitExpiry hwait, if_pos hdue]
  · rw [exec_closeWaitExpiry hwait, if_neg (Nat.not_le_of_lt hearly)]
  · rw [exec_maxCycleTimeout, State.maxCycle_none hnone]
  · rw [exec_judgementEnd hjudge, if_pos hdue]
  · rw [exec_judgementEnd hjudge, if_neg (Nat.not_le_of_lt hearly)]
  · rw [exec_teach, if_pos (by rw [hw, hcmd, hen]; rfl)]
  · rw [s.grp_teachStart tile g]
    refine ⟨rfl, rfl, fun k hk => ?_⟩
    obtain ⟨c, -, rfl⟩ := List.mem_map.mp hk
    rfl
  · rw [exec_teach, if_neg (by simp [hcmd])]
  · rw [exec_teach, if_neg (by simp [hw])]
  · rw [exec_teachEnd, if_neg (by simp [hw])]
  · rw [exec_teachEnd, if_neg (by simp [hidle])]
  · rw [exec_envEntryWrite, State.envWrite_refused high v (.inl hw)]
  · rw [exec_envEntryWrite, State.envWrite_refused high v (.inr hshut)]
  · exact ⟨_, by rw [exec_envEntryWrite, State.envWrite_low hw hold], State.holdLow_env _ _ _ _, State.lowHeld_holdLow _ _ _ _⟩

end Sys2Proof.Machine
end

section
/-! SUPPORT. Captured changes, records and encoder counting (chapter 08), and the statement O34. -/

namespace Sys2Proof.Machine

variable {s : State} {u : Fin 40} {e : Fin 4}

/-! ### Changes at an input (R212, R213) -/

@[simp] theorem State.cap_setCap_same (s : State) (n : Nat) (x : CapUnit) : (s.setCap n x).cap n = x := by simp [State.cap, State.setCap]

/-- The filtered level of input `i` after a change. -/
def State.capLevel (s : State) (i : Nat) (level : Bool) : State :=
  (s.setCap i { s.cap i with level := level }).putB (F.CAP_IN_STAT_LEVEL i) level

section
variable {x : CapChange}

theorem State.capChange_glitch (hshort : x.held < s.filterNs x.input) :
    s.capChange x = if (s.cap x.input).on then s.incSat (F.CAP_IN_CNT_GLITCHES x.input) else s := if_pos hshort

theorem State.capChange_still (hlong : s.filterNs x.input ≤ x.held) (hsame : (s.cap x.input).level = x.level) : s.capChange x = s :=
  (if_neg (Nat.not_lt_of_le hlong)).trans (if_pos hsame)

/-- An input that is off notes its new filtered level, and stamps nothing. -/
theorem State.capChange_unstamped (hlong : s.filterNs x.input ≤ x.held) (hchange : (s.cap x.input).level ≠ x.level)
    (hoff : (s.cap x.input).on = false) : s.capChange x = s.capLevel x.input x.level :=
  (if_neg (Nat.not_lt_of_le hlong)).trans ((if_neg hchange).trans (if_neg (by simp [hoff])))

theorem State.capChange_off (hoff : (s.cap x.input).on = false) : s.capChange x = s ∨ s.capChange x = s.capLevel x.input x.level := by
  obtain hshort | hlong := Nat.lt_or_ge x.held (s.filterNs x.input)
  · exact .inl ((State.capChange_glitch hshort).trans (if_neg (ne_true_of_eq_false hoff)))
  · by_cases hsame : (s.cap x.input).level = x.level
    · exact .inl (State.capChange_still hlong hsame)
    · exact .inr (State.capChange_unstamped hlong hsame hoff)

theorem State.isSet_capChange_off (hoff : (s.cap x.input).on = false) {f : Fld} (hf : f.addr ≠ R.CAP_IN_STAT x.input) :
    (s.capChange x).isSet f = s.isSet f := by
  obtain h | h := State.capChange_off hoff
  · rw [h]
  · rw [h, State.capLevel, State.isSet_putB_other _ _ hf, State.isSet_setCap]

theorem State.watch_capChange_off (hoff : (s.cap x.input).on = false) : (s.capChange x).watch = s.watch := by
  obtain h | h := State.capChange_off hoff
  · rw [h]
  · rw [h, State.capLevel, State.putB_watch, State.setCap_watch]

end

theorem State.encTick_uncounted {n : Nat} (h : s.isSet (F.CAP_ENC_STAT_COUNTING n) = false) (z : Bool) : s.encTick n z = s := if_neg (by simp [h])

/-- With no encoder counting, a tick's changes are those of the inputs. -/
theorem State.capChanges_uncounted {cs : List CapChange}
    (h : ∀ n, n < 4 → (cs.foldl State.capChange s).isSet (F.CAP_ENC_STAT_COUNTING n) = false) : s.capChanges cs = cs.foldl State.capChange s := by
  rw [State.capChanges]
  simp only [List.foldl_cons, List.foldl_nil]
  rw [State.encTick_uncounted (h 0 (by decide)), State.encTick_uncounted (h 1 (by decide)), State.encTick_uncounted (h 2 (by decide)),
    State.encTick_uncounted (h 3 (by decide))]

theorem State.watchBack_idle (h : s.watch.byAuto = false) : s.watchBack = s := if_neg (by simp [h])

theorem exec_captureEdge (s : State) (cs : List CapChange) : exec (.captureEdge cs) s = .next (s.capChanges cs).watchBack := rfl

theorem R.capEncStat_ne_capInStat (n i : Nat) : R.CAP_ENC_STAT n ≠ R.CAP_IN_STAT i := by
  simp only [R.CAP_ENC_STAT, R.CAP_IN_STAT]
  omega

/-- With no encoder counting and WATCH not of AUTO_WATCH, one change at an input that is off goes no further. -/
theorem exec_captureEdge_off {x : CapChange} (hcount : ∀ n, n < 4 → s.isSet (F.CAP_ENC_STAT_COUNTING n) = false)
    (hoff : (s.cap x.input).on = false) (hwatch : s.watch.byAuto = false) : exec (.captureEdge [x]) s = .next (s.capChange x) := by
  have hstill : ∀ n, n < 4 → (s.capChange x).isSet (F.CAP_ENC_STAT_COUNTING n) = false := fun n hn => by
    rw [State.isSet_capChange_off hoff (R.capEncStat_ne_capInStat n x.input), hcount n hn]
  have hall : s.capChanges [x] = s.capChange x := State.capChanges_uncounted hstill
  rw [exec_captureEdge, hall, State.watchBack_idle (by rw [State.watch_capChange_off hoff, hwatch])]

/-! ### Stamps and records (R141, R214, R215) -/

/-- Capture unit `n` after entry `p` has come into its queue (R141, R214). -/
def State.capQueued (s : State) (n : Nat) (p : CapEntry) : CapUnit :=
  { s.cap n with
    fifo := (s.cap n).fifo ++ [{ p with lost := (s.cap n).dropped, lostFrom := (s.cap n).lastKept, thr := s.throttle != 0 }],
    dropped := 0, lastKept := p.stamp }

theorem State.capPut_room {n : Nat} (h : (s.cap n).fifo.length < 4) (p : CapEntry) : s.capPut n p = (s.setCap n (s.capQueued n p), true) := if_pos h

theorem exec_captureRecordClose_empty (h : (s.cap u).entries = []) : exec (.captureRecordClose u) s = .next s := if_pos (by rw [h]; rfl)

theorem exec_captureRecordClose_due (hopen : (s.cap u).entries ≠ []) (hdue : (s.cap u).openLt + s.get F.CAP_CFG_CLOSE_US * 1000 ≤ s.lt) :
    exec (.captureRecordClose u) s = .next (s.capClose u) := (if_neg (by simpa using hopen)).trans (if_pos hdue)

theorem exec_captureRecordClose_early (h : s.lt < (s.cap u).openLt + s.get F.CAP_CFG_CLOSE_US * 1000) :
    exec (.captureRecordClose u) s = .next s := by
  by_cases hempty : (s.cap u).entries = []
  · exact exec_captureRecordClose_empty hempty
  · exact (if_neg (by simpa using hempty)).trans (if_neg (Nat.not_le_of_lt h))

/-! ### Encoders (R218, R221) -/

/-- An encoder is stopped where it counts, is not stopped yet, and STOP_MS have gone since its last count. -/
def State.encStops (s : State) (e : Nat) : Prop :=
  s.isSet (F.CAP_ENC_STAT_COUNTING e) = true ∧ (!s.isSet (F.CAP_ENC_STAT_STOPPED e)) = true ∧
    (s.enc e).lastLt + s.get (F.CAP_ENC_CFG_STOP_MS e) * 1000000 ≤ s.lt

theorem exec_encoderStopped_due (h : s.encStops e) :
    let u := (s.put (F.CAP_ENC_STAT_STOPPED e) 1).put (F.CAP_ENC_PERIOD_PERIOD e) 0xFFFFFFFF
    exec (.encoderStopped e) s = .next ((u.setEnc e { s.enc e with stamps := [] }).reestimate e).watchNote := if_pos h

theorem exec_encoderStopped_not (h : ¬ s.encStops e) : exec (.encoderStopped e) s = .next s := if_neg h

section
variable {m : Nat} {a b a' b' : Bool}

theorem countOf_both (ha : a ≠ a') (hb : b ≠ b') (hm : m ≠ 4) : countOf m a b a' b' = .error := by
  simp [countOf, hm, ha, hb]

theorem countOf_still (m : Nat) (a b : Bool) : countOf m a b a b = .none_ := by
  simp [countOf]

theorem countOf_a (b : Bool) (ha : a ≠ a') (hm : m ≠ 4) : countOf m a b a' b = if m = 3 ∧ a' = false then .none_ else .up (a' != b) := by
  simp [countOf, hm, ha]

theorem countOf_b (a : Bool) (hb : b ≠ b') (hm : m ≠ 4) : countOf m a b a b' = if m = 1 then .up (b' == a) else .none_ := by
  simp [countOf, hm, hb]

/-- With MODE 1 the way back counts the other way. -/
theorem countOf_back : ∀ a b a' b' d, countOf 1 a b a' b' = .up d → countOf 1 a' b' a b = .up (!d) := by decide

/-- What another quadrature MODE counts, MODE 1 counts alike. -/
theorem countOf_one {d : Bool} (hm : m ≠ 4) (h : countOf m a b a' b' = .up d) : countOf 1 a b a' b' = .up d := by
  by_cases ha : a = a'
  · subst ha
    by_cases hb : b = b'
    · subst hb
      rw [countOf_still] at h
      cases h
    · rw [countOf_b a hb hm] at h
      split at h
      next => rwa [countOf_b a hb (by decide), if_pos rfl]
      next => cases h
  · by_cases hb : b = b'
    · subst hb
      rw [countOf_a b ha hm] at h
      split at h
      next => cases h
      next => rwa [countOf_a b ha (by decide), if_neg (by simp)]
    · rw [countOf_both ha hb hm] at h
      cases h

end

/-- Settles O34: each clause is what a command of the captures does once its time has come, or that it does nothing before; the counts are read off A and B. -/
theorem captureAndEncoderEvents : Obligations.CaptureAndEncoderEvents := by
  refine ⟨fun s x u e p => ⟨fun hshort hon _ => ?_, exec_captureEdge s, exec_captureEdge_off, State.capChange_unstamped, fun hroom => ?_,
    exec_captureRecordClose_due, exec_captureRecordClose_early, exec_captureRecordClose_empty, fun hcount hstop hdue => ?_, fun hstop => ?_,
    fun hcount => ?_, fun hearly => ?_⟩, fun a b a' b' => ⟨fun ha hb m => countOf_both ha hb, fun m => countOf_still m a b, by decide, countOf_back a b a' b',
    fun m d => countOf_one⟩⟩
  · rw [State.capChange_glitch hshort, if_pos hon]
  · rw [State.capPut_room hroom, State.cap_setCap_same]
    exact ⟨rfl, rfl, rfl⟩
  · exact exec_encoderStopped_due ⟨hcount, by rw [hstop]; rfl, hdue⟩
  · exact exec_encoderStopped_not fun ⟨_, hruns, _⟩ => by simp [hstop] at hruns
  · exact exec_encoderStopped_not fun ⟨hcounts, _, _⟩ => by simp [hcount] at hcounts
  · exact exec_encoderStopped_not fun ⟨_, _, hdue⟩ => Nat.not_le_of_lt hearly hdue

end Sys2Proof.Machine
end

section
/-! SUPPORT. The tile timers' commands and count advances (chapter 08), and the statement O35. -/

namespace Sys2Proof.Machine

variable {s : State} {w : Fin 9} {t : Fin 8} {n : Fin 4} {p d : Nat}

/-! ### A timer and its registers -/

theorem R.ttPer_ne_ttStat (t n : Nat) : R.TT_PER t n ≠ R.TT_STAT t n := by simp only [R.TT_PER, R.TT_STAT]; omega
theorem R.ttCmp_ne_ttStat (t n : Nat) : R.TT_CMP t n ≠ R.TT_STAT t n := by simp only [R.TT_CMP, R.TT_STAT]; omega
theorem R.ttCnt_ne_ttStat (t n : Nat) : R.TT_CNT t n ≠ R.TT_STAT t n := by simp only [R.TT_CNT, R.TT_STAT]; omega
theorem R.ttCfg_ne_ttPer (t n : Nat) : R.TT_CFG t n ≠ R.TT_PER t n := by simp only [R.TT_CFG, R.TT_PER]; omega

@[simp] theorem State.timer_setTimer_same (s : State) (t n : Nat) (x : Timer) : (s.setTimer t n x).timer t n = x := by
  simp [State.timer, State.setTimer]

theorem State.timer_congr {s u : State} (h : u.timers = s.timers) (t n : Nat) : u.timer t n = s.timer t n := by rw [State.timer, State.timer, h]

@[simp] theorem State.timer_put (s : State) (f : Fld) (v t n : Nat) : (s.put f v).timer t n = s.timer t n := State.timer_congr rfl t n
@[simp] theorem State.unreach_timers (s : State) (t n : Nat) : (s.unreach t n).timers = s.timers := s.putB_timers _ _
@[simp] theorem State.timer_unreach (s : State) (t n : Nat) : (s.unreach t n).timer t n = s.timer t n := State.timer_congr (s.unreach_timers t n) t n

theorem State.rd_unreach_other (s : State) (t n : Nat) {a : Nat} (h : a ≠ R.TT_STAT t n) : (s.unreach t n).rd a = s.rd a := State.rd_put_other _ _ _ h

@[simp] theorem State.get_count_put_running (s : State) (t n v : Nat) : (s.put (F.TT_STAT_RUNNING t n) v).get (F.TT_CNT_COUNT t n) =
    s.get (F.TT_CNT_COUNT t n) := State.get_put_other _ _ _ _ (R.ttCnt_ne_ttStat t n)

/-- A count of 32 bits reads as it was set. -/
theorem State.get_count_put (s : State) (t n : Nat) {v : Nat} (hv : v ≤ 0xFFFFFFFF) : (s.put (F.TT_CNT_COUNT t n) v).get (F.TT_CNT_COUNT t n) = v := by
  rw [State.get_put_same _ _ _ (by dsimp only; omega)]
  exact Nat.mod_eq_of_lt (Nat.lt_succ_of_le hv)

/-! ### The commands (R224 to R226) -/

theorem State.ifTimerWriter_may {w t : Nat} (h : tileWriter w t = true) (f : State → State) : s.ifTimerWriter w t f = f s := if_pos h

theorem State.ifTimerWriter_mayNot {w t : Nat} (h : tileWriter w t = false) (f : State → State) : s.ifTimerWriter w t f = s :=
  if_neg (ne_true_of_eq_false h)

theorem exec_timerStart (s : State) (w : Fin 9) (t : Fin 8) (n : Fin 4) :
    exec (.timerStart w t n) s = .next (s.ifTimerWriter w t (·.cmdTimerStart t n)) := rfl
theorem exec_timerStop (s : State) (w : Fin 9) (t : Fin 8) (n : Fin 4) :
    exec (.timerStop w t n) s = .next (s.ifTimerWriter w t (·.cmdTimerStop t n)) := rfl
theorem exec_timerClear (s : State) (w : Fin 9) (t : Fin 8) (n : Fin 4) :
    exec (.timerClear w t n) s = .next (s.ifTimerWriter w t (·.cmdTimerClear t n)) := rfl
theorem exec_timerPerWrite (s : State) (w : Fin 9) (t : Fin 8) (n : Fin 4) (v : Word) :
    exec (.timerPerWrite w t n v) s = .next (s.ifTimerWriter w t (·.cmdTimerPer t n v)) := rfl
theorem exec_timerCmpWrite (s : State) (w : Fin 9) (t : Fin 8) (n : Fin 4) (v : Word) :
    exec (.timerCmpWrite w t n v) s = .next (s.ifTimerWriter w t (·.cmdTimerCmp t n v)) := rfl
theorem exec_timerMatch (s : State) (t : Fin 8) (n : Fin 4) : exec (.timerMatch t n) s = .next (s.timerMatch t n) := rfl
theorem exec_timerPeriodEnd (s : State) (t : Fin 8) (n : Fin 4) : exec (.timerPeriodEnd t n) s = .next (s.timerEnd t n) := rfl

/-- A write to PER leaves the timer's mode. -/
theorem State.isSet_perMode_wr_per (s : State) (t n : Nat) (v : Word) : (s.wr (R.TT_PER t n) v).isSet (F.TT_CFG_PER_MODE t n) =
    s.isSet (F.TT_CFG_PER_MODE t n) := by
  rw [State.isSet, State.isSet, State.get_wr_other _ _ _ (R.ttCfg_ne_ttPer t n)]

theorem State.cmdTimerPer_shadow {t n : Nat} (v : Word) (h : s.isSet (F.TT_CFG_PER_MODE t n) = false) :
    s.cmdTimerPer t n v = s.wr (R.TT_PER t n) v := if_neg (by rw [State.isSet_perMode_wr_per, h]; decide)

/-- With PER_MODE 1 PER is the timer's period at once. -/
theorem State.cmdTimerPer_atOnce {t n : Nat} (v : Word) (h : s.isSet (F.TT_CFG_PER_MODE t n) = true) :
    ∃ x : Timer, s.cmdTimerPer t n v = ((s.wr (R.TT_PER t n) v).setTimer t n x).unreach t n ∧ x.per = v.toNat :=
  ⟨_, if_pos (by rw [State.isSet_perMode_wr_per, h]), rfl⟩

theorem State.rd_cmdTimerPer (s : State) (t n : Nat) (v : Word) : (s.cmdTimerPer t n v).rd (R.TT_PER t n) = v := by
  cases h : s.isSet (F.TT_CFG_PER_MODE t n) with
  | false => rw [State.cmdTimerPer_shadow v h, State.rd_wr_same]
  | true =>
    obtain ⟨x, heq, -⟩ := State.cmdTimerPer_atOnce v h
    rw [heq, State.rd_unreach_other _ _ _ (R.ttPer_ne_ttStat t n), State.rd_setTimer, State.rd_wr_same]

/-- A write to CMP moves beside it STAT alone: CMP_UNREACH, and CMP_MISSED_NOW where CMP is the count. -/
theorem State.cmdTimerCmp_eq (s : State) (t n : Nat) (v : Word) : s.cmdTimerCmp t n v = (s.wr (R.TT_CMP t n) v).unreach t n ∨
    s.cmdTimerCmp t n v = ((s.wr (R.TT_CMP t n) v).unreach t n).put (F.TT_STAT_CMP_MISSED_NOW t n) 1 := by
  unfold State.cmdTimerCmp
  dsimp only
  split
  · exact .inr rfl
  · exact .inl rfl

theorem State.rd_cmdTimerCmp (s : State) (t n : Nat) (v : Word) : (s.cmdTimerCmp t n v).rd (R.TT_CMP t n) = v := by
  have hcmp : ((s.wr (R.TT_CMP t n) v).unreach t n).rd (R.TT_CMP t n) = v := by rw [State.rd_unreach_other _ _ _ (R.ttCmp_ne_ttStat t n), State.rd_wr_same]
  obtain h | h := s.cmdTimerCmp_eq t n v
  · rw [h, hcmp]
  · rw [h, State.rd_put_other _ _ _ (R.ttCmp_ne_ttStat t n), hcmp]

theorem State.cmdTimerCmp_mem (s : State) (t n : Nat) (v : Word) : (s.cmdTimerCmp t n v).mem = s.mem := by
  obtain h | h := s.cmdTimerCmp_eq t n v
  · rw [h, State.unreach, State.putB_mem, State.wr_mem]
  · rw [h, State.put_mem, State.unreach, State.putB_mem, State.wr_mem]

theorem State.cmdTimerCmp_timers (s : State) (t n : Nat) (v : Word) : (s.cmdTimerCmp t n v).timers = s.timers := by
  obtain h | h := s.cmdTimerCmp_eq t n v
  · rw [h, State.unreach_timers, State.wr_timers]
  · rw [h, State.put_timers, State.unreach_timers, State.wr_timers]

/-! ### Matches and period ends that act (R226, R227) -/

theorem State.timerMatch_due {t n : Nat} (h : (s.timer t n).matchDue = true) :
    s.timerMatch t n = (s.setTimer t n { s.timer t n with matchDue := false }).route t n false := if_pos h

theorem State.timerMatch_none {t n : Nat} (h : (s.timer t n).matchDue = false) : s.timerMatch t n = s := if_neg (ne_true_of_eq_false h)

theorem State.timerEnd_due {t n : Nat} (hend : (s.timer t n).endDue = true) (hmatch : (s.timer t n).matchDue = false) :
    s.timerEnd t n = (s.setTimer t n { s.timer t n with endDue := false }).route t n true := by
  rw [State.timerEnd, if_pos hend, State.timerMatch_none hmatch]

theorem State.timerEnd_none {t n : Nat} (h : (s.timer t n).endDue = false) : s.timerEnd t n = s := if_neg (ne_true_of_eq_false h)

/-! ### A count advance (R223, R225) -/

@[simp] theorem State.timer_newPeriod (s : State) (t n : Nat) : (s.newPeriod t n).timer t n =
    { s.timer t n with per := s.get (F.TT_PER_PER t n), endDue := true } := by
  rw [State.newPeriod, State.timer_unreach, State.timer_setTimer_same]

/-- Timer n with period `p` after an advance by `d`: nothing waits but the match that the count passes. -/
def State.timerPassed (s : State) (t n p d : Nat) : Timer :=
  { Timer.reset with per := p, matchDue := cmpPassed p (s.get (F.TT_CNT_COUNT t n)) d (s.get (F.TT_CMP_CMP t n)) }

theorem Timer.period_of_pos {x : Timer} (h : 0 < x.per) : x.period = x.per := if_neg (Nat.ne_of_gt h)

section
variable {t n : Nat} (hrest : s.timer t n = { Timer.reset with per := p })
include hrest

theorem State.timerTick_stopped (hstop : s.isSet (F.TT_STAT_RUNNING t n) = false) (d : Nat) :
    s.timerTick t n d = s.setTimer t n { Timer.reset with per := p } := by
  simp only [State.timerTick, hrest, Timer.reset, hstop, Bool.false_eq_true, if_false, Bool.false_and]

variable (hrun : s.isSet (F.TT_STAT_RUNNING t n) = true) (hp : 0 < p)
include hrun hp

/-- A running timer with no start, stop or truncation waiting counts below its period, ends there, or goes round. -/
theorem State.timerTick_runs (d : Nat) : s.timerTick t n d =
    let old := s.get (F.TT_CNT_COUNT t n)
    if old + d < p then (s.setTimer t n (s.timerPassed t n p d)).put (F.TT_CNT_COUNT t n) (old + d)
    else if s.isSet (F.TT_CFG_ONE_SHOT t n) then
      (((s.setTimer t n (s.timerPassed t n p (p - old))).newPeriod t n).put (F.TT_CNT_COUNT t n) 0).put (F.TT_STAT_RUNNING t n) 0
    else ((s.setTimer t n (s.timerPassed t n p d)).newPeriod t n).put (F.TT_CNT_COUNT t n) (old + d - p) := by
  have hperiod : ({ Timer.reset with per := p } : Timer).period = p := Timer.period_of_pos hp
  simp only [Timer.reset] at hperiod
  simp only [State.timerTick, State.timerPassed, hrest, Timer.reset, hrun, hperiod, Bool.false_eq_true, if_false, Bool.false_and, Bool.false_or, if_true]
end

/-- CMP lies in (old, new] modulo the period where a step passes it (R226). -/
theorem cmpPassed_iff {p old step cmp : Nat} (hold : old < p) (hstep : step ≤ p) :
    cmpPassed p old step cmp = true ↔ cmp < p ∧ ∃ j, 1 ≤ j ∧ j ≤ step ∧ (old + j) % p = cmp := by
  simp only [cmpPassed, Bool.and_eq_true, Bool.or_eq_true, decide_eq_true_eq]
  refine and_congr_right fun hcmp => ⟨?_, ?_⟩
  · rintro (⟨habove, hreached⟩ | hround)
    · exact ⟨cmp - old, by omega, by omega, by rw [Nat.add_sub_cancel' habove.le, Nat.mod_eq_of_lt hcmp]⟩
    · refine ⟨cmp + p - old, by omega, by omega, ?_⟩
      rw [Nat.add_sub_cancel' (by omega), Nat.add_mod_right, Nat.mod_eq_of_lt hcmp]
  · rintro ⟨j, hpos, hle, rfl⟩
    obtain hbelow | hround := Nat.lt_or_ge (old + j) p
    · rw [Nat.mod_eq_of_lt hbelow]
      omega
    · rw [Nat.mod_eq_sub_mod hround, Nat.mod_eq_of_lt (by omega)]
      omega

/-- Settles O35: a command does what its lemma says where its writer may give it, an advance is one of the cases of `timerTick_runs`, and CMP matches by
`cmpPassed_iff`. -/
theorem timerResults : Obligations.TimerResults := by
  refine ⟨fun s w t n v p d => ⟨fun hmay => ⟨?_, ?_, ?_, ?_, ?_⟩, fun hnot => ⟨?_, ?_, ?_, ?_, ?_⟩, fun hdue => ?_, fun hnone => ?_, fun hend hnone => ?_,
    fun hnone => ?_, fun hrest hstop => ?_, fun hrest hrun hp hmax hd hcount => ⟨fun hbelow => ?_, fun hreach hmode => ?_, fun hreach hmode => ?_⟩⟩,
    fun p old step cmp => cmpPassed_iff⟩
  · rw [exec_timerStart, State.ifTimerWriter_may hmay, State.cmdTimerStart]
  · rw [exec_timerStop, State.ifTimerWriter_may hmay, State.cmdTimerStop]
  · rw [exec_timerClear, State.ifTimerWriter_may hmay, State.cmdTimerClear]
  · refine ⟨_, by rw [exec_timerPerWrite, State.ifTimerWriter_may hmay], s.rd_cmdTimerPer t n v, State.cmdTimerPer_shadow v, fun hmode => ?_⟩
    obtain ⟨x, heq, hper⟩ := State.cmdTimerPer_atOnce v hmode
    rw [heq, State.timer_unreach, State.timer_setTimer_same, hper]
  · exact ⟨_, by rw [exec_timerCmpWrite, State.ifTimerWriter_may hmay], s.rd_cmdTimerCmp t n v, s.cmdTimerCmp_mem t n v, s.cmdTimerCmp_timers t n v⟩
  · rw [exec_timerStart, State.ifTimerWriter_mayNot hnot]
  · rw [exec_timerStop, State.ifTimerWriter_mayNot hnot]
  · rw [exec_timerClear, State.ifTimerWriter_mayNot hnot]
  · rw [exec_timerPerWrite, State.ifTimerWriter_mayNot hnot]
  · rw [exec_timerCmpWrite, State.ifTimerWriter_mayNot hnot]
  · rw [exec_timerMatch, State.timerMatch_due hdue]
  · rw [exec_timerMatch, State.timerMatch_none hnone]
  · rw [exec_timerPeriodEnd, State.timerEnd_due hend hnone]
  · rw [exec_timerPeriodEnd, State.timerEnd_none hnone]
  · rw [State.timerTick_stopped hrest hstop, State.get_setTimer]
  · rw [State.timerTick_runs hrest hrun hp, if_pos hbelow, State.get_count_put _ _ _ (by omega), State.timer_put, State.timer_setTimer_same]
    exact ⟨rfl, rfl⟩
  · rw [State.timerTick_runs hrest hrun hp, if_neg (Nat.not_lt_of_le hreach), if_neg (ne_true_of_eq_false hmode), State.get_count_put _ _ _ (by omega),
      State.timer_put, State.timer_newPeriod]
    exact ⟨rfl, rfl⟩
  · rw [State.timerTick_runs hrest hrun hp, if_neg (Nat.not_lt_of_le hreach), if_pos hmode, State.get_count_put_running, State.get_count_put _ _ _ (by omega),
      State.get_put_same _ _ _ (by dsimp only; omega), State.timer_put, State.timer_put, State.timer_newPeriod]
    exact ⟨rfl, rfl, rfl⟩

end Sys2Proof.Machine
end

section
/-! SUPPORT. Entry slots, the action table's entries and the outputs' faults (chapter 08), and the statement O36. -/

namespace Sys2Proof.Machine

variable {s : State} {slot : Fin 9} {ctl : Word} {a : Fin 512} {n : Fin 24} {level : Bool} {r : Retry}

/-! ### Entry slots (R230) -/

theorem exec_actEnterGo (s : State) (w slot : Fin 9) (ctl : Word) : exec (.actEnterGo w slot ctl) s = .next (s.cmdEnter w slot ctl) := rfl

theorem State.cmdEnter_other {w m : Nat} (h : w ≠ m) (ctl : Word) : s.cmdEnter w m ctl = s := if_neg h

/-- A write to CTL leaves the slot's BUSY. -/
theorem State.isSet_busy_wr_ctl (s : State) (m : Nat) (v : Word) : (s.wr (R.ACT_ENTER_CTL m) v).isSet (F.ACT_ENTER_RES_BUSY m) =
    s.isSet (F.ACT_ENTER_RES_BUSY m) := by
  have hapart : R.ACT_ENTER_RES m ≠ R.ACT_ENTER_CTL m := by simp only [R.ACT_ENTER_RES, R.ACT_ENTER_CTL]; omega
  rw [State.isSet, State.isSet, State.get_wr_other _ _ _ hapart]

/-- Without GO, or with the slot busy, a write to CTL sets its fields alone. -/
theorem State.cmdEnter_fields {m : Nat} (h : ctl.getLsbD 31 = false ∨ s.isSet (F.ACT_ENTER_RES_BUSY m) = true) :
    s.cmdEnter m m ctl = s.wr (R.ACT_ENTER_CTL m) (ctl &&& 0x1FFFF#32) := by
  refine (if_pos rfl).trans (if_pos ?_)
  rw [State.isSet_busy_wr_ctl]
  obtain h | h := h
  · rw [h]; rfl
  · rw [h, Bool.or_true]

theorem State.cmdEnter_go {m : Nat} (hgo : ctl.getLsbD 31 = true) (hidle : s.isSet (F.ACT_ENTER_RES_BUSY m) = false) :
    let u := s.wr (R.ACT_ENTER_CTL m) (ctl &&& 0x1FFFF#32)
    s.cmdEnter m m ctl = if u.isSet (F.ACT_ENTER_CTL_SELF m) || u.get (F.ACT_ENTER_CTL_ADDR m) == s.line then u.slotOwn m else u.slotHerd m :=
  (if_pos rfl).trans (if_neg (by rw [State.isSet_busy_wr_ctl, hgo, hidle]; decide))

/-! ### Entries of the table (R232, R233) -/

@[simp] theorem State.act_setAct_same (s : State) (n : Nat) (x : ActEntry) : (s.setAct n x).act n = x := by simp [State.act, State.setAct]

/-- The last estimate of a waiting entry becomes final from 2,000 ns before its launch instant on. -/
def State.entryFixes (s : State) (a : Nat) : Prop := (s.act a).state = 1 ∧ (s.act a).est = true ∧ (s.act a).launchLt ≤ s.lt + 2000

theorem exec_entryFix_due (h : s.entryFixes a) : exec (.entryFix a) s = .next (s.setAct a { s.act a with state := 2 }) := if_pos h

theorem exec_entryFix_not (h : ¬ s.entryFixes a) : exec (.entryFix a) s = .next s := if_neg h

theorem exec_launch_due (hfixed : (s.act a).state = 2) (hdue : (s.act a).launchLt ≤ s.lt) :
    exec (.launch a) s = .next (s.execute a (s.act a).late) := if_pos ⟨hfixed, hdue⟩

theorem exec_launch_early (h : s.lt < (s.act a).launchLt) : exec (.launch a) s = .next s := if_neg fun ⟨_, hdue⟩ => Nat.not_le_of_lt h hdue

theorem exec_retryOutcomeSettle (h : (s.outSt n).retry = some r) : exec (.retryOutcomeSettle n) s =
    if r.edgeLt + 100000 ≤ s.lt then
      let oc := if (s.outSt n).off then ocOutputFault else if r.entry.late then ocLate else ocOnTime
      let u := s.setOut n { s.outSt n with retry := none }
      let u := if (s.outSt n).off then u else u.clearBit F.OUT_FAULT_FAULT n
      .next ((u.settleCount oc).retryRecord n oc r)
    else .next s := by
  change execRetryOutcomeSettle n s = _
  rw [execRetryOutcomeSettle, h]

theorem exec_retryOutcomeSettle_none (h : (s.outSt n).retry = none) : exec (.retryOutcomeSettle n) s = .next s := by
  change execRetryOutcomeSettle n s = _
  rw [execRetryOutcomeSettle, h]

/-! ### The outputs' faults (R237) -/

theorem exec_outputOvercurrent_on (hout : n.val < 16) (hon : s.contact n = true) :
    let u := (s.setBit F.OUT_FAULT_FAULT n).put F.OUT_EVT_OVERCURRENT_SEEN 1
    exec (.outputOvercurrent n) s = .next (((u.setOut n { u.outSt n with off := true }).drive).outFault n ofOvercurrent) := if_pos ⟨hout, hon⟩

theorem exec_outputOvercurrent_not (h : ¬ (n.val < 16 ∧ s.contact n = true)) : exec (.outputOvercurrent n) s = .next s := if_neg h

/-- OUT_PIN shows `level` at output `m`. -/
def State.pinShown (s : State) (m : Nat) (level : Bool) : State := if level then s.setBit F.OUT_PIN_PIN m else s.clearBit F.OUT_PIN_PIN m

theorem State.bit_pinShown_pin (s : State) {m : Nat} (hm : m < 24) (level : Bool) : (s.pinShown m level).bit F.OUT_PIN_PIN m = level := by
  cases level with
  | true => exact s.bit_setBit_same F.OUT_PIN_PIN hm (by decide)
  | false => exact s.bit_clearBit_same F.OUT_PIN_PIN m (by decide)

theorem State.get_pinShown_other (s : State) (m : Nat) (level : Bool) {f : Fld} (h : f.addr ≠ R.OUT_PIN) : (s.pinShown m level).get f = s.get f := by
  cases level with
  | true => exact State.get_put_other _ _ _ _ h
  | false => exact State.get_put_other _ _ _ _ h

theorem State.bit_pinShown_other (s : State) (m : Nat) (level : Bool) {f : Fld} (i : Nat) (h : f.addr ≠ R.OUT_PIN) :
    (s.pinShown m level).bit f i = s.bit f i := by rw [State.bit, State.bit, s.get_pinShown_other m level h]

theorem State.noSupply_pinShown (s : State) (m : Nat) (level : Bool) : (s.pinShown m level).noSupply = s.noSupply := by
  rw [State.noSupply, State.noSupply, State.isSet, State.isSet, s.get_pinShown_other m level (by decide)]

/-- A readback in its time shows the level in OUT_PIN; one that is not as commanded is a fault, but for a fault told already and for an output without
OUT_24V. -/
theorem exec_outputReadbackCheck_inTime (htime : s.readbackTime n = true) (level : Bool) : exec (.outputReadbackCheck n level) s =
    if level = s.bit F.OUT_LEVEL_LEVEL n ∨ s.bit F.OUT_FAULT_FAULT n = true ∨ (n.val < 16 ∧ s.noSupply = true) then .next (s.pinShown n level)
    else .next ((((s.pinShown n level).setBit F.OUT_FAULT_FAULT n).put F.OUT_EVT_READBACK_SEEN 1).outFault n ofReadback) := by
  have hrun : exec (.outputReadbackCheck n level) s =
      if level = (s.pinShown n level).bit F.OUT_LEVEL_LEVEL n ∨ (s.pinShown n level).bit F.OUT_FAULT_FAULT n = true ∨
        (n.val < 16 ∧ (s.pinShown n level).noSupply = true) then .next (s.pinShown n level)
      else .next ((((s.pinShown n level).setBit F.OUT_FAULT_FAULT n).put F.OUT_EVT_READBACK_SEEN 1).outFault n ofReadback) := if_pos htime
  rw [hrun, State.bit_pinShown_other _ _ _ _ (by decide), State.bit_pinShown_other _ _ _ _ (by decide), State.noSupply_pinShown]

theorem exec_outputReadbackCheck_early (h : s.readbackTime n = false) (level : Bool) : exec (.outputReadbackCheck n level) s = .next s :=
  if_neg (ne_true_of_eq_false h)

/-! ### OUT_24V (R40, R237) -/

theorem exec_outSupplyLow_falls (h : s.noSupply = false) : exec .outSupplyLow s =
    .next ((((s.put F.OUT_FAULT_NO_SUPPLY 1).put F.OUT_EVT_NO_SUPPLY_SEEN 1).drive).outFault 0 ofNoSupply) := if_neg (ne_true_of_eq_false h)

theorem exec_outSupplyLow_again (h : s.noSupply = true) : exec .outSupplyLow s = .next s := if_pos h

theorem State.outOn_noSupply {m : Nat} (h : s.noSupply = true) (hm : m < 16) : s.outOn m = false := by
  rw [State.outOn, State.contact, h, decide_eq_true hm, Bool.and_self, Bool.not_true, Bool.and_false, Bool.false_and]

theorem State.encSupply_noSupply (h : s.noSupply = true) : s.encSupply = false := by
  rw [State.encSupply, h, Bool.not_true, Bool.and_false, Bool.false_and]

theorem State.noSupply_drive (s : State) : s.drive.noSupply = s.noSupply := by
  rw [State.noSupply, State.noSupply, State.isSet, State.isSet, State.drive, State.get_pins_other _ _ (by decide)]

theorem exec_outSupplyReturn (s : State) : exec .outSupplyReturn s = .next (s.put F.OUT_FAULT_NO_SUPPLY 0).drive := rfl

/-- Settles O36: each clause is what a command of the table or the outputs does once its condition holds, or that it does nothing. -/
theorem actionsAndOutputs : Obligations.ActionsAndOutputs := by
  intro s w slot ctl a n level r
  refine ⟨fun hother => ?_, fun hquiet => ?_, fun _ hbusy => ?_, fun hgo hidle => ?_, fun hwait hest hnear => ?_, fun hstate => ?_, fun hearly => ?_,
    exec_launch_due, exec_launch_early, fun hretry hdue => ?_, exec_retryOutcomeSettle_none, fun hretry hearly => ?_, exec_outputOvercurrent_on,
    fun hfout => ?_, fun hoff => ?_, fun htime hsame => ?_, fun htime hdiffers hfault hsupply => ?_, fun htime => exec_outputReadbackCheck_early htime level,
    exec_outSupplyLow_falls, fun hmissing => ⟨exec_outSupplyLow_again hmissing, State.outOn_noSupply hmissing, State.encSupply_noSupply hmissing⟩,
    ⟨_, exec_outSupplyReturn s, rfl, ?_⟩⟩
  · rw [exec_actEnterGo, State.cmdEnter_other (Fin.val_ne_of_ne hother)]
  · rw [exec_actEnterGo, State.cmdEnter_fields (.inl hquiet)]
  · rw [exec_actEnterGo, State.cmdEnter_fields (.inr hbusy)]
  · rw [exec_actEnterGo, State.cmdEnter_go hgo hidle]
  · exact ⟨_, exec_entryFix_due ⟨hwait, hest, hnear⟩, rfl, by rw [State.act_setAct_same]⟩
  · exact exec_entryFix_not fun ⟨hwait, _, _⟩ => hstate hwait
  · exact exec_entryFix_not fun ⟨_, _, hnear⟩ => Nat.not_le_of_lt hearly hnear
  · rw [exec_retryOutcomeSettle hretry, if_pos hdue]
  · rw [exec_retryOutcomeSettle hretry, if_neg (Nat.not_le_of_lt hearly)]
  · exact exec_outputOvercurrent_not fun ⟨hout, _⟩ => Nat.not_le_of_lt hout hfout
  · exact exec_outputOvercurrent_not fun ⟨_, hon⟩ => ne_true_of_eq_false hoff hon
  · exact ⟨_, by rw [exec_outputReadbackCheck_inTime htime, if_pos (.inl hsame)], s.bit_pinShown_pin n.isLt level, s.get_pinShown_other n level (by decide)⟩
  · have hfaults : ¬ (level = s.bit F.OUT_LEVEL_LEVEL n ∨ s.bit F.OUT_FAULT_FAULT n = true ∨ (n.val < 16 ∧ s.noSupply = true)) := by
      rintro (hsame | htold | ⟨hout, hmissing⟩)
      · exact hdiffers hsame
      · exact ne_true_of_eq_false hfault htold
      · exact hsupply.elim (Nat.not_le_of_lt hout) (ne_true_of_eq_false · hmissing)
    rw [exec_outputReadbackCheck_inTime htime, if_neg hfaults]
    rfl
  · rw [State.noSupply_drive, State.noSupply, State.isSet, State.get_put_same _ _ _ (by decide)]
    rfl

end Sys2Proof.Machine
end

section
/-! SUPPORT. What every command keeps: a property that the updates a command may make keep, the canonical form of the state's tables (R249), and cores that
only gain pending bits (R270). The statements O57 and O59. -/

namespace Sys2Proof.Machine

/-! ### Every command keeps what its updates keep -/

/-- A Filsy instruction keeps every property that updates of memory and cores keep. -/
theorem exec_filsy_leads {K : Keep} [K.Mem] [K.Cores] {i : Instr} {c : Fin 9} {s : State} (hi : i.filsyCore = some c) (hs : K.P s) : Leads K (exec i s) := by
  cases i with
  | add c d a b k => exact execAdd_leads c d a b k s hs
  | adc c d a b k => exact execAdc_leads c d a b k s hs
  | sub c d a b k => exact execSub_leads c d a b k s hs
  | sbc c d a b k => exact execSbc_leads c d a b k s hs
  | adds c d a b k => exact execAdds_leads c d a b k s hs
  | subs c d a b k => exact execSubs_leads c d a b k s hs
  | neg c d a b k => exact execNeg_leads c d a b k s hs
  | negs c d a b k => exact execNegs_leads c d a b k s hs
  | andI c d a b k => exact execAndI_leads c d a b k s hs
  | orI c d a b k => exact execOrI_leads c d a b k s hs
  | xor c d a b k => exact execXor_leads c d a b k s hs
  | andn c d a b k => exact execAndn_leads c d a b k s hs
  | minI c d a b k => exact execMinI_leads c d a b k s hs
  | maxI c d a b k => exact execMaxI_leads c d a b k s hs
  | minu c d a b k => exact execMinu_leads c d a b k s hs
  | maxu c d a b k => exact execMaxu_leads c d a b k s hs
  | abs c d a b k => exact execAbs_leads c d a b k s hs
  | abss c d a b k => exact execAbss_leads c d a b k s hs
  | sextb c d a b k => exact execSextb_leads c d a b k s hs
  | sexth c d a b k => exact execSexth_leads c d a b k s hs
  | clz c d a b k => exact execClz_leads c d a b k s hs
  | popc c d a b k => exact execPopc_leads c d a b k s hs
  | sel c d a b k => exact execSel_leads c d a b k s hs
  | addi c d a imm => exact execAddi_leads c d a imm s hs
  | subi c d a imm => exact execSubi_leads c d a imm s hs
  | andi c d a imm => exact execAndi_leads c d a imm s hs
  | ori c d a imm => exact execOri_leads c d a imm s hs
  | xori c d a imm => exact execXori_leads c d a imm s hs
  | lui c d imm => exact execLui_leads c d imm s hs
  | shl c d a b k byK => exact execShl_leads c d a b k byK s hs
  | shr c d a b k byK => exact execShr_leads c d a b k byK s hs
  | sar c d a b k byK => exact execSar_leads c d a b k byK s hs
  | ror c d a b k byK => exact execRor_leads c d a b k byK s hs
  | rol c d a b k byK => exact execRol_leads c d a b k byK s hs
  | shls c d a b k byK => exact execShls_leads c d a b k byK s hs
  | mul c d a b k => exact execMul_leads c d a b k s hs
  | mulh c d a b k => exact execMulh_leads c d a b k s hs
  | mulhu c d a b k => exact execMulhu_leads c d a b k s hs
  | mac c d a b k => exact execMac_leads c d a b k s hs
  | macs c d a b k => exact execMacs_leads c d a b k s hs
  | mulq c d a b k => exact execMulq_leads c d a b k s hs
  | macq c d a b k => exact execMacq_leads c d a b k s hs
  | dotq c d a b k => exact execDotq_leads c d a b k s hs
  | divI c d a b k => exact execDivI_leads c d a b k s hs
  | divu c d a b k => exact execDivu_leads c d a b k s hs
  | rem c d a b k => exact execRem_leads c d a b k s hs
  | remu c d a b k => exact execRemu_leads c d a b k s hs
  | ldw c d a imm => exact execLdw_leads c d a imm s hs
  | ldh c d a imm => exact execLdh_leads c d a imm s hs
  | ldhu c d a imm => exact execLdhu_leads c d a imm s hs
  | ldb c d a imm => exact execLdb_leads c d a imm s hs
  | ldbu c d a imm => exact execLdbu_leads c d a imm s hs
  | stw c d a imm => exact execStw_leads c d a imm s hs
  | sth c d a imm => exact execSth_leads c d a imm s hs
  | stb c d a imm => exact execStb_leads c d a imm s hs
  | ldwp c d a imm => exact execLdwp_leads c d a imm s hs
  | stwp c d a imm => exact execStwp_leads c d a imm s hs
  | ldhp c d a imm => exact execLdhp_leads c d a imm s hs
  | sthp c d a imm => exact execSthp_leads c d a imm s hs
  | push c d a b k => exact execPush_leads c d a b k s hs
  | pop c d a b k => exact execPop_leads c d a b k s hs
  | b c cond off => exact execB_leads c cond off s hs
  | call c cond off => exact execCall_leads c cond off s hs
  | jr c d a b k => exact execJr_leads c d a b k s hs
  | callr c d a b k => exact execCallr_leads c d a b k s hs
  | ret c d a b k => exact execRet_leads c d a b k s hs
  | rpti c d imm => exact execRpti_leads c d imm s hs
  | rptr c rest => exact execRptr_leads c rest s hs
  | nop c d a b k => exact execNop_leads c d a b k s hs
  | mfs c d a b k => exact execMfs_leads c d a b k s hs
  | mts c d a b k => exact execMts_leads c d a b k s hs
  | eret c d a b k => exact execEret_leads c d a b k s hs
  | wait c d a b k => exact execWait_leads c d a b k s hs
  | brk c d a b k => exact execBrk_leads c d a b k s hs
  | ei c d a b k => exact execEi_leads c d a b k s hs
  | di c d a b k => exact execDi_leads c d a b k s hs
  | fence c d a b k => exact execFence_leads c d a b k s hs
  | _ => exact absurd hi (Option.some_ne_none c).symm

/-- A command keeps every property that the updates open to it keep: memory is open to the commands that may store, cores and their resets to those that may
move cores. -/
theorem exec_leads {K : Keep} {i : Instr} {s : State} (hmem : i.mayStore = true → K.Mem) (hcores : i.mayMoveCores = true → K.Cores)
    (hresets : i.mayMoveCores = true → K.Resets) (hs : K.P s) : Leads K (exec i s) := by
  cases hfilsy : i.filsyCore with
  | some c =>
    have hsome : i.filsyCore.isSome = true := by rw [hfilsy]; rfl
    have := hmem (Bool.or_eq_true_iff.2 (.inl hsome))
    have := hcores (Bool.or_eq_true_iff.2 (.inl hsome))
    exact exec_filsy_leads hfilsy hs
  | none => ?_
  cases i with
  | eventEntry c => exact @execEventEntry_leads K (hcores rfl) c s hs
  | waitEnd c => exact @execWaitEnd_leads K (hcores rfl) c s hs
  | postedStoreDone c i => exact @execPostedStoreDone_leads K (hmem rfl) (hcores rfl) c i s hs
  | registerWrite c addr value => exact @execRegisterWrite_leads K (hmem rfl) (hcores rfl) c addr value s hs
  | supplyValid => exact execSupplyValid_leads s hs
  | aonRailGood => exact execAonRailGood_leads s hs
  | resonatorOscillating => exact execResonatorOscillating_leads s hs
  | railsGood => exact execRailsGood_leads s hs
  | resonatorStable => exact execResonatorStable_leads s hs
  | pllLock => exact execPllLock_leads s hs
  | memoryRepairLoaded => exact execMemoryRepairLoaded_leads s hs
  | memoryInitDone => exact @execMemoryInitDone_leads K (hresets rfl) s hs
  | scrubBaselineDone found => exact execScrubBaselineDone_leads found s hs
  | logicRelease => exact @execLogicRelease_leads K (hmem rfl) (hcores rfl) s hs
  | keyLoadEntry present => exact @execKeyLoadEntry_leads K (hmem rfl) (hcores rfl) present s hs
  | bringupFail => exact execBringupFail_leads s hs
  | bringupRetry => exact execBringupRetry_leads s hs
  | aonRailCycle => exact execAonRailCycle_leads s hs
  | warmReset => exact @execWarmReset_leads K (hresets rfl) s hs
  | pllLockLost => exact @execPllLockLost_leads K (hmem rfl) (hcores rfl) s hs
  | pllRelockTimeout => exact execPllRelockTimeout_leads s hs
  | holdTimeout => exact execHoldTimeout_leads s hs
  | refMeasure ppb => exact execRefMeasure_leads ppb s hs
  | walkEnd => exact execWalkEnd_leads s hs
  | beaconListenEnd => exact execBeaconListenEnd_leads s hs
  | formSend => exact execFormSend_leads s hs
  | formingEnd => exact @execFormingEnd_leads K (hmem rfl) s hs
  | beaconSend frac => exact execBeaconSend_leads frac s hs
  | beaconRx portB f how frac resid => exact @execBeaconRx_leads K (hmem rfl) portB f how frac resid s hs
  | beaconLoss => exact execBeaconLoss_leads s hs
  | claimRx portB f how => exact execClaimRx_leads portB f how s hs
  | formRx portB f how => exact execFormRx_leads portB f how s hs
  | deputyTakeover => exact execDeputyTakeover_leads s hs
  | portAligned portB => exact execPortAligned_leads portB s hs
  | portNoSignal portB => exact execPortNoSignal_leads portB s hs
  | portCrossed portB => exact execPortCrossed_leads portB s hs
  | calRx portB f how stamp => exact execCalRx_leads portB f how stamp s hs
  | calTurnaround portB => exact execCalTurnaround_leads portB s hs
  | pulseSend portB frac => exact execPulseSend_leads portB frac s hs
  | pulseRx portB f how frac => exact execPulseRx_leads portB f how frac s hs
  | portDown portB => exact execPortDown_leads portB s hs
  | actionRx portB f how => exact execActionRx_leads portB f how s hs
  | herdAckRx portB f how => exact execHerdAckRx_leads portB f how s hs
  | actionRetry req => exact execActionRetry_leads req s hs
  | recordRx portB f how => exact execRecordRx_leads portB f how s hs
  | subscriptionExpiry n => exact @execSubscriptionExpiry_leads K (hmem rfl) n s hs
  | laneDecision n => exact execLaneDecision_leads n s hs
  | modClockUprange k => exact execModClockUprange_leads k s hs
  | scheduledReset k cycle r => exact execScheduledReset_leads k cycle r s hs
  | chCmdReset w k r => exact execChCmdReset_leads w k r s hs
  | quietWindowEnd k since r => exact execQuietWindowEnd_leads k since r s hs
  | blankEnd k => exact execBlankEnd_leads k s hs
  | sampleEmit k r => exact @execSampleEmit_leads K (hmem rfl) k r s hs
  | mainsSenseEdge => exact execMainsSenseEdge_leads s hs
  | mainsSourceFallback t => exact execMainsSourceFallback_leads t s hs
  | mainsLock t mHz => exact execMainsLock_leads t mHz s hs
  | mainsUnlock t peak => exact execMainsUnlock_leads t peak s hs
  | scanStart c => exact execScanStart_leads c s hs
  | scanStepBoundary c => exact @execScanStepBoundary_leads K (hmem rfl) c s hs
  | dischargeStart c rs => exact execDischargeStart_leads c rs s hs
  | dischargeEnd c => exact execDischargeEnd_leads c s hs
  | newSwitchesClose c => exact execNewSwitchesClose_leads c s hs
  | switchingSequenceEnd c => exact execSwitchingSequenceEnd_leads c s hs
  | excCheck rs => exact execExcCheck_leads rs s hs
  | sourceRetry c n => exact execSourceRetry_leads c n s hs
  | leadMeasurementStart c i cycle => exact execLeadMeasurementStart_leads c i cycle s hs
  | leadBaselineEnd c nv => exact execLeadBaselineEnd_leads c nv s hs
  | leadSourceJoin c => exact execLeadSourceJoin_leads c s hs
  | leadIntegrationStart c => exact execLeadIntegrationStart_leads c s hs
  | leadIntegrationEnd c nv cm => exact execLeadIntegrationEnd_leads c nv cm s hs
  | leadMeasurementEnd c => exact execLeadMeasurementEnd_leads c s hs
  | cjUpdate c r => exact execCjUpdate_leads c r s hs
  | captureEdge cs => exact @execCaptureEdge_leads K (hmem rfl) cs s hs
  | captureRecordClose u => exact execCaptureRecordClose_leads u s hs
  | encoderStopped e => exact execEncoderStopped_leads e s hs
  | pointArrival t src => exact @execPointArrival_leads K (hmem rfl) t src s hs
  | foldWaitExpiry t i => exact @execFoldWaitExpiry_leads K (hmem rfl) t i s hs
  | closeWaitExpiry t g => exact @execCloseWaitExpiry_leads K (hmem rfl) t g s hs
  | maxCycleTimeout t g => exact @execMaxCycleTimeout_leads K (hmem rfl) t g s hs
  | cycleSourceLoss t g => exact @execCycleSourceLoss_leads K (hmem rfl) t g s hs
  | judgementEnd t => exact @execJudgementEnd_leads K (hmem rfl) t s hs
  | teach w t g => exact @execTeach_leads K (hmem rfl) w t g s hs
  | teachEnd w t g => exact execTeachEnd_leads w t g s hs
  | envEntryWrite w t e high value => exact execEnvEntryWrite_leads w t e high value s hs
  | timerStart w t n => exact execTimerStart_leads w t n s hs
  | timerStop w t n => exact execTimerStop_leads w t n s hs
  | timerClear w t n => exact execTimerClear_leads w t n s hs
  | timerPerWrite w t n v => exact execTimerPerWrite_leads w t n v s hs
  | timerCmpWrite w t n v => exact execTimerCmpWrite_leads w t n v s hs
  | timerPeriodEnd t n => exact execTimerPeriodEnd_leads t n s hs
  | timerMatch t n => exact execTimerMatch_leads t n s hs
  | actEnterGo w slot ctl => exact execActEnterGo_leads w slot ctl s hs
  | entryFix a => exact execEntryFix_leads a s hs
  | launch a => exact execLaunch_leads a s hs
  | retryOutcomeSettle n => exact execRetryOutcomeSettle_leads n s hs
  | outputOvercurrent n => exact execOutputOvercurrent_leads n s hs
  | outputReadbackCheck n level => exact execOutputReadbackCheck_leads n level s hs
  | outSupplyLow => exact execOutSupplyLow_leads s hs
  | outSupplyReturn => exact execOutSupplyReturn_leads s hs
  | scrubLine m upset => exact @execScrubLine_leads K (hmem rfl) (hcores rfl) m upset s hs
  | queueResetEnd q => exact execQueueResetEnd_leads q s hs
  | pendingGapWrite q => exact execPendingGapWrite_leads q s hs
  | queuePush w q addr => exact execQueuePush_leads w q addr s hs
  | queuePushDone q => exact @execQueuePushDone_leads K (hmem rfl) (hcores rfl) q s hs
  | queuePop w q addr => exact execQueuePop_leads w q addr s hs
  | queuePopDone q => exact @execQueuePopDone_leads K (hmem rfl) q s hs
  | ladleRecordMove l d upset => exact @execLadleRecordMove_leads K (hmem rfl) (hcores rfl) l d upset s hs
  | ladleRun w l d => exact execLadleRun_leads w l d s hs
  | ladleRunEnd l d => exact execLadleRunEnd_leads l d s hs
  | ladleGapWrite l dest => exact @execLadleGapWrite_leads K (hmem rfl) l dest s hs
  | ringPointerWrite w l d read value => exact execRingPointerWrite_leads w l d read value s hs
  | keyInsert => exact @execKeyInsert_leads K (hmem rfl) (hcores rfl) s hs
  | keyRemove => exact @execKeyRemove_leads K (hmem rfl) (hcores rfl) s hs
  | keyReadStart scl sda => exact @execKeyReadStart_leads K (hmem rfl) (hcores rfl) scl sda s hs
  | keyBlockReadEnd bytes => exact @execKeyBlockReadEnd_leads K (hmem rfl) (hcores rfl) bytes s hs
  | keyReadFail got => exact @execKeyReadFail_leads K (hmem rfl) (hcores rfl) got s hs
  | signatureCheckEnd => exact @execSignatureCheckEnd_leads K (hmem rfl) (hcores rfl) s hs
  | keyChecksEnd => exact @execKeyChecksEnd_leads K (hmem rfl) (hcores rfl) s hs
  | keyCommitEnd => exact @execKeyCommitEnd_leads K (hmem rfl) (hcores rfl) s hs
  | coresStart => exact @execCoresStart_leads K (hmem rfl) (hcores rfl) s hs
  | stage w => exact @execStage_leads K (hmem rfl) (hcores rfl) w s hs
  | keyPowerCycle w => exact execKeyPowerCycle_leads w s hs
  | keyCmdChangeover w => exact execKeyCmdChangeover_leads w s hs
  | keyPortHang cause got => exact @execKeyPortHang_leads K (hmem rfl) (hcores rfl) cause got s hs
  | twGo w p ctl => exact execTwGo_leads w p ctl s hs
  | twPowerCycle w p ctl => exact execTwPowerCycle_leads w p ctl s hs
  | twTransferEnd p result n data => exact execTwTransferEnd_leads p result n data s hs
  | twStretchTimeout p n => exact execTwStretchTimeout_leads p n s hs
  | twIdleCheck p scl sda => exact execTwIdleCheck_leads p scl sda s hs
  | twSupplyTrip p => exact @execTwSupplyTrip_leads K (hmem rfl) (hcores rfl) p s hs
  | twCycleSupplyOn p => exact execTwCycleSupplyOn_leads p s hs
  | twCycleSample p scl sda => exact @execTwCycleSample_leads K (hmem rfl) (hcores rfl) p scl sda s hs
  | twPortStart p scl sda => exact execTwPortStart_leads p scl sda s hs
  | linkUp gig => exact execLinkUp_leads gig s hs
  | linkDown => exact execLinkDown_leads s hs
  | arpRx p => exact execArpRx_leads p s hs
  | arpDefend => exact execArpDefend_leads s hs
  | addrConflictClear => exact execAddrConflictClear_leads s hs
  | arpCacheTimeout i => exact execArpCacheTimeout_leads i s hs
  | echoRequest f x => exact execEchoRequest_leads f x s hs
  | openSession dg window raw prev => exact execOpenSession_leads dg window raw prev s hs
  | hostAck dg cum window entries => exact execHostAck_leads dg cum window entries s hs
  | closeSession dg => exact execCloseSession_leads dg s hs
  | logRead dg req arg0 arg1 resv => exact execLogRead_leads dg req arg0 arg1 resv s hs
  | health dg req form => exact execHealth_leads dg req form s hs
  | reload dg req resv => exact @execReload_leads K (hmem rfl) (hcores rfl) dg req resv s hs
  | hostReqChangeover dg req resv => exact @execHostReqChangeover_leads K (hmem rfl) (hcores rfl) dg req resv s hs
  | heartbeat => exact execHeartbeat_leads s hs
  | sessionIdle => exact execSessionIdle_leads s hs
  | batchClose raw => exact execBatchClose_leads raw s hs
  | dataSend => exact execDataSend_leads s hs
  | retransmit => exact execRetransmit_leads s hs
  | parkExpiry => exact @execParkExpiry_leads K (hmem rfl) s hs
  | hostCmdWake w => exact execHostCmdWake_leads w s hs
  | hostCmdClose w => exact execHostCmdClose_leads w s hs
  | magicPacketRepeat => exact execMagicPacketRepeat_leads s hs
  | hostWakeRelease => exact execHostWakeRelease_leads s hs
  | wakeRepeat => exact execWakeRepeat_leads s hs
  | pwrGo w => exact execPwrGo_leads w s hs
  | domainRaised n => exact execDomainRaised_leads n s hs
  | domainAgree => exact execDomainAgree_leads s hs
  | domainStop => exact @execDomainStop_leads K (hmem rfl) (hcores rfl) s hs
  | agreeTimeout => exact execAgreeTimeout_leads s hs
  | wakeSourceFire src unit => exact execWakeSourceFire_leads src unit s hs
  | wakeTaken => exact execWakeTaken_leads s hs
  | timeRestart => exact execTimeRestart_leads s hs
  | hubWakeOn => exact @execHubWakeOn_leads K (hmem rfl) (hcores rfl) s hs
  | supplyLinkPoll => exact execSupplyLinkPoll_leads s hs
  | supplyLinkAck frame => exact @execSupplyLinkAck_leads K (hmem rfl) (hcores rfl) (hresets rfl) frame s hs
  | supplyLinkTimeout => exact @execSupplyLinkTimeout_leads K (hmem rfl) (hcores rfl) s hs
  | statusPoll => exact execStatusPoll_leads s hs
  | railRead => exact execRailRead_leads s hs
  | stageWatchdog => exact execStageWatchdog_leads s hs
  | sagThreshold deep => exact execSagThreshold_leads deep s hs
  | throttleRelease toOne => exact execThrottleRelease_leads toOne s hs
  | throttleBacklog => exact execThrottleBacklog_leads s hs
  | vcoreLow => exact @execVcoreLow_leads K (hmem rfl) (hcores rfl) s hs
  | watchOn w => exact @execWatchOn_leads K (hmem rfl) w s hs
  | watchOff w => exact @execWatchOff_leads K (hmem rfl) w s hs
  | autoWatchExpiry => exact @execAutoWatchExpiry_leads K (hmem rfl) s hs
  | watchEntryRetry => exact execWatchEntryRetry_leads s hs
  | reloadStart => exact @execReloadStart_leads K (hmem rfl) (hcores rfl) s hs
  | reloadDrainEnd => exact @execReloadDrainEnd_leads K (hmem rfl) (hcores rfl) s hs
  | reloadApply => exact @execReloadApply_leads K (hmem rfl) (hcores rfl) s hs
  | changeoverAccept => exact @execChangeoverAccept_leads K (hmem rfl) (hcores rfl) s hs
  | hubSwitchEnd => exact @execHubSwitchEnd_leads K (hmem rfl) (hcores rfl) s hs
  | tileReloadStart t => exact @execTileReloadStart_leads K (hmem rfl) (hcores rfl) t s hs
  | tileReloadDrainEnd t => exact @execTileReloadDrainEnd_leads K (hmem rfl) t s hs
  | tileReloadApply t => exact @execTileReloadApply_leads K (hmem rfl) (hcores rfl) t s hs
  | tileReloadEnd t => exact @execTileReloadEnd_leads K (hmem rfl) (hcores rfl) t s hs
  | tileRestartDrainEnd t => exact @execTileRestartDrainEnd_leads K (hmem rfl) (hcores rfl) t s hs
  | tileRestartApply t ups => exact @execTileRestartApply_leads K (hmem rfl) (hcores rfl) t ups s hs
  | tileBack t => exact @execTileBack_leads K (hmem rfl) (hcores rfl) t s hs
  | logSelWrite w index => exact execLogSelWrite_leads w index s hs
  | logUserWrite w => exact execLogUserWrite_leads w s hs
  | fltSnap w addr => exact @execFltSnap_leads K (hmem rfl) w addr s hs
  | snapDone => exact execSnapDone_leads s hs
  | svcWriteTransfer enable bytes => exact @execSvcWriteTransfer_leads K (hmem rfl) (hcores rfl) enable bytes s hs
  | svcReadTransfer enable n => exact execSvcReadTransfer_leads enable n s hs
  | svcSclStuck => exact execSvcSclStuck_leads s hs
  | svcTake => exact execSvcTake_leads s hs
  | svcRelease => exact @execSvcRelease_leads K (hmem rfl) s hs
  | svcAlive => exact execSvcAlive_leads s hs
  | svcCommission enable => exact @execSvcCommission_leads K (hmem rfl) (hcores rfl) enable s hs
  | svcWarmReset => exact execSvcWarmReset_leads s hs
  | takeExpiry => exact execTakeExpiry_leads s hs
  | commissionEnd enable => exact @execCommissionEnd_leads K (hmem rfl) enable s hs
  | commissionGo enable => exact execCommissionGo_leads enable s hs
  | trimGo enable => exact execTrimGo_leads enable s hs
  | burnEnd verified => exact @execBurnEnd_leads K (hmem rfl) verified s hs
  | svcKick w => exact execSvcKick_leads w s hs
  | kickTimeout => exact execKickTimeout_leads s hs
  | healthyHoldEnd => exact execHealthyHoldEnd_leads s hs
  | factoryFixtureTake => exact execFactoryFixtureTake_leads s hs
  | signalLost portB => exact execSignalLost_leads portB s hs
  | unansweredFrameExpiry fseq => exact execUnansweredFrameExpiry_leads fseq s hs
  | _ => exact absurd hfilsy (Option.some_ne_none _)

/-! ### The canonical form (R249, assumption 2) -/

variable {s : State} {ws : List Instr}

theorem State.formed.wr (h : s.formed ws) (a : Nat) (v : Word) : (s.wr a v).formed ws :=
  { h with regs := tabWf_tabSet regReset a v h.regs }

theorem State.formed.setCore (h : s.formed ws) (k : Nat) (c : Core) : (s.setCore k c).formed ws :=
  { h with cores := tabWf_tabSet coreDefault k c h.cores }

/-- Listed registers replaced under their addresses, or unlisted where they come to their reset words. -/
theorem tabWf_regs_masked (p : Nat → Bool) (f : Nat × Word → Word) {l : List (Nat × Word)} (h : tabWf regReset l = true) :
    tabWf regReset (l.filterMap fun c => if p c.1 then (if f c = regReset c.1 then none else some (c.1, f c)) else some c) = true := by
  refine tabWf_filterMap regReset _ (fun c x hx => ?_) (fun c x hc hx => ?_) h
  · split at hx
    · split at hx
      · exact absurd hx (Option.some_ne_none x).symm
      · exact Option.some.inj hx ▸ rfl
    · exact Option.some.inj hx ▸ rfl
  · split at hx
    · split at hx
      · exact absurd hx (Option.some_ne_none x).symm
      · next hne => exact Option.some.inj hx ▸ hne
    · exact Option.some.inj hx ▸ hc

theorem State.formed.clearRegs (h : s.formed ws) (p : Nat → Bool) : (s.clearRegs p).formed ws :=
  { h with regs := tabWf_regs_masked p _ h.regs }

theorem State.formed.lkReset (h : s.formed ws) (p : Nat → Bool) : (s.lkReset p).formed ws :=
  { h with regs := tabWf_regs_masked p _ h.regs }

/-- The canonical form with the commands `ws` waiting, as a property that commands keep. -/
def Keep.formed (ws : List Instr) : Keep where
  P s := s.formed ws
  wr _ a v h := h.wr a v
  clear _ p h := h.clearRegs p
  lk _ p h := h.lkReset p
  pend _ _ _ h := h.setCore _ _
  lit := by
    intros
    rename_i h
    exact ⟨h.pending, h.mem, h.regs, h.cores⟩

theorem Keep.formed_mem (ws : List Instr) : (Keep.formed ws).Mem where
  setByte s a b h := { h with mem := s.setByte_wf a b h.mem }
  cut _ _ h := { h with mem := tabWf_filter memDefault _ h.mem }

theorem Keep.formed_cores (ws : List Instr) : (Keep.formed ws).Cores := ⟨fun _ k c h => h.setCore k c⟩

/-- A wipe filters the registers, empties memory and cores, and writes registers. -/
theorem State.formed.wipe (h : s.formed ws) : s.wipe.formed ws := by
  have hregs : tabWf regReset (s.regs.filter fun c => aonReg c.1) = true := tabWf_filter regReset _ h.regs
  unfold State.wipe
  refine foldl_kept (K := Keep.formed ws) _ (fun t m ht => ite_kept ht (ht.wr _ _)) _ _ ?_
  repeat' apply State.formed.wr
  exact ⟨h.pending, rfl, hregs, rfl⟩

theorem Keep.formed_resets (ws : List Instr) : (Keep.formed ws).Resets where
  wipe _ h := h.wipe
  power _ h := ⟨h.pending, rfl, rfl, rfl⟩
  zero _ h := { h with mem := rfl }

/-- Settles O57: the canonical form is a property that every command, and time, keeps; the command at the front is all that a step takes away. -/
theorem stepKeepsCanonicalForm : Obligations.StepKeepsCanonicalForm := by
  intro s t hs hstep
  rw [step] at hstep
  cases hqueue : s.pending with
  | nil =>
    rw [hqueue] at hs hstep
    cases hstep
    exact State.idle_kept (K := Keep.formed []) s hs
  | cons i rest =>
    rw [hqueue] at hstep
    have hrest : State.formed rest { s with pending := rest } := { hs with pending := rfl }
    exact exec_leads (K := Keep.formed rest) (fun _ => Keep.formed_mem rest) (fun _ => Keep.formed_cores rest) (fun _ => Keep.formed_resets rest) hrest t hstep

/-! ### Cores that only gain pending bits (R270, R438) -/

/-- The core is as before, but that sources may have become pending. -/
def Core.RaisedTo (c x : Core) : Prop :=
  ∃ p0 p1 p2, x = { c with pend0 := c.pend0 ||| p0, pend1 := c.pend1 ||| p1, pend2 := c.pend2 ||| p2 }

theorem Core.RaisedTo.refl (c : Core) : c.RaisedTo c := ⟨0#32, 0#32, 0#32, by simp only [BitVec.or_zero]⟩

theorem Core.RaisedTo.pend {c x : Core} (h : c.RaisedTo x) (n : Nat) : c.RaisedTo (x.pend n) := by
  obtain ⟨p0, p1, p2, rfl⟩ := h
  unfold Core.pend
  split
  · exact ⟨p0 ||| 1#32 <<< n, p1, p2, by simp only [BitVec.or_assoc]⟩
  · split
    · exact ⟨p0, p1 ||| 1#32 <<< (n - 32), p2, by simp only [BitVec.or_assoc]⟩
    · exact ⟨p0, p1, p2 ||| 1#32, by simp only [BitVec.or_assoc]⟩

/-- The commands that wait are those of `u`, and every core is as in `u` but for sources that have become pending: a property that commands keep. -/
def Keep.coresRaised (u : State) : Keep where
  P s := s.pending = u.pending ∧ ∀ k, (u.core k).RaisedTo (s.core k)
  wr _ _ _ h := h
  clear _ _ h := h
  lk _ _ h := h
  pend s k n h := by
    refine ⟨h.1, fun j => ?_⟩
    by_cases hj : j = k
    · subst hj
      rw [State.core_setCore_same]
      exact (h.2 j).pend n
    · rw [State.core_setCore_other _ _ hj]
      exact h.2 j
  lit := by intros; assumption

theorem Keep.coresRaised_mem (u : State) : (Keep.coresRaised u).Mem := ⟨fun _ _ _ h => h, fun _ _ h => h⟩

/-- Settles O59: a command to which updates of cores are not open can only make their sources pending. -/
theorem commandsLeaveCores : Obligations.CommandsLeaveCores := by
  intro i s t hi hexec
  have hopen {p : Prop} (h : i.mayMoveCores = true) : p := absurd (hi.symm.trans h) Bool.false_ne_true
  exact exec_leads (K := Keep.coresRaised s) (fun _ => Keep.coresRaised_mem s) (hopen ·) (hopen ·) ⟨rfl, fun k => .refl _⟩ t hexec

end Sys2Proof.Machine
end

section
/-! SUPPORT. The computations of the Filsy instructions (R255 to R260): the bits of FLAGS, exact and clamped results, and the statements O3 to O7. -/

namespace Sys2Proof.Machine

/-! ### Bits of FLAGS (R245, R255) -/

theorem getLsbD_bitTo (w : Word) {i : Nat} (b : Bool) (hi : i < 32) (j : Nat) : (bitTo w i b).getLsbD j = if j = i then b else w.getLsbD j := by
  by_cases hj : j < 32
  · by_cases hij : j = i
    · subst hij
      cases b <;> simp [bitTo, hj]
    · have hone : (1#32).getLsbD (j - i) = true → j < i := by
        rw [BitVec.getLsbD_one]
        simp only [decide_eq_true_eq, Bool.and_eq_true]
        omega
      cases b <;> simp [bitTo, hj, hij] <;> omega
  · rw [BitVec.getLsbD_of_ge _ _ (by omega), BitVec.getLsbD_of_ge _ _ (by omega), if_neg (by omega)]

/-- Two bits of a word set in either order. -/
theorem bitTo_comm (w : Word) {i j : Nat} (a b : Bool) (hi : i < 32) (hj : j < 32) (hij : i ≠ j) :
    bitTo (bitTo w i a) j b = bitTo (bitTo w j b) i a := by
  refine BitVec.eq_of_getLsbD_eq fun n _ => ?_
  rw [getLsbD_bitTo _ _ hj, getLsbD_bitTo _ _ hi, getLsbD_bitTo _ _ hi, getLsbD_bitTo _ _ hj]
  by_cases hn : n = j
  · rw [if_pos hn, if_pos hn, if_neg (by omega)]
  · rw [if_neg hn, if_neg hn]

theorem flNZCV_bits (r f : Word) (c v : Bool) :
    (flNZCV r c v f).getLsbD fN = r.msb ∧ (flNZCV r c v f).getLsbD fZ = (r == 0#32) ∧ (flNZCV r c v f).getLsbD fC = c ∧ (flNZCV r c v f).getLsbD fV = v := by
  simp [-BitVec.getLsbD_eq_getElem, flNZCV, flNZV, flNZ, fN, fZ, fC, fV, getLsbD_bitTo]

/-! ### Exact sums and differences (R256) -/

/-- An exact number is none of 32 signed bits where its low word is another number. -/
theorem overflows_eq (e : Int) : overflows e = decide ((BitVec.ofInt 32 e).toInt ≠ e) := by
  have h : (e > 0x7FFFFFFF ∨ e < -0x80000000) ↔ (BitVec.ofInt 32 e).toInt ≠ e := by
    rw [BitVec.toInt_ofInt, Int.bmod_def]
    omega
  rw [overflows, ← Bool.decide_or, decide_eq_decide]
  exact h

theorem ofInt_toInt_sum (a b : Word) (k : Nat) : BitVec.ofInt 32 (a.toInt + b.toInt + k) = a + b + w32 k := by
  rw [BitVec.ofInt_add, BitVec.ofInt_add, BitVec.ofInt_toInt, BitVec.ofInt_toInt, BitVec.ofInt_natCast]

theorem ofInt_toInt_difference (a b : Word) (k : Nat) : BitVec.ofInt 32 (a.toInt - b.toInt - k) = a - b - w32 k := by
  rw [Int.sub_eq_add_neg, Int.sub_eq_add_neg, BitVec.ofInt_add, BitVec.ofInt_add, BitVec.ofInt_neg, BitVec.ofInt_neg, BitVec.ofInt_toInt,
    BitVec.ofInt_toInt, BitVec.ofInt_natCast, ← BitVec.sub_eq_add_neg, ← BitVec.sub_eq_add_neg]

theorem aluAdd_eq (a b : Word) (cin : Bool) (f : Word) :
    aluAdd a b cin f = ⟨a + b + w32 cin.toNat, flExact (a + b + w32 cin.toNat) (a.toInt + b.toInt + cin.toNat)
      (decide (2 ^ 32 ≤ a.toNat + b.toNat + cin.toNat)) f⟩ := by
  rw [aluAdd, flExact, overflows_eq, ofInt_toInt_sum]
  rfl

theorem aluSub_eq (a b : Word) (bin : Bool) (f : Word) :
    aluSub a b bin f = ⟨a - b - w32 bin.toNat, flExact (a - b - w32 bin.toNat) (a.toInt - b.toInt - bin.toNat)
      (decide (b.toNat + bin.toNat ≤ a.toNat)) f⟩ := by
  rw [aluSub, flExact, overflows_eq, ofInt_toInt_difference]

/-- A sum without carry in. -/
theorem aluAdd_plain (a b f : Word) :
    aluAdd a b false f = ⟨a + b, flExact (a + b) (a.toInt + b.toInt) (decide (2 ^ 32 ≤ a.toNat + b.toNat)) f⟩ := by
  simp [aluAdd_eq]

/-- A difference without borrow in. -/
theorem aluSub_plain (a b f : Word) :
    aluSub a b false f = ⟨a - b, flExact (a - b) (a.toInt - b.toInt) (decide (b.toNat ≤ a.toNat)) f⟩ := by
  simp [aluSub_eq]

/-! ### Clamped results (R256) -/

theorem clamp32_clamped (e : Int) : (clamp32 e).2 = decide (e < -0x80000000 ∨ 0x7FFFFFFF < e) := by
  unfold clamp32
  split
  · exact (decide_eq_true (by omega)).symm
  · split
    · exact (decide_eq_true (by omega)).symm
    · exact (decide_eq_false (by omega)).symm

theorem aluSat_eq (e : Int) (f : Word) : aluSat e f = ⟨satWord e, flClamped e f⟩ := by
  rw [flClamped, ← clamp32_clamped]
  rfl

/-! ### Conditions (R255) -/

/-- Every condition but code 0 in the four flags that it tests. -/
theorem condHolds_table (f : Word) :
    condHolds 1 f = f.getLsbD fZ ∧ condHolds 2 f = !f.getLsbD fZ ∧ condHolds 3 f = f.getLsbD fC ∧ condHolds 4 f = !f.getLsbD fC ∧
      condHolds 5 f = (f.getLsbD fC && !f.getLsbD fZ) ∧ condHolds 6 f = (!f.getLsbD fC || f.getLsbD fZ) ∧ condHolds 7 f = f.getLsbD fN ∧
      condHolds 8 f = !f.getLsbD fN ∧ condHolds 9 f = f.getLsbD fV ∧ condHolds 10 f = !f.getLsbD fV ∧
      condHolds 11 f = decide (f.getLsbD fN = f.getLsbD fV) ∧ condHolds 12 f = decide (f.getLsbD fN ≠ f.getLsbD fV) ∧
      condHolds 13 f = (!f.getLsbD fZ && decide (f.getLsbD fN = f.getLsbD fV)) ∧
      condHolds 14 f = (f.getLsbD fZ || decide (f.getLsbD fN ≠ f.getLsbD fV)) :=
  ⟨rfl, rfl, rfl, rfl, rfl, rfl, rfl, rfl, rfl, rfl, rfl, (decide_not ..).symm, rfl, congrArg (f.getLsbD fZ || ·) (decide_not ..).symm⟩

/-- The FLAGS of a compare, flag by flag. -/
theorem aluSub_bits (a b f : Word) :
    (aluSub a b false f).f.getLsbD fN = decide ((a - b).toInt < 0) ∧ (aluSub a b false f).f.getLsbD fZ = decide (a = b) ∧
      (aluSub a b false f).f.getLsbD fC = decide (b.toNat ≤ a.toNat) ∧
      (aluSub a b false f).f.getLsbD fV = decide ((a - b).toInt ≠ a.toInt - b.toInt) := by
  have hzero : (a - b == 0#32) = decide (a = b) := by
    rw [beq_eq_decide, decide_eq_decide]
    exact sub_eq_zero
  obtain ⟨hn, hz, hc, hv⟩ := flNZCV_bits (a - b) f (decide (b.toNat ≤ a.toNat)) (decide ((a - b).toInt ≠ a.toInt - b.toInt))
  rw [aluSub_plain]
  exact ⟨hn.trans BitVec.msb_eq_toInt, hz.trans hzero, hc, hv⟩

/-- N is V after a compare where A is not below B as signed numbers. -/
theorem sign_eq_overflow_iff (a b : Word) : ((a - b).toInt < 0 ↔ (a - b).toInt ≠ a.toInt - b.toInt) ↔ b.toInt ≤ a.toInt := by
  have ha := a.le_toInt
  have hb := b.le_toInt
  have ha' := a.toInt_lt
  have hb' := b.toInt_lt
  rw [BitVec.toInt_sub, Int.bmod_def]
  omega

/-- Settles O5: the table reads four flags, each of which a compare sets to one relation of its operands. -/
theorem conditionCodes : Obligations.ConditionCodes := by
  refine ⟨fun f => ⟨rfl, condHolds_table f⟩, fun a b f => ?_, fun c x d a b cond off => ⟨rfl, rfl, fun hcond => ?_⟩⟩
  · obtain ⟨hn, hz, hc, hv⟩ := aluSub_bits a b f
    obtain ⟨h1, h2, h3, h4, h5, h6, h7, h8, h9, h10, h11, h12, h13, h14⟩ := condHolds_table (aluSub a b false f).f
    have hsigned : (aluSub a b false f).f.getLsbD fN = (aluSub a b false f).f.getLsbD fV ↔ b.toInt ≤ a.toInt := by
      rw [hn, hv, decide_eq_decide]
      exact sign_eq_overflow_iff a b
    have hge : decide (_ = _) = decide _ := decide_eq_decide.2 hsigned
    have hlt : decide (_ ≠ _) = decide (¬_) := decide_eq_decide.2 (not_congr hsigned)
    have hnat : a = b ↔ a.toNat = b.toNat := BitVec.toNat_eq
    have hint : a = b ↔ a.toInt = b.toInt := BitVec.toInt_inj.symm
    rw [h1, h2, h3, h4, h5, h6, h7, h8, h9, h10, h11, h12, h13, h14, hge, hlt, hn, hz, hc, hv]
    simp only [← decide_not, ← Bool.decide_and, ← Bool.decide_or, decide_eq_decide]
    refine ⟨rfl, trivial, trivial, trivial, not_le, ?_, ?_, trivial, not_lt, trivial, not_not, trivial, not_le, ?_, ?_⟩
    · rw [hnat]; omega
    · rw [hnat]; omega
    · rw [hint]; omega
    · rw [hint]; omega
  · exact Bool.and_eq_false_iff.2 (.inl (beq_eq_false_iff_ne.2 hcond))

/-! ### Instructions that write a result and FLAGS (R244, R256 to R259) -/

section

variable {c : Fin 9} {i : Instr} {d : BitVec 4} {r f : Core → Word}

/-- An instruction gives what its computation answers. -/
theorem FilsyGives.of_alu (g : Core → Alu) (hexec : ∀ s, exec i s = s.issue c i fun s => s.alu c d g) (hg : ∀ x, g x = ⟨r x, f x⟩) :
    FilsyGives c i d r f := by
  intro s hrun
  rw [hexec, State.issue_run hrun, State.alu_finish, hg]
  rfl

/-- An instruction that writes a register and no flag. -/
theorem FilsyGives.of_coreOnly (hexec : ∀ s, exec i s = s.issue c i fun s => s.coreOnly c fun x => x.setReg d (r x)) : FilsyGives c i d r sameFlags := by
  intro s hrun
  have hflags : ∀ x : Core, x.result d ⟨r x, x.flags⟩ = x.setReg d (r x) := by
    intro x
    unfold Core.result Core.setReg
    split <;> rfl
  rw [hexec, State.issue_run hrun, State.coreOnly_finish, hflags]
  rfl

end

/-! ### Results of the integer group (R256) -/

/-- The borrow of SBC in terms of C. -/
theorem aluSub_borrow (a b : Word) (cy : Bool) (f : Word) :
    aluSub a b (!cy) f = ⟨a - b - w32 (1 - cy.toNat), flExact (a - b - w32 (1 - cy.toNat)) (a.toInt - b.toInt - (1 - cy.toNat))
      (decide (b.toNat + (1 - cy.toNat) ≤ a.toNat)) f⟩ := by
  cases cy <;> exact aluSub_eq ..

/-- A strict test picks the same of two words as a test that also holds of equal ones. -/
theorem pickWord_eq_ite {p : Bool} {q : Prop} [Decidable q] {a b : Word} (hweaker : p = true → q) (hequal : q → p = false → a = b) :
    pickWord p a b = if q then a else b := by
  unfold pickWord
  cases hp : p with
  | true => rw [if_pos rfl, if_pos (hweaker hp)]
  | false =>
    rw [if_neg Bool.false_ne_true]
    split
    · next hq => exact (hequal hq hp).symm
    · rfl

theorem toInt_le_of_slt {a b : Word} (h : a.slt b = true) : a.toInt ≤ b.toInt := Int.le_of_lt (BitVec.slt_iff_toInt_lt.1 h)

theorem eq_of_not_slt {a b : Word} (hle : a.toInt ≤ b.toInt) (h : a.slt b = false) : a = b := by
  have hge : ¬ a.toInt < b.toInt := fun hlt => Bool.eq_false_iff.1 h (BitVec.slt_iff_toInt_lt.2 hlt)
  exact BitVec.eq_of_toInt_eq (by omega)

theorem toNat_le_of_ult {a b : Word} (h : a.ult b = true) : a.toNat ≤ b.toNat := Nat.le_of_lt (BitVec.ult_iff_lt.1 h)

theorem eq_of_not_ult {a b : Word} (hle : a.toNat ≤ b.toNat) (h : a.ult b = false) : a = b := by
  have hge : ¬ a.toNat < b.toNat := fun hlt => Bool.eq_false_iff.1 h (BitVec.ult_iff_lt.2 hlt)
  exact BitVec.eq_of_toNat_eq (by omega)

theorem aluSub_negated (a f : Word) :
    aluSub 0#32 a false f = ⟨0#32 - a, flExact (0#32 - a) (-a.toInt) (decide (a = 0#32)) f⟩ := by
  have hcarry : a.toNat ≤ 0 ↔ a = 0#32 := by rw [BitVec.toNat_eq]; exact Nat.le_zero
  rw [aluSub_plain, BitVec.toInt_zero, Int.zero_sub, BitVec.toNat_ofNat, Nat.zero_mod, decide_eq_decide.2 hcarry]

theorem aluAbs_eq (a f : Word) :
    aluAbs a f = ⟨if a.toInt < 0 then 0#32 - a else a, flNZV (if a.toInt < 0 then 0#32 - a else a) (decide (a = 0x80000000#32)) f⟩ := by
  simp only [aluAbs, BitVec.msb_eq_toInt, decide_eq_true_eq]
  rfl

/-- Leading zeros are the bits passed over from the top before the first one that is set. -/
theorem clzFrom_eq (a : Word) (n : Nat) : clzFrom a n = ((List.range n).find? fun j => a.getLsbD (n - 1 - j)).getD n := by
  induction n with
  | zero => rfl
  | succ n ih =>
    have hshift : ((fun j => a.getLsbD (n + 1 - 1 - j)) ∘ Nat.succ) = fun j => a.getLsbD (n - 1 - j) := by
      funext j
      exact congrArg a.getLsbD (by omega)
    rw [clzFrom, List.range_succ_eq_map, List.find?_cons, List.find?_map, hshift, ih, Nat.add_sub_cancel, Nat.sub_zero]
    cases htop : a.getLsbD n with
    | true => rfl
    | false =>
      rw [if_neg Bool.false_ne_true]
      cases hfound : (List.range n).find? fun j => a.getLsbD (n - 1 - j) with
      | none => exact Nat.add_comm 1 n
      | some j => exact Nat.add_comm 1 j

theorem popFrom_eq (a : Word) (n : Nat) : popFrom a n = (List.range n).countP fun j => a.getLsbD j := by
  induction n with
  | zero => rfl
  | succ n ih =>
    rw [popFrom, ih, List.range_succ, List.countP_append, List.countP_singleton, Nat.add_comm]

/-- Settles O3: G0 keeps nothing, and each instruction of the group answers its computation, written with exact sums. -/
theorem integerGroupResults : Obligations.IntegerGroupResults := by
  refine ⟨fun x r q v => ⟨x.reg_zero, x.setReg_zero v, x.reg_setReg_same v, x.reg_setReg_other v⟩, fun c d a b k => ?_, fun c d a b k => ?_⟩
  · exact ⟨.of_alu _ (fun _ => rfl) fun x => aluAdd_plain _ _ _, .of_alu _ (fun _ => rfl) fun x => aluAdd_eq _ _ _ _,
      .of_alu _ (fun _ => rfl) fun x => aluSub_plain _ _ _, .of_alu _ (fun _ => rfl) fun x => aluSub_borrow _ _ _ _,
      .of_alu _ (fun _ => rfl) fun x => aluSat_eq _ _, .of_alu _ (fun _ => rfl) fun x => aluSat_eq _ _,
      .of_alu _ (fun _ => rfl) fun x => aluSub_negated _ _, .of_alu _ (fun _ => rfl) fun x => aluSat_eq _ _,
      .of_alu _ (fun _ => rfl) fun x => congrArg (aluNZ · x.flags) (pickWord_eq_ite toInt_le_of_slt eq_of_not_slt),
      .of_alu _ (fun _ => rfl) fun x => congrArg (aluNZ · x.flags) (pickWord_eq_ite toInt_le_of_slt fun hle h => (eq_of_not_slt hle h).symm),
      .of_alu _ (fun _ => rfl) fun x => congrArg (aluNZ · x.flags) (pickWord_eq_ite toNat_le_of_ult eq_of_not_ult),
      .of_alu _ (fun _ => rfl) fun x => congrArg (aluNZ · x.flags) (pickWord_eq_ite toNat_le_of_ult fun hle h => (eq_of_not_ult hle h).symm),
      .of_alu _ (fun _ => rfl) fun x => aluAbs_eq _ _, .of_alu _ (fun _ => rfl) fun x => aluSat_eq _ _⟩
  · have hbyte (w : Word) : w.setWidth 8 = BitVec.ofNat 8 w.toNat := (BitVec.ofNat_toNat 8 w).symm
    have hhalf (w : Word) : w.setWidth 16 = BitVec.ofNat 16 w.toNat := (BitVec.ofNat_toNat 16 w).symm
    exact ⟨.of_alu _ (fun _ => rfl) fun _ => rfl, .of_alu _ (fun _ => rfl) fun _ => rfl, .of_alu _ (fun _ => rfl) fun _ => rfl,
      .of_alu _ (fun _ => rfl) fun _ => rfl, .of_alu _ (fun _ => rfl) fun x => by rw [hbyte]; rfl, .of_alu _ (fun _ => rfl) fun x => by rw [hhalf]; rfl,
      .of_alu _ (fun _ => rfl) fun x => congrArg (fun n => aluNZ (w32 n) x.flags) (clzFrom_eq _ 32),
      .of_alu _ (fun _ => rfl) fun x => congrArg (fun n => aluNZ (w32 n) x.flags) (popFrom_eq _ 32), .of_alu _ (fun _ => rfl) fun _ => rfl⟩

/-! ### Results of the immediate instructions and of the shift group (R257, R258) -/

theorem aluShl_eq (a : Word) (n : Nat) (f : Word) :
    aluShl a n f = ⟨w32 (a.toNat * 2 ^ n), flNZCV (w32 (a.toNat * 2 ^ n)) (decide (1 ≤ n ∧ n ≤ 32) && a.getLsbD (32 - n)) false f⟩ := by
  have hr : a <<< n = w32 (a.toNat * 2 ^ n) := BitVec.eq_of_toNat_eq (by simp [Nat.shiftLeft_eq])
  rw [aluShl, aluShift, hr]

theorem aluShr_eq (a : Word) (n : Nat) (f : Word) :
    aluShr a n f = ⟨w32 (a.toNat / 2 ^ n), flNZCV (w32 (a.toNat / 2 ^ n)) (decide (1 ≤ n ∧ n ≤ 32) && a.getLsbD (n - 1)) false f⟩ := by
  have hr : a >>> n = w32 (a.toNat / 2 ^ n) := by
    refine BitVec.eq_of_toNat_eq ?_
    rw [BitVec.toNat_ushiftRight, Nat.shiftRight_eq_div_pow, BitVec.toNat_ofNat, Nat.mod_eq_of_lt]
    exact Nat.lt_of_le_of_lt (Nat.div_le_self _ _) a.isLt
  rw [aluShr, aluShift, hr]

theorem aluSar_eq (a : Word) (n : Nat) (f : Word) :
    aluSar a n f = ⟨BitVec.ofInt 32 (a.toInt / (2 ^ n : Nat)),
      flNZCV (BitVec.ofInt 32 (a.toInt / (2 ^ n : Nat))) (decide (1 ≤ n) && a.getLsbD (min (n - 1) 31)) false f⟩ := by
  have hr : a.sshiftRight n = BitVec.ofInt 32 (a.toInt / (2 ^ n : Nat)) := by
    rw [← BitVec.ofInt_toInt (x := a.sshiftRight n), BitVec.toInt_sshiftRight, Int.shiftRight_eq_div_pow]
  have hc : (if n = 0 then false else if n ≤ 32 then a.getLsbD (n - 1) else a.msb) = (decide (1 ≤ n) && a.getLsbD (min (n - 1) 31)) := by
    split
    · rw [decide_eq_false (by omega), Bool.false_and]
    · rw [decide_eq_true (by omega), Bool.true_and]
      split
      · rw [Nat.min_eq_left (by omega)]
      · rw [Nat.min_eq_right (by omega), BitVec.msb_eq_getLsbD_last]
  rw [aluSar, aluShift, hr, hc]

theorem aluRor_eq (a : Word) (n : Nat) (f : Word) :
    aluRor a n f = ⟨a.rotateRight (n % 32), flNZCV (a.rotateRight (n % 32)) (decide (n % 32 ≠ 0) && a.getLsbD (n % 32 - 1)) false f⟩ := by
  rw [aluRor, aluShift, decide_not]
  rfl

theorem aluRol_eq (a : Word) (n : Nat) (f : Word) :
    aluRol a n f = ⟨a.rotateLeft (n % 32), flNZCV (a.rotateLeft (n % 32)) (decide (n % 32 ≠ 0) && a.getLsbD (32 - n % 32)) false f⟩ := by
  rw [aluRol, aluShift, decide_not]
  rfl

theorem aluShls_eq (a : Word) (n : Nat) (f : Word) :
    aluShls a n f = ⟨satWord (a.toInt * (2 ^ n : Nat)), bitTo (flClamped (a.toInt * (2 ^ n : Nat)) f) fC false⟩ := by
  rw [flClamped, ← clamp32_clamped]
  unfold aluShls satWord flSat
  dsimp only
  split
  · exact congrArg (Alu.mk _) (bitTo_comm _ _ _ (by decide) (by decide) (by decide))
  · rfl

/-- Settles O4: an immediate instruction computes with its sign- or zero-extended field, a shift with its amount. -/
theorem immediateAndShiftResults : Obligations.ImmediateAndShiftResults := by
  refine ⟨fun c d a i u => ?_, fun c d a b k => ?_⟩
  · have himm : (i.signExtend 32).toInt = i.toInt := BitVec.toInt_signExtend_of_le (by decide)
    exact ⟨.of_alu _ (fun _ => rfl) fun x => himm ▸ aluAdd_plain _ _ _, .of_alu _ (fun _ => rfl) fun x => himm ▸ aluSub_plain _ _ _,
      .of_alu _ (fun _ => rfl) fun _ => rfl, .of_alu _ (fun _ => rfl) fun _ => rfl, .of_alu _ (fun _ => rfl) fun _ => rfl, .of_coreOnly fun _ => rfl⟩
  · exact ⟨fun _ => .of_alu _ (fun _ => rfl) fun x => aluShl_eq _ _ _, fun _ => .of_alu _ (fun _ => rfl) fun x => aluShr_eq _ _ _,
      fun _ => .of_alu _ (fun _ => rfl) fun x => aluSar_eq _ _ _, fun _ => .of_alu _ (fun _ => rfl) fun x => aluRor_eq _ _ _,
      fun _ => .of_alu _ (fun _ => rfl) fun x => aluRol_eq _ _ _, fun _ => .of_alu _ (fun _ => rfl) fun x => aluShls_eq _ _ _⟩

/-! ### Products (R259) -/

theorem mul_eq_w32 (a b : Word) : a * b = w32 (a.toNat * b.toNat) := by
  rw [w32, BitVec.ofNat_mul, BitVec.ofNat_toNat, BitVec.ofNat_toNat, BitVec.setWidth_eq, BitVec.setWidth_eq]

theorem add_mul_eq_w32 (d a b : Word) : d + a * b = w32 (d.toNat + a.toNat * b.toNat) := by
  rw [w32, BitVec.ofNat_add, mul_eq_w32, BitVec.ofNat_toNat, BitVec.setWidth_eq]

theorem highWord_natCast (n : Nat) : highWord n = w32 (n / 2 ^ 32) := by
  rw [highWord, w32, ← BitVec.ofInt_natCast, Int.natCast_ediv]
  rfl

theorem roundShift_eq (p : Int) (k : Nat) : roundShift p k = roundedShift p k := by
  unfold roundShift roundedShift
  split
  · next hk => subst hk; simp
  · push_cast; rfl

/-- Settles O6: each product is the model's computation, written on numbers. -/
theorem multiplyResults : Obligations.MultiplyResults := by
  intro c d a b k
  exact ⟨.of_alu _ (fun _ => rfl) fun x => congrArg (aluNZ · x.flags) (mul_eq_w32 _ _), .of_alu _ (fun _ => rfl) fun _ => rfl,
    .of_alu _ (fun _ => rfl) fun x => congrArg (aluNZ · x.flags) (highWord_natCast _),
    .of_alu _ (fun _ => rfl) fun x => congrArg (aluNZ · x.flags) (add_mul_eq_w32 _ _ _), .of_alu _ (fun _ => rfl) fun x => aluSat_eq _ _,
    .of_alu _ (fun _ => rfl) fun x => roundShift_eq (prodS _ _) _ ▸ aluSat_eq _ _, .of_alu _ (fun _ => rfl) fun x => roundShift_eq (prodS _ _) _ ▸ aluSat_eq _ _⟩

/-! ### Divisions (R259, R260) -/

section

variable {c : Fin 9} {i : Instr} {d a b : BitVec 4} {g : Word → Word → Word → Alu} {s : State}

theorem exec_divide (hexec : ∀ s, exec i s = s.issue c i fun s => s.divide c d a b g) (hrun : s.canRun c i) (hb : (s.core c).reg b ≠ 0#32) :
    exec i s = .next (s.ranTo c ((s.core c).result d (g ((s.core c).reg a) ((s.core c).reg b) (s.core c).flags))) := by
  rw [hexec, State.issue_run hrun, State.divide, State.coreOnly_finish, if_neg hb]
  rfl

/-- A division by 0 answers its result with DZ set, and the core's DIV0 source becomes pending. -/
theorem exec_divide_zero (hexec : ∀ s, exec i s = s.issue c i fun s => s.divide c d a b g) (hrun : s.canRun c i) (hb : (s.core c).reg b = 0#32) {r : Word}
    (hg : ∀ f, g ((s.core c).reg a) 0#32 f = aluDiv r false true f) : exec i s = .next (s.dividedByZero c d r) := by
  have hlarge : ((s.core c).result d (aluDiv r false true (s.core c).flags)).large = (s.core c).large := by
    simp [-BitVec.getLsbD_eq_getElem, Core.large, Core.result, aluDiv, flNZV, flNZ, fN, fZ, fV, fDz, fProf, getLsbD_bitTo]
  rw [hexec, State.issue_run hrun, State.divide, State.coreOnly_finish, if_pos hb, hb, hg, Core.raiseDiv0, hlarge]
  rfl

end

theorem aluDivS_nonzero {a b : Word} (hb : b ≠ 0#32) (f : Word) :
    aluDivS a b f = ⟨BitVec.ofInt 32 (a.toInt.tdiv b.toInt),
      flNZV (BitVec.ofInt 32 (a.toInt.tdiv b.toInt)) (decide (a = 0x80000000#32 ∧ b = 0xFFFFFFFF#32)) f⟩ := by
  rw [aluDivS, if_neg hb]
  split
  · next h =>
    obtain ⟨rfl, rfl⟩ := h
    rfl
  · next h => rw [decide_eq_false h]; rfl

theorem aluDivS_zero (a f : Word) : aluDivS a 0#32 f = aluDiv (if a.toInt < 0 then 0x80000000#32 else 0x7FFFFFFF#32) false true f := by
  simp only [aluDivS, BitVec.msb_eq_toInt, decide_eq_true_eq, if_true]

/-- Settles O7: a divisor that is not 0 divides, 0 answers the table's result and raises DIV0. -/
theorem divisionResults : Obligations.DivisionResults := by
  refine ⟨fun c d a b k s hb => ⟨fun hrun => ?_, fun hrun => ?_, fun hrun => ?_, fun hrun => ?_⟩,
    fun c d a b k s hb => ⟨fun hrun => ?_, fun hrun => ?_, fun hrun => ?_, fun hrun => ?_⟩⟩
  · rw [exec_divide (fun _ => rfl) hrun hb, aluDivS_nonzero hb]
    rfl
  · rw [exec_divide (fun _ => rfl) hrun hb, aluDivU, if_neg hb]
    rfl
  · rw [exec_divide (fun _ => rfl) hrun hb, aluRemS, if_neg hb]
    rfl
  · rw [exec_divide (fun _ => rfl) hrun hb, aluRemU, if_neg hb]
    rfl
  · exact exec_divide_zero (fun _ => rfl) hrun hb (aluDivS_zero _)
  · exact exec_divide_zero (fun _ => rfl) hrun hb fun _ => rfl
  · exact exec_divide_zero (fun _ => rfl) hrun hb fun _ => rfl
  · exact exec_divide_zero (fun _ => rfl) hrun hb fun _ => rfl

end Sys2Proof.Machine
end

section
/-! SUPPORT. Encodings, control and system instructions, repeats, events and faults of the Filsy cores (R247, R253 to R275): the statements O2 and O13 to O20. -/

namespace Sys2Proof.Machine

/-! ### Words of Filsy instructions (R253, R254) -/

theorem encodeFilsy_isSome {i : Instr} {c : Fin 9} (hi : i.filsyCore = some c) : ∃ w, encodeFilsy i = some w := by
  cases i <;> simp only [Instr.filsyCore, reduceCtorEq] at hi <;> exact ⟨_, rfl⟩

/-- The word of a Filsy instruction spells it again. -/
theorem encoding_of_filsy {i : Instr} {c : Fin 9} (hi : i.filsyCore = some c) : Laws.Encoding.Statement i := by
  cases i with
  | add c d a b k => exact Laws.Encoding.add c d a b k
  | adc c d a b k => exact Laws.Encoding.adc c d a b k
  | sub c d a b k => exact Laws.Encoding.sub c d a b k
  | sbc c d a b k => exact Laws.Encoding.sbc c d a b k
  | adds c d a b k => exact Laws.Encoding.adds c d a b k
  | subs c d a b k => exact Laws.Encoding.subs c d a b k
  | neg c d a b k => exact Laws.Encoding.neg c d a b k
  | negs c d a b k => exact Laws.Encoding.negs c d a b k
  | andI c d a b k => exact Laws.Encoding.andI c d a b k
  | orI c d a b k => exact Laws.Encoding.orI c d a b k
  | xor c d a b k => exact Laws.Encoding.xor c d a b k
  | andn c d a b k => exact Laws.Encoding.andn c d a b k
  | minI c d a b k => exact Laws.Encoding.minI c d a b k
  | maxI c d a b k => exact Laws.Encoding.maxI c d a b k
  | minu c d a b k => exact Laws.Encoding.minu c d a b k
  | maxu c d a b k => exact Laws.Encoding.maxu c d a b k
  | abs c d a b k => exact Laws.Encoding.abs c d a b k
  | abss c d a b k => exact Laws.Encoding.abss c d a b k
  | sextb c d a b k => exact Laws.Encoding.sextb c d a b k
  | sexth c d a b k => exact Laws.Encoding.sexth c d a b k
  | clz c d a b k => exact Laws.Encoding.clz c d a b k
  | popc c d a b k => exact Laws.Encoding.popc c d a b k
  | sel c d a b k => exact Laws.Encoding.sel c d a b k
  | addi c d a imm => exact Laws.Encoding.addi c d a imm
  | subi c d a imm => exact Laws.Encoding.subi c d a imm
  | andi c d a imm => exact Laws.Encoding.andi c d a imm
  | ori c d a imm => exact Laws.Encoding.ori c d a imm
  | xori c d a imm => exact Laws.Encoding.xori c d a imm
  | lui c d imm => exact Laws.Encoding.lui c d imm
  | shl c d a b k byK => exact Laws.Encoding.shl c d a b k byK
  | shr c d a b k byK => exact Laws.Encoding.shr c d a b k byK
  | sar c d a b k byK => exact Laws.Encoding.sar c d a b k byK
  | ror c d a b k byK => exact Laws.Encoding.ror c d a b k byK
  | rol c d a b k byK => exact Laws.Encoding.rol c d a b k byK
  | shls c d a b k byK => exact Laws.Encoding.shls c d a b k byK
  | mul c d a b k => exact Laws.Encoding.mul c d a b k
  | mulh c d a b k => exact Laws.Encoding.mulh c d a b k
  | mulhu c d a b k => exact Laws.Encoding.mulhu c d a b k
  | mac c d a b k => exact Laws.Encoding.mac c d a b k
  | macs c d a b k => exact Laws.Encoding.macs c d a b k
  | mulq c d a b k => exact Laws.Encoding.mulq c d a b k
  | macq c d a b k => exact Laws.Encoding.macq c d a b k
  | dotq c d a b k => exact Laws.Encoding.dotq c d a b k
  | divI c d a b k => exact Laws.Encoding.divI c d a b k
  | divu c d a b k => exact Laws.Encoding.divu c d a b k
  | rem c d a b k => exact Laws.Encoding.rem c d a b k
  | remu c d a b k => exact Laws.Encoding.remu c d a b k
  | ldw c d a imm => exact Laws.Encoding.ldw c d a imm
  | ldh c d a imm => exact Laws.Encoding.ldh c d a imm
  | ldhu c d a imm => exact Laws.Encoding.ldhu c d a imm
  | ldb c d a imm => exact Laws.Encoding.ldb c d a imm
  | ldbu c d a imm => exact Laws.Encoding.ldbu c d a imm
  | stw c d a imm => exact Laws.Encoding.stw c d a imm
  | sth c d a imm => exact Laws.Encoding.sth c d a imm
  | stb c d a imm => exact Laws.Encoding.stb c d a imm
  | ldwp c d a imm => exact Laws.Encoding.ldwp c d a imm
  | stwp c d a imm => exact Laws.Encoding.stwp c d a imm
  | ldhp c d a imm => exact Laws.Encoding.ldhp c d a imm
  | sthp c d a imm => exact Laws.Encoding.sthp c d a imm
  | push c d a b k => exact Laws.Encoding.push c d a b k
  | pop c d a b k => exact Laws.Encoding.pop c d a b k
  | b c cond off => exact Laws.Encoding.b c cond off
  | call c cond off => exact Laws.Encoding.call c cond off
  | jr c d a b k => exact Laws.Encoding.jr c d a b k
  | callr c d a b k => exact Laws.Encoding.callr c d a b k
  | ret c d a b k => exact Laws.Encoding.ret c d a b k
  | rpti c d imm => exact Laws.Encoding.rpti c d imm
  | rptr c rest => exact Laws.Encoding.rptr c rest
  | nop c d a b k => exact Laws.Encoding.nop c d a b k
  | mfs c d a b k => exact Laws.Encoding.mfs c d a b k
  | mts c d a b k => exact Laws.Encoding.mts c d a b k
  | eret c d a b k => exact Laws.Encoding.eret c d a b k
  | wait c d a b k => exact Laws.Encoding.wait c d a b k
  | brk c d a b k => exact Laws.Encoding.brk c d a b k
  | ei c d a b k => exact Laws.Encoding.ei c d a b k
  | di c d a b k => exact Laws.Encoding.di c d a b k
  | fence c d a b k => exact Laws.Encoding.fence c d a b k
  | _ => exact absurd hi (Option.some_ne_none c).symm

/-- Settles O2: every Filsy instruction has a word, and reading that word's fields gives the instruction back. -/
theorem filsyDecodeOfEncode : Obligations.FilsyDecodeOfEncode := fun _ c hi =>
  ⟨encodeFilsy_isSome hi, fun w hw => encoding_of_filsy hi c w hi hw⟩

/-! ### Fault entries (R268, R271, R272) -/

section

variable {s : State} {c : Fin 9}

theorem State.faultNow_open (h : (s.core c).faultsOpen) (code detail : Nat) :
    (s.faultNow c code detail).finish c s = s.setCore c ((s.core c).faultEntry (s.core c).pc code detail none) :=
  State.coreFault_open h _ _ _ _

/-- A vat core's fault halts it with a full return stack alone. -/
theorem Core.faultsOpen_of_rs_nil {x : Core} (hlarge : x.large = true) (hrs : x.rs = []) : x.faultsOpen := by
  rw [Core.faultsOpen, Core.faultHalts, if_pos hlarge, hrs]
  rfl

end

theorem Core.faultEntry_pail {x : Core} (h : x.large = false) (a : Word) (e d : Nat) (m : Option Word) :
    x.faultEntry a e d m = { x with
      evtPc := a, evtFlags := x.flags, evtIter := w32 (x.rep.getD 0), evtCause := faultCause e d, evtAddr := m.getD x.evtAddr, flags := faultFlags x.flags,
      pc := x.vecBase + 0x40#32, rep := none, stalled := false, held := false } := by
  simp only [Core.faultEntry, h, Bool.false_eq_true, if_false]

theorem Core.faultEntry_vat {x : Core} (h : x.large = true) (a : Word) (e d : Nat) (m : Option Word) :
    x.faultEntry a e d m = { x with
      rs := ⟨.fault, a, x.flags, x.rep.getD 0⟩ :: x.rs, evtCause := faultCause e d, evtAddr := m.getD x.evtAddr, flags := faultFlags x.flags,
      pc := x.vecBase + 0x40#32, rep := none, stalled := false, held := false } := by
  simp only [Core.faultEntry, h, if_true]

theorem faultCause_break (k : Nat) : faultCause fcBreak k = w32 (9 + 256 + 65536 * k) := by rw [faultCause, Nat.mul_comm]

/-- Settles O18: BRK faults at its own address, and the entry saves where the core's profile keeps it. -/
theorem faultEntrySaves : Obligations.FaultEntrySaves := by
  intro c d a b k s hrun hopen
  refine ⟨_, (State.issue_run hrun _).trans (congrArg _ (State.faultNow_open hopen fcBreak k.toNat)), ?_⟩
  beta_reduce
  rw [State.core_setCore_same]
  cases hlarge : (s.core c).large with
  | false =>
    rw [Core.faultEntry_pail hlarge]
    exact ⟨rfl, faultCause_break _, rfl, rfl, rfl, fun _ => rfl, fun _ => ⟨rfl, rfl, rfl, rfl⟩, fun h => absurd h Bool.false_ne_true⟩
  | true =>
    rw [Core.faultEntry_vat hlarge]
    exact ⟨rfl, faultCause_break _, rfl, rfl, rfl, fun _ => rfl, fun h => absurd h.symm Bool.false_ne_true, fun _ => ⟨rfl, rfl⟩⟩

/-! ### Branches, jumps, calls and returns (R262, R271) -/

theorem Core.branchTo_eq (x : Core) (off : BitVec 22) : x.branchTo off = targetOf x off := by
  rw [targetOf, BitVec.ofInt_add, BitVec.ofInt_mul, BitVec.ofInt_toInt]
  rfl

section

variable {s : State} {c : Fin 9} {m : Word}

/-- A jump to a target outside the fetch area or off a word boundary (R262). -/
theorem State.jump_bad (f : Core → Core) (h : goodTarget (s.core c).large m = false) (hopen : (s.core c).faultsOpen) :
    (s.jump c m f).finish c s = s.setCore c ((s.core c).faultEntry (s.core c).pc fcFetch 0 (some m)) := by
  rw [State.jump, h, if_neg Bool.false_ne_true]
  exact State.coreFault_open hopen _ _ _ _

/-- A call on a pail core saves the return address in G14. -/
theorem State.callTo_pail (hlarge : (s.core c).large = false) (h : goodTarget false m = true) :
    (s.callTo c m).finish c s = s.setCore c (((s.core c).setReg 14#4 ((s.core c).pc + 4#32)).goesTo m) := by
  rw [State.callTo, hlarge, Bool.false_and, Bool.false_and, if_neg Bool.false_ne_true, State.jump_good _ (hlarge ▸ h), Core.saveReturn, hlarge]
  rfl

/-- A call on the vat core pushes the return address. -/
theorem State.callTo_vat (hlarge : (s.core c).large = true) (h : goodTarget true m = true) (hroom : (s.core c).rs.length < 60) :
    (s.callTo c m).finish c s = s.setCore c ((s.core c).pushCall.goesTo m) := by
  have hble : Nat.ble 60 (s.core c).rs.length = false := Bool.eq_false_iff.2 fun hle => Nat.not_le_of_lt hroom (Nat.le_of_ble_eq_true hle)
  rw [State.callTo, hble, Bool.and_false, if_neg Bool.false_ne_true, State.jump_good _ (hlarge ▸ h), Core.saveReturn, if_pos hlarge]
  rfl

theorem State.callTo_full (hlarge : (s.core c).large = true) (h : goodTarget true m = true) (hfull : 60 ≤ (s.core c).rs.length) :
    s.callTo c m = s.faultNow c fcStackRs 1 := by
  rw [State.callTo, hlarge, h, Nat.ble_eq_true_of_le hfull]
  rfl

end

/-- Settles O13: a taken branch or a jump goes to a good target, a call saves its return address where the profile keeps it, a return takes it from there. -/
theorem branchesJumpsAndCalls : Obligations.BranchesJumpsAndCalls := by
  refine ⟨fun c cond off s hrun => ⟨fun hcond => ?_, fun hcond hgood => ?_, fun hcond hbad hopen => ?_⟩,
    fun c d a b cond k off s hlarge => ⟨fun hrun hgood => ?_, fun hrun hgood => ?_, fun hrun hgood => ?_, fun hrun hgood => ?_⟩,
    fun c d a b cond k off e l s hlarge => ⟨fun hrun hgood => ?_, fun hrun hgood hroom => ?_, fun hrun hgood hroom => ?_, fun hrun hrs hkind hgood => ?_,
      fun hrun hgood hfull hopen => ?_, fun hrun hrs => ?_, fun hrun hrs hkind hopen => ?_⟩⟩
  · refine (State.issue_run hrun _).trans (congrArg _ ?_)
    simp only [hcond, Bool.false_eq_true, if_false, Eff.finish_done]
    rfl
  · refine (State.issue_run hrun _).trans (congrArg _ ?_)
    simp only [hcond, if_true, Core.branchTo_eq]
    exact State.jump_good id hgood
  · refine (State.issue_run hrun _).trans (congrArg _ ?_)
    simp only [hcond, if_true, Core.branchTo_eq]
    exact State.jump_bad id hbad hopen
  · exact (State.issue_run hrun _).trans (congrArg _ (State.jump_good id (hlarge ▸ hgood)))
  · refine (State.issue_run hrun _).trans (congrArg _ ?_)
    rw [Core.branchTo_eq]
    exact State.callTo_pail hlarge hgood
  · exact (State.issue_run hrun _).trans (congrArg _ (State.callTo_pail hlarge hgood))
  · refine (State.issue_run hrun _).trans (congrArg _ ?_)
    simp only [hlarge, Bool.false_eq_true, if_false]
    exact State.jump_good id (hlarge ▸ hgood)
  · exact (State.issue_run hrun _).trans (congrArg _ (State.jump_good id (hlarge ▸ hgood)))
  · refine (State.issue_run hrun _).trans (congrArg _ ?_)
    rw [Core.branchTo_eq]
    exact State.callTo_vat hlarge hgood hroom
  · exact (State.issue_run hrun _).trans (congrArg _ (State.callTo_vat hlarge hgood hroom))
  · refine (State.issue_run hrun _).trans (congrArg _ ?_)
    simp only [hlarge, hrs, hkind, if_true]
    rw [State.jump_good _ (hlarge ▸ hgood), hrs]
    rfl
  · refine (State.issue_run hrun _).trans (congrArg _ ?_)
    rw [Core.branchTo_eq, State.callTo_full hlarge hgood hfull]
    exact State.faultNow_open hopen _ _
  · refine (State.issue_run hrun _).trans (congrArg _ ?_)
    simp only [hlarge, hrs, if_true]
    exact State.faultNow_open (Core.faultsOpen_of_rs_nil hlarge hrs) _ _
  · refine (State.issue_run hrun _).trans (congrArg _ ?_)
    simp only [hlarge, hrs, hkind, if_true, if_false]
    exact State.faultNow_open hopen _ _

/-! ### The system group (R247, R263, R271, R275) -/

/-- Settles O16: NOP leaves its core alone, EI and DI move IE, WAIT goes on where a source is ready. -/
theorem systemResults : Obligations.SystemResults := by
  refine fun c d a b k s => ⟨fun hrun => State.issue_run hrun _, fun hrun => (State.issue_run hrun _).trans (congrArg _ (State.coreOnly_finish _ _ _)),
    fun hrun => (State.issue_run hrun _).trans (congrArg _ (State.coreOnly_finish _ _ _)), fun hrun hready => ?_, fun hrun hready => ?_⟩
  · refine (State.issue_run hrun _).trans (congrArg _ ?_)
    simp only [hready, if_true, Eff.finish_done]
    rfl
  · refine (State.issue_run hrun _).trans (congrArg _ ?_)
    simp only [hready, Bool.false_eq_true, if_false, Eff.finish_rest]

theorem resume_toNat (n : Word) : resume n.toNat = if n = 0#32 then none else some n.toNat := by
  have hzero : n.toNat = (0#32).toNat ↔ n = 0#32 := BitVec.toNat_eq.symm
  exact if_congr hzero rfl rfl

/-- Settles O17: ERET takes what an entry saved back from where the core's profile keeps it. -/
theorem eretResults : Obligations.EretResults := by
  refine fun c d a b k e l s hrun => ⟨fun hlarge => ?_, fun hlarge hrs hkind => ?_, fun hlarge hrs => ?_, fun hlarge hrs hkind hopen => ?_⟩
  · refine (State.issue_run hrun _).trans (congrArg _ ?_)
    simp only [hlarge, Bool.false_eq_true, if_false, Eff.finish_go, State.core_setCore_same, State.setCore_setCore, resume_toNat, restoreFlags]
  · refine (State.issue_run hrun _).trans (congrArg _ ?_)
    simp only [hlarge, hrs, hkind, if_true, if_false, Eff.finish_go, State.core_setCore_same, State.setCore_setCore, resume, restoreFlags]
  · refine (State.issue_run hrun _).trans (congrArg _ ?_)
    simp only [hlarge, hrs, if_true]
    exact State.faultNow_open (Core.faultsOpen_of_rs_nil hlarge hrs) _ _
  · refine (State.issue_run hrun _).trans (congrArg _ ?_)
    simp only [hlarge, hrs, hkind, if_true]
    exact State.faultNow_open hopen _ _

section

variable {c : Fin 9} {d a b : BitVec 4} {k : BitVec 8} {s : State}

theorem exec_mfs (hrun : s.canRun c (.mfs c d a b k)) :
    exec (.mfs c d a b k) s = .next (s.ranTo c ((s.core c).setReg d ((s.core c).special c k.toNat))) :=
  (State.issue_run hrun _).trans (congrArg _ (State.coreOnly_finish _ _ _))

theorem exec_mts (hrun : s.canRun c (.mts c d a b k)) :
    exec (.mts c d a b k) s = .next (s.ranTo c ((s.core c).setSpecial k.toNat ((s.core c).reg a))) :=
  (State.issue_run hrun _).trans (congrArg _ (State.coreOnly_finish _ _ _))

end

/-- What MFS of EVT_PC reads on each profile (R247, assumption 19). -/
theorem Core.special_evtPc (x : Core) (k : Nat) : x.special k 2 = if x.large then x.newestEntry else x.evtPc := rfl

theorem Core.special_coreId (x : Core) (k : Nat) : x.special k 14 = w32 (k + if x.large then 16 else 0) := rfl

/-- Settles O15: each number names its register, with that register's own access. -/
theorem specialRegisterReadsAndWrites : Obligations.SpecialRegisterReadsAndWrites := by
  refine ⟨fun c d a b k s hrun => ?_, fun c d a b k s hrun => ?_⟩
  · have reads {n : Nat} {v : Word} (hv : (s.core c).special c n = v) (hn : k.toNat = n) :
        exec (.mfs c d a b k) s = .next (s.ranTo c ((s.core c).setReg d v)) := by rw [exec_mfs hrun, hn, hv]
    exact ⟨reads rfl, reads rfl, fun h => reads (by rw [Core.special_evtPc, h]; rfl), fun h => reads (by rw [Core.special_evtPc, h]; rfl), reads rfl,
      reads rfl, reads rfl, reads rfl, reads rfl, reads rfl, reads rfl, reads rfl, reads rfl, reads rfl, reads rfl,
      fun h => reads (by rw [Core.special_coreId, h]; rfl), fun h => reads (by rw [Core.special_coreId, h]; rfl), reads rfl, reads rfl, reads rfl⟩
  · have writes {n : Nat} {y : Core} (hy : (s.core c).setSpecial n ((s.core c).reg a) = y) (hn : k.toNat = n) :
        exec (.mts c d a b k) s = .next (s.ranTo c y) := by rw [exec_mts hrun, hn, hy]
    exact ⟨writes rfl, writes rfl, writes rfl, writes rfl, writes rfl, writes rfl, fun h => writes (by rw [Core.setSpecial, h]; rfl),
      fun h => writes (by rw [Core.setSpecial, h]; rfl), writes rfl, writes rfl, writes rfl, writes rfl, writes rfl, writes rfl, writes rfl⟩

/-! ### Events and the end of WAIT (R267, R270, R275) -/

theorem getLsbD_ne_zero {w : Word} {n : Nat} (h : w.getLsbD n = true) : w ≠ 0#32 := by
  rintro rfl
  exact Bool.false_ne_true (BitVec.getLsbD_zero.symm.trans h)

/-- A source that is pending and enabled makes its core ready. -/
theorem Core.ready_of_sourceReady {x : Core} {n : Nat} (h : x.sourceReady n = true) : x.ready = true := by
  unfold Core.sourceReady at h
  simp only [Core.ready, Bool.or_eq_true, bne_iff_ne]
  split at h
  · exact .inl (.inl (getLsbD_ne_zero h))
  · split at h
    · exact .inl (.inr (getLsbD_ne_zero h))
    · exact .inr (getLsbD_ne_zero h)

theorem Core.lowestSource_of_lowest {x : Core} {n : Nat} (h : x.lowest n) : x.lowestSource = some n := by
  obtain ⟨hready, hlt, hbelow⟩ := h
  refine List.find?_range_eq_some.2 ⟨hready, List.mem_range.2 hlt, fun m hm => ?_⟩
  rw [hbelow m hm]
  rfl

theorem Core.lowestSource_of_not_ready {x : Core} (h : x.ready = false) : x.lowestSource = none := by
  refine List.find?_eq_none.2 fun n _ hn => ?_
  exact Bool.false_ne_true (h.symm.trans (Core.ready_of_sourceReady hn))

theorem Core.takesEvents_iff (x : Core) : x.takesEvents = true ↔ x.mayTake := by
  unfold Core.takesEvents Core.mayTake
  cases hlarge : x.large <;> simp [-BitVec.getLsbD_eq_getElem, and_assoc, Nat.ble_eq]

theorem Core.takeEvent_of_lowest {x : Core} {n : Nat} (h : x.lowest n) (hmay : x.mayTake) : x.takeEvent = x.eventEntry n := by
  rw [Core.takeEvent, Core.lowestSource_of_lowest h]
  exact if_pos (x.takesEvents_iff.2 hmay)

theorem Core.takeEvent_of_not_mayTake {x : Core} (h : ¬ x.mayTake) : x.takeEvent = x := by
  unfold Core.takeEvent
  split
  · exact if_neg fun htakes => h (x.takesEvents_iff.1 htakes)
  · rfl

theorem Core.takeEvent_of_not_ready {x : Core} (h : x.ready = false) : x.takeEvent = x := by
  rw [Core.takeEvent, Core.lowestSource_of_not_ready h]

theorem Core.eventEntry_pail {x : Core} (h : x.large = false) (n : Nat) :
    x.eventEntry n = { x with
      evtPc := x.pc, evtFlags := x.flags, evtIter := 0#32, evtCause := w32 n, flags := x.flags &&& 0xFFFEFFFF#32, pc := x.vecBase, rep := none,
      stalled := false, held := false } := by
  simp only [Core.eventEntry, h, Bool.false_eq_true, if_false]
  rfl

theorem Core.eventEntry_vat {x : Core} (h : x.large = true) (n : Nat) :
    x.eventEntry n = { x with
      rs := ⟨.event, x.pc, x.flags, x.rep.getD 0⟩ :: x.rs, evtCause := w32 n, flags := x.flags &&& 0xFFFEFFFF#32, pc := x.vecBase, rep := none,
      stalled := false, held := false } := by
  simp only [Core.eventEntry, h, if_true]
  rfl

section

variable {s : State} {c : Fin 9}

theorem exec_eventEntry (h : s.coreIssues c = true) : exec (.eventEntry c) s = .next (s.setCore c (s.core c).takeEvent) := if_pos h

/-- A core of a domain that has agreed to a lower state takes no event and does not leave WAIT (R384). -/
theorem exec_eventEntry_agreed (h : s.domAgreed (s.coreDom c) = true) : exec (.eventEntry c) s = .next s := by
  refine if_neg ?_
  rw [State.coreIssues, h, Bool.not_true, Bool.and_false]
  exact Bool.false_ne_true

theorem exec_waitEnd_agreed (h : s.domAgreed (s.coreDom c) = true) : exec (.waitEnd c) s = .next s := by
  refine if_neg ?_
  rw [h, Bool.not_true, Bool.and_false]
  exact Bool.false_ne_true

theorem exec_waitEnd {n : Nat} (hrunning : (s.core c).running = true) (hhalted : (s.core c).halted = false) (hwaiting : (s.core c).waiting = true)
    (hon : s.domIsOn (s.coreDom c) = true) (hagreed : s.domAgreed (s.coreDom c) = false) (hlowest : (s.core c).lowest n) :
    exec (.waitEnd c) s = .next (s.setCore c (s.core c).waitOver.takeEvent) := by
  refine if_pos ?_
  rw [hrunning, hhalted, hwaiting, Core.ready_of_sourceReady hlowest.1, hon, hagreed]
  rfl

end

/-- Settles O20: an event is taken where the lowest source is ready and the boundary allows it, and WAIT ends by the same test behind it. -/
theorem eventEntryAndWaitEnd : Obligations.EventEntryAndWaitEnd := by
  refine ⟨fun c n s hissues => ⟨fun hlowest hmay => ⟨_, exec_eventEntry hissues, ?_⟩, fun hnot => ?_⟩,
    fun c n s hrunning hhalted hwaiting hon hagreed hlowest => ?_, fun c s hagreed => ⟨exec_eventEntry_agreed hagreed, exec_waitEnd_agreed hagreed⟩⟩
  · beta_reduce
    rw [State.core_setCore_same, Core.takeEvent_of_lowest hlowest hmay]
    cases hlarge : (s.core c).large with
    | false =>
      rw [Core.eventEntry_pail hlarge]
      exact ⟨rfl, rfl, rfl, rfl, rfl, rfl, rfl, fun _ => ⟨rfl, rfl, rfl⟩, fun h => absurd h Bool.false_ne_true⟩
    | true =>
      rw [Core.eventEntry_vat hlarge]
      exact ⟨rfl, rfl, rfl, rfl, rfl, rfl, rfl, fun h => absurd h.symm Bool.false_ne_true, fun _ => rfl⟩
  · rw [exec_eventEntry hissues, hnot.elim Core.takeEvent_of_not_ready Core.takeEvent_of_not_mayTake]
  · have hexec := exec_waitEnd hrunning hhalted hwaiting hon hagreed hlowest
    have hlowest' : (s.core c).waitOver.lowest n := hlowest
    refine ⟨fun hie => ⟨_, hexec, ?_⟩, fun hie hstalled hlarge hrep => ⟨_, hexec, ?_⟩, fun hie hstalled hlarge hroom => ⟨_, hexec, ?_⟩⟩
    · have hnot : ¬ (s.core c).waitOver.mayTake := fun hmay => Bool.false_ne_true (hie.symm.trans hmay.1)
      beta_reduce
      rw [State.core_setCore_same, Core.takeEvent_of_not_mayTake hnot]
      exact ⟨rfl, rfl, rfl⟩
    · have hsmall : (s.core c).waitOver.large = false := hlarge
      have hmay : (s.core c).waitOver.mayTake := ⟨hie, rfl, hstalled, fun h => absurd (hsmall.symm.trans h) Bool.false_ne_true, fun _ => hrep⟩
      beta_reduce
      rw [State.core_setCore_same, Core.takeEvent_of_lowest hlowest' hmay, Core.eventEntry_pail hsmall]
      exact ⟨rfl, rfl, rfl, rfl⟩
    · have hvat : (s.core c).waitOver.large = true := hlarge
      have hmay : (s.core c).waitOver.mayTake := ⟨hie, rfl, hstalled, fun _ => hroom, fun h => absurd (h.symm.trans hvat) Bool.false_ne_true⟩
      beta_reduce
      rw [State.core_setCore_same, Core.takeEvent_of_lowest hlowest' hmay, Core.eventEntry_vat hvat]
      exact ⟨rfl, rfl, rfl, rfl, rfl⟩

end Sys2Proof.Machine
end

section
/-! SUPPORT. What the computing instructions change and leave unchanged (R244 to R247, R256 to R260), repeats of instructions, and the statements O14 and O21. -/

namespace Sys2Proof.Machine

/-! ### The bits of FLAGS that no computation sets (R245) -/

/-- The bits of FLAGS that are reserved, and PROF (R245). -/
abbrev fixedFlags : Word := 0xFFFCFCF0#32

theorem bitTo_fixed (f : Word) {i : Nat} (b : Bool) (hi : i < 32) (hfree : fixedFlags.getLsbD i = false) : bitTo f i b &&& fixedFlags = f &&& fixedFlags := by
  refine BitVec.eq_of_getLsbD_eq fun j _ => ?_
  rw [BitVec.getLsbD_and, BitVec.getLsbD_and, getLsbD_bitTo f b hi]
  by_cases hj : j = i
  · rw [hj, hfree, Bool.and_false, Bool.and_false]
  · rw [if_neg hj]

theorem flNZ_fixed (r f : Word) : flNZ r f &&& fixedFlags = f &&& fixedFlags := by
  rw [flNZ, bitTo_fixed _ _ (by decide) (by decide), bitTo_fixed _ _ (by decide) (by decide)]

theorem aluNZ_fixed (r f : Word) : (aluNZ r f).f &&& fixedFlags = f &&& fixedFlags := flNZ_fixed r f

theorem flNZV_fixed (r : Word) (v : Bool) (f : Word) : flNZV r v f &&& fixedFlags = f &&& fixedFlags := by
  rw [flNZV, bitTo_fixed _ _ (by decide) (by decide), flNZ_fixed]

theorem flNZCV_fixed (r : Word) (c v : Bool) (f : Word) : flNZCV r c v f &&& fixedFlags = f &&& fixedFlags := by
  rw [flNZCV, bitTo_fixed _ _ (by decide) (by decide), flNZV_fixed]

theorem flSat_fixed (r : Word) (clamped : Bool) (f : Word) : flSat r clamped f &&& fixedFlags = f &&& fixedFlags := by
  unfold flSat
  dsimp only
  split
  · rw [bitTo_fixed _ _ (by decide) (by decide), flNZV_fixed]
  · exact flNZV_fixed _ _ _

theorem aluSat_fixed (e : Int) (f : Word) : (aluSat e f).f &&& fixedFlags = f &&& fixedFlags := by
  rw [aluSat_eq]
  exact flSat_fixed _ _ _

theorem aluShls_fixed (a : Word) (n : Nat) (f : Word) : (aluShls a n f).f &&& fixedFlags = f &&& fixedFlags := by
  rw [aluShls_eq, bitTo_fixed _ _ (by decide) (by decide)]
  exact flSat_fixed _ _ _

theorem aluDiv_fixed (r : Word) (v dz : Bool) (f : Word) : (aluDiv r v dz f).f &&& fixedFlags = f &&& fixedFlags := by
  unfold aluDiv
  dsimp only
  split
  · rw [bitTo_fixed _ _ (by decide) (by decide), flNZV_fixed]
  · exact flNZV_fixed _ _ _

theorem aluDivS_fixed (a b f : Word) : (aluDivS a b f).f &&& fixedFlags = f &&& fixedFlags := by
  unfold aluDivS
  split
  · exact aluDiv_fixed _ _ _ _
  · split <;> exact aluDiv_fixed _ _ _ _

theorem aluDivU_fixed (a b f : Word) : (aluDivU a b f).f &&& fixedFlags = f &&& fixedFlags := by
  unfold aluDivU
  split <;> exact aluDiv_fixed _ _ _ _

theorem aluRemS_fixed (a b f : Word) : (aluRemS a b f).f &&& fixedFlags = f &&& fixedFlags := by
  unfold aluRemS
  split <;> exact aluDiv_fixed _ _ _ _

theorem aluRemU_fixed (a b f : Word) : (aluRemU a b f).f &&& fixedFlags = f &&& fixedFlags := by
  unfold aluRemU
  split <;> exact aluDiv_fixed _ _ _ _

/-- PROF stays where FLAGS keep their fixed bits. -/
theorem large_of_fixed {x y : Core} (h : y.flags &&& fixedFlags = x.flags &&& fixedFlags) : y.large = x.large := by
  have hprof : fixedFlags.getLsbD fProf = true := rfl
  have hbit : (y.flags &&& fixedFlags).getLsbD fProf = (x.flags &&& fixedFlags).getLsbD fProf := by rw [h]
  rw [BitVec.getLsbD_and, BitVec.getLsbD_and, hprof, Bool.and_true, Bool.and_true] at hbit
  exact hbit

/-! ### A core after a computation -/

/-- The instruction divides by a register of the core that holds 0. -/
def Core.dividesByZero (x : Core) (c : Fin 9) (d : BitVec 4) (i : Instr) : Prop :=
  ∃ a b k, x.reg b = 0#32 ∧ (i = .divI c d a b k ∨ i = .divu c d a b k ∨ i = .rem c d a b k ∨ i = .remu c d a b k)

/-- The DIV0 source of `x` has become pending in `y` (R260). -/
def Core.div0Raised (x y : Core) : Prop :=
  (x.large = false ∧ y.pend0 = x.pend0 ||| 1#32 ∧ y.pend2 = x.pend2) ∨ (x.large = true ∧ y.pend0 = x.pend0 ∧ y.pend2 = x.pend2 ||| 1#32)

/-- Core `x` has become `y` by a computation of instruction `i` with destination `d`. -/
structure Core.Computed (c : Fin 9) (i : Instr) (d : BitVec 4) (x y : Core) : Prop where
  rest : y = { x with g := y.g, flags := y.flags, pend0 := y.pend0, pend2 := y.pend2 }
  reg : ∀ r, r ≠ d → y.reg r = x.reg r
  fixed : y.flags &&& fixedFlags = x.flags &&& fixedFlags
  pend : (y.pend0 = x.pend0 ∧ y.pend2 = x.pend2) ∨ (x.dividesByZero c d i ∧ x.div0Raised y)

/-- Instruction `i` of core `c` changes its core alone, by a computation with destination `d`. -/
def ComputesBy (c : Fin 9) (i : Instr) (d : BitVec 4) : Prop :=
  ∃ f : Core → Core, (∀ s, exec i s = s.issue c i fun s => s.coreOnly c f) ∧ ∀ x : Core, x.Computed c i d (f x)

section

variable {c : Fin 9} {i : Instr} {d : BitVec 4}

/-- A register written changes the table of registers alone. -/
theorem Core.setReg_rest (x : Core) (v : Word) : x.setReg d v = { x with g := (x.setReg d v).g } := by
  unfold Core.setReg
  split <;> rfl

theorem Core.Computed.of_setReg (x : Core) (v : Word) : x.Computed c i d (x.setReg d v) where
  rest := by rw [x.setReg_rest]
  reg _ hr := x.reg_setReg_other v hr
  fixed := by rw [x.setReg_rest]
  pend := .inl (by rw [x.setReg_rest]; exact ⟨rfl, rfl⟩)

theorem Core.Computed.of_result {x : Core} {r : Alu} (hr : r.f &&& fixedFlags = x.flags &&& fixedFlags) : x.Computed c i d (x.result d r) where
  rest := by rw [Core.result, x.setReg_rest]
  reg _ hq := x.reg_setReg_other r.r hq
  fixed := hr
  pend := .inl (by rw [Core.result, x.setReg_rest]; exact ⟨rfl, rfl⟩)

/-- A computation of a division by 0 that also makes DIV0 pending. -/
theorem Core.Computed.raiseDiv0 {x y : Core} (h : x.Computed c i d y) (hp0 : y.pend0 = x.pend0) (hp2 : y.pend2 = x.pend2) (hzero : x.dividesByZero c d i) :
    x.Computed c i d y.raiseDiv0 := by
  have hlarge : y.large = x.large := large_of_fixed h.fixed
  cases hx : x.large with
  | false =>
    have hraise : y.raiseDiv0 = { y with pend0 := y.pend0 ||| 1#32 } := by rw [Core.raiseDiv0, hlarge, hx]; rfl
    rw [hraise]
    exact ⟨by rw [h.rest], h.reg, h.fixed, .inr ⟨hzero, .inl ⟨hx, hp0 ▸ rfl, hp2⟩⟩⟩
  | true =>
    have hraise : y.raiseDiv0 = { y with pend2 := y.pend2 ||| 1#32 } := by rw [Core.raiseDiv0, hlarge, hx]; rfl
    rw [hraise]
    exact ⟨by rw [h.rest], h.reg, h.fixed, .inr ⟨hzero, .inr ⟨hx, hp0, hp2 ▸ rfl⟩⟩⟩

theorem ComputesBy.of_setReg (v : Core → Word) (hexec : ∀ s, exec i s = s.issue c i fun s => s.coreOnly c fun x => x.setReg d (v x)) : ComputesBy c i d :=
  ⟨_, hexec, fun x => .of_setReg x (v x)⟩

theorem ComputesBy.of_alu (g : Core → Alu) (hexec : ∀ s, exec i s = s.issue c i fun s => s.alu c d g)
    (hg : ∀ x, (g x).f &&& fixedFlags = x.flags &&& fixedFlags) : ComputesBy c i d :=
  ⟨_, hexec, fun x => .of_result (hg x)⟩

theorem ComputesBy.of_divide {a b : BitVec 4} {k : BitVec 8} {g : Word → Word → Word → Alu}
    (hexec : ∀ s, exec i s = s.issue c i fun s => s.divide c d a b g) (hg : ∀ u v f, (g u v f).f &&& fixedFlags = f &&& fixedFlags)
    (hi : i = .divI c d a b k ∨ i = .divu c d a b k ∨ i = .rem c d a b k ∨ i = .remu c d a b k) : ComputesBy c i d := by
  refine ⟨_, hexec, fun x => ?_⟩
  have hresult : x.Computed c i d (x.result d (g (x.reg a) (x.reg b) x.flags)) := .of_result (hg _ _ _)
  have hpend : (x.result d (g (x.reg a) (x.reg b) x.flags)).pend0 = x.pend0 ∧ (x.result d (g (x.reg a) (x.reg b) x.flags)).pend2 = x.pend2 := by
    rw [Core.result, x.setReg_rest]
    exact ⟨rfl, rfl⟩
  dsimp only
  split
  · next hb => exact hresult.raiseDiv0 hpend.1 hpend.2 ⟨a, b, k, hb, hi⟩
  · exact hresult

/-- Each instruction that only computes does so by one computation of its core. -/
theorem exec_computes (hi : i.computes = some (c, d)) : ComputesBy c i d := by
  cases i with
  | add => cases hi; exact .of_alu _ (fun _ => rfl) fun _ => flNZCV_fixed _ _ _ _
  | adc => cases hi; exact .of_alu _ (fun _ => rfl) fun _ => flNZCV_fixed _ _ _ _
  | sub => cases hi; exact .of_alu _ (fun _ => rfl) fun _ => flNZCV_fixed _ _ _ _
  | sbc => cases hi; exact .of_alu _ (fun _ => rfl) fun _ => flNZCV_fixed _ _ _ _
  | adds => cases hi; exact .of_alu _ (fun _ => rfl) fun _ => aluSat_fixed _ _
  | subs => cases hi; exact .of_alu _ (fun _ => rfl) fun _ => aluSat_fixed _ _
  | neg => cases hi; exact .of_alu _ (fun _ => rfl) fun _ => flNZCV_fixed _ _ _ _
  | negs => cases hi; exact .of_alu _ (fun _ => rfl) fun _ => aluSat_fixed _ _
  | andI => cases hi; exact .of_alu _ (fun _ => rfl) fun _ => aluNZ_fixed _ _
  | orI => cases hi; exact .of_alu _ (fun _ => rfl) fun _ => aluNZ_fixed _ _
  | xor => cases hi; exact .of_alu _ (fun _ => rfl) fun _ => aluNZ_fixed _ _
  | andn => cases hi; exact .of_alu _ (fun _ => rfl) fun _ => aluNZ_fixed _ _
  | minI => cases hi; exact .of_alu _ (fun _ => rfl) fun _ => aluNZ_fixed _ _
  | maxI => cases hi; exact .of_alu _ (fun _ => rfl) fun _ => aluNZ_fixed _ _
  | minu => cases hi; exact .of_alu _ (fun _ => rfl) fun _ => aluNZ_fixed _ _
  | maxu => cases hi; exact .of_alu _ (fun _ => rfl) fun _ => aluNZ_fixed _ _
  | abs => cases hi; exact .of_alu _ (fun _ => rfl) fun _ => flNZV_fixed _ _ _
  | abss => cases hi; exact .of_alu _ (fun _ => rfl) fun _ => aluSat_fixed _ _
  | sextb => cases hi; exact .of_alu _ (fun _ => rfl) fun _ => aluNZ_fixed _ _
  | sexth => cases hi; exact .of_alu _ (fun _ => rfl) fun _ => aluNZ_fixed _ _
  | clz => cases hi; exact .of_alu _ (fun _ => rfl) fun _ => aluNZ_fixed _ _
  | popc => cases hi; exact .of_alu _ (fun _ => rfl) fun _ => aluNZ_fixed _ _
  | sel => cases hi; exact .of_alu _ (fun _ => rfl) fun _ => rfl
  | mul => cases hi; exact .of_alu _ (fun _ => rfl) fun _ => aluNZ_fixed _ _
  | mulh => cases hi; exact .of_alu _ (fun _ => rfl) fun _ => aluNZ_fixed _ _
  | mulhu => cases hi; exact .of_alu _ (fun _ => rfl) fun _ => aluNZ_fixed _ _
  | mac => cases hi; exact .of_alu _ (fun _ => rfl) fun _ => aluNZ_fixed _ _
  | macs => cases hi; exact .of_alu _ (fun _ => rfl) fun _ => aluSat_fixed _ _
  | mulq => cases hi; exact .of_alu _ (fun _ => rfl) fun _ => aluSat_fixed _ _
  | macq => cases hi; exact .of_alu _ (fun _ => rfl) fun _ => aluSat_fixed _ _
  | divI => cases hi; exact .of_divide (fun _ => rfl) aluDivS_fixed (.inl rfl)
  | divu => cases hi; exact .of_divide (fun _ => rfl) aluDivU_fixed (.inr (.inl rfl))
  | rem => cases hi; exact .of_divide (fun _ => rfl) aluRemS_fixed (.inr (.inr (.inl rfl)))
  | remu => cases hi; exact .of_divide (fun _ => rfl) aluRemU_fixed (.inr (.inr (.inr rfl)))
  | mfs => cases hi; exact .of_setReg _ (fun _ => rfl)
  | shl => cases hi; exact .of_alu _ (fun _ => rfl) fun _ => flNZCV_fixed _ _ _ _
  | shr => cases hi; exact .of_alu _ (fun _ => rfl) fun _ => flNZCV_fixed _ _ _ _
  | sar => cases hi; exact .of_alu _ (fun _ => rfl) fun _ => flNZCV_fixed _ _ _ _
  | ror => cases hi; exact .of_alu _ (fun _ => rfl) fun _ => flNZCV_fixed _ _ _ _
  | rol => cases hi; exact .of_alu _ (fun _ => rfl) fun _ => flNZCV_fixed _ _ _ _
  | shls => cases hi; exact .of_alu _ (fun _ => rfl) fun _ => aluShls_fixed _ _ _
  | addi => cases hi; exact .of_alu _ (fun _ => rfl) fun _ => flNZCV_fixed _ _ _ _
  | subi => cases hi; exact .of_alu _ (fun _ => rfl) fun _ => flNZCV_fixed _ _ _ _
  | andi => cases hi; exact .of_alu _ (fun _ => rfl) fun _ => aluNZ_fixed _ _
  | ori => cases hi; exact .of_alu _ (fun _ => rfl) fun _ => aluNZ_fixed _ _
  | xori => cases hi; exact .of_alu _ (fun _ => rfl) fun _ => aluNZ_fixed _ _
  | lui => cases hi; exact .of_setReg _ (fun _ => rfl)
  | _ => exact absurd hi (Option.some_ne_none _).symm

variable {s : State}

/-- What a computing instruction leads to. -/
theorem exec_of_computes (hi : i.computes = some (c, d)) (hrun : s.canRun c i) :
    ∃ y, (s.core c).Computed c i d y ∧ exec i s = .next (s.ranTo c y) := by
  obtain ⟨f, hexec, hf⟩ := exec_computes hi
  refine ⟨f (s.core c), hf _, ?_⟩
  rw [hexec, State.issue_run hrun, State.coreOnly_finish]
  rfl

/-- Going on to the next iteration or instruction moves PC, the repeat and the marks of the instruction stream alone. -/
theorem Core.retire_rest (y : Core) : y.retire = { y with pc := y.retire.pc, rep := y.retire.rep, stalled := false, held := false } := by
  unfold Core.retire
  split <;> rfl

theorem Core.Computed.onlyRegs_retire {x y : Core} (h : x.Computed c i d y) : x.onlyRegs y.retire [d] := by
  have hreg : ∀ r, y.retire.reg r = y.reg r := fun r => by rw [Core.retire_rest]; rfl
  refine ⟨fun r hr => (hreg r).trans (h.reg r fun hd => hr (hd ▸ List.mem_singleton_self d)), ?_⟩
  rw [Core.retire_rest, h.rest]
  exact ⟨rfl, rfl, rfl, rfl, rfl, rfl, rfl, rfl, rfl, rfl, rfl, rfl, rfl, rfl, rfl, rfl, rfl⟩

theorem Core.Computed.pend_retire {x y : Core} (h : x.Computed c i d y) :
    y.retire.pend1 = x.pend1 ∧ ((y.retire.pend0 = x.pend0 ∧ y.retire.pend2 = x.pend2) ∨ (x.dividesByZero c d i ∧ x.div0Raised y.retire)) := by
  have hpend1 : y.pend1 = x.pend1 := by rw [h.rest]
  rw [Core.retire_rest]
  exact ⟨hpend1, h.pend⟩

end

/-- Settles O21: a computing instruction leaves all but its own core as it was, and of its core it moves a register, FLAGS and DIV0's bit alone. -/
theorem computationFrame : Obligations.ComputationFrame := by
  intro i c d s t hi hrun hexec
  obtain ⟨y, hy, hran⟩ := exec_of_computes hi hrun
  cases hran.symm.trans hexec
  have hcore : (s.ranTo c y).core c = y.retire := State.core_setCore_same _ _ _
  rw [hcore]
  exact ⟨hy.onlyRegs_retire, hy.pend_retire.1, hy.pend_retire.2, fun k hk => State.core_setCore_other _ _ hk, fun _ => rfl, fun _ => rfl, rfl, rfl, rfl, rfl,
    rfl⟩

/-! ### Repeats (R264, R265) -/

/-- MFS and MTS, the instructions of OP 0x03 that may be repeated. -/
def Instr.movesSpecial : Instr → Bool
  | .mfs .. | .mts .. => true
  | _ => false

section

variable {c : Fin 9} {i : Instr} {w : Nat}

theorem decodeInt_plain (h : decodeInt c w = some i) : Instr.movesSpecial i = false := by
  unfold decodeInt at h
  split at h <;> cases h <;> rfl

theorem decodeMul_plain (h : decodeMul c w = some i) : Instr.movesSpecial i = false := by
  unfold decodeMul at h
  split at h <;> cases h <;> rfl

theorem decodeShift_plain (h : decodeShift c w = some i) : Instr.movesSpecial i = false := by
  unfold decodeShift at h
  split at h <;> cases h <;> rfl

theorem decodeJump_plain (h : decodeJump c w = some i) : Instr.movesSpecial i = false := by
  unfold decodeJump at h
  split at h <;> cases h <;> rfl

theorem decodeStack_plain {f : FormA} (hf : ∀ c d a b k, Instr.movesSpecial (f c d a b k) = false) (h : decodeStack f c w = some i) :
    Instr.movesSpecial i = false := by
  unfold decodeStack at h
  split at h
  · cases h; exact hf ..
  · cases h

theorem decodeSystem_moves (h : decodeSystem c w = some i) :
    (w % 64 = 1 ∨ w % 64 = 2) ↔ (∃ d a b k, i = .mfs c d a b k) ∨ ∃ d a b k, i = .mts c d a b k := by
  unfold decodeSystem at h
  split at h
  case h_2 hfn => cases h; exact iff_of_true (.inl hfn) (.inl ⟨_, _, _, _, rfl⟩)
  case h_3 hfn => cases h; exact iff_of_true (.inr hfn) (.inr ⟨_, _, _, _, rfl⟩)
  case h_10 => cases h
  all_goals
    cases h
    refine iff_of_false (by omega) ?_
    rintro (⟨_, _, _, _, h⟩ | ⟨_, _, _, _, h⟩) <;> cases h

/-- A word of another OP spells neither MFS nor MTS. -/
theorem decodeFilsy_plain {w : Word} (h : decodeFilsy c w = some i) (hop : w.toNat / 67108864 ≠ 3) : Instr.movesSpecial i = false := by
  unfold decodeFilsy at h
  dsimp only at h
  split at h
  case h_1 => exact decodeInt_plain h
  case h_2 => exact decodeMul_plain h
  case h_3 => exact decodeShift_plain h
  case h_4 heq => exact absurd heq hop
  case h_23 => exact decodeStack_plain (fun _ _ _ _ _ => rfl) h
  case h_24 => exact decodeStack_plain (fun _ _ _ _ _ => rfl) h
  case h_27 => exact decodeJump_plain h
  case h_30 => cases h
  all_goals cases h; rfl

/-- The words that RPTI and RPTR may stand before (R265). -/
theorem repeatableWord_iff {w : Word} (h : decodeFilsy c w = some i) :
    repeatableWord w = true ↔
      (w.toNat / 2 ^ 26 ∈ [0x00, 0x01, 0x02, 0x08, 0x09, 0x0A, 0x0B, 0x0C, 0x0D, 0x10, 0x11, 0x12, 0x13, 0x14, 0x15, 0x16, 0x17, 0x18, 0x19, 0x1A, 0x1B] ∨
        (∃ d a b k, i = .mfs c d a b k) ∨ ∃ d a b k, i = .mts c d a b k) := by
  simp only [repeatableWord, Bool.or_eq_true, Bool.and_eq_true, Nat.ble_eq, beq_iff_eq, List.mem_cons, List.not_mem_nil, or_false]
  by_cases hop : w.toNat / 67108864 = 3
  · have hsystem : decodeSystem c w.toNat = some i := by
      rw [decodeFilsy, hop] at h
      exact h
    rw [← decodeSystem_moves hsystem]
    omega
  · have hplain := decodeFilsy_plain h hop
    have hother : ¬ ((∃ d a b k, i = .mfs c d a b k) ∨ ∃ d a b k, i = .mts c d a b k) := by
      rintro (⟨_, _, _, _, rfl⟩ | ⟨_, _, _, _, rfl⟩) <;> cases hplain
    rw [or_iff_left hother]
    omega

theorem State.repeatable_iff (s : State) (m : Word) :
    s.repeatable c m = true ↔ ∃ w i, w = w32 (s.loadLe (coreMem c m.toNat) 4) ∧ decodeFilsy c w = some i ∧ (s.core c).legal i = true ∧
      repeatableWord w = true := by
  unfold State.repeatable
  cases hdec : decodeFilsy c (w32 (s.loadLe (coreMem c m.toNat) 4)) with
  | none => simp [hdec]
  | some i => simp [hdec, and_comm]

/-! ### Prefixes (R264 to R267) -/

variable {s : State} {n : Nat}

/-- What RPTI and RPTR come to where the word behind it can be fetched. -/
theorem State.prefixed_fetched (hgood : goodTarget (s.core c).large ((s.core c).pc + 4#32) = true)
    (hpoison : ((s.core c).large && s.poisoned ((s.core c).pc + 4#32).toNat 4) = false) :
    s.prefixed c n = if s.repeatable c ((s.core c).pc + 4#32) = false then s.faultNow c fcIllegal 0
      else if (s.core c).large = false ∧ 256 < n then s.faultNow c fcRptLimit 0
      else if n = 0 then .go s ((s.core c).pc + 8#32) none false else .go s ((s.core c).pc + 4#32) (some n) false := by
  simp only [State.prefixed, hgood, hpoison, Bool.not_true, Bool.false_eq_true, if_false, Bool.not_eq_true', Bool.and_eq_true, Nat.blt_eq]

/-- RPTI or RPTR before a word that may be repeated, with a count that its core takes. -/
theorem State.prefixed_counts (hgood : goodTarget (s.core c).large ((s.core c).pc + 4#32) = true)
    (hpoison : ((s.core c).large && s.poisoned ((s.core c).pc + 4#32).toNat 4) = false) (hrep : s.repeatable c ((s.core c).pc + 4#32) = true)
    (hcount : (s.core c).large = true ∨ n ≤ 256) :
    s.prefixed c n = if n = 0 then .go s ((s.core c).pc + 8#32) none false else .go s ((s.core c).pc + 4#32) (some n) false := by
  have hlimit : ¬ ((s.core c).large = false ∧ 256 < n) := by
    rintro ⟨hsmall, hn⟩
    exact hcount.elim (fun hlarge => Bool.false_ne_true (hsmall.symm.trans hlarge)) (Nat.not_le_of_lt hn)
  rw [State.prefixed_fetched hgood hpoison, hrep, if_neg Bool.false_ne_true.symm, if_neg hlimit]

theorem State.prefixed_latches (hgood : goodTarget (s.core c).large ((s.core c).pc + 4#32) = true)
    (hpoison : ((s.core c).large && s.poisoned ((s.core c).pc + 4#32).toNat 4) = false) (hrep : s.repeatable c ((s.core c).pc + 4#32) = true)
    (hcount : (s.core c).large = true ∨ n ≤ 256) (hn : n ≠ 0) :
    (s.prefixed c n).finish c s = s.setCore c { (s.core c).goesTo ((s.core c).pc + 4#32) with rep := some n } := by
  rw [State.prefixed_counts hgood hpoison hrep hcount, if_neg hn]
  rfl

theorem State.prefixed_skips (hgood : goodTarget (s.core c).large ((s.core c).pc + 4#32) = true)
    (hpoison : ((s.core c).large && s.poisoned ((s.core c).pc + 4#32).toNat 4) = false) (hrep : s.repeatable c ((s.core c).pc + 4#32) = true) (hn : n = 0) :
    (s.prefixed c n).finish c s = s.setCore c ((s.core c).goesTo ((s.core c).pc + 8#32)) := by
  rw [State.prefixed_counts hgood hpoison hrep (.inr (hn ▸ Nat.zero_le _)), if_pos hn]
  rfl

theorem State.prefixed_limit (hgood : goodTarget (s.core c).large ((s.core c).pc + 4#32) = true)
    (hpoison : ((s.core c).large && s.poisoned ((s.core c).pc + 4#32).toNat 4) = false) (hrep : s.repeatable c ((s.core c).pc + 4#32) = true)
    (hlarge : (s.core c).large = false) (hn : 256 < n) (hopen : (s.core c).faultsOpen) :
    (s.prefixed c n).finish c s = s.setCore c ((s.core c).faultEntry (s.core c).pc fcRptLimit 0 none) := by
  rw [State.prefixed_fetched hgood hpoison, hrep, if_neg Bool.false_ne_true.symm, if_pos ⟨hlarge, hn⟩]
  exact State.faultNow_open hopen _ _

theorem State.prefixed_illegal (hgood : goodTarget (s.core c).large ((s.core c).pc + 4#32) = true)
    (hpoison : ((s.core c).large && s.poisoned ((s.core c).pc + 4#32).toNat 4) = false) (hrep : s.repeatable c ((s.core c).pc + 4#32) = false)
    (hopen : (s.core c).faultsOpen) :
    (s.prefixed c n).finish c s = s.setCore c ((s.core c).faultEntry (s.core c).pc fcIllegal 0 none) := by
  rw [State.prefixed_fetched hgood hpoison, if_pos hrep]
  exact State.faultNow_open hopen _ _

end

/-- What a computing instruction makes of PC and a running repeat. -/
theorem exec_computes_pc {i : Instr} {c : Fin 9} {d : BitVec 4} {s : State} (hi : i.computes = some (c, d)) (hrun : s.canRun c i) {p : Word} {r : Option Nat}
    (hretire : ∀ y : Core, y.pc = (s.core c).pc → y.rep = (s.core c).rep → y.retire.pc = p ∧ y.retire.rep = r) :
    Completes i s fun t => (t.core c).pc = p ∧ (t.core c).rep = r := by
  obtain ⟨y, hy, hexec⟩ := exec_of_computes hi hrun
  refine ⟨_, hexec, ?_⟩
  beta_reduce
  rw [State.ranTo, State.core_setCore_same]
  exact hretire y (by rw [hy.rest]) (by rw [hy.rest])

/-- Settles O14: RPTI and RPTR fetch the next word, check it and the count, and latch the count; a completed iteration counts down. -/
theorem repeatPrefixes : Obligations.RepeatPrefixes := by
  refine ⟨fun c d i rest s hgood hpoison hrep => ⟨fun hrun hcount hn => ?_, fun hrun hcount hn => ?_, fun hrun => ?_, fun hrun hn => ?_,
      fun hrun hlarge hn hopen => ?_, fun hrun hlarge hn hopen => ?_⟩,
    fun c d i rest s hgood hpoison hrep hopen => ⟨fun hrun => ?_, fun hrun => ?_⟩, fun c m s => ?_,
    fun i c d n s hi hrun => ⟨fun hr => ?_, fun hr => ?_, fun hr => ?_⟩⟩
  · exact (State.issue_run hrun _).trans (congrArg _ (State.prefixed_latches hgood hpoison hrep hcount hn))
  · exact (State.issue_run hrun _).trans (congrArg _ (State.prefixed_latches hgood hpoison hrep hcount hn))
  · exact (State.issue_run hrun _).trans (congrArg _ (State.prefixed_skips hgood hpoison hrep rfl))
  · exact (State.issue_run hrun _).trans (congrArg _ (State.prefixed_skips hgood hpoison hrep (congrArg BitVec.toNat hn)))
  · exact (State.issue_run hrun _).trans (congrArg _ (State.prefixed_limit hgood hpoison hrep hlarge hn hopen))
  · exact (State.issue_run hrun _).trans (congrArg _ (State.prefixed_limit hgood hpoison hrep hlarge hn hopen))
  · exact (State.issue_run hrun _).trans (congrArg _ (State.prefixed_illegal hgood hpoison hrep hopen))
  · exact (State.issue_run hrun _).trans (congrArg _ (State.prefixed_illegal hgood hpoison hrep hopen))
  · rw [State.repeatable_iff]
    refine exists_congr fun w => exists_congr fun i => and_congr_right fun _ => and_congr_right fun hdec => and_congr_right fun _ => ?_
    exact repeatableWord_iff hdec
  · exact exec_computes_pc hi hrun fun y hpc hrep => by rw [Core.retire, hrep, hr]; exact ⟨hpc, rfl⟩
  · exact exec_computes_pc hi hrun fun y hpc hrep => by rw [Core.retire, hrep, hr, ← hpc]; exact ⟨rfl, rfl⟩
  · exact exec_computes_pc hi hrun fun y hpc hrep => by rw [Core.retire, hrep, hr, ← hpc]; exact ⟨rfl, rfl⟩

end Sys2Proof.Machine
end

section
/-! SUPPORT. Loads, stores, posted stores, DOTQ, PUSH and POP, and the faults before an instruction's effect (R249 to R251, R259, R261, R272, R273): the
statements O8 to O12 and O19. -/

namespace Sys2Proof.Machine

/-! ### Faults before any effect (R249, R250, R272, R273) -/

section

variable {large : Bool} {m n w : Nat}

theorem accessFault_noWindow (h : windowOf large m = none) : accessFault large m n = some fcWindow := by rw [accessFault, h]

theorem accessFault_misaligned (hw : windowOf large m ≠ none) (h : m % n ≠ 0) : accessFault large m n = some fcAlign := by
  obtain ⟨w, hw⟩ := Option.ne_none_iff_exists'.1 hw
  simp only [accessFault, hw, if_pos h]

theorem accessFault_narrow (hw : windowOf large m = some w) (h2 : 2 ≤ w) (ha : m % n = 0) (hn : n ≠ 4) : accessFault large m n = some fcWidth := by
  simp only [accessFault, hw, ha, ne_eq, not_true_eq_false, if_false, if_pos (And.intro h2 hn)]

end

section

variable {s : State} {c : Fin 9} {i : Instr} {m n e : Nat} {v : Word}

theorem State.coreLoads_fault (h : accessFault (s.core c).large m n = some e) (f : State → Nat → Eff) :
    s.coreLoads c m n f = .fault (s.core c).pc e 0 (some (w32 m)) := by
  simp only [State.coreLoads, State.coreLoad, h]

theorem State.coreStores_fault (h : accessFault (s.core c).large m n = some e) (v : Word) (f : State → Eff) :
    s.coreStores c m n v f = .fault (s.core c).pc e 0 (some (w32 m)) := by
  simp only [State.coreStores, h]

theorem w32_toNat (v : Word) : w32 v.toNat = v := (BitVec.ofNat_toNat 32 v).trans (BitVec.setWidth_eq v)

/-- An instruction whose access faults at `v` leads to that fault's entry. -/
theorem exec_accessFault {body : State → Eff} (hexec : ∀ s, exec i s = s.issue c i body) (hrun : s.canRun c i) (hopen : (s.core c).faultsOpen)
    (hbody : body s = .fault (s.core c).pc e 0 (some v)) :
    exec i s = .next (s.setCore c ((s.core c).faultEntry (s.core c).pc e 0 (some v))) := by
  rw [hexec, State.issue_run hrun, hbody]
  exact congrArg _ (State.coreFault_open hopen _ _ _ _)

/-- An instruction that is not legal for its core (R253, R272). -/
theorem State.issue_illegal (hissues : s.coreIssues c = true) (hopen : (s.core c).faultsOpen) (hgood : goodTarget (s.core c).large (s.core c).pc = true)
    (hpoison : ((s.core c).large && s.poisoned (s.core c).pc.toNat 4) = false) (hsound : s.wordSound (coreMem c (s.core c).pc.toNat) = true)
    (hlegal : (s.core c).legal i = false) (body : State → Eff) :
    s.issue c i body = .next (s.setCore c ((s.core c).faultEntry (s.core c).pc fcIllegal 0 none)) := by
  simp [State.issue, State.fetched, hissues, hgood, hpoison, hlegal, State.wordReadAt_sound hsound, State.wordLost_sound hsound,
    State.coreFault_open hopen]

/-- A fetch from outside the fetch area (R249). -/
theorem State.issue_badFetch (hissues : s.coreIssues c = true) (hopen : (s.core c).faultsOpen) (hbad : goodTarget (s.core c).large (s.core c).pc = false)
    (body : State → Eff) :
    s.issue c i body = .next (s.setCore c ((s.core c).faultEntry (s.core c).pc fcFetch 0 (some (s.core c).pc))) := by
  simp [State.issue, State.fetched, hissues, hbad, State.coreFault_open hopen]

end

section

variable {s : State} {c : Fin 9} {d a : BitVec 4} {i : BitVec 18} {e : Nat}

/-- The instruction faults with `e` at its access to `m`, wherever its core can run it. -/
def State.faultsAt (s : State) (c : Fin 9) (m : Word) (e : Nat) (j : Instr) : Prop :=
  s.canRun c j → exec j s = .next (s.setCore c ((s.core c).faultEntry (s.core c).pc e 0 (some m)))

/-- Loads and stores at A + IMM18 fault as their access does (R250). -/
theorem State.eaOf_faults (hopen : (s.core c).faultsOpen) :
    (accessFault (s.core c).large (eaOf (s.core c) a i) 4 = some e → s.faultsAt c (w32 (eaOf (s.core c) a i)) e (.ldw c d a i) ∧
      s.faultsAt c (w32 (eaOf (s.core c) a i)) e (.stw c d a i)) ∧
    (accessFault (s.core c).large (eaOf (s.core c) a i) 2 = some e → s.faultsAt c (w32 (eaOf (s.core c) a i)) e (.ldh c d a i) ∧
      s.faultsAt c (w32 (eaOf (s.core c) a i)) e (.ldhu c d a i) ∧ s.faultsAt c (w32 (eaOf (s.core c) a i)) e (.sth c d a i)) ∧
    (accessFault (s.core c).large (eaOf (s.core c) a i) 1 = some e → s.faultsAt c (w32 (eaOf (s.core c) a i)) e (.ldb c d a i) ∧
      s.faultsAt c (w32 (eaOf (s.core c) a i)) e (.ldbu c d a i) ∧ s.faultsAt c (w32 (eaOf (s.core c) a i)) e (.stb c d a i)) := by
  refine ⟨fun h => ⟨fun hrun => ?_, fun hrun => ?_⟩, fun h => ⟨fun hrun => ?_, fun hrun => ?_, fun hrun => ?_⟩,
    fun h => ⟨fun hrun => ?_, fun hrun => ?_, fun hrun => ?_⟩⟩
  · exact exec_accessFault (fun _ => rfl) hrun hopen (State.coreLoads_fault h _)
  · exact exec_accessFault (fun _ => rfl) hrun hopen (State.coreStores_fault h _ _)
  · exact exec_accessFault (fun _ => rfl) hrun hopen (State.coreLoads_fault h _)
  · exact exec_accessFault (fun _ => rfl) hrun hopen (State.coreLoads_fault h _)
  · exact exec_accessFault (fun _ => rfl) hrun hopen (State.coreStores_fault h _ _)
  · exact exec_accessFault (fun _ => rfl) hrun hopen (State.coreLoads_fault h _)
  · exact exec_accessFault (fun _ => rfl) hrun hopen (State.coreLoads_fault h _)
  · exact exec_accessFault (fun _ => rfl) hrun hopen (State.coreStores_fault h _ _)

/-- So do those with post-increment, at A. -/
theorem State.postIncrement_faults (hopen : (s.core c).faultsOpen) :
    (accessFault (s.core c).large ((s.core c).reg a).toNat 4 = some e → s.faultsAt c ((s.core c).reg a) e (.ldwp c d a i) ∧
      s.faultsAt c ((s.core c).reg a) e (.stwp c d a i)) ∧
    (accessFault (s.core c).large ((s.core c).reg a).toNat 2 = some e → s.faultsAt c ((s.core c).reg a) e (.ldhp c d a i) ∧
      s.faultsAt c ((s.core c).reg a) e (.sthp c d a i)) := by
  have haddr : Eff.fault (s.core c).pc e 0 (some (w32 ((s.core c).reg a).toNat)) = .fault (s.core c).pc e 0 (some ((s.core c).reg a)) :=
    congrArg (fun v => Eff.fault _ e 0 (some v)) (w32_toNat _)
  refine ⟨fun h => ⟨fun hrun => ?_, fun hrun => ?_⟩, fun h => ⟨fun hrun => ?_, fun hrun => ?_⟩⟩
  · exact exec_accessFault (fun _ => rfl) hrun hopen ((State.coreLoads_fault h _).trans haddr)
  · exact exec_accessFault (fun _ => rfl) hrun hopen ((State.coreStores_fault h _ _).trans haddr)
  · exact exec_accessFault (fun _ => rfl) hrun hopen ((State.coreLoads_fault h _).trans haddr)
  · exact exec_accessFault (fun _ => rfl) hrun hopen ((State.coreStores_fault h _ _).trans haddr)

/-- Settles O19: what does not get past the checks of its fetch (R249, R253), or of its address (R250), is its fault and nothing else. -/
theorem illegalFetchAndAccessFaults : Obligations.IllegalFetchAndAccessFaults := by
  refine ⟨fun i c s hi hissues hopen => ?_, fun c d a i s hopen => ?_, fun c d a i s hopen => ?_⟩
  · obtain ⟨body, hexec⟩ := exec_filsy hi
    rw [hexec]
    exact ⟨fun hgood hpoison hsound hlegal => State.issue_illegal hissues hopen hgood hpoison hsound hlegal body,
      fun hbad => State.issue_badFetch hissues hopen hbad body⟩
  · have hfault (e : Nat) := State.eaOf_faults (d := d) (a := a) (i := i) (e := e) hopen
    refine ⟨fun hw => ?_, fun hw ha => (hfault 5).1 (accessFault_misaligned hw ha), fun hw ha => (hfault 5).2.1 (accessFault_misaligned hw ha),
      fun w hw h2 ha => (hfault 6).2.1 (accessFault_narrow hw h2 ha (by decide)),
      fun w hw h2 => (hfault 6).2.2 (accessFault_narrow hw h2 (Nat.mod_one _) (by decide))⟩
    obtain ⟨hword, hhalf, hbyte⟩ := hfault 4
    obtain ⟨hldw, hstw⟩ := hword (accessFault_noWindow hw)
    obtain ⟨hldh, hldhu, hsth⟩ := hhalf (accessFault_noWindow hw)
    obtain ⟨hldb, hldbu, hstb⟩ := hbyte (accessFault_noWindow hw)
    exact ⟨hldw, hldh, hldhu, hldb, hldbu, hstw, hsth, hstb⟩
  · have hfault (e : Nat) := State.postIncrement_faults (d := d) (a := a) (i := i) (e := e) hopen
    refine ⟨fun hw => ?_, fun hw ha => (hfault 5).1 (accessFault_misaligned hw ha), fun hw ha => (hfault 5).2 (accessFault_misaligned hw ha),
      fun w hw h2 ha => (hfault 6).2 (accessFault_narrow hw h2 ha (by decide))⟩
    obtain ⟨hword, hhalf⟩ := hfault 4
    obtain ⟨hldwp, hstwp⟩ := hword (accessFault_noWindow hw)
    obtain ⟨hldhp, hsthp⟩ := hhalf (accessFault_noWindow hw)
    exact ⟨hldwp, hldhp, hstwp, hsthp⟩

end

/-! ### Loads, DOTQ and POP (R259, R261) -/

theorem State.loadLe_eq_word (s : State) (c : Fin 9) (m : Nat) : s.loadLe (coreMem c m) 4 = s.word c m := State.loadLe_four _ _

/-- A vat core of the small profile, which no run of the model reaches (R243), about to load its window 0, where no memory of a vat core lies (R279). -/
def smallVatCore : State := State.setCore ((State.reset.put (domFld (domTile 8)) domOn).put (domFld domHub) domOn) 8
  { Core.unstarted false with running := true, pc := 0x1000#32 }

/-- Refutes O8: its last clause asks for a WIDTH fault wherever `regReads` holds, which on a vat core whose PROF is 0 is so at address 0 too: no memory, and
still window 0, of which R250 allows halfwords. LDHP completes there. -/
theorem not_loadResults : ¬ Obligations.LoadResults := by
  intro h
  have hrun : smallVatCore.canRun 8 (.ldhp 8 1 0 0) := by simp only [State.canRun]; decide
  have hreads : smallVatCore.regReads 8 ((smallVatCore.core 8).reg 0).toNat := by simp only [State.regReads]; decide
  have hopen : (smallVatCore.core 8).faultsOpen := by simp only [Core.faultsOpen]; decide
  obtain ⟨-, -, -, -, -, -, -, -, -, hwidth⟩ := h 8 1 0 0 smallVatCore
  have hpc := congrArg (fun o => match o with | .next t => (t.core 8).pc | _ => 0#32) (hwidth hrun hreads hopen)
  revert hpc
  decide

/-- Settles O11: both words are memory that can be read now. -/
theorem dotqResult : Obligations.DotqResult := by
  intro c d a b k s hrun ha hb
  refine (State.issue_run hrun _).trans (congrArg _ ?_)
  obtain ⟨-, hfa, -⟩ := id ha
  obtain ⟨-, hfb, -⟩ := id hb
  simp only [hfa, hfb, State.coreLoads_mem ha, State.coreLoads_mem hb, State.coreOnly_finish, State.loadLe_eq_word, Core.dotq, aluSat_eq, roundShift_eq, prodS]
  rfl

/-! ### Stores (R249, R251, R261) -/

section

variable {s t : State} {c : Fin 9} {m n : Nat} {v : Word}

/-- What memory holds after a store does not turn on the storing core. -/
theorem State.stored.setCore (h : s.stored t c m n v) (x : Core) : s.stored (t.setCore c x) c m n v := by
  obtain ⟨hin, hout, hcores, hrest⟩ := h
  exact ⟨hin, hout, fun k hk => (State.core_setCore_other _ _ hk).trans (hcores k hk), hrest⟩

theorem State.stored.of_setCore {x : Core} (h : (s.setCore c x).stored t c m n v) : s.stored t c m n v := by
  obtain ⟨hin, hout, hcores, hrest⟩ := h
  exact ⟨hin, hout, fun k hk => (hcores k hk).trans (State.core_setCore_other _ _ hk), hrest⟩

/-- A store that takes effect starts in memory. -/
theorem State.memAddr_of_memWrites (h : s.memWrites c m n) (hn : 0 < n) : memAddr c m = true := by
  obtain ⟨-, -, hstorable, -⟩ := h
  have hfirst := hstorable 0 hn
  simp only [Nat.add_zero, State.storable, Bool.and_eq_true] at hfirst
  obtain ⟨⟨hmem, -⟩, -⟩ := hfirst
  exact hmem

/-- A step that only changes its core completes with that change, whatever state issued it. -/
theorem State.coreOnly_finish_from (s u : State) (c : Nat) (f : Core → Core) : (u.coreOnly c f).finish c s = u.setCore c (f (u.core c)).retire := by
  simp only [State.coreOnly, Eff.finish_done, State.setCore_setCore, State.core_setCore_same]

/-- A store to the core's own fetch memory, followed by a change `f` of its core alone. -/
theorem State.coreStores_finish {next : State → Eff} {f : Core → Core} (hnext : ∀ u, (next u).finish c s = u.setCore c (f (u.core c)).retire)
    (h : s.memWrites c m n) (hn : 0 < n) :
    s.stored ((s.coreStores c m n v next).finish c s) c m n v ∧ ((s.coreStores c m n v next).finish c s).core c = (f (s.core c)).retire := by
  obtain ⟨-, -, hstorable, hsound⟩ := id h
  obtain ⟨hstored, hcores⟩ := State.storeNow_stored (p := ⟨m, n, v⟩) (State.memAddr_of_memWrites h hn) hstorable hsound
  rw [State.coreStores_own h, hnext, State.core_setCore_same, hcores]
  exact ⟨hstored.setCore _, rfl⟩

end

/-- Settles O9: the bytes are those of `storeNow_stored`, and only the core's own registers move after them. -/
theorem storeResults : Obligations.StoreResults := by
  intro c d a i s
  refine ⟨fun hrun h => ⟨_, State.issue_run hrun _, ?_⟩, fun hrun h => ⟨_, State.issue_run hrun _, ?_⟩, fun hrun h => ⟨_, State.issue_run hrun _, ?_⟩,
    fun hrun h => ⟨_, State.issue_run hrun _, ?_⟩, fun hrun h => ⟨_, State.issue_run hrun _, ?_⟩⟩
  · exact State.coreStores_finish (f := id) (fun _ => rfl) h (by decide)
  · exact State.coreStores_finish (f := id) (fun _ => rfl) h (by decide)
  · exact State.coreStores_finish (f := id) (fun _ => rfl) h (by decide)
  · exact State.coreStores_finish (fun u => State.coreOnly_finish_from s u c _) h (by decide)
  · exact State.coreStores_finish (fun u => State.coreOnly_finish_from s u c _) h (by decide)

/-- Settles O12: within the bounds PUSH is a store and POP a load; outside them the fault comes first. -/
theorem stackPushPop : Obligations.StackPushPop := by
  intro c d a b k s
  refine ⟨fun hrun hlo ha h => ⟨_, State.issue_run hrun _, ?_⟩, fun hrun hhi h => (State.issue_run hrun _).trans (congrArg _ ?_),
    fun hrun hlo hopen => (State.issue_run hrun _).trans (congrArg _ ?_), fun hrun hhi hopen => (State.issue_run hrun _).trans (congrArg _ ?_)⟩
  · beta_reduce
    rw [if_neg (Nat.not_lt.2 hlo), Core.reg_setReg_other _ _ ha]
    exact State.coreStores_finish (fun u => State.coreOnly_finish_from s u c _) h (by decide)
  · rw [if_neg (Nat.not_lt.2 hhi), State.coreLoads_mem h, State.coreOnly_finish, State.loadLe_eq_word]
    rfl
  · rw [if_pos hlo]
    exact State.faultNow_open hopen _ _
  · rw [if_pos hhi]
    exact State.faultNow_open hopen _ _

/-! ### Posted stores (R251) -/

section

variable {s : State} {c : Fin 9} {m n : Nat} {v : Word} {i : Instr}

/-- A store that would be the fifth one posted waits. -/
theorem State.coreStores_full (hfault : accessFault (s.core c).large m n = none)
    (hown : windowOf (s.core c).large m ≠ some (if (s.core c).large then 1 else 0)) (hfull : 4 ≤ (s.core c).posted.length) (f : State → Eff) :
    s.coreStores c m n v f = .stall := by
  simp only [State.coreStores, hfault, if_neg hown, if_neg (Nat.not_lt.2 hfull)]

/-- A load behind a posted store to its window waits. -/
theorem State.coreLoads_behind (hfault : accessFault (s.core c).large m n = none) (hbehind : (s.core c).behindPosted m = true) (f : State → Nat → Eff) :
    s.coreLoads c m n f = .stall := by
  simp only [State.coreLoads, State.coreLoad, hfault, hbehind, if_true]

/-- An instruction that waits leaves its core stalled. -/
theorem exec_stall {body : State → Eff} (hexec : ∀ s, exec i s = s.issue c i body) (hrun : s.canRun c i) (hbody : body s = .stall) :
    exec i s = .next (s.setCore c { s.core c with stalled := true }) := by
  rw [hexec, State.issue_run hrun, hbody, Eff.finish_stall]

/-- A store that is posted, followed by a change `f` of its core alone. -/
theorem State.coreStores_posts {next : State → Eff} {f : Core → Core} (hnext : ∀ u, (next u).finish c s = u.setCore c (f (u.core c)).retire)
    (h : s.posts c m n) : (s.coreStores c m n v next).finish c s = s.ranTo c (f ((s.core c).post m n v)) := by
  rw [State.coreStores_posted h, hnext, State.core_setCore_same, State.setCore_setCore, State.ranTo]

end

/-- A posted store that nothing holds back is completed: it is taken from the list and written. -/
theorem exec_postedStoreDone {s : State} {c : Fin 9} {n : Fin 4} {p : Posted} (hp : (s.core c).posted[n.val]? = some p)
    (hfirst : ∀ q ∈ (s.core c).posted.take n, windowOf (s.core c).large q.addr ≠ windowOf (s.core c).large p.addr) :
    exec (.postedStoreDone c n) s =
      .next ((s.setCore c { s.core c with posted := (s.core c).posted.eraseIdx n, stalled := false }).storeNow c p) := by
  have hany : ((s.core c).posted.take n).any (fun q => windowOf (s.core c).large q.addr == windowOf (s.core c).large p.addr) = false := by
    simpa [List.any_eq_false] using hfirst
  show execPostedStoreDone c n s = _
  simp only [execPostedStoreDone, hp, hany, Bool.false_eq_true, if_false]

/-- A posted store behind another one to its window stays (R251). -/
theorem exec_postedStoreDone_behind {s : State} {c : Fin 9} {n : Fin 4} {p : Posted} (hp : (s.core c).posted[n.val]? = some p)
    (hbehind : ∃ q ∈ (s.core c).posted.take n, windowOf (s.core c).large q.addr = windowOf (s.core c).large p.addr) :
    exec (.postedStoreDone c n) s = .next s := by
  have hany : ((s.core c).posted.take n).any (fun q => windowOf (s.core c).large q.addr == windowOf (s.core c).large p.addr) = true := by
    simpa only [List.any_eq_true, beq_iff_eq] using hbehind
  show execPostedStoreDone c n s = _
  simp only [execPostedStoreDone, hp, hany, if_true]

/-- Settles O10: a store is posted or waits, a load waits or reads, and a completed store is written as `storeNow` writes. -/
theorem postedStores : Obligations.PostedStores := by
  refine ⟨fun c d a i s => ?_, fun c d a b k i s => ?_, fun c n p s hp hfirst hmem hstorable hsound => ?_, fun c n p s hp => ⟨fun hfirst hmem => ?_, ?_⟩⟩
  · refine ⟨fun hrun h => (State.issue_run hrun _).trans (congrArg _ ?_), fun hrun h => (State.issue_run hrun _).trans (congrArg _ ?_),
      fun hrun h => (State.issue_run hrun _).trans (congrArg _ ?_), fun hrun h => (State.issue_run hrun _).trans (congrArg _ ?_),
      fun hrun h => (State.issue_run hrun _).trans (congrArg _ ?_),
      fun hrun hf hw hfull => exec_stall (fun _ => rfl) hrun (State.coreStores_full hf hw (Nat.le_of_eq hfull.symm) _), ?_⟩
    · exact State.coreStores_posts (f := id) (fun _ => rfl) h
    · exact State.coreStores_posts (f := id) (fun _ => rfl) h
    · exact State.coreStores_posts (f := id) (fun _ => rfl) h
    · exact State.coreStores_posts (fun u => State.coreOnly_finish_from s u c _) h
    · exact State.coreStores_posts (fun u => State.coreOnly_finish_from s u c _) h
    · refine ⟨?_, ?_, ?_, ?_, ?_⟩ <;>
        exact fun hrun hf hw hfull => exec_stall (fun _ => rfl) hrun (State.coreStores_full hf hw hfull _)
  · refine ⟨fun hrun hf hb => exec_stall (fun _ => rfl) hrun (State.coreLoads_behind hf hb _), ?_, fun hrun hfa hfb hb => exec_stall (fun _ => rfl) hrun ?_,
      fun hrun ha hfb hb => exec_stall (fun _ => rfl) hrun ?_, fun hrun hne => exec_stall (fun _ => rfl) hrun ?_, fun hrun hnil => ?_⟩
    · refine ⟨?_, ?_, ?_, ?_, ?_, ?_, ?_⟩ <;>
        exact fun hrun hf hb => exec_stall (fun _ => rfl) hrun (State.coreLoads_behind hf hb _)
    · simp only [hfa, hfb]
      exact State.coreLoads_behind hfa hb _
    · obtain ⟨-, hfa, -⟩ := id ha
      simp only [hfa, hfb, State.coreLoads_mem ha]
      exact State.coreLoads_behind hfb hb _
    · exact if_neg (by simpa using hne)
    · refine (State.issue_run hrun _).trans (congrArg _ ?_)
      rw [if_pos (by simp [hnil]), Eff.finish_done, State.ranTo]
  · obtain ⟨hstored, hcores⟩ := State.storeNow_stored (s := s.setCore c _) hmem hstorable hsound
    exact ⟨_, exec_postedStoreDone hp hfirst, hstored.of_setCore, (hcores c).trans (State.core_setCore_same _ _ _)⟩
  · rw [exec_postedStoreDone hp hfirst, State.storeNow, hmem]
    rfl
  · exact exec_postedStoreDone_behind hp

end Sys2Proof.Machine
end

section
/-! SUPPORT. What every Filsy instruction keeps of the cores' registers (R243, R245, R251, R264, R271, R273): the statement O56. -/

namespace Sys2Proof.Machine

/-! ### A sound core stays sound -/

section

variable {x y : Core} {k : Nat}

/-- Soundness turns on the fixed bits of FLAGS, the return stack, the posted stores and the iterations left. -/
theorem Core.sound.of_fixed (h : x.sound k) (hflags : y.flags &&& fixedFlags = x.flags &&& fixedFlags) (hrs : y.rs.length ≤ 64) (hposted : y.posted.length ≤ 4)
    (hrep : y.rep ≠ some 0) : y.sound k := by
  obtain ⟨hlarge, hreserved, -, -, -⟩ := h
  have hmask (f : Word) : f &&& 0xFFF8FCF0#32 = (f &&& fixedFlags) &&& 0xFFF8FCF0#32 := by
    rw [BitVec.and_assoc]
    rfl
  exact ⟨(large_of_fixed hflags).trans hlarge, by rw [hmask, hflags, ← hmask, hreserved], hrs, hposted, hrep⟩

/-- A change of FLAGS' other bits and of what soundness does not speak of. -/
theorem Core.sound.of_flags (h : x.sound k) (hflags : y.flags &&& fixedFlags = x.flags &&& fixedFlags) (hrs : y.rs = x.rs) (hposted : y.posted = x.posted)
    (hrep : y.rep = x.rep) : y.sound k := by
  obtain ⟨-, -, hlen, hfour, hiter⟩ := id h
  exact h.of_fixed hflags (hrs ▸ hlen) (hposted ▸ hfour) (hrep ▸ hiter)

theorem Core.sound.computed {c : Fin 9} {i : Instr} {d : BitVec 4} (h : x.sound k) (hy : x.Computed c i d y) : y.sound k := by
  refine h.of_flags hy.fixed ?_ ?_ ?_ <;> rw [hy.rest]

theorem Core.sound.setReg (h : x.sound k) (r : BitVec 4) (v : Word) : (x.setReg r v).sound k := by
  rw [x.setReg_rest]
  exact h

theorem Core.sound.result (h : x.sound k) (d : BitVec 4) {r : Alu} (hr : r.f &&& fixedFlags = x.flags &&& fixedFlags) : (x.result d r).sound k := by
  rw [Core.result, x.setReg_rest]
  exact h.of_flags hr rfl rfl rfl

theorem Core.sound.dotq (h : x.sound k) (d a b : BitVec 4) (n : Nat) (u v : Word) : (x.dotq d a b n u v).sound k :=
  ((h.result d (aluSat_fixed _ _)).setReg a _).setReg b _

/-- An MTS to FLAGS leaves the bits that are not its own (R245). -/
theorem writtenFlags_fixed (f v : Word) : ((f &&& ~~~flagsRw) ||| (v &&& flagsRw)) &&& fixedFlags = f &&& fixedFlags := by
  have hkept : ~~~flagsRw &&& fixedFlags = fixedFlags := rfl
  have hwritten : flagsRw &&& fixedFlags = 0#32 := rfl
  rw [BitVec.and_or_distrib_right, BitVec.and_assoc, BitVec.and_assoc, hkept, hwritten, BitVec.and_zero, BitVec.or_zero]

theorem Core.sound.setSpecial (h : x.sound k) (n : Nat) (v : Word) : (x.setSpecial n v).sound k := by
  unfold Core.setSpecial
  split
  case h_1 => exact h.of_flags (writtenFlags_fixed _ _) rfl rfl rfl
  all_goals exact h

theorem Core.sound.writeIe (h : x.sound k) (b : Bool) : ({ x with flags := bitTo x.flags fIe b } : Core).sound k :=
  h.of_flags (bitTo_fixed _ _ (by decide) rfl) rfl rfl rfl

/-- FLAGS restored keep PROF, and none of their reserved bits is set (R245, R271). -/
theorem restoreFlags_fixed {now : Word} (saved : Word) (h : now &&& 0xFFF8FCF0#32 = 0#32) : restoreFlags now saved &&& fixedFlags = now &&& fixedFlags := by
  have hsaved : 0x3030F#32 &&& fixedFlags = 0#32 := rfl
  have hprof : 0x40000#32 &&& fixedFlags = 0x40000#32 := rfl
  have hparts : fixedFlags = 0xFFF8FCF0#32 ||| 0x40000#32 := rfl
  calc restoreFlags now saved &&& fixedFlags = now &&& 0x40000#32 := by
        rw [restoreFlags, BitVec.and_or_distrib_right, BitVec.and_assoc, BitVec.and_assoc, hsaved, hprof, BitVec.and_zero, BitVec.zero_or]
    _ = now &&& fixedFlags := by rw [hparts, BitVec.and_or_distrib_left, h, BitVec.zero_or]

theorem Core.sound.restored (h : x.sound k) {l : List RsEntry} (hl : l.length ≤ 64) (saved : Word) :
    ({ x with rs := l, flags := restoreFlags x.flags saved } : Core).sound k := by
  obtain ⟨-, hreserved, -, hposted, hrep⟩ := id h
  exact h.of_fixed (restoreFlags_fixed saved hreserved) hl hposted hrep

/-- A core that has completed an instruction goes on with a count that is not 0, or with none. -/
theorem Core.sound.retire (h : x.sound k) : x.retire.sound k := by
  obtain ⟨-, -, hrs, hposted, -⟩ := id h
  unfold Core.retire
  split
  · exact h.of_fixed rfl hrs hposted (by simp)
  · exact h.of_fixed rfl hrs hposted (by simp)

/-- A fault that does not halt the vat core finds room on its return stack. -/
theorem Core.sound.faultEntry (h : x.sound k) (hopen : x.faultsOpen) (at_ : Word) (code detail : Nat) (addr : Option Word) :
    (x.faultEntry at_ code detail addr).sound k := by
  obtain ⟨-, -, hrs, hposted, -⟩ := id h
  have hflags : faultFlags x.flags &&& fixedFlags = x.flags &&& fixedFlags := by
    rw [faultFlags, bitTo_fixed _ _ (by decide) rfl, bitTo_fixed _ _ (by decide) rfl]
  cases hlarge : x.large with
  | false =>
    rw [Core.faultEntry_pail hlarge]
    exact h.of_fixed hflags hrs hposted (by simp)
  | true =>
    have hroom : x.rs.length < 64 := by
      rw [Core.faultsOpen, Core.faultHalts, if_pos hlarge] at hopen
      exact Nat.lt_of_not_le fun hfull => Bool.eq_false_iff.1 hopen (Nat.ble_eq_true_of_le hfull)
    rw [Core.faultEntry_vat hlarge]
    exact h.of_fixed hflags hroom hposted (by simp)

end

/-! ### What an instruction comes to leaves every core sound -/

/-- Every core's registers are as they have to be. -/
def State.coresSound (s : State) : Prop := ∀ k, k < 9 → (s.core k).sound k

/-- No memory line is disturbed, so that reads find words as they stand, and core `c`'s next fault is taken. -/
structure State.calm (s : State) (c : Fin 9) : Prop where
  sound : s.coresSound
  lines : s.lines = []
  opened : (s.core c).faultsOpen

theorem State.coresSound.setCore {s : State} (h : s.coresSound) {c : Fin 9} {x : Core} (hx : x.sound c) : (s.setCore c x).coresSound := by
  intro k hk
  by_cases hkc : k = c
  · rw [hkc, State.core_setCore_same]
    exact hx
  · rw [State.core_setCore_other _ _ hkc]
    exact h k hk

theorem State.coresSound.of_cores {s t : State} (h : s.coresSound) (hcores : ∀ k, t.core k = s.core k) : t.coresSound := fun k hk => hcores k ▸ h k hk

theorem State.coresSound.core {s : State} (h : s.coresSound) (c : Fin 9) : (s.core c).sound c := h c c.isLt

section

variable {s : State} (h : s.lines = [])
include h

theorem State.lineErr_of_lines_nil (k : Nat) : s.lineErr k = LineErr.clean := by
  rw [State.lineErr, h]
  rfl

theorem State.wordSound_of_lines_nil (a : Nat) : s.wordSound a = true := by simp [State.wordSound, State.errAt, State.lineErr_of_lines_nil h, LineErr.clean]

theorem State.poisoned_of_lines_nil (a n : Nat) : s.poisoned a n = false := by
  simp [State.poisoned, State.poisonAt, State.lineErr_of_lines_nil h, LineErr.clean]

end

/-- Bytes written for a core leave every core (R282). -/
theorem State.core_coreStore (s : State) (c a : Nat) (l : List Byte) (k : Nat) : (s.coreStore c a l).core k = s.core k := by
  unfold State.coreStore
  split
  · exact State.core_store _ _ _ _
  · refine foldl_keeps (fun (t : State) => t.core k) _ (fun u j => ?_) _ _
    split
    · exact State.core_setByte _ _ _ _
    · rfl

theorem lt_of_windowOf_zero {large : Bool} {m : Nat} (h : windowOf large m = some 0) : m < 0x80000 := by
  by_contra hlow
  rw [windowOf, if_neg hlow] at h
  split_ifs at h <;> simp at h

theorem mem_hub_of_windowOf_one {large : Bool} {m : Nat} (h : windowOf large m = some 1) : 0x10000000 ≤ m ∧ m < 0x11000000 := by
  by_contra hhub
  rw [windowOf, if_neg hhub] at h
  split_ifs at h <;> simp at h

/-- An address of a sound core's own fetch memory is memory. -/
theorem memAddr_of_own {x : Core} {c : Fin 9} {m : Nat} (h : x.sound c) (hown : windowOf x.large m = some (if x.large then 1 else 0)) : memAddr c m = true := by
  obtain ⟨hlarge, -, -, -, -⟩ := h
  simp only [memAddr, Bool.or_eq_true, Bool.and_eq_true, decide_eq_true_eq]
  by_cases hc : c.val = 8
  · rw [hlarge, decide_eq_true hc] at hown
    exact .inr (mem_hub_of_windowOf_one hown)
  · rw [hlarge, decide_eq_false hc] at hown
    exact .inl ⟨by omega, lt_of_windowOf_zero hown⟩

namespace State.calm

variable {s : State} {c : Fin 9} (h : s.calm c)
include h

theorem fault (a : Word) (e d : Nat) (m : Option Word) : ((Eff.fault a e d m).finish c s).coresSound := by
  rw [Eff.finish_fault, State.coreFault_open h.opened]
  exact h.sound.setCore ((h.sound.core c).faultEntry h.opened _ _ _ _)

theorem stall : (Eff.stall.finish c s).coresSound := h.sound.setCore (h.sound.core c)

theorem done : ((Eff.done s).finish c s).coresSound := h.sound.setCore (h.sound.core c).retire

omit h in
theorem coreOnly {u : State} (hu : u.coresSound) {f : Core → Core} (hf : (f (u.core c)).sound c) : ((u.coreOnly c f).finish c s).coresSound := by
  rw [State.coreOnly_finish_from]
  exact hu.setCore hf.retire

omit h in
theorem go {u : State} (hu : u.coresSound) (dst : Word) {r : Option Nat} (hr : r ≠ some 0) (held : Bool) :
    ((Eff.go u dst r held).finish c s).coresSound := by
  obtain ⟨-, -, hrs, hposted, -⟩ := hu.core c
  exact hu.setCore ((hu.core c).of_fixed rfl hrs hposted hr)

theorem jump (dst : Word) {f : Core → Core} (hf : goodTarget (s.core c).large dst = true → (f (s.core c)).sound c) :
    ((s.jump c dst f).finish c s).coresSound := by
  unfold State.jump
  dsimp only
  split
  · next hgood => exact go (h.sound.setCore (hf hgood)) dst (by simp) false
  · exact h.fault _ _ _ _

/-- A call adds an entry to the vat core's return stack below RS_DEPTH 60 alone (R271). -/
theorem callTo (dst : Word) : ((s.callTo c dst).finish c s).coresSound := by
  obtain ⟨-, -, -, hposted, hrep⟩ := h.sound.core c
  unfold State.callTo
  dsimp only
  split
  · exact h.fault _ _ _ _
  · next hroom =>
    refine h.jump dst fun hgood => ?_
    unfold Core.saveReturn
    split
    · next hlarge =>
      rw [hlarge] at hgood
      rw [hlarge, hgood, Bool.and_self, Bool.true_and] at hroom
      have hlen : (s.core c).rs.length < 60 := Nat.lt_of_not_le fun hfull => hroom (Nat.ble_eq_true_of_le hfull)
      exact (h.sound.core c).of_fixed rfl (Nat.le_trans (Nat.succ_le_of_lt hlen) (by decide)) hposted hrep
    · exact (h.sound.core c).setReg _ _

/-- RPTI and RPTR latch a count that is not 0 (R264). -/
theorem prefixed (n : Nat) : ((s.prefixed c n).finish c s).coresSound := by
  unfold State.prefixed
  dsimp only
  rw [State.poisoned_of_lines_nil h.lines, Bool.and_false, if_neg (by decide : ¬ (false = true))]
  split
  · exact h.fault _ _ _ _
  split
  · exact h.fault _ _ _ _
  split
  · exact h.fault _ _ _ _
  split
  · exact go h.sound _ (by simp) false
  · next hn => exact go h.sound _ (by simpa using hn) false

/-- A load goes on to what its value is used for, waits, or faults. -/
theorem coreLoads (m n : Nat) {f : State → Nat → Eff} (hf : ∀ v, ((f s v).finish c s).coresSound) : ((s.coreLoads c m n f).finish c s).coresSound := by
  cases hfault : accessFault (s.core c).large m n with
  | some e =>
    rw [State.coreLoads_fault hfault]
    exact h.fault _ _ _ _
  | none =>
    cases hbehind : (s.core c).behindPosted m with
    | true =>
      rw [State.coreLoads_behind hfault hbehind]
      exact h.stall
    | false =>
      cases hmem : memAddr c m with
      | true =>
        rw [State.coreLoads_mem ⟨hmem, hfault, hbehind, State.poisoned_of_lines_nil h.lines _ _, State.wordSound_of_lines_nil h.lines _⟩]
        exact hf _
      | false =>
        have hvalue : s.coreLoads c m n f = f s (s.busRead m).toNat := by simp [State.coreLoads, State.coreLoad, hfault, hbehind, hmem]
        rw [hvalue]
        exact hf _

/-- A store is written, posted where fewer than 4 are, waits, or faults. -/
theorem coreStores (m n : Nat) (v : Word) {f : State → Eff} (hf : ∀ u : State, u.coresSound → ((f u).finish c s).coresSound) :
    ((s.coreStores c m n v f).finish c s).coresSound := by
  obtain ⟨-, -, hrs, -, hrep⟩ := h.sound.core c
  cases hfault : accessFault (s.core c).large m n with
  | some e =>
    rw [State.coreStores_fault hfault]
    exact h.fault _ _ _ _
  | none =>
    by_cases hown : windowOf (s.core c).large m = some (if (s.core c).large then 1 else 0)
    · have hwritten : s.coreStores c m n v f = f (s.storeNow c ⟨m, n, v⟩) := by simp only [State.coreStores, hfault, if_pos hown]
      have hword := State.wordSound_of_lines_nil h.lines (coreMem c m)
      rw [hwritten]
      refine hf _ (h.sound.of_cores fun k => ?_)
      rw [State.storeNow, if_pos (memAddr_of_own (h.sound.core c) hown), State.wordReadAt_sound hword, ite_self, State.core_coreStore]
    · by_cases hroom : (s.core c).posted.length < 4
      · rw [State.coreStores_posted ⟨hfault, hown, hroom⟩]
        refine hf _ (h.sound.setCore ((h.sound.core c).of_fixed rfl hrs ?_ hrep))
        rw [Core.post, List.length_append]
        exact hroom
      · rw [State.coreStores_full hfault hown (Nat.le_of_not_lt hroom)]
        exact h.stall

theorem loadInto (d a : BitVec 4) (imm : BitVec 18) (n : Nat) (ext : Nat → Word) : ((s.loadInto c d a imm n ext).finish c s).coresSound :=
  h.coreLoads _ _ fun _ => coreOnly h.sound ((h.sound.core c).setReg _ _)

theorem loadPost (d a : BitVec 4) (imm : BitVec 18) (n : Nat) : ((s.loadPost c d a imm n).finish c s).coresSound :=
  h.coreLoads _ _ fun _ => coreOnly h.sound (((h.sound.core c).setReg _ _).setReg _ _)

theorem storeFrom (d a : BitVec 4) (imm : BitVec 18) (n : Nat) : ((s.storeFrom c d a imm n).finish c s).coresSound :=
  h.coreStores _ _ _ fun _ hu => hu.setCore (hu.core c).retire

theorem storePost (d a : BitVec 4) (imm : BitVec 18) (n : Nat) : ((s.storePost c d a imm n).finish c s).coresSound :=
  h.coreStores _ _ _ fun _ hu => coreOnly hu ((hu.core c).setReg _ _)

end State.calm

/-! ### Every Filsy instruction -/

/-- Instruction `i` has a body that leaves every core sound, wherever no line is disturbed and its core's fault is taken. -/
def KeepsCores (c : Fin 9) (i : Instr) : Prop :=
  ∃ body, (∀ s, exec i s = s.issue c i body) ∧ ∀ s : State, s.calm c → ((body s).finish c s).coresSound

section

variable (c : Fin 9) (d a b : BitVec 4) (k : BitVec 8)

theorem keepsCores_push : KeepsCores c (.push c d a b k) := by
  refine ⟨_, fun _ => rfl, fun s h => ?_⟩
  dsimp only
  split
  · exact h.fault _ _ _ _
  · exact h.coreStores _ _ _ fun _ hu => State.calm.coreOnly hu ((hu.core c).setReg _ _)

theorem keepsCores_pop : KeepsCores c (.pop c d a b k) := by
  refine ⟨_, fun _ => rfl, fun s h => ?_⟩
  dsimp only
  split
  · exact h.fault _ _ _ _
  · exact h.coreLoads _ _ fun _ => State.calm.coreOnly h.sound (((h.sound.core c).setReg _ _).setReg _ _)

theorem keepsCores_dotq : KeepsCores c (.dotq c d a b k) := by
  refine ⟨_, fun _ => rfl, fun s h => ?_⟩
  dsimp only
  split
  · exact h.fault _ _ _ _
  · exact h.fault _ _ _ _
  · exact h.coreLoads _ _ fun _ => h.coreLoads _ _ fun _ => State.calm.coreOnly h.sound ((h.sound.core c).dotq _ _ _ _ _ _)

theorem keepsCores_b (cond : BitVec 4) (off : BitVec 22) : KeepsCores c (.b c cond off) := by
  refine ⟨_, fun _ => rfl, fun s h => ?_⟩
  dsimp only
  split
  · exact h.jump _ fun _ => h.sound.core c
  · exact h.done

/-- RET takes an entry off the vat core's return stack. -/
theorem keepsCores_ret : KeepsCores c (.ret c d a b k) := by
  refine ⟨_, fun _ => rfl, fun s h => ?_⟩
  obtain ⟨-, -, hrs, hposted, hrep⟩ := h.sound.core c
  dsimp only
  split
  · split
    · exact h.fault _ _ _ _
    · split
      · exact h.jump _ fun _ => (h.sound.core c).of_fixed rfl (List.length_tail ▸ (Nat.sub_le _ 1).trans hrs) hposted hrep
      · exact h.fault _ _ _ _
  · exact h.jump _ fun _ => h.sound.core c

/-- ERET takes an entry off, restores FLAGS but PROF, and resumes a count that is not 0. -/
theorem keepsCores_eret : KeepsCores c (.eret c d a b k) := by
  have hresume (n : Nat) : resume n ≠ some 0 := by
    unfold resume
    split <;> simp_all
  refine ⟨_, fun _ => rfl, fun s h => ?_⟩
  obtain ⟨-, -, hrs, -, -⟩ := h.sound.core c
  dsimp only
  split
  · split
    · exact h.fault _ _ _ _
    · next e rest hstack =>
      split
      · exact h.fault _ _ _ _
      · have hlen : rest.length ≤ 64 := by
          rw [hstack, List.length_cons] at hrs
          exact Nat.le_of_succ_le hrs
        exact State.calm.go (h.sound.setCore ((h.sound.core c).restored hlen _)) _ (hresume _) _
  · exact State.calm.go (h.sound.setCore ((h.sound.core c).restored hrs _)) _ (hresume _) _

theorem keepsCores_wait : KeepsCores c (.wait c d a b k) := by
  refine ⟨_, fun _ => rfl, fun s h => ?_⟩
  dsimp only
  split
  · exact h.done
  · exact h.sound.setCore (h.sound.core c)

theorem keepsCores_fence : KeepsCores c (.fence c d a b k) := by
  refine ⟨_, fun _ => rfl, fun s h => ?_⟩
  split
  · exact h.done
  · exact h.stall

end

theorem keepsCores_of_computes {i : Instr} {c : Fin 9} {d : BitVec 4} (hcomp : i.computes = some (c, d)) : KeepsCores c i := by
  obtain ⟨f, hexec, hf⟩ := exec_computes hcomp
  exact ⟨_, hexec, fun _ h => State.calm.coreOnly h.sound ((h.sound.core c).computed (hf _))⟩

theorem filsyCore_of_computes {i : Instr} {p : Fin 9 × BitVec 4} (hcomp : i.computes = some p) : i.filsyCore = some p.1 := by
  cases i <;> simp only [Instr.computes, Option.some.injEq, reduceCtorEq] at hcomp <;> subst hcomp <;> rfl

/-- The instructions that do more than compute (R259, R261 to R264). -/
theorem keepsCores_of_not_computes {i : Instr} {c : Fin 9} (hi : i.filsyCore = some c) (hcomp : i.computes = none) : KeepsCores c i := by
  cases i <;> simp only [Instr.computes, reduceCtorEq] at hcomp <;> simp only [Instr.filsyCore, Option.some.injEq, reduceCtorEq] at hi <;> subst hi
  case ldw | ldh | ldhu | ldb | ldbu => exact ⟨_, fun _ => rfl, fun _ h => h.loadInto _ _ _ _ _⟩
  case ldwp | ldhp => exact ⟨_, fun _ => rfl, fun _ h => h.loadPost _ _ _ _⟩
  case stw | sth | stb => exact ⟨_, fun _ => rfl, fun _ h => h.storeFrom _ _ _ _⟩
  case stwp | sthp => exact ⟨_, fun _ => rfl, fun _ h => h.storePost _ _ _ _⟩
  case push => exact keepsCores_push _ _ _ _ _
  case pop => exact keepsCores_pop _ _ _ _ _
  case dotq => exact keepsCores_dotq _ _ _ _ _
  case b => exact keepsCores_b _ _ _
  case call | callr => exact ⟨_, fun _ => rfl, fun _ h => h.callTo _⟩
  case jr => exact ⟨_, fun _ => rfl, fun _ h => h.jump _ fun _ => h.sound.core _⟩
  case ret => exact keepsCores_ret _ _ _ _ _
  case rpti | rptr => exact ⟨_, fun _ => rfl, fun _ h => h.prefixed _⟩
  case nop => exact ⟨_, fun _ => rfl, fun _ h => h.done⟩
  case mts => exact ⟨_, fun _ => rfl, fun _ h => State.calm.coreOnly h.sound ((h.sound.core _).setSpecial _ _)⟩
  case eret => exact keepsCores_eret _ _ _ _ _
  case wait => exact keepsCores_wait _ _ _ _ _
  case brk => exact ⟨_, fun _ => rfl, fun _ h => h.fault _ _ _ _⟩
  case ei | di => exact ⟨_, fun _ => rfl, fun _ h => State.calm.coreOnly h.sound ((h.sound.core _).writeIe _)⟩
  case fence => exact keepsCores_fence _ _ _ _ _

/-- What stops an instruction before its body is a fault. -/
theorem State.calm.fetched {s : State} {c : Fin 9} (h : s.calm c) (i : Instr) {body : State → Eff} (hbody : ((body s).finish c s).coresSound) :
    ((s.fetched c i body).finish c s).coresSound := by
  unfold State.fetched
  dsimp only
  rw [State.poisoned_of_lines_nil h.lines, Bool.and_false, if_neg Bool.false_ne_true]
  split
  · exact h.fault _ _ _ _
  split
  · exact h.fault _ _ _ _
  · exact hbody

theorem State.calm.issue {s t : State} {c : Fin 9} (h : s.calm c) {i : Instr} {body : State → Eff} (hbody : ((body s).finish c s).coresSound)
    (ht : s.issue c i body = .next t) : t.coresSound := by
  have hword := State.wordSound_of_lines_nil h.lines (coreMem c (s.core c).pc.toNat)
  simp only [State.issue, State.wordLost_sound hword, State.wordReadAt_sound hword, Bool.and_false, Bool.false_eq_true, if_false, ite_self] at ht
  split at ht
  · cases ht
    exact h.fetched i hbody
  · cases ht
    exact h.sound

/-- Settles O56: every instruction's body keeps the cores sound, and so do the faults before it. -/
theorem filsyKeepsCoreSound : Obligations.FilsyKeepsCoreSound := by
  intro i c s t hi hsound hopen hlines hexec
  have hkeeps : KeepsCores c i := by
    cases hcomp : i.computes with
    | none => exact keepsCores_of_not_computes hi hcomp
    | some p =>
      obtain rfl : p.1 = c := Option.some.inj ((filsyCore_of_computes hcomp).symm.trans hi)
      exact keepsCores_of_computes hcomp
  obtain ⟨body, hbody, hkept⟩ := hkeeps
  have h : s.calm c := ⟨hsound, hlines, hopen⟩
  exact h.issue (hkept s h) (hbody s ▸ hexec)

end Sys2Proof.Machine
end

section
/-! SUPPORT. Records as bytes (R287) and the entries of a pending GAP (R294, R297, R303): the statements O39 and O40. -/

namespace Sys2Proof.Machine

/-! ### Records as bytes (R287) -/

/-- Little-endian bytes spell their number where it fits (R8). -/
theorem leVal_leBytes {k n : Nat} (h : n < 256 ^ k) : leVal (leBytes k n) = n := by
  induction k generalizing n with
  | zero =>
    obtain rfl : n = 0 := Nat.lt_one_iff.mp h
    rfl
  | succ k ih =>
    have hrest : n / 256 < 256 ^ k := Nat.div_lt_of_lt_mul (by rwa [Nat.pow_succ'] at h)
    rw [leBytes, leVal, ih hrest, BitVec.toNat_ofNat]
    exact Nat.mod_add_div n 256

/-- A number read where its bytes stand, between what is before and what is behind them. -/
theorem leAt_leBytes {l before behind : List Byte} {i k n : Nat} (hl : l = before ++ (leBytes k n ++ behind)) (hi : before.length = i) (hn : n < 256 ^ k) :
    leAt l i k = n := by
  rw [leAt, hl, List.drop_left' hi, List.take_left' (leBytes_length k n), leVal_leBytes hn]

/-- A word read where its bytes stand. -/
theorem w32_leAt_leBytes {l before behind : List Byte} {i : Nat} {w : Word} (hl : l = before ++ (leBytes 4 w.toNat ++ behind)) (hi : before.length = i) :
    w32 (leAt l i 4) = w := by
  rw [leAt_leBytes hl hi w.isLt, w32, BitVec.ofNat_toNat, BitVec.setWidth_eq]

namespace Rec

variable (r : Rec)

theorem length_header : r.header.length = 24 := by simp [header]

theorem length_bytes : r.bytes.length = r.length := by
  simp only [bytes, List.length_append, length_header, leBytes_length, length]
  omega

theorem length_covered : (r.header ++ r.payload).length = r.length - 4 := by
  rw [List.length_append, length_header, length]
  omega

/-- What the CRC covers stands in front of it. -/
theorem take_bytes : r.bytes.take (r.length - 4) = r.header ++ r.payload := List.take_left' r.length_covered

theorem payload_of_bytes : (r.bytes.take (r.length - 4)).drop 24 = r.payload := by rw [take_bytes, List.drop_left' r.length_header]

theorem crc_of_bytes : w32 (leAt r.bytes (r.length - 4) 4) = r.crc :=
  w32_leAt_leBytes (behind := []) (by rw [List.append_nil, bytes]) r.length_covered

/-! The header's fields, each at its place. -/

theorem ty_of_bytes (h : r.ty < 256) : leAt r.bytes 0 1 = r.ty :=
  leAt_leBytes (before := []) (by simp only [bytes, header, List.append_assoc]; rfl) rfl h

theorem flags_of_bytes : BitVec.ofNat 8 (leAt r.bytes 1 1) = r.flags := by
  have hbyte : leAt r.bytes 1 1 = r.flags.toNat := by
    simp [leAt, leVal, leBytes, bytes, header]
  rw [hbyte, BitVec.ofNat_toNat, BitVec.setWidth_eq]

theorem length_of_bytes (h : r.length ≤ 4096) : leAt r.bytes 2 2 = r.length :=
  leAt_leBytes (before := leBytes 1 r.ty ++ [r.flags]) (by simp only [bytes, header, List.append_assoc]; rfl) rfl (by omega)

theorem source_of_bytes : w32 (leAt r.bytes 4 4) = r.source :=
  w32_leAt_leBytes (before := leBytes 1 r.ty ++ [r.flags] ++ leBytes 2 r.length) (by simp only [bytes, header, List.append_assoc]; rfl) rfl

theorem seq_of_bytes : w32 (leAt r.bytes 8 4) = r.seq :=
  w32_leAt_leBytes (before := leBytes 1 r.ty ++ [r.flags] ++ leBytes 2 r.length ++ leBytes 4 r.source.toNat)
    (by simp only [bytes, header, List.append_assoc]; rfl) rfl

theorem lt_of_bytes (h : r.lt < 2 ^ 64) : leAt r.bytes 12 8 = r.lt :=
  leAt_leBytes (before := leBytes 1 r.ty ++ [r.flags] ++ leBytes 2 r.length ++ leBytes 4 r.source.toNat ++ leBytes 4 r.seq.toNat)
    (by simp only [bytes, header, List.append_assoc]; rfl) rfl h

theorem cycle_of_bytes : w32 (leAt r.bytes 20 4) = r.cycle :=
  w32_leAt_leBytes (before := leBytes 1 r.ty ++ [r.flags] ++ leBytes 2 r.length ++ leBytes 4 r.source.toNat ++ leBytes 4 r.seq.toNat ++ leBytes 8 r.lt)
    (by simp only [bytes, header, List.append_assoc]; rfl) rfl

end Rec

/-- Settles O39: each field is read at its place, and the CRC covers what stands in front of it. -/
theorem recordBytesSpellTheRecord : Obligations.RecordBytesSpellTheRecord := by
  intro r hty hlt hlen hmod
  have hshort : 28 ≤ r.length := Nat.le_add_right _ _
  rw [Rec.ofBytes, r.length_of_bytes hlen, if_pos ⟨hshort, hlen, hmod, r.length_bytes.ge⟩, r.ty_of_bytes hty, r.flags_of_bytes, r.source_of_bytes, r.seq_of_bytes,
    r.lt_of_bytes hlt, r.cycle_of_bytes, r.payload_of_bytes, r.take_bytes, r.crc_of_bytes, ← Rec.crc, decide_eq_true rfl]

/-! ### The entries of a pending GAP (R294, R297, R303) -/

/-- The losses that a list of GAP entries counts. -/
def gapCount (l : List GapEntry) : Nat := (l.map GapEntry.count).sum

@[simp] theorem gapCount_nil : gapCount [] = 0 := rfl
@[simp] theorem gapCount_cons (e : GapEntry) (l : List GapEntry) : gapCount (e :: l) = e.count + gapCount l := by simp [gapCount]
@[simp] theorem gapCount_append (l m : List GapEntry) : gapCount (l ++ m) = gapCount l + gapCount m := by simp [gapCount]

theorem GapEntry.count_join {a b y : GapEntry} (h : a.join b = some y) : y.count = a.count + b.count := by
  rw [GapEntry.join] at h
  split at h
  · cases h
    rfl
  · cases h

theorem gapCount_gapMerge (e : GapEntry) (l : List GapEntry) : gapCount (gapMerge e l) = gapCount l + e.count := by
  induction l with
  | nil => simp [gapMerge]
  | cons x l ih =>
    rw [gapMerge]
    split
    next y hy =>
      rw [gapCount_cons, gapCount_cons, GapEntry.count_join hy]
      omega
    next => rw [gapCount_cons, gapCount_cons, ih, Nat.add_assoc]

theorem length_gapMerge_le (e : GapEntry) (l : List GapEntry) : (gapMerge e l).length ≤ l.length + 1 := by
  induction l with
  | nil => exact Nat.le_refl _
  | cons x l ih =>
    rw [gapMerge]
    split
    next => exact Nat.le_succ _
    next => exact Nat.succ_le_succ ih

/-- An entry that does not fit beside 64 others is counted by the last of them. -/
theorem gapAdd_full {e : GapEntry} {l : List GapEntry} (hl : l.length ≤ 64) (hfull : ¬ (gapMerge e l).length ≤ 64) :
    ∃ x, l = l.take 63 ++ [x] ∧ gapAdd e l = l.take 63 ++ [gapOthers x e] := by
  have hlen : (l.drop 63).length = 1 := by
    have hmerged := length_gapMerge_le e l
    rw [List.length_drop]
    omega
  obtain ⟨x, hx⟩ := List.length_eq_one_iff.mp hlen
  refine ⟨x, by rw [← hx, List.take_append_drop], ?_⟩
  rw [gapAdd, if_neg hfull, hx, List.map_singleton]

theorem gapAdd_of_room {e : GapEntry} {l : List GapEntry} (h : (gapMerge e l).length ≤ 64) : gapAdd e l = gapMerge e l := if_pos h

section
variable {l : List GapEntry} (hl : l.length ≤ 64)
include hl

theorem gapCount_gapAdd (e : GapEntry) : gapCount (gapAdd e l) = gapCount l + e.count := by
  by_cases hroom : (gapMerge e l).length ≤ 64
  · rw [gapAdd_of_room hroom, gapCount_gapMerge]
  · obtain ⟨x, hlast, hadd⟩ := gapAdd_full hl hroom
    have hcount : gapCount l = gapCount (l.take 63) + x.count := (congrArg gapCount hlast).trans (gapCount_append _ [x])
    rw [hadd, hcount, gapCount_append, Nat.add_assoc]
    rfl

theorem length_gapAdd_le (e : GapEntry) : (gapAdd e l).length ≤ 64 := by
  by_cases hroom : (gapMerge e l).length ≤ 64
  · rwa [gapAdd_of_room hroom]
  · obtain ⟨x, -, hadd⟩ := gapAdd_full hl hroom
    rw [hadd, List.length_append, List.length_take, List.length_singleton]
    omega

/-- A GAP's own entries merged one after the other. -/
theorem foldl_gapAdd (es : List GapEntry) :
    (es.foldl (fun l e => gapAdd e l) l).length ≤ 64 ∧ gapCount (es.foldl (fun l e => gapAdd e l) l) = gapCount l + gapCount es := by
  induction es generalizing l with
  | nil => exact ⟨hl, rfl⟩
  | cons e es ih =>
    obtain ⟨hlen, hcount⟩ := ih (length_gapAdd_le hl e)
    refine ⟨hlen, hcount.trans ?_⟩
    rw [gapCount_gapAdd hl, gapCount_cons, Nat.add_assoc]

end

section
variable {r : Rec} (p : PendGap)

theorem PendGap.add_mark (h : r.ty = tyMark) : p.add r = { p with marks := p.marks ++ [r] } := if_pos h

theorem PendGap.add_gap (h : r.ty = tyGap) : p.add r = { p with entries := r.gapEntries.foldl (fun l e => gapAdd e l) p.entries } :=
  (if_neg (by rw [h]; decide)).trans (if_pos h)

theorem PendGap.add_lost (h : r.isGapMark = false) : p.add r = { p with entries := gapAdd r.lossEntry p.entries } := by
  simp only [Rec.isGapMark, Bool.or_eq_false_iff, beq_eq_false_iff_ne] at h
  obtain ⟨hgap, hmark⟩ := h
  exact (if_neg hmark).trans (if_neg hgap)

theorem PendGap.length_entries_add_le (h : p.entries.length ≤ 64) (r : Rec) : (p.add r).entries.length ≤ 64 := by
  by_cases hmark : r.ty = tyMark
  · rwa [p.add_mark hmark]
  · by_cases hgap : r.ty = tyGap
    · rw [p.add_gap hgap]
      exact (foldl_gapAdd h _).1
    · rw [p.add_lost (by simp [Rec.isGapMark, hmark, hgap])]
      exact length_gapAdd_le h _

end

/-- Settles O40: an entry is joined, put last, or counted by the last one, so that no loss goes uncounted. -/
theorem pendingGapCountsEveryRecord : Obligations.PendingGapCountsEveryRecord := by
  intro p r hp
  refine ⟨fun hlost => ?_, p.length_entries_add_le hp r, p.add_mark, fun hgap => ?_⟩
  · rw [p.add_lost hlost]
    exact ⟨gapCount_gapAdd hp _, rfl⟩
  · rw [p.add_gap hgap]
    exact (foldl_gapAdd hp _).2

end Sys2Proof.Machine
end

section
/-! SUPPORT. Queues under their own operations (chapter 10): room, commits, drops and the end of a reset, and reads of memory that holds no errors. -/

namespace Sys2Proof.Machine

variable {s : State} {q : Nat} {r : Rec}

/-! ### A queue in the state -/

@[simp] theorem State.queue_setQueue_same (s : State) (q : Nat) (x : Queue) : (s.setQueue q x).queue q = x := by simp [State.queue, State.setQueue]

/-- A queue is read from the table of queues alone. -/
theorem State.queue_congr {s t : State} (h : t.queues = s.queues) (q : Nat) : t.queue q = s.queue q := by rw [State.queue, State.queue, h]

@[simp] theorem State.queues_ite (p : Prop) [Decidable p] (s t : State) : (if p then s else t).queues = if p then s.queues else t.queues :=
  apply_ite State.queues p s t

@[simp] theorem State.raiseQueue_queues (s : State) (q : Nat) : (s.raiseQueue q).queues = s.queues := s.raise_queues _

@[simp] theorem State.qThreshold_queues (s : State) (q : Nat) : (s.qThreshold q).queues = s.queues := by simp [State.qThreshold]

@[simp] theorem State.gapCovers_queues (s : State) (t : Nat) (es : List GapEntry) : (s.gapCovers t es).queues = s.queues := by
  refine foldl_keeps State.queues _ (fun s e => ?_) es s
  rw [State.queues_ite, State.setEng_queues, State.setGrp, State.setEng_queues, ite_self]

/-! ### A record offered (R297, R302, R303) -/

theorem State.qFlushFor_none (h : (s.queue q).pend = none) (r : Rec) : s.qFlushFor q r = (s, false) := by simp only [State.qFlushFor, h]

theorem State.qMakeRoom_fits {need limit : Nat} (h : (s.queue q).used + need ≤ limit) : s.qMakeRoom q need limit = s := if_pos h

section
variable (hpend : (s.queue q).pend = none) (hroom : (s.queue q).used + r.length + qReserve ≤ s.qSize q)
include hpend hroom

/-- Where there is room outside the reserve, only a reset or a 65th stream keeps a record out. -/
theorem State.qFits_of_room : s.qFits q r = ((r.isGapMark || !(s.queue q).tooMany r) && (s.queue q).resetting.isNone) := by
  have hbytes : (s.queue q).used + r.length + (if r.isGapMark then 0 else qReserve) ≤ s.qSize q := by split <;> omega
  rw [State.qFits, decide_eq_true hbytes, hpend, Bool.true_and, Option.isNone_none, Bool.and_true]

theorem State.qAdmit_of_room (htype : r.typeOk = true) (hstays : s.co.moved.contains q = false) :
    s.qAdmit q r = if s.qFits q r then s.qCommit q r else s.qDrop q r := by
  have hlimit : (s.queue q).used + r.length ≤ s.qSize q - (if r.isGapMark then 0 else qReserve) := by split <;> omega
  rw [State.qAdmit, if_pos htype, if_neg (ne_true_of_eq_false hstays), State.qFlushFor_none hpend]
  dsimp only
  rw [if_neg Bool.false_ne_true, State.qMakeRoom_fits hlimit]

end

/-- A record dropped during a reset goes into the reset's GAP. -/
theorem State.queue_qDrop_resetting {z : QReset} (h : (s.queue q).resetting = some z) (r : Rec) :
    (s.qDrop q r).queue q = { s.queue q with resetting := some { z with gap := resetAdd (s.queue q).passed z.gap r } } := by
  simp only [State.qDrop, h]
  split
  · rw [State.queue_setQueue_same]
  · rw [State.queue_congr (State.incSat_queues _ _ _), State.queue_setQueue_same]

theorem State.qCompare_agreeing (h : (s.queue q).agrees = true) : s.qCompare q = s := if_pos h

/-- A record offered to a queue that resets goes into the reset's GAP. -/
theorem State.queue_qOffer_resetting {z : QReset} (hpend : (s.queue q).pend = none)
    (hroom : (s.queue q).used + r.length + qReserve ≤ s.qSize q) (htype : r.typeOk = true) (hstays : s.co.moved.contains q = false)
    (hagrees : (s.queue q).agrees = true) (hresets : (s.queue q).resetting = some z) :
    (s.qOffer q r).queue q = { s.queue q with resetting := some { z with gap := resetAdd (s.queue q).passed z.gap r } } := by
  have hout : s.qFits q r = false := by rw [State.qFits_of_room hpend hroom, hresets, Option.isNone_some, Bool.and_false]
  have hqueue := State.queue_qDrop_resetting hresets r
  rw [State.qOffer, State.qAdmit_of_room hpend hroom htype hstays, if_neg (ne_true_of_eq_false hout), State.qCompare_agreeing (by rw [hqueue]; exact hagrees),
    hqueue]

theorem Queue.agrees_append {x : Queue} (h : x.agrees = true) (r : Rec) (size : Nat) : (x.append r size).agrees = true := by
  simp only [Queue.agrees, Bool.and_eq_true, beq_iff_eq] at h ⊢
  obtain ⟨htail, hchurn⟩ := h
  exact ⟨by rw [Queue.append, htail], hchurn⟩

/-- Records that a consumer has still to read stay. -/
theorem Queue.compact_unread {cs : List (Nat × Bool)} {x : Queue} (h : x.allHead cs ≤ x.first) (n : Nat) : x.compact cs n = x := by
  cases n with
  | zero => rfl
  | succ n =>
    refine if_neg ?_
    simp only [Bool.and_eq_true, decide_eq_true_eq]
    exact fun ⟨hpassed, _⟩ => Nat.not_le_of_lt hpassed h

/-! ### A queue whose core port alone reads it -/

section
variable (hcons : s.consumers q = [(consCore, true)])
include hcons

theorem State.not_churn_of_consumers : ¬ (decide (q < 48) && (q % 6 == 0 || q % 6 == 3)) = true := by
  intro hchurn
  rw [State.consumers, if_pos hchurn] at hcons
  simp at hcons

/-- What such a queue commits stands behind the others until the port has read it. -/
theorem State.queue_qCommit_core (hhead : ((s.queue q).consOf consCore).head ≤ (s.queue q).first) (r : Rec) :
    (s.qCommit q r).queue q = (s.queue q).append (s.carried r) (s.qSize q) := by
  have hunread : ((s.queue q).append (s.carried r) (s.qSize q)).allHead [(consCore, true)] ≤ ((s.queue q).append (s.carried r) (s.qSize q)).first :=
    (Nat.min_le_right _ _).trans hhead
  rw [State.qCommit, hcons, if_neg (State.not_churn_of_consumers hcons), State.queue_congr (State.qThreshold_queues _ _), State.queue_setQueue_same]
  exact Queue.compact_unread hunread _

/-- A record offered to such a queue with room is put behind the others. -/
theorem State.queue_qOffer_committed (hpend : (s.queue q).pend = none) (hroom : (s.queue q).used + r.length + qReserve ≤ s.qSize q)
    (htype : r.typeOk = true) (hstays : s.co.moved.contains q = false) (hagrees : (s.queue q).agrees = true)
    (hhead : ((s.queue q).consOf consCore).head ≤ (s.queue q).first) (hruns : (s.queue q).resetting = none)
    (hfew : (s.queue q).tooMany r = false) : (s.qOffer q r).queue q = (s.queue q).append (s.carried r) (s.qSize q) := by
  have hfits : s.qFits q r = true := by rw [State.qFits_of_room hpend hroom, hfew, hruns, Bool.not_false, Bool.or_true]; rfl
  have hqueue := State.queue_qCommit_core hcons hhead r
  rw [State.qOffer, State.qAdmit_of_room hpend hroom htype hstays, if_pos hfits, State.qCompare_agreeing (by rw [hqueue]; exact Queue.agrees_append hagrees _ _),
    hqueue]

end

/-! ### The end of a reset (R304) -/

theorem Queue.resetting_dropOldest (cs : List (Nat × Bool)) (x : Queue) : (x.dropOldest cs).resetting = x.resetting := by
  unfold Queue.dropOldest
  split
  next => rfl
  next =>
    refine foldl_keeps Queue.resetting _ (fun y c => ?_) cs x
    dsimp only
    split <;> rfl

theorem Queue.resetting_compact (cs : List (Nat × Bool)) (n : Nat) (x : Queue) : (x.compact cs n).resetting = x.resetting := by
  induction n generalizing x with
  | zero => rfl
  | succ n ih =>
    rw [Queue.compact]
    split
    next => rw [ih, Queue.resetting_dropOldest]
    next => rfl

@[simp] theorem State.resetting_qCommit (s : State) (q : Nat) (r : Rec) : ((s.qCommit q r).queue q).resetting = (s.queue q).resetting := by
  rw [State.qCommit, State.queue_congr (State.qThreshold_queues _ _), State.queue_setQueue_same, Queue.resetting_compact]
  split <;> rfl

@[simp] theorem State.resetting_qWriteGaps (s : State) (q cause : Nat) (l : List (List GapEntry)) :
    ((s.qWriteGaps q cause l).queue q).resetting = (s.queue q).resetting := by
  induction l generalizing s with
  | nil => rfl
  | cons es l ih =>
    rw [State.qWriteGaps, ih]
    split
    · rw [State.queue_congr (State.gapCovers_queues _ _ _), State.resetting_qCommit]
      rfl
    · rw [State.resetting_qCommit]
      rfl

@[simp] theorem State.resetting_qWriteMarks (s : State) (q : Nat) (l : List Rec) : ((s.qWriteMarks q l).queue q).resetting = (s.queue q).resetting := by
  induction l generalizing s with
  | nil => rfl
  | cons r l ih => rw [State.qWriteMarks, ih, State.resetting_qCommit]

theorem State.resetting_qResetWrite (s : State) (q : Nat) (z : QReset) : ((s.qResetWrite q z).queue q).resetting = none := by
  rw [State.qResetWrite, State.queue_congr (State.raiseQueue_queues _ _), State.queue_congr (State.incSat_queues _ _ _), State.queue_congr (State.put_queues _ _ _),
    State.resetting_qWriteMarks, State.resetting_qWriteGaps, State.queue_setQueue_same]

theorem State.qResetDone_resetting {z : QReset} (h : (s.queue q).resetting = some z) : s.qResetDone q =
    ((s.qResetWrite q z).logWrite kQueueReset (24 + q / 8) (w32 (q + z.cause * 256)) (w32 z.gap.entries.length) 0#32).resetRuns q := by
  rw [State.qResetDone, h, Option.isSome_some, if_pos rfl, State.qResetEnd, h]

theorem State.qResetDone_none (h : (s.queue q).resetting = none) : s.qResetDone q = s := if_neg (by simp [h])

theorem State.qFlushFree_none (h : (s.queue q).pend = none) : s.qFlushFree q = s := by rw [State.qFlushFree, h]

/-! ### Memory without errors (R283, R284) -/

section
variable (hclean : ∀ x ∈ s.lines, x.2.single = 0 ∧ x.2.double = 0)
include hclean

theorem State.ramTouch_clean (m o n : Nat) : s.ramTouch m o n = s := by
  have hnone : s.lines.filter (fun l => l.1 / 0x100000 == m && (l.2.single != 0 || l.2.double != 0)) = [] := by
    refine List.filter_eq_nil_iff.mpr fun x hx => ?_
    obtain ⟨hsingle, hdouble⟩ := hclean x hx
    simp [hsingle, hdouble]
  rw [State.ramTouch, hnone, List.foldl_nil]

theorem State.memTouch_clean (a n : Nat) : s.memTouch a n = s := State.ramTouch_clean hclean _ _ _

theorem State.qTouch_clean (q id : Nat) : s.qTouch q id = s := by
  unfold State.qTouch
  dsimp only
  split
  next => rfl
  next =>
    rw [State.ramTouch_clean hclean, State.ramTouch_clean hclean, ite_self]

end

theorem LineErr.cleared_eq {e : LineErr} (hsingle : e.single = 0) (hdouble : e.double = 0) : { e with single := 0, double := 0 } = e := by
  cases e
  cases hsingle
  cases hdouble
  rfl

section
variable {m i : Nat} {u : LineUpset} (hsingle : u.single = 0) (hdouble : u.double = 0) (hline : (s.lineErr (lineKey m i)).single = 0)
  (hline' : (s.lineErr (lineKey m i)).double = 0)
include hsingle hdouble hline hline'

/-- A line without errors, read with none that have come, stays as it is. -/
theorem State.lineRead_clean : s.lineRead m i u = s.setLineErr (lineKey m i) (s.lineErr (lineKey m i)) := by
  have hupset : (s.lineErr (lineKey m i)).upset u = s.lineErr (lineKey m i) := by simp [LineErr.upset, hsingle, hdouble]
  have hbad : (s.lineErr (lineKey m i)).bad = [] := by simp [LineErr.bad, hline']
  simp [State.lineRead, hupset, hbad, hline, LineErr.cleared_eq hline hline', State.memCorrect]

end

theorem State.scrubNext_eq (s : State) (m : Nat) : (∃ x, s.scrubNext m = s.setScrub m x) ∨ ∃ x, s.scrubNext m = (s.setScrub m x).incWrap (F.MEMM_STAT_PASSES m) := by
  unfold State.scrubNext
  dsimp only
  split
  · exact .inl ⟨_, rfl⟩
  · exact .inr ⟨_, rfl⟩

/-- The scrubber going on moves its own place and PASSES alone. -/
theorem State.scrubNext_frame (s : State) (m : Nat) : (s.scrubNext m).mem = s.mem ∧ (s.scrubNext m).queues = s.queues ∧ (s.scrubNext m).cores = s.cores ∧
    (s.scrubNext m).log = s.log ∧ (s.scrubNext m).get (F.MEMM_STAT_SCRUBBING m) = s.get (F.MEMM_STAT_SCRUBBING m) := by
  obtain ⟨x, h⟩ | ⟨x, h⟩ := s.scrubNext_eq m
  · rw [h]
    exact ⟨rfl, rfl, rfl, rfl, rfl⟩
  · rw [h]
    exact ⟨rfl, rfl, rfl, rfl, State.get_put_apart _ _ _ _ (by dsimp only; omega) (by dsimp only; omega)⟩

end Sys2Proof.Machine
end

section
/-! SUPPORT. Scrubbing, pending GAPs, and the cores' pushes and pops (chapter 10), and the statement O41. -/

namespace Sys2Proof.Machine

variable {s : State} {q : Fin 64} {w : Fin 9} {addr : Word} {r : Rec}

/-! ### Scrubbing (R284) -/

section
variable {m : Fin 19} {u : ScrubFind}

theorem exec_scrubLine_on (hon : memOn s m = true) (hwritten : 9 ≤ s.boot.stage) : exec (.scrubLine m u) s =
    let v := ((s.put (F.MEMM_STAT_SCRUBBING m) 1).lineRead m (s.scrub m).next u.here).scrubNext m
    .next (u.others.foldl (fun t y => t.lineUpset m y.line y.upset) v) := if_pos (by simp [hon, hwritten])

theorem exec_scrubLine_off (hoff : memOn s m = false) : exec (.scrubLine m u) s = .next s := if_neg (by simp [hoff])

/-- A scrub read that finds nothing shows SCRUBBING and goes on. -/
theorem exec_scrubLine_clean (hon : memOn s m = true) (hwritten : 9 ≤ s.boot.stage) (hsingle : u.here.single = 0) (hdouble : u.here.double = 0)
    (hothers : u.others = []) (hline : (s.lineErr (lineKey m (s.scrub m).next)).single = 0) (hline' : (s.lineErr (lineKey m (s.scrub m).next)).double = 0) :
    Completes (.scrubLine m u) s (fun t => t.mem = s.mem ∧ t.queues = s.queues ∧ t.cores = s.cores ∧ t.log = s.log ∧ t.get (F.MEMM_STAT_SCRUBBING m) = 1) := by
  have hrun := exec_scrubLine_on (u := u) hon hwritten
  rw [hothers, State.lineRead_clean (s := s.put (F.MEMM_STAT_SCRUBBING m) 1) hsingle hdouble hline hline'] at hrun
  refine ⟨_, hrun, ?_⟩
  obtain ⟨hmem, hqueues, hcores, hlog, hget⟩ := State.scrubNext_frame ((s.put (F.MEMM_STAT_SCRUBBING m) 1).setLineErr (lineKey m (s.scrub m).next)
    ((s.put (F.MEMM_STAT_SCRUBBING m) 1).lineErr (lineKey m (s.scrub m).next))) m
  exact ⟨hmem, hqueues, hcores, hlog, hget.trans (s.get_put_same (F.MEMM_STAT_SCRUBBING m) 1 (by dsimp only; omega))⟩

end

/-! ### Resets and pending GAPs (R303, R304) -/

theorem exec_queueResetEnd (s : State) (q : Fin 64) : exec (.queueResetEnd q) s = .next (s.qResetDone q) := rfl

theorem exec_pendingGapWrite (s : State) (q : Fin 64) : exec (.pendingGapWrite q) s = .next (s.qFlushFree q) := rfl

/-! ### Pushes (R306) -/

theorem exec_queuePush (s : State) (w : Fin 9) (q : Fin 64) (addr : Word) : exec (.queuePush w q addr) s = .next (s.cmdPush w q addr) := rfl

/-- Core `w` may push to queue `q`: the pail core of a tile to its fifth queue, the vat core to a hub queue. -/
def pushPort (w q : Nat) : Prop := q < 48 ∧ q % 6 = 4 ∧ w = q / 6 ∨ 48 ≤ q ∧ w = vat

section
variable {w q : Nat}

theorem State.cmdPush_port (hport : pushPort w q) (hfree : s.isSet (F.Q_PUSH_RES_BUSY q) = false) (addr : Word) : s.cmdPush w q addr =
    if q ≥ 48 && !s.isSet (F.Q_CFG_CORE_EN q) then s.pushRefuse q 6
    else (s.put (F.Q_PUSH_RES_BUSY q) 1).setQueue q { s.queue q with push := some ⟨w, addr.toNat⟩ } := by
  refine if_neg ?_
  obtain ⟨htile, hqueue, hcore⟩ | ⟨hhub, hcore⟩ := hport
  · simp [hfree, hqueue, ← hcore, Nat.not_le_of_lt htile]
  · simp [hfree, hcore, Nat.not_lt_of_le hhub]

theorem State.cmdPush_busy (h : s.isSet (F.Q_PUSH_RES_BUSY q) = true) (w : Nat) (addr : Word) : s.cmdPush w q addr = s := if_pos (by rw [h, Bool.or_true])

theorem State.cmdPush_otherQueue (htile : q < 48) (hqueue : q % 6 ≠ 4) (w : Nat) (addr : Word) : s.cmdPush w q addr = s :=
  if_pos (by simp [htile, hqueue])

end

theorem exec_queuePush_taken (hport : q.val < 48 ∧ q.val % 6 = 4 ∧ w.val = q.val / 6 ∨ 48 ≤ q.val ∧ w.val = 8 ∧ s.isSet (F.Q_CFG_CORE_EN q) = true)
    (hfree : s.isSet (F.Q_PUSH_RES_BUSY q) = false) (addr : Word) : Completes (.queuePush w q addr) s (fun t =>
      t.get (F.Q_PUSH_RES_BUSY q) = 1 ∧ (t.queue q).push = some ⟨w, addr.toNat⟩ ∧ t.mem = s.mem) := by
  have hmay : pushPort w q := hport.imp id fun ⟨hhub, hcore, _⟩ => ⟨hhub, hcore⟩
  have hopen : ¬ (decide (q.val ≥ 48) && !s.isSet (F.Q_CFG_CORE_EN q)) = true := by
    obtain ⟨htile, -, -⟩ | ⟨-, -, hen⟩ := hport
    · simp [Nat.not_le_of_lt htile]
    · simp [hen]
  refine ⟨_, congrArg Host.Outcome.next ((State.cmdPush_port hmay hfree addr).trans (if_neg hopen)), ?_, by rw [State.queue_setQueue_same], rfl⟩
  rw [State.get_setQueue, State.get_put_same _ _ _ (by dsimp only; omega)]
  rfl

/-- Bytes of memory are read from memory alone. -/
theorem State.bytes_congr {s t : State} (h : t.mem = s.mem) (a n : Nat) : t.bytes a n = s.bytes a n := by
  induction n generalizing a with
  | zero => rfl
  | succ n ih => rw [State.bytes, State.bytes, ih, State.byte, State.byte, h]

/-- A push has brought what lies at `a` into the queue: the record that it is, where it passes the checks. -/
theorem exec_queuePushDone_good {j : PushJob} (hpush : (s.queue q).push = some j) (hruns : (s.queue q).resetting = none)
    (hclean : ∀ x ∈ s.lines, x.2.single = 0 ∧ x.2.double = 0) :
    let v := s.setQueue q { s.queue q with push := none }
    let a := coreMem j.core j.addr
    let len := leAt (s.bytes a 24) 2 2
    let x := v.pushRec q (s.bytes a len)
    lengthOk len = true → pushAllowed q x.ty (leAt (s.bytes a 24) 6 1) x.payload = true →
      (tabGet (fun _ => ⟨[], 0⟩) s.routes x.key : Route).lt ≤ x.lt → x.lt ≤ s.lt → s.poisoned a len = false →
      exec (.queuePushDone q) s = .next (v.pushEnter q x) := by
  intro v a len x hlen hallowed hlater hpast hwhole
  have hread (n : Nat) : v.memTouch a n = v := State.memTouch_clean (s := v) hclean a n
  have hbytes (b n : Nat) : v.bytes b n = s.bytes b n := State.bytes_congr (s := s) (t := v) rfl b n
  have hvruns : (v.queue q).resetting = none := by rw [State.queue_setQueue_same]; exact hruns
  have htime : ¬ (x.lt < (tabGet (fun _ => ⟨[], 0⟩) v.routes x.key : Route).lt ∨ v.lt < x.lt) := not_or.mpr ⟨Nat.not_lt_of_le hlater, Nat.not_lt_of_le hpast⟩
  have hsound : v.poisoned a len = false := hwhole
  change execQueuePushDone q s = _
  simp only [execQueuePushDone, hpush]
  change (if ((v.memTouch a _).queue q).resetting.isSome then _ else _) = _
  rw [hread, hvruns]
  simp only [hbytes, show lengthOk (leAt (s.bytes (coreMem j.core j.addr) 24) 2 2) = true from hlen, if_true]
  exact (if_neg Bool.false_ne_true).trans ((if_neg (ne_true_of_eq_false (congrArg not hallowed))).trans ((if_neg Bool.false_ne_true).trans
    ((if_neg htime).trans (if_neg (ne_true_of_eq_false hsound)))))

theorem exec_queuePushDone_none (h : (s.queue q).push = none) : exec (.queuePushDone q) s = .next s := by
  change execQueuePushDone q s = _
  rw [execQueuePushDone, h]

/-! ### Pops (R301, R306) -/

theorem exec_queuePop (s : State) (w : Fin 9) (q : Fin 64) (addr : Word) : exec (.queuePop w q addr) s = .next (s.cmdPop w q addr) := rfl

section
variable {w q : Nat}

theorem State.cmdPop_otherCore (h : w ≠ portCore q) (addr : Word) : s.cmdPop w q addr = s := if_pos (.inl h)

variable (hport : w = portCore q) (hfree : s.isSet (F.Q_POP_RES_BUSY q) = false)
include hport hfree

theorem State.cmdPop_closed (hclosed : s.isSet (F.Q_CFG_CORE_EN q) = false) (addr : Word) : s.cmdPop w q addr = s.put (F.Q_POP_RES_RESULT q) 3 :=
  (if_neg (by simp [hport, hfree])).trans (if_pos (by rw [hclosed]; rfl))

theorem State.cmdPop_open (hopen : s.isSet (F.Q_CFG_CORE_EN q) = true) (addr : Word) : s.cmdPop w q addr =
    (s.qNext q consCore).elim (s.put (F.Q_POP_RES_RESULT q) 1)
      fun r => (s.put (F.Q_POP_RES_BUSY q) 1).setQueue q { s.queue q with pop := some ⟨w, addr.toNat / 8 * 8, r⟩ } := by
  refine (if_neg (by simp [hport, hfree])).trans ((if_neg (by rw [hopen]; decide)).trans ?_)
  cases s.qNext q consCore <;> rfl

end

theorem exec_queuePop_begins (hport : w.val = portCore q) (hfree : s.isSet (F.Q_POP_RES_BUSY q) = false) (hopen : s.isSet (F.Q_CFG_CORE_EN q) = true)
    (hnext : s.qNext q consCore = some r) (addr : Word) : Completes (.queuePop w q addr) s (fun t =>
      t.get (F.Q_POP_RES_BUSY q) = 1 ∧ (t.queue q).pop = some ⟨w, addr.toNat / 8 * 8, r⟩) := by
  have hrun := State.cmdPop_open hport hfree hopen addr
  rw [hnext, Option.elim_some] at hrun
  refine ⟨_, congrArg Host.Outcome.next hrun, ?_, by rw [State.queue_setQueue_same]⟩
  rw [State.get_setQueue, State.get_put_same _ _ _ (by dsimp only; omega)]
  rfl

theorem exec_queuePopDone_none (h : (s.queue q).pop = none) : exec (.queuePopDone q) s = .next s := by
  change execQueuePopDone q s = _
  simp only [execQueuePopDone, h, Option.isSome_none, Bool.false_eq_true, if_false]

section
variable {j : PopJob} (hpop : (s.queue q).pop = some j) (hread : s.qTouch q consCore = s)
include hpop hread

theorem exec_queuePopDone_disagreeing (h : ((s.queue q).consOf consCore).agrees = false) : exec (.queuePopDone q) s = .next (s.qReset q causeReset) := by
  change execQueuePopDone q s = _
  simp only [execQueuePopDone, hpop, Option.isSome_some, if_true, hread, h, Bool.not_false]

theorem exec_queuePopDone_same (hagrees : ((s.queue q).consOf consCore).agrees = true) :
    let v := (s.setQueue q { s.queue q with pop := none }).put (F.Q_POP_RES_BUSY q) 0
    v.qNext q consCore = some r → r.key = j.record.key → r.seq = j.record.seq →
      exec (.queuePopDone q) s = .next ((((v.qPass q consCore).coreStore j.core j.addr r.bytes).put (F.Q_POP_RES_RESULT q) 0).put
        (F.Q_POP_RES_LENGTH q) r.length) := by
  intro v hnext hkey hseq
  change execQueuePopDone q s = _
  simp only [execQueuePopDone, hpop, Option.isSome_some, if_true, hread, hagrees, Bool.not_true, Bool.false_eq_true, if_false]
  rw [hnext]
  exact if_pos ⟨hkey, hseq⟩

end

/-- Settles O41: a record offered is committed or dropped by `qAdmit_of_room`; each other clause is what a command does once its condition holds, or that it
does nothing. -/
theorem queueOffersAndEvents : Obligations.QueueOffersAndEvents := by
  refine ⟨fun s q r z hcons hhead hpend hstays hroom htype hagrees => ⟨fun hruns hfew => ?_, fun hresets => ?_⟩, fun s m u w q addr r jp jo z =>
    ⟨exec_scrubLine_on, exec_scrubLine_clean, exec_scrubLine_off, fun hresets => ?_, s.resetting_qResetWrite q z, fun hnone => ?_, exec_pendingGapWrite s q,
      fun hnone => ?_, fun htile hqueue => ?_, fun hport hfree => exec_queuePush_taken hport hfree addr, fun hhub hcore hclosed hfree => ?_, fun hbusy => ?_,
      exec_queuePushDone_none, exec_queuePushDone_good, fun hother => ?_, fun hport hfree hclosed => ?_, fun hport hfree hopen hnext => ?_,
      fun hport hfree hopen hnext => exec_queuePop_begins hport hfree hopen hnext addr, exec_queuePopDone_none, fun hpop hagrees hread =>
        exec_queuePopDone_same hpop hread hagrees, fun hclean => State.qTouch_clean hclean q consCore, fun hpop hdiffer hread =>
        exec_queuePopDone_disagreeing hpop hread hdiffer⟩⟩
  · rw [State.queue_qOffer_committed hcons hpend hroom htype hstays hagrees hhead hruns hfew]
    exact ⟨rfl, by simp [Queue.total, Queue.append, Nat.add_assoc], rfl⟩
  · rw [State.queue_qOffer_resetting hpend hroom htype hstays hagrees hresets]
    exact ⟨rfl, rfl⟩
  · rw [exec_queueResetEnd, State.qResetDone_resetting hresets]
  · rw [exec_queueResetEnd, State.qResetDone_none hnone]
  · rw [exec_pendingGapWrite, State.qFlushFree_none hnone]
  · rw [exec_queuePush, State.cmdPush_otherQueue htile hqueue]
  · rw [exec_queuePush, State.cmdPush_port (.inr ⟨hhub, hcore⟩) hfree, if_pos (by simp [hhub, hclosed])]
  · rw [exec_queuePush, State.cmdPush_busy hbusy]
  · rw [exec_queuePop, State.cmdPop_otherCore hother]
  · rw [exec_queuePop, State.cmdPop_closed hport hfree hclosed]
  · rw [exec_queuePop, State.cmdPop_open hport hfree hopen, hnext, Option.elim_none]

end Sys2Proof.Machine
end

section
/-! SUPPORT. Ladles (chapter 10): the descriptor whose turn it is, triggered runs, pending GAPs and ring pointers, and the statement O42. -/

namespace Sys2Proof.Machine

variable {s u : State} {w : Fin 9} {l : Fin 40} {d : Fin 4} {dest n : Nat} {v : Word} {p : PendGap}

/-! ### A record moved (R307) -/

theorem exec_ladleRecordMove_turn (hon : s.ladleOn l = true) (hturn : s.descTurn l = some d.val) (upset : PtrUpset) :
    let x := s.setLadle l { s.ladle l with last := d }
    exec (.ladleRecordMove l d upset) s = .next (if x.ringSource l d then x.moveRing l d else x.moveQueue l d upset) := by
  refine (if_pos (by simp [hon, hturn])).trans ?_
  dsimp only
  split <;> rfl

theorem exec_ladleRecordMove_not (h : ¬ (s.ladleOn l = true ∧ s.descTurn l = some d.val)) (upset : PtrUpset) :
    exec (.ladleRecordMove l d upset) s = .next s := if_neg (by simpa only [Bool.and_eq_true, beq_iff_eq] using h)

theorem State.moveQueue_none {l d : Nat} (h : s.qNext (s.get (F.LAD_D_CTL_SRC_Q l d)) (ladleCons l d) = none) (upset : PtrUpset) :
    s.moveQueue l d upset = s := by simp only [State.moveQueue, h]

/-! ### Triggered runs (R310) -/

theorem exec_ladleRun (s : State) (w : Fin 9) (l : Fin 40) (d : Fin 4) : exec (.ladleRun w l d) s = .next (s.cmdRun w l d) := rfl

/-- Core `w` may request runs of ladle `l`: the cores of a tile's ladle, of a hub ladle the vat core. -/
def runWriter (w l : Nat) : Bool := if l < 32 then tileWriter w (l / 4) else w == vat

section
variable {w l d : Nat}

theorem State.cmdRun_may (h : runWriter w l = true) (d : Nat) : s.cmdRun w l d = s.ladleRequest l d := if_pos h

theorem State.cmdRun_mayNot (h : runWriter w l = false) (d : Nat) : s.cmdRun w l d = s := if_neg (ne_true_of_eq_false h)

theorem State.ladleRequest_untriggered (h : s.isSet (F.LAD_D_CTL_TRIGGERED l d) = false) : s.ladleRequest l d = s :=
  if_neg (by rw [h, Bool.and_false]; exact Bool.false_ne_true)

theorem State.cmdRun_untriggered (h : s.isSet (F.LAD_D_CTL_TRIGGERED l d) = false) (w : Nat) : s.cmdRun w l d = s := by
  rw [State.cmdRun, State.ladleRequest_untriggered h, ite_self]

section
variable (hen : s.isSet (F.LAD_D_CTL_EN l d) = true) (htrig : s.isSet (F.LAD_D_CTL_TRIGGERED l d) = true)
include hen htrig

theorem State.ladleRequest_begins (hnone : s.runLeft l d = none) : s.ladleRequest l d = s.setRunLeft l d (s.srcCount l d) := by
  rw [State.ladleRequest, hen, htrig, hnone]
  rfl

/-- A request during a run is merged into a second one, of what the run does not move. -/
theorem State.ladleRequest_merges (hruns : s.runLeft l d = some n) :
    let x := s.setBit (F.LAD_STAT_PENDING l) d
    s.ladleRequest l d = x.setLadle l { s.ladle l with again := tabInsert d (x.srcCount l d - n) (tabDrop d (s.ladle l).again) } := by
  rw [State.ladleRequest, hen, htrig, hruns]
  rfl

end

end

theorem exec_ladleRunEnd_none (h : s.runLeft l d = none) : exec (.ladleRunEnd l d) s = .next s := by
  change execLadleRunEnd l d s = _
  rw [execLadleRunEnd, h]

theorem exec_ladleRunEnd_goesOn (hruns : s.runLeft l d = some (n + 1)) (hmore : 0 < s.srcCount l d) : exec (.ladleRunEnd l d) s = .next s := by
  change execLadleRunEnd l d s = _
  rw [execLadleRunEnd, hruns]
  exact if_neg fun h => h.elim (Nat.succ_ne_zero n) fun ⟨hempty, _⟩ => Nat.ne_of_gt hmore hempty

/-- The state once a run of descriptor `d` has ended and DONE_SEEN shows it, before the ladle's event. -/
def State.runDone (s : State) (l d : Nat) : State :=
  (s.setLadle l { s.ladle l with runs := tabDrop d (s.ladle l).runs }).put (F.LAD_EVT_DONE_SEEN l) 1

theorem exec_ladleRunEnd_ends (h : s.runLeft l d = some 0) : exec (.ladleRunEnd l d) s = .next (((s.runDone l d).ladleEvent l d).runAgain l d) := by
  change execLadleRunEnd l d s = _
  rw [execLadleRunEnd, h]
  exact if_pos (.inl rfl)

/-! ### What the end of a run leaves -/

theorem find?_tabDrop_same {α : Type} (k : Nat) (t : List (Nat × α)) : (tabDrop k t).find? (fun r => r.1 == k) = none := by
  induction t with
  | nil => rfl
  | cons c t ih =>
    obtain ⟨j, x⟩ := c
    rw [tabDrop]
    split
    next => exact ih
    next hother => rw [List.find?_cons_of_neg (by simpa using hother), ih]

@[simp] theorem State.ladle_setLadle_same (s : State) (l : Nat) (x : Ladle) : (s.setLadle l x).ladle l = x := by simp [State.ladle, State.setLadle]

theorem State.runLeft_congr {s t : State} (h : t.ladles = s.ladles) (l d : Nat) : t.runLeft l d = s.runLeft l d := by
  rw [State.runLeft, State.runLeft, State.ladle, State.ladle, h]

section
variable (s : State) (l d : Nat)

/-- A ladle's event is one of a tile's core, or one of the vat core, or none. -/
theorem State.ladleEvent_eq : s.ladleEvent l d = s.raiseTile (l / 4) 15 ∨ s.ladleEvent l d = s ∨
    ∃ q, q < 64 ∧ s.ladleEvent l d = s.raise (24 + q / 8) := by
  unfold State.ladleEvent
  split
  · exact .inl rfl
  split
  · exact .inr (.inl rfl)
  · exact .inr (.inr ⟨_, Fld.ofWord_lt _ _, rfl⟩)

theorem State.ladleEvent_frame : (s.ladleEvent l d).ladles = s.ladles ∧ (s.ladleEvent l d).mem = s.mem ∧ (s.ladleEvent l d).queues = s.queues := by
  obtain h | h | ⟨q, -, h⟩ := s.ladleEvent_eq l d
  · rw [h]
    exact ⟨rfl, rfl, rfl⟩
  · rw [h]
    exact ⟨rfl, rfl, rfl⟩
  · rw [h]
    exact ⟨by unfold State.raise; split <;> rfl, s.raise_mem _, s.raise_queues _⟩

theorem ladBase_add_ne_evt {l k q : Nat} (hl : l < 40) (hk : k < 0x100) (hq : q < 64) :
    ladBase l + k ≠ R.EVT_SEEN_LO ∧ ladBase l + k ≠ R.EVT_SEEN_HI ∧ ladBase l + k ≠ R.EVT_CNT (24 + q / 8) := by
  simp only [ladBase, R.EVT_SEEN_LO, R.EVT_SEEN_HI, R.EVT_CNT]
  split <;> omega

/-- A ladle's event leaves every ladle's registers. -/
theorem State.get_ladleEvent {f : Fld} {m k : Nat} (hm : m < 40) (hk : k < 0x100) (hf : f.addr = ladBase m + k) : (s.ladleEvent l d).get f = s.get f := by
  obtain h | h | ⟨q, hq, h⟩ := s.ladleEvent_eq l d
  · rw [h, State.get_raiseTile]
  · rw [h]
  · obtain ⟨hlo, hhi, hcnt⟩ := ladBase_add_ne_evt hm hk hq
    rw [h, State.get_raise_other _ _ _ (hf ▸ hlo) (hf ▸ hhi) (hf ▸ hcnt)]

end

theorem State.runAgain_notPending {l d : Nat} (h : s.bit (F.LAD_STAT_PENDING l) d = false) : s.runAgain l d = s := if_neg (ne_true_of_eq_false h)

/-- With no second run merged, the end of a run leaves none. -/
theorem exec_ladleRunEnd_last (hruns : s.runLeft l d = some 0) (hlast : s.bit (F.LAD_STAT_PENDING l) d = false) : Completes (.ladleRunEnd l d) s (fun t =>
    t.runLeft l d = none ∧ t.get (F.LAD_EVT_DONE_SEEN l) = 1 ∧ t.mem = s.mem ∧ t.queues = s.queues) := by
  have hstat : ((s.runDone l d).ladleEvent l d).get (F.LAD_STAT_PENDING l) = s.get (F.LAD_STAT_PENDING l) := by
    rw [State.get_ladleEvent _ _ _ l.isLt (k := 0) (by decide) rfl, State.runDone, State.get_put_other _ _ _ _ (by dsimp only [R.LAD_STAT, R.LAD_EVT]; omega),
      State.get_setLadle]
  have hnot : ((s.runDone l d).ladleEvent l d).bit (F.LAD_STAT_PENDING l) d = false := by rw [State.bit, hstat]; exact hlast
  obtain ⟨hladles, hmem, hqueues⟩ := (s.runDone l d).ladleEvent_frame l d
  refine ⟨_, (exec_ladleRunEnd_ends hruns).trans (congrArg _ (State.runAgain_notPending hnot)), ?_, ?_, hmem, hqueues⟩
  · rw [State.runLeft_congr hladles, State.runDone, State.runLeft_congr (State.put_ladles _ _ _), State.runLeft, State.ladle_setLadle_same, find?_tabDrop_same]
    rfl
  · rw [State.get_ladleEvent _ _ _ l.isLt (k := 4) (by decide) rfl, State.runDone, State.get_put_same _ _ _ (by dsimp only; omega)]
    rfl

/-! ### Pending GAPs (R308) -/

theorem exec_ladleGapWrite_none (h : s.ladPend l dest = none) : exec (.ladleGapWrite l dest) s = .next s := by
  change execLadleGapWrite l dest s = _
  rw [execLadleGapWrite, h]

theorem exec_ladleGapWrite_waits (hpend : s.ladPend l dest = some p) (hfull : s.ladFlush l 0 dest [] = none) : exec (.ladleGapWrite l dest) s = .next s := by
  change execLadleGapWrite l dest s = _
  rw [execLadleGapWrite, hpend, hfull]

theorem exec_ladleGapWrite_writes (hpend : s.ladPend l dest = some p) (hfits : s.ladFlush l 0 dest [] = some u) :
    exec (.ladleGapWrite l dest) s = .next (if dest = dCtrl then (u.parksEnter 64).showParked else u) := by
  change execLadleGapWrite l dest s = _
  rw [execLadleGapWrite, hpend, hfits]

/-! ### Ring pointers (R309) -/

theorem exec_ringPointerWrite (s : State) (w : Fin 9) (l : Fin 40) (d : Fin 4) (read : Bool) (v : Word) :
    exec (.ringPointerWrite w l d read v) s = .next (s.cmdRingPtr w l d read v) := rfl

section
variable {w l : Nat}

theorem State.cmdRingPtr_mayNot (htile : l < 32) (hother : tileWriter w (l / 4) = false) (d : Nat) (read : Bool) (v : Word) :
    s.cmdRingPtr w l d read v = s := if_pos (by simp [htile, hother])

theorem State.cmdRingPtr_may (h : 32 ≤ l ∨ tileWriter w (l / 4) = true) (d : Nat) (read : Bool) (v : Word) : s.cmdRingPtr w l d read v =
    if read then (if s.ringDest l d then s.put (F.LAD_D_RING_RD_RD l d) v.toNat else s)
    else if s.ringSource l d then s.put (F.LAD_D_RING_WR_WR l d) v.toNat else s := by
  refine if_neg ?_
  obtain hhub | hwriter := h
  · simp [Nat.not_lt_of_le hhub]
  · simp [hwriter]

end

/-- Settles O42: each clause is what a command of the ladles does once its condition holds, or that it does nothing. -/
theorem ladleEvents : Obligations.LadleEvents := by
  intro s w l d dest n upset v p u
  refine ⟨fun hon hturn => exec_ladleRecordMove_turn hon hturn upset, fun hnone => State.moveQueue_none hnone upset, fun hoff => ?_, fun hother => ?_,
    fun hmay hen htrig => ⟨fun hnone => ?_, fun hruns => ?_⟩, fun hnot => ?_, fun huntriggered => ?_, exec_ladleRunEnd_none, exec_ladleRunEnd_goesOn,
    exec_ladleRunEnd_ends, exec_ladleRunEnd_last, exec_ladleGapWrite_none, exec_ladleGapWrite_waits, fun hpend hfits hplain => ?_, fun hpend hfits => ?_,
    fun hmay => ⟨fun hring => ?_, fun hring => ?_, fun hring => ?_, fun hring => ?_⟩, fun rd htile hnot => ?_⟩
  · exact exec_ladleRecordMove_not (fun ⟨hon, _⟩ => ne_true_of_eq_false hoff hon) upset
  · exact exec_ladleRecordMove_not (fun ⟨_, hturn⟩ => hother hturn) upset
  · rw [exec_ladleRun, State.cmdRun_may hmay, State.ladleRequest_begins hen htrig hnone]
  · rw [exec_ladleRun, State.cmdRun_may hmay, State.ladleRequest_merges hen htrig hruns]
  · rw [exec_ladleRun, State.cmdRun_mayNot hnot]
  · rw [exec_ladleRun, State.cmdRun_untriggered huntriggered]
  · rw [exec_ladleGapWrite_writes hpend hfits, if_neg hplain]
  · rw [exec_ladleGapWrite_writes hpend hfits, if_pos rfl]
  · exact ⟨_, by rw [exec_ringPointerWrite, State.cmdRingPtr_may hmay, if_pos rfl, if_pos hring], rfl⟩
  · rw [exec_ringPointerWrite, State.cmdRingPtr_may hmay, if_pos rfl, if_neg (ne_true_of_eq_false hring)]
  · exact ⟨_, by rw [exec_ringPointerWrite, State.cmdRingPtr_may hmay, if_neg Bool.false_ne_true, if_pos hring], rfl⟩
  · rw [exec_ringPointerWrite, State.cmdRingPtr_may hmay, if_neg Bool.false_ne_true, if_neg (ne_true_of_eq_false hring)]
  · rw [exec_ringPointerWrite, State.cmdRingPtr_mayNot htile hnot]

end Sys2Proof.Machine
end

section
/-! SUPPORT. A tile's restart and the WATCH condition (chapters 10, 14 and 15), and the statement O45. -/

namespace Sys2Proof.Machine

variable {s : State} {w : Fin 9} {t : Fin 8} {a : Nat} {ups : List StoreUpset}

/-! ### A tile's restart (R425) -/

@[simp] theorem State.tileRun_setTileRun_same (s : State) (t : Nat) (x : TileRun) : (s.setTileRun t x).tileRun t = x := by
  simp [State.tileRun, State.setTileRun]

theorem exec_tileRestartDrainEnd_due (hphase : (s.tileRun t).phase = 1) (hdue : (s.tileRun t).at_ + 20000000 ≤ s.lt ∨ s.tileDrained t = true) :
    exec (.tileRestartDrainEnd t) s = .next (s.restartDrained t) := if_pos (by simpa [hphase, or_comm] using hdue)

theorem exec_tileRestartDrainEnd_early (hearly : s.lt < (s.tileRun t).at_ + 20000000) (hholds : s.tileDrained t = false) :
    exec (.tileRestartDrainEnd t) s = .next s := if_neg (by simp [hearly, hholds])

theorem exec_tileRestartDrainEnd_other (h : (s.tileRun t).phase ≠ 1) : exec (.tileRestartDrainEnd t) s = .next s := if_neg (by simp [h])

theorem State.phase_restartDrained {t : Nat} (h : s.get (F.FLT_TILE_LAST_CAUSE t) ≠ tcLimit) : ((s.restartDrained t).tileRun t).phase = 2 := by
  rw [State.restartDrained, if_neg h, State.tileRun_setTileRun_same]

theorem State.phase_restartTake (s : State) (img : List Byte) (t : Nat) : ((s.restartTake img t).tileRun t).phase = 3 := by
  rw [State.restartTake, State.tileRun_setTileRun_same]

/-! ### Sections from the store or from the key (R283, R330) -/

/-- The restart of tile `t` waits for its sections. -/
def State.restartWaits (s : State) (t : Nat) : Prop := (s.tileRun t).phase = 2 ∧ s.dom (domTile t) ≠ domOff

theorem exec_tileRestartApply_waits (h : s.restartWaits t) : exec (.tileRestartApply t ups) s = .next ((ups.foldl State.storeUpset s).tileApply t) := by
  obtain ⟨hphase, hdom⟩ := h
  exact if_pos (by simpa [hphase] using hdom)

theorem exec_tileRestartApply_not (h : ¬ s.restartWaits t) : exec (.tileRestartApply t ups) s = .next s :=
  if_neg fun happly => h (by simpa [State.restartWaits] using happly)

section
variable {base : Nat} {img : List Byte} {t : Nat} (hlines : s.lines = [])
include hlines

theorem State.memTouch_of_lines_nil (a n : Nat) : s.memTouch a n = s := State.memTouch_clean (by simp [hlines]) a n

theorem State.storeRead_of_lines_nil : s.storeRead base img t = s := by
  have hread : (storePlaces base img t).foldl (fun s p => s.memTouch p.1 p.2) s = s := by
    induction storePlaces base img t with
    | nil => rfl
    | cons p l ih => rw [List.foldl_cons, State.memTouch_of_lines_nil hlines, ih]
  have hsound : (storePlaces base img t).any (fun p => s.poisoned p.1 p.2) = false := by simp [State.poisoned_of_lines_nil hlines]
  rw [State.storeRead, hread]
  exact if_neg (ne_true_of_eq_false hsound)

variable (hphase : (s.tileRun t).phase = 2) (hidle : s.key.tile ≠ some t)
include hphase hidle

/-- From a store without errors a restart takes its sections where their SCRCs hold, else it asks the key for those that fail. -/
theorem State.tileApply_restart :
    let n := s.restartImage t
    let img := s.bytes (s.bankAt n.1) n.2
    let bad := s.sectsBad (s.bankAt n.1) img t
    s.tileApply t = if bad.isEmpty then s.restartTake img t else s.keyForTile t bad := by
  have himage : (s.tileImage t).1 = (s.restartImage t).1 ∧ (s.tileImage t).2.1 = (s.restartImage t).2 := by
    simp [State.tileImage, hphase]
  obtain ⟨hbank, hlen⟩ := himage
  have hsections (img : List Byte) : s.tileSections img t = s.restartTake img t := if_neg (by simp [hphase])
  simp only [State.tileApply, if_neg hidle, hbank, hlen, State.storeRead_of_lines_nil hlines, State.poisoned_of_lines_nil hlines, Bool.false_eq_true, if_false,
    hsections]

end

section
variable {t : Nat} (l : List Nat)

/-- Without a key the tile whose restart waits stays out of service. -/
theorem State.keyForTile_noKey (hphase : (s.tileRun t).phase = 2) (h : s.isSet F.KEY_STAT_PRESENT = false) : s.keyForTile t l = s.tileNoSection t := by
  rw [State.keyForTile, if_pos (by rw [h]; rfl), State.tileLost, hphase]
  rfl

theorem State.keyForTile_reads (hkey : s.isSet F.KEY_STAT_PRESENT = true) (hjob : s.key.job = 0) (hcycle : s.key.cycle = none)
    (hdom : s.domAgreed domKey = false) (hport : s.get F.KEY_STAT_STATE ≠ ksHung) : s.keyForTile t l = s.keyStart false 0 (some t) l := by
  rw [State.keyForTile, if_neg (by rw [hkey]; decide), if_neg (by simp [hjob, hcycle, hdom]), if_neg hport]

end

theorem State.storeUpset_inside {u : StoreUpset} (h : s.get F.KEY_STORE_BASE ≤ 0x10000000 + 64 * u.line.val)
    (h' : 0x10000000 + 64 * u.line.val < s.get F.KEY_STORE_BASE + 0x100000) :
    s.storeUpset u = s.setLineErr (lineKey 16 u.line) ((s.lineErr (lineKey 16 u.line)).upset u.upset) := if_pos ⟨h, h'⟩

theorem State.storeUpset_outside {u : StoreUpset}
    (h : 0x10000000 + 64 * u.line.val < s.get F.KEY_STORE_BASE ∨ s.get F.KEY_STORE_BASE + 0x100000 ≤ 0x10000000 + 64 * u.line.val) :
    s.storeUpset u = s := if_neg fun ⟨hfrom, hto⟩ => h.elim (Nat.not_lt_of_le hfrom) (Nat.not_le_of_lt hto)

/-- What comes to the store's lines moves no tile's restart and no register. -/
theorem State.storeUpset_frame (s : State) (u : StoreUpset) : ((s.storeUpset u).tiles, (s.storeUpset u).regs) = (s.tiles, s.regs) := by
  unfold State.storeUpset
  dsimp only
  split <;> rfl

theorem State.restartWaits_foldl_storeUpset (s : State) (ups : List StoreUpset) (t : Nat) : (ups.foldl State.storeUpset s).restartWaits t ↔ s.restartWaits t := by
  have hframe := foldl_keeps (fun u : State => (u.tiles, u.regs)) _ State.storeUpset_frame ups s
  simp only [Prod.mk.injEq] at hframe
  obtain ⟨htiles, hregs⟩ := hframe
  rw [State.restartWaits, State.restartWaits, State.tileRun, State.tileRun, State.dom, State.dom, htiles, State.get_congr hregs]

/-- The upsets come first, and the read that follows finds them. -/
theorem exec_tileRestartApply_upsets (h : s.restartWaits t) :
    exec (.tileRestartApply t ups) s = exec (.tileRestartApply t []) (ups.foldl State.storeUpset s) := by
  rw [exec_tileRestartApply_waits h, exec_tileRestartApply_waits ((s.restartWaits_foldl_storeUpset ups t).mpr h)]
  rfl

/-! ### A tile is back (R415, R425) -/

theorem exec_tileBack_not (h : (s.tileRun t).phase ≠ 3) : exec (.tileBack t) s = .next s := if_neg (by simp [h])

/-- The state once tile `t` has started with AFEt on and its streams have their RESUME MARKs. -/
def State.tileStarted (s : State) (t : Nat) : State :=
  ((s.tileStart t).setTileRun t { s.tileRun t with phase := 0, failed := false }).markResumes t

theorem exec_tileBack_starts (hphase : (s.tileRun t).phase = 3) (hon : s.domIsOn (domTile t) = true) (hafe : s.dom (domAfe t) = domOn) :
    let u := s.tileStarted t
    exec (.tileBack t) s = .next ((if s.tileState t == 2 then (u.logWrite kTileBack t (w32 t.val) (w32 (u.get (F.FLT_TILE_RESTARTS t))) 0#32).raise t
      else u).setTile t 1).watchFollow := by
  refine (if_pos (by simp [hphase, hon])).trans ?_
  rw [if_pos hafe]
  rfl

/-! ### WATCH (R398, R402) -/

theorem exec_watchOn (s : State) (w : Fin 9) : exec (.watchOn w) s = .next (s.cmdMod w 1#32) := rfl
theorem exec_watchOff (s : State) (w : Fin 9) : exec (.watchOff w) s = .next (s.cmdMod w 2#32) := rfl
theorem exec_autoWatchExpiry (s : State) : exec .autoWatchExpiry s = execAutoWatchExpiry s := rfl
theorem exec_watchEntryRetry (s : State) : exec .watchEntryRetry s = execWatchEntryRetry s := rfl

theorem State.cmdMod_otherCore {w : Nat} (h : w ≠ 8) (v : Word) : s.cmdMod w v = s := if_neg h

theorem State.cmdMod_on (s : State) : s.cmdMod 8 1#32 = (s.setWatch { s.watch with byVat := true }).watchSettle := rfl

theorem State.cmdMod_off (s : State) : s.cmdMod 8 2#32 = (s.setWatch { s.watch with byVat := false, byAuto := false }).watchSettle := rfl

/-- WATCH as its causes have it changes nothing. -/
theorem State.watchSettle_settled (h : (s.watch.byVat || s.watch.byAuto) = s.cond mWatch) : s.watchSettle = s := if_pos (by rw [h]; exact beq_self_eq_true _)

theorem State.watchSettle_enters (hcause : (s.watch.byVat || s.watch.byAuto) = true) (hcond : s.cond mWatch = false) :
    s.watchSettle = (s.setCond mWatch true).rateRestarts.watchEnter := by
  rw [State.watchSettle, hcause, hcond]
  rfl

theorem State.watchSettle_leaves (hcause : (s.watch.byVat || s.watch.byAuto) = false) (hcond : s.cond mWatch = true) :
    s.watchSettle = (s.setCond mWatch false).rateRestarts.watchLeave := by
  rw [State.watchSettle, hcause, hcond]
  rfl

theorem WatchSt.cleared_eq {b : WatchSt} (hvat : b.byVat = false) (hauto : b.byAuto = false) : { b with byVat := false, byAuto := false } = b := by
  cases b
  cases hvat
  cases hauto
  rfl

theorem State.watchNote_away (hauto : s.isSet F.MOD_CFG_AUTO_WATCH = true) (haway : s.watchSrcAway = true) :
    s.watchNote = if s.watch.away.isNone then { s with watch := { s.watch with away := some s.logLt } } else s := if_pos (by rw [hauto, haway]; rfl)

theorem State.watchNote_notAway (h : s.isSet F.MOD_CFG_AUTO_WATCH = false ∨ s.watchSrcAway = false) :
    s.watchNote = { s with watch := { s.watch with away := none } } := by
  refine if_neg ?_
  obtain h | h := h <;> simp [h]

theorem State.watchBack_returns (hauto : s.watch.byAuto = true) (hback : s.watchSrcAway = false) :
    s.watchBack = (s.setWatch { s.watch with byAuto := false }).watchSettle := if_pos (by rw [hauto, hback]; rfl)

theorem State.watchBack_away (h : s.watchSrcAway = true) : s.watchBack = s := if_neg (by simp [h])

theorem exec_autoWatchExpiry_none (h : s.watchNote.watchBack.watch.away = none) : exec .autoWatchExpiry s = .next s.watchNote.watchBack := by
  rw [exec_autoWatchExpiry, execAutoWatchExpiry, h]

theorem exec_autoWatchExpiry_away (h : s.watchNote.watchBack.watch.away = some a) :
    let u := s.watchNote.watchBack
    exec .autoWatchExpiry s = .next (if a + u.get F.MOD_CFG_WATCH_S * 1000000000 ≤ u.logLt then
      (u.setWatch { u.watch with byAuto := true }).watchSettle else u) := by
  rw [exec_autoWatchExpiry, execAutoWatchExpiry]
  generalize s.watchNote.watchBack = u at h ⊢
  rw [h]
  exact (apply_ite Host.Outcome.next _ _ _).symm

theorem exec_watchEntryRetry_none (h : s.watch.retryAt = none) : exec .watchEntryRetry s = .next s := by
  rw [exec_watchEntryRetry, execWatchEntryRetry, h]

section
variable (h : s.watch.retryAt = some a)
include h

theorem exec_watchEntryRetry_due (hcond : s.cond mWatch = true) (hdue : a ≤ s.lt) : exec .watchEntryRetry s = .next s.watchEnter := by
  rw [exec_watchEntryRetry, execWatchEntryRetry, h]
  exact if_pos (by simp [hcond, hdue])

theorem exec_watchEntryRetry_early (hearly : s.lt < a) : exec .watchEntryRetry s = .next s := by
  rw [exec_watchEntryRetry, execWatchEntryRetry, h]
  exact if_neg (by simp [Nat.not_le_of_lt hearly])

end

/-- Settles O45: each clause is what a command of a restart or of WATCH does once its condition holds, or that it does nothing. -/
theorem restartsAndWatch : Obligations.RestartsAndWatch := by
  intro s w t a ups
  refine ⟨exec_tileRestartDrainEnd_due, fun _ => exec_tileRestartDrainEnd_early, fun hphase hdom hlines hidle => ⟨fun hgood => ?_, fun hbad hkey => ?_,
      fun hbad hkey hjob hcycle hagreed hport => ?_⟩, fun hphase hreads => ?_, fun hphase hdom => exec_tileRestartApply_upsets ⟨hphase, hdom⟩,
    fun u => ⟨State.storeUpset_inside, State.storeUpset_outside⟩, fun hphase hon hafe => ⟨fun hserved => ?_, fun hout => ?_⟩, State.phase_restartDrained,
    fun img => s.phase_restartTake img t, exec_tileRestartDrainEnd_other, fun hphase => exec_tileRestartApply_not fun ⟨hwaits, _⟩ => hphase hwaits,
    exec_tileBack_not, fun hother => ⟨?_, ?_⟩, fun hvat hcond => ?_, fun hvat hcond hnone hnone' => ?_, fun hvat hcond => ?_, fun hvat hcond => ?_,
    fun hauto haway => ⟨fun hfirst => ?_, fun hnoted => ?_⟩, State.watchNote_notAway, State.watchBack_returns,
    fun h => h.elim State.watchBack_idle State.watchBack_away, exec_autoWatchExpiry_none, exec_autoWatchExpiry_away,
    fun hvat hcond => State.watchSettle_settled (by rw [hvat, hcond, Bool.true_or]), fun hvat hauto => State.watchSettle_enters (by rw [hvat, hauto]; rfl),
    fun hvat hauto => State.watchSettle_leaves (by rw [hvat, hauto]; rfl), exec_watchEntryRetry_due, exec_watchEntryRetry_early, exec_watchEntryRetry_none⟩
  · rw [exec_tileRestartApply_waits ⟨hphase, hdom⟩, List.foldl_nil, State.tileApply_restart hlines hphase hidle, if_pos (List.isEmpty_iff.mpr hgood)]
  · rw [exec_tileRestartApply_waits ⟨hphase, hdom⟩, List.foldl_nil, State.tileApply_restart hlines hphase hidle, if_neg (by simpa using hbad),
      State.keyForTile_noKey _ hphase hkey]
  · rw [exec_tileRestartApply_waits ⟨hphase, hdom⟩, List.foldl_nil, State.tileApply_restart hlines hphase hidle, if_neg (by simpa using hbad),
      State.keyForTile_reads _ hkey hjob hcycle hagreed hport]
  · by_cases hdom : s.dom (domTile t) = domOff
    · exact exec_tileRestartApply_not fun ⟨_, hnot⟩ => hnot hdom
    · rw [exec_tileRestartApply_waits ⟨hphase, hdom⟩, List.foldl_nil, State.tileApply, if_pos hreads]
  · rw [exec_tileBack_starts hphase hon hafe, if_neg (by simpa using hserved)]
    rfl
  · rw [exec_tileBack_starts hphase hon hafe, if_pos (by simpa using hout)]
    rfl
  · rw [exec_watchOn, State.cmdMod_otherCore hother]
  · rw [exec_watchOff, State.cmdMod_otherCore hother]
  · rw [exec_watchOn, hvat, State.cmdMod_on, State.watchSettle_settled]
    exact hcond.symm
  · have hsame : s.setWatch { s.watch with byVat := false, byAuto := false } = s := congrArg s.setWatch (WatchSt.cleared_eq hnone hnone')
    rw [exec_watchOff, hvat, State.cmdMod_off, hsame, State.watchSettle_settled (by rw [hnone, hnone', hcond]; rfl)]
  · rw [exec_watchOn, hvat, State.cmdMod_on, State.watchSettle_enters rfl]
    exact hcond
  · rw [exec_watchOff, hvat, State.cmdMod_off, State.watchSettle_leaves rfl]
    exact hcond
  · rw [State.watchNote_away hauto haway, hfirst]
    rfl
  · rw [State.watchNote_away hauto haway, hnoted]
    rfl

end Sys2Proof.Machine
end

section
/-! SUPPORT. What queues and the trouble log leave of the registers: the first ones of the key's, the two-wire ports' and the module's register blocks. -/

namespace Sys2Proof.Machine

variable (s : State)

/-- A register among the first five of its 64 bytes, behind the trouble log's registers and before the module events': in a queue's 64 bytes, queues and the
trouble log write behind the first five alone. -/
def besideLog (a : Nat) : Bool := decide (a % 64 < 0x14) && decide (0x50060100 ≤ a) && decide (a < 0x500B0100)

/-- The registers of `besideLog`; 0 in place of the others. -/
def State.beside : Nat → Word := fun a => if besideLog a then s.rd a else 0#32

theorem State.get_of_beside {s t : State} (h : t.beside = s.beside) {f : Fld} (hf : besideLog f.addr = true) : t.get f = s.get f := by
  have hrd : t.rd f.addr = s.rd f.addr := by simpa only [State.beside, if_pos hf] using congrFun h f.addr
  rw [State.get, State.get, hrd]

theorem State.beside_congr {s t : State} (h : t.regs = s.regs) : t.beside = s.beside := by
  funext a
  rw [State.beside, State.beside, State.rd, State.rd, h]

@[simp] theorem State.beside_ite (p : Prop) [Decidable p] (t : State) :
    (if p then s else t).beside = if p then s.beside else t.beside := apply_ite State.beside p s t

@[simp] theorem State.beside_ite_fst {β : Type} (p : Prop) [Decidable p] (a b : State × β) :
    (if p then a else b).1.beside = if p then a.1.beside else b.1.beside := apply_ite (fun x : State × β => x.1.beside) p a b

@[simp] theorem State.beside_foldl {α : Type} (f : State → α → State) (h : ∀ s x, (f s x).beside = s.beside) (l : List α) :
    (l.foldl f s).beside = s.beside := foldl_keeps State.beside f h l s

/-! ### Registers that queues and the trouble log write -/

@[simp] theorem State.beside_wr {a : Nat} (v : Word) (h : besideLog a = false) : (s.wr a v).beside = s.beside := by
  funext m
  unfold State.beside
  split
  next hm => exact s.rd_wr_other v fun heq => ne_true_of_eq_false h (heq ▸ hm)
  next => rfl

@[simp] theorem State.beside_put {f : Fld} (n : Nat) (h : besideLog f.addr = false) : (s.put f n).beside = s.beside := s.beside_wr _ h
@[simp] theorem State.beside_setBit {f : Fld} (i : Nat) (h : besideLog f.addr = false) : (s.setBit f i).beside = s.beside := s.beside_put _ h
@[simp] theorem State.beside_incSat {f : Fld} (n : Nat) (h : besideLog f.addr = false) : (s.incSat f n).beside = s.beside := s.beside_put _ h
@[simp] theorem State.beside_incWrap {f : Fld} (n : Nat) (h : besideLog f.addr = false) : (s.incWrap f n).beside = s.beside := s.beside_put _ h

theorem qBase_add_notBeside (q : Nat) {k : Nat} (hk : 0x14 ≤ k) (hk' : k < 64) : besideLog (qBase q + k) = false := by
  have hmod : (qBase q + k) % 64 = k := by
    unfold qBase
    split <;> omega
  simp only [besideLog, hmod, decide_eq_false (Nat.not_lt_of_le hk), Bool.false_and]

@[simp] theorem R.qEvt_notBeside (q : Nat) : besideLog (R.Q_EVT q) = false := qBase_add_notBeside q (by decide) (by decide)
@[simp] theorem R.qCnt0_notBeside (q : Nat) : besideLog (R.Q_CNT0 q) = false := qBase_add_notBeside q (by decide) (by decide)
@[simp] theorem R.qPushRes_notBeside (q : Nat) : besideLog (R.Q_PUSH_RES q) = false := qBase_add_notBeside q (by decide) (by decide)
@[simp] theorem R.qPopRes_notBeside (q : Nat) : besideLog (R.Q_POP_RES q) = false := qBase_add_notBeside q (by decide) (by decide)

@[simp] theorem R.evtCnt_notBeside (n : Nat) : besideLog (R.EVT_CNT n) = false := by
  simp only [besideLog, decide_eq_false (show ¬ R.EVT_CNT n < 0x500B0100 by unfold R.EVT_CNT; omega), Bool.and_false]

/-! ### The units' own updates and events -/

@[simp] theorem State.beside_setCore (k : Nat) (c : Core) : (s.setCore k c).beside = s.beside := State.beside_congr rfl
@[simp] theorem State.beside_raiseTile (t n : Nat) : (s.raiseTile t n).beside = s.beside := State.beside_congr rfl
@[simp] theorem State.beside_takeSeq (k : Nat) : (s.takeSeq k).beside = s.beside := State.beside_congr rfl
@[simp] theorem State.beside_setQueue (q : Nat) (x : Queue) : (s.setQueue q x).beside = s.beside := State.beside_congr rfl
@[simp] theorem State.beside_setLadle (l : Nat) (x : Ladle) : (s.setLadle l x).beside = s.beside := State.beside_congr rfl
@[simp] theorem State.beside_setEng (t : Nat) (x : ChurnSt) : (s.setEng t x).beside = s.beside := State.beside_congr rfl
@[simp] theorem State.beside_setGrp (t g : Nat) (x : GroupSt) : (s.setGrp t g x).beside = s.beside := State.beside_congr rfl

@[simp] theorem State.beside_raise (n : Nat) : (s.raise n).beside = s.beside := by
  unfold State.raise
  split <;> rw [State.beside_setCore, State.beside_incSat _ _ (R.evtCnt_notBeside n), State.beside_setBit _ _ rfl]
@[simp] theorem State.beside_raiseQueue (q : Nat) : (s.raiseQueue q).beside = s.beside := s.beside_raise _

/-! ### Queues -/

@[simp] theorem State.beside_qRoom (q before : Nat) : (s.qRoom q before).beside = s.beside := by simp [State.qRoom]

@[simp] theorem State.beside_resetPorts (q : Nat) : (s.resetPorts q).beside = s.beside := by simp [State.resetPorts]

@[simp] theorem State.beside_resetOpens (q : Nat) (l : List (Nat × OpenSamples)) (p : PendGap) : (s.resetOpens q l p).1.beside = s.beside := by
  induction l generalizing s p with
  | nil => rfl
  | cons o l ih => rw [State.resetOpens, ih, State.beside_takeSeq]

@[simp] theorem State.beside_resetGap (q : Nat) : (s.resetGap q).1.beside = s.beside := s.beside_resetOpens _ _ _

@[simp] theorem State.beside_qReset (q cause : Nat) : (s.qReset q cause).beside = s.beside := by
  unfold State.qReset
  split <;> simp

@[simp] theorem State.beside_qCompare (q : Nat) : (s.qCompare q).beside = s.beside := by simp [State.qCompare]

@[simp] theorem State.beside_qDrop (q : Nat) (r : Rec) : (s.qDrop q r).beside = s.beside := by
  unfold State.qDrop
  dsimp only
  split <;> simp

@[simp] theorem State.beside_evictRuns (q : Nat) (old : Queue) : (s.evictRuns q old).beside = s.beside := by
  refine s.beside_foldl _ (fun s l => s.beside_foldl _ (fun s d => ?_) _) _
  rw [State.beside_ite, State.beside_setLadle, ite_self]

@[simp] theorem State.beside_qMakeRoom (q need limit : Nat) : (s.qMakeRoom q need limit).beside = s.beside := by simp [State.qMakeRoom]

@[simp] theorem State.beside_qThreshold (q : Nat) : (s.qThreshold q).beside = s.beside := by simp [State.qThreshold]

@[simp] theorem State.beside_qCommit (q : Nat) (r : Rec) : (s.qCommit q r).beside = s.beside := by
  rw [State.qCommit, State.beside_qThreshold, State.beside_setQueue]

@[simp] theorem State.beside_gapCovers (t : Nat) (es : List GapEntry) : (s.gapCovers t es).beside = s.beside := by
  refine s.beside_foldl _ (fun s e => ?_) _
  rw [State.beside_ite, State.beside_setEng, State.beside_setGrp, ite_self]

@[simp] theorem State.beside_qWriteGaps (q cause : Nat) (l : List (List GapEntry)) : (s.qWriteGaps q cause l).beside = s.beside := by
  induction l generalizing s with
  | nil => rfl
  | cons es l ih => simp [State.qWriteGaps, ih]

@[simp] theorem State.beside_qWriteMarks (q : Nat) (l : List Rec) : (s.qWriteMarks q l).beside = s.beside := by
  induction l generalizing s with
  | nil => rfl
  | cons r l ih => rw [State.qWriteMarks, ih, State.beside_qCommit]

@[simp] theorem State.beside_qWritePend (q : Nat) (p : PendGap) : (s.qWritePend q p).beside = s.beside := by
  rw [State.qWritePend, State.beside_qWriteMarks, State.beside_qWriteGaps, State.beside_setQueue]

@[simp] theorem State.beside_qFlushFor (q : Nat) (r : Rec) : (s.qFlushFor q r).1.beside = s.beside := by
  unfold State.qFlushFor
  split
  · rfl
  · simp

@[simp] theorem State.beside_qAdmit (q : Nat) (r : Rec) : (s.qAdmit q r).beside = s.beside := by simp [State.qAdmit]

@[simp] theorem State.beside_qOffer (q : Nat) (r : Rec) : (s.qOffer q r).beside = s.beside := by
  rw [State.qOffer, State.beside_qCompare, State.beside_qAdmit]

@[simp] theorem State.beside_offerNew (q : Nat) (r : Rec) : (s.offerNew q r).beside = s.beside := by
  rw [State.offerNew, State.beside_qOffer, State.beside_takeSeq]

/-! ### The trouble log -/

@[simp] theorem State.beside_logOut (e : LogEntry) : (s.logOut e).beside = s.beside := by
  unfold State.logOut
  split
  · split
    · exact s.beside_offerNew _ _
    · exact State.beside_congr rfl
  · rfl

@[simp] theorem State.beside_logWrite (kind event : Nat) (d0 d1 d2 : Word) : (s.logWrite kind event d0 d1 d2).beside = s.beside := by
  refine (State.beside_logOut _ _).trans ?_
  split
  · rw [State.beside_incWrap _ _ rfl, State.beside_put _ _ rfl, State.beside_put _ _ rfl, State.beside_incSat _ _ rfl, State.beside_incWrap _ _ rfl]
    exact State.beside_congr rfl
  · rw [State.beside_incSat _ _ rfl, State.beside_incWrap _ _ rfl]
    exact State.beside_congr rfl

end Sys2Proof.Machine
end

section
/-! SUPPORT. The key port's operations (chapter 11): what its supply, a read, a refusal and a hang leave in it, and its registers. -/

namespace Sys2Proof.Machine

variable {s : State}

@[simp] theorem State.key_setKey (s : State) (k : KeySt) : (s.setKey k).key = k := rfl

/-! ### KEY_VCC (R327, R338) -/

theorem State.keyVcc_regs (s : State) (on : Bool) : (s.keyVcc on).regs = s.regs := by
  unfold State.keyVcc
  split <;> rfl

@[simp] theorem State.get_keyVcc (s : State) (on : Bool) (f : Fld) : (s.keyVcc on).get f = s.get f := State.get_congr (s.keyVcc_regs on) f

@[simp] theorem State.key_keyVcc (s : State) (on : Bool) : (s.keyVcc on).key = { s.key with vcc := on } := by
  unfold State.keyVcc
  split
  next h => rw [← h]
  next => rfl

@[simp] theorem State.keyVcc_lt (s : State) (on : Bool) : (s.keyVcc on).lt = s.lt := by
  unfold State.keyVcc
  split <;> rfl

@[simp] theorem State.keyRaise_lt (s : State) : s.keyRaise.lt = s.lt := State.keyVcc_lt _ _

theorem State.key_keyRaise (s : State) : s.keyRaise.key = { s.key with vcc := true } := State.key_keyVcc _ _

theorem State.key_of_rest {s t : State} (h : t.rest = s.rest) : t.key = s.key := by
  have hkey : t.rest.key = s.rest.key := congrArg State.key h
  exact hkey

@[simp] theorem State.key_logWrite (s : State) (kind event : Nat) (d0 d1 d2 : Word) : (s.logWrite kind event d0 d1 d2).key = s.key :=
  State.key_of_rest (s.rest_logWrite kind event d0 d1 d2)

@[simp] theorem State.key_incSat (s : State) (f : Fld) (n : Nat) : (s.incSat f n).key = s.key := rfl

/-! ### The end of a job and refusals (R329) -/

/-- The key port with its job ended and KEY_VCC off. -/
def KeySt.ended (k : KeySt) : KeySt :=
  { KeySt.start with at_ := k.at_, staged := k.staged, waits := k.waits }

theorem State.key_keyRest (s : State) (st : Nat) : (s.keyRest st).key = s.key.ended := by
  rw [State.keyRest, State.key_setKey, State.key_keyVcc]
  rfl

theorem State.get_state_keyRest (s : State) {st : Nat} (h : st < 8) : (s.keyRest st).get F.KEY_STAT_STATE = st := by
  rw [State.keyRest, State.get_setKey, State.get_put_same _ _ _ (by decide)]
  exact Nat.mod_eq_of_lt h

/-- A refusal that no tile waits for ends the job; of a staging the staged image is discarded. -/
theorem State.key_keyRefuseTo (r : Refuse) (st : Nat) (h : s.key.tile = none) :
    (s.keyRefuseTo r st).key = (if s.key.staging then { s.key with staged := none } else s.key).ended := by
  rw [State.keyRefuseTo, h]
  change (State.keyRest _ st).key = _
  rw [State.key_keyRest]
  split <;> simp

/-! ### A read (R315, R325, R327, R328) -/

theorem State.keyRead_eq (s : State) : s.keyRead.key = { s.key with job := 2 } ∧
    ∃ n, s.keyRead.out = s.out ++ [.keyRead (0x50 + s.key.block) s.key.got n] := ⟨rfl, _, rfl⟩

/-- The key port once a load or a staging has begun at LT `lt`: KEY_VCC is on and the read waits for its start. -/
def KeySt.begun (k : KeySt) (staging : Bool) (want lt : Nat) : KeySt :=
  { KeySt.start with job := 1, staging := staging, want := want, at_ := lt, staged := k.staged, vcc := true, waits := k.waits }

/-- The KEY domain and KEY_VCC on. -/
def State.keyPowered (s : State) : State := (if s.domIsOn domKey then s else s.keyRaise).keyVcc true

@[simp] theorem State.key_keyPowered (s : State) : s.keyPowered.key = { s.key with vcc := true } := by
  rw [State.keyPowered, State.key_keyVcc]
  split
  · rfl
  · rw [State.key_keyRaise]

@[simp] theorem State.keyPowered_lt (s : State) : s.keyPowered.lt = s.lt := by
  rw [State.keyPowered, State.keyVcc_lt]
  split
  · rfl
  · exact s.keyRaise_lt

section
variable (staging : Bool) (want : Nat)

theorem State.keyBegin_present (h : s.isSet F.KEY_STAT_PRESENT = true) :
    let u := (s.setKey { s.key with staging := staging, want := want, tile := none, sects := [] }).keyPowered
    s.keyBegin staging want = (u.put F.KEY_STAT_STATE ksReading).setKey
      { u.key with job := 1, at_ := u.lt, img := [], block := 0, tries := 0, hdrTwice := false, secTwice := [], trusted := false, cycle := none,
                   hung := false } :=
  if_pos h

theorem State.key_keyBegin (h : s.isSet F.KEY_STAT_PRESENT = true) : (s.keyBegin staging want).key = s.key.begun staging want s.lt := by
  rw [State.keyBegin_present staging want h, State.key_setKey, State.key_keyPowered, State.keyPowered_lt]
  rfl

theorem State.get_state_keyBegin (h : s.isSet F.KEY_STAT_PRESENT = true) : (s.keyBegin staging want).get F.KEY_STAT_STATE = ksReading := by
  rw [State.keyBegin_present staging want h, State.get_setKey, State.get_put_same _ _ _ (by decide)]
  rfl

theorem State.keyBegin_noKey (h : s.isSet F.KEY_STAT_PRESENT = false) :
    s.keyBegin staging want = (s.setKey { s.key with staging := staging, want := want, tile := none, sects := [] }).keyRefuse (rcNoKey, 0xFF, 0) :=
  if_neg (ne_true_of_eq_false h)
end

end Sys2Proof.Machine
end

section
/-! SUPPORT. Insertions, removals, hangs, reads and checks of the key (chapter 11), and the statement O43. -/

namespace Sys2Proof.Machine

variable {s : State}

/-! ### Insertion and removal (R325, R338, R414) -/

/-- KEY_STAT.PRESENT set to `n`, with the event's bit `f` and event 56. -/
def State.keySeen (s : State) (n : Nat) (f : Fld) : State := ((s.put F.KEY_STAT_PRESENT n).put f 1).raise 56

section
variable {f : Fld} (n : Nat)

@[simp] theorem State.key_keySeen (s : State) (n : Nat) (f : Fld) : (s.keySeen n f).key = s.key := State.raise_key _ _
@[simp] theorem State.co_keySeen (s : State) (n : Nat) (f : Fld) : (s.keySeen n f).co = s.co := State.raise_co _ _

@[simp] theorem State.domAgreed_keySeen (s : State) (n : Nat) (f : Fld) (d : Nat) : (s.keySeen n f).domAgreed d = s.domAgreed d := by
  rw [State.domAgreed, State.domAgreed, State.keySeen, State.raise_pwr, State.put_pwr, State.put_pwr]

/-- A key's coming or going leaves what lies beside PRESENT. -/
theorem State.get_keySeen {g : Fld} (hevt : f.addr = R.KEY_EVT) (hg : g.addr ≠ R.KEY_EVT) (hlo : 1 ≤ g.lo) (hbeside : besideLog g.addr = true) :
    (s.keySeen n f).get g = s.get g := by
  rw [State.keySeen, State.get_of_beside (State.beside_raise _ 56) hbeside, State.get_put_other _ _ _ _ (hevt ▸ hg),
    State.get_put_apart _ _ _ _ (by decide) (Or.inr (by exact hlo))]

theorem State.get_state_keySeen (hevt : f.addr = R.KEY_EVT) : (s.keySeen n f).get F.KEY_STAT_STATE = s.get F.KEY_STAT_STATE :=
  State.get_keySeen n hevt (by decide) (by decide) rfl

theorem State.isSet_recipe_keySeen (hevt : f.addr = R.KEY_EVT) : (s.keySeen n f).isSet F.MOD_STATUS_RECIPE = s.isSet F.MOD_STATUS_RECIPE := by
  rw [State.isSet, State.isSet, State.get_keySeen n hevt (by decide) (by decide) rfl]

theorem State.cond_keySeen (hevt : f.addr = R.KEY_EVT) (c : Nat) : (s.keySeen n f).cond c = s.cond c := by
  rw [State.cond, State.cond, State.bit, State.bit, State.get_keySeen n hevt (by decide) (by decide) rfl]

theorem State.get_present_keySeen (hevt : f.addr = R.KEY_EVT) : (s.keySeen n f).get F.KEY_STAT_PRESENT = n % 2 := by
  rw [State.keySeen, State.get_of_beside (State.beside_raise _ 56) rfl, State.get_put_other _ _ _ _ (by rw [hevt]; decide),
    State.get_put_same _ _ _ (by decide)]
  rfl

end

/-- A hang cleared by an insertion. -/
def State.keyCleared (s : State) : State :=
  ((s.put F.KEY_STAT_STATE s.keyShows).put F.KEY_STAT_ATTEMPTS 0).setKey { s.key with cycle := none, hung := false }

theorem State.isSet_recipe_keyCleared (s : State) : s.keyCleared.isSet F.MOD_STATUS_RECIPE = s.isSet F.MOD_STATUS_RECIPE := by
  rw [State.keyCleared, State.isSet_setKey, State.isSet, State.isSet, State.get_put_other _ _ _ _ (by decide), State.get_put_other _ _ _ _ (by decide)]

theorem State.keyCleared_frame (s : State) : s.keyCleared.co = s.co ∧ s.keyCleared.pwr = s.pwr ∧ s.keyCleared.key.job = s.key.job := ⟨rfl, rfl, rfl⟩

/-- What an insertion makes of the key: it is staged, now or later, read at power-up after a refusal, or left. -/
def State.insertFollows (s : State) : State :=
  if s.isSet F.MOD_STATUS_RECIPE then
    if s.co.phase = 0 && s.key.job == 0 && !s.domAgreed domKey then s.keyStage 0 else s.setKey { s.key with waits := true }
  else if s.get F.KEY_STAT_STATE = ksRefused && s.key.job == 0 && !s.cond mFaultHold then s.keyBegin false 0
  else s

theorem State.insertFollows_stages (hrecipe : s.isSet F.MOD_STATUS_RECIPE = true) (hphase : s.co.phase = 0) (hjob : s.key.job = 0)
    (hagreed : s.domAgreed domKey = false) : s.insertFollows = s.keyStage 0 := by
  rw [State.insertFollows, if_pos hrecipe, if_pos (by simp [hphase, hjob, hagreed])]

theorem State.insertFollows_waits (hrecipe : s.isSet F.MOD_STATUS_RECIPE = true) (hbusy : s.co.phase ≠ 0 ∨ s.key.job ≠ 0 ∨ s.domAgreed domKey = true) :
    s.insertFollows = s.setKey { s.key with waits := true } := by
  refine (if_pos hrecipe).trans (if_neg ?_)
  obtain h | h | h := hbusy <;> simp [h]

theorem State.insertFollows_reads (hrecipe : s.isSet F.MOD_STATUS_RECIPE = false) (hstate : s.get F.KEY_STAT_STATE = ksRefused) (hjob : s.key.job = 0)
    (hhold : s.cond mFaultHold = false) : s.insertFollows = s.keyBegin false 0 := by
  rw [State.insertFollows, if_neg (ne_true_of_eq_false hrecipe), if_pos (by simp [hstate, hjob, hhold])]

theorem State.insertFollows_leaves (hrecipe : s.isSet F.MOD_STATUS_RECIPE = false) (hstate : s.get F.KEY_STAT_STATE ≠ ksRefused) : s.insertFollows = s := by
  rw [State.insertFollows, if_neg (ne_true_of_eq_false hrecipe), if_neg (by simp [hstate])]

theorem exec_keyInsert_present (h : s.isSet F.KEY_STAT_PRESENT = true) : exec .keyInsert s = .next s := if_pos h

theorem exec_keyInsert_absent (h : s.isSet F.KEY_STAT_PRESENT = false) :
    let u := s.keySeen 1 F.KEY_EVT_INSERT_SEEN
    exec .keyInsert s = .next (if s.get F.KEY_STAT_STATE = ksHung ∨ s.get F.KEY_STAT_STATE = ksCycling then u.keyCleared else u).insertFollows := by
  dsimp only
  rw [← State.get_state_keySeen (s := s) 1 (f := F.KEY_EVT_INSERT_SEEN) rfl]
  refine (if_neg (ne_true_of_eq_false h)).trans ?_
  unfold State.insertFollows
  simp only [apply_ite Host.Outcome.next]
  rfl

theorem exec_keyInsert_sound (h : s.isSet F.KEY_STAT_PRESENT = false) (hhung : s.get F.KEY_STAT_STATE ≠ ksHung)
    (hcycle : s.get F.KEY_STAT_STATE ≠ ksCycling) : exec .keyInsert s = .next (s.keySeen 1 F.KEY_EVT_INSERT_SEEN).insertFollows := by
  rw [exec_keyInsert_absent h, if_neg (not_or.mpr ⟨hhung, hcycle⟩)]

theorem exec_keyRemove_absent (h : s.isSet F.KEY_STAT_PRESENT = false) : exec .keyRemove s = .next s := if_neg (ne_true_of_eq_false h)

/-- The state once a removal has refused the read that ran. -/
def State.keyGone (s : State) : State :=
  let u := s.keySeen 0 F.KEY_EVT_REMOVE_SEEN
  if s.key.job = 1 ∨ s.key.job = 2 then u.keyRefuse (rcRemoved, 0xFF, s.key.img.length) else u

theorem exec_keyRemove_present (h : s.isSet F.KEY_STAT_PRESENT = true) :
    exec .keyRemove s = .next (if s.get F.KEY_STAT_STATE = ksHung ∨ s.get F.KEY_STAT_STATE = ksCycling then
      let u := s.keyGone.keyVcc false
      (u.setKey { u.key with cycle := none, hung := false }).put F.KEY_STAT_STATE ksHung
    else s.keyGone) := by
  have hgone : s.keyGone = if (s.keySeen 0 F.KEY_EVT_REMOVE_SEEN).key.job = 1 ∨ (s.keySeen 0 F.KEY_EVT_REMOVE_SEEN).key.job = 2 then
      (s.keySeen 0 F.KEY_EVT_REMOVE_SEEN).keyRefuse (rcRemoved, 0xFF, (s.keySeen 0 F.KEY_EVT_REMOVE_SEEN).key.img.length)
    else s.keySeen 0 F.KEY_EVT_REMOVE_SEEN := by rw [State.key_keySeen]; rfl
  rw [← State.get_state_keySeen (s := s) 0 (f := F.KEY_EVT_REMOVE_SEEN) rfl, hgone]
  exact (if_pos h).trans (apply_ite Host.Outcome.next _ _ _).symm

/-- The removal from a hung port takes its supply away. -/
theorem keyRemove_completes (h : s.isSet F.KEY_STAT_PRESENT = true) (hhung : s.get F.KEY_STAT_STATE = ksHung) (hjob : s.key.job = 0) :
    Completes .keyRemove s (fun t => t.get F.KEY_STAT_PRESENT = 0 ∧ t.get F.KEY_STAT_STATE = ksHung ∧
      t.key = { s.key with vcc := false, cycle := none, hung := false }) := by
  have hgone : s.keyGone = s.keySeen 0 F.KEY_EVT_REMOVE_SEEN := if_neg (by simp [hjob])
  refine ⟨_, (exec_keyRemove_present h).trans (congrArg _ (if_pos (.inl hhung))), ?_, ?_, ?_⟩
  · rw [State.get_put_apart _ _ _ _ (by decide) (by decide), State.get_setKey, State.get_keyVcc, hgone, State.get_present_keySeen 0 rfl]
  · rw [State.get_put_same _ _ _ (by decide)]
    rfl
  · rw [State.put_key, State.key_setKey, State.key_keyVcc, hgone, State.key_keySeen]

/-! ### Reading (R317, R327, R328) -/

theorem exec_keyReadStart_due {scl sda : Bool} (hjob : s.key.job = 1) (hcycle : s.key.cycle = none) (hdue : s.key.at_ + 5000000 ≤ s.lt) :
    let u := (s.putB F.KEY_STAT_SCL scl).putB F.KEY_STAT_SDA sda
    exec (.keyReadStart scl sda) s = .next (if scl && sda then u.keyRead else u.keyHang (if sda then 1 else 0) []) :=
  (if_pos (by simp [hjob, hcycle, hdue])).trans (apply_ite Host.Outcome.next _ _ _).symm

theorem exec_keyReadStart_early {scl sda : Bool} (h : s.lt < s.key.at_ + 5000000) : exec (.keyReadStart scl sda) s = .next s :=
  if_neg (by simp [Nat.not_le_of_lt h])

theorem State.keyBlock_short {bytes : List Byte} (h : (s.key.img ++ bytes).length < s.key.head (s.key.img ++ bytes)) : s.keyBlock bytes = s := if_pos h

section
variable {bytes : List Byte}

theorem exec_keyBlockReadEnd_reading (hjob : s.key.job = 2) (hcycle : s.key.cycle = none) : exec (.keyBlockReadEnd bytes) s = .next (s.keyBlock bytes) :=
  if_pos (by simp [hjob, hcycle])

theorem exec_keyReadFail_reading (hjob : s.key.job = 2) (hcycle : s.key.cycle = none) : exec (.keyReadFail bytes) s = .next (s.keyFail bytes) :=
  if_pos (by simp [hjob, hcycle])

theorem exec_keyBlockReadEnd_other (h : s.key.job ≠ 2) : exec (.keyBlockReadEnd bytes) s = .next s := if_neg (by simp [h])
theorem exec_keyReadFail_other (h : s.key.job ≠ 2) : exec (.keyReadFail bytes) s = .next s := if_neg (by simp [h])

theorem State.keyFail_retries (h : s.key.tries < 2) : s.keyFail bytes =
    ((s.put F.KEY_EVT_RETRY_SEEN 1).setKey { s.key with tries := s.key.tries + 1, img := s.key.img ++ bytes }).keyRead := if_pos h

theorem State.keyFail_refuses (h : 2 ≤ s.key.tries) : s.keyFail bytes = s.keyRefuse (rcNoAnswer, 0xFF, s.key.img.length + bytes.length) :=
  if_neg (Nat.not_lt_of_le h)

end

/-! ### Hangs and supply cycles (R334, R335, R338) -/

/-- The key port once its hang shows, with event 58 and its log entry, before a cycle begins or the read ends. -/
def State.keyHungShown (s : State) (cause : Nat) (got : List Byte) : State :=
  let u := (s.put F.KEY_EVT_HUNG_SEEN 1).incSat F.KEY_CNT_HANGS
  let u := (if s.get F.KEY_STAT_STATE == ksHung || s.key.cycle.isSome then u else u.put F.KEY_STAT_ATTEMPTS 0).keyLines cause
  let u := (u.put F.KEY_STAT_STATE ksHung).setKey
    { s.key with hung := s.key.hung || s.key.job == 1 || s.key.job == 2, img := s.key.img ++ got, cycle := none }
  (if cause = 2 then u.keyVcc false else u).keyTwLog 0 cause

theorem State.keyHang_eq (s : State) (cause : Nat) (got : List Byte) :
    let u := s.keyHungShown cause got
    s.keyHang cause got = if u.isSet F.KEY_CFG_AUTO_CYCLE && decide (u.get F.KEY_STAT_ATTEMPTS < 3) then u.keyCycle true else u.keyHungEnd := rfl

theorem State.beside_keyTwLog (s : State) (what cause : Nat) : (s.keyTwLog what cause).beside = s.beside := by
  rw [State.keyTwLog, State.beside_raise, State.beside_logWrite]

theorem State.key_keyTwLog (s : State) (what cause : Nat) : (s.keyTwLog what cause).key = s.key := by
  rw [State.keyTwLog, State.raise_key, State.key_logWrite]

/-- A hang shows in SCL and SDA, the last of the fields of KEY_STAT. -/
theorem State.get_keyLines (s : State) (cause : Nat) {f : Fld} (h : f.lo + f.width ≤ 7) : (s.keyLines cause).get f = s.get f := by
  have hsda : f.lo + f.width ≤ 8 := Nat.le_succ_of_le h
  unfold State.keyLines
  split
  · exact State.get_put_apart _ _ _ _ (by decide) (.inl hsda)
  split
  · rw [State.get_put_apart _ _ _ _ (by decide) (.inl hsda), State.get_put_apart _ _ _ _ (by decide) (.inl h)]
  · rfl

section
variable (cause : Nat) (got : List Byte)

theorem State.key_keyHungShown (s : State) (cause : Nat) (got : List Byte) : (s.keyHungShown cause got).key =
    { s.key with hung := s.key.hung || s.key.job == 1 || s.key.job == 2, img := s.key.img ++ got, cycle := none,
                 vcc := if cause = 2 then false else s.key.vcc } := by
  rw [State.keyHungShown, State.key_keyTwLog]
  split
  · rw [State.key_keyVcc, State.key_setKey]
  · rfl

/-- Of the fields of KEY_CFG and, in KEY_STAT, of ATTEMPTS, a hang sets ATTEMPTS alone, to 0 where it starts a new count. -/
theorem State.get_keyHungShown {f : Fld} (hf : f.addr = R.KEY_CFG ∨ f.addr = R.KEY_STAT ∧ 4 ≤ f.lo) (hlo : f.lo + f.width ≤ 7) :
    let u := (s.put F.KEY_EVT_HUNG_SEEN 1).incSat F.KEY_CNT_HANGS
    (s.keyHungShown cause got).get f = (if s.get F.KEY_STAT_STATE == ksHung || s.key.cycle.isSome then u else u.put F.KEY_STAT_ATTEMPTS 0).get f := by
  have hbeside : besideLog f.addr = true := by
    obtain h | ⟨h, -⟩ := hf <;> rw [h] <;> rfl
  have hstate (u : State) : (u.put F.KEY_STAT_STATE ksHung).get f = u.get f := by
    obtain h | ⟨-, h⟩ := hf
    · exact u.get_put_other _ _ _ (by rw [h]; decide)
    · exact u.get_put_apart _ _ _ (by decide) (.inr h)
  have hvcc (u : State) : (if cause = 2 then u.keyVcc false else u).get f = u.get f := by
    split
    · exact u.get_keyVcc false f
    · rfl
  rw [State.keyHungShown, State.get_of_beside (State.beside_keyTwLog _ _ _) hbeside, hvcc, State.get_setKey, hstate, State.get_keyLines _ _ hlo]

theorem State.isSet_autoCycle_keyHungShown : (s.keyHungShown cause got).isSet F.KEY_CFG_AUTO_CYCLE = s.isSet F.KEY_CFG_AUTO_CYCLE := by
  have hseen : ((s.put F.KEY_EVT_HUNG_SEEN 1).incSat F.KEY_CNT_HANGS).get F.KEY_CFG_AUTO_CYCLE = s.get F.KEY_CFG_AUTO_CYCLE := by
    rw [State.incSat, State.get_put_other _ _ _ _ (by decide), State.get_put_other _ _ _ _ (by decide)]
  rw [State.isSet, State.isSet, State.get_keyHungShown cause got (.inl rfl) (by decide)]
  split
  · rw [hseen]
  · rw [State.get_put_other _ _ _ _ (by decide), hseen]

theorem State.get_attempts_keyHungShown (hstate : s.get F.KEY_STAT_STATE ≠ ksHung) (hcycle : s.key.cycle = none) :
    (s.keyHungShown cause got).get F.KEY_STAT_ATTEMPTS = 0 := by
  rw [State.get_keyHungShown cause got (.inr ⟨rfl, by decide⟩) (by decide), if_neg (by simp [hstate, hcycle]), State.get_put_same _ _ _ (by decide)]
  rfl

/-- With AUTO_CYCLE a hang that starts a new count begins a cycle. -/
theorem State.keyHang_cycles (hauto : s.isSet F.KEY_CFG_AUTO_CYCLE = true) (hstate : s.get F.KEY_STAT_STATE ≠ ksHung) (hcycle : s.key.cycle = none) :
    s.keyHang cause got = (s.keyHungShown cause got).keyCycle true := by
  rw [State.keyHang_eq, if_pos (by rw [State.isSet_autoCycle_keyHungShown, hauto, State.get_attempts_keyHungShown cause got hstate hcycle]; rfl)]

/-- Without AUTO_CYCLE a hang of a port that nothing reads leaves it hung. -/
theorem State.keyHang_stays (hauto : s.isSet F.KEY_CFG_AUTO_CYCLE = false) (hhung : s.key.hung = false) (hstart : s.key.job ≠ 1) (hreads : s.key.job ≠ 2) :
    let u := s.keyHungShown cause got
    s.keyHang cause got = (u.put F.KEY_STAT_STATE ksHung).setKey { u.key with cycle := none } := by
  have hnone : (s.keyHungShown cause got).key.hung = false := by
    rw [State.key_keyHungShown]
    simp [hhung, hstart, hreads]
  rw [State.keyHang_eq, if_neg (by simp [State.isSet_autoCycle_keyHungShown, hauto])]
  exact if_neg (by simp [hnone])

end

@[simp] theorem State.key_keyCycle (s : State) (auto : Bool) : (s.keyCycle auto).key = { s.key with vcc := false, cycle := some (s.lt, auto) } := by
  have hcount (u : State) : (if auto then u.incSat F.KEY_STAT_ATTEMPTS else u).key = u.key ∧
      (if auto then u.incSat F.KEY_STAT_ATTEMPTS else u).lt = u.lt := by
    split <;> exact ⟨rfl, rfl⟩
  obtain ⟨hkey, hlt⟩ := hcount ((s.put F.KEY_STAT_STATE ksCycling).incSat F.KEY_CNT_CYCLES)
  rw [State.keyCycle, State.key_setKey, State.key_keyVcc, State.keyVcc_lt, hkey, hlt, State.key_incSat, State.put_key, State.incSat, State.put_lt, State.put_lt]

section
variable {cause : Fin 3} {bytes : List Byte}

theorem exec_keyPortHang_found (hvcc : s.key.vcc = true) (hcycle : s.key.cycle = none) (hstate : s.get F.KEY_STAT_STATE ≠ ksHung) :
    exec (.keyPortHang cause bytes) s = .next (s.keyHang cause.val bytes) := if_pos (by simp [hvcc, hcycle, hstate])

theorem exec_keyPortHang_off (h : s.key.vcc = false) : exec (.keyPortHang cause bytes) s = .next s := if_neg (by simp [h])

end

/-! ### Checks (R324, R327, R329) -/

theorem exec_signatureCheckEnd_refused {r : Refuse} (hjob : s.key.job = 3) (h : s.trustRefuse s.key.img = some r) :
    exec .signatureCheckEnd s = .next (s.keyRefuse r).keyWaits := by
  refine (if_pos hjob).trans ?_
  rw [h]

theorem exec_signatureCheckEnd_trusted (hjob : s.key.job = 3) (h : s.trustRefuse s.key.img = none) :
    exec .signatureCheckEnd s = .next (s.setKey { s.key with job := 4, trusted := true }) := by
  refine (if_pos hjob).trans ?_
  rw [h]

theorem exec_signatureCheckEnd_other (h : s.key.job ≠ 3) : exec .signatureCheckEnd s = .next s := if_neg h

theorem exec_keyChecksEnd_refused {r : Refuse} (hjob : s.key.job = 4) (h : s.checkRefuse s.key.staging s.key.img = some r) :
    exec .keyChecksEnd s = .next (s.keyRefuse r).keyWaits := by
  refine (if_pos hjob).trans ?_
  rw [h]

/-- The image staged: it stands in the other bank, and its header's CRC and event 57 tell of it. -/
def State.keyStaged (s : State) : State :=
  let u := (s.store (s.bankAt (1 - s.get F.KEY_STAT_BANK)) s.key.img).setKey { s.key with staged := some s.key.img.length }
  ((u.wr R.KEY_STAGED_CRC (imgHdrCrc s.key.img)).put F.KEY_EVT_LOAD_SEEN 1).raise 57

theorem State.key_keyStaged (s : State) : s.keyStaged.key = { s.key with staged := some s.key.img.length } := by
  rw [State.keyStaged, State.raise_key, State.put_key, State.wr_key, State.key_setKey]

theorem exec_keyChecksEnd_accepted (hjob : s.key.job = 4) (h : s.checkRefuse s.key.staging s.key.img = none) :
    exec .keyChecksEnd s = .next (if s.key.staging then ((s.keyStaged.keyRest ksStaged).stagedThen s.key.want).keyWaits
      else (s.put F.KEY_STAT_STATE ksApplying).setKey { s.key with job := 5 }) := by
  refine (if_pos hjob).trans ?_
  rw [h]
  exact (apply_ite Host.Outcome.next _ _ _).symm

theorem exec_keyChecksEnd_other (h : s.key.job ≠ 4) : exec .keyChecksEnd s = .next s := if_neg h

/-- An accepted staging ends the key's job with the image staged; what was asked to follow it follows. -/
theorem keyChecksEnd_stages (hjob : s.key.job = 4) (h : s.checkRefuse true s.key.img = none) (hstaging : s.key.staging = true) :
    Completes .keyChecksEnd s (fun t => ∃ u : State, u.key.staged = some s.key.img.length ∧ u.key.job = 0 ∧ u.key.vcc = false ∧
      u.get F.KEY_STAT_STATE = ksStaged ∧ t = (u.stagedThen s.key.want).keyWaits) := by
  refine ⟨_, (exec_keyChecksEnd_accepted hjob (hstaging.symm ▸ h)).trans (congrArg _ (if_pos hstaging)), s.keyStaged.keyRest ksStaged, ?_, ?_, ?_,
    State.get_state_keyRest _ (by decide), rfl⟩ <;> rw [State.key_keyRest, State.key_keyStaged] <;> rfl

/-! ### KEY_CMD (R325, R334, R335) -/

section
variable {w : Fin 9}

theorem exec_keyCmd_otherCore (h : w.val ≠ 8) :
    exec (.stage w) s = .next s ∧ exec (.keyPowerCycle w) s = .next s ∧ exec (.keyCmdChangeover w) s = .next s :=
  ⟨congrArg _ (if_neg h), congrArg _ (if_neg (by simp [h])), congrArg _ (if_neg h)⟩

theorem exec_stage_vat (h : w.val = 8) : exec (.stage w) s = .next (s.keyStage 3) := congrArg _ (if_pos h)

theorem State.keyStage_free {want : Nat} (hjob : s.key.job = 0) (hphase : s.co.phase = 0) (hrecipe : s.isSet F.MOD_STATUS_RECIPE = true)
    (hcycle : s.key.cycle = none) (hagreed : s.domAgreed domKey = false) : s.keyStage want = if s.get F.KEY_STAT_STATE = ksHung then
      (s.setKey { s.key with staging := true, want := want }).keyRefuseTo (rcHung, 0xFF, 0) ksHung else s.keyBegin true want :=
  if_pos (by simp [hjob, hphase, hrecipe, hcycle, hagreed])

theorem exec_keyPowerCycle_vat (h : w.val = 8) (hcycle : s.key.cycle = none) : exec (.keyPowerCycle w) s =
    .next ((s.setKey { s.key with hung := s.key.hung || s.key.job == 1 || s.key.job == 2 }).keyCycle false) := congrArg _ (if_pos (by simp [h, hcycle]))

theorem exec_keyPowerCycle_cycling (h : s.key.cycle ≠ none) : exec (.keyPowerCycle w) s = .next s :=
  congrArg _ (if_neg (by simp [h]))

end

theorem exec_keyLoadEntry_due {b : Bool} (h : s.boot.stage = 10) : exec (.keyLoadEntry b) s =
    .next (((((s.setBoot { s.boot with stage := 11, warm := false }).putB F.KEY_STAT_PRESENT b).setCond mKeyLoad true).setDom domKey domOn).keyBegin false 0) :=
  if_pos h

theorem exec_keyLoadEntry_other {b : Bool} (h : s.boot.stage ≠ 10) : exec (.keyLoadEntry b) s = .next s := if_neg h

/-- Settles O43: each clause is what a command or a step of the key port does once its condition holds, or that it does nothing. -/
theorem keyReadsAndChecks : Obligations.KeyReadsAndChecks := by
  intro s w b scl sda cause bytes r
  refine ⟨exec_keyLoadEntry_due, exec_keyLoadEntry_other, exec_keyInsert_present, fun habsent hhung hcycling => ⟨fun hrecipe hfree => ?_,
      fun hrecipe hbusy => ?_, fun hrecipe hstate hjob hhold => ?_, fun hrecipe hstate => ?_⟩, fun habsent hrecipe hhung hphase hjob hagreed => ?_,
    exec_keyRemove_absent, fun hpresent hhung hcycling => ?_, keyRemove_completes, exec_keyReadStart_due, exec_keyReadStart_early, s.keyRead_eq,
    fun st n hpresent => ?_, fun st n => State.keyBegin_noKey st n, fun htile => ?_, fun hauto hstate hcycle => ?_, fun hauto hhung hstart hreads => ?_,
    State.keyBlock_short, exec_keyBlockReadEnd_reading, fun hjob hcycle htries => ?_, fun hjob hcycle htries => ?_,
    fun hother => ⟨exec_keyBlockReadEnd_other hother, exec_keyReadFail_other hother⟩, exec_signatureCheckEnd_refused, exec_signatureCheckEnd_trusted,
    exec_signatureCheckEnd_other, exec_keyChecksEnd_refused, fun hjob haccepts hload => ?_, keyChecksEnd_stages, exec_keyChecksEnd_other, exec_keyCmd_otherCore,
    fun hvat hjob hphase hrecipe hcycle hagreed => ?_, exec_keyPowerCycle_vat, fun _ => exec_keyPowerCycle_cycling, exec_keyPortHang_found,
    exec_keyPortHang_off⟩
  · obtain ⟨hphase, hjob, hagreed⟩ := hfree
    rw [exec_keyInsert_sound habsent hhung hcycling]
    exact congrArg _ (State.insertFollows_stages ((State.isSet_recipe_keySeen 1 rfl).trans hrecipe) (by rw [State.co_keySeen, hphase])
      (by rw [State.key_keySeen, hjob]) (by rw [State.domAgreed_keySeen, hagreed]))
  · rw [exec_keyInsert_sound habsent hhung hcycling, State.insertFollows_waits ((State.isSet_recipe_keySeen 1 rfl).trans hrecipe)
      (by rwa [State.co_keySeen, State.key_keySeen, State.domAgreed_keySeen]), State.key_keySeen]
    rfl
  · rw [exec_keyInsert_sound habsent hhung hcycling]
    exact congrArg _ (State.insertFollows_reads ((State.isSet_recipe_keySeen 1 rfl).trans hrecipe) ((State.get_state_keySeen 1 rfl).trans hstate)
      (by rw [State.key_keySeen, hjob]) ((State.cond_keySeen 1 rfl mFaultHold).trans hhold))
  · rw [exec_keyInsert_sound habsent hhung hcycling]
    exact congrArg _ (State.insertFollows_leaves ((State.isSet_recipe_keySeen 1 rfl).trans hrecipe) (by rwa [State.get_state_keySeen 1 rfl]))
  · obtain ⟨hco, hpwr, hkey⟩ := (s.keySeen 1 F.KEY_EVT_INSERT_SEEN).keyCleared_frame
    rw [exec_keyInsert_absent habsent, if_pos (.inl hhung)]
    rw [State.insertFollows_stages ((State.isSet_recipe_keyCleared _).trans ((State.isSet_recipe_keySeen 1 rfl).trans hrecipe)) 
        (by rw [hco, State.co_keySeen, hphase]) (by rw [hkey, State.key_keySeen, hjob])
        (by rw [State.domAgreed, hpwr]; exact (s.domAgreed_keySeen 1 F.KEY_EVT_INSERT_SEEN domKey).trans hagreed),
      State.keyCleared, State.key_keySeen]
    rfl
  · rw [exec_keyRemove_present hpresent, if_neg (not_or.mpr ⟨hhung, hcycling⟩)]
    rfl
  · rw [State.key_keyBegin st n hpresent]
    exact ⟨rfl, rfl, rfl, rfl, rfl, State.get_state_keyBegin st n hpresent⟩
  · rw [State.keyRefuse, State.key_keyRefuseTo _ _ htile]
    exact ⟨rfl, rfl, rfl, fun hstaging => by rw [if_pos hstaging]; rfl⟩
  · rw [State.keyHang_cycles _ _ hauto hstate hcycle, State.key_keyCycle, State.key_keyHungShown]
    exact ⟨rfl, rfl, ⟨_, rfl⟩, rfl⟩
  · rw [State.keyHang_stays _ _ hauto hhung hstart hreads]
    exact ⟨rfl, by rw [State.get_setKey, State.get_put_same _ _ _ (by decide)]; rfl⟩
  · rw [exec_keyReadFail_reading hjob hcycle, State.keyFail_retries htries]
  · rw [exec_keyReadFail_reading hjob hcycle, State.keyFail_refuses htries]
  · rw [exec_keyChecksEnd_accepted hjob (hload.symm ▸ haccepts), if_neg (ne_true_of_eq_false hload)]
  · rw [exec_stage_vat hvat, State.keyStage_free hjob hphase hrecipe hcycle hagreed]

end Sys2Proof.Machine
end

section
/-! SUPPORT. Applying an image, reloads and changeovers (chapters 11 and 14), and the statement O44. -/

namespace Sys2Proof.Machine

variable {s : State}

/-! ### Applying an image (R327, R408) -/

theorem exec_keyCommitEnd_due (hjob : s.key.job = 5) (hmay : s.cond mCommission = false) :
    let u := (s.put F.KEY_STAT_BANK 0).imageApply s.key.img
    let v := u.store (u.bankAt 0) s.key.img
    exec .keyCommitEnd s = .next ((v.setKey { v.key with job := 6 }).keyVcc false) := if_pos (by simp [hjob, hmay])

theorem exec_keyCommitEnd_not (h : s.key.job ≠ 5 ∨ s.cond mCommission = true) : exec .keyCommitEnd s = .next s :=
  if_neg (by obtain h | h := h <;> simp [h])

theorem exec_coresStart_load (hjob : s.key.job = 6) (hmay : s.cond mCommission = false) : exec .coresStart s =
    .next (((((((s.coresStart s.key.img).put F.KEY_EVT_LOAD_SEEN 1).raise 57).keyRest ksIdle).setRun true).setCond mKeyLoad false).lanesHold.watchFollow) :=
  if_pos (by simp [hjob, hmay])

theorem exec_coresStart_reload (hjob : s.key.job = 0) (hphase : s.co.phase = 6) (hmay : s.cond mCommission = false) : exec .coresStart s =
    .next ((((((((s.coresStart s.co.img).put F.KEY_STAT_STATE ksIdle).setCo CoSt.rest).put F.KEY_EVT_LOAD_SEEN 1).raise 57).setRun true).setCond
      mKeyLoad false).lanesHold.watchFollow.keyWaits) := (if_neg (by simp [hjob])).trans (if_pos (by simp [hphase, hmay]))

theorem exec_coresStart_not (h : (s.key.job ≠ 6 ∧ s.co.phase ≠ 6) ∨ s.cond mCommission = true) : exec .coresStart s = .next s := by
  obtain ⟨hjob, hphase⟩ | hheld := h
  · exact (if_neg (by simp [hjob])).trans (if_neg (by simp [hphase]))
  · exact (if_neg (by simp [hheld])).trans (if_neg (by simp [hheld]))

/-! ### Reload (R408) -/

theorem exec_reloadStart_due (hphase : s.co.phase = 1) (hmay : s.cond mCommission = false) :
    exec .reloadStart s = .next (if s.key.staged.isSome then s.reloadStart else (s.setCo CoSt.rest).keyWaits) :=
  (if_pos (by simp [hphase, hmay])).trans (apply_ite Host.Outcome.next _ _ _).symm

theorem exec_reloadStart_not (h : s.co.phase ≠ 1 ∨ s.cond mCommission = true) : exec .reloadStart s = .next s :=
  if_neg (by obtain h | h := h <;> simp [h])

theorem State.running_coreStop (s : State) (k : Nat) : ((s.coreStop k).core k).running = false := by rw [State.coreStop, State.core_setCore_same]

/-- A reload that has begun shows as APPLYING. -/
theorem State.get_state_reloadStart (s : State) : s.reloadStart.get F.KEY_STAT_STATE = ksApplying :=
  (State.get_put_same _ _ _ (by decide)).trans rfl

theorem State.running_reloadStart (s : State) : (s.reloadStart.core 8).running = false := by
  rw [State.reloadStart, State.core_put]
  exact State.running_coreStop _ 8

theorem State.phase_reloadDrained (s : State) : s.reloadDrained.co.phase = 3 := rfl
theorem State.phase_reloadApply (s : State) : s.reloadApply.co.phase = 6 := rfl

theorem exec_reloadDrainEnd_due (hphase : s.co.phase = 2) (h : (∀ u, u < 8 → s.tileDrained u = true) ∨ s.co.at_ + 100000000 ≤ s.lt) :
    exec .reloadDrainEnd s = .next s.reloadDrained := if_pos (by simpa [hphase] using h)

theorem exec_reloadDrainEnd_early (hearly : s.lt < s.co.at_ + 100000000) (hholds : ∃ u, u < 8 ∧ s.tileDrained u = false) :
    exec .reloadDrainEnd s = .next s := if_neg (by simpa [Nat.not_le_of_lt hearly] using fun _ => hholds)

theorem exec_reloadDrainEnd_other (h : s.co.phase ≠ 2) : exec .reloadDrainEnd s = .next s := if_neg (by simp [h])

theorem exec_reloadApply_due (hphase : s.co.phase = 3) (hmay : s.cond mCommission = false) : exec .reloadApply s = .next s.reloadApply :=
  if_pos (by simp [hphase, hmay])

theorem exec_reloadApply_not (h : s.co.phase ≠ 3 ∨ s.cond mCommission = true) : exec .reloadApply s = .next s :=
  if_neg (by obtain h | h := h <;> simp [h])

/-! ### Changeovers asked for and accepted (R410, R411) -/

theorem exec_keyCmdChangeover_vat {w : Fin 9} (h : w.val = 8) : exec (.keyCmdChangeover w) s = .next s.coAsk := congrArg _ (if_pos h)

theorem State.coAsk_asks (hmode : s.coMode = true) (hphase : s.co.phase = 0) (hstaged : s.key.staged.isSome = true)
    (hdiffers : sameImage s.runningImage s.stagedImage = false) : s.coAsk = s.setCo { CoSt.rest with phase := 7, at_ := s.lt } :=
  if_pos (by simp [hmode, hphase, hstaged, hdiffers])

theorem State.coAsk_not (h : s.coMode = false ∨ s.co.phase ≠ 0 ∨ s.key.staged = none ∨ sameImage s.runningImage s.stagedImage = true) : s.coAsk = s :=
  if_neg (by obtain h | h | h | h := h <;> simp [h])

theorem exec_changeoverAccept_due (hphase : s.co.phase = 7) (hmode : s.coMode = true) (hstaged : s.key.staged.isSome = true) :
    exec .changeoverAccept s = .next s.coAccept := (if_pos hphase).trans (if_pos (by simp [hmode, hstaged]))

theorem exec_changeoverAccept_dropped (hphase : s.co.phase = 7) (h : s.coMode = false ∨ s.key.staged = none) :
    exec .changeoverAccept s = .next (s.setCo CoSt.rest).keyWaits := (if_pos hphase).trans (if_neg (by obtain h | h := h <;> simp [h]))

theorem exec_changeoverAccept_other (h : s.co.phase ≠ 7) : exec .changeoverAccept s = .next s := if_neg h

theorem State.running_coAccept (s : State) : (s.coAccept.core 8).running = false := State.running_coreStop _ 8

/-! ### The hub switch (R411) -/

theorem exec_hubSwitchEnd_due (hphase : s.co.phase = 4) (h : s.co.at_ + 100000000 ≤ s.lt ∨ ∀ q ∈ s.co.moved, s.drained q = true) :
    exec .hubSwitchEnd s = .next s.hubSwitch.watchFollow.keyWaits := if_pos (by simpa [hphase, State.movedReady, or_comm] using h)

theorem exec_hubSwitchEnd_early (hearly : s.lt < s.co.at_ + 100000000) (hholds : ∃ q ∈ s.co.moved, s.drained q = false) :
    exec .hubSwitchEnd s = .next s := if_neg (by simpa [State.movedReady, Nat.not_le_of_lt hearly] using fun _ => hholds)

theorem exec_hubSwitchEnd_other (h : s.co.phase ≠ 4) : exec .hubSwitchEnd s = .next s := if_neg (by simp [h])

/-! ### A tile's turn (R412) -/

section
variable {t : Fin 8}

theorem exec_tileReloadStart_due (hphase : s.co.phase = 5) (hturn : s.coTurn = some t.val) (hidle : (s.tileRun t).phase < 4)
    (hsound : (s.tileRun t).failed = false) (hpwr : s.pwr.run = 0) : exec (.tileReloadStart t) s = .next (s.tileTurn t) :=
  if_pos (by simp [hphase, hturn, hidle, hsound, hpwr])

theorem exec_tileReloadStart_waits (h : s.coTurn ≠ some t.val ∨ s.pwr.run ≠ 0) : exec (.tileReloadStart t) s = .next s :=
  if_neg (by obtain h | h := h <;> simp [h])

theorem exec_tileReload_other (h : s.co.phase ≠ 5) :
    exec (.tileReloadStart t) s = .next s ∧ exec (.tileReloadApply t) s = .next s ∧ exec (.tileReloadEnd t) s = .next s :=
  ⟨if_neg (by simp [h]), if_neg (by simp [h]), if_neg (by simp [h])⟩

/-- A tile whose turn comes drains, or, without sections in the old image, waits for its new ones. -/
theorem State.tileRun_tileTurn (s : State) (t : Nat) : (s.tileTurn t).tileRun t =
    if s.co.oldTiles.contains t then { phase := 4, at_ := s.lt, starts := (s.tileRun t).starts, failed := false }
    else { phase := 5, at_ := s.lt, starts := [], failed := false } := by
  refine (apply_ite (State.tileRun · t) _ _ _).trans ?_
  simp only [State.tileRun_setTileRun_same]
  rfl

theorem State.phase_tileTurnDrained (s : State) (t : Nat) : ((s.tileTurnDrained t).tileRun t).phase = 5 := by
  rw [State.tileTurnDrained, State.tileRun_setTileRun_same]

theorem State.phase_tileTurnTake (s : State) (img : List Byte) (t : Nat) : ((s.tileTurnTake img t).tileRun t).phase = 6 := by
  rw [State.tileTurnTake, State.tileRun_setTileRun_same]

theorem exec_tileReloadDrainEnd_due (hphase : (s.tileRun t).phase = 4) (hdue : (s.tileRun t).at_ + 500000000 ≤ s.lt ∨ s.tileDrained t = true) :
    exec (.tileReloadDrainEnd t) s = .next (s.tileTurnDrained t) := if_pos (by obtain h | h := hdue <;> simp [hphase, h])

theorem exec_tileReloadDrainEnd_early (hearly : s.lt < (s.tileRun t).at_ + 500000000) (hholds : s.tileDrained t = false)
    (hon : s.domIsOn (domTile t) = true) : exec (.tileReloadDrainEnd t) s = .next s := if_neg (by simp [hearly, hholds, hon])

theorem exec_tileReloadDrainEnd_other (h : (s.tileRun t).phase ≠ 4) : exec (.tileReloadDrainEnd t) s = .next s := if_neg (by simp [h])

theorem exec_tileReloadApply_due (hrun : (s.tileRun t).phase = 5) (hphase : s.co.phase = 5) :
    exec (.tileReloadApply t) s = .next (s.tileTurnApply t).watchFollow.keyWaits := if_pos (by simp [hrun, hphase])

/-- From a store without errors, in which the tile's sections hold, the tile takes them. -/
theorem State.tileApply_reload {t : Nat} (hrun : (s.tileRun t).phase = 5) (hlines : s.lines = []) (hidle : s.key.tile ≠ some t)
    (hgood : s.sectsBad (s.bankAt (1 - s.get F.KEY_STAT_BANK)) (s.bytes (s.bankAt (1 - s.get F.KEY_STAT_BANK)) s.co.img.length) t = []) :
    s.tileApply t = s.tileTurnTake (s.bytes (s.bankAt (1 - s.get F.KEY_STAT_BANK)) s.co.img.length) t := by
  have himage : (s.tileImage t).1 = 1 - s.get F.KEY_STAT_BANK ∧ (s.tileImage t).2.1 = s.co.img.length := by simp [State.tileImage, hrun]
  obtain ⟨hbank, hlen⟩ := himage
  simp only [State.tileApply, if_neg hidle, hbank, hlen, State.storeRead_of_lines_nil hlines, State.poisoned_of_lines_nil hlines, Bool.false_eq_true, if_false,
    hgood, List.isEmpty_nil, if_true]
  exact if_pos hrun

theorem exec_tileReloadEnd_starts (hphase : s.co.phase = 5) (htodo : s.bit F.MOD_CO_TODO t = true) (hrun : (s.tileRun t).phase = 6) :
    exec (.tileReloadEnd t) s = .next (((s.tileStart t).setTile t 1).tileTurnEnd t).watchFollow.keyWaits :=
  (if_pos (by simp [hphase, htodo])).trans (if_pos hrun)

theorem exec_tileReloadEnd_failed (hphase : s.co.phase = 5) (htodo : s.bit F.MOD_CO_TODO t = true) (hrun : (s.tileRun t).phase = 0)
    (hfailed : (s.tileRun t).failed = true) : exec (.tileReloadEnd t) s = .next (s.tileTurnEnd t).watchFollow.keyWaits :=
  (if_pos (by simp [hphase, htodo])).trans ((if_neg (by simp [hrun])).trans (if_pos (by simp [hrun, hfailed])))

end

/-- Settles O44: each clause is what a command of a load, a reload or a changeover does once its condition holds, or that it does nothing. -/
theorem reloadAndChangeover : Obligations.ReloadAndChangeover := by
  intro s w t
  refine ⟨exec_keyCommitEnd_due, exec_keyCommitEnd_not, exec_coresStart_load, exec_coresStart_reload, exec_coresStart_not, exec_reloadStart_due,
    ⟨s.get_state_reloadStart, s.running_reloadStart, s.phase_reloadDrained, s.phase_reloadApply, s.running_coAccept⟩, s.tileRun_tileTurn t,
    s.phase_tileTurnDrained t, fun img => s.phase_tileTurnTake img t, fun hphase hdue => exec_reloadDrainEnd_due hphase (.inr hdue),
    fun hphase hdrained => exec_reloadDrainEnd_due hphase (.inl hdrained), fun _ => exec_reloadDrainEnd_early, exec_reloadApply_due, exec_reloadStart_not,
    exec_reloadDrainEnd_other, exec_reloadApply_not, exec_hubSwitchEnd_other, exec_tileReload_other, exec_changeoverAccept_other,
    fun hvat hmode hphase hstaged hdiffers => ?_, fun hvat hnot => ?_, exec_changeoverAccept_due, exec_changeoverAccept_dropped, exec_hubSwitchEnd_due,
    exec_hubSwitchEnd_early, exec_tileReloadStart_due, exec_tileReloadStart_waits, exec_tileReloadDrainEnd_due, fun _ => exec_tileReloadDrainEnd_early,
    exec_tileReloadDrainEnd_other, fun hrun hphase => ⟨exec_tileReloadApply_due hrun hphase, fun hunused => ?_, fun hused hlines hidle => ?_⟩,
    exec_tileReloadEnd_starts, exec_tileReloadEnd_failed⟩
  · rw [exec_keyCmdChangeover_vat hvat, State.coAsk_asks hmode hphase hstaged hdiffers]
  · rw [exec_keyCmdChangeover_vat hvat, State.coAsk_not hnot]
  · exact if_neg (ne_true_of_eq_false hunused)
  · exact fun hgood => (if_pos hused).trans (State.tileApply_reload hrun hlines hidle hgood)

end Sys2Proof.Machine
end

section
/-! SUPPORT. The two-wire ports' registers and operations (chapter 11): what a list's start, its results, its end and a supply cycle leave of them. -/

namespace Sys2Proof.Machine

variable {s : State} {p : Nat}

/-! ### A port's registers -/

/-- Register `k` of a port's block: TW_CFG, TW_CTL, TW_STAT and so on, below the descriptors at 0x40. -/
def twCtrl (p : Nat) (f : Fld) (k : Nat) : Prop := f.addr = twBase p + k ∧ k < 0x40

theorem twBase_add_ne {j k : Nat} (h : j ≠ k) : twBase p + j ≠ twBase p + k := fun heq => h (Nat.add_left_cancel heq)

section
variable {f g : Fld} {j k : Nat}

/-- A field of one of a port's registers stays when another of its registers is written. -/
theorem State.get_put_tw (n : Nat) (hg : g.addr = twBase p + j) (hf : f.addr = twBase p + k) (h : j ≠ k) : (s.put g n).get f = s.get f :=
  s.get_put_other _ _ _ (by rw [hf, hg]; exact twBase_add_ne h.symm)

/-- Events leave the ports' registers. -/
theorem State.get_raise_tw (hp : p < 8) (n : Nat) (hf : f.addr = twBase p + k) (hk : k < 0x400) : (s.raise n).get f = s.get f := by
  have hlt : f.addr < R.EVT_SEEN_LO := by
    rw [hf]
    unfold twBase R.EVT_SEEN_LO
    omega
  refine s.get_raise_other _ _ (Nat.ne_of_lt hlt) (Nat.ne_of_lt ?_) (Nat.ne_of_lt ?_)
  · exact Nat.lt_trans hlt (by decide)
  · refine Nat.lt_trans hlt ?_
    unfold R.EVT_SEEN_LO R.EVT_CNT
    omega

end

theorem State.out_of_rest {s t : State} (h : t.rest = s.rest) : t.out = s.out := by
  have hrest : t.rest.out = s.rest.out := congrArg State.out h
  exact hrest

theorem State.lt_of_rest {s t : State} (h : t.rest = s.rest) : t.lt = s.lt := by
  have hrest : t.rest.lt = s.rest.lt := congrArg State.lt h
  exact hrest

@[simp] theorem State.tw_setTw_same (s : State) (p : Nat) (x : TwSt) : (s.setTw p x).tw p = x := by simp [State.tw, State.setTw]

@[simp] theorem State.tw_put (s : State) (f : Fld) (n p : Nat) : (s.put f n).tw p = s.tw p := rfl

/-! ### Results (R333) -/

section
variable (s) (x res : Nat)

@[simp] theorem State.rest_twResult : (s.twResult p x res).rest = s.rest := by
  unfold State.twResult
  dsimp only
  split
  · rw [State.rest_raise, State.rest_put, State.rest_incSat, State.rest_put]
  · exact s.rest_put _ _

@[simp] theorem State.rest_twUnrun : (s.twUnrun p x res).rest = s.rest := by rw [State.twUnrun, State.rest_twResult, State.rest_put]

@[simp] theorem State.rest_twRest : (s.twRest p x res).rest = s.rest := s.rest_foldl _ (fun u y => u.rest_twUnrun y res) _

@[simp] theorem State.rest_twListEnd : (s.twListEnd p).rest = s.rest := by
  rw [State.twListEnd, State.rest_raise, State.rest_put]
  split
  · exact s.rest_put _ _
  · rfl

@[simp] theorem State.rest_twAnswer : (s.twAnswer p x res).rest = s.rest := by
  unfold State.twAnswer
  split
  · rw [State.rest_twListEnd, State.rest_twRest, State.rest_twUnrun]
  · rw [State.rest_twListEnd, State.rest_twRest]

end

section
variable {f : Fld} {k : Nat} (hp : p < 8) (x res : Nat)
include hp

/-- Of a port's registers but the errors' count and event, a result writes its own alone. -/
theorem State.get_twResult (hf : f.addr = twBase p + k) (hk : k < 0x400) (hevt : k ≠ 0xC) (hcnt : k ≠ 0x10) :
    (s.twResult p x res).get f = (s.put (F.TW_XFER_RES_RESULT p x) res).get f := by
  unfold State.twResult
  dsimp only
  split
  · rw [State.get_raise_tw hp _ hf hk, State.get_put_tw _ rfl hf hevt.symm, State.incSat, State.get_put_tw _ rfl hf hcnt.symm]
  · rfl

/-- The registers of a port's state and commands stay when a descriptor gets a result. -/
theorem State.get_twResult_ctrl (hf : twCtrl p f k) (hevt : k ≠ 0xC) (hcnt : k ≠ 0x10) : (s.twResult p x res).get f = s.get f := by
  obtain ⟨haddr, hk⟩ := hf
  rw [State.get_twResult hp _ _ haddr (by omega) hevt hcnt, State.get_put_tw _ (Nat.add_assoc _ _ _) haddr (by omega)]

theorem State.get_twUnrun (hf : twCtrl p f k) (hevt : k ≠ 0xC) (hcnt : k ≠ 0x10) : (s.twUnrun p x res).get f = s.get f := by
  obtain ⟨haddr, hk⟩ := hf
  rw [State.twUnrun, State.get_twResult_ctrl hp _ _ ⟨haddr, hk⟩ hevt hcnt, State.get_put_tw _ (Nat.add_assoc _ _ _) haddr (by omega)]

theorem State.get_twRest (hf : twCtrl p f k) (hevt : k ≠ 0xC) (hcnt : k ≠ 0x10) : (s.twRest p x res).get f = s.get f :=
  foldl_keeps (State.get · f) _ (fun _ y => State.get_twUnrun hp y res hf hevt hcnt) _ _

end

/-! ### The end of a list (R332) -/

section
variable {f : Fld} {k : Nat} (hp : p < 8) (x res : Nat)
include hp

theorem State.get_twListEnd (hf : f.addr = twBase p + k) (hk : k < 0x400) (hevt : k ≠ 0xC) :
    (s.twListEnd p).get f = (if s.get (F.TW_STAT_STATE p) = twBusy then s.put (F.TW_STAT_STATE p) twIdle else s).get f := by
  rw [State.twListEnd, State.get_raise_tw hp _ hf hk, State.get_put_tw _ rfl hf hevt.symm]

theorem State.get_done_twListEnd (s : State) : (s.twListEnd p).get (F.TW_EVT_DONE_SEEN p) = 1 := by
  rw [State.twListEnd, State.get_raise_tw (k := 0xC) hp _ rfl (by decide), State.get_put_same _ _ _ (by dsimp only; omega)]
  rfl

theorem State.get_state_twListEnd_busy (h : s.get (F.TW_STAT_STATE p) = twBusy) : (s.twListEnd p).get (F.TW_STAT_STATE p) = twIdle := by
  rw [State.get_twListEnd (k := 8) hp rfl (by decide) (by decide), if_pos h, State.get_put_same _ _ _ (by dsimp only; omega)]
  rfl

/-- A list's end leaves a port's registers but STATE and the event. -/
theorem State.get_twListEnd_other (hf : f.addr = twBase p + k) (hk : k < 0x400) (hevt : k ≠ 0xC) (hstate : k ≠ 8 ∨ 3 ≤ f.lo) :
    (s.twListEnd p).get f = s.get f := by
  rw [State.get_twListEnd hp hf hk hevt]
  split
  · obtain h | h := hstate
    · exact s.get_put_tw _ rfl hf h.symm
    · exact s.get_put_apart _ _ _ (by dsimp only; omega) (.inr (by exact h))
  · rfl

theorem State.get_state_twListEnd_not (h : s.get (F.TW_STAT_STATE p) ≠ twBusy) : (s.twListEnd p).get (F.TW_STAT_STATE p) = s.get (F.TW_STAT_STATE p) := by
  rw [State.get_twListEnd (k := 8) hp rfl (by decide) (by decide), if_neg h]

/-- A list answered without running ends with DONE. -/
theorem State.get_done_twAnswer (s : State) : (s.twAnswer p x res).get (F.TW_EVT_DONE_SEEN p) = 1 := by
  unfold State.twAnswer
  split <;> exact State.get_done_twListEnd hp _

/-- A list answered without running leaves the port's state and commands, but that a busy port would be idle. -/
theorem State.get_twAnswer (hf : twCtrl p f k) (hevt : k ≠ 0xC) (hcnt : k ≠ 0x10) (hstate : k ≠ 8 ∨ 3 ≤ f.lo) :
    (s.twAnswer p x res).get f = s.get f := by
  obtain ⟨haddr, hk⟩ := hf
  have hend (u : State) : (u.twListEnd p).get f = u.get f := State.get_twListEnd_other hp haddr (Nat.lt_trans hk (by decide)) hevt hstate
  unfold State.twAnswer
  split
  · rw [hend, State.get_twRest hp _ _ ⟨haddr, hk⟩ hevt hcnt, State.get_twUnrun hp _ _ ⟨haddr, hk⟩ hevt hcnt]
  · rw [hend, State.get_twRest hp _ _ ⟨haddr, hk⟩ hevt hcnt]

theorem State.get_state_twAnswer (h : s.get (F.TW_STAT_STATE p) ≠ twBusy) : (s.twAnswer p x res).get (F.TW_STAT_STATE p) = s.get (F.TW_STAT_STATE p) := by
  have hrest (u : State) (y : Nat) (r : Nat) : (u.twRest p y r).get (F.TW_STAT_STATE p) = u.get (F.TW_STAT_STATE p) :=
    State.get_twRest hp _ _ ⟨rfl, by decide⟩ (by decide) (by decide)
  have hunrun : (s.twUnrun p x res).get (F.TW_STAT_STATE p) = s.get (F.TW_STAT_STATE p) :=
    State.get_twUnrun hp _ _ ⟨rfl, by decide⟩ (by decide) (by decide)
  unfold State.twAnswer
  split
  · rw [State.get_state_twListEnd_not hp (by rwa [hrest, hunrun]), hrest, hunrun]
  · rw [State.get_state_twListEnd_not hp (by rwa [hrest]), hrest]

end

end Sys2Proof.Machine
end

section
/-! SUPPORT. The commands of the two-wire ports (chapter 11), and the statement O47. -/

namespace Sys2Proof.Machine

variable {s : State}

/-! ### TWp_CTL written (R332, R341) -/

/-- A field set to another number of the same low bits is the same. -/
theorem State.put_mod_congr (s : State) (f : Fld) {m n : Nat} (h : m % 2 ^ f.width = n % 2 ^ f.width) : s.put f m = s.put f n := by
  unfold State.put Fld.into
  rw [h]

/-- LAST and CONT taken from the word written to TWp_CTL. -/
def State.twCtl (s : State) (p : Nat) (v : Word) : State := (s.put (F.TW_CTL_LAST p) v.toNat).put (F.TW_CTL_CONT p) (v.toNat / 16)

theorem State.rest_twCtl (s : State) (p : Nat) (v : Word) : (s.twCtl p v).rest = s.rest := by rw [State.twCtl, State.rest_put, State.rest_put]

/-- The bits behind CONT say nothing of LAST and CONT. -/
theorem State.twCtl_or (s : State) (p : Nat) (v : Word) {m : Word} (h : m.toNat % 2 ^ 5 = 0) : s.twCtl p (v ||| m) = s.twCtl p v := by
  have hlast : m.toNat % 2 ^ 4 = 0 := by omega
  have hcont : m.toNat / 2 ^ 4 % 2 ^ 1 = 0 := by omega
  unfold State.twCtl
  rw [BitVec.toNat_or, s.put_mod_congr (F.TW_CTL_LAST p) (n := v.toNat), State.put_mod_congr _ (F.TW_CTL_CONT p) (n := v.toNat / 16)]
  · change (v.toNat ||| m.toNat) / 2 ^ 4 % 2 ^ 1 = v.toNat / 2 ^ 4 % 2 ^ 1
    rw [Nat.or_div_two_pow, Nat.or_mod_two_pow, hcont, Nat.or_zero]
  · change (v.toNat ||| m.toNat) % 2 ^ 4 = v.toNat % 2 ^ 4
    rw [Nat.or_mod_two_pow, hlast, Nat.or_zero]

section
variable {w : Fin 9} {p : Fin 8} {ctl : Word}

theorem exec_twCtl_otherCore (h : w.val ≠ 8) : exec (.twGo w p ctl) s = .next s ∧ exec (.twPowerCycle w p ctl) s = .next s :=
  ⟨congrArg _ (if_neg h), congrArg _ (if_neg h)⟩

theorem State.cmdTwCtl_vat {w p : Nat} (h : w = 8) (v : Word) :
    let u := if v.getLsbD 5 then (s.twCtl p v).twGo p else s.twCtl p v
    s.cmdTwCtl w p v = if v.getLsbD 6 then u.twPowerCycle p else u := if_pos h

theorem exec_twGo_vat (h : w.val = 8) : exec (.twGo w p ctl) s =
    .next (if ctl.getLsbD 6 then ((s.twCtl p ctl).twGo p).twPowerCycle p else (s.twCtl p ctl).twGo p) := by
  have hgo : (ctl ||| 0x20#32).getLsbD 5 = true := by simp
  have hcycle : (ctl ||| 0x20#32).getLsbD 6 = ctl.getLsbD 6 := by simp
  refine congrArg _ ((State.cmdTwCtl_vat h _).trans ?_)
  rw [if_pos hgo, hcycle, s.twCtl_or p ctl rfl]

theorem exec_twPowerCycle_vat (h : w.val = 8) : exec (.twPowerCycle w p ctl) s =
    .next ((if ctl.getLsbD 5 then (s.twCtl p ctl).twGo p else s.twCtl p ctl).twPowerCycle p) := by
  have hgo : (ctl ||| 0x40#32).getLsbD 5 = ctl.getLsbD 5 := by simp
  have hcycle : (ctl ||| 0x40#32).getLsbD 6 = true := by simp
  refine congrArg _ ((State.cmdTwCtl_vat h _).trans ?_)
  rw [if_pos hcycle, hgo, s.twCtl_or p ctl rfl]

end

section
variable {p : Nat} {f : Fld} {k : Nat}

/-- A port's registers but TWp_CTL stay when TWp_CTL is written. -/
theorem State.get_twCtl (v : Word) (hf : f.addr = twBase p + k) (h : k ≠ 4) : (s.twCtl p v).get f = s.get f := by
  rw [State.twCtl, State.get_put_tw _ rfl hf h.symm, State.get_put_tw _ rfl hf h.symm]

theorem State.get_last_twCtl (s : State) (p : Nat) (v : Word) : (s.twCtl p v).get (F.TW_CTL_LAST p) = v.toNat % 16 := by
  rw [State.twCtl, State.get_put_apart _ _ _ _ (by dsimp only; omega) (.inl (by dsimp only; omega)), State.get_put_same _ _ _ (by dsimp only; omega)]
  rfl

end

theorem State.out_emit (s : State) (e : Emission) : (s.emit e).out = s.out ++ [e] := rfl

/-! ### GO (R332, R334, R336) -/

section
variable {p : Nat}

theorem State.twGo_refused (h : s.get (F.TW_STAT_STATE p) = twBusy ∨ s.get (F.TW_STAT_STATE p) = twCycling) :
    s.twGo p = s.incSat (F.TW_CNT1_REFUSED p) := if_pos h

theorem State.twGo_hung (h : s.get (F.TW_STAT_STATE p) = twHung) : s.twGo p = s.twAnswer p 0 trHung :=
  (if_neg (by simp [h])).trans (if_pos h)

theorem State.twGo_off (h : s.get (F.TW_STAT_STATE p) = twIsOff) : s.twGo p = s.twAnswer p 0 trOff :=
  (if_neg (by simp [h])).trans ((if_neg (by simp [h])).trans (if_pos h))

/-- The results of the list's descriptors are pending. -/
def State.twPended (s : State) (p : Nat) : State :=
  (List.range (s.get (F.TW_CTL_LAST p) + 1)).foldl (fun s x => (s.put (F.TW_XFER_RES_RESULT p x) trPending).put (F.TW_XFER_RES_BYTES p x) 0) s

theorem State.twGo_idle (h : s.get (F.TW_STAT_STATE p) = twIdle) : s.twGo p = ((s.twPended p).put (F.TW_STAT_STATE p) twBusy).twFrom p 17 0 :=
  (if_neg (by simp [h])).trans ((if_neg (by simp [h])).trans (if_neg (by simp [h])))

/-- The results' registers alone are written for the pending results. -/
theorem State.get_twPended {f : Fld} {k : Nat} (hf : f.addr = twBase p + k) (hk : k < 0x44) : (s.twPended p).get f = s.get f := by
  refine foldl_keeps (State.get · f) _ (fun u x => ?_) _ _
  rw [State.get_put_tw _ (Nat.add_assoc _ _ _) hf (by omega), State.get_put_tw _ (Nat.add_assoc _ _ _) hf (by omega)]

@[simp] theorem State.rest_twPended (s : State) (p : Nat) : (s.twPended p).rest = s.rest :=
  s.rest_foldl _ (fun u x => by rw [State.rest_put, State.rest_put]) _

/-- The result of the list's first descriptor is pending: the others' results lie in registers of their own. -/
theorem State.get_result_twPended (s : State) (p : Nat) : (s.twPended p).get (F.TW_XFER_RES_RESULT p 0) = trPending := by
  rw [State.twPended, List.range_succ_eq_map, List.foldl_cons, List.foldl_map]
  refine (foldl_keeps (State.get · (F.TW_XFER_RES_RESULT p 0)) _ (fun u x => ?_) _ _).trans ?_
  · rw [State.get_put_tw (k := 0x44) _ (Nat.add_assoc _ _ _) rfl (by omega), State.get_put_tw (k := 0x44) _ (Nat.add_assoc _ _ _) rfl (by omega)]
  · rw [State.get_put_apart _ _ _ _ (by dsimp only; omega) (.inl (by dsimp only; omega)), State.get_put_same _ _ _ (by dsimp only; omega)]
    rfl

/-- The state in which the first transfer of a list begins. -/
def State.twFirst (s : State) (p : Nat) : State := ((s.twPended p).put (F.TW_STAT_STATE p) twBusy).put (F.TW_STAT_CUR p) 0

theorem State.get_twFirst {f : Fld} {k : Nat} (hf : f.addr = twBase p + k) (hk : k < 0x44) (hstat : k ≠ 8) : (s.twFirst p).get f = s.get f := by
  rw [State.twFirst, State.get_put_tw _ rfl hf hstat.symm, State.get_put_tw _ rfl hf hstat.symm, State.get_twPended hf hk]

theorem State.get_xfer_twFirst {f : Fld} (hf : f.addr = R.TW_XFER p 0) : (s.twFirst p).get f = s.get f :=
  State.get_twFirst (k := 0x40) hf (by decide) (by decide)

theorem State.rest_twFirst (s : State) (p : Nat) : (s.twFirst p).rest = s.rest := by
  rw [State.twFirst, State.rest_put, State.rest_put, State.rest_twPended]

/-- The bytes that descriptor 0 writes. -/
def State.twSent (s : State) (p : Nat) : List Byte :=
  (List.range (s.get (F.TW_XFER_WLEN p 0))).map (fun k => s.twByte p (s.get (F.TW_XFER_BOFF p 0) + k))

theorem State.length_twSent (s : State) (p : Nat) : (s.twSent p).length = s.get (F.TW_XFER_WLEN p 0) := by
  rw [State.twSent, List.length_map, List.length_range]

/-- GO on an idle port begins the transfer of descriptor 0. -/
theorem State.twGo_begins (hidle : s.get (F.TW_STAT_STATE p) = twIdle) (hgood : s.twBad p 0 = false) :
    let u := s.twFirst p
    s.twGo p = u.emit (.twoWire p (u.get (F.TW_XFER_ADDR p 0)) (u.twSent p) (u.get (F.TW_XFER_RLEN p 0))) := by
  have hbad : (s.twFirst p).twBad p 0 = false := by
    rwa [State.twBad, State.get_xfer_twFirst rfl, State.get_xfer_twFirst rfl, State.get_xfer_twFirst rfl]
  exact (State.twGo_idle hidle).trans ((if_neg (Nat.not_lt_zero _)).trans (if_neg (ne_true_of_eq_false hbad)))

end

section
variable {w : Fin 9} {p : Fin 8} {ctl : Word} (hvat : w.val = 8) (hgo : ctl.getLsbD 6 = false)
include hvat hgo

theorem exec_twGo_alone : exec (.twGo w p ctl) s = .next ((s.twCtl p ctl).twGo p) := by
  rw [exec_twGo_vat hvat, if_neg (ne_true_of_eq_false hgo)]

/-- GO on an idle port whose first descriptor is good. -/
theorem twGo_starts (hidle : s.get (F.TW_STAT_STATE p) = twIdle) (hgood : s.twBad p 0 = false) : Completes (.twGo w p ctl) s (fun t =>
    t.get (F.TW_STAT_STATE p) = twBusy ∧ t.get (F.TW_STAT_CUR p) = 0 ∧ t.get (F.TW_CTL_LAST p) = ctl.toNat % 16 ∧
      t.get (F.TW_XFER_RES_RESULT p 0) = trPending ∧ ∃ bytes : List Byte, bytes.length = s.get (F.TW_XFER_WLEN p 0) ∧
        t.out = s.out ++ [.twoWire p (s.get (F.TW_XFER_ADDR p 0)) bytes (s.get (F.TW_XFER_RLEN p 0))]) := by
  have hxfer {f : Fld} (hf : f.addr = R.TW_XFER p 0) : ((s.twCtl p ctl).twFirst p).get f = s.get f :=
    (State.get_xfer_twFirst hf).trans (State.get_twCtl (k := 0x40) ctl hf (by decide))
  have hidle' : (s.twCtl p ctl).get (F.TW_STAT_STATE p) = twIdle := (State.get_twCtl (k := 8) ctl rfl (by decide)).trans hidle
  have hgood' : (s.twCtl p ctl).twBad p 0 = false := by
    have hget {f : Fld} (hf : f.addr = R.TW_XFER p 0) : (s.twCtl p ctl).get f = s.get f := State.get_twCtl (k := 0x40) ctl hf (by decide)
    rwa [State.twBad, hget rfl, hget rfl, hget rfl]
  refine ⟨_, (exec_twGo_alone hvat hgo).trans (congrArg _ (State.twGo_begins hidle' hgood')), ?_, ?_, ?_, ?_, ((s.twCtl p ctl).twFirst p).twSent p, ?_, ?_⟩
  · rw [State.get_emit, State.twFirst, State.get_put_apart _ _ _ _ (by dsimp only; omega) (.inl (by dsimp only; omega)),
      State.get_put_same _ _ _ (by dsimp only; omega)]
    rfl
  · rw [State.get_emit, State.twFirst, State.get_put_same _ _ _ (by dsimp only; omega)]
    rfl
  · rw [State.get_emit, State.get_twFirst (k := 4) rfl (by decide) (by decide), State.get_last_twCtl]
  · rw [State.get_emit, State.twFirst, State.get_put_tw (k := 0x44) _ rfl rfl (by decide), State.get_put_tw (k := 0x44) _ rfl rfl (by decide),
      State.get_result_twPended]
  · rw [State.length_twSent, hxfer rfl]
  · rw [hxfer rfl, hxfer rfl, State.out_emit, State.out_of_rest ((State.rest_twFirst _ _).trans (State.rest_twCtl _ _ _))]

/-- GO on a port that is hung or off: its list is answered at once. -/
theorem twGo_answers (h : s.get (F.TW_STAT_STATE p) = twHung ∨ s.get (F.TW_STAT_STATE p) = twIsOff) : Completes (.twGo w p ctl) s (fun t =>
    t.get (F.TW_STAT_STATE p) = s.get (F.TW_STAT_STATE p) ∧ t.get (F.TW_EVT_DONE_SEEN p) = 1 ∧ t.out = s.out) := by
  have hstate : (s.twCtl p ctl).get (F.TW_STAT_STATE p) = s.get (F.TW_STAT_STATE p) := State.get_twCtl (k := 8) ctl rfl (by decide)
  have hquiet : (s.twCtl p ctl).get (F.TW_STAT_STATE p) ≠ twBusy := by
    rw [hstate]
    obtain h | h := h <;> rw [h] <;> decide
  obtain ⟨res, hres⟩ : ∃ res, (s.twCtl p ctl).twGo p = (s.twCtl p ctl).twAnswer p 0 res := by
    obtain h | h := h
    · exact ⟨_, State.twGo_hung (hstate.trans h)⟩
    · exact ⟨_, State.twGo_off (hstate.trans h)⟩
  refine ⟨_, (exec_twGo_alone hvat hgo).trans (congrArg _ hres), ?_, State.get_done_twAnswer p.isLt _ _ _,
    State.out_of_rest ((State.rest_twAnswer _ _ _).trans (s.rest_twCtl p ctl))⟩
  rw [State.get_state_twAnswer p.isLt _ _ hquiet, hstate]

end

/-! ### POWER_CYCLE (R335, R336) -/

section
variable {p : Nat}

@[simp] theorem State.tw_twRail (s : State) (p : Nat) (on : Bool) (q : Nat) : (s.twRail p on).tw q = s.tw q := rfl

theorem State.twPowerCycle_disabled (h : s.isSet (F.TW_CFG_SUP_EN p) = false) : s.twPowerCycle p = s := if_pos (by simp [h])

/-- A count of attempts starts anew but in a hung port. -/
def State.twCounted (s : State) (p : Nat) : State := if s.get (F.TW_STAT_STATE p) = twHung then s else s.put (F.TW_STAT_ATTEMPTS p) 0

@[simp] theorem State.twCounted_lt (s : State) (p : Nat) : (s.twCounted p).lt = s.lt := by
  unfold State.twCounted
  split <;> rfl

theorem State.get_attempts_twCounted (s : State) (p : Nat) : (s.twCounted p).get (F.TW_STAT_ATTEMPTS p) =
    if s.get (F.TW_STAT_STATE p) = twHung then s.get (F.TW_STAT_ATTEMPTS p) else 0 := by
  unfold State.twCounted
  split
  · rfl
  · exact (s.get_put_same _ _ (by dsimp only; omega)).trans rfl

/-- The port before its supply is taken away: a list that runs has ended. -/
def State.twReleased (s : State) (p : Nat) : State :=
  if (s.twCounted p).get (F.TW_STAT_STATE p) = twBusy then (s.twCounted p).twBreak p else s.twCounted p

theorem State.twPowerCycle_enabled (hsupply : s.isSet (F.TW_CFG_SUP_EN p) = true) (hstate : s.get (F.TW_STAT_STATE p) ≠ twCycling) :
    s.twPowerCycle p = (s.twReleased p).twCycle p false := if_neg (by simp [hsupply, hstate])

theorem State.lt_twBreak (s : State) (p : Nat) : (s.twBreak p).lt = s.lt := by
  unfold State.twBreak
  split
  · refine (State.lt_of_rest (State.rest_twAnswer _ _ _)).trans ?_
    rfl
  · rfl

theorem State.get_attempts_put_state (s : State) (p n : Nat) : (s.put (F.TW_STAT_STATE p) n).get (F.TW_STAT_ATTEMPTS p) = s.get (F.TW_STAT_ATTEMPTS p) :=
  s.get_put_apart _ _ _ (by dsimp only; omega) (.inr (by dsimp only; omega))

theorem State.get_attempts_twBreak (hp : p < 8) (s : State) : (s.twBreak p).get (F.TW_STAT_ATTEMPTS p) = s.get (F.TW_STAT_ATTEMPTS p) := by
  unfold State.twBreak
  split
  · rw [State.get_freeNext, State.get_put_tw (k := 8) _ (Nat.add_assoc _ _ _) rfl (by omega),
      State.get_twAnswer (k := 8) hp _ _ ⟨rfl, by decide⟩ (by decide) (by decide) (.inr (by dsimp only; omega)), State.incSat,
      State.get_put_tw (k := 8) _ rfl rfl (by decide), State.get_attempts_put_state]
  · exact s.get_attempts_put_state p twHung

theorem State.lt_twReleased (s : State) (p : Nat) : (s.twReleased p).lt = s.lt := by
  unfold State.twReleased
  split
  · rw [State.lt_twBreak, State.twCounted_lt]
  · exact s.twCounted_lt p

theorem State.get_attempts_twReleased (hp : p < 8) (s : State) : (s.twReleased p).get (F.TW_STAT_ATTEMPTS p) =
    if s.get (F.TW_STAT_STATE p) = twHung then s.get (F.TW_STAT_ATTEMPTS p) else 0 := by
  unfold State.twReleased
  split
  · rw [State.get_attempts_twBreak hp, State.get_attempts_twCounted]
  · exact s.get_attempts_twCounted p

/-- The supply taken away where it is on. -/
def State.twUnpowered (s : State) (p : Nat) : State := if (s.tw p).supply then s.twRail p false else s

theorem State.twUnpowered_regs (s : State) (p : Nat) : (s.twUnpowered p).regs = s.regs := by
  unfold State.twUnpowered
  split <;> rfl

theorem State.twUnpowered_lt (s : State) (p : Nat) : (s.twUnpowered p).lt = s.lt := by
  unfold State.twUnpowered
  split <;> rfl

/-- A supply cycle's attempt that is none of the port's own counts nothing of the attempts. -/
theorem State.twCycle_manual (s : State) (p : Nat) :
    let u := ((s.put (F.TW_STAT_STATE p) twCycling).incSat (F.TW_CNT1_CYCLES p)).twUnpowered p
    s.twCycle p false = u.setTw p { supply := false, at_ := u.lt, auto := false, supplyBack := false, starting := false } := rfl

theorem State.tw_twCycle_manual (s : State) (p : Nat) :
    (s.twCycle p false).tw p = { supply := false, at_ := s.lt, auto := false, supplyBack := false, starting := false } := by
  rw [State.twCycle_manual, State.tw_setTw_same, State.twUnpowered_lt, State.incSat, State.put_lt, State.put_lt]

theorem State.get_twCycle_manual (s : State) (p : Nat) {f : Fld} (hf : f.addr = R.TW_STAT p) :
    (s.twCycle p false).get f = (s.put (F.TW_STAT_STATE p) twCycling).get f := by
  rw [State.twCycle_manual, State.get_setTw, State.get_congr (State.twUnpowered_regs _ _), State.incSat, State.get_put_tw (k := 8) _ rfl hf (by decide)]

end

theorem exec_twPowerCycle_alone {w : Fin 9} {p : Fin 8} {ctl : Word} (hvat : w.val = 8) (hgo : ctl.getLsbD 5 = false) :
    exec (.twPowerCycle w p ctl) s = .next ((s.twCtl p ctl).twPowerCycle p) := by
  rw [exec_twPowerCycle_vat hvat, if_neg (ne_true_of_eq_false hgo)]

/-- POWER_CYCLE takes an enabled supply away. -/
theorem twPowerCycle_completes {w : Fin 9} {p : Fin 8} {ctl : Word} (hvat : w.val = 8) (hgo : ctl.getLsbD 5 = false)
    (hsupply : s.isSet (F.TW_CFG_SUP_EN p) = true) (hstate : s.get (F.TW_STAT_STATE p) ≠ twCycling) :
    Completes (.twPowerCycle w p ctl) s (fun t => t.get (F.TW_STAT_STATE p) = twCycling ∧
      t.tw p = { supply := false, at_ := s.lt, auto := false, supplyBack := false, starting := false } ∧
      t.get (F.TW_STAT_ATTEMPTS p) = (if s.get (F.TW_STAT_STATE p) = twHung then s.get (F.TW_STAT_ATTEMPTS p) else 0)) := by
  have hstat {f : Fld} (hf : f.addr = R.TW_STAT p) : (s.twCtl p ctl).get f = s.get f := State.get_twCtl (k := 8) ctl hf (by decide)
  have hsupply' : (s.twCtl p ctl).isSet (F.TW_CFG_SUP_EN p) = true := by rwa [State.isSet, State.get_twCtl (k := 0) ctl rfl (by decide)]
  have hcycle : (s.twCtl p ctl).twPowerCycle p = ((s.twCtl p ctl).twReleased p).twCycle p false :=
    State.twPowerCycle_enabled hsupply' (by rwa [hstat rfl])
  refine ⟨_, (exec_twPowerCycle_alone hvat hgo).trans (congrArg _ hcycle), ?_, ?_, ?_⟩
  · rw [State.get_twCycle_manual _ _ rfl, State.get_put_same _ _ _ (by dsimp only; omega)]
    rfl
  · rw [State.tw_twCycle_manual, State.lt_twReleased, State.lt_of_rest (s.rest_twCtl p ctl)]
  · rw [State.get_twCycle_manual _ _ rfl, State.get_attempts_put_state, State.get_attempts_twReleased p.isLt, hstat rfl, hstat rfl]

/-! ### Transfers end (R333) -/

section
variable {p : Nat}

/-- The register of a result lies in the port's block. -/
theorem State.twRes_inside (s : State) (p : Nat) : 0x44 + 8 * s.get (F.TW_STAT_CUR p) < 0x400 := by
  have hcur : s.get (F.TW_STAT_CUR p) < 2 ^ 4 := Fld.ofWord_lt _ _
  omega

/-- The running transfer's bytes are counted and its result is written; the list has not gone on yet. -/
def State.twEnded (s : State) (p res n : Nat) : State :=
  ((s.incSat (F.TW_CNT0_TRANSFERS p)).twBytes p (s.get (F.TW_STAT_CUR p)) n).twResult p (s.get (F.TW_STAT_CUR p)) res

section
variable {f : Fld} {k : Nat} (hp : p < 8) (res n : Nat)

theorem State.get_twBytes (s : State) (x n : Nat) (hf : f.addr = twBase p + k) (h : k ≠ 0x44 + 8 * x) : (s.twBytes p x n).get f = s.get f := by
  unfold State.twBytes
  split
  · exact s.get_put_tw _ (Nat.add_assoc _ _ _) hf h.symm
  · rw [State.get_freeNext, State.get_put_tw _ (Nat.add_assoc _ _ _) hf h.symm]

include hp

/-- The registers of a port's state and commands stay when the running transfer gets its result. -/
theorem State.get_twEnded (hf : twCtrl p f k) (hevt : k ≠ 0xC) (hcnt : k ≠ 0x10) : (s.twEnded p res n).get f = s.get f := by
  obtain ⟨haddr, hk⟩ := hf
  rw [State.twEnded, State.get_twResult_ctrl hp _ _ ⟨haddr, hk⟩ hevt hcnt, State.get_twBytes _ _ _ haddr (by omega), State.incSat,
    State.get_put_tw _ rfl haddr hcnt.symm]

theorem State.get_result_twEnded (hres : res < 16) : (s.twEnded p res n).get (F.TW_XFER_RES_RESULT p (s.get (F.TW_STAT_CUR p))) = res := by
  rw [State.twEnded, State.get_twResult hp _ _ (Nat.add_assoc _ _ _) (s.twRes_inside p) (by omega) (by omega), State.get_put_same _ _ _ (by dsimp only; omega)]
  exact Nat.mod_eq_of_lt hres

theorem State.get_bytes_twEnded (hn : n < 256) : (s.twEnded p res n).get (F.TW_XFER_RES_BYTES p (s.get (F.TW_STAT_CUR p))) = n := by
  rw [State.twEnded, State.get_twResult hp _ _ (Nat.add_assoc _ _ _) (s.twRes_inside p) (by omega) (by omega),
    State.get_put_apart _ _ _ _ (by dsimp only; omega) (.inr (by dsimp only; omega)), State.twBytes, if_pos hn, State.get_put_same _ _ _ (by dsimp only; omega)]
  exact Nat.mod_eq_of_lt hn

/-- Behind the list's last transfer the list ends, whatever the result and CONT. -/
theorem State.twEnd_last (h : s.get (F.TW_CTL_LAST p) ≤ s.get (F.TW_STAT_CUR p)) : s.twEnd p res n = (s.twEnded p res n).twListEnd p := by
  have hlast : (s.twEnded p res n).get (F.TW_CTL_LAST p) < s.get (F.TW_STAT_CUR p) + 1 := by
    rw [State.get_twEnded (k := 4) hp _ _ ⟨rfl, by decide⟩ (by decide) (by decide)]
    exact Nat.lt_succ_of_le h
  have hfrom : (s.twEnded p res n).twFrom p 17 (s.get (F.TW_STAT_CUR p) + 1) = (s.twEnded p res n).twListEnd p := if_pos hlast
  have hrest : (s.twEnded p res n).twRest p (s.get (F.TW_STAT_CUR p) + 1) trSkipped = s.twEnded p res n := by
    have hnone : (List.range 16).filter
        (fun y => decide (s.get (F.TW_STAT_CUR p) + 1 ≤ y) && decide (y ≤ (s.twEnded p res n).get (F.TW_CTL_LAST p))) = [] := by
      refine List.filter_eq_nil_iff.mpr fun y _ => ?_
      simp only [Bool.and_eq_true, decide_eq_true_eq]
      omega
    rw [State.twRest, hnone, List.foldl_nil]
  have hend : s.twEnd p res n = if (res = 0 || (s.twEnded p res n).isSet (F.TW_CTL_CONT p)) then
      (s.twEnded p res n).twFrom p 17 (s.get (F.TW_STAT_CUR p) + 1)
    else ((s.twEnded p res n).twRest p (s.get (F.TW_STAT_CUR p) + 1) trSkipped).twListEnd p := rfl
  rw [hend, hfrom, hrest, ite_self]

/-- A list's last transfer ended: the port is idle, with the result, the bytes and DONE. -/
theorem State.twEnd_lastShown (hbusy : s.get (F.TW_STAT_STATE p) = twBusy) (hlast : s.get (F.TW_CTL_LAST p) ≤ s.get (F.TW_STAT_CUR p)) (hres : res < 16)
    (hn : n < 256) :
    (s.twEnd p res n).get (F.TW_STAT_STATE p) = twIdle ∧ (s.twEnd p res n).get (F.TW_XFER_RES_RESULT p (s.get (F.TW_STAT_CUR p))) = res ∧
      (s.twEnd p res n).get (F.TW_EVT_DONE_SEEN p) = 1 ∧ (s.twEnd p res n).get (F.TW_XFER_RES_BYTES p (s.get (F.TW_STAT_CUR p))) = n := by
  have hinside := s.twRes_inside p
  rw [State.twEnd_last hp res n hlast]
  refine ⟨State.get_state_twListEnd_busy hp ?_, ?_, State.get_done_twListEnd hp _, ?_⟩
  · rw [State.get_twEnded (k := 8) hp _ _ ⟨rfl, by decide⟩ (by decide) (by decide), hbusy]
  · rw [State.get_twListEnd_other hp (Nat.add_assoc _ _ _) hinside (by omega) (.inl (by omega)), State.get_result_twEnded hp _ _ hres]
  · rw [State.get_twListEnd_other hp (Nat.add_assoc _ _ _) hinside (by omega) (.inl (by omega)), State.get_bytes_twEnded hp _ _ hn]

end

/-- Bytes read land in the buffer, behind every other register of the port. -/
theorem State.get_twFill {f : Fld} {k : Nat} (s : State) (o : Nat) (l : List Byte) (hf : f.addr = twBase p + k) (hk : k < 0x100) :
    (s.twFill p o l).get f = s.get f :=
  foldl_keeps (State.get · f) _ (fun u b => u.get_put_tw _ (Nat.add_assoc _ _ _) hf (by omega)) _ _

end

section
variable {p : Fin 8} {res : Fin 5} {n : Fin 257} {data : List Byte}

/-- The bytes read by the running transfer of a port land in its buffer, behind those written. -/
def State.twReceived (s : State) (p : Nat) (data : List Byte) : State :=
  s.twFill p (s.get (F.TW_XFER_BOFF p (s.get (F.TW_STAT_CUR p))) + s.get (F.TW_XFER_WLEN p (s.get (F.TW_STAT_CUR p))))
    (data.take (s.get (F.TW_XFER_RLEN p (s.get (F.TW_STAT_CUR p)))))

theorem exec_twTransferEnd_busy (h : s.get (F.TW_STAT_STATE p) = twBusy) : exec (.twTransferEnd p res n data) s =
    .next ((s.twReceived p data).twEnd p res (if res.val = 0 then
      s.get (F.TW_XFER_WLEN p (s.get (F.TW_STAT_CUR p))) + s.get (F.TW_XFER_RLEN p (s.get (F.TW_STAT_CUR p))) else n)) := if_pos h

theorem exec_twStretchTimeout_busy (h : s.get (F.TW_STAT_STATE p) = twBusy) : exec (.twStretchTimeout p n) s = .next (s.twEnd p trTimeout n) := if_pos h

theorem exec_twEnd_other (h : s.get (F.TW_STAT_STATE p) ≠ twBusy) :
    exec (.twTransferEnd p res n data) s = .next s ∧ exec (.twStretchTimeout p n) s = .next s := ⟨if_neg h, if_neg h⟩

variable (hbusy : s.get (F.TW_STAT_STATE p) = twBusy) (hlast : s.get (F.TW_CTL_LAST p) ≤ s.get (F.TW_STAT_CUR p))
include hbusy hlast

theorem twStretchTimeout_last (hn : n.val < 256) : Completes (.twStretchTimeout p n) s (fun t => t.get (F.TW_STAT_STATE p) = twIdle ∧
    t.get (F.TW_XFER_RES_RESULT p (s.get (F.TW_STAT_CUR p))) = trTimeout ∧ t.get (F.TW_XFER_RES_BYTES p (s.get (F.TW_STAT_CUR p))) = n ∧
      t.get (F.TW_EVT_DONE_SEEN p) = 1) := by
  obtain ⟨hidle, hresult, hdone, hbytes⟩ := State.twEnd_lastShown p.isLt trTimeout n hbusy hlast (by decide) hn
  exact ⟨_, exec_twStretchTimeout_busy hbusy, hidle, hresult, hbytes, hdone⟩

theorem twTransferEnd_last (hn : s.get (F.TW_XFER_WLEN p (s.get (F.TW_STAT_CUR p))) + s.get (F.TW_XFER_RLEN p (s.get (F.TW_STAT_CUR p))) < 256) :
    Completes (.twTransferEnd p 0 n data) s (fun t => t.get (F.TW_STAT_STATE p) = twIdle ∧
      t.get (F.TW_XFER_RES_RESULT p (s.get (F.TW_STAT_CUR p))) = 0 ∧ t.get (F.TW_EVT_DONE_SEEN p) = 1 ∧
        t.get (F.TW_XFER_RES_BYTES p (s.get (F.TW_STAT_CUR p))) =
          s.get (F.TW_XFER_WLEN p (s.get (F.TW_STAT_CUR p))) + s.get (F.TW_XFER_RLEN p (s.get (F.TW_STAT_CUR p)))) := by
  have hkept {f : Fld} {k : Nat} (hf : f.addr = twBase p + k) (hk : k < 0x100) : (s.twReceived p data).get f = s.get f :=
    State.get_twFill s _ _ hf hk
  have hcur : (s.twReceived p data).get (F.TW_STAT_CUR p) = s.get (F.TW_STAT_CUR p) := hkept (k := 8) rfl (by decide)
  have hshown := State.twEnd_lastShown (s := s.twReceived p data) p.isLt 0 _ ((hkept (k := 8) rfl (by decide)).trans hbusy)
    (by rwa [hcur, hkept (k := 4) rfl (by decide)]) (by decide) hn
  rw [hcur] at hshown
  exact ⟨_, exec_twTransferEnd_busy hbusy, hshown⟩

end

/-! ### The lines, trips and supply cycles (R334, R335, R337, R338) -/

section
variable {p : Fin 8} {scl sda : Bool}

theorem exec_twIdleCheck_sampled (h : s.get (F.TW_STAT_STATE p) = twIdle ∨ s.get (F.TW_STAT_STATE p) = twBusy) : exec (.twIdleCheck p scl sda) s =
    .next (if scl && sda then s.twLines p scl sda else (s.twLines p scl sda).twHang p (lineCause sda)) :=
  (if_pos h).trans (apply_ite Host.Outcome.next _ _ _).symm

theorem exec_twIdleCheck_other (hidle : s.get (F.TW_STAT_STATE p) ≠ twIdle) (hbusy : s.get (F.TW_STAT_STATE p) ≠ twBusy) :
    exec (.twIdleCheck p scl sda) s = .next s := if_neg (not_or.mpr ⟨hidle, hbusy⟩)

theorem State.get_state_twLines (s : State) (p : Nat) (scl sda : Bool) : (s.twLines p scl sda).get (F.TW_STAT_STATE p) = s.get (F.TW_STAT_STATE p) := by
  rw [State.twLines, State.putB, State.get_put_apart _ _ _ _ (by dsimp only; omega) (.inl (by dsimp only; omega)), State.putB,
    State.get_put_apart _ _ _ _ (by dsimp only; omega) (.inl (by dsimp only; omega))]

theorem State.get_scl_twLines (s : State) (p : Nat) (sda : Bool) : (s.twLines p true sda).get (F.TW_STAT_SCL p) = 1 := by
  rw [State.twLines, State.putB, State.get_put_apart _ _ _ _ (by dsimp only; omega) (.inl (by dsimp only; omega)), State.putB,
    State.get_put_same _ _ _ (by dsimp only; omega)]
  rfl

theorem State.get_sda_twLines (s : State) (p : Nat) (scl : Bool) : (s.twLines p scl true).get (F.TW_STAT_SDA p) = 1 := by
  rw [State.twLines, State.putB, State.get_put_same _ _ _ (by dsimp only; omega)]
  rfl

theorem exec_twPortStart_due (hstarts : (s.tw p).starting = true) (hdue : (s.tw p).at_ + s.get (F.TW_CFG_STARTUP_MS p) * 1000000 ≤ s.lt) :
    let u := (s.twLines p scl sda).setTw p { s.tw p with starting := false }
    exec (.twPortStart p scl sda) s = .next (if scl && sda then u.put (F.TW_STAT_STATE p) twIdle else u.twHang p (if sda then 1 else 0)) :=
  (if_pos (by simp [hstarts, hdue])).trans (apply_ite Host.Outcome.next _ _ _).symm

/-- A port whose lines are high behind its start is idle. -/
theorem twPortStart_good (hstarts : (s.tw p).starting = true) (hdue : (s.tw p).at_ + s.get (F.TW_CFG_STARTUP_MS p) * 1000000 ≤ s.lt) :
    Completes (.twPortStart p true true) s (fun t => t.get (F.TW_STAT_STATE p) = twIdle ∧ (t.tw p).starting = false) := by
  refine ⟨_, (exec_twPortStart_due hstarts hdue).trans (congrArg _ (if_pos rfl)), ?_, ?_⟩
  · rw [State.get_put_same _ _ _ (by dsimp only; omega)]
    rfl
  · rw [State.tw_put, State.tw_setTw_same]

theorem exec_twPortStart_other (h : (s.tw p).starting = false) : exec (.twPortStart p scl sda) s = .next s := if_neg (by simp [h])

end

section
variable {q : Fin 9} {scl sda auto : Bool} {c : Nat}

theorem exec_twSupplyTrip_port (hq : q.val < 8) : exec (.twSupplyTrip q) s = .next (if (s.tw q).supply then s.twHang q 2 else s) :=
  (if_neg (Nat.ne_of_lt hq)).trans (apply_ite Host.Outcome.next _ _ _).symm

theorem exec_twSupplyTrip_key (hq : q.val = 8) : exec (.twSupplyTrip q) s = .next (if s.key.vcc then s.keyHang 2 [] else s) :=
  (if_pos hq).trans (apply_ite Host.Outcome.next _ _ _).symm

theorem exec_twCycleSupplyOn_due (hq : q.val < 8) (hstate : s.get (F.TW_STAT_STATE q) = twCycling) (hoff : (s.tw q).supplyBack = false)
    (hdue : (s.tw q).at_ + 20000000 ≤ s.lt) :
    exec (.twCycleSupplyOn q) s = .next ((s.setTw q { s.tw q with supply := true, supplyBack := true }).twRail q true) :=
  (if_neg (Nat.ne_of_lt hq)).trans (if_pos (by simp [hstate, hoff, hdue]))

theorem exec_twCycle_early (hq : q.val < 8) (h : s.lt < (s.tw q).at_ + 20000000) :
    exec (.twCycleSupplyOn q) s = .next s ∧ exec (.twCycleSample q scl sda) s = .next s := by
  have hstartup : ¬ (s.tw q).at_ + 20000000 + s.get (F.TW_CFG_STARTUP_MS q) * 1000000 ≤ s.lt := by omega
  exact ⟨(if_neg (Nat.ne_of_lt hq)).trans (if_neg (by simp [h])), (if_neg (Nat.ne_of_lt hq)).trans (if_neg (by simp [hstartup]))⟩

theorem exec_twCycleSupplyOn_key (hq : q.val = 8) (hcycle : s.key.cycle = some (c, auto)) (hdue : c + 20000000 ≤ s.lt) :
    exec (.twCycleSupplyOn q) s = .next (s.keyVcc true) := by
  refine (if_pos hq).trans ?_
  rw [hcycle]
  exact if_pos hdue

theorem exec_twCycleSample_key (hq : q.val = 8) (hcycle : s.key.cycle = some (c, auto)) (hvcc : s.key.vcc = true) (hdue : c + 25000000 ≤ s.lt) :
    exec (.twCycleSample q scl sda) s = .next (s.keySample scl sda) := by
  refine (if_pos hq).trans ?_
  rw [hcycle]
  exact if_pos (by simp [hvcc, hdue])

theorem exec_twCycle_keyNone (hq : q.val = 8) (h : s.key.cycle = none) :
    exec (.twCycleSupplyOn q) s = .next s ∧ exec (.twCycleSample q scl sda) s = .next s := by
  refine ⟨(if_pos hq).trans ?_, (if_pos hq).trans ?_⟩ <;> rw [h]

variable (hq : q.val < 8) (hstate : s.get (F.TW_STAT_STATE q) = twCycling) (hback : (s.tw q).supplyBack = true)
  (hdue : (s.tw q).at_ + 20000000 + s.get (F.TW_CFG_STARTUP_MS q) * 1000000 ≤ s.lt)
include hq hstate hback hdue

theorem exec_twCycleSample_good : exec (.twCycleSample q true true) s =
    .next (((((s.twLines q true true).put (F.TW_STAT_STATE q) twIdle).put (F.TW_EVT_CYCLE_OK_SEEN q) 1).put (F.TW_STAT_AUTO_SPENT q) 0).twLog q 1) :=
  (if_neg (Nat.ne_of_lt hq)).trans (if_pos (by simp [hstate, hback, hdue]))

/-- A failed attempt that is none of the port's own leaves it hung. -/
theorem exec_twCycleSample_low (hlow : (scl && sda) = false) (hauto : (s.tw q).auto = false) : exec (.twCycleSample q scl sda) s =
    .next ((((s.twLines q scl sda).put (F.TW_EVT_CYCLE_FAIL_SEEN q) 1).twLog q 2).put (F.TW_STAT_STATE q) twHung) := by
  refine (if_neg (Nat.ne_of_lt hq)).trans ((if_pos (by simp [hstate, hback, hdue])).trans ((if_neg (ne_true_of_eq_false hlow)).trans ?_))
  rw [hauto]
  rfl

end

/-- Settles O47: each clause is what a command or a step of the two-wire ports does once its condition holds, or that it does nothing. -/
theorem twoWirePorts : Obligations.TwoWirePorts := by
  intro s w p q ctl res n data scl sda auto c
  refine ⟨exec_twCtl_otherCore, exec_twGo_alone, exec_twPowerCycle_alone, fun hvat hgo hcycle => ⟨?_, ?_⟩, twGo_starts, twGo_answers, State.twGo_refused,
    State.twGo_hung, State.twGo_off, State.twPowerCycle_disabled, twPowerCycle_completes,
    fun hbusy => ⟨exec_twTransferEnd_busy hbusy, exec_twStretchTimeout_busy hbusy⟩,
    fun hbusy hlast => ⟨twStretchTimeout_last hbusy hlast, twTransferEnd_last hbusy hlast⟩, exec_twEnd_other,
    fun hwatched => ⟨⟨_, exec_twIdleCheck_sampled hwatched, rfl, s.get_scl_twLines p true, s.get_sda_twLines p true, s.get_state_twLines p true true⟩,
      exec_twIdleCheck_sampled hwatched, exec_twIdleCheck_sampled hwatched⟩, exec_twIdleCheck_other, fun hq hon => ?_, fun hq hoff => ?_, fun hon => ?_,
    fun hoff => ?_, fun hq hstate hoff hdue => ⟨_, exec_twCycleSupplyOn_due hq hstate hoff hdue, rfl, ?_⟩, exec_twCycle_early,
    fun hcycle hdue => ⟨_, exec_twCycleSupplyOn_key rfl hcycle hdue, rfl, ?_⟩, exec_twCycleSample_key rfl, exec_twCycle_keyNone rfl,
    fun hq hstate hback hdue => ⟨exec_twCycleSample_good hq hstate hback hdue, exec_twCycleSample_low hq hstate hback hdue⟩, exec_twPortStart_due,
    twPortStart_good, exec_twPortStart_other⟩
  · rw [exec_twGo_vat hvat, if_pos hcycle]
    rfl
  · rw [exec_twPowerCycle_vat hvat, if_pos hgo]
    rfl
  · rw [exec_twSupplyTrip_port hq, if_pos hon]
  · rw [exec_twSupplyTrip_port hq, if_neg (ne_true_of_eq_false hoff)]
  · rw [exec_twSupplyTrip_key rfl, if_pos hon]
  · rw [exec_twSupplyTrip_key rfl, if_neg (ne_true_of_eq_false hoff)]
  · rw [State.tw_twRail, State.tw_setTw_same]
    exact ⟨rfl, rfl⟩
  · rw [State.key_keyVcc]

end Sys2Proof.Machine
end

section
/-! SUPPORT. Frames, ARP and echo of the host link (chapter 12): the statement O48. -/

namespace Sys2Proof.Machine

variable {s : State}

/-- A command that acts where its condition holds and its time has come, in a state in which the condition holds. -/
theorem next_ite_and {c : Bool} {due : Prop} [Decidable due] {t u : State} (hc : c = true) :
    (if c && decide due then .next t else .next u : Out) = .next (if due then t else u) := by
  simp only [hc, Bool.true_and, decide_eq_true_eq, apply_ite Host.Outcome.next]

/-! ### Frames received (R342, R343) -/

theorem State.hostTalks_iff : s.hostTalks = true ↔ s.hostHears = true ∧ s.isSet F.HOST_STAT_ADDR_OK = true := by simp [State.hostTalks]

section
variable {f : HostFrame} {k : State → State}

theorem State.frameTake_silent (h : s.hostHears = false) : s.frameTake f k = s := if_pos (by simp [h])

theorem State.frameTake_bad (hhears : s.hostHears = true) (hbad : frameSound f = false) : s.frameTake f k = s.jack.badFrame :=
  (if_neg (by simp [hhears])).trans (if_pos (by simp [hbad]))

/-- What becomes of a sound frame turns on the module's address. -/
theorem State.frameTake_sound (hhears : s.hostHears = true) (hsound : frameSound f = true) :
    s.frameTake f k = if s.isSet F.HOST_STAT_ADDR_OK then k s.jack else s.jack :=
  (if_neg (by simp [hhears])).trans (if_neg (by simp [hsound]))

theorem State.frameTake_unaddressed (hhears : s.hostHears = true) (hsound : frameSound f = true) (haddr : s.isSet F.HOST_STAT_ADDR_OK = false) :
    s.frameTake f k = s.jack :=
  (State.frameTake_sound hhears hsound).trans (if_neg (ne_true_of_eq_false haddr))

theorem State.frameTake_good (htalks : s.hostTalks = true) (hsound : frameSound f = true) : s.frameTake f k = k s.jack := by
  obtain ⟨hhears, haddr⟩ := State.hostTalks_iff.mp htalks
  rw [State.frameTake_sound hhears hsound, if_pos haddr]

end

/-! ### The link's speed (R342, R367) -/

theorem exec_linkUp_on {gig : Bool} (hon : s.domIsOn domHost = true) (hlock : s.isSet F.LT_CLK_STAT_PLL_LOCK = true) (hboot : s.booting = false) :
    exec (.linkUp gig) s = .next (s.setSpeed (if gig then 2 else 1)).arpGratuitous := if_pos (by simp [hon, hlock, hboot])

theorem exec_linkUp_off (h : s.domIsOn domHost = false ∨ s.booting = true) (gig : Bool) : exec (.linkUp gig) s = .next s :=
  if_neg (by obtain h | h := h <;> simp [h])

theorem State.setSpeed_other {n : Nat} (h : s.get F.HOST_STAT_SPEED ≠ n) :
    s.setSpeed n = ((s.put F.HOST_STAT_SPEED n).put F.HOST_EVT_LINK_SEEN 1).raise 16 := if_neg h

theorem State.setSpeed_same {n : Nat} (h : s.get F.HOST_STAT_SPEED = n) : s.setSpeed n = s := if_pos h

@[simp] theorem State.setSpeed_host (s : State) (n : Nat) : (s.setSpeed n).host = s.host := by
  by_cases h : s.get F.HOST_STAT_SPEED = n
  · rw [State.setSpeed_same h]
  · rw [State.setSpeed_other h, State.raise_host, State.put_host, State.put_host]

/-! ### ARP packets (R343, R344) -/

section
variable {p : ArpPacket}

theorem exec_arpRx (s : State) (p : ArpPacket) : exec (.arpRx p) s = .next (s.frameTake p.frame (·.arpRx p)) := rfl

theorem State.arpRx_own (hip : p.senderIp = (s.rd R.HOST_IP).toNat) (hmac : p.senderMac = s.ownMac) : s.arpRx p = s :=
  (if_pos hip).trans (if_pos hmac)

/-- Another station's claim of the module's address is a conflict. -/
theorem State.arpRx_claim (hip : p.senderIp = (s.rd R.HOST_IP).toNat) (hmac : p.senderMac ≠ s.ownMac) :
    let u := (((s.put F.HOST_STAT_ADDR_CONFLICT 1).put F.HOST_EVT_CONFLICT_SEEN 1).logWrite kHost 23 0#32 (w32 p.senderIp) 0#32).raise 23
    s.arpRx p = u.setHost { u.host with claimAt := u.lt } :=
  (if_pos hip).trans (if_neg hmac)

/-- A packet for the module fills the cache, and a request among them is answered. -/
theorem State.arpRx_forModule (hip : p.senderIp ≠ (s.rd R.HOST_IP).toNat) (htarget : p.targetIp = (s.rd R.HOST_IP).toNat) :
    let u := s.setHost { s.host with arp := arpTake s.host.arp p.senderIp p.senderMac s.lt }
    s.arpRx p = if p.request then u.hostEmit (.arp 1 p.senderIp p.senderMac) else u := by
  have hown : (p.targetIp == (s.rd R.HOST_IP).toNat) = true := beq_iff_eq.mpr htarget
  refine (if_neg hip).trans ?_
  simp only [hown, Bool.true_or, Bool.and_true, if_pos]

end

/-! ### Defence of the address and the cache's times (R343, R344) -/

theorem State.arpGratuitous_talks (h : s.hostTalks = true) : s.arpGratuitous = s.hostEmit (.arp 2 (s.rd R.HOST_IP).toNat 0) := if_pos h

section
variable {a : Nat} (hconflict : s.isSet F.HOST_STAT_ADDR_CONFLICT = true)
include hconflict

theorem exec_arpDefend_first (htalks : s.hostTalks = true) (hfirst : s.host.defendAt = none) :
    exec .arpDefend s = .next (s.setHost { s.host with defendAt := some s.lt }).arpGratuitous := if_pos (by simp [hconflict, htalks, hfirst])

/-- A conflict's first defence leaves at once. -/
theorem arpDefend_first (htalks : s.hostTalks = true) (hfirst : s.host.defendAt = none) : Completes .arpDefend s (fun t =>
    t.host.defendAt = some s.lt ∧ t.out = s.out ++ [.arp 2 (s.rd R.HOST_IP).toNat 0]) :=
  ⟨_, (exec_arpDefend_first hconflict htalks hfirst).trans (congrArg _ (State.arpGratuitous_talks htalks)), rfl, rfl⟩

theorem exec_arpDefend_again (htalks : s.hostTalks = true) (hlast : s.host.defendAt = some a) : exec .arpDefend s =
    .next (if a + 10000000000 ≤ s.lt then (s.setHost { s.host with defendAt := some s.lt }).arpGratuitous else s) := by
  change execArpDefend s = _
  rw [execArpDefend, hlast]
  exact next_ite_and (by simp [hconflict, htalks])

theorem exec_addrConflictClear_conflict : exec .addrConflictClear s =
    .next (if s.host.claimAt + 60000000000 ≤ s.lt then s.put F.HOST_STAT_ADDR_CONFLICT 0 else s) := next_ite_and hconflict

end

theorem exec_arpDefend_unclaimed (h : s.isSet F.HOST_STAT_ADDR_CONFLICT = false) : exec .arpDefend s = .next s ∧ exec .addrConflictClear s = .next s :=
  ⟨if_neg (by simp [h]), if_neg (by simp [h])⟩

section
variable {i : Fin 8} {e : ArpEnt}

theorem exec_arpCacheTimeout_none (h : s.host.arp[i.val]? = none) : exec (.arpCacheTimeout i) s = .next s := by
  change execArpCacheTimeout i s = _
  rw [execArpCacheTimeout, h]

variable (hent : s.host.arp[i.val]? = some e)
include hent

theorem exec_arpCacheTimeout_some : exec (.arpCacheTimeout i) s =
    if e.used + 60000000000 ≤ s.lt then .next (s.setHost { s.host with arp := s.host.arp.erase e })
    else if s.hostTalks && decide (e.fresh + 20000000000 ≤ s.lt) then
      .next ((s.setHost { s.host with arp := s.host.arp.set i.val { e with fresh := s.lt } }).hostEmit (.arp 0 e.ip 0))
    else .next s := by
  change execArpCacheTimeout i s = _
  rw [execArpCacheTimeout, hent]

theorem exec_arpCacheTimeout_unused (hdue : e.used + 60000000000 ≤ s.lt) :
    exec (.arpCacheTimeout i) s = .next (s.setHost { s.host with arp := s.host.arp.erase e }) :=
  (exec_arpCacheTimeout_some hent).trans (if_pos hdue)

theorem exec_arpCacheTimeout_refresh (hused : s.lt < e.used + 60000000000) (htalks : s.hostTalks = true) (hdue : e.fresh + 20000000000 ≤ s.lt) :
    exec (.arpCacheTimeout i) s =
      .next ((s.setHost { s.host with arp := s.host.arp.set i.val { e with fresh := s.lt } }).hostEmit (.arp 0 e.ip 0)) :=
  (exec_arpCacheTimeout_some hent).trans ((if_neg (Nat.not_le_of_lt hused)).trans (if_pos (by simp [htalks, hdue])))

end

/-! ### Echo (R343) -/

section
variable {h : HostFrame} {x : IpPacket}

/-- What becomes of an IPv4 packet in a frame that the port takes. -/
def State.echoTake (s : State) (h : HostFrame) (x : IpPacket) : State :=
  if packetSound h && x.kind == .echoRequest && decide (x.data.length ≤ 1472) then s.echoAnswer x.ip x.idSeq x.data else s.badDgram

theorem exec_echoRequest (s : State) (h : HostFrame) (x : IpPacket) : exec (.echoRequest h x) s = .next (s.frameTake h (·.echoTake h x)) := rfl

theorem State.echoTake_bad (hbad : packetSound h = false ∨ x.kind ≠ .echoRequest ∨ 1472 < x.data.length) : s.echoTake h x = s.badDgram := by
  refine if_neg ?_
  obtain hbad | hbad | hbad := hbad
  · simp [hbad]
  · simp [hbad]
  · simp [hbad]

theorem State.echoTake_good (hsound : packetSound h = true) (hkind : x.kind = .echoRequest) (hlen : x.data.length ≤ 1472) :
    s.echoTake h x = s.echoAnswer x.ip x.idSeq x.data := if_pos (by simp [hsound, hkind, hlen])

end

/-- Settles O48: each clause is what a frame or a command of the link does once its condition holds, or that it does nothing. -/
theorem ethernetAndArp : Obligations.EthernetAndArp := by
  intro s h x p i a e
  refine ⟨fun hon hlock hboot => ⟨exec_linkUp_on hon hlock hboot, exec_linkUp_on hon hlock hboot⟩, exec_linkUp_off, rfl, s.setSpeed_host a,
    State.setSpeed_other, State.setSpeed_same, fun hsilent => ⟨?_, ?_⟩, fun hhears hbad => ?_, fun hhears hbad => ?_, fun hhears hsound haddr => ?_,
    fun hhears hsound haddr => ?_, fun htalks hsound hip hmac => ?_, fun htalks hsound hip hmac => ?_, fun htalks hsound hip htarget => ?_,
    arpDefend_first, exec_arpDefend_again, exec_arpDefend_unclaimed, exec_addrConflictClear_conflict, exec_arpCacheTimeout_none,
    exec_arpCacheTimeout_unused, exec_arpCacheTimeout_refresh, fun htalks hsound hbad => ?_, fun htalks hsound hpacket hkind hlen => ?_⟩
  · rw [exec_arpRx, State.frameTake_silent hsilent]
  · rw [exec_echoRequest, State.frameTake_silent hsilent]
  · rw [exec_arpRx, State.frameTake_bad hhears hbad]
  · rw [exec_echoRequest, State.frameTake_bad hhears hbad]
  · rw [exec_arpRx, State.frameTake_unaddressed hhears hsound haddr]
  · rw [exec_echoRequest, State.frameTake_unaddressed hhears hsound haddr]
  · rw [exec_arpRx, State.frameTake_good htalks hsound, State.arpRx_own (s := s.jack) hip hmac]
  · rw [exec_arpRx, State.frameTake_good htalks hsound, State.arpRx_claim (s := s.jack) hip hmac]
  · rw [exec_arpRx, State.frameTake_good htalks hsound, State.arpRx_forModule (s := s.jack) hip htarget]
    rfl
  · rw [exec_echoRequest, State.frameTake_good htalks hsound, State.echoTake_bad hbad]
  · rw [exec_echoRequest, State.frameTake_good htalks hsound, State.echoTake_good hpacket hkind hlen]
    rfl

end Sys2Proof.Machine
end

section
/-! SUPPORT. Datagrams, sessions and requests of the host link (chapter 12): the statement O49. -/

namespace Sys2Proof.Machine

variable {s : State} {dg : Dgram}

/-! ### Datagrams received (R343, R345) -/

section
variable {k : State → State}

theorem State.dgramTake_silent (h : s.hostHears = false) : s.dgramTake dg k = s := by rw [State.dgramTake, State.frameTake_silent h]

theorem State.dgramTake_badFrame (hhears : s.hostHears = true) (hbad : frameSound dg.frame = false) : s.dgramTake dg k = s.jack.badFrame := by
  rw [State.dgramTake, State.frameTake_bad hhears hbad]

/-- A datagram that the port takes is for the record transport, or is dropped and counted. -/
theorem State.dgramTake_sound (htalks : s.hostTalks = true) (hframe : frameSound dg.frame = true) : s.dgramTake dg k =
    if packetSound dg.frame && dg.toPort == 40128 && dg.sum && dg.good then k s.jack else s.jack.badDgram := State.frameTake_good htalks hframe

theorem State.dgramTake_bad (htalks : s.hostTalks = true) (hframe : frameSound dg.frame = true)
    (hbad : packetSound dg.frame = false ∨ dg.toPort ≠ 40128 ∨ dg.sum = false ∨ dg.good = false) : s.dgramTake dg k = s.jack.badDgram := by
  refine (State.dgramTake_sound htalks hframe).trans (if_neg ?_)
  simp only [Bool.and_eq_true, beq_iff_eq]
  rintro ⟨⟨⟨hpacket, hport⟩, hsum⟩, hgood⟩
  simp [hpacket, hport, hsum, hgood] at hbad

theorem State.dgramTake_good (h : s.takes dg) : s.dgramTake dg k = k s.jack := by
  obtain ⟨htalks, hframe, hpacket, hport, hsum, hgood⟩ := h
  exact (State.dgramTake_sound htalks hframe).trans (if_pos (by simp [hpacket, hport, hsum, hgood]))

/-- A datagram taken is the session's, or is dropped and counted. -/
theorem State.sessionTake_taken (h : s.takes dg) : s.sessionTake dg k = if s.ofSession dg then k s.jack else s.jack.badDgram := State.dgramTake_good h

theorem State.sessionTake_silent (h : s.hostHears = false) : s.sessionTake dg k = s := by rw [State.sessionTake, State.dgramTake_silent h]

theorem State.sessionTake_badFrame (hhears : s.hostHears = true) (hbad : frameSound dg.frame = false) : s.sessionTake dg k = s.jack.badFrame := by
  rw [State.sessionTake, State.dgramTake_badFrame hhears hbad]

theorem State.sessionTake_bad (htalks : s.hostTalks = true) (hframe : frameSound dg.frame = true)
    (hbad : packetSound dg.frame = false ∨ dg.toPort ≠ 40128 ∨ dg.sum = false ∨ dg.good = false) : s.sessionTake dg k = s.jack.badDgram := by
  rw [State.sessionTake, State.dgramTake_bad htalks hframe hbad]

theorem State.sessionTake_other (h : s.takes dg) (hother : s.ofSession dg = false) : s.sessionTake dg k = s.jack.badDgram :=
  (State.sessionTake_taken h).trans (if_neg (ne_true_of_eq_false hother))

theorem State.sessionTake_own (h : s.takes dg) (hown : s.ofSession dg = true) : s.sessionTake dg k = k s.jack :=
  (State.sessionTake_taken h).trans (if_pos hown)

end

/-! ### OPEN (R347 to R349) -/

section
variable {window : Nat} {raw : Bool} {prev : Word}

theorem exec_openSession (s : State) (dg : Dgram) (window : Nat) (raw : Bool) (prev : Word) :
    exec (.openSession dg window raw prev) s = .next (s.dgramTake dg (·.openTake dg window raw prev)) := rfl

theorem exec_closeSession (s : State) (dg : Dgram) :
    exec (.closeSession dg) s = .next (s.sessionTake dg (fun s => (s.heard dg).setSession ssNone)) := rfl

/-- The session is OPEN with the window and the wish for RAW that its host has named. -/
def State.opened (s : State) (dg : Dgram) (window : Nat) (raw : Bool) : State :=
  let u := (s.put F.HOST_PEER_WINDOW (min window 64)).heard dg
  (u.setHost { u.host with rawWanted := raw }).setSession ssOpen

theorem State.openTake_busy (hopen : s.get F.HOST_STAT_SESSION = ssOpen) (hpeer : s.isPeer dg = false) :
    s.openTake dg window raw prev = s.replyOpen dg 2 := if_pos (by simp [hopen, hpeer])

theorem State.openTake_resumes (hsession : s.get F.HOST_STAT_SESSION ≠ ssNone) (hpeer : s.isPeer dg = true) (hprev : prev = s.rd R.HOST_SESSION) :
    s.openTake dg window raw prev = ((s.opened dg window raw).replyOpen dg 1).sessionResume false := by
  have hresumed : (s.get F.HOST_STAT_SESSION != ssNone && s.isPeer dg && prev == s.rd R.HOST_SESSION) = true := by simp [hsession, hpeer, hprev]
  refine (if_neg (by simp [hpeer])).trans ?_
  rw [hresumed]
  rfl

/-- An OPEN that does not resume a session begins one, after the CLOSE to another host of an idle one. -/
theorem State.openTake_begins (hfree : s.get F.HOST_STAT_SESSION ≠ ssOpen ∨ s.isPeer dg = true)
    (hnew : (s.get F.HOST_STAT_SESSION != ssNone && s.isPeer dg && prev == s.rd R.HOST_SESSION) = false) :
    let u := if s.get F.HOST_STAT_SESSION == ssIdle && !s.isPeer dg then s.sendClose 1 else s
    let o := (u.newSession dg).opened dg window raw
    let v := if s.get F.HOST_STAT_SESSION = ssOpen then o.wakeEnd else o
    s.openTake dg window raw prev = (v.replyOpen dg 0).sessionResume true := by
  refine (if_neg ?_).trans ?_
  · obtain hfree | hfree := hfree <;> simp [hfree]
  · simp only [hnew, Bool.not_false, Bool.true_and, beq_iff_eq]
    rfl

theorem State.openTake_new (h : s.get F.HOST_STAT_SESSION = ssNone ∨ (s.isPeer dg = true ∧ prev ≠ s.rd R.HOST_SESSION)) :
    let o := (s.newSession dg).opened dg window raw
    let v := if s.get F.HOST_STAT_SESSION = ssOpen then o.wakeEnd else o
    s.openTake dg window raw prev = (v.replyOpen dg 0).sessionResume true := by
  have hfree : s.get F.HOST_STAT_SESSION ≠ ssOpen ∨ s.isPeer dg = true := h.imp (fun hnone => by simp [hnone]) And.left
  have hnew : (s.get F.HOST_STAT_SESSION != ssNone && s.isPeer dg && prev == s.rd R.HOST_SESSION) = false := by
    obtain hnone | ⟨hpeer, hprev⟩ := h
    · simp [hnone]
    · simp [hprev]
  have hstays : ¬(s.get F.HOST_STAT_SESSION == ssIdle && !s.isPeer dg) = true := by
    obtain hnone | ⟨hpeer, hprev⟩ := h
    · simp [hnone]
    · simp [hpeer]
  refine (State.openTake_begins hfree hnew).trans ?_
  rw [if_neg hstays]

theorem State.openTake_replaces (hidle : s.get F.HOST_STAT_SESSION = ssIdle) (hpeer : s.isPeer dg = false) : s.openTake dg window raw prev =
    ((((s.sendClose 1).newSession dg).opened dg window raw).replyOpen dg 0).sessionResume true := by
  have hcloses : (s.get F.HOST_STAT_SESSION == ssIdle && !s.isPeer dg) = true := by simp [hidle, hpeer]
  have hidle' : s.get F.HOST_STAT_SESSION ≠ ssOpen := by simp [hidle]
  refine (State.openTake_begins (.inl hidle') (by simp [hpeer])).trans ?_
  rw [if_pos hcloses, if_neg hidle']

end

/-! ### A session's end (R347, R366) -/

theorem exec_sessionIdle_open (h : s.get F.HOST_STAT_SESSION = ssOpen) : exec .sessionIdle s =
    .next (if s.host.lastRx + s.get F.HOST_CFG_SESSION_S * 1000000000 ≤ s.lt then s.setSession ssIdle else s) :=
  next_ite_and (decide_eq_true h)

theorem exec_sessionIdle_other (h : s.get F.HOST_STAT_SESSION ≠ ssOpen) : exec .sessionIdle s = .next s := if_neg (by simp [h])

theorem exec_hostCmdClose_vat {w : Fin 9} (h : w.val = 8) : exec (.hostCmdClose w) s = .next (s.moduleClose 3) := congrArg _ (if_pos h)

theorem exec_hostCmdClose_otherCore {w : Fin 9} (h : w.val ≠ 8) : exec (.hostCmdClose w) s = .next s := congrArg _ (if_neg h)

/-! ### Requests (R360, R361) -/

section
variable {f : State → State}

/-- What becomes of a request of the session's host. -/
def State.requestTake (s : State) (dg : Dgram) (f : State → State) : State :=
  let u := s.heard dg
  let recent := s.host.reqAt.filter (fun x => decide (s.lt < x + 1000000000))
  if s.mode = mPowerUp ∨ s.mode = mFactory then u
  else if recent.length < 50 then f ((u.incSat F.HOST_CNT1_REQUESTS).setHost { u.host with reqAt := recent ++ [s.lt] }) else u.badDgram

theorem State.request_eq (s : State) (dg : Dgram) (f : State → State) : s.request dg f = s.sessionTake dg (·.requestTake dg f) := rfl

theorem State.request_ignored (h : s.takes dg) (hown : s.ofSession dg = true) (hmode : s.mode = mPowerUp ∨ s.mode = mFactory) :
    s.request dg f = s.jack.heard dg := by
  rw [State.request_eq, State.sessionTake_own h hown]
  exact if_pos hmode

/-- A second's first 50 requests are done and answered. -/
theorem State.request_taken (h : s.takes dg) (hown : s.ofSession dg = true) (hpower : s.mode ≠ mPowerUp) (hfactory : s.mode ≠ mFactory) :
    let u := s.jack.heard dg
    let recent := s.host.reqAt.filter (fun x => decide (s.lt < x + 1000000000))
    s.request dg f = if recent.length < 50 then f ((u.incSat F.HOST_CNT1_REQUESTS).setHost { u.host with reqAt := recent ++ [s.lt] }) else u.badDgram := by
  rw [State.request_eq, State.sessionTake_own h hown]
  exact if_neg (not_or.mpr ⟨hpower, hfactory⟩)

end

/-! ### LOG_READ (R283, R360) -/

section
variable {u : State} {req a0 a1 : Word} {resv : Bool}

/-- The entries read for a LOG_READ. -/
def State.logTouched (u : State) (first : Word) (n : Nat) : State := (List.range n).foldl (fun x i => x.logTouch (first.toNat + i)) u

/-- The answer to a LOG_READ: `n` entries from `first` on. -/
def State.logReply (u : State) (req first : Word) (n : Nat) : State :=
  let z := u.logTouched first n
  z.reply req 1 rqOk (leBytes 4 (z.rd R.LOG_OLDEST).toNat ++ leBytes 4 first.toNat ++ leBytes 2 n ++ leBytes 2 0
    ++ (List.range n).flatMap (fun i => z.logBytes (first.toNat + i)))

/-- A LOG_READ done. -/
def State.logReadDo (u : State) (req a0 a1 : Word) (resv : Bool) : State :=
  if resv || a1 == 0#32 || decide (a1.toNat > 40) then u.reply req 1 rqBad []
  else
    match u.logFirst a0 with
    | none => u.reply req 1 rqNoData []
    | some first => u.logReply req first (min a1.toNat (u.rd R.LOG_NEXT - first).toNat)

theorem exec_logRead (s : State) (dg : Dgram) (req a0 a1 : Word) (resv : Bool) :
    exec (.logRead dg req a0 a1 resv) s = .next (s.request dg (·.logReadDo req a0 a1 resv)) := rfl

theorem State.logReadDo_bad (h : resv = true ∨ a1 = 0#32 ∨ 40 < a1.toNat) : u.logReadDo req a0 a1 resv = u.reply req 1 rqBad [] := by
  refine if_pos ?_
  obtain h | h | h := h <;> simp [h]

/-- Entries read where no memory line holds an error leave everything as it was. -/
theorem State.logTouched_clean (hclean : ∀ x ∈ u.lines, x.2.single = 0 ∧ x.2.double = 0) (first : Word) (n : Nat) : u.logTouched first n = u := by
  have hone (i : Nat) : u.logTouch i = u := by
    unfold State.logTouch
    rw [State.ramTouch_clean hclean, ite_self]
  unfold State.logTouched
  induction List.range n with
  | nil => rfl
  | cons i t ih => rw [List.foldl_cons, hone, ih]

variable (hresv : resv = false) (hsome : a1 ≠ 0#32) (hmost : a1.toNat ≤ 40)
include hresv hsome hmost

theorem State.logReadDo_noData (hfirst : u.logFirst a0 = none) : u.logReadDo req a0 a1 resv = u.reply req 1 rqNoData [] := by
  refine (if_neg (by simp [hresv, hsome, hmost])).trans ?_
  rw [hfirst]

theorem State.logReadDo_data {first : Word} (hfirst : u.logFirst a0 = some first) :
    u.logReadDo req a0 a1 resv = u.logReply req first (min a1.toNat (u.rd R.LOG_NEXT - first).toNat) := by
  refine (if_neg (by simp [hresv, hsome, hmost])).trans ?_
  rw [hfirst]

end

/-! ### HEALTH (R360) -/

section
variable {u : State} {req : Word} {form : ReqForm} {r : Rec}

/-- The answer to a HEALTH request: the last HEALTH record, where there is one and it fits. -/
def State.healthReply (u : State) (req : Word) : State :=
  match u.host.health with
  | none => u.reply req 2 rqNoData []
  | some r => if r.length > 1448 then u.reply req 2 rqTooLong [] else u.reply req 2 rqOk r.bytes

/-- A HEALTH request done, or one with a CODE that is not listed. -/
def State.healthDo (u : State) (req : Word) (form : ReqForm) : State :=
  if form.code ≠ 2#8 then u.reply req form.code.toNat rqBad []
  else if form.resv then u.reply req 2 rqBad []
  else u.healthReply req

theorem exec_health (s : State) (dg : Dgram) (req : Word) (form : ReqForm) :
    exec (.health dg req form) s = .next (s.request dg (·.healthDo req form)) := rfl

theorem State.healthDo_unlisted (h : form.code ≠ 2#8) : u.healthDo req form = u.reply req form.code.toNat rqBad [] := if_pos h

variable (hcode : form.code = 2#8)
include hcode

theorem State.healthDo_reserved (h : form.resv = true) : u.healthDo req form = u.reply req 2 rqBad [] :=
  (if_neg (not_not_intro hcode)).trans (if_pos h)

variable (hresv : form.resv = false)
include hresv

theorem State.healthDo_good : u.healthDo req form = u.healthReply req :=
  (if_neg (not_not_intro hcode)).trans (if_neg (ne_true_of_eq_false hresv))

theorem State.healthDo_noData (h : u.host.health = none) : u.healthDo req form = u.reply req 2 rqNoData [] := by
  rw [State.healthDo_good hcode hresv, State.healthReply, h]

variable (hhealth : u.host.health = some r)
include hhealth

theorem State.healthDo_data (hlen : r.length ≤ 1448) : u.healthDo req form = u.reply req 2 rqOk r.bytes := by
  rw [State.healthDo_good hcode hresv, State.healthReply, hhealth]
  exact if_neg (Nat.not_lt_of_le hlen)

theorem State.healthDo_tooLong (hlen : 1448 < r.length) : u.healthDo req form = u.reply req 2 rqTooLong [] := by
  rw [State.healthDo_good hcode hresv, State.healthReply, hhealth]
  exact if_pos hlen

end

/-! ### RELOAD and CHANGEOVER (R360, R361) -/

section
variable {u : State} {req : Word}

/-- The entry and the event of a host's RELOAD or CHANGEOVER. -/
def State.hostKeyNoted (u : State) (code : Nat) : State :=
  ((u.logWrite kHost 18 (w32 (code - 2)) (u.rd R.HOST_PEER_IP) 0#32).put F.HOST_EVT_REQUEST_SEEN 1).raise 18

variable {co : Bool}

/-- A repeated request gets its stored REPLY. -/
theorem State.hostKey_again {x : Word × Nat × Nat} {n : Nat} (hn : n = if co then 4 else 3)
    (h : (u.hostKeyNoted n).host.answers.find? (fun y => y.1 == req && y.2.1 == n) = some x) (resv : Bool) :
    u.hostKey req resv co = (u.hostKeyNoted n).reply req n x.2.2 [] := by
  subst hn
  unfold State.hostKeyNoted at h
  rw [State.hostKey, h]
  rfl

theorem State.hostKey_first {n : Nat} (hn : n = if co then 4 else 3)
    (h : (u.hostKeyNoted n).host.answers.find? (fun y => y.1 == req && y.2.1 == n) = none) (resv : Bool) :
    let x := if resv then (rqBad, u.hostKeyNoted n) else (u.hostKeyNoted n).hostKeyDo co
    u.hostKey req resv co = x.2.reply req n x.1 [] := by
  subst hn
  unfold State.hostKeyNoted at h
  rw [State.hostKey, h]
  rfl

end

/-- Settles O49: each clause is what a datagram, a command or a request does once its condition holds, or that it does nothing. -/
theorem sessionsAndRequests : Obligations.SessionsAndRequests := by
  intro s dg w window raw resv prev req a0 a1 form f
  refine ⟨fun hsilent => ⟨?_, ?_, State.sessionTake_silent hsilent⟩, fun hhears hbad => ⟨?_, ?_, State.sessionTake_badFrame hhears hbad⟩,
    fun htalks hframe hbad => ⟨?_, ?_, State.sessionTake_bad htalks hframe hbad⟩, fun htakes hother => ⟨?_, State.sessionTake_other htakes hother⟩,
    fun htakes hopen hpeer => ?_, fun htakes hsession hpeer hprev => ?_, fun htakes hnew => ?_, fun htakes hidle hpeer => ?_, fun htakes hown => ?_,
    exec_sessionIdle_open, exec_sessionIdle_other, exec_hostCmdClose_vat, exec_hostCmdClose_otherCore, State.request_ignored, State.request_taken,
    ⟨_, exec_logRead s dg req a0 a1 resv, fun u => ⟨State.logReadDo_bad, State.logReadDo_noData,
      fun first hresv hsome hmost hfirst => ⟨State.logReadDo_data hresv hsome hmost hfirst, fun hclean => State.logTouched_clean hclean first _⟩⟩⟩,
    ⟨_, exec_health s dg req form, fun u r => ⟨State.healthDo_unlisted, State.healthDo_reserved, State.healthDo_noData, State.healthDo_data,
      State.healthDo_tooLong⟩⟩,
    rfl, rfl, fun u x co => ⟨fun h => State.hostKey_again rfl h resv, fun h => ⟨State.hostKey_first rfl h true, State.hostKey_first rfl h false⟩⟩⟩
  · rw [exec_openSession, State.dgramTake_silent hsilent]
  · rw [exec_closeSession, State.sessionTake_silent hsilent]
  · rw [exec_openSession, State.dgramTake_badFrame hhears hbad]
  · rw [exec_closeSession, State.sessionTake_badFrame hhears hbad]
  · rw [exec_openSession, State.dgramTake_bad htalks hframe hbad]
  · rw [exec_closeSession, State.sessionTake_bad htalks hframe hbad]
  · rw [exec_closeSession, State.sessionTake_other htakes hother]
  · rw [exec_openSession, State.dgramTake_good htakes, State.openTake_busy (s := s.jack) hopen hpeer]
    rfl
  · rw [exec_openSession, State.dgramTake_good htakes, State.openTake_resumes (s := s.jack) hsession hpeer hprev]
    rfl
  · rw [exec_openSession, State.dgramTake_good htakes, State.openTake_new (s := s.jack) hnew]
    rfl
  · rw [exec_openSession, State.dgramTake_good htakes, State.openTake_replaces (s := s.jack) hidle hpeer]
    rfl
  · rw [exec_closeSession, State.sessionTake_own htakes hown]

end Sys2Proof.Machine
end

section
/-! SUPPORT. Batches, acknowledgements, heartbeats and waking the host (chapter 12): the statement O50. -/

namespace Sys2Proof.Machine

variable {s : State}

/-! ### Batches close (R353) -/

section
variable {raw : Bool}

theorem exec_batchClose_some (h : s.host.open_ raw ≠ []) : exec (.batchClose raw) s =
    .next (if s.host.openAt raw + s.get F.HOST_BATCH_BATCH_TIME * 100000 ≤ s.lt then s.batchClose raw else s) :=
  next_ite_and (by simp [h])

theorem exec_batchClose_none (h : s.host.open_ raw = []) : exec (.batchClose raw) s = .next s := if_neg (by simp [h])

end

/-! ### Acknowledgements (R356) -/

section
variable {dg : Dgram} {cum : Word} {window : Nat} {l : List AckEntry}

theorem exec_hostAck (s : State) (dg : Dgram) (cum : Word) (window : Nat) (l : List AckEntry) :
    exec (.hostAck dg cum window l) s = .next (s.sessionTake dg (·.hostAckTake dg cum window l)) := rfl

theorem exec_hostAck_silent (h : s.hostHears = false) : exec (.hostAck dg cum window l) s = .next s := by
  rw [exec_hostAck, State.sessionTake_silent h]

theorem State.hostAckTake_bad (h : 16 < l.length ∨ seqLater cum (s.rd R.HOST_NEXT_BSEQ) = true) : s.hostAckTake dg cum window l = s.badDgram :=
  if_pos (by obtain h | h := h <;> simp [h])

@[simp] theorem State.setFill_host (s : State) (raw : Bool) (n : Nat) : (s.setFill raw n).host = s.host := by cases raw <;> rfl

/-- The batches that an ACK leaves; the bytes of the others are free. -/
def State.acked (s : State) (cum : Word) (l : List AckEntry) : State :=
  (s.host.batches.filter (fun b => (ackBatch cum l b).isNone)).foldl (fun (s : State) b => s.setFill b.raw (s.fill b.raw - recsBytes b.recs))
    (s.setHost { s.host with batches := s.host.batches.filterMap (ackBatch cum l) })

theorem State.acked_host (s : State) (cum : Word) (l : List AckEntry) :
    (s.acked cum l).host = { s.host with batches := s.host.batches.filterMap (ackBatch cum l) } :=
  foldl_keeps State.host _ (fun (u : State) (b : Batch) => u.setFill_host b.raw _) _ _

theorem State.hostAckTake_good (hlen : l.length ≤ 16) (hnext : seqLater cum (s.rd R.HOST_NEXT_BSEQ) = false)
    (hcum : seqLater (s.rd R.HOST_CUM_BSEQ) cum = false) : s.hostAckTake dg cum window l =
      ((((s.heard dg).put F.HOST_PEER_WINDOW (min window 64)).acked cum l).showCum).showOutstanding := by
  have hkept : ((s.heard dg).put F.HOST_PEER_WINDOW (min window 64)).rd R.HOST_CUM_BSEQ = s.rd R.HOST_CUM_BSEQ := State.rd_put_other _ _ _ (by decide)
  refine (if_neg (by simp [hnext, hlen])).trans (if_neg ?_)
  rw [hkept]
  exact ne_true_of_eq_false hcum

theorem exec_hostAck_bad (h : s.takes dg) (hbad : s.ofSession dg = false ∨ 16 < l.length ∨ seqLater cum (s.rd R.HOST_NEXT_BSEQ) = true) :
    exec (.hostAck dg cum window l) s = .next s.jack.badDgram := by
  rw [exec_hostAck, State.sessionTake_taken h]
  obtain hother | hbad := hbad
  · rw [if_neg (ne_true_of_eq_false hother)]
  · rw [State.hostAckTake_bad (s := s.jack) hbad, ite_self]

/-- An ACK of the session's host takes away the batches it acknowledges. -/
theorem hostAck_good (h : s.takes dg) (hown : s.ofSession dg = true) (hlen : l.length ≤ 16) (hnext : seqLater cum (s.rd R.HOST_NEXT_BSEQ) = false)
    (hcum : seqLater (s.rd R.HOST_CUM_BSEQ) cum = false) : Completes (.hostAck dg cum window l) s (fun t =>
      t.host.batches = s.host.batches.filterMap (ackBatch cum l) ∧ t.host.lastRx = s.lt) := by
  have htaken : s.jack.hostAckTake dg cum window l =
      ((((s.jack.heard dg).put F.HOST_PEER_WINDOW (min window 64)).acked cum l).showCum).showOutstanding := State.hostAckTake_good hlen hnext hcum
  refine ⟨_, (exec_hostAck s dg cum window l).trans (congrArg _ ((State.sessionTake_own h hown).trans htaken)), ?_⟩
  beta_reduce
  rw [State.showOutstanding, State.put_host, State.showCum, State.wr_host, State.acked_host]
  exact ⟨rfl, rfl⟩

end

/-! ### Slices leave and are sent again (R354, R355, R357) -/

theorem State.recordsGo_iff : s.recordsGo = true ↔ s.hostTalks = true ∧ s.mode ≠ mPowerUp ∧ s.mode ≠ mFactory := by
  simp [State.recordsGo, and_assoc]

theorem exec_sends_idle (h : (s.recordsGo && s.get F.HOST_STAT_SESSION == ssOpen) = false) : exec .dataSend s = .next s ∧ exec .retransmit s = .next s :=
  ⟨if_neg (ne_true_of_eq_false h), if_neg (ne_true_of_eq_false h)⟩

section
variable {b : Batch} (hgo : s.recordsGo = true) (hopen : s.get F.HOST_STAT_SESSION = ssOpen)
include hgo hopen

theorem exec_dataSend_none (h : s.nextBatch = none) : exec .dataSend s = .next s := by
  refine (if_pos (by simp [hgo, hopen])).trans ?_
  rw [h]

theorem exec_dataSend_some (h : s.nextBatch = some b) :
    let u := s.toPeer mtData (s.rd R.HOST_SESSION) (b.data b.next)
    let more := decide (b.next + 1 < b.slices)
    let b' : Batch := { b with out := true, next := b.next + 1, left := b.leftWith u.lt, resent := b.resent && more, first := b.first && more }
    exec .dataSend s = .next (u.setHost { u.host with batches := u.host.batches.map (fun x => if x.bseq = b.bseq then b' else x) }).showOutstanding := by
  refine (if_pos (by simp [hgo, hopen])).trans ?_
  rw [h]

theorem exec_retransmit_due (h : s.host.batches.find? s.rtoDue = some b) : exec .retransmit s = .next (s.batchAgain b) := by
  refine (if_pos (by simp [hgo, hopen])).trans ?_
  rw [h]

end

theorem exec_retransmit_early (h : ∀ x ∈ s.host.batches, s.rtoDue x = false) : exec .retransmit s = .next s := by
  have hnone : s.host.batches.find? s.rtoDue = none := List.find?_eq_none.mpr fun x hx => ne_true_of_eq_false (h x hx)
  change execRetransmit s = _
  rw [execRetransmit, hnone]
  exact ite_self _

/-! ### Parked VERDICTs (R359) -/

theorem exec_parkExpiry_none (h : s.host.parks = []) : exec .parkExpiry s = .next s := by
  change execParkExpiry s = _
  rw [execParkExpiry, HostSt.verdicts, h]
  rfl

theorem exec_parkExpiry_one {p : Parked} (h : s.host.parks = [p]) (hverdict : p.record.ty = tyVerdict) : exec .parkExpiry s =
    .next (if p.since + s.get F.HOST_CFG_PARK_MS * 1000000 ≤ s.lt then s.parkExpire p else s) := by
  have hone : s.host.verdicts = [p] := by rw [HostSt.verdicts, h, List.filter_singleton, beq_iff_eq.mpr hverdict, cond_true]
  change execParkExpiry s = _
  rw [execParkExpiry, hone]
  by_cases hdue : p.since + s.get F.HOST_CFG_PARK_MS * 1000000 ≤ s.lt
  · rw [List.find?_cons_of_pos (by simp [hdue]), if_pos hdue]
  · rw [List.find?_cons_of_neg (by simp [Nat.lt_of_not_le hdue]), if_neg hdue, List.find?_nil]

/-! ### Heartbeats (R350) -/

section
variable (htalks : s.hostTalks = true) (hdue : s.lt % 100000000 = 0)
include htalks hdue

theorem exec_heartbeat_session (h : s.get F.HOST_STAT_SESSION ≠ ssNone) :
    exec .heartbeat s = .next (s.toPeer mtHeartbeat (s.rd R.HOST_SESSION) s.heartbeat) :=
  (if_pos (by simp [htalks, hdue])).trans (if_neg h)

theorem exec_heartbeat_noSession (h : s.get F.HOST_STAT_SESSION = ssNone) : exec .heartbeat s =
    .next (if s.isSet F.HOST_CFG_HB_BCAST then s.udpTo s.bcastIp 40128 (message mtHeartbeat 0#32 s.heartbeat) else s) :=
  (if_pos (by simp [htalks, hdue])).trans ((if_pos h).trans (apply_ite Host.Outcome.next _ _ _).symm)

end

theorem exec_heartbeat_other (h : s.hostTalks = false ∨ s.lt % 100000000 ≠ 0) : exec .heartbeat s = .next s :=
  if_neg (by obtain h | h := h <;> simp [h])

theorem State.heartbeat_length (s : State) : s.heartbeat.length = 40 := by simp only [State.heartbeat, List.length_append, leBytes_length]

/-! ### Waking the host (R363, R364) -/

section
variable {w : Fin 9} {a : Nat}

theorem exec_hostCmdWake_otherCore (h : w.val ≠ 8) : exec (.hostCmdWake w) s = .next s := congrArg _ (if_neg h)

/-- A WAKE command starts an attempt, unless an attempt's packets are still going. -/
theorem exec_hostCmdWake_vat (h : w.val = 8) :
    let u := s.setHost { s.host with wakeCmd := s.get F.HOST_STAT_SESSION != ssOpen }
    exec (.hostCmdWake w) s = .next (if s.packetsGo then u.putB F.HOST_STAT_WAKING (s.get F.HOST_STAT_SESSION != ssOpen) else u.wakeStart) :=
  congrArg _ (if_pos h)

theorem exec_hostCmdWake_starts (hvat : w.val = 8) (h : s.host.attempt = none ∨ 3 ≤ s.host.packets ∨ s.domIsOn domHost = false) :
    exec (.hostCmdWake w) s = .next (s.setHost { s.host with wakeCmd := s.get F.HOST_STAT_SESSION != ssOpen }).wakeStart := by
  have hgone : s.packetsGo = false := by
    unfold State.packetsGo
    obtain h | h | h := h <;> simp [h]
  rw [exec_hostCmdWake_vat hvat, if_neg (ne_true_of_eq_false hgone)]

/-- A WAKE command is merged into the attempt whose packets are still going. -/
theorem hostCmdWake_merged (hvat : w.val = 8) (hattempt : s.host.attempt = some a) (hleft : s.host.packets < 3) (hon : s.domIsOn domHost = true) :
    Completes (.hostCmdWake w) s (fun t => t.out = s.out ∧ t.isSet F.HOST_STAT_WAKING = (s.get F.HOST_STAT_SESSION != ssOpen)) := by
  have hgoes : s.packetsGo = true := by simp [State.packetsGo, hattempt, hleft, hon]
  exact ⟨_, (exec_hostCmdWake_vat hvat).trans (congrArg _ (if_pos hgoes)), rfl, State.isSet_putB_same _ _ _ (by decide) (by decide)⟩

section
variable (hattempt : s.host.attempt = some a)
include hattempt

theorem exec_magicPacketRepeat_attempt : exec .magicPacketRepeat s =
    if s.host.packets < 3 && decide (a + s.host.packets * 100000000 ≤ s.logLt) then
      let u := s.setHost { s.host with packets := s.host.packets + 1 }
      .next (if s.domIsOn domHost then u.magicSend else u)
    else .next s := by
  change execMagicPacketRepeat s = _
  rw [execMagicPacketRepeat, hattempt]
  rfl

theorem exec_magicPacketRepeat_due (hleft : s.host.packets < 3) (hdue : a + s.host.packets * 100000000 ≤ s.logLt) :
    let u := s.setHost { s.host with packets := s.host.packets + 1 }
    exec .magicPacketRepeat s = .next (if s.domIsOn domHost then u.magicSend else u) :=
  (exec_magicPacketRepeat_attempt hattempt).trans (if_pos (by simp [hleft, hdue]))

theorem exec_magicPacketRepeat_all (h : 3 ≤ s.host.packets) : exec .magicPacketRepeat s = .next s :=
  (exec_magicPacketRepeat_attempt hattempt).trans (if_neg (by simp [h]))

theorem exec_magicPacketRepeat_early (h : s.logLt < a + s.host.packets * 100000000) : exec .magicPacketRepeat s = .next s :=
  (exec_magicPacketRepeat_attempt hattempt).trans (if_neg (by simp [h]))

end

theorem exec_hostWakeRelease_none (h : s.host.pinAt = none) : exec .hostWakeRelease s = .next s := by
  change execHostWakeRelease s = _
  rw [execHostWakeRelease, h]

theorem exec_hostWakeRelease_some (h : s.host.pinAt = some a) : exec .hostWakeRelease s =
    .next (if s.get F.HOST_WAKE_CFG_PIN_MS ≠ 0 ∧ a + s.get F.HOST_WAKE_CFG_PIN_MS * 10000000 ≤ s.logLt then
      (s.put F.HOST_STAT_WAKE_PIN 0).setHost { s.host with pinAt := none } else s) := by
  change execHostWakeRelease s = _
  rw [execHostWakeRelease, h]
  exact (apply_ite Host.Outcome.next _ _ _).symm

end

theorem exec_wakeRepeat_due (hwaking : s.isSet F.HOST_STAT_WAKING = true)
    (hdue : s.host.lastWake + s.get F.HOST_WAKE_CFG_REPEAT_S * 1000000000 ≤ s.logLt) :
    exec .wakeRepeat s = .next (if s.host.wakeCmd || s.fillCause then s.wakeStart else s.put F.HOST_STAT_WAKING 0) :=
  (if_pos (by simp [hwaking, hdue])).trans (apply_ite Host.Outcome.next _ _ _).symm

theorem exec_wakeRepeat_early (h : s.logLt < s.host.lastWake + s.get F.HOST_WAKE_CFG_REPEAT_S * 1000000000) : exec .wakeRepeat s = .next s :=
  if_neg (by simp [h])

theorem exec_wakeRepeat_ended (h : s.isSet F.HOST_STAT_WAKING = false) : exec .wakeRepeat s = .next s := if_neg (by simp [h])

/-- Settles O50: each clause is what an ACK or a command of the batches, the heartbeat or the wake does once its condition holds, or that it does nothing. -/
theorem batchesHeartbeatAndWake : Obligations.BatchesHeartbeatAndWake := by
  intro s dg w raw cum window a l b p
  refine ⟨exec_batchClose_some, exec_batchClose_none, exec_hostAck_bad, hostAck_good, exec_hostAck_silent, State.recordsGo_iff, exec_dataSend_none,
    exec_dataSend_some, fun hclosed => exec_sends_idle (by simp [hclosed]), exec_retransmit_due, fun hstays => exec_sends_idle (by simp [hstays]),
    fun hsilent => exec_heartbeat_other (.inl hsilent), fun _ => exec_retransmit_early, exec_parkExpiry_one, exec_parkExpiry_none, exec_heartbeat_session,
    exec_heartbeat_noSession, fun hearly => exec_heartbeat_other (.inr hearly), s.heartbeat_length, exec_hostCmdWake_otherCore, exec_hostCmdWake_starts,
    hostCmdWake_merged, fun hattempt hon hleft hdue => ?_, fun hattempt hoff hleft hdue => ?_, exec_magicPacketRepeat_all, exec_magicPacketRepeat_early,
    exec_hostWakeRelease_some, exec_hostWakeRelease_none, exec_wakeRepeat_due, exec_wakeRepeat_early, exec_wakeRepeat_ended⟩
  · rw [exec_magicPacketRepeat_due hattempt hleft hdue, if_pos hon]
  · rw [exec_magicPacketRepeat_due hattempt hleft hdue, if_neg (ne_true_of_eq_false hoff)]

end Sys2Proof.Machine
end

section
/-! SUPPORT. One step of the block (chapter 95), and the statement O1. -/

namespace Sys2Proof.Machine

theorem step_of_front (s : State) (i : Instr) (rest : List Instr) : step { s with pending := i :: rest } = exec i { s with pending := rest } := rfl

theorem step_of_none {s : State} (h : s.pending = []) : step s = .next s.idle := by rw [step, h]

/-- Settles O1: a step is defined by what stands at the front of the queue. -/
theorem stepRunsFrontCommand : Obligations.StepRunsFrontCommand :=
  ⟨step_of_front, fun _ => step_of_none⟩

end Sys2Proof.Machine
end

section
/-! SUPPORT. Entries of the trouble log that do not leave as LOG records (R431, R432, R435). -/

namespace Sys2Proof.Machine

variable (s : State)

/-- The registers that an entry writes. -/
def logRegs : List Nat := [R.LOG_NEXT, R.LOG_STAT, R.LOG_OVERWRITES, R.LOG_EVT, R.LOG_OLDEST]

/-- An entry as it is written now (R432). -/
def State.logEntryNow (kind event : Nat) (d0 d1 d2 : Word) : LogEntry :=
  { index := s.get F.LOG_NEXT_INDEX, lt := s.logLt, event := event, mode := s.mode, holdover := s.holdoverNow, lost := false, kind := kind, gen := s.gen,
    d0 := d0, d1 := d1, d2 := d2 }

/-- The state with an entry in its slot and the log's registers brought up to date (R431, R434). -/
def State.logKeep (e : LogEntry) : State :=
  let full := decide (s.get F.LOG_STAT_HELD = 2048)
  let u : State := { s with log := tabSet (fun _ => none) (s.get F.LOG_NEXT_INDEX % 2048) (some e) s.log }
  let u := u.incWrap F.LOG_NEXT_INDEX
  if full then (((u.incSat F.LOG_OVERWRITES_COUNT).put F.LOG_STAT_WRAPPED 1).put F.LOG_EVT_WRAP_SEEN 1).incWrap F.LOG_OLDEST_INDEX
  else u.incSat F.LOG_STAT_HELD

theorem State.logWrite_eq (kind event : Nat) (d0 d1 d2 : Word) :
    s.logWrite kind event d0 d1 d2 = (s.logKeep (s.logEntryNow kind event d0 d1 d2)).logOut (s.logEntryNow kind event d0 d1 d2) := rfl

/-- The log's own registers apart, an entry leaves every register as it was. -/
theorem State.rd_logKeep (e : LogEntry) {a : Nat} (h : a ∉ logRegs) : (s.logKeep e).rd a = s.rd a := by
  simp only [logRegs, List.mem_cons, List.not_mem_nil, or_false, not_or] at h
  obtain ⟨hnext, hstat, hover, hevt, hold⟩ := h
  have hslot : (State.incWrap { s with log := tabSet (fun _ => none) (s.get F.LOG_NEXT_INDEX % 2048) (some e) s.log } F.LOG_NEXT_INDEX).rd a = s.rd a :=
    State.rd_put_other _ _ _ hnext
  unfold State.logKeep
  dsimp only
  split
  · rw [State.incWrap, State.rd_put_other _ _ _ hold, State.rd_put_other _ _ _ hevt, State.rd_put_other _ _ _ hstat, State.incSat,
      State.rd_put_other _ _ _ hover, hslot]
  · rw [State.incSat, State.rd_put_other _ _ _ hstat, hslot]

theorem State.get_logKeep (e : LogEntry) {f : Fld} (h : f.addr ∉ logRegs) : (s.logKeep e).get f = s.get f := by
  rw [State.get, State.get, s.rd_logKeep e h]

theorem State.get_nextIndex_logKeep (e : LogEntry) : (s.logKeep e).get F.LOG_NEXT_INDEX = (s.get F.LOG_NEXT_INDEX + 1) % 0x100000000 := by
  have hslot : (State.incWrap { s with log := tabSet (fun _ => none) (s.get F.LOG_NEXT_INDEX % 2048) (some e) s.log } F.LOG_NEXT_INDEX).get F.LOG_NEXT_INDEX =
      (s.get F.LOG_NEXT_INDEX + 1) % 0x100000000 := State.get_put_same _ _ _ (by decide)
  unfold State.logKeep
  dsimp only
  split
  · rw [State.incWrap, State.get_put_other _ _ _ _ (by decide), State.get_put_other _ _ _ _ (by decide), State.get_put_other _ _ _ _ (by decide),
      State.incSat, State.get_put_other _ _ _ _ (by decide), hslot]
  · rw [State.incSat, State.get_put_other _ _ _ _ (by decide), hslot]

theorem State.log_logKeep (e : LogEntry) : (s.logKeep e).log = tabSet (fun _ => none) (s.get F.LOG_NEXT_INDEX % 2048) (some e) s.log := by
  unfold State.logKeep
  dsimp only
  split <;> rfl

/-- The entry at the next INDEX is held. -/
theorem State.logEntry_logKeep {e : LogEntry} (h : e.index = s.get F.LOG_NEXT_INDEX) : (s.logKeep e).logEntry (s.get F.LOG_NEXT_INDEX) = some e := by
  have hfits : s.get F.LOG_NEXT_INDEX % 0x100000000 = s.get F.LOG_NEXT_INDEX := Nat.mod_eq_of_lt (Fld.ofWord_lt F.LOG_NEXT_INDEX _)
  rw [State.logEntry, State.log_logKeep, tabGet_tabSet_same]
  exact if_pos (h.trans hfits.symm)

/-- With REC_EN 0 an entry stays in the log (R435). -/
theorem State.logWrite_noRecord (h : s.isSet F.LOG_CFG_REC_EN = false) (kind event : Nat) (d0 d1 d2 : Word) :
    s.logWrite kind event d0 d1 d2 = s.logKeep (s.logEntryNow kind event d0 d1 d2) := by
  have hrec : (s.logKeep (s.logEntryNow kind event d0 d1 d2)).isSet F.LOG_CFG_REC_EN = false := by
    rw [State.isSet, s.get_logKeep _ (by decide)]
    exact h
  rw [State.logWrite_eq, State.logOut, hrec, if_neg Bool.false_ne_true]

end Sys2Proof.Machine
end

section
/-! SUPPORT. The operating mode (chapter 14): precedence, a change of mode and its entry, the flags of the conditions, and the statement O46. -/

namespace Sys2Proof.Machine

variable {s : State}

/-! ### Pairs of registers and bits of a field -/

/-- A pair of registers holds 64 bits (R15). -/
theorem State.getPair_putPair_same (s : State) (a n : Nat) : (s.putPair a n).getPair a = n % 2 ^ 64 := by
  have hlo : (s.putPair a n).rd a = w32 n := by rw [State.putPair, State.rd_wr_other _ _ (by omega), State.rd_wr_same]
  have hhi : (s.putPair a n).rd (a + 4) = w32 (n / 0x100000000) := State.rd_wr_same _ _ _
  rw [State.getPair, hlo, hhi]
  simp only [w32, BitVec.toNat_ofNat]
  omega

theorem State.rd_putPair_other (s : State) {a m : Nat} (n : Nat) (hlo : m ≠ a) (hhi : m ≠ a + 4) : (s.putPair a n).rd m = s.rd m := by
  rw [State.putPair, State.rd_wr_other _ _ hhi, State.rd_wr_other _ _ hlo]

/-- Setting a bit of a field leaves its other bits. -/
theorem State.bit_setBit_other (s : State) (f : Fld) {i j : Nat} (hj : j < f.width) (hf : f.lo + f.width ≤ 32) (h : j ≠ i) :
    (s.setBit f i).bit f j = s.bit f j := by
  unfold State.bit State.setBit
  rw [s.get_put_same f _ hf, Nat.testBit_mod_two_pow, Nat.testBit_or, Nat.testBit_two_pow_of_ne h.symm, Bool.or_false, decide_eq_true hj, Bool.true_and]

/-- Taking away a bit that is set leaves the other bits. -/
theorem testBit_sub_two_pow_other {n i j : Nat} (hset : n.testBit i = true) (h : j ≠ i) : (n - 2 ^ i).testBit j = n.testBit j := by
  rcases Nat.lt_or_gt_of_ne h with hlow | hhigh
  · rw [← Nat.testBit_two_pow_add_gt hlow, Nat.add_sub_cancel' (Nat.ge_two_pow_of_testBit hset)]
  · obtain ⟨k, rfl⟩ : ∃ k, j = k + 1 + i := ⟨j - i - 1, by omega⟩
    have hdiv : (n - 2 ^ i) / 2 ^ i = n / 2 ^ i - 1 := by simpa using Nat.sub_mul_div n (2 ^ i) 1
    rw [Nat.testBit_eq_decide_div_mod_eq, decide_eq_true_eq] at hset
    rw [Nat.testBit_add, Nat.testBit_add n, hdiv, Nat.testBit_add_one, Nat.testBit_add_one]
    generalize n / 2 ^ i = q at hset
    have hhalf : (q - 1) / 2 = q / 2 := by omega
    rw [hhalf]

/-- Clearing a bit of a field leaves its other bits. -/
theorem State.bit_clearBit_other (s : State) (f : Fld) {i j : Nat} (hj : j < f.width) (hf : f.lo + f.width ≤ 32) (h : j ≠ i) :
    (s.clearBit f i).bit f j = s.bit f j := by
  have hcleared : (if (s.get f).testBit i then s.get f - 2 ^ i else s.get f).testBit j = (s.get f).testBit j := by
    split
    next hset => exact testBit_sub_two_pow_other hset h
    next => rfl
  unfold State.bit State.clearBit
  rw [s.get_put_same f _ hf, Nat.testBit_mod_two_pow, hcleared, decide_eq_true hj, Bool.true_and]

/-! ### Precedence (R397) -/

theorem State.modeDue_booting (h : s.booting = true) : s.modeDue = mPowerUp := if_pos h

theorem State.modeDue_find (h : s.booting = false) : s.modeDue = (modeOrder.find? (fun c => s.cond c)).getD s.mode :=
  if_neg (ne_true_of_eq_false h)

/-- The condition that is set before any that stands behind it in the order gives the mode. -/
theorem State.modeDue_first {c : Nat} {pre post : List Nat} (hup : s.booting = false) (horder : modeOrder = pre ++ c :: post) (hc : s.cond c = true)
    (hpre : ∀ d ∈ pre, s.cond d = false) : s.modeDue = c := by
  have hfind : modeOrder.find? (fun c => s.cond c) = some c :=
    List.find?_eq_some_iff_append.mpr ⟨hc, pre, post, horder, fun d hd => by simp [hpre d hd]⟩
  rw [State.modeDue_find hup, hfind]
  rfl

theorem modeOrder_range : ∀ d ∈ modeOrder, 2 ≤ d ∧ d ≤ 11 := by decide

/-- With no condition set the mode stays. -/
theorem State.modeDue_none (hup : s.booting = false) (hnone : ∀ d, 2 ≤ d → d ≤ 11 → s.cond d = false) : s.modeDue = s.mode := by
  have hfind : modeOrder.find? (fun c => s.cond c) = none :=
    List.find?_eq_none.mpr fun d hd => ne_true_of_eq_false (hnone d (modeOrder_range d hd).1 (modeOrder_range d hd).2)
  rw [State.modeDue_find hup, hfind]
  rfl

/-- A mode's code has four bits. -/
theorem State.modeDue_lt (s : State) : s.modeDue < 16 := by
  have hmode : s.mode < 16 := Fld.ofWord_lt F.MOD_STATUS_MODE _
  cases hup : s.booting with
  | true => rw [State.modeDue_booting hup]; decide
  | false =>
    rw [State.modeDue_find hup]
    cases hfind : modeOrder.find? (fun c => s.cond c) with
    | none => exact hmode
    | some c => exact Nat.lt_of_le_of_lt (modeOrder_range c (List.mem_of_find?_eq_some hfind)).2 (by decide)

/-! ### A change of mode (R236, R398, R431) -/

/-- The new mode and the LT of its entry shown. -/
def State.modeShown (s : State) : State := (s.put F.MOD_STATUS_MODE s.modeDue).putPair R.MOD_ENTER_LT_LO s.logLt

theorem State.mode_modeShown (s : State) : s.modeShown.mode = s.modeDue := by
  rw [State.modeShown, State.mode, State.get_putPair_other _ _ _ (by decide) (by decide), State.get_put_same _ _ _ (by decide)]
  exact Nat.mod_eq_of_lt s.modeDue_lt

theorem State.enterLt_modeShown (s : State) : s.modeShown.getPair R.MOD_ENTER_LT_LO = s.logLt % 2 ^ 64 := State.getPair_putPair_same _ _ _

theorem State.rd_modeShown (s : State) {a : Nat} (h : a ∉ [R.MOD_STATUS, R.MOD_ENTER_LT_LO, R.MOD_ENTER_LT_HI]) : s.modeShown.rd a = s.rd a := by
  simp only [List.mem_cons, List.not_mem_nil, or_false, not_or] at h
  obtain ⟨hstatus, hlo, hhi⟩ := h
  rw [State.modeShown, State.rd_putPair_other _ _ hlo hhi, State.rd_put_other _ _ _ hstatus]

theorem State.get_modeShown (s : State) {f : Fld} (h : f.addr ∉ [R.MOD_STATUS, R.MOD_ENTER_LT_LO, R.MOD_ENTER_LT_HI]) : s.modeShown.get f = s.get f := by
  rw [State.get, State.get, s.rd_modeShown h]

/-- The LT of entries does not rest on the mode. -/
theorem State.logLt_modeShown (s : State) : s.modeShown.logLt = s.logLt := by
  have hpair : s.modeShown.getPair R.LT_SLEEP_IN_LO = s.getPair R.LT_SLEEP_IN_LO := by
    rw [State.getPair, State.getPair, s.rd_modeShown (by decide), s.rd_modeShown (by decide)]
  unfold State.logLt
  rw [hpair]
  rfl

theorem State.modeSettle_same (h : s.modeDue = s.mode) : s.modeSettle = s := if_pos h

theorem State.modeSettle_changes (h : s.modeDue ≠ s.mode) : s.modeSettle = (s.modeShown.modeOutputs s.modeDue).logWrite kMode noEvent
    (w32 (s.mode + 16 * s.modeDue)) ((s.modeShown.modeOutputs s.modeDue).rd R.MOD_STATUS) 0#32 := if_neg h

/-- The modes in which the action table runs (R236). -/
abbrev tableModes : List Nat := [mChangeover, mHoldover, mDegraded, mWatch, mRun]

theorem State.modeOutputs_table (s : State) {c : Nat} (h : c ∈ tableModes) : s.modeOutputs c = s := by
  have hall : ∀ c ∈ tableModes, ¬ (c = mKeyLoad ∨ c = mFactory ∨ c = mService ∨ c = mFaultHold) ∧ ¬ (c = mCommission ∨ c = mPowerUp) := by decide
  exact (if_neg (hall c h).1).trans (if_neg (hall c h).2)

theorem State.modeOutputs_safe (s : State) {c : Nat} (h : c ∈ [mKeyLoad, mFactory, mService, mFaultHold]) :
    s.modeOutputs c = s.flushActs.commandAll s.com.sense := if_pos (by simpa using h)

theorem State.modeOutputs_commission (s : State) : s.modeOutputs mCommission = s.flushActs.commandAll 0 :=
  (if_neg (by decide)).trans (if_pos (by decide))

/-- A change to a mode in which the action table runs shows it and writes its one entry. -/
theorem State.modeSettle_table (hnew : s.modeDue ≠ s.mode) (htable : s.modeDue ∈ tableModes) (hrec : s.isSet F.LOG_CFG_REC_EN = false) :
    s.modeSettle = s.modeShown.logKeep (s.modeShown.logEntryNow kMode noEvent (w32 (s.mode + 16 * s.modeDue)) (s.modeShown.rd R.MOD_STATUS) 0#32) := by
  have hrec' : s.modeShown.isSet F.LOG_CFG_REC_EN = false := by
    rw [State.isSet, s.get_modeShown (by decide)]
    exact hrec
  rw [State.modeSettle_changes hnew, State.modeOutputs_table _ htable, State.logWrite_noRecord _ hrec']

theorem State.modeSettle_table_shows (hnew : s.modeDue ≠ s.mode) (htable : s.modeDue ∈ tableModes) (hrec : s.isSet F.LOG_CFG_REC_EN = false) :
    s.modeSettle.mode = s.modeDue ∧ s.modeSettle.getPair R.MOD_ENTER_LT_LO = s.logLt % 2 ^ 64 ∧
      s.modeSettle.get F.LOG_NEXT_INDEX = (s.get F.LOG_NEXT_INDEX + 1) % 0x100000000 ∧
      ∃ e, s.modeSettle.logEntry (s.get F.LOG_NEXT_INDEX) = some e ∧ e.kind = kMode ∧ e.event = noEvent ∧ e.lt = s.logLt ∧ e.mode = s.modeDue ∧
        e.d0 = w32 (s.mode + 16 * s.modeDue) := by
  have hindex : s.modeShown.get F.LOG_NEXT_INDEX = s.get F.LOG_NEXT_INDEX := s.get_modeShown (by decide)
  rw [State.modeSettle_table hnew htable hrec]
  refine ⟨?_, ?_, ?_, s.modeShown.logEntryNow kMode noEvent (w32 (s.mode + 16 * s.modeDue)) (s.modeShown.rd R.MOD_STATUS) 0#32, ?_, rfl, rfl,
    s.logLt_modeShown, s.mode_modeShown, rfl⟩
  · rw [State.mode, State.get_logKeep _ _ (by decide)]
    exact s.mode_modeShown
  · rw [State.getPair, State.rd_logKeep _ _ (by decide), State.rd_logKeep _ _ (by decide)]
    exact s.enterLt_modeShown
  · rw [State.get_nextIndex_logKeep, hindex]
  · rw [← hindex]
    exact State.logEntry_logKeep _ rfl

/-! ### The conditions' flags (R398, R416) -/

/-- The flag of mode `c`'s condition set or cleared. -/
def State.condFlag (s : State) (c : Nat) (b : Bool) : State :=
  if b then s.setBit F.MOD_STATUS_FLAGS (c - 2) else s.clearBit F.MOD_STATUS_FLAGS (c - 2)

theorem State.cond_condFlag_same (s : State) {c : Nat} (b : Bool) (hhi : c ≤ 11) : (s.condFlag c b).cond c = b := by
  cases b
  · exact s.bit_clearBit_same _ _ (by decide)
  · exact s.bit_setBit_same _ (show c - 2 < 10 by omega) (by decide)

theorem State.cond_condFlag_other (s : State) {c d : Nat} (b : Bool) (hc : 2 ≤ c) (hlo : 2 ≤ d) (hhi : d ≤ 11) (h : d ≠ c) :
    (s.condFlag c b).cond d = s.cond d := by
  have hd : d - 2 < 10 := by omega
  cases b
  · exact s.bit_clearBit_other _ hd (by decide) (by omega)
  · exact s.bit_setBit_other _ hd (by decide) (by omega)

/-- Settles O46: the first condition that is set gives the mode, and a change of mode is shown before the outputs follow it and its entry is written. -/
theorem modePrecedence : Obligations.ModePrecedence := by
  intro s c b pre post
  refine ⟨State.modeDue_booting, fun hup hhold => State.modeDue_first (pre := []) hup rfl hhold (fun d hd => absurd hd List.not_mem_nil),
    State.modeDue_first, State.modeDue_none, State.modeSettle_same,
    fun hnew => ⟨s.mode_modeShown, s.enterLt_modeShown, State.modeSettle_changes hnew⟩, s.modeOutputs_table, s.modeOutputs_safe,
    s.modeOutputs_commission, State.modeSettle_table_shows, fun hlo hhi => ⟨s.cond_condFlag_same b hhi, fun d => ?_, rfl⟩⟩
  exact s.cond_condFlag_other b hlo

end Sys2Proof.Machine
end

section
/-! SUPPORT. Module events, LOG_SEL and reads of the trouble log's memory (chapters 10 and 15): the refutation of O51. -/

namespace Sys2Proof.Machine

/-- A block with one entry in the trouble log, whose line of the log's memory holds a single-bit error in word 0. -/
def logWithError : State := (State.reset.logWrite kUser noEvent 0#32 0#32 0#32).setLineErr (lineKey 17 0) ⟨1, 0, 0⟩

theorem exec_logSelWrite_vat (s : State) (v : Word) : exec (.logSelWrite 8 v) s = .next ((s.logTouch v.toNat).wr R.LOG_SEL v) := rfl

/-- Refutes O51: LOG_SEL reads the entry that it selects, so that a single-bit error in the entry's memory is corrected and counted (R283, R286), where the
statement has LOG_SEL alone change. -/
theorem not_eventsAndTroubleLog : ¬ Obligations.EventsAndTroubleLog := by
  intro h
  obtain ⟨-, -, -, -, -, -, hselects, -⟩ := h logWithError 8 0 0 0 0#32 0#32 0#32 0#32
  have hcorrected : ((logWithError.logTouch 0).wr R.LOG_SEL 0#32).get (F.MEMM_CNT_CORRECTED 17) = 1 := by decide
  have hcount : (logWithError.wr R.LOG_SEL 0#32).get (F.MEMM_CNT_CORRECTED 17) = 0 := by decide
  have hstate := (exec_logSelWrite_vat logWithError 0#32).symm.trans (hselects rfl)
  injection hstate with hstate
  rw [← hstate] at hcount
  exact absurd (hcorrected.symm.trans hcount) (by decide)

end Sys2Proof.Machine
end

section
/-! SUPPORT. Power requests (chapter 13): GO, raises, agreement, stop, refusal and timeout, and the statement O24. -/

namespace Sys2Proof.Machine

variable {s : State}

/-! ### GO (R382) -/

theorem exec_pwrGo_otherCore {w : Fin 9} (h : w.val ≠ 8) : exec (.pwrGo w) s = .next s :=
  congrArg Host.Outcome.next (if_pos (by simp [h]))

theorem exec_pwrGo_busy {w : Fin 9} (h : s.isSet F.PWR_STAT_BUSY = true) : exec (.pwrGo w) s = .next s :=
  congrArg Host.Outcome.next (if_pos (by simp [h]))

/-- The raises that PWR_REQ asks for, parents first. -/
def State.reqRaises (s : State) : List (Nat × Nat) := (raiseOrder.filter (fun n => decide (s.dom n < s.reqOf n))).map (fun n => (n, s.reqOf n))

/-- The domains that PWR_REQ asks to lower, in the order of an entry. -/
def State.reqAsks (s : State) : List (Nat × Nat) := (entryOrder.filter (fun n => decide (s.reqOf n < s.dom n))).map (fun n => (n, s.reqOf n))

section
variable {w : Fin 9} (hvat : w.val = 8) (hidle : s.isSet F.PWR_STAT_BUSY = false)
include hvat hidle

/-- The vat core's GO with no request running is judged by the states that it asks for. -/
theorem exec_pwrGo_idle : exec (.pwrGo w) s = .next
    (if (List.range 20).any (fun n => s.reqOf n == 3) || !parentsOk s.reqOf then s.put F.PWR_STAT_RESULT 2
    else s.pwrBegin 1 s.reqRaises s.reqAsks) :=
  congrArg Host.Outcome.next (if_neg (by simp [hvat, hidle]))

theorem exec_pwrGo_bad (hbad : (∃ n, n < 20 ∧ s.reqOf n = 3) ∨ parentsOk s.reqOf = false) : exec (.pwrGo w) s = .next (s.put F.PWR_STAT_RESULT 2) := by
  rw [exec_pwrGo_idle hvat hidle, if_pos]
  rcases hbad with ⟨n, hn, hreq⟩ | hparents
  · simpa using .inl ⟨n, hn, hreq⟩
  · simp [hparents]

theorem exec_pwrGo_good (hstates : ∀ n, n < 20 → s.reqOf n ≠ 3) (hparents : parentsOk s.reqOf = true) :
    exec (.pwrGo w) s = .next (s.pwrBegin 1 s.reqRaises s.reqAsks) := by
  rw [exec_pwrGo_idle hvat hidle, if_neg]
  simpa [hparents] using hstates

end

/-! ### Rails (R375) -/

theorem State.railsAsk_regs (s : State) (n : Nat) : (s.railsAsk n).regs = s.regs := by
  refine foldl_keeps State.regs _ (fun u r => ?_) _ s
  split <;> rfl

theorem State.mem_railsMiss (s : State) (n r : Nat) :
    r ∈ s.railsMiss n ↔ (r = 3 ∨ r = 4 ∨ r = 5) ∧ Config.railUses r n = true ∧ ¬ (r ∈ s.link.rails ∧ s.link.railOn r = true) := by
  simp only [State.railsMiss, List.mem_filter, List.mem_cons, List.not_mem_nil, or_false, Bool.and_eq_true, Bool.not_eq_true', ← Bool.not_eq_true,
    List.contains_iff_mem]

/-! ### A request begins with its raises (R382) -/

/-- The request shown as BUSY, and the rails of its raises asked for. -/
def State.railsAsked (s : State) (up : List (Nat × Nat)) : State := up.foldl (fun u d => u.railsAsk d.1) (s.put F.PWR_STAT_BUSY 1)

theorem State.get_railsAsked (s : State) (up : List (Nat × Nat)) (f : Fld) : (s.railsAsked up).get f = (s.put F.PWR_STAT_BUSY 1).get f :=
  State.get_congr (foldl_keeps State.regs _ (fun (u : State) (d : Nat × Nat) => u.railsAsk_regs d.1) up _) f

theorem State.pwrBegin_raises (s : State) (k : Nat) {up : List (Nat × Nat)} (down : List (Nat × Nat)) (h : up ≠ []) :
    s.pwrBegin k up down = ((s.railsAsked up).setPwr
      { s.pwr with run := k, raising := up, asks := down, stopped := [], agreedAt := none, keyAt := s.isSet F.KEY_STAT_PRESENT }).put F.PWR_STAT_PHASE 1 :=
  if_neg (by simpa using h)

theorem State.pwrBegin_shows (s : State) (k : Nat) {up : List (Nat × Nat)} (down : List (Nat × Nat)) (h : up ≠ []) :
    (s.pwrBegin k up down).pwr.raising = up ∧ (s.pwrBegin k up down).pwr.asks = down ∧ (s.pwrBegin k up down).get F.PWR_STAT_BUSY = 1 ∧
      (s.pwrBegin k up down).get F.PWR_STAT_PHASE = 1 := by
  rw [s.pwrBegin_raises k down h]
  refine ⟨rfl, rfl, ?_, State.get_put_same _ _ _ (by decide)⟩
  rw [State.get_put_apart _ _ _ _ (by decide) (by decide), State.get_setPwr, State.get_railsAsked, State.get_put_same _ _ _ (by decide)]
  rfl

/-! ### Raises (R375, R383) -/

section
variable {n dst : Nat} {rest : List (Nat × Nat)} {m : Fin 20}

/-- The state once the domain that is raised has reached its state, as far as its parent lets it. -/
def State.raised (s : State) (n dst : Nat) (rest : List (Nat × Nat)) : State :=
  let u := if dst ≤ s.dom (domParent n) then s.domRaise n dst else s
  u.setPwr { u.pwr with raising := rest }

theorem exec_domainRaised_first (hm : m.val = n) (h : s.pwr.raising = (n, dst) :: rest) : exec (.domainRaised m) s =
    if s.dom n = domOff && !(s.railsMiss n).isEmpty then .next (s.railsAsk n)
    else .next (if rest = [] then (s.raised n dst rest).pwrNext else s.raised n dst rest) := by
  change execDomainRaised m s = _
  unfold execDomainRaised
  rw [h]
  simp only [hm, if_true, State.raised, List.isEmpty_iff]
  simp

theorem exec_domainRaised_reaches (hm : m.val = n) (h : s.pwr.raising = (n, dst) :: rest) (hrails : s.dom n ≠ 0 ∨ s.railsMiss n = []) :
    exec (.domainRaised m) s = .next (if rest = [] then (s.raised n dst rest).pwrNext else s.raised n dst rest) := by
  rw [exec_domainRaised_first hm h, if_neg]
  rcases hrails with hon | hnone
  · simp [hon]
  · simp [hnone]

theorem exec_domainRaised_waits (hm : m.val = n) (h : s.pwr.raising = (n, dst) :: rest) (hoff : s.dom n = 0) (hrails : s.railsMiss n ≠ []) :
    exec (.domainRaised m) s = .next (s.railsAsk n) := by
  rw [exec_domainRaised_first hm h, if_pos (by simp [hoff, hrails])]

theorem exec_domainRaised_other (hm : m.val ≠ n) (h : s.pwr.raising = (n, dst) :: rest) : exec (.domainRaised m) s = .next s := by
  change execDomainRaised m s = _
  unfold execDomainRaised
  rw [h]
  exact if_neg hm.symm

theorem exec_domainRaised_none (h : s.pwr.raising = []) : exec (.domainRaised m) s = .next s := by
  change execDomainRaised m s = _
  unfold execDomainRaised
  rw [h]

/-! ### Agreement, stop and timeout (R384 to R386) -/

/-- What becomes of an entry at the answer of domain `n`, which it asks. -/
def State.onAnswer (s : State) (n : Nat) : Answer → Out
  | .agree =>
    let u := if n = domHub && s.dom n == domOn then s.hubAgreed else s
    .next (u.setPwr { u.pwr with agreedAt := some u.lt })
  | .wait _ => .next s
  | .refuse r p => .next (s.pwrRefuse r p)

/-- What becomes of an entry whose AGREE_MS has passed, by the answer of the domain that it asks. -/
def State.onTimeout (s : State) : Answer → Out
  | .wait p => .next (s.pwrRefuse rfNotDrained p)
  | _ => .next s

theorem exec_domainAgree_asked (h : s.pwr.asks = (n, dst) :: rest) : exec .domainAgree s =
    if s.pwr.raising.isEmpty && s.pwr.agreedAt.isNone && decide (s.pwr.askedAt + 32000 ≤ s.lt) then s.onAnswer n (s.domAnswer n) else .next s := by
  change execDomainAgree s = _
  unfold execDomainAgree
  rw [h]
  rfl

theorem exec_domainAgree_early (h : s.pwr.asks = (n, dst) :: rest) (hearly : s.lt < s.pwr.askedAt + 32000) : exec .domainAgree s = .next s := by
  rw [exec_domainAgree_asked h, if_neg (by simp [hearly])]

section
variable (h : s.pwr.asks = (n, dst) :: rest) (hraised : s.pwr.raising = []) (hopen : s.pwr.agreedAt = none) (hdue : s.pwr.askedAt + 32000 ≤ s.lt)
include h hraised hopen hdue

theorem exec_domainAgree_due {answer : Answer} (hanswer : s.domAnswer n = answer) : exec .domainAgree s = s.onAnswer n answer := by
  rw [exec_domainAgree_asked h, if_pos (by simp [hraised, hopen, hdue]), hanswer]

theorem exec_domainAgree_agrees (hanswer : s.domAnswer n = .agree) (hhub : n ≠ 0 ∨ s.dom 0 ≠ 2) :
    exec .domainAgree s = .next (s.setPwr { s.pwr with agreedAt := some s.lt }) := by
  have hnot : ¬ (n = domHub && s.dom n == domOn) = true := by
    rw [Bool.and_eq_true, decide_eq_true_eq, beq_iff_eq]
    rintro ⟨rfl, hon⟩
    exact hhub.elim (absurd rfl) (absurd hon)
  rw [exec_domainAgree_due h hraised hopen hdue hanswer, State.onAnswer, if_neg hnot]

theorem exec_domainAgree_hub (hanswer : s.domAnswer n = .agree) (hn : n = 0) (hon : s.dom 0 = 2) :
    exec .domainAgree s = .next (s.hubAgreed.setPwr { s.hubAgreed.pwr with agreedAt := some s.hubAgreed.lt }) := by
  subst hn
  rw [exec_domainAgree_due h hraised hopen hdue hanswer, State.onAnswer, if_pos (by simp [hon])]

theorem exec_domainAgree_waits {p : Nat} (hanswer : s.domAnswer n = .wait p) : exec .domainAgree s = .next s :=
  exec_domainAgree_due h hraised hopen hdue hanswer

theorem exec_domainAgree_refuses {r p : Nat} (hanswer : s.domAnswer n = .refuse r p) : exec .domainAgree s = .next (s.pwrRefuse r p) :=
  exec_domainAgree_due h hraised hopen hdue hanswer

end

theorem exec_domainStop_none (h : s.pwr.agreedAt = none) : exec .domainStop s = .next s := by
  change execDomainStop s = _
  unfold execDomainStop
  rw [h]

theorem exec_domainStop_some {a : Nat} (h : s.pwr.agreedAt = some a) : exec .domainStop s = if a + 96000 ≤ s.lt then .next s.pwrStop else .next s := by
  change execDomainStop s = _
  unfold execDomainStop
  rw [h]

theorem exec_agreeTimeout_asked (h : s.pwr.asks = (n, dst) :: rest) : exec .agreeTimeout s =
    if s.pwr.raising.isEmpty && s.pwr.agreedAt.isNone && decide (s.pwr.askedAt + s.get F.PWR_CFG_AGREE_MS * 1000000 ≤ s.lt) then
      s.onTimeout (s.domAnswer n)
    else .next s := by
  change execAgreeTimeout s = _
  unfold execAgreeTimeout
  rw [h]
  rfl

theorem exec_agreeTimeout_due {p : Nat} (h : s.pwr.asks = (n, dst) :: rest) (hraised : s.pwr.raising = []) (hopen : s.pwr.agreedAt = none)
    (hanswer : s.domAnswer n = .wait p) (hdue : s.pwr.askedAt + s.get F.PWR_CFG_AGREE_MS * 1000000 ≤ s.lt) :
    exec .agreeTimeout s = .next (s.pwrRefuse 0 p) := by
  rw [exec_agreeTimeout_asked h, if_pos (by simp [hraised, hopen, hdue]), hanswer]
  rfl

theorem exec_agreeTimeout_early (h : s.pwr.asks = (n, dst) :: rest) (hearly : s.lt < s.pwr.askedAt + s.get F.PWR_CFG_AGREE_MS * 1000000) :
    exec .agreeTimeout s = .next s := by
  rw [exec_agreeTimeout_asked h, if_neg (by simp [hearly])]

end

/-- Settles O24: each clause is what GO, a raise, an asked domain's answer or a time that has come does once its condition holds, or that it does nothing. -/
theorem powerRequests : Obligations.PowerRequests := by
  refine ⟨fun w s => ⟨exec_pwrGo_otherCore, exec_pwrGo_busy, exec_pwrGo_bad, exec_pwrGo_good, fun k up down => s.pwrBegin_shows k down⟩,
    fun s n dst a r p rest m => ⟨fun hm hraise => ⟨exec_domainRaised_reaches hm hraise, exec_domainRaised_waits hm hraise⟩, s.mem_railsMiss n,
      exec_domainRaised_other, exec_domainRaised_none, fun hasks hraised hopen hdue => ?_, exec_domainAgree_early, fun hagreed hdue => ?_,
      fun hagreed hearly => ?_, exec_domainStop_none, exec_agreeTimeout_due, exec_agreeTimeout_early⟩⟩
  · exact ⟨exec_domainAgree_agrees hasks hraised hopen hdue, exec_domainAgree_hub hasks hraised hopen hdue,
      exec_domainAgree_waits hasks hraised hopen hdue, exec_domainAgree_refuses hasks hraised hopen hdue⟩
  · rw [exec_domainStop_some hagreed, if_pos hdue]
  · rw [exec_domainStop_some hagreed, if_neg (Nat.not_le_of_lt hearly)]

end Sys2Proof.Machine
end

section
/-! SUPPORT. The entry of an undervoltage (chapter 13) and the queue that its LOG record goes to: the refutation of O26. -/

namespace Sys2Proof.Machine

/-- A block with HUB on, whose LOG records go to hub queue 8, of 8 KB, which the vat core reads with a threshold of one record. -/
def logToHub : State :=
  ((((State.reset.put (domFld domHub) domOn).put F.LOG_CFG_REC_EN 1).put (F.Q_SIZE_SIZE 56) 8192).put (F.Q_CFG_CORE_EN 56) 1).put (F.Q_CFG_EVT_N 56) 1

/-- Refutes O26: with REC_EN 1 the entry of the undervoltage leaves as a LOG record (R435), and the queue that takes it can reach its threshold, which raises
event 31 beside event 35 (R298), where the statement has event 35 alone pending. -/
theorem not_supplyLinkAndThrottle : ¬ Obligations.SupplyLinkAndThrottle := by
  intro h
  obtain ⟨-, hthrottle⟩ := h
  obtain ⟨-, -, -, -, -, -, -, -, -, -, -, -, -, hpends⟩ := hthrottle logToHub 0
  have hqueue : ((logToHub.supplyNote 5).core 8).pend0.getLsbD 31 = true := by decide
  have halone : ((logToHub.core 8).pend 35).pend0.getLsbD 31 = false := by decide
  rw [hpends] at hqueue
  exact absurd (hqueue.symm.trans halone) (by decide)

end Sys2Proof.Machine
end

section
/-! SUPPORT. What a read of the trouble log's memory (R283 to R286) leaves of the service port and of what has left the module. -/

namespace Sys2Proof.Machine

variable (s : State)

/-- The service port's part and what has left the module. -/
def State.portOut : SvcSt × List Emission := (s.svc, s.out)

theorem State.portOut_of_rest {s t : State} (h : t.rest = s.rest) : t.portOut = s.portOut := by
  have hport : t.rest.portOut = s.rest.portOut := congrArg State.portOut h
  exact hport

theorem State.rest_raiseMem (n : Nat) : (s.raiseMem n).rest = s.rest := by rw [State.raiseMem, State.rest_raise, State.rest_setBit]

theorem State.rest_logLose (slot : Nat) : (s.logLose slot).rest = s.rest := by
  unfold State.logLose
  split
  · split
    · rfl
    · rw [State.rest_put, State.rest_incSat, State.rest_setLog]
  · rfl

theorem State.rest_raiseCorrected (n : Nat) : (s.raiseCorrected n).rest = s.rest := by
  induction n generalizing s with
  | zero => rfl
  | succ n ih => rw [State.raiseCorrected, ih, State.rest_raiseMem]

theorem State.portOut_setLineErr (k : Nat) (e : LineErr) : (s.setLineErr k e).portOut = s.portOut := rfl

theorem State.portOut_memRebuild (m : Nat) : (s.memRebuild m).portOut = s.portOut :=
  State.portOut_of_rest (by rw [State.memRebuild, State.rest_raiseMem, State.rest_incSat])

theorem State.portOut_memCorrect (m n : Nat) : (s.memCorrect m n).portOut = s.portOut := by
  have hcounted : ((s.incSat (F.MEMM_CNT_CORRECTED m) n).raiseCorrected n).portOut = s.portOut :=
    State.portOut_of_rest (by rw [State.rest_raiseCorrected, State.rest_incSat])
  unfold State.memCorrect
  split
  · rfl
  · dsimp only
    split
    · exact (State.portOut_of_rest (State.rest_raiseMem _ _)).trans hcounted
    · exact hcounted

/-- An uncorrectable line of the log's memory is counted and logged, and its two entries are lost (R285). -/
theorem State.portOut_memUe_log (i bad : Nat) : (s.memUe 17 i bad).portOut = s.portOut := by
  refine State.portOut_of_rest ?_
  change (State.logLose (State.logLose _ _) _).rest = _
  rw [State.rest_logLose, State.rest_logLose, State.rest_raiseMem, if_neg (by decide), State.rest_logWrite, State.rest_incSat]
  rfl

theorem State.portOut_wordRead_log (i w : Nat) : (s.wordRead 17 i w).portOut = s.portOut := by
  unfold State.wordRead
  dsimp only
  split
  · rfl
  · split
    · split
      · rw [State.portOut_memRebuild, State.portOut_setLineErr]
      · rw [State.portOut_memUe_log, State.portOut_setLineErr]
    · split
      · rw [State.portOut_memCorrect, State.portOut_setLineErr]
      · rfl

theorem State.portOut_ramTouch_log (o n : Nat) : (s.ramTouch 17 o n).portOut = s.portOut := by
  refine foldl_keeps State.portOut _ (fun u l => foldl_keeps State.portOut _ (fun u w => ?_) _ u) _ s
  dsimp only
  split
  · exact u.portOut_wordRead_log _ _
  · rfl

theorem State.portOut_logTouch (i : Nat) : (s.logTouch i).portOut = s.portOut := by
  unfold State.logTouch
  split
  · exact s.portOut_ramTouch_log _ _
  · rfl

end Sys2Proof.Machine
end

section
/-! SUPPORT. The service port's transfers, pages and commands (chapter 16), and the statement O52. -/

namespace Sys2Proof.Machine

variable {s : State} {en : Bool}

/-! ### The port answers or is silent (R56) -/

theorem State.svcDo_answers (h : s.svcAnswers = true) (f : State → State) : s.svcDo f = f s := if_pos h

theorem State.svcDo_silent (h : s.svcAnswers = false) (f : State → State) : s.svcDo f = s := if_neg (ne_true_of_eq_false h)

theorem exec_service_silent (h : s.svcAnswers = false) (l : List Byte) (n : Nat) :
    exec (.svcWriteTransfer en l) s = .next s ∧ exec (.svcReadTransfer en n) s = .next s ∧ exec .svcTake s = .next s ∧
      exec .svcRelease s = .next s ∧ exec .svcAlive s = .next s ∧ exec (.svcCommission en) s = .next s ∧ exec .svcWarmReset s = .next s :=
  have hnext (f : State → State) := congrArg (Host.Outcome.next (φ := Fault) (ρ := Refusal)) (State.svcDo_silent h f)
  ⟨hnext _, hnext _, hnext _, hnext _, hnext _, hnext _, hnext _⟩

/-! ### Write transfers (R443, R444, R460) -/

theorem exec_svcWriteTransfer_empty (h : s.svcAnswers = true) :
    exec (.svcWriteTransfer en []) s = .next ((s.enabled en).incWrap F.SVC_CNT_TRANSFERS) := congrArg Host.Outcome.next (State.svcDo_answers h _)

theorem exec_svcWriteTransfer_bytes (h : s.svcAnswers = true) (p : Byte) (l : List Byte) :
    let u := (s.enabled en).incWrap F.SVC_CNT_TRANSFERS
    exec (.svcWriteTransfer en (p :: l)) s = .next ((u.setSvc { u.svc with ptr := p.toNat }).svcWrite none l) :=
  congrArg Host.Outcome.next (State.svcDo_answers h _)

/-- A byte at position 0xFF is PAGE, and the pointer goes on to 0. -/
theorem State.svcWrite_page (b : Byte) (h : s.svc.ptr = 0xFF) : s.svcWrite none [b] =
    if b.toNat ≤ 6 then (s.setSvc { s.svc with ptr := 0 }).pageSelect b.toNat else s.setSvc { s.svc with ptr := 0 } := by
  unfold State.svcWrite
  rw [h]
  rfl

theorem State.svcWrite_page_now {b : Byte} (h : s.svc.ptr = 0xFF) (hb : b.toNat ≤ 6) (hburn : s.isSet F.SVC_STAT_BURNING = false) :
    ∃ t, s.svcWrite none [b] = t ∧ t.svc.page = b.toNat ∧ t.svc.ptr = 0 ∧ t.svc.pageDue = none := by
  have hselect : (s.setSvc { s.svc with ptr := 0 }).pageSelect b.toNat = (s.setSvc { s.svc with ptr := 0 }).setPage b.toNat :=
    if_neg (ne_true_of_eq_false hburn)
  exact ⟨_, (State.svcWrite_page b h).trans ((if_pos hb).trans hselect), rfl, rfl, rfl⟩

theorem State.svcWrite_page_due {b : Byte} (h : s.svc.ptr = 0xFF) (hb : b.toNat ≤ 6) (hburn : s.isSet F.SVC_STAT_BURNING = true) :
    ∃ t, s.svcWrite none [b] = t ∧ t.svc.page = s.svc.page ∧ t.svc.ptr = 0 ∧ t.svc.pageDue = some b.toNat := by
  have hselect : (s.setSvc { s.svc with ptr := 0 }).pageSelect b.toNat = s.setSvc { s.svc with ptr := 0, pageDue := some b.toNat } := if_pos hburn
  exact ⟨_, (State.svcWrite_page b h).trans ((if_pos hb).trans hselect), rfl, rfl, rfl⟩

theorem State.svcWrite_page_none {b : Byte} (h : s.svc.ptr = 0xFF) (hb : 6 < b.toNat) : s.svcWrite none [b] = s.setSvc { s.svc with ptr := 0 } :=
  (State.svcWrite_page b h).trans (if_neg (Nat.not_le_of_lt hb))

/-- CMD and its complement behind it on page 4 are a command (R453). -/
theorem State.svcWrite_command (b x : Byte) (hpage : s.svc.page = 4) (hptr : s.svc.ptr = 0) :
    s.svcWrite none [b, x] = (s.setSvc { s.svc with ptr := 2 }).svcCommand b.toNat x.toNat := by
  have hcmd : s.svcWrite none [b, x] = (s.setSvc { s.svc with ptr := 1 }).svcWrite (some b.toNat) [x] := by
    unfold State.svcWrite
    rw [hpage, hptr]
    rfl
  have hinv : (s.setSvc { s.svc with ptr := 1 }).svcWrite (some b.toNat) [x] = (s.setSvc { s.svc with ptr := 2 }).svcCommand b.toNat x.toNat := by
    unfold State.svcWrite
    have hpage' : (s.setSvc { s.svc with ptr := 1 }).svc.page = 4 := hpage
    rw [hpage']
    rfl
  rw [hcmd, hinv]

/-! ### Read transfers (R443, R445) -/

/-- The state as a read transfer of page `p` finds it: the entries that the log window shows have been read (R283). -/
def State.pageTouch (s : State) (p : Nat) : State := if p = 3 then (List.range 7).foldl (fun u i => u.logTouch (u.svc.logIndex + i)) s else s

theorem State.portOut_pageTouch (s : State) (p : Nat) : (s.pageTouch p).portOut = s.portOut := by
  unfold State.pageTouch
  split
  · exact foldl_keeps State.portOut _ (fun u i => u.portOut_logTouch _) _ s
  · rfl

/-- The bytes that a read transfer returns of page `p`, from the pointer on. -/
def State.pageBytes (s : State) (p n : Nat) : List Byte := (List.range n).map (fun i => pageByte (s.page p) p ((s.svc.ptr + i) % 256))

theorem State.pageBytes_length (s : State) (p n : Nat) : (s.pageBytes p n).length = n := by simp [State.pageBytes]

/-- The state behind a read transfer of `n` bytes of page `p`. -/
def State.pageGiven (s : State) (p n : Nat) : State :=
  let u := s.emit (.service (s.pageBytes p n))
  (if p = 4 then u.freeNext else u).setSvc { u.svc with ptr := (s.svc.ptr + n) % 256 }

/-- The state as a transfer finds it: SERVICE_EN_N taken over and the transfer counted. -/
def State.svcOpened (s : State) (en : Bool) : State := (s.enabled en).incWrap F.SVC_CNT_TRANSFERS

theorem exec_svcReadTransfer (h : s.svcAnswers = true) (n : Nat) :
    exec (.svcReadTransfer en n) s = .next (((s.svcOpened en).pageTouch s.svc.page).pageGiven s.svc.page n) :=
  congrArg Host.Outcome.next (State.svcDo_answers h _)

theorem State.out_pageGiven (s : State) (p n : Nat) : (s.pageGiven p n).out = s.out ++ [.service (s.pageBytes p n)] := by
  unfold State.pageGiven
  dsimp only
  split <;> rfl

theorem svcReadTransfer_completes (h : s.svcAnswers = true) (n : Nat) : Completes (.svcReadTransfer en n) s (fun t =>
    t.svc.ptr = (s.svc.ptr + n) % 256 ∧ ∃ r : List Byte, r.length = n ∧ t.out = s.out ++ [.service r]) := by
  have htouch : ((s.svcOpened en).pageTouch s.svc.page).portOut = s.portOut := State.portOut_pageTouch _ _
  have hsvc : ((s.svcOpened en).pageTouch s.svc.page).svc = s.svc := congrArg Prod.fst htouch
  have hout : ((s.svcOpened en).pageTouch s.svc.page).out = s.out := congrArg Prod.snd htouch
  refine ⟨_, exec_svcReadTransfer h n, congrArg (fun v : SvcSt => (v.ptr + n) % 256) hsvc, ((s.svcOpened en).pageTouch s.svc.page).pageBytes s.svc.page n,
    State.pageBytes_length _ _ _, ?_⟩
  rw [State.out_pageGiven, hout]

/-! ### Commands (R453 to R455) -/

theorem State.svcCommand_noComplement {cmd inv : Nat} (h : cmd + inv ≠ 255) : s.svcCommand cmd inv = s.svcResult 1 := if_pos h

theorem State.svcCommand_commands (s : State) : s.svcCommand 1 254 = s.svcTake ∧ s.svcCommand 2 253 = s.svcRelease ∧ s.svcCommand 3 252 = s.svcAlive ∧
    s.svcCommand 4 251 = s.svcCommission ∧ s.svcCommand 5 250 = s.svcWarmReset := ⟨rfl, rfl, rfl, rfl, rfl⟩

theorem State.isSet_enabled (s : State) (b : Bool) : (s.enabled b).isSet F.SVC_STAT_ENABLE = b := s.isSet_putB_same _ b (by decide) (by decide)

section
variable (hanswers : s.svcAnswers = true)
include hanswers

theorem exec_svcTake_answers : exec .svcTake s = .next s.svcTake := congrArg Host.Outcome.next (State.svcDo_answers hanswers _)
theorem exec_svcRelease_answers : exec .svcRelease s = .next s.svcRelease := congrArg Host.Outcome.next (State.svcDo_answers hanswers _)
theorem exec_svcAlive_answers : exec .svcAlive s = .next s.svcAlive := congrArg Host.Outcome.next (State.svcDo_answers hanswers _)
theorem exec_svcWarmReset_answers : exec .svcWarmReset s = .next s.svcWarmReset := congrArg Host.Outcome.next (State.svcDo_answers hanswers _)
theorem exec_svcCommission_answers : exec (.svcCommission en) s = .next (s.enabled en).svcCommission :=
  congrArg Host.Outcome.next (State.svcDo_answers hanswers _)

theorem exec_svcTake_busy (h : s.cond mCommission = true ∨ s.booting = true) : exec .svcTake s = .next (s.svcResult 3) := by
  rw [exec_svcTake_answers hanswers, State.svcTake, if_pos (by simpa using h)]

theorem exec_svcTake_takes (hcom : s.cond mCommission = false) (hup : s.booting = false) : exec .svcTake s = .next (s.takeStart.svcResult 0) := by
  rw [exec_svcTake_answers hanswers, State.svcTake, if_neg (by simp [hcom, hup])]

theorem exec_svcRelease_taken (hcom : s.cond mCommission = false) (htaken : s.isSet F.SVC_STAT_TAKEN = true) :
    exec .svcRelease s = .next (s.takeStop.svcResult 0) := by
  rw [exec_svcRelease_answers hanswers, State.svcRelease, if_neg (ne_true_of_eq_false hcom), if_pos htaken]

theorem exec_svcRelease_free (hcom : s.cond mCommission = false) (hfree : s.isSet F.SVC_STAT_TAKEN = false) :
    exec .svcRelease s = .next (s.svcResult 4) := by
  rw [exec_svcRelease_answers hanswers, State.svcRelease, if_neg (ne_true_of_eq_false hcom), if_neg (ne_true_of_eq_false hfree)]

theorem exec_svcRelease_commission (hcom : s.cond mCommission = true) : exec .svcRelease s = .next (s.commissionLeave.svcResult 0) := by
  rw [exec_svcRelease_answers hanswers, State.svcRelease, if_pos hcom]

theorem exec_svcAlive_taken (htaken : s.isSet F.SVC_STAT_TAKEN = true) : exec .svcAlive s = .next (s.takeStart.svcResult 0) := by
  rw [exec_svcAlive_answers hanswers, State.svcAlive, if_pos htaken]

theorem exec_svcAlive_free (hfree : s.isSet F.SVC_STAT_TAKEN = false) : exec .svcAlive s = .next (s.svcResult 4) := by
  rw [exec_svcAlive_answers hanswers, State.svcAlive, if_neg (ne_true_of_eq_false hfree)]

theorem exec_svcWarmReset_resets (h : s.isSet F.SVC_STAT_TAKEN = true ∨ s.cond mFaultHold = true) :
    exec .svcWarmReset s = .next (((s.raise62 F.SVC_EVT_RESET_REQ_SEEN).wantReset 1).svcResult 0) := by
  rw [exec_svcWarmReset_answers hanswers, State.svcWarmReset, if_pos (by simpa using h)]

theorem exec_svcWarmReset_refused (hfree : s.isSet F.SVC_STAT_TAKEN = false) (hrun : s.cond mFaultHold = false) :
    exec .svcWarmReset s = .next (s.svcResult 4) := by
  rw [exec_svcWarmReset_answers hanswers, State.svcWarmReset, if_neg (by simp [hfree, hrun])]

theorem exec_svcCommission_disabled : exec (.svcCommission false) s = .next ((s.enabled false).svcResult 2) := by
  rw [exec_svcCommission_answers hanswers, State.svcCommission, if_pos (by rw [State.isSet_enabled]; rfl)]

theorem exec_svcCommission_moves (h : s.co.phase ≠ 0) : exec (.svcCommission true) s = .next ((s.enabled true).svcResult 3) := by
  rw [exec_svcCommission_answers hanswers, State.svcCommission, if_neg (by rw [State.isSet_enabled]; decide)]
  exact congrArg Host.Outcome.next (if_pos h)

theorem exec_svcCommission_starts (h : s.co.phase = 0) : exec (.svcCommission true) s = .next ((s.enabled true).commissionStart.svcResult 0) := by
  rw [exec_svcCommission_answers hanswers, State.svcCommission, if_neg (by rw [State.isSet_enabled]; decide)]
  exact congrArg Host.Outcome.next (if_neg (not_not_intro h))

end

theorem exec_takeExpiry_some {e : Nat} (h : s.svc.takeEnd = some e) : exec .takeExpiry s = .next (if e < s.logLt then s.takeStop else s) := by
  change execTakeExpiry s = _
  rw [execTakeExpiry, h]
  exact (apply_ite Host.Outcome.next _ _ _).symm

theorem exec_takeExpiry_none (h : s.svc.takeEnd = none) : exec .takeExpiry s = .next s := by
  change execTakeExpiry s = _
  rw [execTakeExpiry, h]

/-- Settles O52: each clause is what a transfer or a command does once its condition holds, or that it does nothing. -/
theorem serviceTransfersAndCommands : Obligations.ServiceTransfersAndCommands := by
  intro s en p b x l n e
  exact ⟨fun hsilent => exec_service_silent hsilent l n, exec_svcWriteTransfer_empty, fun hanswers => exec_svcWriteTransfer_bytes hanswers p l,
    State.svcWrite_page_now, State.svcWrite_page_due, State.svcWrite_page_none, State.svcWrite_command b x, State.svcCommand_noComplement,
    fun hanswers => svcReadTransfer_completes hanswers n, rfl, s.svcCommand_commands, exec_svcTake_busy, exec_svcTake_takes, exec_svcRelease_taken,
    exec_svcRelease_free, exec_svcRelease_commission, exec_svcAlive_taken, exec_svcAlive_free, exec_svcWarmReset_resets,
    exec_svcWarmReset_refused, exec_svcCommission_disabled, exec_svcCommission_moves, exec_svcCommission_starts, exec_takeExpiry_some,
    exec_takeExpiry_none⟩

end Sys2Proof.Machine
end

section
/-! SUPPORT. Commissioning burns, leaving COMMISSION, and HEALTHY_N (chapters 14 and 16), and the statement O53. -/

namespace Sys2Proof.Machine

variable {s : State} {en ok : Bool}

/-! ### GO on pages 5 and 6 (R459, R461) -/

theorem State.fieldGo_burning (h : s.isSet F.SVC_STAT_BURNING = true) : s.fieldGo = s := if_pos h
theorem State.trimGo_burning (h : s.isSet F.SVC_STAT_BURNING = true) : s.trimGo = s := if_pos h

theorem exec_go_answers (h : s.svcAnswers = true) :
    exec (.commissionGo en) s = .next (s.enabled en).fieldGo ∧ exec (.trimGo en) s = .next (s.enabled en).trimGo :=
  ⟨congrArg Host.Outcome.next (State.svcDo_answers h _), congrArg Host.Outcome.next (State.svcDo_answers h _)⟩

theorem exec_go_silent (h : s.svcAnswers = false) : exec (.commissionGo en) s = .next s ∧ exec (.trimGo en) s = .next s :=
  ⟨congrArg Host.Outcome.next (State.svcDo_silent h _), congrArg Host.Outcome.next (State.svcDo_silent h _)⟩

theorem State.fieldGo_refused (hidle : s.isSet F.SVC_STAT_BURNING = false) (hcheck : s.fieldCheck ≠ 0) :
    s.fieldGo = s.fieldLog s.svc.sel s.fieldCheck 8 s.svc.newValue := (if_neg (ne_true_of_eq_false hidle)).trans (if_neg hcheck)

theorem State.fieldGo_burns (hidle : s.isSet F.SVC_STAT_BURNING = false) (hcheck : s.fieldCheck = 0) :
    s.fieldGo = (s.put F.SVC_STAT_BURNING 1).setSvc { s.svc with burn := some ⟨false, s.svc.sel, s.svc.newValue⟩ } :=
  (if_neg (ne_true_of_eq_false hidle)).trans (if_pos hcheck)

theorem State.checks_mode (h : s.mode ≠ mCommission) : s.fieldCheck = 1 ∧ s.trimCheck = 1 := ⟨if_pos h, if_pos h⟩

/-! ### The end of a burn (R457, R459 to R461) -/

/-- A slot burned behind the others is the newest value where it has verified. -/
theorem lastValid_append {α : Type} (l : List (Option α)) (x : Option α) : lastValid (l ++ [x]) = x.or (lastValid l) := by
  unfold lastValid
  rw [List.foldl_append]
  cases x <;> rfl

theorem State.svc_logWrite (s : State) (kind event : Nat) (d0 d1 d2 : Word) : (s.logWrite kind event d0 d1 d2).svc = s.svc :=
  congrArg Prod.fst (State.portOut_of_rest (s.rest_logWrite kind event d0 d1 d2))

theorem State.svc_fieldLog (s : State) (sel r slot : Nat) (l : List Byte) : (s.fieldLog sel r slot l).svc = { s.svc with fieldResult := r } := by
  rw [State.fieldLog, State.raise_svc, State.put_svc, State.svc_logWrite]
  rfl

theorem State.svc_trimLog (s : State) (id r slot : Nat) (new old : Word) : (s.trimLog id r slot new old).svc = { s.svc with trimResult := r } := by
  rw [State.trimLog, State.raise_svc, State.put_svc, State.svc_logWrite]
  rfl

/-- The burn that ran is over; a field or trim has been written where it has verified. -/
def State.burnOver (s : State) (ok : Bool) : State := (s.put F.SVC_STAT_BURNING 0).setSvc { s.svc with burn := none, written := s.svc.written || ok }

/-- A field's next slot used and its result logged. -/
def State.fieldBurned (s : State) (ok : Bool) (sel : Nat) (value : List Byte) : State :=
  let l := s.fieldSlots sel
  (s.setSvc { s.svc with fields := tabSet (fun _ => []) sel (l ++ [if ok then some value else none]) s.svc.fields }).fieldLog sel (if ok then 0 else 8)
    l.length value

/-- A trim's next slot used and its result logged. -/
def State.trimBurned (s : State) (ok : Bool) (id : Nat) (value : List Byte) : State :=
  let l := s.trimSlots id
  (s.setSvc { s.svc with trims := tabSet (fun _ => []) id (l ++ [if ok then some (leVal value) else none]) s.svc.trims }).trimLog id (if ok then 0 else 8)
    (l.length + 1) (w32 (leVal value)) (s.trimNow id)

/-- A PAGE written during the burn selected (R460). -/
def State.pageTurn (s : State) : State :=
  match s.svc.pageDue with
  | some p => s.setPage p
  | none => s

/-- Selecting a page moves PAGE alone. -/
theorem State.svc_pageTurn (s : State) : ∃ p d, s.pageTurn.svc = { s.svc with page := p, pageDue := d } := by
  unfold State.pageTurn
  split
  · exact ⟨_, _, rfl⟩
  · exact ⟨_, _, rfl⟩

theorem State.burnEnd_none (h : s.svc.burn = none) (ok : Bool) : s.burnEnd ok = s := by rw [State.burnEnd, h]

/-- Where COMMISSION is not to end with the burn, its end is the slot used, the result logged and a PAGE that waits selected. -/
theorem State.burnEnd_some {b : Burn} (h : s.svc.burn = some b)
    (hstays : (if b.trim then (s.burnOver ok).trimBurned ok b.id b.value else (s.burnOver ok).fieldBurned ok b.id b.value).pageTurn.svc.ending = false) :
    s.burnEnd ok = (if b.trim then (s.burnOver ok).trimBurned ok b.id b.value else (s.burnOver ok).fieldBurned ok b.id b.value).pageTurn := by
  rw [State.burnEnd, h]
  exact if_neg (ne_true_of_eq_false hstays)

theorem exec_burnEnd_none (h : s.svc.burn = none) : exec (.burnEnd ok) s = .next s := congrArg Host.Outcome.next (State.burnEnd_none h ok)

/-- The service port behind the end of a field's burn but for its page. -/
theorem State.svc_fieldBurned (s : State) (ok : Bool) (sel : Nat) (value : List Byte) : ((s.burnOver ok).fieldBurned ok sel value).svc =
    { s.svc with burn := none, written := s.svc.written || ok, fieldResult := if ok then 0 else 8,
                 fields := tabSet (fun _ => []) sel (s.fieldSlots sel ++ [if ok then some value else none]) s.svc.fields } := by
  rw [State.fieldBurned, State.svc_fieldLog]
  rfl

theorem State.svc_trimBurned (s : State) (ok : Bool) (id : Nat) (value : List Byte) : ((s.burnOver ok).trimBurned ok id value).svc =
    { s.svc with burn := none, written := s.svc.written || ok, trimResult := if ok then 0 else 8,
                 trims := tabSet (fun _ => []) id (s.trimSlots id ++ [if ok then some (leVal value) else none]) s.svc.trims } := by
  rw [State.trimBurned, State.svc_trimLog]
  rfl

theorem burnEnd_field_completes {sel : Nat} {value : List Byte} (h : s.svc.burn = some ⟨false, sel, value⟩) (hstays : s.svc.ending = false) :
    Completes (.burnEnd ok) s (fun t => t.svc.fieldResult = (if ok then 0 else 8) ∧ t.svc.burn = none ∧ t.svc.written = (s.svc.written || ok) ∧
      t.fieldSlots sel = s.fieldSlots sel ++ [if ok then some value else none] ∧ t.fieldNow sel = if ok then some value else s.fieldNow sel) := by
  obtain ⟨p, d, hsvc⟩ := ((s.burnOver ok).fieldBurned ok sel value).svc_pageTurn
  rw [s.svc_fieldBurned ok sel value] at hsvc
  have hexec : exec (.burnEnd ok) s = .next ((s.burnOver ok).fieldBurned ok sel value).pageTurn :=
    congrArg Host.Outcome.next (State.burnEnd_some h (congrArg SvcSt.ending hsvc |>.trans hstays))
  have hslots : ((s.burnOver ok).fieldBurned ok sel value).pageTurn.fieldSlots sel = s.fieldSlots sel ++ [if ok then some value else none] := by
    rw [State.fieldSlots, hsvc]
    exact tabGet_tabSet_same _ _ _ _
  refine ⟨_, hexec, by rw [hsvc], by rw [hsvc], by rw [hsvc], hslots, ?_⟩
  rw [State.fieldNow, hslots, lastValid_append]
  cases ok <;> rfl

theorem burnEnd_trim_completes {id v : Nat} (h : s.svc.burn = some ⟨true, id, leBytes 4 v⟩) (hstays : s.svc.ending = false) (hv : v < 0x100000000) :
    Completes (.burnEnd ok) s (fun t => t.svc.trimResult = (if ok then 0 else 8) ∧ t.trimNow id = if ok then w32 v else s.trimNow id) := by
  obtain ⟨p, d, hsvc⟩ := ((s.burnOver ok).trimBurned ok id (leBytes 4 v)).svc_pageTurn
  rw [s.svc_trimBurned ok id (leBytes 4 v), leVal_leBytes (k := 4) hv] at hsvc
  have hexec : exec (.burnEnd ok) s = .next ((s.burnOver ok).trimBurned ok id (leBytes 4 v)).pageTurn :=
    congrArg Host.Outcome.next (State.burnEnd_some h (congrArg SvcSt.ending hsvc |>.trans hstays))
  have hslots : ((s.burnOver ok).trimBurned ok id (leBytes 4 v)).pageTurn.trimSlots id = s.trimSlots id ++ [if ok then some v else none] := by
    rw [State.trimSlots, hsvc]
    exact tabGet_tabSet_same _ _ _ _
  refine ⟨_, hexec, by rw [hsvc], ?_⟩
  rw [State.trimNow, hslots, lastValid_append]
  cases ok <;> rfl

/-! ### HEALTHY_N (R462) -/

theorem exec_svcKick_otherCore {w : Fin 9} (h : w.val ≠ 8) : exec (.svcKick w) s = .next s := congrArg Host.Outcome.next (if_neg h)

theorem exec_svcKick_vat {w : Fin 9} (h : w.val = 8) : exec (.svcKick w) s = .next (s.setSvc { s.svc with kickAt := some s.logLt }).healthySettle :=
  congrArg Host.Outcome.next (if_pos h)

/-- HEALTHY_N released. -/
def State.healthyRelease (s : State) : State :=
  { ((s.put F.SVC_STAT_HEALTHY 0).put F.SVC_EVT_RELEASE_SEEN 1).incSat F.SVC_CNT_RELEASES with svc := { s.svc with releaseAt := some s.logLt } }

/-- While a condition fails HEALTHY_N is released or stays so. -/
theorem State.healthySettle_fails (h : s.healthyMay = false) : s.healthySettle = if s.isSet F.SVC_STAT_HEALTHY then s.healthyRelease else s :=
  if_neg (ne_true_of_eq_false h)

/-- While every condition holds, HEALTHY_N that was never released is held. -/
theorem State.healthySettle_first (h : s.healthyMay = true) (hnever : s.svc.releaseAt = none) :
    s.healthySettle = if s.isSet F.SVC_STAT_HEALTHY then s else s.put F.SVC_STAT_HEALTHY 1 := by
  rw [State.healthySettle, if_pos h, hnever]
  cases s.isSet F.SVC_STAT_HEALTHY <;> rfl

theorem State.healthySettle_holds (h : s.healthyMay = true) (hnever : s.svc.releaseAt = none) : s.healthySettle.isSet F.SVC_STAT_HEALTHY = true := by
  rw [State.healthySettle_first h hnever]
  split
  next hheld => exact hheld
  next => rw [State.isSet, State.get_put_same _ _ _ (by decide)]; rfl

theorem State.healthySettle_waits {a : Nat} (h : s.healthyMay = true) (hreleased : s.svc.releaseAt = some a) (hearly : s.logLt < a + 10000000) :
    s.healthySettle = s := by
  rw [State.healthySettle, if_pos h, hreleased]
  exact if_neg (by simp [hearly])

theorem State.isSet_healthyRelease (s : State) : s.healthyRelease.isSet F.SVC_STAT_HEALTHY = false := by
  have hregs : s.healthyRelease.regs = (((s.put F.SVC_STAT_HEALTHY 0).put F.SVC_EVT_RELEASE_SEEN 1).incSat F.SVC_CNT_RELEASES).regs := rfl
  rw [State.isSet, State.get_congr hregs, State.incSat, State.get_put_other _ _ _ _ (by decide), State.get_put_other _ _ _ _ (by decide),
    State.get_put_same _ _ _ (by decide)]
  rfl

theorem State.healthySettle_released (h : s.healthyMay = false) : s.healthySettle.isSet F.SVC_STAT_HEALTHY = false := by
  rw [State.healthySettle_fails h]
  split
  next => exact s.isSet_healthyRelease
  next hlow => exact Bool.eq_false_iff.mpr hlow

theorem State.healthySettle_releaseAt (h : s.healthyMay = false) (hheld : s.isSet F.SVC_STAT_HEALTHY = true) :
    s.healthySettle.svc.releaseAt = some s.logLt := by
  rw [State.healthySettle_fails h, if_pos hheld]
  rfl

theorem State.healthyMay_noRecipe (h : s.isSet F.MOD_STATUS_RECIPE = false) : s.healthyMay = false := by simp [State.healthyMay, h]

/-- Settles O53: each clause is what GO, a burn's end, a kick or HEALTHY_N's rule does once its condition holds, or that it does nothing. -/
theorem commissioningAndHealthy : Obligations.CommissioningAndHealthy := by
  intro s w en ok sel id a value v
  exact ⟨fun hburn => ⟨State.fieldGo_burning hburn, State.trimGo_burning hburn⟩, exec_go_answers, exec_go_silent, State.fieldGo_refused, State.fieldGo_burns,
    State.checks_mode, exec_burnEnd_none, burnEnd_field_completes, burnEnd_trim_completes, rfl, rfl, exec_svcKick_otherCore, exec_svcKick_vat, rfl, rfl, rfl,
    State.healthySettle_holds, State.healthySettle_waits, State.healthySettle_released, State.healthySettle_releaseAt, State.healthyMay_noRecipe⟩

end Sys2Proof.Machine
end
